-- ==== Sys2Proof/Word.lean ====
section
/-!
DEFINITION. Words and bytes: a register word is 32 bits (spec/23_register_map.md), a memory byte is 8.
-/
namespace Sys2Proof

/-- A register word. -/
abbrev Word := BitVec 32

/-- A byte. -/
abbrev Byte := BitVec 8

/-- A serial protocol message counts its values as naturals below a bound; `wrap n v` is `v` modulo `2^n`. -/
def wrap (n v : Nat) : Nat := v % 2 ^ n

/-- The two's-complement value of an `n`-bit field. -/
def signed (n v : Nat) : Int := if v % 2 ^ n < 2 ^ (n - 1) then (v % 2 ^ n : Nat) else (v % 2 ^ n : Nat) - (2 ^ n : Nat)

/-- The `n`-bit two's-complement field that holds an integer. -/
def unsign (n : Nat) (x : Int) : Nat := (x % (2 ^ n : Nat)).toNat

/-- A class S counter of width `n` stops at all-ones (R508). -/
def satAdd (n v k : Nat) : Nat := min (v + k) (2 ^ n - 1)

end Sys2Proof
end

