-- ==== Sys2Proof/Syntax.lean ====
section
/-!
DEFINITION. The commands the device takes: one constructor per row of spec/opcode_table.json, with the operands its rule
names, and the types of those operands.
-/
namespace Sys2Proof

/-- What DRAM training found (R407): how many speed grades failed before one held, and the geometry detected. -/
structure Training where
  failed : Nat
  density : Nat
  ranks : Nat
  deriving DecidableEq, Repr


/-- A Grebrizon link (R107): a head lane, the data port or the col link. -/
inductive Link where
  | head (p : Fin 128)
  | dataPort
  | col
  deriving DecidableEq, Repr
/-- A frame received on the data port (R121, Table 06-1): how the PCS delivered it, its header and what follows. -/
structure Faong where
  error : Bool
  cls : Nat
  typ : Nat
  flags : Nat
  len : Nat
  pseq : Nat
  arg : Nat
  payload : List Byte
  pcrc : Nat
  deriving DecidableEq, Repr

/-- A digest of R138: the descriptor (`stripe` none) or a stripe with CLEN and the CRC of its END token; `lacks` states that
the partner does not hold it (R139). -/
structure Digest where
  pseq : Nat
  stripe : Option Nat
  clen : Nat
  crc : Nat
  lacks : Bool
  deriving DecidableEq, Repr

/-- What an uncorrectable burst struck (Table 17-4): a control structure, page data, the band ring or other data. -/
structure UeHit where
  addr : Nat
  cls : Nat
  region : Nat
  pseq : Nat
  stripe : Nat
  line : Nat
  deriving DecidableEq, Repr


/-- Whether the PCS delivered a message whole: not marked ERROR, its CRC and length good (R96, R253, R430). -/
structure Rx where
  error : Bool
  crcOk : Bool
  deriving DecidableEq, Repr

/-- A head's telemetry (Table 11-4), and which of the head's two ports this lane is wired to (R251). -/
structure Telem where
  rx : Rx
  portB : Bool
  temp : Nat
  vdrive : Nat
  status : Nat
  fired : Nat
  eHi : Nat
  crcErr : Nat
  missed : Nat
  lFired : Nat
  deriving DecidableEq, Repr

/-- A head's ACK (Table 11-2). -/
structure AckMsg where
  rx : Rx
  line : Nat
  crc : Nat
  epoch : Nat
  result : Nat
  free : Nat
  deriving DecidableEq, Repr

/-- A head's HELLO (Table 11-5). -/
structure Hello where
  rx : Rx
  proto : Nat
  family : Nat
  serial : Nat
  nozzles : Nat
  rows : Nat
  caps : Nat
  maxRate : Nat
  hfw : Nat
  deriving DecidableEq, Repr


/-- A field input pair that the wiring diagnosis watches: a line of an encoder (0 A, 1 B, 2 Z), a latch input, an SSI port. -/
inductive WireIn where
  | enc (n : Fin 6) (line : Fin 3)
  | latch (m : Fin 12)
  | ssi (n : Fin 2)
  deriving DecidableEq, Repr

/-- Conditions of Table 12-1. -/
inductive WireCond where
  | openWire | cmLow | cmHigh
  deriving DecidableEq, Repr

/-- What an SSI frame brought (R303): the data level before it, the start bit, the data bits as a number of LEN bits, the
repeated copy, the status bits, and the levels at HALF ticks and after the monoflop time. -/
structure SsiFrame where
  idleHigh : Bool
  start : Bool
  data : Nat
  copy : Nat
  errBits : Nat
  monoLow : Bool
  monoEnd : Bool
  deriving DecidableEq, Repr

/-- A function with a HOST mode and a fallback (Table 22-8), or a spare slot with HOST_FB (R326). -/
inductive HostFn where
  | compensation | registerControl | thermal | ptp | maintenance | calibration
  | spare (n : Fin 176)
  deriving DecidableEq, Repr
/-- What the mark finder found of mark k in a frame (R361): positions of this bar's mark and of the reference in 1/16 pixel,
and the two scores in Q15. -/
structure MarkMeas where
  x : Int
  y : Int
  xr : Int
  yr : Int
  score : Nat
  scoreRef : Nat
  deriving DecidableEq, Repr

/-- What was measured of a nozzle's dash that lies wholly inside the frame (R356): density, XERR, YERR. -/
structure DashMeas where
  nozzle : Nat
  density : Nat
  xerr : Int
  yerr : Int
  deriving DecidableEq, Repr

/-- A health-map entry (Table 14-4) as a cairn carries it. -/
structure HealthEntry where
  nozzle : Nat
  word0 : Nat
  word1 : Nat
  deriving DecidableEq, Repr

/-- A burst that the decoder corrected (R415): its address, subchannel and rank, and the device when all its wrong symbols lay
in one. -/
structure CeHit where
  addr : Nat
  sub : Fin 8
  rank : Fin 2
  dev : Option (Fin 5)
  deriving DecidableEq, Repr

/-- HEARTBEAT (Table 18-3). -/
structure Heartbeat where
  role : Nat
  epoch : Nat
  pref : Nat
  nodeId : Nat
  unfit : Nat
  ft : Nat
  cc : Nat
  line : Nat
  deriving DecidableEq, Repr

/-- A page scheduling in a journal entry (R432). -/
structure JournalSched where
  pseq : Nat
  first : Nat
  nmGen : Nat
  ctbGen : Nat
  plan : List Nat
  deriving DecidableEq, Repr

/-- The overspeed decision in a journal entry: fired, skipped, blanked, or paced with the delay past the web instant in
1/256 FT tick. -/
inductive JournalDec where
  | fired | skipped | blanked
  | paced (late : Nat)
  deriving DecidableEq, Repr

/-- A journal entry (R432): for each port 0 no frame, 1 frame, 2 LATE frame, with the frame's CRC; withdrawals that begin (true)
or end at the line, with port and cause; coast and gate blanking; and a page abort that takes effect (R515). -/
structure JournalEntry where
  line : Nat
  dec : JournalDec
  scheds : List JournalSched
  ports : List (Nat × Nat)
  withdrawals : List (Nat × Bool × Nat)
  coast : Bool
  gate : Bool
  abort : Option Bool
  deriving DecidableEq, Repr

/-- The loop state of a slot in a cairn (R330): history, applied output, SADDLE and SEQ. -/
structure CairnSlot where
  slot : Nat
  e : List Int
  y : List Int
  u : Int
  saddle : Bool
  seq : Nat
  deriving DecidableEq, Repr

/-- A cairn (R433). -/
structure Cairn where
  cc : Nat
  slots : List CairnSlot
  x : Int
  hwm : Option Nat
  fpeMode : Nat
  vel : Int
  encoder : Int
  /-- Position in microsteps, goal, HOMED of each axis. -/
  axes : List (Int × Option Int × Bool)
  /-- Running activities with their steps; whether PRINT runs. -/
  acts : List (Nat × Nat)
  print : Bool
  /-- Level, mask and owning engine of each lamp string; step of each running pattern engine. -/
  lamps : List (Nat × Nat × Option Nat)
  patterns : List (Option Nat)
  pgNext : Nat
  /-- PSEQ and state of each held page: 0 receiving, 1 held, 2 admitted, 3 scheduled, 4 closed. -/
  pages : List (Nat × Nat)
  record : Option Nat
  nmGen : Nat
  ctbGen : Nat
  insGens : List Nat
  tseqs : List Nat
  health : List HealthEntry
  usage : List (Nat × List Nat)
  epoch : Nat
  hpStates : List (Nat × Nat)
  /-- MODE fields of Table 22-8: COMP, REG, THERM, PTP, MNT, CAL and SCR (R518). -/
  modes : List Bool
  deriving DecidableEq, Repr

/-- A generation sent by the active (R434): NM (false) or CTB (true), its number, and its staged fields that are not at their
reset values, as register address and word. -/
structure GenMsg where
  ctb : Bool
  num : Nat
  words : List (Nat × Word)
  deriving DecidableEq, Repr

/-- HEALTH (Table 18-3) and the configuration CRC of R434. -/
structure HealthMsg where
  unfit : Nat
  eccDegraded : Bool
  imageGen : Nat
  colProto : Nat
  summit : Option Bool
  cfgCrc : Nat
  deriving DecidableEq, Repr
/-- What a ring frame carries after its EtherType. -/
inductive RingBody where
  /-- A register REQUEST (Table 19-1): NODE, FLAGS.BCAST, FLAGS.SYNC, HOPS, SEQ, and OPC and NW of each operation. -/
  | request (node : Nat) (bcast sync : Bool) (hops seq : Nat) (ops : List (Nat × Nat))
  /-- A RING frame: OPC, NODE, BCAST, HOPS, originator's MAC, data. -/
  | ring (opc node : Nat) (bcast : Bool) (hops origin : Nat) (data : Word)
  /-- A RESPONSE or ADVISORY of another device. -/
  | other (kind hops : Nat)
  /-- A PTP message: whether it is an event message, and its messageType. -/
  | ptp (event : Bool) (kind : Nat)
  /-- Any other EtherType. -/
  | foreign
  deriving DecidableEq, Repr

/-- A frame received on a ring port (R450, R451): FCS good and no error code group, PAUSE, length in bytes, MAC addresses. -/
structure RingFrame where
  fcsOk : Bool
  errorEnd : Bool
  pause : Bool
  len : Nat
  dst : Nat
  src : Nat
  body : RingBody
  deriving DecidableEq, Repr

/-- A PTP message received on a ring port (IEEE 1588-2019): domainNumber, sequenceId, the sender's identity, two-step flag,
correctionField in 2^-16 ns, its timestamp in ns, and the requesting port identity matches this device. -/
structure PtpMsg where
  port : Fin 2
  domain : Nat
  seqId : Nat
  source : Nat
  twoStep : Bool
  correction : Int
  time : Nat
  mine : Bool
  deriving DecidableEq, Repr

/-- An Announce: the grandmaster's dataset in the order the best master clock algorithm compares it (priority1, clockClass,
clockAccuracy, offsetScaledLogVariance, priority2, identity), and stepsRemoved. -/
structure PtpAnnounce where
  port : Fin 2
  domain : Nat
  dataset : List Nat
  steps : Nat
  source : Nat
  deriving DecidableEq, Repr
/-- A request on the island's UART (spec/20_metrology_island.md): its CRC holds, and its SEQ. -/
structure MetReq where
  crcOk : Bool
  seq : Nat
  deriving DecidableEq, Repr

/-- The commands: writes of registers, messages and edges that arrive, and the part's own timers and completions. -/
inductive Instr where
  /-- PACE_CC_UPDATE (R10). At each control cycle every pace monitor averages its stage's budget use into USED and USED_MAX and compares it with WARN_PCT and 100. -/
  | paceCcUpdate (used : List Nat)
  /-- MON_PACE_MAX_CLR (R10). A write of MAX_CLR clears USED_MAX of a pace monitor. -/
  | monPaceMaxClr (n : Fin 16)
  /-- PACE_WATCHDOG (R11). A stage with work waiting that makes no progress for 1 ms raises the pace watchdog reset source at its fused level. -/
  | paceWatchdog (n : Fin 16)
  /-- SP_WATCHDOG_RESET (R20). A service-processor watchdog expires and resets the processor; its HOST-capable duties hold their last output until it restarts. -/
  | spWatchdogReset (p : Fin 4)
  /-- FENCE_IN_ASSERT (R34). A falling TW_FENCE_IN_N drives every output of Table 02-4 to its safe level within 2 us in every state from pin commit onward. -/
  | fenceInAssert
  /-- FENCE_IN_RELEASE (R35). TW_FENCE_IN_N returns high; outputs stay at their safe levels until a function of an active twin asserts them again. -/
  | fenceInRelease
  /-- POWER_ON_RESET (R533). VDD_AON falls below its reset level, or rises and settles, raising or releasing reset source 0, which clears AON retention. -/
  | powerOnReset (rising : Bool)
  /-- RESET_N_ASSERT (R48). A low pulse of 400 ns or longer on the RESET_N input raises reset source 3. -/
  | resetNAssert (ns : Nat)
  /-- RST_CMD_LEVEL (R42). A keyed write of RST_CMD requests a reset of the named level and target, capped at the fuse level. -/
  | rstCmdLevel (value : Word)
  /-- FOOTHILL_CLR (R60). A keyed RST_CMD write with FOOTHILL_CLR clears the failed-start counter and starts an L0 reset out of Foothill mode. -/
  | foothillClr (value : Word)
  /-- JTAG_RESET (R41). TRST_N or the JTAG reset instruction raises reset source 13 at L0. -/
  | jtagReset
  /-- THERMAL_TRIP (R69). Tj above 125 C raises reset source 6, whose stretch lasts until Tj falls below 115 C. -/
  | thermalTrip (tj : Word)
  /-- TWIN_RESET_COMMAND (R41). A reset command received from the partner over the col link raises reset source 7. -/
  | twinResetCommand
  /-- RESET_STRETCH_END (R47). The reset stretch ends 20 us after the last source is released and bring-up restarts at the level's starting point. -/
  | resetStretchEnd (bootPin : Bool)
  /-- OPTION_BLOCK_READ_DONE (R73). The 64-byte option block has been read and is checked, and clock qualification starts. -/
  | optionBlockReadDone
  /-- CLOCK_QUALIFIED (R53). A domain detector counts 1,024 cycles within 0.5 % and the domain's blocks are released from reset. -/
  | clockQualified (d : Fin 9)
  /-- CLOCK_QUAL_TIMEOUT (R54). A domain not qualified 10 ms after its release request stays in reset and the start continues degraded. -/
  | clockQualTimeout (d : Fin 9)
  /-- DOMAIN_CLK_LOST (R56). A qualified clock leaves its window for 64 cycles or stops for 1 us, forcing its domain into reset with outputs safe. -/
  | domainClkLost (d : Fin 9)
  /-- IMAGE_READ_DONE (R80). The image has been read and the loader checks the slot in the order of Table 04-6. -/
  | imageReadDone
  /-- DRAM_TRAINING_DONE (R407). DRAM training completes and the page store is formatted or re-admitted. -/
  | dramTrainingDone (t : Training)
  /-- REG_WRITE (R82). A REG_WRITE configuration record writes its address-value pairs into staged or live registers. -/
  | regWrite (pairs : List (Nat × Word))
  /-- REG_RMW (R82). A REG_RMW record writes (old AND NOT mask) OR (value AND mask) into each named register. -/
  | regRmw (triples : List (Nat × Word × Word))
  /-- TABLE_LOAD (R82). A TABLE_LOAD record writes its data into a windowed table. -/
  | tableLoad (addr : Nat) (data : List Word)
  /-- THR_ARRAY (R188). A THR_ARRAY record opens, writes and closes a threshold slot in one step. -/
  | thrArray (slot : Fin 8) (width height : Nat) (cells : List (List Word))
  /-- HEAD_TABLE (R83). A HEAD_TABLE record stores waveform, trim or k(T,V) data for the masked ports. -/
  | headTable (mask : Nat) (kind : Nat) (data : List Byte)
  /-- WAIT (R82). A WAIT record polls a register for a masked value and fails the record on timeout. -/
  | wait (addr : Nat) (mask value : Word) (expired : Bool)
  /-- FUSE_PROGRAM (R79). A FUSE_PROGRAM record programs PM_KEY_HASH, RST_FUSE_MAP and SIG_REQ, sets FUSE_LOCK and reads back. -/
  | fuseProgram (hash : List Byte) (map flags : Word)
  /-- CFG_RECORD_END (R82). The END record closes record application, which ends in pin commit. -/
  | cfgRecordEnd
  /-- START_TIMEOUT (R57). RUN not reached 3 s after the stretch raises source 12 at L1 and counts a failed start. -/
  | startTimeout
  /-- FAILED_START_CLEAR (R58). After 60 s of continuous RUN the failed-start counter clears. -/
  | failedStartClear
  /-- RAIL_WARN_ENTER (R62). A rail below its warning level for 200 ns puts its monitor into the warning state. -/
  | railWarnEnter (rail : Fin 6) (mv : Nat)
  /-- RAIL_WARN_CLEAR (R66). A rail 10 mV above its warning level for 10 us leaves the warning state without reset. -/
  | railWarnClear (rail : Fin 6) (mv : Nat)
  /-- VWARN_HOLD_EXPIRY (R65). A warning lasting VWARN_HOLD on an active twin with a healthy partner requests a planned takeover. -/
  | vwarnHoldExpiry (rail : Fin 6)
  /-- RAIL_RESET_LEVEL (R67). A rail below its reset level for 50 ns triggers the reset action of Table 03-6. -/
  | railResetLevel (rail : Fin 6) (mv : Nat)
  /-- TEMP_WARN_ENTER (R69). TJ exceeding TWARN begins a temperature warning. -/
  | tempWarnEnter (tj : Word)
  /-- TEMP_WARN_END (R69). TJ falling 3 C below TWARN ends the temperature warning. -/
  | tempWarnEnd (tj : Word)
  /-- TEMP_WARN_HOLD_EXPIRY (R69). A temperature warning lasting 100 ms applies the planned-takeover rule of R65. -/
  | tempWarnHoldExpiry
  /-- MON_RAIL_TRK_CLR (R64). A write of TRK_CLR resets a rail's VMIN to 0xFFF and DUR to 0. -/
  | monRailTrkClr (rail : Fin 6)
  /-- CFG_FL_READ (R85). A keyed GO with OP 0 starts a flash read into CFG_FL_BUF. -/
  | cfgFlRead (value : Word)
  /-- CFG_FL_PROGRAM (R85). A keyed GO with OP 1 programs a flash page from the buffer, refused above 0x1000 on the loaded device outside Foothill. -/
  | cfgFlProgram (value : Word)
  /-- CFG_FL_ERASE_4K (R85). A keyed GO with OP 2 erases a 4 KiB sector, subject to the same refusal. -/
  | cfgFlErase4k (value : Word)
  /-- CFG_FL_ERASE_64K (R85). A keyed GO with OP 3 erases a 64 KiB sector, subject to the same refusal. -/
  | cfgFlErase64k (value : Word)
  /-- CFG_FL_OP_DONE (R85). A flash operation completes and BUSY clears. -/
  | cfgFlOpDone
  /-- LANE_LOCK_ACQUIRE (R93). A receiver locks after three K28.5 commas at one alignment with no invalid group between. -/
  | laneLockAcquire (n : Fin 142)
  /-- LANE_LOCK_LOSS (R93). A receiver loses lock when 4 of 16 consecutive code groups are invalid. -/
  | laneLockLoss (n : Fin 142) (cv : Nat)
  /-- TS_RECEIVE (R103). A training set is received and its STATUS taken for lane assembly and far status. -/
  | tsReceive (n : Fin 140) (status seq chk offset : Nat)
  /-- TS_COMPLETE (R103). After 16 TS sent with both ends locked and deskewed, a transmitter stops TS and sends IDL and traffic. -/
  | tsComplete (n : Fin 140)
  /-- SKP_SEND (R97). Every 1,024 symbol times a transmitter starts an SKP ordered set. -/
  | skpSend (n : Fin 140)
  /-- SKP_RECEIVE (R100). At each received SKP the elastic buffer inserts or deletes one K28.0 toward a fill of 8. -/
  | skpReceive (n : Fin 140) (k fill : Nat)
  /-- ELASTIC_BUFFER_ERROR (R101). An elastic-buffer overflow or underflow sets EB_ERR, recentres the buffer and marks any frame in progress ERROR. -/
  | elasticBufferError (n : Fin 140)
  /-- LMK_RECEIVE (R106). A received lane marker confirms or corrects the deskew alignment. -/
  | lmkReceive (n : Fin 140) (status offset : Nat)
  /-- LINK_UP (R107). Every lane locked and deskewed with far status good reports the link UP to its owning block. -/
  | linkUp (l : Link)
  /-- LINK_DOWN (R107). A lane losing lock or receiving RX_LOCK = 0 reports the link DOWN. -/
  | linkDown (l : Link)
  /-- TX_SLEEP_REQUEST (R110). A sleep request finishes the frame, sends four SLP and enters electrical idle. -/
  | txSleepRequest (n : Fin 142)
  /-- SLP_RECEIVE (R111). A received SLP sets RX_ASLEEP and reports the link DOWN with cause SLEEP. -/
  | slpReceive (n : Fin 140)
  /-- TX_WAKE_REQUEST (R112). A wake request leaves electrical idle and sends TS for 1 us, then IDL. -/
  | txWakeRequest (n : Fin 142)
  /-- WAKE_SEQUENCE_END (R112). 2 us after leaving electrical idle the transmitter starts sending traffic. -/
  | wakeSequenceEnd (n : Fin 140)
  /-- IDLE_MINIMUM_EXPIRY (R113). A deferred wake request is carried out once 0.5 us of electrical idle have passed. -/
  | idleMinimumExpiry (n : Fin 140)
  /-- RX_WAKE_TIMEOUT (R114). A sleeping receiver that detects activity but does not lock within 2 us stays asleep. -/
  | rxWakeTimeout (n : Fin 140)
  /-- LN_LOS (R114). Electrical idle detected without SLP sets LOS, counts a loss of lock and records LN_LOS. -/
  | lnLos (n : Fin 142)
  /-- LANE_TEST_MODE_SET (R116). A write of LN_CTRL.TEST enters PRBS31 or internal loopback, or leaves test through the wake sequence. -/
  | laneTestModeSet (n : Fin 142) (test : Fin 4)
  /-- PRBS_SYNC_CHANGE (R116). The PRBS31 checker synchronises on 31 error-free bits or drops sync after 64 errors in 1,024 bits. -/
  | prbsSyncChange (n : Fin 142) (sync : Bool) (errors : Nat)
  /-- LN_CNT_CLR (R119). A write of CNT_CLR clears every counter and OVF flag of the lane. -/
  | lnCntClr (n : Fin 142)
  /-- MARGIN_GO (R118). A write of LN_MARGIN.GO starts a margin dwell unless one is busy. -/
  | marginGo (n : Fin 142) (value : Word)
  /-- MARGIN_DWELL_DONE (R118). A margin dwell completes, storing the disagreement count and setting DONE. -/
  | marginDwellDone (n : Fin 142) (mismatch : Nat)
  /-- PAGE_DESC (R129). A received PAGE_DESC is checked and either enters the page sequence, starts a refetch resend, or is refused. -/
  | pageDesc (k : Faong)
  /-- STRIPE_DATA (R126). A received STRIPE_DATA chunk is stored into the page store in order. -/
  | stripeData (k : Faong)
  /-- STRIPE_END (R127). A received STRIPE_END completes a stored stripe after its length and line checks. -/
  | stripeEnd (k : Faong)
  /-- CANCEL (R545). CONTROL CANCEL removes a named unscheduled page and gives it STATUS CANCELLED. -/
  | cancel (k : Faong)
  /-- ABORT_INGEST (R147). CONTROL ABORT_INGEST requests an ingest abort as DP_CTRL.ABORT. -/
  | abortIngest (k : Faong)
  /-- SYNC (R124). CONTROL SYNC is answered at once with a CREDIT packet. -/
  | sync (k : Faong)
  /-- DP_CTRL_ABORT (R147). A write of DP_CTRL.ABORT requests an ingest abort. -/
  | dpCtrlAbort (value : Word)
  /-- INGEST_ABORT_EFFECT (R147). Within 20 us the abort discards the receiving and unadmitted pages as CANCELLED and returns their credits. -/
  | ingestAbortEffect
  /-- CREDIT (R124). A CREDIT packet is sent when the limit has advanced 64 credits or CREDIT_PERIOD has elapsed. -/
  | credit
  /-- DATA_PORT_UP (R124). The data port comes UP, credits reset to 0 and an initial limit of 2,048 is sent. -/
  | dataPortUp
  /-- DATA_PORT_DOWN (R127). The data port goes DOWN and an incomplete stripe is rewound after buffered packets are processed. -/
  | dataPortDown
  /-- STRIPE_VERIFY_DONE (R133). A verification decode of a stored stripe ends and its END check decides pass or rewind. -/
  | stripeVerifyDone (e : Fin 8)
  /-- PAGE_SCHEDULE (R135). At its writer-start moment an admitted page is scheduled, bound to its generations and placed at first line F. -/
  | pageSchedule (line : Nat)
  /-- START_DEFER_TIMEOUT (R135). A start waiting for admission longer than DEFER_MAX is placed as if admitted then and prints by the lost-page rule. -/
  | startDeferTimeout (pseq : Nat)
  /-- COMPLETION (R142). A completion record is sent once its page's lines are acknowledged or declared, its scree entries written and earlier records sent. -/
  | completion
  /-- DIGEST_RECEIVE (R139). A partner's digest is received and compared with the twin's own copy. -/
  | digestReceive (rx : Rx) (seq : Nat) (d : Digest)
  /-- FILLIN_TIMER (R140). A stripe still missing 100 us after the partner's digest is requested by fill-in. -/
  | fillinTimer (pseq stripe : Nat)
  /-- FILL_REQ (R140). A fill-in request from the partner is answered with the stripe's stored GSC-2 bytes. -/
  | fillReq (rx : Rx) (seq pseq stripe : Nat)
  /-- FILL_DATA (R140). A stripe received by fill-in is stored and passes the same admission test. -/
  | fillData (rx : Rx) (seq pseq stripe lines : Nat) (data : List Byte)
  /-- MC_UE (R417). An uncorrectable burst is recorded and handled by the region of Table 17-4. -/
  | mcUe (h : UeHit)
  /-- DECODE_ASSIGN (R164). When a stripe is needed and an engine is free, the print path assigns it to a decompressor. -/
  | decodeAssign
  /-- PRINT_DECODE_DONE (R160). A print decode of a stripe ends and its END check is made. -/
  | printDecodeDone (e : Fin 8)
  /-- CMX_JOB_START (R170). A waiting compressor job starts on the first free compressor in owner order. -/
  | cmxJobStart
  /-- CMX_JOB_DONE (R169). A compressor job finishes writing its GSC-2 streams to the output region. -/
  | cmxJobDone (m : Fin 2)
  /-- SCR_COMMIT (R184). A write of SCR_COMMIT.COMMIT creates a new CTB generation from the staged copy. -/
  | scrCommit
  /-- SCR_COMMIT_DONE (R184). The new CTB generation is written to DRAM and BUSY clears. -/
  | scrCommitDone
  /-- SCR_THR_OPEN (R187). A write of SCR_THR_CTL.OPEN opens a threshold slot unless a live generation names it. -/
  | scrThrOpen (k : Fin 8) (value : Word)
  /-- SCR_THR_CLOSE (R188). A write of SCR_THR_CTL.CLOSE starts the monotonicity check of an open slot. -/
  | scrThrClose (k : Fin 8) (value : Word)
  /-- SCR_THR_CHECK_DONE (R188). The slot check completes within 100 us and the slot becomes READY or stays OPEN. -/
  | scrThrCheckDone (k : Fin 8)
  /-- SCREEN_LINE (R171). At a line's writer-start moment screening or the raster path writes the band-ring line. -/
  | screenLine (line : Nat)
  /-- NM_COMMIT (R193). A write of NM_COMMIT.COMMIT starts a new nozzle-map generation from the staged copy. -/
  | nmCommit
  /-- NM_COMMIT_DONE (R193). The nozzle-map commit completes within 1 ms, or is refused, and BUSY clears. -/
  | nmCommitDone
  /-- FRAME_ASSEMBLE (R202). At the earliest assembly moment a port's line frame is assembled, duty-limited and sent. -/
  | frameAssemble (p : Fin 128) (line : Nat)
  /-- FETCH_DEADLINE (R211). A frame not complete at its deadline is sent blank with LATE set. -/
  | fetchDeadline (p : Fin 128) (line : Nat)
  /-- SCREE_ENTRY_CLOSE (R214). An open scree entry closes on 256 quiet frames, the page's end or its range limit and is written. -/
  | screeEntryClose (pseq kind port noz : Nat)
  /-- FF_DUTY_WEIGHT_WRITE (R207). A write of drop weights applies from the next frame, or is ignored with W_ERR if out of order. -/
  | ffDutyWeightWrite (hi : Bool) (value : Word)
  /-- FPE_LQ_UPDATE (R217). At each LQ the FPE applies encoder count changes to its tracking loops and updates X. -/
  | fpeLqUpdate
  /-- FPE_SEL_A (R220). A write of SEL_A hands the FPE over to a healthy source A. -/
  | fpeSelA (value : Word)
  /-- FPE_SEL_B (R220). A write of SEL_B hands the FPE over to a healthy source B. -/
  | fpeSelB (value : Word)
  /-- FPE_COAST_EXPIRED (R221). COAST lasting FPE_COAST_MAX blanks every undispatched frame until the FPE leaves COAST_EXPIRED. -/
  | fpeCoastExpired
  /-- STAMP_ISSUE (R227). When a line's target instant is predicted 4 us ahead, the FPE issues its fire stamp twice. -/
  | stampIssue (p : Fin 128) (line : Nat)
  /-- LINE_DECISION (R234). At each line's earliest assembly moment the bar decides fire, skip, stretch or blank by overspeed policy. -/
  | lineDecision (line : Nat)
  /-- ABS_HOLD_EXPIRY (R239). No overspeed for ABS_HOLD clears the absorb state. -/
  | absHoldExpiry
  /-- SPD_ADV_RELEASE (R240). Rate below OFF_PCT for 1 ms with no altered line releases SPD_ADV_N. -/
  | spdAdvRelease
  /-- SPEED_ADVISORY (R241). While SPD_ADV_N is low an advisory frame is sent on the ring every 1 ms. -/
  | speedAdvisory
  /-- TELEM (R274). A head telemetry message is sampled for temperature, voltage and status. -/
  | telem (p : Fin 128) (m : Telem)
  /-- HT_TELEM_LOST (R247). No telemetry for four intervals sets STALE and treats the port as in thermal hold. -/
  | htTelemLost (p : Fin 128)
  /-- HEAT (R272). A port without line frames for 16 us is sent HEAT every 16 us. -/
  | heat (p : Fin 128)
  /-- TSYNC (R258). Every 1 us a TSYNC carrying the arrival FT time is sent on each up and awake head lane. -/
  | tsync
  /-- ECHO_REQ (R261). An echo request is sent as one of a set of 16 spaced 2 us apart. -/
  | echoReq (p : Fin 128) (t0 : Nat)
  /-- ECHO_RSP (R261). An echo response is timed, and after 16 the lane delay mean is accepted or the set repeated. -/
  | echoRsp (p : Fin 128) (rx : Rx) (id hold t3 : Nat)
  /-- LDLY_RETRY (R261). 10 ms after a delay-measurement failure the port restarts bring-up at step 1. -/
  | ldlyRetry (p : Fin 128)
  /-- ECHO_PERIOD_EXPIRY (R261). Every ECHO_PERIOD the lane delay is remeasured in service. -/
  | echoPeriodExpiry (p : Fin 128)
  /-- ACK (R267). A head ACK is counted if on its own port with a matching CRC, and handled by its RESULT. -/
  | ack (p : Fin 128) (a : AckMsg)
  /-- ACK_TIMEOUT (R268). A frame without an accepting ACK within ACK_TO, or answered FULL, is resent while before its deadline. -/
  | ackTimeout (p : Fin 128) (line : Nat)
  /-- HP_LINE_LOST (R269). A frame unacknowledged when its fire instant passes is declared lost and its pages spoiled. -/
  | hpLineLost (p : Fin 128) (line : Nat)
  /-- HELLO (R279). A head's HELLO is validated, the rate limit adopted, and CONFIG and CHALLENGE sent. -/
  | hello (p : Fin 128) (h : Hello)
  /-- RESPONSE (R281). The head's RESPONSE tag is checked, making it VERIFIED or UNVERIFIED. -/
  | response (p : Fin 128) (rx : Rx) (serial family : Nat) (tag : List Byte)
  /-- USAGE (R283). The head's usage counts are adopted if their tag verifies. -/
  | usage (p : Fin 128) (rx : Rx) (seq : Nat) (counts : List Nat) (tag : List Byte)
  /-- MACK (R275). A management acknowledgement ends the outstanding request and lets the next one be sent. -/
  | mack (p : Fin 128) (rx : Rx) (op status : Nat)
  /-- MGMT_TIMEOUT (R275). A request unanswered within 100 us is resent up to 3 times. -/
  | mgmtTimeout (p : Fin 128)
  /-- HEAD_SLEEP_TIMER (R286). A READY port not due and heater-idle for 10 ms with SLEEP_EN requests downstream sleep. -/
  | headSleepTimer (p : Fin 128)
  /-- ENCODER_EDGE (R289). A change of the filtered quadrature state counts the encoder by one step. -/
  | encoderEdge (n : Fin 6) (a b z : Bool)
  /-- ENC_CFG_ARM (R293). A write of ARM sets ARMED for one index reload. -/
  | encCfgArm (n : Fin 6) (value : Word)
  /-- ENC_CFG_UNC_CLR (R295). A write of UNC_CLR clears the encoder's uncertainty. -/
  | encCfgUncClr (n : Fin 6) (value : Word)
  /-- WIRE_CONDITION_CHANGE (R296). A wiring condition that has held or cleared for 100 us changes its flag. -/
  | wireConditionChange (w : WireIn) (c : WireCond) (live : Bool)
  /-- ENC_HEALTHY (R295). An encoder free of faults for 1 ms is declared healthy again. -/
  | encHealthy (n : Fin 6)
  /-- STUCK_INPUT (R297). A probe or top-of-form input non-idle longer than ACT_MAX shows REVERSED or STUCK. -/
  | stuckInput (m : Fin 12) (live : Bool)
  /-- ENC_STILL (R299). No encoder edge for STILL_TIME reports speed 0 with STILL. -/
  | encStill (n : Fin 6)
  /-- LATCH_EDGE (R300). A selected probe or top-of-form edge latches FT time and positions into the input's queue. -/
  | latchEdge (m : Fin 12) (falling : Bool)
  /-- PRB_POP (R301). A write of POP removes the oldest latch record. -/
  | prbPop (m : Fin 12) (value : Word)
  /-- SSI_GO (R303). A write of SSI_TRIG.GO starts an SSI frame. -/
  | ssiGo (n : Fin 2) (value : Word)
  /-- SSI_PERIOD_TRIGGER (R303). Every PERIOD_LQ loop quanta an SSI frame starts unless one is in progress. -/
  | ssiPeriodTrigger (n : Fin 2)
  /-- SSI_FRAME_DONE (R304). An SSI frame ends and its checks update SSI_DATA or flag an error. -/
  | ssiFrameDone (n : Fin 2) (f : SsiFrame)
  /-- LOOP_SAMPLE (R310). At a due LQ boundary a slot evaluates its error, law, clamps, slew and sink. -/
  | loopSample (n : Fin 176) (late : Bool) (adc : Nat)
  /-- LE_SCHED_WRITE (R307). A write of PERIOD or PHASE is accepted or refused by the worst-LQ load check. -/
  | leSchedWrite (n : Fin 176) (value : Word)
  /-- LE_CFG_SWAP (R321). A write of SWAP makes the staged coefficient set active at the next sample. -/
  | leCfgSwap (n : Fin 176) (value : Word)
  /-- LE_CFG_ABORT (R328). A write of ABORT forces the slot to a zero demand at its next sample. -/
  | leCfgAbort (n : Fin 176) (value : Word)
  /-- LE_MODE_WRITE (R316). A write of a slot's MODE requests a Saddle hand-over at the next sample. -/
  | leModeWrite (n : Fin 176) (value : Word)
  /-- LE_ENABLE (R316). Enabling a slot starts it by Saddle from the sink's present value. -/
  | leEnable (n : Fin 176) (value : Word)
  /-- LE_HOST_SEQ (R324). A write of LE_HOST_SEQ naming the latest SEQ commits the host value. -/
  | leHostSeq (n : Fin 176) (value : Word)
  /-- LE_LIMIT_WRITE (R313). A limit write making OMIN exceed OMAX is ignored with LIM_ERR. -/
  | leLimitWrite (n : Fin 176) (hi : Bool) (value : Word)
  /-- HOST_SILENCE_EXPIRY (R516). A HOST-mode function with fallback silent for HOST_SILENCE returns to HW. -/
  | hostSilenceExpiry (f : HostFn)
  /-- TRC_ARM (R331). A write of ARM clears and arms a trace buffer. -/
  | trcArm (b : Fin 4) (value : Word)
  /-- TRC_FORCE (R331). A write of FORCE triggers a trace buffer manually. -/
  | trcForce (b : Fin 4) (value : Word)
  /-- TRC_DUMP_GO (R332). A write of GO on a FULL or IDLE buffer queues a level-3 Trace compressor job. -/
  | trcDumpGo (b : Fin 4) (value : Word)
  /-- KNOWN_ANSWER_TEST (R439). Every 10 s the standby tests every loop slot against ROM vectors. -/
  | knownAnswerTest (pass : Bool)
  /-- CAM_TRIG_GO (R336). A write of CAM_TRIG.GO issues a camera trigger. -/
  | camTrigGo (n : Fin 4) (value : Word)
  /-- CAM_TRAILER_TRIGGER (R336). X reaching a page trailer plus CAM_DIST issues a camera trigger. -/
  | camTrailerTrigger (n : Fin 4)
  /-- CAM_PERIODIC_TRIGGER (R336). Every PERIOD_LQ loop quanta a camera trigger is issued. -/
  | camPeriodicTrigger (n : Fin 4)
  /-- CAM_FRAME_START (R338). A frame beginning at VS is assigned its context's oldest outstanding trigger or discarded. -/
  | camFrameStart (n : Fin 4)
  /-- CAM_FRAME_END (R340). A frame ends at VS and is flagged by its size before entering the pipeline. -/
  | camFrameEnd (n : Fin 4) (rows : List (List Nat))
  /-- CAM_FRAME_TIMEOUT (R338). A trigger outstanding for CAM_FRAME_TO closes as MISSING. -/
  | camFrameTimeout (c : Fin 8)
  /-- CAM_SEL_GAP_EXPIRY (R335). SEL_GAP after camera A's frame, CAMn_SEL goes high to read camera B. -/
  | camSelGapExpiry (n : Fin 4)
  /-- CAM_TRIG_ABORT (R341). A write of ABORT stops triggering and closes outstanding triggers as ABORTED. -/
  | camTrigAbort (n : Fin 4) (value : Word)
  /-- CAM_ABORT_TIMEOUT (R341). A frame in progress not ended 10 us after an abort is closed as ABORTED. -/
  | camAbortTimeout (n : Fin 4)
  /-- ISP_COMMIT (R345). A write of ISP_COMMIT creates a settings generation bound from TSEQ TARGET. -/
  | ispCommit (c : Fin 8) (value : Word)
  /-- RESULT_RECORD (R348). Analysis of a frame or a closed trigger ends and its result record is written to the ring. -/
  | resultRecord (c : Fin 8) (marks : List (Option MarkMeas)) (dashes : List DashMeas)
  /-- HEALTH_MAP_UPDATE (R357). At the end of each strip every nozzle's health entry is updated from its result. -/
  | healthMapUpdate
  /-- HM_CLR (R360). A write of HM_CLR resets every health entry to OK between strips. -/
  | hmClr (value : Word)
  /-- INS_CAP_GO (R364). A write of INS_CAP.GO captures a frame and queues a level-2 Inspection compressor job. -/
  | insCapGo (value : Word)
  /-- LAMP_PWM_PERIOD (R368). At each 2.5 us PWM period a CONT string's on-time is set from its loop slot. -/
  | lampPwmPeriod
  /-- SEG_CHAIN_SHIFT (R369). A new bypass-chain image is shifted out and the returned bits compared. -/
  | segChainShift (readback : Nat)
  /-- SEG_LATCH (R369). At the first PWM boundary after a shift the chain image is latched. -/
  | segLatch (before after : List Nat)
  /-- LAMP_DIAG_CHECK (R372). An on-time measurement window checks a string for open or short. -/
  | lampDiagCheck (n : Fin 16) (isense vsense : Nat)
  /-- LAMP_PROBE (R375). In a qualifying off-time the probe sinks 1 mA to detect an open string. -/
  | lampProbe (n : Fin 16) (mv : Nat)
  /-- LMP_DIAG_STALE (R376). No completed check for 100 ms sets STALE and is recorded. -/
  | lmpDiagStale (n : Fin 16)
  /-- LMP_CTRL_CLR (R377). A write of CLR releases a faulted string to its demand. -/
  | lmpCtrlClr (n : Fin 16) (value : Word)
  /-- LAMP_TEMP_COMP (R378). Every 1 ms the NTC is read and the string's gain interpolated. -/
  | lampTempComp (ntc : List Nat)
  /-- PAT_RUN (R379). A write of RUN starts a pattern engine on its CONT strings, or is refused. -/
  | patRun (e : Fin 8) (value : Word)
  /-- PAT_STOP (R379). A write of STOP halts a pattern engine at once. -/
  | patStop (e : Fin 8) (value : Word)
  /-- PATTERN_TIMER (R380). A pattern step's time, interval or distance is reached and the engine advances. -/
  | patternTimer (e : Fin 8)
  /-- AXIS_LQ_UPDATE (R387). At each LQ an axis profile re-evaluates velocity toward its goal per Table 16-1. -/
  | axisLqUpdate (n : Fin 8)
  /-- AX_TGT_COMMIT (R385). A write of AX_TGT_HI commits a target that becomes the goal at the next LQ. -/
  | axTgtCommit (n : Fin 8) (value : Word)
  /-- AXIS_ENABLE (R384). Enabling an axis drives its enable low and run current, with first step after 1 ms. -/
  | axisEnable (n : Fin 8) (value : Word)
  /-- AXIS_HOLD_TIMER (R384). An axis standing still for HOLD_DELAY drops to hold current. -/
  | axisHoldTimer (n : Fin 8)
  /-- AX_CMD_STOP (R394). A write of STOP brakes the axis at DEC to IDLE. -/
  | axCmdStop (n : Fin 8) (value : Word)
  /-- AX_CMD_ABORT (R393). A write of ABORT brakes the axis at DEC_EMERG. -/
  | axCmdAbort (n : Fin 8) (value : Word)
  /-- AX_CMD_HOME (R396). A write of HOME runs the selected homing sequence. -/
  | axCmdHome (n : Fin 8) (value : Word)
  /-- AX_CMD_CLR (R392). A write of CLR clears SAFE_STOP or DRV_FAULT once the cause is gone. -/
  | axCmdClr (n : Fin 8) (value : Word) (safeN : List Bool) (fltN : Bool)
  /-- SAFE_INPUT_ASSERT (R394). A masked SAFE_IN_N going low brakes the axis at DEC_EMERG into SAFE_STOP. -/
  | safeInputAssert (k : Fin 4)
  /-- DRIVER_FAULT (R392). AXn_FLT_N low stops steps, sets DRV_FAULT and takes outputs safe. -/
  | driverFault (n : Fin 8)
  /-- AX_LIMIT (R391). A limit actuated in the direction of travel stops the axis and sets HARD_LIMIT. -/
  | axLimit (n : Fin 8) (positive : Bool)
  /-- LIMIT_RELEASE (R391). A limit input reading high again clears HARD_LIMIT. -/
  | limitRelease (n : Fin 8) (positive : Bool)
  /-- HOME_EDGE (R396). A reference edge during homing latches AX_POS for the approach or return pass. -/
  | homeEdge (n : Fin 8) (active : Bool)
  /-- MNT_START (R399). An MNT_CMD start runs an activity unless it conflicts or fails ownership. -/
  | mntStart (value : Word)
  /-- MNT_STOP (R402). An MNT_CMD stop ends the activity after its present step. -/
  | mntStop (value : Word)
  /-- MNT_ABORT (R402). An MNT_CMD abort starts the activity's abort sequence at once. -/
  | mntAbort (value : Word)
  /-- ACTIVITY_STEP (R401). After the previous step completes, the activity executes its next step. -/
  | activityStep (a : Fin 16)
  /-- MNT_ABORT_TIMEOUT (R402). An abort not complete in ABORT_BOUND aborts every owned axis and ends the activity. -/
  | mntAbortTimeout (a : Fin 16)
  /-- MNT_HOST_TIMEOUT (R403). A step not released within HOST_TO is a missed deadline and the activity holds. -/
  | mntHostTimeout
  /-- MNT_HGO (R403). A write of MNT_HGO with the posted SEQ releases the held step. -/
  | mntHgo (value : Word)
  /-- PRINT_GATE_CHANGE (R404). The print gate opens or closes; while closed every undispatched frame is blanked. -/
  | printGateChange
  /-- WRITE_DRAIN (R410). A write queue at 48 entries or with an aged write starts a drain. -/
  | writeDrain (sub : Fin 8) (urgent : Nat)
  /-- REFRESH (R413). At each tREFI an all-bank refresh is issued. -/
  | refresh (sub : Fin 8) (urgent hot : Bool)
  /-- MC_CE (R415). A corrected burst is delivered, written back and attributed. -/
  | mcCe (h : CeHit)
  /-- MC_SPARE_MARK (R416). A write of MC_SPARE.MARK erases the named device. -/
  | mcSpareMark (sub : Fin 8) (value : Word)
  /-- PATROL_SCRUB (R418). Patrol scrub reads the next burst at its even rate. -/
  | patrolScrub
  /-- ROW_ACTIVATE (R419). An activate updates the bank's activate-count table. -/
  | rowActivate (bank : Fin 512) (row : Nat) (cls : Fin 8) (rfm : Bool)
  /-- HAMMER_WINDOW_END (R419). At each 32 ms window boundary every activate count clears. -/
  | hammerWindowEnd
  /-- SELF_REFRESH_ENTRY (R422). In PARK, queues empty for SR_IDLE put DRAM into self-refresh. -/
  | selfRefreshEntry
  /-- SELF_REFRESH_EXIT (R422). A request in self-refresh exits it within 1 ms. -/
  | selfRefreshExit
  /-- ZQ_CALIBRATION (R423). Every ZQ_PERIOD ZQ calibration runs on each rank. -/
  | zqCalibration (rank : Fin 2)
  /-- DQS_OSC_CHECK (R423). Every OSC_PERIOD the DQS oscillator runs and write delay is corrected. -/
  | dqsOscCheck (rank : Fin 2) (drift : Int)
  /-- MC_RETRAIN (R424). A write of RETRAIN starts a full retrain, or is refused. -/
  | mcRetrain (value : Word)
  /-- RETRAIN_DONE (R424). A retrain completes and the standby rejoins shadow operation. -/
  | retrainDone
  /-- HEARTBEAT_SEND (R430). Every 4.0 us a twin sends HEARTBEAT. -/
  | heartbeatSend
  /-- HEARTBEAT (R426). A partner HEARTBEAT is received and supervision restarted. -/
  | heartbeat (rx : Rx) (seq : Nat) (h : Heartbeat)
  /-- PARTNER_WAIT_EXPIRY (R427). No valid HEARTBEAT for PARTNER_WAIT makes a fit twin take ACTIVE alone. -/
  | partnerWaitExpiry (fenceLow : Bool)
  /-- HEARTBEAT_MISS (R440). A heartbeat not arriving within GRACE counts a miss; MISS_N misses trigger takeover. -/
  | heartbeatMiss
  /-- SOLO_WAIT_EXPIRY (R447). After SOLO_WAIT unfenced, the active fences its partner and sends records alone. -/
  | soloWaitExpiry
  /-- FAULT (R440). A received FAULT message starts a takeover by the standby. -/
  | fault (rx : Rx) (seq level source : Nat)
  /-- FAULT_HOLD_EXPIRY (R444). A reporting twin resets its functions when fenced or 20 us after FAULT. -/
  | faultHoldExpiry
  /-- TW_CMD_PLAN (R445). A keyed write of TW_CMD.PLAN requests a planned takeover. -/
  | twCmdPlan (value : Word)
  /-- PLAN_WAIT_END (R445). When axes stand still and any page boundary is reached, the active stops traffic and sends ROLE HANDOVER. -/
  | planWaitEnd
  /-- HANDOVER (R445). A received ROLE HANDOVER makes the standby take over stamping after the lines named. -/
  | handover (rx : Rx) (seq th : Nat) (lines : List Nat)
  /-- TW_PLAN_FAIL (R445). Without takeover within 5 us the active resumes and records the failure. -/
  | twPlanFail
  /-- OFFER (R426). A ROLE OFFER is received during role negotiation. -/
  | offer (rx : Rx) (seq role : Nat)
  /-- RESIGN (R426). A ROLE RESIGN is received with its reason. -/
  | resign (rx : Rx) (seq reason : Nat)
  /-- JOURNAL (R432). The standby applies a JOURNAL entry and builds its shadow frames for that line. -/
  | journal (rx : Rx) (seq : Nat) (j : JournalEntry)
  /-- CAIRN_TAKE (R433). At each CC boundary the active takes and sends a cairn. -/
  | cairnTake
  /-- CAIRN (R433). A cairn part is received and held for application. -/
  | cairn (rx : Rx) (seq : Nat) (c : Cairn)
  /-- CAIRN_APPLY (R330). At its next CC boundary the standby applies the cairn and sends CAIRN_ACK. -/
  | cairnApply
  /-- CAIRN_ACK (R143). A cairn acknowledgement releases the completion records it carried. -/
  | cairnAck (rx : Rx) (seq cc : Nat)
  /-- GEN (R434). A committed generation is received and acknowledged by the standby. -/
  | gen (rx : Rx) (seq : Nat) (g : GenMsg)
  /-- HEALTH_SEND (R430). Every 1 ms and on change a twin sends HEALTH. -/
  | healthSend
  /-- HEALTH (R434). A partner HEALTH is received and its configuration CRC compared. -/
  | health (rx : Rx) (seq : Nat) (h : HealthMsg)
  /-- SUMMIT (R438). A SUMMIT request starts the known-answer pipeline test within 1 ms. -/
  | summit (rx : Rx) (seq : Nat)
  /-- SUMMIT_TEST_DONE (R438). The Summit test completes and its result is sent. -/
  | summitTestDone (pass : Bool)
  /-- SUMMIT_RESULT (R438). Both Summit results decide divergence, unfitness or takeover. -/
  | summitResult (rx : Rx) (seq : Nat) (pass : Bool)
  /-- LINE_FILL (R436). A rejoining standby receives compressed band-ring lines. -/
  | lineFill (rx : Rx) (seq : Nat) (lines : List (Nat × Nat × Nat × List (Nat × Nat))) (last : Bool)
  /-- RING_PORT_DOWN (R454). A ring port down for 10 us sends RING LINK_DOWN out of the other port. -/
  | ringPortDown (port : Fin 2)
  /-- RING_PORT_UP (R455). A ring port comes up, BLOCKED if HEAL is set. -/
  | ringPortUp (port : Fin 2)
  /-- FRAME_FORWARD (R451). A ring frame is forwarded, delivered locally or consumed by R451. -/
  | frameForward (port : Fin 2) (f : RingFrame)
  /-- REG_OP_READ (R460). A READ operation returns NW words from ascending addresses. -/
  | regOpRead (nw addr : Nat)
  /-- REG_OP_WRITE (R459). A WRITE operation writes NW words in class 10 order. -/
  | regOpWrite (addr : Nat) (data : List Word)
  /-- REG_OP_RMW (R459). An RMW operation writes (old AND NOT MASK) OR (VALUE AND MASK) and returns old. -/
  | regOpRmw (addr : Nat) (mask value : Word)
  /-- RING_LINK_DOWN (R455). A RING LINK_DOWN frame clears BLOCK and opens the ring. -/
  | ringLinkDown (port : Fin 2) (origin hops : Nat)
  /-- RING_RESET (R463). A RING RESET frame with key raises reset source 9. -/
  | ringReset (port : Fin 2) (node : Nat) (bcast : Bool) (hops : Nat) (data : Word)
  /-- PTP_SYNC (R469). A received Sync is timestamped and the servo acts. -/
  | ptpSync (m : PtpMsg)
  /-- PTP_FOLLOW_UP (R469). A Follow_Up supplies the precise origin time. -/
  | ptpFollowUp (m : PtpMsg)
  /-- PTP_DELAY_REQ (R465). A Delay_Req is handled as master or transparent clock. -/
  | ptpDelayReq (m : PtpMsg)
  /-- PTP_DELAY_RESP (R469). A Delay_Resp completes an E2E path-delay measurement. -/
  | ptpDelayResp (m : PtpMsg)
  /-- PTP_PDELAY_REQ (R466). A Pdelay_Req is answered one-step on the port. -/
  | ptpPdelayReq (m : PtpMsg)
  /-- PTP_PDELAY_RESP (R469). A Pdelay_Resp contributes to peer link delay. -/
  | ptpPdelayResp (m : PtpMsg)
  /-- PTP_PDELAY_RESP_FOLLOW_UP (R469). A Pdelay_Resp_Follow_Up completes the peer delay. -/
  | ptpPdelayRespFollowUp (m : PtpMsg)
  /-- PTP_ANNOUNCE (R465). An Announce feeds the best master clock algorithm. -/
  | ptpAnnounce (m : PtpAnnounce)
  /-- PTP_ANNOUNCE_TIMEOUT (R470). Announce receipt timeout puts the clock into HOLDOVER. -/
  | ptpAnnounceTimeout
  /-- PTP_SYNC_TIMEOUT (R470). No Sync for 4 intervals puts the clock into HOLDOVER. -/
  | ptpSyncTimeout
  /-- PTP_SYNC_SEND (R466). As master the device sends one-step Sync at its interval. -/
  | ptpSyncSend
  /-- PTP_INC_INT (R468). A write of PTP_INC_INT commits the clock increment. -/
  | ptpIncInt (value : Word)
  /-- PTP_ADJ (R468). A write of PTP_ADJ steps PTP time. -/
  | ptpAdj (value : Word)
  /-- PTP_SET (R468). A write of PTP_SET_NS loads absolute PTP time. -/
  | ptpSet (value : Word)
  /-- PTP_HOST_SEQ (R469). A write of PTP_HOST_SEQ commits the host increment. -/
  | ptpHostSeq (value : Word)
  /-- TL_ARM (R471). A write of ARM arms a timed-launch entry or marks it LATE. -/
  | tlArm (t : Fin 16) (value : Word)
  /-- TL_CANCEL (R471). A write of CANCEL returns an armed entry to IDLE. -/
  | tlCancel (t : Fin 16) (value : Word)
  /-- TIMED_LAUNCH (R471). At its launch time an armed frame is sent and its departure latched. -/
  | timedLaunch (t : Fin 16)
  /-- CROSS_STAMP (R473). Every 1 ms of FT time PTP time is captured into PTP_XS. -/
  | crossStamp
  /-- TALLY_SEND (R478). Every millisecond the main die sends a tally frame to the island. -/
  | tallySend
  /-- MET_ENCODER_EDGE (R481). An island encoder edge accrues to COUNTS above the high-water position, else REV_COUNTS. -/
  | metEncoderEdge (a b : Bool)
  /-- TALLY_FRAME (R478). A tally frame is decoded into the informative fields of the open job. -/
  | tallyFrame (seq jobId : Nat) (drops : List Nat) (um : Nat)
  /-- MIRROR_UPDATE (R479). Every 1 ms the island writes its read-only mirror. -/
  | mirrorUpdate
  /-- DIVERGENCE_CHECK (R487). Every 1 ms LENGTH_UM is compared with MAIN_UM and DIVERGED set if beyond tolerance. -/
  | divergenceCheck
  /-- FRAM_COMMIT (R484). Every 10 ms the island commits its counters to FRAM. -/
  | framCommit
  /-- MET_POWER_DOWN (R484). VDD_MET below 3.0 V commits counters and closes an open job with POWER_LOSS. -/
  | metPowerDown
  /-- MET_POWER_UP (R476). Release of the island POR restarts the island and writes POWER_UP. -/
  | metPowerUp (romOk : Bool)
  /-- MET_WATCHDOG_RESET (R476). The island watchdog resets the island, logged as power events. -/
  | metWatchdogReset (romOk : Bool)
  /-- SEAL_CHANGE (R477). A seal state change persisting 10 ms is written to the audit trail. -/
  | sealChange (isOpen : Bool)
  /-- IDENT (R492). IDENT returns name, version and ROM checksum. -/
  | ident (r : MetReq)
  /-- TOTALS (R491). TOTALS returns lifetime totals, event counter, RTC and status. -/
  | totals (r : MetReq)
  /-- READ_JOB (R491). READ_JOB returns a job record. -/
  | readJob (r : MetReq) (recNo : Nat)
  /-- READ_AUDIT (R491). READ_AUDIT returns an audit entry. -/
  | readAudit (r : MetReq) (event : Nat)
  /-- ACK_JOBS (R486). ACK_JOBS frees job records up to the highest read. -/
  | ackJobs (r : MetReq) (recNo : Nat)
  /-- ACK_AUDIT (R490). ACK_AUDIT frees audit entries up to the highest read. -/
  | ackAudit (r : MetReq) (event : Nat)
  /-- JOB_START (R485). JOB_START closes any open job and opens a record, or answers UNMETERED. -/
  | jobStart (r : MetReq) (jobId : Nat)
  /-- JOB_END (R485). JOB_END closes the open job or answers NO_JOB. -/
  | jobEnd (r : MetReq)
  /-- SET_PARAM (R488). SET_PARAM changes a sealed parameter only with the seal open. -/
  | setParam (r : MetReq) (id value : Nat)
  /-- SET_RTC (R488). SET_RTC sets the island clock only with the seal open. -/
  | setRtc (r : MetReq) (time : Nat)
  /-- RESET_MAIN (R488). RESET_MAIN raises reset source 15 only with the seal open. -/
  | resetMain (r : MetReq) (code : Nat)
  /-- CAL_LEN (R499). CAL_LEN sets SCALE_PM from two agreeing runs with the seal open. -/
  | calLen (r : MetReq) (d c1 c2 tol : Nat)
  /-- MET_STATUS_CHANGE (R493). The main die records MET events on a change of mirror status or loss of ALIVE. -/
  | metStatusChange
  /-- CAL_START (R494). CAL_CMD START begins a calibration run or is refused. -/
  | calStart (value : Word)
  /-- CAL_MEASURE_END (R494). A calibration measurement ends by its kind's condition. -/
  | calMeasureEnd (m : List Nat)
  /-- CAL_ENTER (R495). CAL_CMD ENTER takes the reference, forms the run result and after run 2 checks agreement. -/
  | calEnter (value : Word)
  /-- CAL_CANCEL (R496). CAL_CMD CANCEL abandons the run. -/
  | calCancel (value : Word)
  /-- CAL_HRES (R497). A write of CAL_HRES commits the host run result. -/
  | calHres (value : Word)
  /-- CAL_HOST_MISS (R497). No host result within 1 s abandons the run. -/
  | calHostMiss
  /-- EVENT_RELEASE (R503). 16 ET after a tick its records are released to the event ring. -/
  | eventRelease (et : Nat)
  /-- PG_ABORT (R515). A keyed write of PG_ABORT.GO aborts scheduled pages, optionally cancelling held ones. -/
  | pgAbort (value : Word)
  /-- RST_PARK_REQ (R520). A keyed write of REQ enters PARK or is refused. -/
  | rstParkReq (value : Word)
  /-- RST_PARK_RUN (R520). A keyed write of RUN returns to RUN. -/
  | rstParkRun (value : Word)
  /-- HOST_MISS (R517). No NM_COMMIT within HOST_SILENCE of a HM_CHANGE records HOST_MISS. -/
  | hostMiss
  /-- REGISTER_WRITE (R525). A write to a register with no row of its own updates its fields by access type. -/
  | registerWrite (addr : Nat) (value : Word)
  /-- PRINT_PATH_RESUME (R512). Up to 20 ms after an L2 reset's stretch ends, the print path resumes: pages open at the reset close ABORTED when no partner prints, withdrawals are re-established, loop slots restart by Saddle and interrupted decodes restart. -/
  | printPathResume
  /-- SP_RESTART (R20). A service processor reset by its watchdog completes its restart and takes up its duties again, ending the held-output behaviour of R20. -/
  | spRestart (p : Fin 4)
  /-- HEAD_PARAM_REPLY (R401). A head's upstream PARAM management frame answering a PARAM request is received and ends the outstanding request of a HEAD_CMD step. -/
  | headParamReply (p : Fin 128) (rx : Rx) (data : List Byte)
  /-- CAIRN_STALE (R440). A standby that has applied no cairn for 2 CC sets UNFIT.CAIRN_STALE, which bars a takeover other than by TAKEOVER_HB. -/
  | cairnStale
  deriving DecidableEq, Repr

end Sys2Proof
end

