-- ==== Sys2Proof/Machine/Crc.lean ====
section
/-!
DEFINITION. Check sequences: CRC-32C (spec/06_page_ingest.md R121 and every protocol of the device), CRC-8 of the short
messages, and little-endian packing of bytes (spec/00_scope.md, Byte order).
-/
namespace Sys2Proof.Machine

/-- One bit of the reflected CRC-32C register (polynomial 0x1EDC6F41, reflected 0x82F63B78). -/
def crc32cBit (c : Nat) : Nat :=
  if c % 2 = 1 then (c / 2) ^^^ 0x82F63B78 else c / 2

def crc32cByte (c : Nat) (b : Byte) : Nat :=
  let x := c ^^^ b.toNat
  crc32cBit (crc32cBit (crc32cBit (crc32cBit (crc32cBit (crc32cBit (crc32cBit (crc32cBit x)))))))

/-- CRC-32C of a byte string: register preset to all ones, result inverted. -/
def crc32c (bs : List Byte) : Nat := (bs.foldl crc32cByte 0xFFFFFFFF) ^^^ 0xFFFFFFFF

/-- The value of a little-endian byte string. -/
def leVal : List Byte → Nat
  | [] => 0
  | b :: bs => b.toNat + 256 * leVal bs

/-- `n` bytes of a value, little-endian. -/
def leBytes : Nat → Nat → List Byte
  | 0, _ => []
  | n + 1, v => BitVec.ofNat 8 v :: leBytes n (v / 256)

/-- `len` bytes of a byte string from offset `off`; bytes past its end read as 0. -/
def slice (bs : List Byte) (off len : Nat) : List Byte :=
  let x := (bs.drop off).take len
  x ++ List.replicate (len - x.length) 0

/-- The little-endian field of `len` bytes at offset `off`. -/
def leField (bs : List Byte) (off len : Nat) : Nat := leVal (slice bs off len)

end Sys2Proof.Machine
end

