-- ==== Sys2Proof/Config.lean ====
section
/-!
DEFINITION. What an implementation fixes and what the spec leaves open: opaque constants, so that no proof can see a
value. Each is named in notes/assumptions.
-/
namespace Sys2Proof.Config

/-- The number of an event code within its block (bits 52:40 of a record, Table 22-2); no table of numbers is given. -/
opaque eventCodeNumber : Nat → Nat

/-- A value the spec leaves open at the moment numbered by the state's counter `freeCtr`. -/
opaque free : Nat → Nat

/-- The 64-bit die serial number (spec/23_register_map.md, SYS_UID). -/
opaque dieUid : Nat

/-- Whether an Ed25519 signature verifies: public key, message, signature (RFC 8032, R76, R77). The
RFC leaves it open whether the group equation is checked with its cofactor, so the verdict is not computed here. -/
opaque ed25519 : List Byte → List Byte → List Byte → Bool

/-- The hash of the Grebrizon key held in ROM (R76). -/
opaque romKeyHash : List Byte

/-- The family key of a head family (R281). -/
opaque familyKey : Nat → List Byte

/-- The GSC-2 stream a compressor writes for one stripe, ending in END: level, line length, stripe (R168 says that it is always
the same, and does not say which stream it is). -/
opaque cmxStream : Nat → Nat → List Byte → List Byte

/-- PU per count, U16.32, of the cross-check sources C (2) and D (3); R222 speaks of their scales and no register holds them. -/
opaque xchkScale : Nat → Nat

/-- The CRC-32C of all RW and RWS configuration fields (R434), from the fields that are not at their reset values by key and value;
the rule does not say in which order or packing the fields enter it. -/
opaque cfgCrc : List (Nat × Nat) → Nat

/-- clockAccuracy and offsetScaledLogVariance of this clock in its dataset (R465); no register and no rule gives them. -/
opaque ptpAccuracy : Nat
opaque ptpVariance : Nat

/-- The 40-bit physical bases of the event ring, the band ring, the scree ring and the result ring (0 to 3), which the device places
itself; no rule says where. -/
opaque ringBase : Nat → Nat

end Sys2Proof.Config
end

