-- ==== Sys2Proof/Machine/RegMap.lean ====
section
/-!
DEFINITION. The register map (spec/23_register_map.md and the register descriptions of every chapter): every register of
the device, its address, its fields, their access types (Table 23-2) and their reset values.
-/
namespace Sys2Proof.Machine

/-- Access types of Table 23-2 (a reserved field is no field of this map: it reads 0 and ignores writes, R524, R527). -/
inductive Acc where
  | ro | rw | rws | w1c | wo
  deriving DecidableEq, Repr

/-- Every register, or array of registers, of the map. The docstring gives the spec's name and its file in spec/. -/
inductive Reg where
  /-- SYS_ID: spec/23. -/
  | sysId
  /-- SYS_STEP: spec/23. -/
  | sysStep
  /-- SYS_NODE: spec/23. -/
  | sysNode
  /-- SYS_UID_LO: spec/23. -/
  | sysUidLo
  /-- SYS_UID_HI: spec/23. -/
  | sysUidHi
  /-- SYS_SCRATCH: spec/23. -/
  | sysScratch
  /-- RST_STATUS: spec/03. -/
  | rstStatus
  /-- RST_FUSE_MAP: spec/03. -/
  | rstFuseMap
  /-- RST_START: spec/03. -/
  | rstStart
  /-- RST_CMD: spec/03. -/
  | rstCmd
  /-- RST_PARK: spec/22. -/
  | rstPark
  /-- RST_HIST: spec/03. -/
  | rstHist
  /-- CFG_STATUS: spec/04. -/
  | cfgStatus
  /-- CFG_GEN_LO: spec/04. -/
  | cfgGenLo
  /-- CFG_GEN_HI: spec/04. -/
  | cfgGenHi
  /-- CFG_FWVER: spec/04. -/
  | cfgFwver
  /-- CFG_FL_CTRL: spec/04. -/
  | cfgFlCtrl
  /-- CFG_FL_ADDR: spec/04. -/
  | cfgFlAddr
  /-- CFG_FL_BUF: spec/04. -/
  | cfgFlBuf
  /-- MON_RAIL: spec/03. -/
  | monRail
  /-- MON_CTRL: spec/03. -/
  | monCtrl
  /-- MON_TEMP: spec/03. -/
  | monTemp
  /-- MON_PACE: spec/01. -/
  | monPace
  /-- EVT_CTRL: spec/22. -/
  | evtCtrl
  /-- EVT_BASE_LO: spec/22. -/
  | evtBaseLo
  /-- EVT_BASE_HI: spec/22. -/
  | evtBaseHi
  /-- EVT_WR: spec/22. -/
  | evtWr
  /-- EVT_RD: spec/22. -/
  | evtRd
  /-- EVT_LOST: spec/22. -/
  | evtLost
  /-- EVT_QFILL: spec/22. -/
  | evtQfill
  /-- EVT_ENT: spec/22. -/
  | evtEnt
  /-- EVT_TAIL: spec/22. -/
  | evtTail
  /-- LN_CTRL: spec/05. -/
  | lnCtrl
  /-- LN_STAT: spec/05. -/
  | lnStat
  /-- LN_ERRCNT: spec/05. -/
  | lnErrcnt
  /-- LN_SKPCNT: spec/05. -/
  | lnSkpcnt
  /-- LN_PRBS: spec/05. -/
  | lnPrbs
  /-- LN_MARGIN: spec/05. -/
  | lnMargin
  /-- LN_MARGIN_ERR: spec/05. -/
  | lnMarginErr
  /-- DP_CTRL: spec/06. -/
  | dpCtrl
  /-- DP_ERR: spec/06. -/
  | dpErr
  /-- PG_CTRL: spec/06. -/
  | pgCtrl
  /-- PG_STATUS: spec/06. -/
  | pgStatus
  /-- PG_NEXT_LO: spec/06. -/
  | pgNextLo
  /-- PG_NEXT_HI: spec/06. -/
  | pgNextHi
  /-- PG_DONE_LO: spec/06. -/
  | pgDoneLo
  /-- PG_DONE_HI: spec/06. -/
  | pgDoneHi
  /-- PG_CNT: spec/06. -/
  | pgCnt
  /-- PG_ABORT: spec/22. -/
  | pgAbort
  /-- DCX_CTRL: spec/07. -/
  | dcxCtrl
  /-- DCX_STAT: spec/07. -/
  | dcxStat
  /-- DCX_ERR: spec/07. -/
  | dcxErr
  /-- DCX_PREEMPT: spec/07. -/
  | dcxPreempt
  /-- DCX_LAST: spec/07. -/
  | dcxLast
  /-- DCX_LAST_OFS: spec/07. -/
  | dcxLastOfs
  /-- DCX_LAST_PSEQ_LO: spec/07. -/
  | dcxLastPseqLo
  /-- DCX_LAST_PSEQ_HI: spec/07. -/
  | dcxLastPseqHi
  /-- CMX_STAT: spec/07. -/
  | cmxStat
  /-- CMX_IN: spec/07. -/
  | cmxIn
  /-- CMX_OUT: spec/07. -/
  | cmxOut
  /-- SCR_CTRL: spec/08. -/
  | scrCtrl
  /-- SCR_COMMIT: spec/08. -/
  | scrCommit
  /-- SCR_GEN_NEW: spec/08. -/
  | scrGenNew
  /-- SCR_GEN_CUR: spec/08. -/
  | scrGenCur
  /-- SCR_TSVALID: spec/08. -/
  | scrTsvalid
  /-- SCR_CNT: spec/08. -/
  | scrCnt
  /-- SCR_SSET: spec/08. -/
  | scrSset
  /-- SCR_THR_CTL: spec/08. -/
  | scrThrCtl
  /-- SCR_TSMAP: spec/08. -/
  | scrTsmap
  /-- CTB_STAGE: spec/08. -/
  | ctbStage
  /-- CTB_CUR: spec/08. -/
  | ctbCur
  /-- CURVE_STAGE: spec/08. -/
  | curveStage
  /-- CURVE_CUR: spec/08. -/
  | curveCur
  /-- NM_STAGE: spec/09. -/
  | nmStage
  /-- NM_NEW: spec/09. -/
  | nmNew
  /-- GEO_STAGE: spec/09. -/
  | geoStage
  /-- GEO_NEW: spec/09. -/
  | geoNew
  /-- USAB_NEW: spec/09. -/
  | usabNew
  /-- USAB_CUR: spec/09. -/
  | usabCur
  /-- NM_COMMIT: spec/09. -/
  | nmCommit
  /-- NM_GEN_NEW: spec/09. -/
  | nmGenNew
  /-- NM_GEN_CUR: spec/09. -/
  | nmGenCur
  /-- NM_DELTA: spec/09. -/
  | nmDelta
  /-- BR_CFG: spec/08. -/
  | brCfg
  /-- BR_BASE_LO: spec/08. -/
  | brBaseLo
  /-- BR_BASE_HI: spec/08. -/
  | brBaseHi
  /-- BR_LEAD: spec/08. -/
  | brLead
  /-- FF_CTRL: spec/09. -/
  | ffCtrl
  /-- FF_DUTY_W0: spec/09. -/
  | ffDutyW0
  /-- FF_DUTY_W1: spec/09. -/
  | ffDutyW1
  /-- FF_NOZ_DUTY_MAX: spec/09. -/
  | ffNozDutyMax
  /-- FF_HEAD_DUTY_MAX: spec/09. -/
  | ffHeadDutyMax
  /-- FF_CNT_LATE: spec/09. -/
  | ffCntLate
  /-- FF_CNT_CAP: spec/09. -/
  | ffCntCap
  /-- FF_CNT_DRED: spec/09. -/
  | ffCntDred
  /-- FF_CNT_DREM: spec/09. -/
  | ffCntDrem
  /-- FF_CNT_WD: spec/09. -/
  | ffCntWd
  /-- FF_SCREE_BASE_LO: spec/09. -/
  | ffScreeBaseLo
  /-- FF_SCREE_BASE_HI: spec/09. -/
  | ffScreeBaseHi
  /-- FF_SCREE_SIZE: spec/09. -/
  | ffScreeSize
  /-- FF_SCREE_WR: spec/09. -/
  | ffScreeWr
  /-- FF_SCREE_RD: spec/09. -/
  | ffScreeRd
  /-- FF_SCREE_LOST: spec/09. -/
  | ffScreeLost
  /-- FF_SCREE_ENT: spec/09. -/
  | ffScreeEnt
  /-- FPE_CTRL: spec/10. -/
  | fpeCtrl
  /-- FPE_STAT: spec/10. -/
  | fpeStat
  /-- FPE_POS_LO: spec/10. -/
  | fpePosLo
  /-- FPE_POS_HI: spec/10. -/
  | fpePosHi
  /-- FPE_HWM_LO: spec/10. -/
  | fpeHwmLo
  /-- FPE_HWM_HI: spec/10. -/
  | fpeHwmHi
  /-- FPE_PERIOD: spec/10. -/
  | fpePeriod
  /-- FPE_SCALE_A_LO: spec/10. -/
  | fpeScaleALo
  /-- FPE_SCALE_A_HI: spec/10. -/
  | fpeScaleAHi
  /-- FPE_SCALE_B_LO: spec/10. -/
  | fpeScaleBLo
  /-- FPE_SCALE_B_HI: spec/10. -/
  | fpeScaleBHi
  /-- FPE_COAST_MAX: spec/10. -/
  | fpeCoastMax
  /-- FPE_XCHK: spec/10. -/
  | fpeXchk
  /-- FPE_STRETCH: spec/10. -/
  | fpeStretch
  /-- FPE_ADV: spec/10. -/
  | fpeAdv
  /-- FPE_ALLOWED: spec/10. -/
  | fpeAllowed
  /-- FPE_REG_OFS: spec/10. -/
  | fpeRegOfs
  /-- FPE_OFS_SLEW: spec/10. -/
  | fpeOfsSlew
  /-- FPE_CNT_SKIP: spec/10. -/
  | fpeCntSkip
  /-- FPE_CNT_SLIP: spec/10. -/
  | fpeCntSlip
  /-- FPE_CNT_COASTBL: spec/10. -/
  | fpeCntCoastbl
  /-- FPE_CNT_FALL: spec/10. -/
  | fpeCntFall
  /-- FPE_TOF_OFS: spec/10. -/
  | fpeTofOfs
  /-- FPE_PHASE: spec/10. -/
  | fpePhase
  /-- HP_CTRL: spec/11. -/
  | hpCtrl
  /-- HP_STAT: spec/11. -/
  | hpStat
  /-- HP_LDLY: spec/11. -/
  | hpLdly
  /-- HP_ID_LO: spec/11. -/
  | hpIdLo
  /-- HP_ID_HI: spec/11. -/
  | hpIdHi
  /-- HP_ID_INFO: spec/11. -/
  | hpIdInfo
  /-- HP_ID_GEOM: spec/11. -/
  | hpIdGeom
  /-- HP_CNT_RESEND: spec/11. -/
  | hpCntResend
  /-- HP_CNT_LOST: spec/11. -/
  | hpCntLost
  /-- HP_CNT_REFUSED: spec/11. -/
  | hpCntRefused
  /-- HP_CNT_UPERR: spec/11. -/
  | hpCntUperr
  /-- HP_TELEM: spec/11. -/
  | hpTelem
  /-- HP_USAGE_LO: spec/11. -/
  | hpUsageLo
  /-- HP_USAGE_HI: spec/11. -/
  | hpUsageHi
  /-- HP_RATE: spec/10. -/
  | hpRate
  /-- HP_THERM: spec/10. -/
  | hpTherm
  /-- HP_TSTAT: spec/10. -/
  | hpTstat
  /-- HP_WSCALE: spec/10. -/
  | hpWscale
  /-- HP_GCTRL: spec/11. -/
  | hpGctrl
  /-- ENC_CFG: spec/12. -/
  | encCfg
  /-- ENC_STAT: spec/12. -/
  | encStat
  /-- ENC_POS_LO: spec/12. -/
  | encPosLo
  /-- ENC_POS_HI: spec/12. -/
  | encPosHi
  /-- ENC_IDX_VAL: spec/12. -/
  | encIdxVal
  /-- ENC_IDX_LAT_LO: spec/12. -/
  | encIdxLatLo
  /-- ENC_IDX_LAT_HI: spec/12. -/
  | encIdxLatHi
  /-- ENC_SPEED: spec/12. -/
  | encSpeed
  /-- ENC_SPD_CTRL: spec/12. -/
  | encSpdCtrl
  /-- ENC_UNC: spec/12. -/
  | encUnc
  /-- ENC_QERR: spec/12. -/
  | encQerr
  /-- SSI_CFG: spec/12. -/
  | ssiCfg
  /-- SSI_TRIG: spec/12. -/
  | ssiTrig
  /-- SSI_STAT: spec/12. -/
  | ssiStat
  /-- SSI_DATA: spec/12. -/
  | ssiData
  /-- SSI_TIME_LO: spec/12. -/
  | ssiTimeLo
  /-- SSI_TIME_HI: spec/12. -/
  | ssiTimeHi
  /-- PRB_CFG: spec/12. -/
  | prbCfg
  /-- PRB_STAT: spec/12. -/
  | prbStat
  /-- PRB_REC: spec/12. -/
  | prbRec
  /-- LE_CFG: spec/13. -/
  | leCfg
  /-- LE_SCHED: spec/13. -/
  | leSched
  /-- LE_SRC: spec/13. -/
  | leSrc
  /-- LE_REF: spec/13. -/
  | leRef
  /-- LE_OMIN: spec/13. -/
  | leOmin
  /-- LE_OMAX: spec/13. -/
  | leOmax
  /-- LE_OPEN_VAL: spec/13. -/
  | leOpenVal
  /-- LE_SLEW: spec/13. -/
  | leSlew
  /-- LE_GAPMAX: spec/13. -/
  | leGapmax
  /-- LE_STAT: spec/13. -/
  | leStat
  /-- LE_OUT: spec/13. -/
  | leOut
  /-- LE_LAW: spec/13. -/
  | leLaw
  /-- LE_ERR: spec/13. -/
  | leErr
  /-- LE_HOST_OUT: spec/13. -/
  | leHostOut
  /-- LE_HOST_SEQ: spec/13. -/
  | leHostSeq
  /-- LE_B0: spec/13. -/
  | leB0
  /-- LE_B1: spec/13. -/
  | leB1
  /-- LE_B2: spec/13. -/
  | leB2
  /-- LE_B3: spec/13. -/
  | leB3
  /-- LE_A1: spec/13. -/
  | leA1
  /-- LE_A2: spec/13. -/
  | leA2
  /-- LE_A3: spec/13. -/
  | leA3
  /-- LE_CSH0: spec/13. -/
  | leCsh0
  /-- LE_CSH1: spec/13. -/
  | leCsh1
  /-- LE_CSUM: spec/13. -/
  | leCsum
  /-- LE_CNT_MISS: spec/13. -/
  | leCntMiss
  /-- LE_CNT_LATE: spec/13. -/
  | leCntLate
  /-- LE_GCTRL: spec/13. -/
  | leGctrl
  /-- LE_LOAD: spec/13. -/
  | leLoad
  /-- TRC_CFG: spec/13. -/
  | trcCfg
  /-- TRC_NODE0: spec/13. -/
  | trcNode0
  /-- TRC_NODE1: spec/13. -/
  | trcNode1
  /-- TRC_LEVEL: spec/13. -/
  | trcLevel
  /-- TRC_STAT: spec/13. -/
  | trcStat
  /-- TRC_T0_LO: spec/13. -/
  | trcT0Lo
  /-- TRC_T0_HI: spec/13. -/
  | trcT0Hi
  /-- TRC_DUMP_LO: spec/13. -/
  | trcDumpLo
  /-- TRC_DUMP_HI: spec/13. -/
  | trcDumpHi
  /-- TRC_DUMP_CTL: spec/13. -/
  | trcDumpCtl
  /-- TRC_BUF: spec/13. -/
  | trcBuf
  /-- CAM_CFG: spec/14. -/
  | camCfg
  /-- CAM_TRIG: spec/14. -/
  | camTrig
  /-- CAM_DIST_LO: spec/14. -/
  | camDistLo
  /-- CAM_DIST_HI: spec/14. -/
  | camDistHi
  /-- CAM_FRAME_TO: spec/14. -/
  | camFrameTo
  /-- CAM_STAT: spec/14. -/
  | camStat
  /-- CAM_CNT_SKIP: spec/14. -/
  | camCntSkip
  /-- CAM_CNT_UNSOL: spec/14. -/
  | camCntUnsol
  /-- ISP_SIZE: spec/14. -/
  | ispSize
  /-- ISP_MODE: spec/14. -/
  | ispMode
  /-- ISP_BLACK: spec/14. -/
  | ispBlack
  /-- ISP_WB: spec/14. -/
  | ispWb
  /-- ISP_CCM: spec/14. -/
  | ispCcm
  /-- ISP_SEP: spec/14. -/
  | ispSep
  /-- ISP_SEPOFS: spec/14. -/
  | ispSepofs
  /-- ISP_STROBE: spec/14. -/
  | ispStrobe
  /-- ISP_STROBE_W: spec/14. -/
  | ispStrobeW
  /-- ISP_STROBE_DLY: spec/14. -/
  | ispStrobeDly
  /-- ISP_COMMIT: spec/14. -/
  | ispCommit
  /-- ISP_TARGET: spec/14. -/
  | ispTarget
  /-- ISP_TSEQ: spec/14. -/
  | ispTseq
  /-- ISP_APPLIED: spec/14. -/
  | ispApplied
  /-- ISP_GEN_CUR: spec/14. -/
  | ispGenCur
  /-- ISP_COL0: spec/14. -/
  | ispCol0
  /-- ISP_CSCALE: spec/14. -/
  | ispCscale
  /-- ISP_ASCALE: spec/14. -/
  | ispAscale
  /-- ISP_Y0: spec/14. -/
  | ispY0
  /-- ISP_DEFECT: spec/14. -/
  | ispDefect
  /-- ISP_CURVE: spec/14. -/
  | ispCurve
  /-- ISP_FLAT: spec/14. -/
  | ispFlat
  /-- INS_CTRL: spec/14. -/
  | insCtrl
  /-- INS_CHK_DEN: spec/14. -/
  | insChkDen
  /-- INS_TRL: spec/14. -/
  | insTrl
  /-- INS_HM_IDX: spec/14. -/
  | insHmIdx
  /-- INS_HM_DATA_LO: spec/14. -/
  | insHmDataLo
  /-- INS_HM_DATA_HI: spec/14. -/
  | insHmDataHi
  /-- INS_MARK_POS: spec/14. -/
  | insMarkPos
  /-- INS_MARK: spec/14. -/
  | insMark
  /-- INS_MARK_NOM: spec/14. -/
  | insMarkNom
  /-- INS_FOCUS: spec/14. -/
  | insFocus
  /-- INS_FOCUS_MASK_LO: spec/14. -/
  | insFocusMaskLo
  /-- INS_FOCUS_MASK_HI: spec/14. -/
  | insFocusMaskHi
  /-- INS_GAP: spec/14. -/
  | insGap
  /-- INS_GAP_MASK_LO: spec/14. -/
  | insGapMaskLo
  /-- INS_GAP_MASK_HI: spec/14. -/
  | insGapMaskHi
  /-- INS_SRC: spec/14. -/
  | insSrc
  /-- INS_RES_BASE_LO: spec/14. -/
  | insResBaseLo
  /-- INS_RES_BASE_HI: spec/14. -/
  | insResBaseHi
  /-- INS_RES_SIZE: spec/14. -/
  | insResSize
  /-- INS_RES_WR: spec/14. -/
  | insResWr
  /-- INS_RES_RD: spec/14. -/
  | insResRd
  /-- INS_RES_LOST: spec/14. -/
  | insResLost
  /-- INS_CAP: spec/14. -/
  | insCap
  /-- INS_CAP_TARGET: spec/14. -/
  | insCapTarget
  /-- INS_CAP_DST_LO: spec/14. -/
  | insCapDstLo
  /-- INS_CAP_DST_HI: spec/14. -/
  | insCapDstHi
  /-- INS_RES_ENT: spec/14. -/
  | insResEnt
  /-- INS_TMPL: spec/14. -/
  | insTmpl
  /-- LMP_CFG: spec/15. -/
  | lmpCfg
  /-- LMP_STAT: spec/15. -/
  | lmpStat
  /-- LMP_LEVEL: spec/15. -/
  | lmpLevel
  /-- LMP_SEG: spec/15. -/
  | lmpSeg
  /-- LMP_VDIV: spec/15. -/
  | lmpVdiv
  /-- LMP_VFMIN: spec/15. -/
  | lmpVfmin
  /-- LMP_PULSE: spec/15. -/
  | lmpPulse
  /-- LMP_DIAGMIN: spec/15. -/
  | lmpDiagmin
  /-- LMP_MEAS: spec/15. -/
  | lmpMeas
  /-- LMP_CNT_SKIP: spec/15. -/
  | lmpCntSkip
  /-- LMP_CTRL: spec/15. -/
  | lmpCtrl
  /-- LMP_IMAX: spec/15. -/
  | lmpImax
  /-- LMP_SEGMAP: spec/15. -/
  | lmpSegmap
  /-- LMP_DIST: spec/15. -/
  | lmpDist
  /-- LMP_WIN: spec/15. -/
  | lmpWin
  /-- LMP_GSTAT: spec/15. -/
  | lmpGstat
  /-- PAT_CTRL: spec/15. -/
  | patCtrl
  /-- PAT_STAT: spec/15. -/
  | patStat
  /-- PAT_STEP: spec/15. -/
  | patStep
  /-- PTAB: spec/15. -/
  | ptab
  /-- LMP_POINT: spec/15. -/
  | lmpPoint
  /-- AX_CFG: spec/16. -/
  | axCfg
  /-- AX_CMD: spec/16. -/
  | axCmd
  /-- AX_STAT: spec/16. -/
  | axStat
  /-- AX_POS_LO: spec/16. -/
  | axPosLo
  /-- AX_POS_HI: spec/16. -/
  | axPosHi
  /-- AX_TGT_LO: spec/16. -/
  | axTgtLo
  /-- AX_TGT_HI: spec/16. -/
  | axTgtHi
  /-- AX_VMAX: spec/16. -/
  | axVmax
  /-- AX_ACC: spec/16. -/
  | axAcc
  /-- AX_DEC: spec/16. -/
  | axDec
  /-- AX_DEC_EMERG: spec/16. -/
  | axDecEmerg
  /-- AX_JERK: spec/16. -/
  | axJerk
  /-- AX_IREF: spec/16. -/
  | axIref
  /-- AX_STEPT: spec/16. -/
  | axStept
  /-- AX_HOME: spec/16. -/
  | axHome
  /-- AX_HOME_V1: spec/16. -/
  | axHomeV1
  /-- AX_HOME_V2: spec/16. -/
  | axHomeV2
  /-- AX_HOME_OFS_LO: spec/16. -/
  | axHomeOfsLo
  /-- AX_HOME_OFS_HI: spec/16. -/
  | axHomeOfsHi
  /-- AX_HLAT_LO: spec/16. -/
  | axHlatLo
  /-- AX_HLAT_HI: spec/16. -/
  | axHlatHi
  /-- AX_VNOW: spec/16. -/
  | axVnow
  /-- MNT_CTRL: spec/16. -/
  | mntCtrl
  /-- MNT_CMD: spec/16. -/
  | mntCmd
  /-- MNT_STAT: spec/16. -/
  | mntStat
  /-- MNT_PRINT_EXCL: spec/16. -/
  | mntPrintExcl
  /-- MNT_PWIN_MIN: spec/16. -/
  | mntPwinMin
  /-- MNT_PWIN_MAX: spec/16. -/
  | mntPwinMax
  /-- MNT_HSTEP: spec/16. -/
  | mntHstep
  /-- MNT_HGO: spec/16. -/
  | mntHgo
  /-- MNT_CNT_MISS: spec/16. -/
  | mntCntMiss
  /-- MNT_EXCL: spec/16. -/
  | mntExcl
  /-- MNT_ACT: spec/16. -/
  | mntAct
  /-- MNT_ACT_LAMP: spec/16. -/
  | mntActLamp
  /-- MNT_ACT_BOUND: spec/16. -/
  | mntActBound
  /-- MNT_STEP: spec/16. -/
  | mntStep
  /-- MNT_PARAM: spec/16. -/
  | mntParam
  /-- MC_CFG: spec/17. -/
  | mcCfg
  /-- MC_CTRL: spec/17. -/
  | mcCtrl
  /-- MC_STAT: spec/17. -/
  | mcStat
  /-- MC_FF: spec/17. -/
  | mcFf
  /-- MC_HAMMER: spec/17. -/
  | mcHammer
  /-- MC_ZQ: spec/17. -/
  | mcZq
  /-- MC_SPARE_CFG: spec/17. -/
  | mcSpareCfg
  /-- MC_SR: spec/17. -/
  | mcSr
  /-- MC_SPARE: spec/17. -/
  | mcSpare
  /-- MC_CNT_CE: spec/17. -/
  | mcCntCe
  /-- MC_CNT_UE: spec/17. -/
  | mcCntUe
  /-- MC_CNT_DRFM: spec/17. -/
  | mcCntDrfm
  /-- MC_CNT_OVF: spec/17. -/
  | mcCntOvf
  /-- MC_CNT_THROT: spec/17. -/
  | mcCntThrot
  /-- MC_CNT_FFURG: spec/17. -/
  | mcCntFfurg
  /-- MC_UE_ADDR_LO: spec/17. -/
  | mcUeAddrLo
  /-- MC_UE_ADDR_HI: spec/17. -/
  | mcUeAddrHi
  /-- MC_UE_INFO: spec/17. -/
  | mcUeInfo
  /-- MC_SCRUB_POS_LO: spec/17. -/
  | mcScrubPosLo
  /-- MC_SCRUB_POS_HI: spec/17. -/
  | mcScrubPosHi
  /-- MC_SCRUB_PASS: spec/17. -/
  | mcScrubPass
  /-- MC_CE: spec/17. -/
  | mcCe
  /-- TW_CTRL: spec/18. -/
  | twCtrl
  /-- TW_HB: spec/18. -/
  | twHb
  /-- TW_CMD: spec/18. -/
  | twCmd
  /-- TW_STAT: spec/18. -/
  | twStat
  /-- TW_PSTAT: spec/18. -/
  | twPstat
  /-- TW_CNT_TAKEOVER: spec/18. -/
  | twCntTakeover
  /-- TW_CNT_HBMISS: spec/18. -/
  | twCntHbmiss
  /-- TW_CNT_MISMATCH: spec/18. -/
  | twCntMismatch
  /-- TW_CNT_SUMMIT: spec/18. -/
  | twCntSummit
  /-- TW_CNT_RXERR: spec/18. -/
  | twCntRxerr
  /-- TW_LAST_TO: spec/18. -/
  | twLastTo
  /-- TW_LAST_TO_T_LO: spec/18. -/
  | twLastToTLo
  /-- TW_LAST_TO_T_HI: spec/18. -/
  | twLastToTHi
  /-- JNL_LAST: spec/18. -/
  | jnlLast
  /-- JNL_BACKLOG: spec/18. -/
  | jnlBacklog
  /-- JNL_CNT_ACK: spec/18. -/
  | jnlCntAck
  /-- JNL_CNT_JNL: spec/18. -/
  | jnlCntJnl
  /-- NET_CTRL: spec/19. -/
  | netCtrl
  /-- NET_STAT: spec/19. -/
  | netStat
  /-- NET_HOST_MAC_LO: spec/19. -/
  | netHostMacLo
  /-- NET_HOST_MAC_HI: spec/19. -/
  | netHostMacHi
  /-- NET_CNT_FWD_ERR: spec/19. -/
  | netCntFwdErr
  /-- NET_CNT_DROP: spec/19. -/
  | netCntDrop
  /-- NET_CNT_HOPS: spec/19. -/
  | netCntHops
  /-- NET_CNT_SEQ: spec/19. -/
  | netCntSeq
  /-- PTP_CTRL: spec/19. -/
  | ptpCtrl
  /-- PTP_STAT: spec/19. -/
  | ptpStat
  /-- PTP_INC_FRAC: spec/19. -/
  | ptpIncFrac
  /-- PTP_INC_INT: spec/19. -/
  | ptpIncInt
  /-- PTP_ADJ: spec/19. -/
  | ptpAdj
  /-- PTP_TIME_SEC_LO: spec/19. -/
  | ptpTimeSecLo
  /-- PTP_TIME_SEC_HI: spec/19. -/
  | ptpTimeSecHi
  /-- PTP_TIME_NS: spec/19. -/
  | ptpTimeNs
  /-- PTP_TIME_FRAC: spec/19. -/
  | ptpTimeFrac
  /-- PTP_SET_SEC_LO: spec/19. -/
  | ptpSetSecLo
  /-- PTP_SET_SEC_HI: spec/19. -/
  | ptpSetSecHi
  /-- PTP_SET_NS: spec/19. -/
  | ptpSetNs
  /-- PTP_STEP_NS: spec/19. -/
  | ptpStepNs
  /-- PTP_LOCK_NS: spec/19. -/
  | ptpLockNs
  /-- PTP_MEAS_OFS: spec/19. -/
  | ptpMeasOfs
  /-- PTP_MEAS_DLY: spec/19. -/
  | ptpMeasDly
  /-- PTP_MEAS_SEQ: spec/19. -/
  | ptpMeasSeq
  /-- PTP_HOST_SEQ: spec/19. -/
  | ptpHostSeq
  /-- PTP_HOLD: spec/19. -/
  | ptpHold
  /-- PTP_ASYM: spec/19. -/
  | ptpAsym
  /-- PTP_PRIO: spec/19. -/
  | ptpPrio
  /-- PTP_XS_FT_LO: spec/19. -/
  | ptpXsFtLo
  /-- PTP_XS_FT_HI: spec/19. -/
  | ptpXsFtHi
  /-- PTP_XS_SEC_LO: spec/19. -/
  | ptpXsSecLo
  /-- PTP_XS_SEC_HI: spec/19. -/
  | ptpXsSecHi
  /-- PTP_XS_NS: spec/19. -/
  | ptpXsNs
  /-- PTP_XS_FRAC: spec/19. -/
  | ptpXsFrac
  /-- PTP_XS1_FT_LO: spec/19. -/
  | ptpXs1FtLo
  /-- PTP_XS1_FT_HI: spec/19. -/
  | ptpXs1FtHi
  /-- PTP_XS1_SEC_LO: spec/19. -/
  | ptpXs1SecLo
  /-- PTP_XS1_SEC_HI: spec/19. -/
  | ptpXs1SecHi
  /-- PTP_XS1_NS: spec/19. -/
  | ptpXs1Ns
  /-- PTP_XS1_FRAC: spec/19. -/
  | ptpXs1Frac
  /-- TL_SEC_LO: spec/19. -/
  | tlSecLo
  /-- TL_SEC_HI: spec/19. -/
  | tlSecHi
  /-- TL_NS: spec/19. -/
  | tlNs
  /-- TL_CTRL: spec/19. -/
  | tlCtrl
  /-- TL_DEP_SEC_LO: spec/19. -/
  | tlDepSecLo
  /-- TL_DEP_SEC_HI: spec/19. -/
  | tlDepSecHi
  /-- TL_DEP_NS: spec/19. -/
  | tlDepNs
  /-- TL_BUF: spec/19. -/
  | tlBuf
  /-- MET_STAT: spec/20. -/
  | metStat
  /-- MET_TOTAL_UM_LO: spec/20. -/
  | metTotalUmLo
  /-- MET_TOTAL_UM_HI: spec/20. -/
  | metTotalUmHi
  /-- MET_JOB_UM_LO: spec/20. -/
  | metJobUmLo
  /-- MET_JOB_UM_HI: spec/20. -/
  | metJobUmHi
  /-- MET_JOB_REC: spec/20. -/
  | metJobRec
  /-- MET_EVT_LO: spec/20. -/
  | metEvtLo
  /-- MET_EVT_HI: spec/20. -/
  | metEvtHi
  /-- MET_SWID: spec/20. -/
  | metSwid
  /-- MET_SWCHK: spec/20. -/
  | metSwchk
  /-- MET_FREE: spec/20. -/
  | metFree
  /-- CAL_CMD: spec/21. -/
  | calCmd
  /-- CAL_CTRL: spec/21. -/
  | calCtrl
  /-- CAL_STAT: spec/21. -/
  | calStat
  /-- CAL_REFVAL: spec/21. -/
  | calRefval
  /-- CAL_RAW_LO: spec/21. -/
  | calRawLo
  /-- CAL_RAW_HI: spec/21. -/
  | calRawHi
  /-- CAL_HRES: spec/21. -/
  | calHres
  /-- CAL_PHOTO_REF: spec/21. -/
  | calPhotoRef
  /-- CAL_REC_COUNT: spec/21. -/
  | calRecCount
  /-- CAL_REC_SEC_LO: spec/21. -/
  | calRecSecLo
  /-- CAL_REC_SEC_HI: spec/21. -/
  | calRecSecHi
  /-- CAL_REC_NS: spec/21. -/
  | calRecNs
  /-- CAL_REC_LAST: spec/21. -/
  | calRecLast
  /-- CAL_REC_TOL: spec/21. -/
  | calRecTol
  /-- CAL_VGAIN: spec/21. -/
  | calVgain
  /-- CAL_LAMP_GAIN: spec/21. -/
  | calLampGain
  /-- CAL_PHOTO: spec/21. -/
  | calPhoto
  /-- CAL_DROP_MASS: spec/21. -/
  | calDropMass
  /-- THR_WIN: spec/08. -/
  | thrWin
  deriving DecidableEq, Repr

/-- A field of a register: its place (lowest bit and width), its access type and its reset value. -/
structure Fld where
  reg : Reg
  lo : Nat
  width : Nat
  acc : Acc
  rst : Nat
  deriving DecidableEq, Repr

def SysId.id : Fld := ⟨.sysId, 0, 32, .ro, 0x4e5a7128⟩
def SysStep.metal : Fld := ⟨.sysStep, 0, 4, .ro, 0⟩
def SysStep.base : Fld := ⟨.sysStep, 4, 4, .ro, 0xb⟩
def SysNode.nodeId : Fld := ⟨.sysNode, 0, 14, .ro, 0⟩
def SysNode.ethertype : Fld := ⟨.sysNode, 16, 16, .ro, 0⟩
def SysUidLo.v : Fld := ⟨.sysUidLo, 0, 32, .ro, 0⟩
def SysUidHi.v : Fld := ⟨.sysUidHi, 0, 32, .ro, 0⟩
def SysScratch.v : Fld := ⟨.sysScratch, 0, 32, .rw, 0⟩
def RstStatus.cause : Fld := ⟨.rstStatus, 0, 16, .ro, 1⟩
def RstStatus.level : Fld := ⟨.rstStatus, 16, 2, .ro, 0⟩
def RstStatus.psKept : Fld := ⟨.rstStatus, 18, 1, .ro, 0⟩
def RstStatus.degraded : Fld := ⟨.rstStatus, 19, 1, .ro, 0⟩
def RstStatus.state : Fld := ⟨.rstStatus, 21, 2, .ro, 0⟩
def RstStatus.clkFail : Fld := ⟨.rstStatus, 23, 9, .ro, 0⟩
def RstFuseMap.lvl0 : Fld := ⟨.rstFuseMap, 0, 2, .ro, 0⟩
def RstFuseMap.lvl1 : Fld := ⟨.rstFuseMap, 2, 2, .ro, 1⟩
def RstFuseMap.lvl2 : Fld := ⟨.rstFuseMap, 4, 2, .ro, 1⟩
def RstFuseMap.lvl3 : Fld := ⟨.rstFuseMap, 6, 2, .ro, 0⟩
def RstFuseMap.lvl4 : Fld := ⟨.rstFuseMap, 8, 2, .ro, 3⟩
def RstFuseMap.lvl5 : Fld := ⟨.rstFuseMap, 10, 2, .ro, 2⟩
def RstFuseMap.lvl6 : Fld := ⟨.rstFuseMap, 12, 2, .ro, 1⟩
def RstFuseMap.lvl7 : Fld := ⟨.rstFuseMap, 14, 2, .ro, 2⟩
def RstFuseMap.lvl8 : Fld := ⟨.rstFuseMap, 16, 2, .ro, 0⟩
def RstFuseMap.lvl9 : Fld := ⟨.rstFuseMap, 18, 2, .ro, 1⟩
def RstFuseMap.lvl10 : Fld := ⟨.rstFuseMap, 20, 2, .ro, 2⟩
def RstFuseMap.lvl11 : Fld := ⟨.rstFuseMap, 22, 2, .ro, 1⟩
def RstFuseMap.lvl12 : Fld := ⟨.rstFuseMap, 24, 2, .ro, 0⟩
def RstFuseMap.lvl13 : Fld := ⟨.rstFuseMap, 26, 2, .ro, 0⟩
def RstFuseMap.lvl14 : Fld := ⟨.rstFuseMap, 28, 2, .ro, 2⟩
def RstFuseMap.lvl15 : Fld := ⟨.rstFuseMap, 30, 2, .ro, 2⟩
def RstStart.failcnt : Fld := ⟨.rstStart, 0, 2, .ro, 0⟩
def RstStart.forced : Fld := ⟨.rstStart, 2, 1, .ro, 0⟩
def RstStart.startMs : Fld := ⟨.rstStart, 16, 16, .ro, 0⟩
def RstCmd.level : Fld := ⟨.rstCmd, 0, 2, .wo, 0⟩
def RstCmd.class_ : Fld := ⟨.rstCmd, 2, 3, .wo, 0⟩
def RstCmd.inst : Fld := ⟨.rstCmd, 5, 8, .wo, 0⟩
def RstCmd.foothillClr : Fld := ⟨.rstCmd, 13, 1, .wo, 0⟩
def RstCmd.key : Fld := ⟨.rstCmd, 16, 16, .wo, 0⟩
def RstPark.req : Fld := ⟨.rstPark, 0, 1, .wo, 0⟩
def RstPark.run_ : Fld := ⟨.rstPark, 1, 1, .wo, 0⟩
def RstPark.refused : Fld := ⟨.rstPark, 2, 1, .w1c, 0⟩
def RstPark.key : Fld := ⟨.rstPark, 16, 16, .wo, 0⟩
def RstHist.cause : Fld := ⟨.rstHist, 0, 16, .ro, 0⟩
def RstHist.level : Fld := ⟨.rstHist, 16, 2, .ro, 0⟩
def RstHist.stage : Fld := ⟨.rstHist, 18, 4, .ro, 0⟩
def RstHist.timeout : Fld := ⟨.rstHist, 22, 1, .ro, 0⟩
def RstHist.seq : Fld := ⟨.rstHist, 23, 9, .ro, 0⟩
def CfgStatus.slot : Fld := ⟨.cfgStatus, 0, 1, .ro, 0⟩
def CfgStatus.fallback : Fld := ⟨.cfgStatus, 1, 1, .ro, 0⟩
def CfgStatus.unsigned : Fld := ⟨.cfgStatus, 2, 1, .ro, 0⟩
def CfgStatus.obSrc : Fld := ⟨.cfgStatus, 3, 1, .ro, 0⟩
def CfgStatus.failStep : Fld := ⟨.cfgStatus, 4, 4, .ro, 0⟩
def CfgStatus.fuseLock : Fld := ⟨.cfgStatus, 8, 1, .ro, 0⟩
def CfgStatus.sigReq : Fld := ⟨.cfgStatus, 9, 1, .ro, 0⟩
def CfgStatus.failRec : Fld := ⟨.cfgStatus, 16, 16, .ro, 0⟩
def CfgGenLo.v : Fld := ⟨.cfgGenLo, 0, 32, .ro, 0⟩
def CfgGenHi.v : Fld := ⟨.cfgGenHi, 0, 32, .ro, 0⟩
def CfgFwver.v : Fld := ⟨.cfgFwver, 0, 32, .ro, 0⟩
def CfgFlCtrl.cs : Fld := ⟨.cfgFlCtrl, 0, 1, .rw, 0⟩
def CfgFlCtrl.op : Fld := ⟨.cfgFlCtrl, 1, 3, .rw, 0⟩
def CfgFlCtrl.go : Fld := ⟨.cfgFlCtrl, 4, 1, .wo, 0⟩
def CfgFlCtrl.busy : Fld := ⟨.cfgFlCtrl, 5, 1, .ro, 0⟩
def CfgFlCtrl.refused : Fld := ⟨.cfgFlCtrl, 6, 1, .w1c, 0⟩
def CfgFlCtrl.lenm1 : Fld := ⟨.cfgFlCtrl, 8, 8, .rw, 0⟩
def CfgFlCtrl.key : Fld := ⟨.cfgFlCtrl, 16, 16, .wo, 0⟩
def CfgFlAddr.v : Fld := ⟨.cfgFlAddr, 0, 32, .rw, 0⟩
def CfgFlBuf.v : Fld := ⟨.cfgFlBuf, 0, 32, .rw, 0⟩
def MonRail.vmin : Fld := ⟨.monRail, 0, 12, .ro, 0xfff⟩
def MonRail.warn : Fld := ⟨.monRail, 12, 1, .ro, 0⟩
def MonRail.wseen : Fld := ⟨.monRail, 13, 1, .w1c, 0⟩
def MonRail.rseen : Fld := ⟨.monRail, 14, 1, .w1c, 0⟩
def MonRail.dur : Fld := ⟨.monRail, 15, 15, .ro, 0⟩
def MonRail.durOvf : Fld := ⟨.monRail, 30, 1, .w1c, 0⟩
def MonRail.trkClr : Fld := ⟨.monRail, 31, 1, .wo, 0⟩
def MonCtrl.vwarnHold : Fld := ⟨.monCtrl, 0, 16, .rw, 0x3e8⟩
def MonCtrl.takeoverEn : Fld := ⟨.monCtrl, 16, 1, .rw, 1⟩
def MonTemp.tj : Fld := ⟨.monTemp, 0, 12, .ro, 0⟩
def MonTemp.twarn : Fld := ⟨.monTemp, 12, 8, .rw, 0x70⟩
def MonTemp.tw : Fld := ⟨.monTemp, 20, 1, .ro, 0⟩
def MonTemp.twseen : Fld := ⟨.monTemp, 21, 1, .w1c, 0⟩
def MonPace.used : Fld := ⟨.monPace, 0, 8, .ro, 0⟩
def MonPace.usedMax : Fld := ⟨.monPace, 8, 8, .ro, 0⟩
def MonPace.warnPct : Fld := ⟨.monPace, 16, 8, .rw, 0x5a⟩
def MonPace.warn : Fld := ⟨.monPace, 24, 1, .w1c, 0⟩
def MonPace.over : Fld := ⟨.monPace, 25, 1, .w1c, 0⟩
def MonPace.maxClr : Fld := ⟨.monPace, 26, 1, .wo, 0⟩
def EvtCtrl.log2 : Fld := ⟨.evtCtrl, 0, 5, .rws, 0x10⟩
def EvtBaseLo.v : Fld := ⟨.evtBaseLo, 0, 32, .ro, 0⟩
def EvtBaseHi.v : Fld := ⟨.evtBaseHi, 0, 32, .ro, 0⟩
def EvtWr.v : Fld := ⟨.evtWr, 0, 32, .ro, 0⟩
def EvtRd.v : Fld := ⟨.evtRd, 0, 32, .rw, 0⟩
def EvtLost.count : Fld := ⟨.evtLost, 0, 31, .ro, 0⟩
def EvtLost.ovf : Fld := ⟨.evtLost, 31, 1, .w1c, 0⟩
def EvtQfill.v : Fld := ⟨.evtQfill, 0, 11, .ro, 0⟩
def EvtEnt.v : Fld := ⟨.evtEnt, 0, 32, .ro, 0⟩
def EvtTail.v : Fld := ⟨.evtTail, 0, 32, .ro, 0⟩
def LnCtrl.txSleep : Fld := ⟨.lnCtrl, 0, 1, .rw, 0⟩
def LnCtrl.txInv : Fld := ⟨.lnCtrl, 1, 1, .rw, 0⟩
def LnCtrl.rxInv : Fld := ⟨.lnCtrl, 2, 1, .rw, 0⟩
def LnCtrl.test : Fld := ⟨.lnCtrl, 3, 2, .rw, 0⟩
def LnCtrl.cntClr : Fld := ⟨.lnCtrl, 5, 1, .wo, 0⟩
def LnStat.lock : Fld := ⟨.lnStat, 0, 1, .ro, 0⟩
def LnStat.deskewed : Fld := ⟨.lnStat, 1, 1, .ro, 0⟩
def LnStat.farLock : Fld := ⟨.lnStat, 2, 1, .ro, 0⟩
def LnStat.txAsleep : Fld := ⟨.lnStat, 3, 1, .ro, 0⟩
def LnStat.rxAsleep : Fld := ⟨.lnStat, 4, 1, .ro, 0⟩
def LnStat.los : Fld := ⟨.lnStat, 5, 1, .w1c, 0⟩
def LnStat.laneMismatch : Fld := ⟨.lnStat, 6, 1, .w1c, 0⟩
def LnStat.ebErr : Fld := ⟨.lnStat, 7, 1, .w1c, 0⟩
def LnStat.prbsSync : Fld := ⟨.lnStat, 8, 1, .ro, 0⟩
def LnStat.lane : Fld := ⟨.lnStat, 9, 3, .ro, 0⟩
def LnStat.kind : Fld := ⟨.lnStat, 12, 2, .ro, 0⟩
def LnStat.ebFill : Fld := ⟨.lnStat, 16, 5, .ro, 0⟩
def LnErrcnt.cv : Fld := ⟨.lnErrcnt, 0, 16, .ro, 0⟩
def LnErrcnt.lol : Fld := ⟨.lnErrcnt, 16, 8, .ro, 0⟩
def LnErrcnt.dsk : Fld := ⟨.lnErrcnt, 24, 4, .ro, 0⟩
def LnErrcnt.smsg : Fld := ⟨.lnErrcnt, 28, 2, .ro, 0⟩
def LnErrcnt.ovf : Fld := ⟨.lnErrcnt, 30, 1, .w1c, 0⟩
def LnSkpcnt.ins : Fld := ⟨.lnSkpcnt, 0, 16, .ro, 0⟩
def LnSkpcnt.del : Fld := ⟨.lnSkpcnt, 16, 16, .ro, 0⟩
def LnPrbs.errbits : Fld := ⟨.lnPrbs, 0, 31, .ro, 0⟩
def LnPrbs.ovf : Fld := ⟨.lnPrbs, 31, 1, .w1c, 0⟩
def LnMargin.phase : Fld := ⟨.lnMargin, 0, 7, .rw, 0⟩
def LnMargin.vofs : Fld := ⟨.lnMargin, 7, 7, .rw, 0⟩
def LnMargin.dwell : Fld := ⟨.lnMargin, 14, 4, .rw, 0⟩
def LnMargin.go : Fld := ⟨.lnMargin, 18, 1, .wo, 0⟩
def LnMargin.busy : Fld := ⟨.lnMargin, 19, 1, .ro, 0⟩
def LnMargin.done : Fld := ⟨.lnMargin, 20, 1, .w1c, 0⟩
def LnMarginErr.mismatch : Fld := ⟨.lnMarginErr, 0, 31, .ro, 0⟩
def LnMarginErr.ovf : Fld := ⟨.lnMarginErr, 31, 1, .w1c, 0⟩
def DpCtrl.creditPeriod : Fld := ⟨.dpCtrl, 0, 8, .rw, 0xa⟩
def DpCtrl.abort : Fld := ⟨.dpCtrl, 8, 1, .wo, 0⟩
def DpErr.crc : Fld := ⟨.dpErr, 0, 16, .ro, 0⟩
def DpErr.rewind : Fld := ⟨.dpErr, 16, 8, .ro, 0⟩
def DpErr.proto : Fld := ⟨.dpErr, 24, 7, .ro, 0⟩
def DpErr.ovf : Fld := ⟨.dpErr, 31, 1, .w1c, 0⟩
def PgCtrl.retry : Fld := ⟨.pgCtrl, 0, 2, .rw, 2⟩
def PgCtrl.streamEn : Fld := ⟨.pgCtrl, 2, 1, .rw, 1⟩
def PgCtrl.fillinEn : Fld := ⟨.pgCtrl, 3, 1, .rw, 1⟩
def PgCtrl.deferMax : Fld := ⟨.pgCtrl, 4, 12, .rw, 0x3e8⟩
def PgStatus.pages : Fld := ⟨.pgStatus, 0, 10, .ro, 0⟩
def PgStatus.free : Fld := ⟨.pgStatus, 10, 22, .ro, 0⟩
def PgNextLo.v : Fld := ⟨.pgNextLo, 0, 32, .ro, 0⟩
def PgNextHi.v : Fld := ⟨.pgNextHi, 0, 32, .ro, 0⟩
def PgDoneLo.v : Fld := ⟨.pgDoneLo, 0, 32, .ro, 0⟩
def PgDoneHi.v : Fld := ⟨.pgDoneHi, 0, 32, .ro, 0⟩
def PgCnt.spoiled : Fld := ⟨.pgCnt, 0, 16, .ro, 0⟩
def PgCnt.refetch : Fld := ⟨.pgCnt, 16, 15, .ro, 0⟩
def PgCnt.ovf : Fld := ⟨.pgCnt, 31, 1, .w1c, 0⟩
def PgAbort.go : Fld := ⟨.pgAbort, 0, 1, .wo, 0⟩
def PgAbort.held : Fld := ⟨.pgAbort, 1, 1, .wo, 0⟩
def PgAbort.busy : Fld := ⟨.pgAbort, 2, 1, .ro, 0⟩
def PgAbort.key : Fld := ⟨.pgAbort, 16, 16, .wo, 0⟩
def DcxCtrl.printMax : Fld := ⟨.dcxCtrl, 0, 4, .rw, 8⟩
def DcxCtrl.enable : Fld := ⟨.dcxCtrl, 8, 8, .rw, 0xff⟩
def DcxStat.state : Fld := ⟨.dcxStat, 0, 2, .ro, 0⟩
def DcxStat.stripe : Fld := ⟨.dcxStat, 8, 16, .ro, 0⟩
def DcxErr.malformed : Fld := ⟨.dcxErr, 0, 15, .ro, 0⟩
def DcxErr.check : Fld := ⟨.dcxErr, 15, 15, .ro, 0⟩
def DcxErr.ovf : Fld := ⟨.dcxErr, 31, 1, .w1c, 0⟩
def DcxPreempt.count : Fld := ⟨.dcxPreempt, 0, 31, .ro, 0⟩
def DcxPreempt.ovf : Fld := ⟨.dcxPreempt, 31, 1, .w1c, 0⟩
def DcxLast.cause : Fld := ⟨.dcxLast, 0, 4, .ro, 0⟩
def DcxLast.engine : Fld := ⟨.dcxLast, 4, 3, .ro, 0⟩
def DcxLast.verify : Fld := ⟨.dcxLast, 7, 1, .ro, 0⟩
def DcxLast.stripe : Fld := ⟨.dcxLast, 8, 16, .ro, 0⟩
def DcxLastOfs.v : Fld := ⟨.dcxLastOfs, 0, 32, .ro, 0⟩
def DcxLastPseqLo.v : Fld := ⟨.dcxLastPseqLo, 0, 32, .ro, 0⟩
def DcxLastPseqHi.v : Fld := ⟨.dcxLastPseqHi, 0, 32, .ro, 0⟩
def CmxStat.level : Fld := ⟨.cmxStat, 0, 2, .ro, 0⟩
def CmxStat.owner : Fld := ⟨.cmxStat, 2, 2, .ro, 0⟩
def CmxStat.queued : Fld := ⟨.cmxStat, 4, 4, .ro, 0⟩
def CmxIn.v : Fld := ⟨.cmxIn, 0, 32, .ro, 0⟩
def CmxOut.v : Fld := ⟨.cmxOut, 0, 32, .ro, 0⟩
def ScrCtrl.scrMode : Fld := ⟨.scrCtrl, 0, 1, .rw, 0⟩
def ScrCtrl.compMode : Fld := ⟨.scrCtrl, 1, 1, .rws, 0⟩
def ScrCtrl.hostFallback : Fld := ⟨.scrCtrl, 2, 1, .rw, 0⟩
def ScrCommit.commit : Fld := ⟨.scrCommit, 0, 1, .wo, 0⟩
def ScrCommit.busy : Fld := ⟨.scrCommit, 1, 1, .ro, 0⟩
def ScrGenNew.v : Fld := ⟨.scrGenNew, 0, 32, .ro, 0⟩
def ScrGenCur.v : Fld := ⟨.scrGenCur, 0, 32, .ro, 0⟩
def ScrTsvalid.valid : Fld := ⟨.scrTsvalid, 0, 8, .rws, 1⟩
def ScrCnt.voidLines : Fld := ⟨.scrCnt, 0, 16, .ro, 0⟩
def ScrCnt.genLoads : Fld := ⟨.scrCnt, 16, 15, .ro, 0⟩
def ScrCnt.ovf : Fld := ⟨.scrCnt, 31, 1, .w1c, 0⟩
def ScrSset.array : Fld := ⟨.scrSset, 0, 3, .rws, 0⟩
def ScrSset.xofs : Fld := ⟨.scrSset, 8, 8, .rws, 0⟩
def ScrSset.yofs : Fld := ⟨.scrSset, 16, 8, .rws, 0⟩
def ScrSset.valid : Fld := ⟨.scrSset, 24, 1, .rws, 0⟩
def ScrThrCtl.width : Fld := ⟨.scrThrCtl, 0, 9, .rw, 0⟩
def ScrThrCtl.height : Fld := ⟨.scrThrCtl, 9, 9, .rw, 0⟩
def ScrThrCtl.state : Fld := ⟨.scrThrCtl, 18, 2, .ro, 0⟩
def ScrThrCtl.open_ : Fld := ⟨.scrThrCtl, 20, 1, .wo, 0⟩
def ScrThrCtl.close : Fld := ⟨.scrThrCtl, 21, 1, .wo, 0⟩
def ScrThrCtl.refused : Fld := ⟨.scrThrCtl, 22, 1, .w1c, 0⟩
def ScrThrCtl.monoErr : Fld := ⟨.scrThrCtl, 23, 1, .w1c, 0⟩
def ScrTsmap.curve : Fld := ⟨.scrTsmap, 0, 6, .rws, 0⟩
def CtbStage.curve : Fld := ⟨.ctbStage, 0, 6, .rws, 0⟩
def CtbStage.gain : Fld := ⟨.ctbStage, 6, 8, .rws, 0x80⟩
def CtbStage.offset : Fld := ⟨.ctbStage, 14, 8, .rws, 0⟩
def CtbStage.boost : Fld := ⟨.ctbStage, 22, 1, .rws, 0⟩
def CtbStage.exclude : Fld := ⟨.ctbStage, 23, 1, .rws, 0⟩
def CtbStage.bcurve : Fld := ⟨.ctbStage, 24, 6, .rws, 0⟩
def CtbCur.v : Fld := ⟨.ctbCur, 0, 32, .ro, 0x2000⟩
def CurveStage.v : Fld := ⟨.curveStage, 0, 12, .rws, 0⟩
def CurveCur.v : Fld := ⟨.curveCur, 0, 12, .ro, 0⟩
def NmStage.column : Fld := ⟨.nmStage, 0, 16, .rws, 0⟩
def NmStage.cs : Fld := ⟨.nmStage, 16, 2, .rws, 0⟩
def NmStage.row : Fld := ⟨.nmStage, 18, 5, .rws, 0⟩
def NmStage.state : Fld := ⟨.nmStage, 23, 2, .rws, 3⟩
def NmStage.trim : Fld := ⟨.nmStage, 25, 4, .rws, 0⟩
def NmStage.cap : Fld := ⟨.nmStage, 29, 3, .rws, 0⟩
def NmNew.v : Fld := ⟨.nmNew, 0, 32, .ro, 0x1800000⟩
def GeoStage.df : Fld := ⟨.geoStage, 0, 8, .rws, 0⟩
def GeoStage.di : Fld := ⟨.geoStage, 8, 24, .rws, 0⟩
def GeoNew.v : Fld := ⟨.geoNew, 0, 32, .ro, 0⟩
def UsabNew.v : Fld := ⟨.usabNew, 0, 32, .ro, 0⟩
def UsabCur.v : Fld := ⟨.usabCur, 0, 32, .ro, 0⟩
def NmCommit.commit : Fld := ⟨.nmCommit, 0, 1, .wo, 0⟩
def NmCommit.busy : Fld := ⟨.nmCommit, 1, 1, .ro, 0⟩
def NmCommit.refused : Fld := ⟨.nmCommit, 2, 1, .w1c, 0⟩
def NmCommit.reason : Fld := ⟨.nmCommit, 3, 2, .ro, 0⟩
def NmCommit.analyser : Fld := ⟨.nmCommit, 5, 1, .ro, 0⟩
def NmGenNew.v : Fld := ⟨.nmGenNew, 0, 32, .ro, 0⟩
def NmGenCur.v : Fld := ⟨.nmGenCur, 0, 32, .ro, 0⟩
def NmDelta.count : Fld := ⟨.nmDelta, 0, 19, .ro, 0⟩
def BrCfg.depth256 : Fld := ⟨.brCfg, 0, 7, .rws, 0x40⟩
def BrBaseLo.v : Fld := ⟨.brBaseLo, 0, 32, .ro, 0⟩
def BrBaseHi.v : Fld := ⟨.brBaseHi, 0, 32, .ro, 0⟩
def BrLead.lead : Fld := ⟨.brLead, 0, 15, .ro, 0⟩
def BrLead.leadMin : Fld := ⟨.brLead, 15, 15, .ro, 0⟩
def BrLead.minClr : Fld := ⟨.brLead, 30, 1, .wo, 0⟩
def FfCtrl.ahead : Fld := ⟨.ffCtrl, 0, 4, .rw, 0xc⟩
def FfCtrl.wErr : Fld := ⟨.ffCtrl, 4, 1, .w1c, 0⟩
def FfDutyW0.w1 : Fld := ⟨.ffDutyW0, 0, 8, .rw, 1⟩
def FfDutyW0.w2 : Fld := ⟨.ffDutyW0, 8, 8, .rw, 2⟩
def FfDutyW0.w3 : Fld := ⟨.ffDutyW0, 16, 8, .rw, 3⟩
def FfDutyW0.w4 : Fld := ⟨.ffDutyW0, 24, 8, .rw, 4⟩
def FfDutyW1.w5 : Fld := ⟨.ffDutyW1, 0, 8, .rw, 5⟩
def FfDutyW1.w6 : Fld := ⟨.ffDutyW1, 8, 8, .rw, 6⟩
def FfDutyW1.w7 : Fld := ⟨.ffDutyW1, 16, 8, .rw, 7⟩
def FfNozDutyMax.max : Fld := ⟨.ffNozDutyMax, 0, 16, .rw, 0xffff⟩
def FfHeadDutyMax.max : Fld := ⟨.ffHeadDutyMax, 0, 31, .rw, 0x7fffffff⟩
def FfCntLate.count : Fld := ⟨.ffCntLate, 0, 31, .ro, 0⟩
def FfCntLate.ovf : Fld := ⟨.ffCntLate, 31, 1, .w1c, 0⟩
def FfCntCap.count : Fld := ⟨.ffCntCap, 0, 31, .ro, 0⟩
def FfCntCap.ovf : Fld := ⟨.ffCntCap, 31, 1, .w1c, 0⟩
def FfCntDred.count : Fld := ⟨.ffCntDred, 0, 31, .ro, 0⟩
def FfCntDred.ovf : Fld := ⟨.ffCntDred, 31, 1, .w1c, 0⟩
def FfCntDrem.count : Fld := ⟨.ffCntDrem, 0, 31, .ro, 0⟩
def FfCntDrem.ovf : Fld := ⟨.ffCntDrem, 31, 1, .w1c, 0⟩
def FfCntWd.count : Fld := ⟨.ffCntWd, 0, 31, .ro, 0⟩
def FfCntWd.ovf : Fld := ⟨.ffCntWd, 31, 1, .w1c, 0⟩
def FfScreeBaseLo.v : Fld := ⟨.ffScreeBaseLo, 0, 32, .ro, 0⟩
def FfScreeBaseHi.v : Fld := ⟨.ffScreeBaseHi, 0, 32, .ro, 0⟩
def FfScreeSize.log2 : Fld := ⟨.ffScreeSize, 0, 5, .rws, 0x10⟩
def FfScreeWr.v : Fld := ⟨.ffScreeWr, 0, 32, .ro, 0⟩
def FfScreeRd.v : Fld := ⟨.ffScreeRd, 0, 32, .rw, 0⟩
def FfScreeLost.count : Fld := ⟨.ffScreeLost, 0, 31, .ro, 0⟩
def FfScreeLost.ovf : Fld := ⟨.ffScreeLost, 31, 1, .w1c, 0⟩
def FfScreeEnt.v : Fld := ⟨.ffScreeEnt, 0, 32, .ro, 0⟩
def FpeCtrl.srcA : Fld := ⟨.fpeCtrl, 0, 3, .rw, 0⟩
def FpeCtrl.srcB : Fld := ⟨.fpeCtrl, 3, 3, .rw, 1⟩
def FpeCtrl.dirA : Fld := ⟨.fpeCtrl, 6, 1, .rw, 0⟩
def FpeCtrl.dirB : Fld := ⟨.fpeCtrl, 7, 1, .rw, 0⟩
def FpeCtrl.autoB : Fld := ⟨.fpeCtrl, 8, 1, .rw, 1⟩
def FpeCtrl.selB : Fld := ⟨.fpeCtrl, 9, 1, .wo, 0⟩
def FpeCtrl.selA : Fld := ⟨.fpeCtrl, 10, 1, .wo, 0⟩
def FpeCtrl.xchkC : Fld := ⟨.fpeCtrl, 11, 3, .rw, 0⟩
def FpeCtrl.xchkD : Fld := ⟨.fpeCtrl, 14, 3, .rw, 0⟩
def FpeCtrl.xchkEn : Fld := ⟨.fpeCtrl, 17, 1, .rw, 0⟩
def FpeCtrl.res : Fld := ⟨.fpeCtrl, 18, 2, .rws, 1⟩
def FpeStat.mode : Fld := ⟨.fpeStat, 0, 3, .ro, 0⟩
def FpeStat.behind : Fld := ⟨.fpeStat, 3, 1, .ro, 0⟩
def FpeStat.overspeed : Fld := ⟨.fpeStat, 4, 1, .ro, 0⟩
def FpeStat.stretch : Fld := ⟨.fpeStat, 5, 1, .ro, 0⟩
def FpeStat.absorb : Fld := ⟨.fpeStat, 6, 1, .ro, 0⟩
def FpeStat.adv : Fld := ⟨.fpeStat, 7, 1, .ro, 0⟩
def FpeStat.aOk : Fld := ⟨.fpeStat, 8, 1, .ro, 0⟩
def FpeStat.bOk : Fld := ⟨.fpeStat, 9, 1, .ro, 0⟩
def FpePosLo.v : Fld := ⟨.fpePosLo, 0, 32, .ro, 0⟩
def FpePosHi.v : Fld := ⟨.fpePosHi, 0, 32, .ro, 0⟩
def FpeHwmLo.v : Fld := ⟨.fpeHwmLo, 0, 32, .ro, 0⟩
def FpeHwmHi.v : Fld := ⟨.fpeHwmHi, 0, 32, .ro, 0⟩
def FpePeriod.v : Fld := ⟨.fpePeriod, 0, 32, .ro, 0⟩
def FpeScaleALo.v : Fld := ⟨.fpeScaleALo, 0, 32, .rws, 0⟩
def FpeScaleAHi.v : Fld := ⟨.fpeScaleAHi, 0, 16, .rws, 1⟩
def FpeScaleBLo.v : Fld := ⟨.fpeScaleBLo, 0, 32, .rws, 0⟩
def FpeScaleBHi.v : Fld := ⟨.fpeScaleBHi, 0, 16, .rws, 1⟩
def FpeCoastMax.ms : Fld := ⟨.fpeCoastMax, 0, 16, .rw, 0x64⟩
def FpeXchk.xchkMax : Fld := ⟨.fpeXchk, 0, 24, .rw, 0xa00⟩
def FpeStretch.stretchMax : Fld := ⟨.fpeStretch, 0, 12, .rw, 0x40⟩
def FpeStretch.lag : Fld := ⟨.fpeStretch, 12, 12, .ro, 0⟩
def FpeAdv.onPct : Fld := ⟨.fpeAdv, 0, 8, .rw, 0x62⟩
def FpeAdv.offPct : Fld := ⟨.fpeAdv, 8, 8, .rw, 0x5f⟩
def FpeAdv.absHold : Fld := ⟨.fpeAdv, 16, 16, .rw, 0x1f4⟩
def FpeAllowed.v : Fld := ⟨.fpeAllowed, 0, 32, .ro, 0⟩
def FpeRegOfs.ofs : Fld := ⟨.fpeRegOfs, 0, 24, .rw, 0⟩
def FpeOfsSlew.pu : Fld := ⟨.fpeOfsSlew, 0, 6, .rw, 0x10⟩
def FpeCntSkip.count : Fld := ⟨.fpeCntSkip, 0, 31, .ro, 0⟩
def FpeCntSkip.ovf : Fld := ⟨.fpeCntSkip, 31, 1, .w1c, 0⟩
def FpeCntSlip.count : Fld := ⟨.fpeCntSlip, 0, 31, .ro, 0⟩
def FpeCntSlip.ovf : Fld := ⟨.fpeCntSlip, 31, 1, .w1c, 0⟩
def FpeCntCoastbl.count : Fld := ⟨.fpeCntCoastbl, 0, 31, .ro, 0⟩
def FpeCntCoastbl.ovf : Fld := ⟨.fpeCntCoastbl, 31, 1, .w1c, 0⟩
def FpeCntFall.count : Fld := ⟨.fpeCntFall, 0, 31, .ro, 0⟩
def FpeCntFall.ovf : Fld := ⟨.fpeCntFall, 31, 1, .w1c, 0⟩
def FpeTofOfs.v : Fld := ⟨.fpeTofOfs, 0, 32, .rw, 0⟩
def FpePhase.phase : Fld := ⟨.fpePhase, 0, 24, .rw, 0⟩
def HpCtrl.depth : Fld := ⟨.hpCtrl, 0, 2, .rw, 3⟩
def HpCtrl.tickle : Fld := ⟨.hpCtrl, 2, 1, .rw, 0⟩
def HpCtrl.sleepEn : Fld := ⟨.hpCtrl, 3, 1, .rw, 0⟩
def HpCtrl.ackTo : Fld := ⟨.hpCtrl, 4, 4, .rw, 2⟩
def HpStat.state : Fld := ⟨.hpStat, 0, 3, .ro, 0⟩
def HpStat.verified : Fld := ⟨.hpStat, 3, 1, .ro, 0⟩
def HpStat.unverified : Fld := ⟨.hpStat, 4, 1, .ro, 0⟩
def HpStat.timeOk : Fld := ⟨.hpStat, 5, 1, .ro, 0⟩
def HpStat.tablesOk : Fld := ⟨.hpStat, 6, 1, .ro, 0⟩
def HpStat.rateLim : Fld := ⟨.hpStat, 7, 1, .w1c, 0⟩
def HpStat.helloErr : Fld := ⟨.hpStat, 8, 1, .w1c, 0⟩
def HpStat.eHi : Fld := ⟨.hpStat, 16, 8, .ro, 0⟩
def HpLdly.dly : Fld := ⟨.hpLdly, 0, 24, .ro, 0⟩
def HpLdly.spread : Fld := ⟨.hpLdly, 24, 8, .ro, 0⟩
def HpIdLo.v : Fld := ⟨.hpIdLo, 0, 32, .ro, 0⟩
def HpIdHi.v : Fld := ⟨.hpIdHi, 0, 32, .ro, 0⟩
def HpIdInfo.family : Fld := ⟨.hpIdInfo, 0, 16, .ro, 0⟩
def HpIdInfo.nozzles : Fld := ⟨.hpIdInfo, 16, 12, .ro, 0⟩
def HpIdGeom.rows : Fld := ⟨.hpIdGeom, 0, 6, .ro, 0⟩
def HpIdGeom.caps : Fld := ⟨.hpIdGeom, 8, 8, .ro, 0⟩
def HpIdGeom.proto : Fld := ⟨.hpIdGeom, 16, 16, .ro, 0⟩
def HpCntResend.count : Fld := ⟨.hpCntResend, 0, 31, .ro, 0⟩
def HpCntResend.ovf : Fld := ⟨.hpCntResend, 31, 1, .w1c, 0⟩
def HpCntLost.count : Fld := ⟨.hpCntLost, 0, 31, .ro, 0⟩
def HpCntLost.ovf : Fld := ⟨.hpCntLost, 31, 1, .w1c, 0⟩
def HpCntRefused.count : Fld := ⟨.hpCntRefused, 0, 31, .ro, 0⟩
def HpCntRefused.ovf : Fld := ⟨.hpCntRefused, 31, 1, .w1c, 0⟩
def HpCntUperr.count : Fld := ⟨.hpCntUperr, 0, 31, .ro, 0⟩
def HpCntUperr.ovf : Fld := ⟨.hpCntUperr, 31, 1, .w1c, 0⟩
def HpTelem.vdrive : Fld := ⟨.hpTelem, 0, 16, .ro, 0⟩
def HpTelem.status : Fld := ⟨.hpTelem, 16, 16, .ro, 0⟩
def HpUsageLo.v : Fld := ⟨.hpUsageLo, 0, 32, .ro, 0⟩
def HpUsageHi.v : Fld := ⟨.hpUsageHi, 0, 32, .ro, 0⟩
def HpRate.maxRate : Fld := ⟨.hpRate, 0, 20, .rw, 0x3e800⟩
def HpTherm.htLimit : Fld := ⟨.hpTherm, 0, 16, .rw, 0x1770⟩
def HpTherm.htHyst : Fld := ⟨.hpTherm, 16, 12, .rw, 0xc8⟩
def HpTstat.temp : Fld := ⟨.hpTstat, 0, 16, .ro, 0⟩
def HpTstat.hold : Fld := ⟨.hpTstat, 16, 1, .ro, 0⟩
def HpTstat.stale : Fld := ⟨.hpTstat, 17, 1, .ro, 0⟩
def HpTstat.holdSeen : Fld := ⟨.hpTstat, 18, 1, .w1c, 0⟩
def HpTstat.holds : Fld := ⟨.hpTstat, 19, 12, .ro, 0⟩
def HpTstat.ovf : Fld := ⟨.hpTstat, 31, 1, .w1c, 0⟩
def HpWscale.wscale : Fld := ⟨.hpWscale, 0, 16, .ro, 0x4000⟩
def HpGctrl.unverFire : Fld := ⟨.hpGctrl, 0, 1, .rw, 0⟩
def HpGctrl.echoPeriod : Fld := ⟨.hpGctrl, 8, 8, .rw, 0xa⟩
def EncCfg.en : Fld := ⟨.encCfg, 0, 1, .rw, 0⟩
def EncCfg.filt : Fld := ⟨.encCfg, 1, 3, .rw, 2⟩
def EncCfg.idxMode : Fld := ⟨.encCfg, 4, 2, .rw, 0⟩
def EncCfg.arm : Fld := ⟨.encCfg, 6, 1, .wo, 0⟩
def EncCfg.idxState : Fld := ⟨.encCfg, 7, 2, .rw, 3⟩
def EncCfg.dir : Fld := ⟨.encCfg, 9, 1, .rw, 0⟩
def EncCfg.diagEn : Fld := ⟨.encCfg, 10, 1, .rw, 1⟩
def EncCfg.uncClr : Fld := ⟨.encCfg, 11, 1, .wo, 0⟩
def EncStat.healthy : Fld := ⟨.encStat, 0, 1, .ro, 0⟩
def EncStat.fault : Fld := ⟨.encStat, 1, 1, .ro, 0⟩
def EncStat.still : Fld := ⟨.encStat, 2, 1, .ro, 0⟩
def EncStat.speedInvalid : Fld := ⟨.encStat, 3, 1, .ro, 0⟩
def EncStat.rev : Fld := ⟨.encStat, 4, 1, .ro, 0⟩
def EncStat.dirNow : Fld := ⟨.encStat, 5, 1, .ro, 0⟩
def EncStat.armed : Fld := ⟨.encStat, 6, 1, .ro, 0⟩
def EncStat.open_ : Fld := ⟨.encStat, 7, 1, .ro, 0⟩
def EncStat.cmLow : Fld := ⟨.encStat, 8, 1, .ro, 0⟩
def EncStat.cmHigh : Fld := ⟨.encStat, 9, 1, .ro, 0⟩
def EncStat.reversed : Fld := ⟨.encStat, 10, 1, .ro, 0⟩
def EncStat.wireSeen : Fld := ⟨.encStat, 11, 1, .w1c, 0⟩
def EncStat.idxSeen : Fld := ⟨.encStat, 12, 1, .w1c, 0⟩
def EncPosLo.v : Fld := ⟨.encPosLo, 0, 32, .ro, 0⟩
def EncPosHi.v : Fld := ⟨.encPosHi, 0, 32, .ro, 0⟩
def EncIdxVal.v : Fld := ⟨.encIdxVal, 0, 32, .rw, 0⟩
def EncIdxLatLo.v : Fld := ⟨.encIdxLatLo, 0, 32, .ro, 0⟩
def EncIdxLatHi.v : Fld := ⟨.encIdxLatHi, 0, 32, .ro, 0⟩
def EncSpeed.v : Fld := ⟨.encSpeed, 0, 32, .ro, 0⟩
def EncSpdCtrl.avg : Fld := ⟨.encSpdCtrl, 0, 8, .rw, 4⟩
def EncSpdCtrl.stillTime : Fld := ⟨.encSpdCtrl, 8, 16, .rw, 0x3e8⟩
def EncUnc.unc : Fld := ⟨.encUnc, 0, 16, .ro, 0⟩
def EncUnc.uncMax : Fld := ⟨.encUnc, 16, 16, .rw, 8⟩
def EncQerr.count : Fld := ⟨.encQerr, 0, 31, .ro, 0⟩
def EncQerr.ovf : Fld := ⟨.encQerr, 31, 1, .w1c, 0⟩
def SsiCfg.len : Fld := ⟨.ssiCfg, 0, 6, .rw, 0x19⟩
def SsiCfg.errb : Fld := ⟨.ssiCfg, 6, 2, .rw, 0⟩
def SsiCfg.gray : Fld := ⟨.ssiCfg, 8, 1, .rw, 1⟩
def SsiCfg.double : Fld := ⟨.ssiCfg, 9, 1, .rw, 0⟩
def SsiCfg.en : Fld := ⟨.ssiCfg, 10, 1, .rw, 0⟩
def SsiCfg.half : Fld := ⟨.ssiCfg, 11, 12, .rw, 0xfa⟩
def SsiCfg.mono : Fld := ⟨.ssiCfg, 23, 6, .rw, 0x14⟩
def SsiTrig.periodLq : Fld := ⟨.ssiTrig, 0, 16, .rw, 0⟩
def SsiTrig.go : Fld := ⟨.ssiTrig, 16, 1, .wo, 0⟩
def SsiTrig.smpDly : Fld := ⟨.ssiTrig, 17, 8, .rw, 0⟩
def SsiStat.errbits : Fld := ⟨.ssiStat, 0, 3, .ro, 0⟩
def SsiStat.valid : Fld := ⟨.ssiStat, 3, 1, .ro, 0⟩
def SsiStat.busyErr : Fld := ⟨.ssiStat, 4, 1, .w1c, 0⟩
def SsiStat.startErr : Fld := ⟨.ssiStat, 5, 1, .w1c, 0⟩
def SsiStat.monoErr : Fld := ⟨.ssiStat, 6, 1, .w1c, 0⟩
def SsiStat.dblErr : Fld := ⟨.ssiStat, 7, 1, .w1c, 0⟩
def SsiStat.wire : Fld := ⟨.ssiStat, 8, 1, .ro, 0⟩
def SsiStat.seq : Fld := ⟨.ssiStat, 16, 16, .ro, 0⟩
def SsiData.v : Fld := ⟨.ssiData, 0, 32, .ro, 0⟩
def SsiTimeLo.v : Fld := ⟨.ssiTimeLo, 0, 32, .ro, 0⟩
def SsiTimeHi.v : Fld := ⟨.ssiTimeHi, 0, 32, .ro, 0⟩
def PrbCfg.filt : Fld := ⟨.prbCfg, 0, 3, .rw, 2⟩
def PrbCfg.edge : Fld := ⟨.prbCfg, 3, 2, .rw, 1⟩
def PrbCfg.encSel : Fld := ⟨.prbCfg, 5, 3, .rw, 0⟩
def PrbCfg.idle : Fld := ⟨.prbCfg, 8, 1, .rw, 0⟩
def PrbCfg.diagEn : Fld := ⟨.prbCfg, 9, 1, .rw, 1⟩
def PrbCfg.actMax : Fld := ⟨.prbCfg, 16, 16, .rw, 0x3e8⟩
def PrbStat.fill : Fld := ⟨.prbStat, 0, 3, .ro, 0⟩
def PrbStat.ovf : Fld := ⟨.prbStat, 3, 1, .w1c, 0⟩
def PrbStat.wire : Fld := ⟨.prbStat, 4, 1, .ro, 0⟩
def PrbStat.stuck : Fld := ⟨.prbStat, 5, 1, .ro, 0⟩
def PrbStat.wireSeen : Fld := ⟨.prbStat, 6, 1, .w1c, 0⟩
def PrbStat.pop : Fld := ⟨.prbStat, 7, 1, .wo, 0⟩
def PrbRec.v : Fld := ⟨.prbRec, 0, 32, .ro, 0⟩
def LeCfg.en : Fld := ⟨.leCfg, 0, 1, .rw, 0⟩
def LeCfg.law : Fld := ⟨.leCfg, 1, 1, .rw, 0⟩
def LeCfg.mode : Fld := ⟨.leCfg, 2, 2, .rw, 0⟩
def LeCfg.newOnly : Fld := ⟨.leCfg, 4, 1, .rw, 0⟩
def LeCfg.hostFb : Fld := ⟨.leCfg, 5, 1, .rw, 0⟩
def LeCfg.swap : Fld := ⟨.leCfg, 6, 1, .wo, 0⟩
def LeCfg.resetHist : Fld := ⟨.leCfg, 7, 1, .rw, 0⟩
def LeCfg.abort : Fld := ⟨.leCfg, 8, 1, .wo, 0⟩
def LeCfg.grade : Fld := ⟨.leCfg, 9, 1, .ro, 0⟩
def LeSched.period : Fld := ⟨.leSched, 0, 16, .rw, 0⟩
def LeSched.phase : Fld := ⟨.leSched, 16, 16, .rw, 0⟩
def LeSrc.src : Fld := ⟨.leSrc, 0, 4, .rw, 0⟩
def LeSrc.inst : Fld := ⟨.leSrc, 4, 8, .rw, 0⟩
def LeSrc.inv : Fld := ⟨.leSrc, 12, 1, .rw, 0⟩
def LeSrc.sink : Fld := ⟨.leSrc, 16, 4, .rw, 0⟩
def LeSrc.sinkInst : Fld := ⟨.leSrc, 20, 8, .rw, 0⟩
def LeRef.v : Fld := ⟨.leRef, 0, 32, .rw, 0⟩
def LeOmin.v : Fld := ⟨.leOmin, 0, 32, .rw, 0⟩
def LeOmax.v : Fld := ⟨.leOmax, 0, 32, .rw, 0⟩
def LeOpenVal.v : Fld := ⟨.leOpenVal, 0, 32, .rw, 0⟩
def LeSlew.v : Fld := ⟨.leSlew, 0, 32, .rw, 0⟩
def LeGapmax.v : Fld := ⟨.leGapmax, 0, 32, .rw, 0⟩
def LeStat.sat : Fld := ⟨.leStat, 0, 1, .ro, 0⟩
def LeStat.saddle : Fld := ⟨.leStat, 1, 1, .ro, 0⟩
def LeStat.swapPend : Fld := ⟨.leStat, 2, 1, .ro, 0⟩
def LeStat.forced : Fld := ⟨.leStat, 3, 1, .ro, 0⟩
def LeStat.refused : Fld := ⟨.leStat, 4, 1, .w1c, 0⟩
def LeStat.limErr : Fld := ⟨.leStat, 5, 1, .w1c, 0⟩
def LeStat.seq : Fld := ⟨.leStat, 16, 16, .ro, 0⟩
def LeOut.v : Fld := ⟨.leOut, 0, 32, .ro, 0⟩
def LeLaw.v : Fld := ⟨.leLaw, 0, 32, .ro, 0⟩
def LeErr.v : Fld := ⟨.leErr, 0, 32, .ro, 0⟩
def LeHostOut.v : Fld := ⟨.leHostOut, 0, 32, .rw, 0⟩
def LeHostSeq.seq : Fld := ⟨.leHostSeq, 0, 16, .wo, 0⟩
def LeB0.v : Fld := ⟨.leB0, 0, 32, .rw, 0⟩
def LeB1.v : Fld := ⟨.leB1, 0, 32, .rw, 0⟩
def LeB2.v : Fld := ⟨.leB2, 0, 32, .rw, 0⟩
def LeB3.v : Fld := ⟨.leB3, 0, 32, .rw, 0⟩
def LeA1.v : Fld := ⟨.leA1, 0, 32, .rw, 0⟩
def LeA2.v : Fld := ⟨.leA2, 0, 32, .rw, 0⟩
def LeA3.v : Fld := ⟨.leA3, 0, 32, .rw, 0⟩
def LeCsh0.b0 : Fld := ⟨.leCsh0, 0, 6, .rw, 0⟩
def LeCsh0.b1 : Fld := ⟨.leCsh0, 6, 6, .rw, 0⟩
def LeCsh0.b2 : Fld := ⟨.leCsh0, 12, 6, .rw, 0⟩
def LeCsh0.b3 : Fld := ⟨.leCsh0, 18, 6, .rw, 0⟩
def LeCsh1.a1 : Fld := ⟨.leCsh1, 0, 6, .rw, 0⟩
def LeCsh1.a2 : Fld := ⟨.leCsh1, 6, 6, .rw, 0⟩
def LeCsh1.a3 : Fld := ⟨.leCsh1, 12, 6, .rw, 0⟩
def LeCsh1.gsh : Fld := ⟨.leCsh1, 24, 3, .rw, 0⟩
def LeCsum.v : Fld := ⟨.leCsum, 0, 32, .ro, 0⟩
def LeCntMiss.count : Fld := ⟨.leCntMiss, 0, 31, .ro, 0⟩
def LeCntMiss.ovf : Fld := ⟨.leCntMiss, 31, 1, .w1c, 0⟩
def LeCntLate.count : Fld := ⟨.leCntLate, 0, 31, .ro, 0⟩
def LeCntLate.ovf : Fld := ⟨.leCntLate, 31, 1, .w1c, 0⟩
def LeGctrl.thermMode : Fld := ⟨.leGctrl, 0, 1, .rw, 0⟩
def LeGctrl.thermFb : Fld := ⟨.leGctrl, 1, 1, .rw, 0⟩
def LeGctrl.regMode : Fld := ⟨.leGctrl, 2, 1, .rw, 0⟩
def LeGctrl.regFb : Fld := ⟨.leGctrl, 3, 1, .rw, 0⟩
def LeGctrl.hostSilence : Fld := ⟨.leGctrl, 16, 16, .rw, 0x64⟩
def LeLoad.peak : Fld := ⟨.leLoad, 0, 7, .ro, 0⟩
def TrcCfg.en : Fld := ⟨.trcCfg, 0, 1, .rw, 0⟩
def TrcCfg.arm : Fld := ⟨.trcCfg, 1, 1, .wo, 0⟩
def TrcCfg.trig : Fld := ⟨.trcCfg, 2, 3, .rw, 0⟩
def TrcCfg.force : Fld := ⟨.trcCfg, 5, 1, .wo, 0⟩
def TrcCfg.base : Fld := ⟨.trcCfg, 8, 8, .rw, 0⟩
def TrcCfg.decim : Fld := ⟨.trcCfg, 16, 8, .rw, 0⟩
def TrcCfg.pre : Fld := ⟨.trcCfg, 24, 8, .rw, 0⟩
def TrcNode0.slot0 : Fld := ⟨.trcNode0, 0, 8, .rw, 0⟩
def TrcNode0.kind0 : Fld := ⟨.trcNode0, 8, 2, .rw, 0⟩
def TrcNode0.slot1 : Fld := ⟨.trcNode0, 16, 8, .rw, 0⟩
def TrcNode0.kind1 : Fld := ⟨.trcNode0, 24, 2, .rw, 0⟩
def TrcNode1.slot2 : Fld := ⟨.trcNode1, 0, 8, .rw, 0⟩
def TrcNode1.kind2 : Fld := ⟨.trcNode1, 8, 2, .rw, 0⟩
def TrcNode1.slot3 : Fld := ⟨.trcNode1, 16, 8, .rw, 0⟩
def TrcNode1.kind3 : Fld := ⟨.trcNode1, 24, 2, .rw, 0⟩
def TrcLevel.v : Fld := ⟨.trcLevel, 0, 32, .rw, 0⟩
def TrcStat.state : Fld := ⟨.trcStat, 0, 2, .ro, 0⟩
def TrcStat.widx : Fld := ⟨.trcStat, 2, 13, .ro, 0⟩
def TrcStat.tidx : Fld := ⟨.trcStat, 15, 13, .ro, 0⟩
def TrcStat.dumpBusy : Fld := ⟨.trcStat, 28, 1, .ro, 0⟩
def TrcStat.dumpRef : Fld := ⟨.trcStat, 29, 1, .w1c, 0⟩
def TrcT0Lo.v : Fld := ⟨.trcT0Lo, 0, 32, .ro, 0⟩
def TrcT0Hi.v : Fld := ⟨.trcT0Hi, 0, 32, .ro, 0⟩
def TrcDumpLo.v : Fld := ⟨.trcDumpLo, 0, 32, .rw, 0⟩
def TrcDumpHi.v : Fld := ⟨.trcDumpHi, 0, 8, .rw, 0⟩
def TrcDumpCtl.go : Fld := ⟨.trcDumpCtl, 0, 1, .wo, 0⟩
def TrcDumpCtl.len : Fld := ⟨.trcDumpCtl, 8, 24, .ro, 0⟩
def TrcBuf.v : Fld := ⟨.trcBuf, 0, 32, .ro, 0⟩
def CamCfg.bits : Fld := ⟨.camCfg, 0, 5, .rw, 0x10⟩
def CamCfg.shared : Fld := ⟨.camCfg, 5, 1, .rw, 0⟩
def CamCfg.hsPol : Fld := ⟨.camCfg, 6, 1, .rw, 0⟩
def CamCfg.vsPol : Fld := ⟨.camCfg, 7, 1, .rw, 0⟩
def CamCfg.trigPol : Fld := ⟨.camCfg, 8, 1, .rw, 0⟩
def CamCfg.en : Fld := ⟨.camCfg, 9, 1, .rw, 0⟩
def CamCfg.selGap : Fld := ⟨.camCfg, 10, 8, .rw, 5⟩
def CamTrig.src : Fld := ⟨.camTrig, 0, 2, .rw, 0⟩
def CamTrig.go : Fld := ⟨.camTrig, 2, 1, .wo, 0⟩
def CamTrig.abort : Fld := ⟨.camTrig, 3, 1, .wo, 0⟩
def CamTrig.periodLq : Fld := ⟨.camTrig, 4, 16, .rw, 0⟩
def CamTrig.trigW : Fld := ⟨.camTrig, 20, 8, .rw, 0x10⟩
def CamDistLo.v : Fld := ⟨.camDistLo, 0, 32, .rw, 0⟩
def CamDistHi.v : Fld := ⟨.camDistHi, 0, 32, .rw, 0⟩
def CamFrameTo.to : Fld := ⟨.camFrameTo, 0, 16, .rw, 0x7530⟩
def CamStat.out0 : Fld := ⟨.camStat, 0, 3, .ro, 0⟩
def CamStat.out1 : Fld := ⟨.camStat, 3, 3, .ro, 0⟩
def CamStat.sel : Fld := ⟨.camStat, 6, 1, .ro, 0⟩
def CamCntSkip.count : Fld := ⟨.camCntSkip, 0, 31, .ro, 0⟩
def CamCntSkip.ovf : Fld := ⟨.camCntSkip, 31, 1, .w1c, 0⟩
def CamCntUnsol.count : Fld := ⟨.camCntUnsol, 0, 31, .ro, 0⟩
def CamCntUnsol.ovf : Fld := ⟨.camCntUnsol, 31, 1, .w1c, 0⟩
def IspSize.width : Fld := ⟨.ispSize, 0, 15, .rws, 0⟩
def IspSize.height : Fld := ⟨.ispSize, 15, 16, .rws, 0⟩
def IspMode.cfa : Fld := ⟨.ispMode, 0, 3, .rws, 0⟩
def IspMode.dpcEn : Fld := ⟨.ispMode, 3, 1, .rws, 1⟩
def IspMode.ffEn : Fld := ⟨.ispMode, 4, 1, .rws, 1⟩
def IspMode.sharpCh : Fld := ⟨.ispMode, 5, 3, .rws, 0⟩
def IspMode.inkOwn : Fld := ⟨.ispMode, 8, 3, .rws, 3⟩
def IspMode.inkRef : Fld := ⟨.ispMode, 11, 3, .rws, 1⟩
def IspMode.sharpEn : Fld := ⟨.ispMode, 14, 1, .rws, 0⟩
def IspMode.stripEn : Fld := ⟨.ispMode, 15, 1, .rws, 0⟩
def IspMode.markEn : Fld := ⟨.ispMode, 16, 1, .rws, 0⟩
def IspMode.densEn : Fld := ⟨.ispMode, 17, 1, .rws, 0⟩
def IspBlack.b0 : Fld := ⟨.ispBlack, 0, 16, .rws, 0⟩
def IspBlack.b1 : Fld := ⟨.ispBlack, 16, 16, .rws, 0⟩
def IspWb.g0 : Fld := ⟨.ispWb, 0, 16, .rws, 0x1000⟩
def IspWb.g1 : Fld := ⟨.ispWb, 16, 16, .rws, 0x1000⟩
def IspCcm.c0 : Fld := ⟨.ispCcm, 0, 16, .rws, 0⟩
def IspCcm.c1 : Fld := ⟨.ispCcm, 16, 16, .rws, 0⟩
def IspSep.c0 : Fld := ⟨.ispSep, 0, 16, .rws, 0⟩
def IspSep.c1 : Fld := ⟨.ispSep, 16, 16, .rws, 0⟩
def IspSepofs.c0 : Fld := ⟨.ispSepofs, 0, 16, .rws, 0⟩
def IspSepofs.c1 : Fld := ⟨.ispSepofs, 16, 16, .rws, 0⟩
def IspStrobe.ls : Fld := ⟨.ispStrobe, 0, 4, .rws, 0⟩
def IspStrobe.en : Fld := ⟨.ispStrobe, 4, 1, .rws, 0⟩
def IspStrobe.i : Fld := ⟨.ispStrobe, 5, 10, .rws, 0⟩
def IspStrobeW.v : Fld := ⟨.ispStrobeW, 0, 32, .rws, 0xfa⟩
def IspStrobeDly.v : Fld := ⟨.ispStrobeDly, 0, 32, .rws, 0⟩
def IspCommit.commit : Fld := ⟨.ispCommit, 0, 1, .wo, 0⟩
def IspCommit.busy : Fld := ⟨.ispCommit, 1, 1, .ro, 0⟩
def IspCommit.pend : Fld := ⟨.ispCommit, 2, 1, .ro, 0⟩
def IspCommit.late : Fld := ⟨.ispCommit, 3, 1, .w1c, 0⟩
def IspCommit.gen : Fld := ⟨.ispCommit, 16, 16, .ro, 0⟩
def IspTarget.v : Fld := ⟨.ispTarget, 0, 32, .rw, 0⟩
def IspTseq.v : Fld := ⟨.ispTseq, 0, 32, .ro, 0⟩
def IspApplied.v : Fld := ⟨.ispApplied, 0, 32, .ro, 0⟩
def IspGenCur.gen : Fld := ⟨.ispGenCur, 0, 16, .ro, 0⟩
def IspCol0.v : Fld := ⟨.ispCol0, 0, 32, .rws, 0⟩
def IspCscale.v : Fld := ⟨.ispCscale, 0, 32, .rws, 0x20000⟩
def IspAscale.v : Fld := ⟨.ispAscale, 0, 32, .rws, 0x200⟩
def IspY0.v : Fld := ⟨.ispY0, 0, 32, .rws, 0⟩
def IspDefect.x : Fld := ⟨.ispDefect, 0, 14, .rws, 0⟩
def IspDefect.y : Fld := ⟨.ispDefect, 16, 14, .rws, 0⟩
def IspCurve.v : Fld := ⟨.ispCurve, 0, 16, .rws, 0⟩
def IspFlat.g0 : Fld := ⟨.ispFlat, 0, 16, .rws, 0x4000⟩
def IspFlat.g1 : Fld := ⟨.ispFlat, 16, 16, .rws, 0x4000⟩
def InsCtrl.chkCode : Fld := ⟨.insCtrl, 0, 3, .rw, 5⟩
def InsCtrl.chkMissN : Fld := ⟨.insCtrl, 3, 3, .rw, 2⟩
def InsCtrl.chkGoodN : Fld := ⟨.insCtrl, 9, 3, .rw, 1⟩
def InsCtrl.hmClr : Fld := ⟨.insCtrl, 12, 1, .wo, 0⟩
def InsChkDen.missDen : Fld := ⟨.insChkDen, 0, 8, .rw, 0x40⟩
def InsChkDen.weakDen : Fld := ⟨.insChkDen, 8, 8, .rw, 0xb3⟩
def InsChkDen.trimDb : Fld := ⟨.insChkDen, 16, 4, .rw, 2⟩
def InsTrl.gap : Fld := ⟨.insTrl, 0, 12, .rw, 0x40⟩
def InsTrl.markCode : Fld := ⟨.insTrl, 12, 3, .rw, 0⟩
def InsHmIdx.idx : Fld := ⟨.insHmIdx, 0, 18, .rw, 0⟩
def InsHmDataLo.v : Fld := ⟨.insHmDataLo, 0, 32, .ro, 0⟩
def InsHmDataHi.v : Fld := ⟨.insHmDataHi, 0, 32, .ro, 0⟩
def InsMarkPos.col : Fld := ⟨.insMarkPos, 0, 16, .rw, 0⟩
def InsMarkPos.tmpl : Fld := ⟨.insMarkPos, 16, 3, .rw, 0⟩
def InsMarkPos.en : Fld := ⟨.insMarkPos, 19, 1, .rw, 0⟩
def InsMark.search : Fld := ⟨.insMark, 0, 8, .rw, 0x40⟩
def InsMark.markMin : Fld := ⟨.insMark, 16, 16, .rw, 0x6000⟩
def InsMarkNom.along : Fld := ⟨.insMarkNom, 0, 16, .rw, 0⟩
def InsMarkNom.cross : Fld := ⟨.insMarkNom, 16, 16, .rw, 0⟩
def InsFocus.dither : Fld := ⟨.insFocus, 0, 8, .rw, 0⟩
def InsFocus.ctx : Fld := ⟨.insFocus, 8, 3, .rw, 0⟩
def InsFocusMaskLo.v : Fld := ⟨.insFocusMaskLo, 0, 32, .rw, 0xffffffff⟩
def InsFocusMaskHi.v : Fld := ⟨.insFocusMaskHi, 0, 32, .rw, 0xffffffff⟩
def InsGap.ctx : Fld := ⟨.insGap, 0, 3, .rw, 0⟩
def InsGapMaskLo.v : Fld := ⟨.insGapMaskLo, 0, 32, .rw, 0xffffffff⟩
def InsGapMaskHi.v : Fld := ⟨.insGapMaskHi, 0, 32, .rw, 0xffffffff⟩
def InsSrc.v : Fld := ⟨.insSrc, 0, 32, .ro, 0⟩
def InsResBaseLo.v : Fld := ⟨.insResBaseLo, 0, 32, .ro, 0⟩
def InsResBaseHi.v : Fld := ⟨.insResBaseHi, 0, 32, .ro, 0⟩
def InsResSize.log2 : Fld := ⟨.insResSize, 0, 5, .rws, 0x10⟩
def InsResWr.v : Fld := ⟨.insResWr, 0, 32, .ro, 0⟩
def InsResRd.v : Fld := ⟨.insResRd, 0, 32, .rw, 0⟩
def InsResLost.count : Fld := ⟨.insResLost, 0, 31, .ro, 0⟩
def InsResLost.ovf : Fld := ⟨.insResLost, 31, 1, .w1c, 0⟩
def InsCap.ctx : Fld := ⟨.insCap, 0, 3, .rw, 0⟩
def InsCap.stage : Fld := ⟨.insCap, 3, 1, .rw, 0⟩
def InsCap.go : Fld := ⟨.insCap, 4, 1, .wo, 0⟩
def InsCapTarget.v : Fld := ⟨.insCapTarget, 0, 32, .rw, 0⟩
def InsCapDstLo.v : Fld := ⟨.insCapDstLo, 0, 32, .rw, 0⟩
def InsCapDstHi.v : Fld := ⟨.insCapDstHi, 0, 8, .rw, 0⟩
def InsResEnt.v : Fld := ⟨.insResEnt, 0, 32, .ro, 0⟩
def InsTmpl.v : Fld := ⟨.insTmpl, 0, 32, .rw, 0⟩
def LmpCfg.type : Fld := ⟨.lmpCfg, 0, 1, .rw, 0⟩
def LmpCfg.en : Fld := ⟨.lmpCfg, 1, 1, .rw, 0⟩
def LmpCfg.nseg : Fld := ⟨.lmpCfg, 2, 4, .rw, 0xf⟩
def LmpCfg.class_ : Fld := ⟨.lmpCfg, 6, 3, .rw, 0⟩
def LmpCfg.ntc : Fld := ⟨.lmpCfg, 9, 3, .rw, 0⟩
def LmpCfg.comp : Fld := ⟨.lmpCfg, 12, 2, .rw, 0⟩
def LmpCfg.diagEn : Fld := ⟨.lmpCfg, 14, 1, .rw, 1⟩
def LmpCfg.prbEn : Fld := ⟨.lmpCfg, 15, 1, .rw, 1⟩
def LmpCfg.limit : Fld := ⟨.lmpCfg, 16, 10, .rw, 0⟩
def LmpStat.on : Fld := ⟨.lmpStat, 0, 1, .ro, 0⟩
def LmpStat.open_ : Fld := ⟨.lmpStat, 1, 1, .ro, 0⟩
def LmpStat.short : Fld := ⟨.lmpStat, 2, 1, .ro, 0⟩
def LmpStat.stale : Fld := ⟨.lmpStat, 3, 1, .ro, 0⟩
def LmpStat.fault : Fld := ⟨.lmpStat, 4, 1, .ro, 0⟩
def LmpStat.segShort : Fld := ⟨.lmpStat, 5, 16, .w1c, 0⟩
def LmpStat.owned : Fld := ⟨.lmpStat, 21, 1, .ro, 0⟩
def LmpStat.engine : Fld := ⟨.lmpStat, 22, 3, .ro, 0⟩
def LmpLevel.t0 : Fld := ⟨.lmpLevel, 0, 12, .rw, 0⟩
def LmpSeg.mask : Fld := ⟨.lmpSeg, 0, 16, .rw, 0⟩
def LmpVdiv.v : Fld := ⟨.lmpVdiv, 0, 16, .rw, 0x2800⟩
def LmpVfmin.v : Fld := ⟨.lmpVfmin, 0, 16, .rw, 0x9c4⟩
def LmpPulse.minGap : Fld := ⟨.lmpPulse, 0, 16, .rw, 0x64⟩
def LmpDiagmin.v : Fld := ⟨.lmpDiagmin, 0, 12, .rw, 0x40⟩
def LmpMeas.isense : Fld := ⟨.lmpMeas, 0, 12, .ro, 0⟩
def LmpMeas.vsense : Fld := ⟨.lmpMeas, 16, 12, .ro, 0⟩
def LmpCntSkip.count : Fld := ⟨.lmpCntSkip, 0, 31, .ro, 0⟩
def LmpCntSkip.ovf : Fld := ⟨.lmpCntSkip, 31, 1, .w1c, 0⟩
def LmpCtrl.clr : Fld := ⟨.lmpCtrl, 0, 1, .wo, 0⟩
def LmpImax.v : Fld := ⟨.lmpImax, 0, 12, .rw, 0xfff⟩
def LmpSegmap.first : Fld := ⟨.lmpSegmap, 0, 10, .rw, 0⟩
def LmpSegmap.gps : Fld := ⟨.lmpSegmap, 10, 6, .rw, 1⟩
def LmpDist.v : Fld := ⟨.lmpDist, 0, 32, .rw, 0⟩
def LmpWin.win : Fld := ⟨.lmpWin, 0, 12, .rw, 0x10⟩
def LmpGstat.chainErr : Fld := ⟨.lmpGstat, 0, 1, .w1c, 0⟩
def LmpGstat.count : Fld := ⟨.lmpGstat, 8, 8, .ro, 0⟩
def PatCtrl.run_ : Fld := ⟨.patCtrl, 0, 1, .wo, 0⟩
def PatCtrl.stop : Fld := ⟨.patCtrl, 1, 1, .wo, 0⟩
def PatCtrl.strings : Fld := ⟨.patCtrl, 2, 16, .rw, 0⟩
def PatCtrl.start : Fld := ⟨.patCtrl, 18, 6, .rw, 0⟩
def PatStat.state : Fld := ⟨.patStat, 0, 2, .ro, 0⟩
def PatStat.step : Fld := ⟨.patStat, 2, 6, .ro, 0⟩
def PatStat.refused : Fld := ⟨.patStat, 8, 1, .w1c, 0⟩
def PatStat.badOp : Fld := ⟨.patStat, 9, 1, .w1c, 0⟩
def PatStep.v : Fld := ⟨.patStep, 0, 32, .rw, 0⟩
def Ptab.v : Fld := ⟨.ptab, 0, 12, .rw, 0⟩
def LmpPoint.c : Fld := ⟨.lmpPoint, 0, 12, .rw, 0⟩
def LmpPoint.g : Fld := ⟨.lmpPoint, 16, 16, .rw, 0x4000⟩
def AxCfg.en : Fld := ⟨.axCfg, 0, 1, .rw, 0⟩
def AxCfg.profile : Fld := ⟨.axCfg, 1, 1, .rw, 0⟩
def AxCfg.dirInv : Fld := ⟨.axCfg, 2, 1, .rw, 0⟩
def AxCfg.limEn : Fld := ⟨.axCfg, 3, 1, .rw, 1⟩
def AxCfg.safeMask : Fld := ⟨.axCfg, 4, 4, .rw, 0xf⟩
def AxCfg.safeDis : Fld := ⟨.axCfg, 8, 1, .rw, 1⟩
def AxCfg.homePol : Fld := ⟨.axCfg, 9, 1, .rw, 0⟩
def AxCmd.stop : Fld := ⟨.axCmd, 0, 1, .wo, 0⟩
def AxCmd.abort : Fld := ⟨.axCmd, 1, 1, .wo, 0⟩
def AxCmd.home : Fld := ⟨.axCmd, 2, 1, .wo, 0⟩
def AxCmd.clr : Fld := ⟨.axCmd, 3, 1, .wo, 0⟩
def AxStat.state : Fld := ⟨.axStat, 0, 3, .ro, 0⟩
def AxStat.homed : Fld := ⟨.axStat, 3, 1, .ro, 0⟩
def AxStat.decelOverride : Fld := ⟨.axStat, 4, 1, .w1c, 0⟩
def AxStat.switchback : Fld := ⟨.axStat, 5, 1, .w1c, 0⟩
def AxStat.hardLimit : Fld := ⟨.axStat, 6, 1, .ro, 0⟩
def AxStat.limSeen : Fld := ⟨.axStat, 7, 1, .w1c, 0⟩
def AxStat.refused : Fld := ⟨.axStat, 8, 1, .w1c, 0⟩
def AxStat.drvFault : Fld := ⟨.axStat, 9, 1, .ro, 0⟩
def AxStat.safeStop : Fld := ⟨.axStat, 10, 1, .ro, 0⟩
def AxStat.homeErr : Fld := ⟨.axStat, 11, 1, .w1c, 0⟩
def AxStat.vclamp : Fld := ⟨.axStat, 12, 1, .w1c, 0⟩
def AxStat.hold : Fld := ⟨.axStat, 13, 1, .ro, 0⟩
def AxStat.inputs : Fld := ⟨.axStat, 14, 3, .ro, 0⟩
def AxStat.owned : Fld := ⟨.axStat, 17, 1, .ro, 0⟩
def AxStat.owner : Fld := ⟨.axStat, 18, 5, .ro, 0⟩
def AxStat.qsTime : Fld := ⟨.axStat, 23, 9, .ro, 0⟩
def AxPosLo.v : Fld := ⟨.axPosLo, 0, 32, .ro, 0⟩
def AxPosHi.v : Fld := ⟨.axPosHi, 0, 16, .ro, 0⟩
def AxTgtLo.v : Fld := ⟨.axTgtLo, 0, 32, .rw, 0⟩
def AxTgtHi.v : Fld := ⟨.axTgtHi, 0, 16, .rw, 0⟩
def AxVmax.v : Fld := ⟨.axVmax, 0, 22, .rw, 0x2710⟩
def AxAcc.v : Fld := ⟨.axAcc, 0, 32, .rw, 0xf4240⟩
def AxDec.v : Fld := ⟨.axDec, 0, 32, .rw, 0xf4240⟩
def AxDecEmerg.v : Fld := ⟨.axDecEmerg, 0, 32, .rw, 0x3d0900⟩
def AxJerk.v : Fld := ⟨.axJerk, 0, 32, .rw, 0x5f5e100⟩
def AxIref.runDuty : Fld := ⟨.axIref, 0, 8, .rw, 0xc0⟩
def AxIref.holdDuty : Fld := ⟨.axIref, 8, 8, .rw, 0x40⟩
def AxIref.holdDelay : Fld := ⟨.axIref, 16, 16, .rw, 0x3e8⟩
def AxStept.stepW : Fld := ⟨.axStept, 0, 10, .rw, 0x7d⟩
def AxStept.dirSetup : Fld := ⟨.axStept, 10, 10, .rw, 0xfa⟩
def AxHome.seq : Fld := ⟨.axHome, 0, 3, .rw, 1⟩
def AxHome.enc : Fld := ⟨.axHome, 3, 3, .rw, 0⟩
def AxHomeV1.v : Fld := ⟨.axHomeV1, 0, 22, .rw, 0x7d0⟩
def AxHomeV2.v : Fld := ⟨.axHomeV2, 0, 22, .rw, 0xc8⟩
def AxHomeOfsLo.v : Fld := ⟨.axHomeOfsLo, 0, 32, .rw, 0⟩
def AxHomeOfsHi.v : Fld := ⟨.axHomeOfsHi, 0, 16, .rw, 0⟩
def AxHlatLo.v : Fld := ⟨.axHlatLo, 0, 32, .ro, 0⟩
def AxHlatHi.v : Fld := ⟨.axHlatHi, 0, 16, .ro, 0⟩
def AxVnow.v : Fld := ⟨.axVnow, 0, 32, .ro, 0⟩
def MntCtrl.mode : Fld := ⟨.mntCtrl, 0, 1, .rw, 0⟩
def MntCtrl.hostFallback : Fld := ⟨.mntCtrl, 1, 1, .rw, 0⟩
def MntCtrl.hostTo : Fld := ⟨.mntCtrl, 16, 16, .rw, 0x64⟩
def MntCmd.act : Fld := ⟨.mntCmd, 0, 5, .wo, 0⟩
def MntCmd.op : Fld := ⟨.mntCmd, 5, 2, .wo, 0⟩
def MntStat.running : Fld := ⟨.mntStat, 0, 17, .ro, 0⟩
def MntStat.conflict : Fld := ⟨.mntStat, 17, 1, .w1c, 0⟩
def MntStat.refusedAct : Fld := ⟨.mntStat, 18, 5, .ro, 0⟩
def MntStat.gate : Fld := ⟨.mntStat, 23, 1, .ro, 0⟩
def MntStat.err : Fld := ⟨.mntStat, 24, 1, .w1c, 0⟩
def MntPrintExcl.v : Fld := ⟨.mntPrintExcl, 0, 16, .rw, 0⟩
def MntPwinMin.v : Fld := ⟨.mntPwinMin, 0, 32, .rw, 0⟩
def MntPwinMax.v : Fld := ⟨.mntPwinMax, 0, 32, .rw, 0⟩
def MntHstep.act : Fld := ⟨.mntHstep, 0, 5, .ro, 0⟩
def MntHstep.step : Fld := ⟨.mntHstep, 5, 6, .ro, 0⟩
def MntHstep.seq : Fld := ⟨.mntHstep, 16, 16, .ro, 0⟩
def MntHgo.seq : Fld := ⟨.mntHgo, 0, 16, .wo, 0⟩
def MntCntMiss.count : Fld := ⟨.mntCntMiss, 0, 31, .ro, 0⟩
def MntCntMiss.ovf : Fld := ⟨.mntCntMiss, 31, 1, .w1c, 0⟩
def MntExcl.v : Fld := ⟨.mntExcl, 0, 16, .rw, 0⟩
def MntAct.start : Fld := ⟨.mntAct, 0, 6, .rw, 0⟩
def MntAct.abortStart : Fld := ⟨.mntAct, 6, 6, .rw, 0⟩
def MntAct.axes : Fld := ⟨.mntAct, 12, 8, .rw, 0⟩
def MntAct.valid : Fld := ⟨.mntAct, 20, 1, .rw, 0⟩
def MntActLamp.v : Fld := ⟨.mntActLamp, 0, 16, .rw, 0⟩
def MntActBound.v : Fld := ⟨.mntActBound, 0, 16, .rw, 0x3e8⟩
def MntStep.v : Fld := ⟨.mntStep, 0, 32, .rw, 0⟩
def MntParam.v : Fld := ⟨.mntParam, 0, 32, .rw, 0⟩
def McCfg.density : Fld := ⟨.mcCfg, 0, 1, .ro, 0⟩
def McCfg.ranks2 : Fld := ⟨.mcCfg, 1, 1, .ro, 0⟩
def McCfg.speed : Fld := ⟨.mcCfg, 2, 2, .ro, 0⟩
def McCfg.cap : Fld := ⟨.mcCfg, 4, 2, .ro, 0⟩
def McCfg.geoMismatch : Fld := ⟨.mcCfg, 6, 1, .ro, 0⟩
def McCtrl.retrain : Fld := ⟨.mcCtrl, 0, 1, .wo, 0⟩
def McCtrl.retrainRef : Fld := ⟨.mcCtrl, 1, 1, .w1c, 0⟩
def McCtrl.scrubEn : Fld := ⟨.mcCtrl, 2, 1, .rw, 1⟩
def McCtrl.scrubHours : Fld := ⟨.mcCtrl, 3, 8, .rw, 0x18⟩
def McCtrl.wage : Fld := ⟨.mcCtrl, 16, 8, .rw, 4⟩
def McCtrl.rage : Fld := ⟨.mcCtrl, 24, 8, .rw, 0x14⟩
def McStat.state : Fld := ⟨.mcStat, 0, 3, .ro, 0⟩
def McStat.degraded : Fld := ⟨.mcStat, 3, 1, .ro, 0⟩
def McStat.hot : Fld := ⟨.mcStat, 4, 1, .ro, 0⟩
def McFf.ffUrgent : Fld := ⟨.mcFf, 0, 16, .rw, 0x3e8⟩
def McHammer.actThresh : Fld := ⟨.mcHammer, 0, 12, .rw, 0x800⟩
def McHammer.ovfLevel : Fld := ⟨.mcHammer, 12, 12, .rw, 0x400⟩
def McHammer.throttle : Fld := ⟨.mcHammer, 24, 4, .rw, 1⟩
def McZq.zqPeriod : Fld := ⟨.mcZq, 0, 16, .rw, 0x80⟩
def McZq.oscPeriod : Fld := ⟨.mcZq, 16, 16, .rw, 0x10⟩
def McSpareCfg.thresh : Fld := ⟨.mcSpareCfg, 0, 16, .rw, 0x40⟩
def McSr.srIdle : Fld := ⟨.mcSr, 0, 16, .rw, 0x64⟩
def McSpare.dev0 : Fld := ⟨.mcSpare, 0, 3, .ro, 0⟩
def McSpare.erased0 : Fld := ⟨.mcSpare, 3, 1, .ro, 0⟩
def McSpare.dev1 : Fld := ⟨.mcSpare, 4, 3, .ro, 0⟩
def McSpare.erased1 : Fld := ⟨.mcSpare, 7, 1, .ro, 0⟩
def McSpare.mark : Fld := ⟨.mcSpare, 8, 1, .wo, 0⟩
def McSpare.dev : Fld := ⟨.mcSpare, 9, 3, .rw, 0⟩
def McSpare.rank : Fld := ⟨.mcSpare, 12, 1, .rw, 0⟩
def McCntCe.count : Fld := ⟨.mcCntCe, 0, 31, .ro, 0⟩
def McCntCe.ovf : Fld := ⟨.mcCntCe, 31, 1, .w1c, 0⟩
def McCntUe.count : Fld := ⟨.mcCntUe, 0, 31, .ro, 0⟩
def McCntUe.ovf : Fld := ⟨.mcCntUe, 31, 1, .w1c, 0⟩
def McCntDrfm.count : Fld := ⟨.mcCntDrfm, 0, 31, .ro, 0⟩
def McCntDrfm.ovf : Fld := ⟨.mcCntDrfm, 31, 1, .w1c, 0⟩
def McCntOvf.count : Fld := ⟨.mcCntOvf, 0, 31, .ro, 0⟩
def McCntOvf.ovf : Fld := ⟨.mcCntOvf, 31, 1, .w1c, 0⟩
def McCntThrot.count : Fld := ⟨.mcCntThrot, 0, 31, .ro, 0⟩
def McCntThrot.ovf : Fld := ⟨.mcCntThrot, 31, 1, .w1c, 0⟩
def McCntFfurg.count : Fld := ⟨.mcCntFfurg, 0, 31, .ro, 0⟩
def McCntFfurg.ovf : Fld := ⟨.mcCntFfurg, 31, 1, .w1c, 0⟩
def McUeAddrLo.v : Fld := ⟨.mcUeAddrLo, 0, 32, .ro, 0⟩
def McUeAddrHi.v : Fld := ⟨.mcUeAddrHi, 0, 8, .ro, 0⟩
def McUeInfo.class_ : Fld := ⟨.mcUeInfo, 0, 3, .ro, 0⟩
def McUeInfo.region : Fld := ⟨.mcUeInfo, 3, 2, .ro, 0⟩
def McScrubPosLo.v : Fld := ⟨.mcScrubPosLo, 0, 32, .ro, 0⟩
def McScrubPosHi.v : Fld := ⟨.mcScrubPosHi, 0, 8, .ro, 0⟩
def McScrubPass.v : Fld := ⟨.mcScrubPass, 0, 32, .ro, 0⟩
def McCe.count : Fld := ⟨.mcCe, 0, 31, .ro, 0⟩
def McCe.ovf : Fld := ⟨.mcCe, 31, 1, .w1c, 0⟩
def TwCtrl.auto : Fld := ⟨.twCtrl, 0, 1, .rw, 1⟩
def TwCtrl.compareEn : Fld := ⟨.twCtrl, 1, 1, .rw, 1⟩
def TwCtrl.summitEn : Fld := ⟨.twCtrl, 2, 1, .rw, 1⟩
def TwCtrl.planAxwait : Fld := ⟨.twCtrl, 3, 1, .rw, 1⟩
def TwCtrl.partnerWait : Fld := ⟨.twCtrl, 8, 8, .rw, 0x14⟩
def TwCtrl.summitHold : Fld := ⟨.twCtrl, 16, 16, .rw, 0x3e8⟩
def TwHb.grace : Fld := ⟨.twHb, 0, 4, .rw, 5⟩
def TwHb.missN : Fld := ⟨.twHb, 4, 4, .rw, 2⟩
def TwHb.soloWait : Fld := ⟨.twHb, 8, 8, .rw, 0x14⟩
def TwCmd.plan : Fld := ⟨.twCmd, 0, 1, .wo, 0⟩
def TwCmd.pageBound : Fld := ⟨.twCmd, 1, 1, .wo, 0⟩
def TwCmd.key : Fld := ⟨.twCmd, 16, 16, .wo, 0⟩
def TwStat.role : Fld := ⟨.twStat, 0, 3, .ro, 0⟩
def TwStat.partnerOk : Fld := ⟨.twStat, 3, 1, .ro, 0⟩
def TwStat.fenceOut : Fld := ⟨.twStat, 4, 1, .ro, 0⟩
def TwStat.fenceIn : Fld := ⟨.twStat, 5, 1, .ro, 0⟩
def TwStat.compareSuspended : Fld := ⟨.twStat, 6, 1, .ro, 0⟩
def TwStat.divergence : Fld := ⟨.twStat, 7, 1, .w1c, 0⟩
def TwStat.epoch : Fld := ⟨.twStat, 8, 8, .ro, 0⟩
def TwStat.unfit : Fld := ⟨.twStat, 16, 11, .ro, 0⟩
def TwPstat.role : Fld := ⟨.twPstat, 0, 3, .ro, 0⟩
def TwPstat.nodeId : Fld := ⟨.twPstat, 3, 14, .ro, 0⟩
def TwPstat.unfit : Fld := ⟨.twPstat, 17, 11, .ro, 0⟩
def TwPstat.eccDegraded : Fld := ⟨.twPstat, 28, 1, .ro, 0⟩
def TwCntTakeover.count : Fld := ⟨.twCntTakeover, 0, 31, .ro, 0⟩
def TwCntTakeover.ovf : Fld := ⟨.twCntTakeover, 31, 1, .w1c, 0⟩
def TwCntHbmiss.count : Fld := ⟨.twCntHbmiss, 0, 31, .ro, 0⟩
def TwCntHbmiss.ovf : Fld := ⟨.twCntHbmiss, 31, 1, .w1c, 0⟩
def TwCntMismatch.count : Fld := ⟨.twCntMismatch, 0, 31, .ro, 0⟩
def TwCntMismatch.ovf : Fld := ⟨.twCntMismatch, 31, 1, .w1c, 0⟩
def TwCntSummit.count : Fld := ⟨.twCntSummit, 0, 31, .ro, 0⟩
def TwCntSummit.ovf : Fld := ⟨.twCntSummit, 31, 1, .w1c, 0⟩
def TwCntRxerr.count : Fld := ⟨.twCntRxerr, 0, 31, .ro, 0⟩
def TwCntRxerr.ovf : Fld := ⟨.twCntRxerr, 31, 1, .w1c, 0⟩
def TwLastTo.cause : Fld := ⟨.twLastTo, 0, 4, .ro, 0⟩
def TwLastTo.epoch : Fld := ⟨.twLastTo, 8, 8, .ro, 0⟩
def TwLastTo.slipped : Fld := ⟨.twLastTo, 16, 16, .ro, 0⟩
def TwLastToTLo.v : Fld := ⟨.twLastToTLo, 0, 32, .ro, 0⟩
def TwLastToTHi.v : Fld := ⟨.twLastToTHi, 0, 32, .ro, 0⟩
def JnlLast.v : Fld := ⟨.jnlLast, 0, 32, .ro, 0⟩
def JnlBacklog.v : Fld := ⟨.jnlBacklog, 0, 16, .ro, 0⟩
def JnlCntAck.count : Fld := ⟨.jnlCntAck, 0, 31, .ro, 0⟩
def JnlCntAck.ovf : Fld := ⟨.jnlCntAck, 31, 1, .w1c, 0⟩
def JnlCntJnl.count : Fld := ⟨.jnlCntJnl, 0, 31, .ro, 0⟩
def JnlCntJnl.ovf : Fld := ⟨.jnlCntJnl, 31, 1, .w1c, 0⟩
def NetCtrl.enE : Fld := ⟨.netCtrl, 0, 1, .rw, 1⟩
def NetCtrl.enW : Fld := ⟨.netCtrl, 1, 1, .rw, 1⟩
def NetCtrl.block : Fld := ⟨.netCtrl, 2, 2, .rw, 0⟩
def NetCtrl.heal : Fld := ⟨.netCtrl, 4, 1, .rw, 1⟩
def NetCtrl.rstEn : Fld := ⟨.netCtrl, 5, 1, .rw, 1⟩
def NetStat.eUp : Fld := ⟨.netStat, 0, 1, .ro, 0⟩
def NetStat.wUp : Fld := ⟨.netStat, 1, 1, .ro, 0⟩
def NetStat.opened : Fld := ⟨.netStat, 2, 1, .w1c, 0⟩
def NetStat.healed : Fld := ⟨.netStat, 3, 1, .w1c, 0⟩
def NetHostMacLo.v : Fld := ⟨.netHostMacLo, 0, 32, .rw, 0⟩
def NetHostMacHi.v : Fld := ⟨.netHostMacHi, 0, 16, .rw, 0⟩
def NetCntFwdErr.count : Fld := ⟨.netCntFwdErr, 0, 31, .ro, 0⟩
def NetCntFwdErr.ovf : Fld := ⟨.netCntFwdErr, 31, 1, .w1c, 0⟩
def NetCntDrop.count : Fld := ⟨.netCntDrop, 0, 31, .ro, 0⟩
def NetCntDrop.ovf : Fld := ⟨.netCntDrop, 31, 1, .w1c, 0⟩
def NetCntHops.count : Fld := ⟨.netCntHops, 0, 31, .ro, 0⟩
def NetCntHops.ovf : Fld := ⟨.netCntHops, 31, 1, .w1c, 0⟩
def NetCntSeq.count : Fld := ⟨.netCntSeq, 0, 31, .ro, 0⟩
def NetCntSeq.ovf : Fld := ⟨.netCntSeq, 31, 1, .w1c, 0⟩
def PtpCtrl.mode : Fld := ⟨.ptpCtrl, 0, 1, .rw, 0⟩
def PtpCtrl.hostFallback : Fld := ⟨.ptpCtrl, 1, 1, .rw, 0⟩
def PtpCtrl.delayMech : Fld := ⟨.ptpCtrl, 2, 1, .rw, 0⟩
def PtpCtrl.masterEn : Fld := ⟨.ptpCtrl, 3, 1, .rw, 0⟩
def PtpCtrl.tcEn : Fld := ⟨.ptpCtrl, 4, 1, .rw, 1⟩
def PtpCtrl.domain : Fld := ⟨.ptpCtrl, 5, 8, .rw, 0⟩
def PtpCtrl.syncRate : Fld := ⟨.ptpCtrl, 13, 3, .rw, 3⟩
def PtpCtrl.logAnn : Fld := ⟨.ptpCtrl, 16, 2, .rw, 1⟩
def PtpCtrl.annTo : Fld := ⟨.ptpCtrl, 18, 4, .rw, 3⟩
def PtpStat.state : Fld := ⟨.ptpStat, 0, 3, .ro, 0⟩
def PtpStat.stepped : Fld := ⟨.ptpStat, 3, 1, .w1c, 0⟩
def PtpStat.holdSeen : Fld := ⟨.ptpStat, 4, 1, .w1c, 0⟩
def PtpIncFrac.v : Fld := ⟨.ptpIncFrac, 0, 32, .rw, 0⟩
def PtpIncInt.ns : Fld := ⟨.ptpIncInt, 0, 4, .rw, 8⟩
def PtpAdj.v : Fld := ⟨.ptpAdj, 0, 32, .wo, 0⟩
def PtpTimeSecLo.v : Fld := ⟨.ptpTimeSecLo, 0, 32, .ro, 0⟩
def PtpTimeSecHi.v : Fld := ⟨.ptpTimeSecHi, 0, 16, .ro, 0⟩
def PtpTimeNs.v : Fld := ⟨.ptpTimeNs, 0, 32, .ro, 0⟩
def PtpTimeFrac.v : Fld := ⟨.ptpTimeFrac, 0, 16, .ro, 0⟩
def PtpSetSecLo.v : Fld := ⟨.ptpSetSecLo, 0, 32, .rw, 0⟩
def PtpSetSecHi.v : Fld := ⟨.ptpSetSecHi, 0, 16, .rw, 0⟩
def PtpSetNs.v : Fld := ⟨.ptpSetNs, 0, 32, .rw, 0⟩
def PtpStepNs.v : Fld := ⟨.ptpStepNs, 0, 32, .rw, 0x3e8⟩
def PtpLockNs.v : Fld := ⟨.ptpLockNs, 0, 32, .rw, 0x64⟩
def PtpMeasOfs.v : Fld := ⟨.ptpMeasOfs, 0, 32, .ro, 0⟩
def PtpMeasDly.v : Fld := ⟨.ptpMeasDly, 0, 32, .ro, 0⟩
def PtpMeasSeq.seq : Fld := ⟨.ptpMeasSeq, 0, 16, .ro, 0⟩
def PtpHostSeq.seq : Fld := ⟨.ptpHostSeq, 0, 16, .wo, 0⟩
def PtpHold.count : Fld := ⟨.ptpHold, 0, 31, .ro, 0⟩
def PtpHold.ovf : Fld := ⟨.ptpHold, 31, 1, .w1c, 0⟩
def PtpAsym.ns : Fld := ⟨.ptpAsym, 0, 16, .rw, 0⟩
def PtpPrio.prio1 : Fld := ⟨.ptpPrio, 0, 8, .rw, 0x80⟩
def PtpPrio.prio2 : Fld := ⟨.ptpPrio, 8, 8, .rw, 0x80⟩
def PtpPrio.class_ : Fld := ⟨.ptpPrio, 16, 8, .rw, 0xf8⟩
def PtpPrio.holdClass : Fld := ⟨.ptpPrio, 24, 8, .rw, 0xf8⟩
def PtpXsFtLo.v : Fld := ⟨.ptpXsFtLo, 0, 32, .ro, 0⟩
def PtpXsFtHi.v : Fld := ⟨.ptpXsFtHi, 0, 32, .ro, 0⟩
def PtpXsSecLo.v : Fld := ⟨.ptpXsSecLo, 0, 32, .ro, 0⟩
def PtpXsSecHi.v : Fld := ⟨.ptpXsSecHi, 0, 16, .ro, 0⟩
def PtpXsNs.v : Fld := ⟨.ptpXsNs, 0, 32, .ro, 0⟩
def PtpXsFrac.frac : Fld := ⟨.ptpXsFrac, 0, 16, .ro, 0⟩
def PtpXsFrac.step : Fld := ⟨.ptpXsFrac, 16, 1, .ro, 0⟩
def PtpXs1FtLo.v : Fld := ⟨.ptpXs1FtLo, 0, 32, .ro, 0⟩
def PtpXs1FtHi.v : Fld := ⟨.ptpXs1FtHi, 0, 32, .ro, 0⟩
def PtpXs1SecLo.v : Fld := ⟨.ptpXs1SecLo, 0, 32, .ro, 0⟩
def PtpXs1SecHi.v : Fld := ⟨.ptpXs1SecHi, 0, 16, .ro, 0⟩
def PtpXs1Ns.v : Fld := ⟨.ptpXs1Ns, 0, 32, .ro, 0⟩
def PtpXs1Frac.frac : Fld := ⟨.ptpXs1Frac, 0, 16, .ro, 0⟩
def PtpXs1Frac.step : Fld := ⟨.ptpXs1Frac, 16, 1, .ro, 0⟩
def TlSecLo.v : Fld := ⟨.tlSecLo, 0, 32, .rw, 0⟩
def TlSecHi.v : Fld := ⟨.tlSecHi, 0, 16, .rw, 0⟩
def TlNs.v : Fld := ⟨.tlNs, 0, 32, .rw, 0⟩
def TlCtrl.len : Fld := ⟨.tlCtrl, 0, 11, .rw, 0⟩
def TlCtrl.ports : Fld := ⟨.tlCtrl, 11, 2, .rw, 0⟩
def TlCtrl.arm : Fld := ⟨.tlCtrl, 13, 1, .wo, 0⟩
def TlCtrl.cancel : Fld := ⟨.tlCtrl, 14, 1, .wo, 0⟩
def TlCtrl.state : Fld := ⟨.tlCtrl, 15, 3, .ro, 0⟩
def TlDepSecLo.v : Fld := ⟨.tlDepSecLo, 0, 32, .ro, 0⟩
def TlDepSecHi.v : Fld := ⟨.tlDepSecHi, 0, 16, .ro, 0⟩
def TlDepNs.v : Fld := ⟨.tlDepNs, 0, 32, .ro, 0⟩
def TlBuf.v : Fld := ⟨.tlBuf, 0, 32, .rw, 0⟩
def MetStat.alive : Fld := ⟨.metStat, 0, 1, .ro, 0⟩
def MetStat.sealOpen : Fld := ⟨.metStat, 1, 1, .ro, 0⟩
def MetStat.jobOpen : Fld := ⟨.metStat, 2, 1, .ro, 0⟩
def MetStat.unmetered : Fld := ⟨.metStat, 3, 1, .ro, 0⟩
def MetStat.diverged : Fld := ⟨.metStat, 4, 1, .ro, 0⟩
def MetStat.auditFull : Fld := ⟨.metStat, 5, 1, .ro, 0⟩
def MetStat.auditLost : Fld := ⟨.metStat, 6, 1, .ro, 0⟩
def MetStat.romErr : Fld := ⟨.metStat, 7, 1, .ro, 0⟩
def MetStat.tallyGap : Fld := ⟨.metStat, 8, 1, .ro, 0⟩
def MetTotalUmLo.v : Fld := ⟨.metTotalUmLo, 0, 32, .ro, 0⟩
def MetTotalUmHi.v : Fld := ⟨.metTotalUmHi, 0, 32, .ro, 0⟩
def MetJobUmLo.v : Fld := ⟨.metJobUmLo, 0, 32, .ro, 0⟩
def MetJobUmHi.v : Fld := ⟨.metJobUmHi, 0, 32, .ro, 0⟩
def MetJobRec.v : Fld := ⟨.metJobRec, 0, 32, .ro, 0⟩
def MetEvtLo.v : Fld := ⟨.metEvtLo, 0, 32, .ro, 0⟩
def MetEvtHi.v : Fld := ⟨.metEvtHi, 0, 32, .ro, 0⟩
def MetSwid.v : Fld := ⟨.metSwid, 0, 16, .ro, 0⟩
def MetSwchk.v : Fld := ⟨.metSwchk, 0, 32, .ro, 0⟩
def MetFree.jobs : Fld := ⟨.metFree, 0, 14, .ro, 0⟩
def MetFree.audit : Fld := ⟨.metFree, 16, 13, .ro, 0⟩
def CalCmd.kind : Fld := ⟨.calCmd, 0, 3, .wo, 0⟩
def CalCmd.inst : Fld := ⟨.calCmd, 3, 8, .wo, 0⟩
def CalCmd.code : Fld := ⟨.calCmd, 11, 3, .wo, 0⟩
def CalCmd.op : Fld := ⟨.calCmd, 14, 2, .wo, 0⟩
def CalCmd.key : Fld := ⟨.calCmd, 16, 16, .wo, 0⟩
def CalCtrl.mode : Fld := ⟨.calCtrl, 0, 1, .rw, 0⟩
def CalCtrl.hostFallback : Fld := ⟨.calCtrl, 1, 1, .rw, 0⟩
def CalStat.state : Fld := ⟨.calStat, 0, 2, .ro, 0⟩
def CalStat.run_ : Fld := ⟨.calStat, 2, 1, .ro, 0⟩
def CalStat.disagree : Fld := ⟨.calStat, 3, 1, .w1c, 0⟩
def CalStat.refused : Fld := ⟨.calStat, 4, 1, .w1c, 0⟩
def CalStat.abandoned : Fld := ⟨.calStat, 5, 1, .w1c, 0⟩
def CalStat.kind : Fld := ⟨.calStat, 6, 3, .ro, 0⟩
def CalRefval.v : Fld := ⟨.calRefval, 0, 32, .rw, 0⟩
def CalRawLo.v : Fld := ⟨.calRawLo, 0, 32, .ro, 0⟩
def CalRawHi.v : Fld := ⟨.calRawHi, 0, 32, .ro, 0⟩
def CalHres.v : Fld := ⟨.calHres, 0, 32, .rw, 0⟩
def CalPhotoRef.r0 : Fld := ⟨.calPhotoRef, 0, 16, .rw, 0⟩
def CalPhotoRef.r1 : Fld := ⟨.calPhotoRef, 16, 16, .rw, 0⟩
def CalRecCount.count : Fld := ⟨.calRecCount, 0, 31, .ro, 0⟩
def CalRecCount.ovf : Fld := ⟨.calRecCount, 31, 1, .w1c, 0⟩
def CalRecSecLo.v : Fld := ⟨.calRecSecLo, 0, 32, .ro, 0⟩
def CalRecSecHi.v : Fld := ⟨.calRecSecHi, 0, 16, .ro, 0⟩
def CalRecNs.v : Fld := ⟨.calRecNs, 0, 32, .ro, 0⟩
def CalRecLast.v : Fld := ⟨.calRecLast, 0, 32, .ro, 0⟩
def CalRecTol.v : Fld := ⟨.calRecTol, 0, 32, .rw, 0⟩
def CalVgain.v : Fld := ⟨.calVgain, 0, 32, .ro, 0x4000⟩
def CalLampGain.v : Fld := ⟨.calLampGain, 0, 32, .ro, 0⟩
def CalPhoto.v : Fld := ⟨.calPhoto, 0, 32, .ro, 0x4000⟩
def CalDropMass.v : Fld := ⟨.calDropMass, 0, 32, .ro, 0⟩
def ThrWin.v : Fld := ⟨.thrWin, 0, 32, .rw, 0⟩

/-- The fields of each register, lowest bit first. -/
def Reg.fields : Reg → List Fld
  | .sysId => [SysId.id]
  | .sysStep => [SysStep.metal, SysStep.base]
  | .sysNode => [SysNode.nodeId, SysNode.ethertype]
  | .sysUidLo => [SysUidLo.v]
  | .sysUidHi => [SysUidHi.v]
  | .sysScratch => [SysScratch.v]
  | .rstStatus => [RstStatus.cause, RstStatus.level, RstStatus.psKept, RstStatus.degraded, RstStatus.state, RstStatus.clkFail]
  | .rstFuseMap => [RstFuseMap.lvl0, RstFuseMap.lvl1, RstFuseMap.lvl2, RstFuseMap.lvl3, RstFuseMap.lvl4, RstFuseMap.lvl5, RstFuseMap.lvl6, RstFuseMap.lvl7, RstFuseMap.lvl8, RstFuseMap.lvl9, RstFuseMap.lvl10, RstFuseMap.lvl11, RstFuseMap.lvl12, RstFuseMap.lvl13, RstFuseMap.lvl14, RstFuseMap.lvl15]
  | .rstStart => [RstStart.failcnt, RstStart.forced, RstStart.startMs]
  | .rstCmd => [RstCmd.level, RstCmd.class_, RstCmd.inst, RstCmd.foothillClr, RstCmd.key]
  | .rstPark => [RstPark.req, RstPark.run_, RstPark.refused, RstPark.key]
  | .rstHist => [RstHist.cause, RstHist.level, RstHist.stage, RstHist.timeout, RstHist.seq]
  | .cfgStatus => [CfgStatus.slot, CfgStatus.fallback, CfgStatus.unsigned, CfgStatus.obSrc, CfgStatus.failStep, CfgStatus.fuseLock, CfgStatus.sigReq, CfgStatus.failRec]
  | .cfgGenLo => [CfgGenLo.v]
  | .cfgGenHi => [CfgGenHi.v]
  | .cfgFwver => [CfgFwver.v]
  | .cfgFlCtrl => [CfgFlCtrl.cs, CfgFlCtrl.op, CfgFlCtrl.go, CfgFlCtrl.busy, CfgFlCtrl.refused, CfgFlCtrl.lenm1, CfgFlCtrl.key]
  | .cfgFlAddr => [CfgFlAddr.v]
  | .cfgFlBuf => [CfgFlBuf.v]
  | .monRail => [MonRail.vmin, MonRail.warn, MonRail.wseen, MonRail.rseen, MonRail.dur, MonRail.durOvf, MonRail.trkClr]
  | .monCtrl => [MonCtrl.vwarnHold, MonCtrl.takeoverEn]
  | .monTemp => [MonTemp.tj, MonTemp.twarn, MonTemp.tw, MonTemp.twseen]
  | .monPace => [MonPace.used, MonPace.usedMax, MonPace.warnPct, MonPace.warn, MonPace.over, MonPace.maxClr]
  | .evtCtrl => [EvtCtrl.log2]
  | .evtBaseLo => [EvtBaseLo.v]
  | .evtBaseHi => [EvtBaseHi.v]
  | .evtWr => [EvtWr.v]
  | .evtRd => [EvtRd.v]
  | .evtLost => [EvtLost.count, EvtLost.ovf]
  | .evtQfill => [EvtQfill.v]
  | .evtEnt => [EvtEnt.v]
  | .evtTail => [EvtTail.v]
  | .lnCtrl => [LnCtrl.txSleep, LnCtrl.txInv, LnCtrl.rxInv, LnCtrl.test, LnCtrl.cntClr]
  | .lnStat => [LnStat.lock, LnStat.deskewed, LnStat.farLock, LnStat.txAsleep, LnStat.rxAsleep, LnStat.los, LnStat.laneMismatch, LnStat.ebErr, LnStat.prbsSync, LnStat.lane, LnStat.kind, LnStat.ebFill]
  | .lnErrcnt => [LnErrcnt.cv, LnErrcnt.lol, LnErrcnt.dsk, LnErrcnt.smsg, LnErrcnt.ovf]
  | .lnSkpcnt => [LnSkpcnt.ins, LnSkpcnt.del]
  | .lnPrbs => [LnPrbs.errbits, LnPrbs.ovf]
  | .lnMargin => [LnMargin.phase, LnMargin.vofs, LnMargin.dwell, LnMargin.go, LnMargin.busy, LnMargin.done]
  | .lnMarginErr => [LnMarginErr.mismatch, LnMarginErr.ovf]
  | .dpCtrl => [DpCtrl.creditPeriod, DpCtrl.abort]
  | .dpErr => [DpErr.crc, DpErr.rewind, DpErr.proto, DpErr.ovf]
  | .pgCtrl => [PgCtrl.retry, PgCtrl.streamEn, PgCtrl.fillinEn, PgCtrl.deferMax]
  | .pgStatus => [PgStatus.pages, PgStatus.free]
  | .pgNextLo => [PgNextLo.v]
  | .pgNextHi => [PgNextHi.v]
  | .pgDoneLo => [PgDoneLo.v]
  | .pgDoneHi => [PgDoneHi.v]
  | .pgCnt => [PgCnt.spoiled, PgCnt.refetch, PgCnt.ovf]
  | .pgAbort => [PgAbort.go, PgAbort.held, PgAbort.busy, PgAbort.key]
  | .dcxCtrl => [DcxCtrl.printMax, DcxCtrl.enable]
  | .dcxStat => [DcxStat.state, DcxStat.stripe]
  | .dcxErr => [DcxErr.malformed, DcxErr.check, DcxErr.ovf]
  | .dcxPreempt => [DcxPreempt.count, DcxPreempt.ovf]
  | .dcxLast => [DcxLast.cause, DcxLast.engine, DcxLast.verify, DcxLast.stripe]
  | .dcxLastOfs => [DcxLastOfs.v]
  | .dcxLastPseqLo => [DcxLastPseqLo.v]
  | .dcxLastPseqHi => [DcxLastPseqHi.v]
  | .cmxStat => [CmxStat.level, CmxStat.owner, CmxStat.queued]
  | .cmxIn => [CmxIn.v]
  | .cmxOut => [CmxOut.v]
  | .scrCtrl => [ScrCtrl.scrMode, ScrCtrl.compMode, ScrCtrl.hostFallback]
  | .scrCommit => [ScrCommit.commit, ScrCommit.busy]
  | .scrGenNew => [ScrGenNew.v]
  | .scrGenCur => [ScrGenCur.v]
  | .scrTsvalid => [ScrTsvalid.valid]
  | .scrCnt => [ScrCnt.voidLines, ScrCnt.genLoads, ScrCnt.ovf]
  | .scrSset => [ScrSset.array, ScrSset.xofs, ScrSset.yofs, ScrSset.valid]
  | .scrThrCtl => [ScrThrCtl.width, ScrThrCtl.height, ScrThrCtl.state, ScrThrCtl.open_, ScrThrCtl.close, ScrThrCtl.refused, ScrThrCtl.monoErr]
  | .scrTsmap => [ScrTsmap.curve]
  | .ctbStage => [CtbStage.curve, CtbStage.gain, CtbStage.offset, CtbStage.boost, CtbStage.exclude, CtbStage.bcurve]
  | .ctbCur => [CtbCur.v]
  | .curveStage => [CurveStage.v]
  | .curveCur => [CurveCur.v]
  | .nmStage => [NmStage.column, NmStage.cs, NmStage.row, NmStage.state, NmStage.trim, NmStage.cap]
  | .nmNew => [NmNew.v]
  | .geoStage => [GeoStage.df, GeoStage.di]
  | .geoNew => [GeoNew.v]
  | .usabNew => [UsabNew.v]
  | .usabCur => [UsabCur.v]
  | .nmCommit => [NmCommit.commit, NmCommit.busy, NmCommit.refused, NmCommit.reason, NmCommit.analyser]
  | .nmGenNew => [NmGenNew.v]
  | .nmGenCur => [NmGenCur.v]
  | .nmDelta => [NmDelta.count]
  | .brCfg => [BrCfg.depth256]
  | .brBaseLo => [BrBaseLo.v]
  | .brBaseHi => [BrBaseHi.v]
  | .brLead => [BrLead.lead, BrLead.leadMin, BrLead.minClr]
  | .ffCtrl => [FfCtrl.ahead, FfCtrl.wErr]
  | .ffDutyW0 => [FfDutyW0.w1, FfDutyW0.w2, FfDutyW0.w3, FfDutyW0.w4]
  | .ffDutyW1 => [FfDutyW1.w5, FfDutyW1.w6, FfDutyW1.w7]
  | .ffNozDutyMax => [FfNozDutyMax.max]
  | .ffHeadDutyMax => [FfHeadDutyMax.max]
  | .ffCntLate => [FfCntLate.count, FfCntLate.ovf]
  | .ffCntCap => [FfCntCap.count, FfCntCap.ovf]
  | .ffCntDred => [FfCntDred.count, FfCntDred.ovf]
  | .ffCntDrem => [FfCntDrem.count, FfCntDrem.ovf]
  | .ffCntWd => [FfCntWd.count, FfCntWd.ovf]
  | .ffScreeBaseLo => [FfScreeBaseLo.v]
  | .ffScreeBaseHi => [FfScreeBaseHi.v]
  | .ffScreeSize => [FfScreeSize.log2]
  | .ffScreeWr => [FfScreeWr.v]
  | .ffScreeRd => [FfScreeRd.v]
  | .ffScreeLost => [FfScreeLost.count, FfScreeLost.ovf]
  | .ffScreeEnt => [FfScreeEnt.v]
  | .fpeCtrl => [FpeCtrl.srcA, FpeCtrl.srcB, FpeCtrl.dirA, FpeCtrl.dirB, FpeCtrl.autoB, FpeCtrl.selB, FpeCtrl.selA, FpeCtrl.xchkC, FpeCtrl.xchkD, FpeCtrl.xchkEn, FpeCtrl.res]
  | .fpeStat => [FpeStat.mode, FpeStat.behind, FpeStat.overspeed, FpeStat.stretch, FpeStat.absorb, FpeStat.adv, FpeStat.aOk, FpeStat.bOk]
  | .fpePosLo => [FpePosLo.v]
  | .fpePosHi => [FpePosHi.v]
  | .fpeHwmLo => [FpeHwmLo.v]
  | .fpeHwmHi => [FpeHwmHi.v]
  | .fpePeriod => [FpePeriod.v]
  | .fpeScaleALo => [FpeScaleALo.v]
  | .fpeScaleAHi => [FpeScaleAHi.v]
  | .fpeScaleBLo => [FpeScaleBLo.v]
  | .fpeScaleBHi => [FpeScaleBHi.v]
  | .fpeCoastMax => [FpeCoastMax.ms]
  | .fpeXchk => [FpeXchk.xchkMax]
  | .fpeStretch => [FpeStretch.stretchMax, FpeStretch.lag]
  | .fpeAdv => [FpeAdv.onPct, FpeAdv.offPct, FpeAdv.absHold]
  | .fpeAllowed => [FpeAllowed.v]
  | .fpeRegOfs => [FpeRegOfs.ofs]
  | .fpeOfsSlew => [FpeOfsSlew.pu]
  | .fpeCntSkip => [FpeCntSkip.count, FpeCntSkip.ovf]
  | .fpeCntSlip => [FpeCntSlip.count, FpeCntSlip.ovf]
  | .fpeCntCoastbl => [FpeCntCoastbl.count, FpeCntCoastbl.ovf]
  | .fpeCntFall => [FpeCntFall.count, FpeCntFall.ovf]
  | .fpeTofOfs => [FpeTofOfs.v]
  | .fpePhase => [FpePhase.phase]
  | .hpCtrl => [HpCtrl.depth, HpCtrl.tickle, HpCtrl.sleepEn, HpCtrl.ackTo]
  | .hpStat => [HpStat.state, HpStat.verified, HpStat.unverified, HpStat.timeOk, HpStat.tablesOk, HpStat.rateLim, HpStat.helloErr, HpStat.eHi]
  | .hpLdly => [HpLdly.dly, HpLdly.spread]
  | .hpIdLo => [HpIdLo.v]
  | .hpIdHi => [HpIdHi.v]
  | .hpIdInfo => [HpIdInfo.family, HpIdInfo.nozzles]
  | .hpIdGeom => [HpIdGeom.rows, HpIdGeom.caps, HpIdGeom.proto]
  | .hpCntResend => [HpCntResend.count, HpCntResend.ovf]
  | .hpCntLost => [HpCntLost.count, HpCntLost.ovf]
  | .hpCntRefused => [HpCntRefused.count, HpCntRefused.ovf]
  | .hpCntUperr => [HpCntUperr.count, HpCntUperr.ovf]
  | .hpTelem => [HpTelem.vdrive, HpTelem.status]
  | .hpUsageLo => [HpUsageLo.v]
  | .hpUsageHi => [HpUsageHi.v]
  | .hpRate => [HpRate.maxRate]
  | .hpTherm => [HpTherm.htLimit, HpTherm.htHyst]
  | .hpTstat => [HpTstat.temp, HpTstat.hold, HpTstat.stale, HpTstat.holdSeen, HpTstat.holds, HpTstat.ovf]
  | .hpWscale => [HpWscale.wscale]
  | .hpGctrl => [HpGctrl.unverFire, HpGctrl.echoPeriod]
  | .encCfg => [EncCfg.en, EncCfg.filt, EncCfg.idxMode, EncCfg.arm, EncCfg.idxState, EncCfg.dir, EncCfg.diagEn, EncCfg.uncClr]
  | .encStat => [EncStat.healthy, EncStat.fault, EncStat.still, EncStat.speedInvalid, EncStat.rev, EncStat.dirNow, EncStat.armed, EncStat.open_, EncStat.cmLow, EncStat.cmHigh, EncStat.reversed, EncStat.wireSeen, EncStat.idxSeen]
  | .encPosLo => [EncPosLo.v]
  | .encPosHi => [EncPosHi.v]
  | .encIdxVal => [EncIdxVal.v]
  | .encIdxLatLo => [EncIdxLatLo.v]
  | .encIdxLatHi => [EncIdxLatHi.v]
  | .encSpeed => [EncSpeed.v]
  | .encSpdCtrl => [EncSpdCtrl.avg, EncSpdCtrl.stillTime]
  | .encUnc => [EncUnc.unc, EncUnc.uncMax]
  | .encQerr => [EncQerr.count, EncQerr.ovf]
  | .ssiCfg => [SsiCfg.len, SsiCfg.errb, SsiCfg.gray, SsiCfg.double, SsiCfg.en, SsiCfg.half, SsiCfg.mono]
  | .ssiTrig => [SsiTrig.periodLq, SsiTrig.go, SsiTrig.smpDly]
  | .ssiStat => [SsiStat.errbits, SsiStat.valid, SsiStat.busyErr, SsiStat.startErr, SsiStat.monoErr, SsiStat.dblErr, SsiStat.wire, SsiStat.seq]
  | .ssiData => [SsiData.v]
  | .ssiTimeLo => [SsiTimeLo.v]
  | .ssiTimeHi => [SsiTimeHi.v]
  | .prbCfg => [PrbCfg.filt, PrbCfg.edge, PrbCfg.encSel, PrbCfg.idle, PrbCfg.diagEn, PrbCfg.actMax]
  | .prbStat => [PrbStat.fill, PrbStat.ovf, PrbStat.wire, PrbStat.stuck, PrbStat.wireSeen, PrbStat.pop]
  | .prbRec => [PrbRec.v]
  | .leCfg => [LeCfg.en, LeCfg.law, LeCfg.mode, LeCfg.newOnly, LeCfg.hostFb, LeCfg.swap, LeCfg.resetHist, LeCfg.abort, LeCfg.grade]
  | .leSched => [LeSched.period, LeSched.phase]
  | .leSrc => [LeSrc.src, LeSrc.inst, LeSrc.inv, LeSrc.sink, LeSrc.sinkInst]
  | .leRef => [LeRef.v]
  | .leOmin => [LeOmin.v]
  | .leOmax => [LeOmax.v]
  | .leOpenVal => [LeOpenVal.v]
  | .leSlew => [LeSlew.v]
  | .leGapmax => [LeGapmax.v]
  | .leStat => [LeStat.sat, LeStat.saddle, LeStat.swapPend, LeStat.forced, LeStat.refused, LeStat.limErr, LeStat.seq]
  | .leOut => [LeOut.v]
  | .leLaw => [LeLaw.v]
  | .leErr => [LeErr.v]
  | .leHostOut => [LeHostOut.v]
  | .leHostSeq => [LeHostSeq.seq]
  | .leB0 => [LeB0.v]
  | .leB1 => [LeB1.v]
  | .leB2 => [LeB2.v]
  | .leB3 => [LeB3.v]
  | .leA1 => [LeA1.v]
  | .leA2 => [LeA2.v]
  | .leA3 => [LeA3.v]
  | .leCsh0 => [LeCsh0.b0, LeCsh0.b1, LeCsh0.b2, LeCsh0.b3]
  | .leCsh1 => [LeCsh1.a1, LeCsh1.a2, LeCsh1.a3, LeCsh1.gsh]
  | .leCsum => [LeCsum.v]
  | .leCntMiss => [LeCntMiss.count, LeCntMiss.ovf]
  | .leCntLate => [LeCntLate.count, LeCntLate.ovf]
  | .leGctrl => [LeGctrl.thermMode, LeGctrl.thermFb, LeGctrl.regMode, LeGctrl.regFb, LeGctrl.hostSilence]
  | .leLoad => [LeLoad.peak]
  | .trcCfg => [TrcCfg.en, TrcCfg.arm, TrcCfg.trig, TrcCfg.force, TrcCfg.base, TrcCfg.decim, TrcCfg.pre]
  | .trcNode0 => [TrcNode0.slot0, TrcNode0.kind0, TrcNode0.slot1, TrcNode0.kind1]
  | .trcNode1 => [TrcNode1.slot2, TrcNode1.kind2, TrcNode1.slot3, TrcNode1.kind3]
  | .trcLevel => [TrcLevel.v]
  | .trcStat => [TrcStat.state, TrcStat.widx, TrcStat.tidx, TrcStat.dumpBusy, TrcStat.dumpRef]
  | .trcT0Lo => [TrcT0Lo.v]
  | .trcT0Hi => [TrcT0Hi.v]
  | .trcDumpLo => [TrcDumpLo.v]
  | .trcDumpHi => [TrcDumpHi.v]
  | .trcDumpCtl => [TrcDumpCtl.go, TrcDumpCtl.len]
  | .trcBuf => [TrcBuf.v]
  | .camCfg => [CamCfg.bits, CamCfg.shared, CamCfg.hsPol, CamCfg.vsPol, CamCfg.trigPol, CamCfg.en, CamCfg.selGap]
  | .camTrig => [CamTrig.src, CamTrig.go, CamTrig.abort, CamTrig.periodLq, CamTrig.trigW]
  | .camDistLo => [CamDistLo.v]
  | .camDistHi => [CamDistHi.v]
  | .camFrameTo => [CamFrameTo.to]
  | .camStat => [CamStat.out0, CamStat.out1, CamStat.sel]
  | .camCntSkip => [CamCntSkip.count, CamCntSkip.ovf]
  | .camCntUnsol => [CamCntUnsol.count, CamCntUnsol.ovf]
  | .ispSize => [IspSize.width, IspSize.height]
  | .ispMode => [IspMode.cfa, IspMode.dpcEn, IspMode.ffEn, IspMode.sharpCh, IspMode.inkOwn, IspMode.inkRef, IspMode.sharpEn, IspMode.stripEn, IspMode.markEn, IspMode.densEn]
  | .ispBlack => [IspBlack.b0, IspBlack.b1]
  | .ispWb => [IspWb.g0, IspWb.g1]
  | .ispCcm => [IspCcm.c0, IspCcm.c1]
  | .ispSep => [IspSep.c0, IspSep.c1]
  | .ispSepofs => [IspSepofs.c0, IspSepofs.c1]
  | .ispStrobe => [IspStrobe.ls, IspStrobe.en, IspStrobe.i]
  | .ispStrobeW => [IspStrobeW.v]
  | .ispStrobeDly => [IspStrobeDly.v]
  | .ispCommit => [IspCommit.commit, IspCommit.busy, IspCommit.pend, IspCommit.late, IspCommit.gen]
  | .ispTarget => [IspTarget.v]
  | .ispTseq => [IspTseq.v]
  | .ispApplied => [IspApplied.v]
  | .ispGenCur => [IspGenCur.gen]
  | .ispCol0 => [IspCol0.v]
  | .ispCscale => [IspCscale.v]
  | .ispAscale => [IspAscale.v]
  | .ispY0 => [IspY0.v]
  | .ispDefect => [IspDefect.x, IspDefect.y]
  | .ispCurve => [IspCurve.v]
  | .ispFlat => [IspFlat.g0, IspFlat.g1]
  | .insCtrl => [InsCtrl.chkCode, InsCtrl.chkMissN, InsCtrl.chkGoodN, InsCtrl.hmClr]
  | .insChkDen => [InsChkDen.missDen, InsChkDen.weakDen, InsChkDen.trimDb]
  | .insTrl => [InsTrl.gap, InsTrl.markCode]
  | .insHmIdx => [InsHmIdx.idx]
  | .insHmDataLo => [InsHmDataLo.v]
  | .insHmDataHi => [InsHmDataHi.v]
  | .insMarkPos => [InsMarkPos.col, InsMarkPos.tmpl, InsMarkPos.en]
  | .insMark => [InsMark.search, InsMark.markMin]
  | .insMarkNom => [InsMarkNom.along, InsMarkNom.cross]
  | .insFocus => [InsFocus.dither, InsFocus.ctx]
  | .insFocusMaskLo => [InsFocusMaskLo.v]
  | .insFocusMaskHi => [InsFocusMaskHi.v]
  | .insGap => [InsGap.ctx]
  | .insGapMaskLo => [InsGapMaskLo.v]
  | .insGapMaskHi => [InsGapMaskHi.v]
  | .insSrc => [InsSrc.v]
  | .insResBaseLo => [InsResBaseLo.v]
  | .insResBaseHi => [InsResBaseHi.v]
  | .insResSize => [InsResSize.log2]
  | .insResWr => [InsResWr.v]
  | .insResRd => [InsResRd.v]
  | .insResLost => [InsResLost.count, InsResLost.ovf]
  | .insCap => [InsCap.ctx, InsCap.stage, InsCap.go]
  | .insCapTarget => [InsCapTarget.v]
  | .insCapDstLo => [InsCapDstLo.v]
  | .insCapDstHi => [InsCapDstHi.v]
  | .insResEnt => [InsResEnt.v]
  | .insTmpl => [InsTmpl.v]
  | .lmpCfg => [LmpCfg.type, LmpCfg.en, LmpCfg.nseg, LmpCfg.class_, LmpCfg.ntc, LmpCfg.comp, LmpCfg.diagEn, LmpCfg.prbEn, LmpCfg.limit]
  | .lmpStat => [LmpStat.on, LmpStat.open_, LmpStat.short, LmpStat.stale, LmpStat.fault, LmpStat.segShort, LmpStat.owned, LmpStat.engine]
  | .lmpLevel => [LmpLevel.t0]
  | .lmpSeg => [LmpSeg.mask]
  | .lmpVdiv => [LmpVdiv.v]
  | .lmpVfmin => [LmpVfmin.v]
  | .lmpPulse => [LmpPulse.minGap]
  | .lmpDiagmin => [LmpDiagmin.v]
  | .lmpMeas => [LmpMeas.isense, LmpMeas.vsense]
  | .lmpCntSkip => [LmpCntSkip.count, LmpCntSkip.ovf]
  | .lmpCtrl => [LmpCtrl.clr]
  | .lmpImax => [LmpImax.v]
  | .lmpSegmap => [LmpSegmap.first, LmpSegmap.gps]
  | .lmpDist => [LmpDist.v]
  | .lmpWin => [LmpWin.win]
  | .lmpGstat => [LmpGstat.chainErr, LmpGstat.count]
  | .patCtrl => [PatCtrl.run_, PatCtrl.stop, PatCtrl.strings, PatCtrl.start]
  | .patStat => [PatStat.state, PatStat.step, PatStat.refused, PatStat.badOp]
  | .patStep => [PatStep.v]
  | .ptab => [Ptab.v]
  | .lmpPoint => [LmpPoint.c, LmpPoint.g]
  | .axCfg => [AxCfg.en, AxCfg.profile, AxCfg.dirInv, AxCfg.limEn, AxCfg.safeMask, AxCfg.safeDis, AxCfg.homePol]
  | .axCmd => [AxCmd.stop, AxCmd.abort, AxCmd.home, AxCmd.clr]
  | .axStat => [AxStat.state, AxStat.homed, AxStat.decelOverride, AxStat.switchback, AxStat.hardLimit, AxStat.limSeen, AxStat.refused, AxStat.drvFault, AxStat.safeStop, AxStat.homeErr, AxStat.vclamp, AxStat.hold, AxStat.inputs, AxStat.owned, AxStat.owner, AxStat.qsTime]
  | .axPosLo => [AxPosLo.v]
  | .axPosHi => [AxPosHi.v]
  | .axTgtLo => [AxTgtLo.v]
  | .axTgtHi => [AxTgtHi.v]
  | .axVmax => [AxVmax.v]
  | .axAcc => [AxAcc.v]
  | .axDec => [AxDec.v]
  | .axDecEmerg => [AxDecEmerg.v]
  | .axJerk => [AxJerk.v]
  | .axIref => [AxIref.runDuty, AxIref.holdDuty, AxIref.holdDelay]
  | .axStept => [AxStept.stepW, AxStept.dirSetup]
  | .axHome => [AxHome.seq, AxHome.enc]
  | .axHomeV1 => [AxHomeV1.v]
  | .axHomeV2 => [AxHomeV2.v]
  | .axHomeOfsLo => [AxHomeOfsLo.v]
  | .axHomeOfsHi => [AxHomeOfsHi.v]
  | .axHlatLo => [AxHlatLo.v]
  | .axHlatHi => [AxHlatHi.v]
  | .axVnow => [AxVnow.v]
  | .mntCtrl => [MntCtrl.mode, MntCtrl.hostFallback, MntCtrl.hostTo]
  | .mntCmd => [MntCmd.act, MntCmd.op]
  | .mntStat => [MntStat.running, MntStat.conflict, MntStat.refusedAct, MntStat.gate, MntStat.err]
  | .mntPrintExcl => [MntPrintExcl.v]
  | .mntPwinMin => [MntPwinMin.v]
  | .mntPwinMax => [MntPwinMax.v]
  | .mntHstep => [MntHstep.act, MntHstep.step, MntHstep.seq]
  | .mntHgo => [MntHgo.seq]
  | .mntCntMiss => [MntCntMiss.count, MntCntMiss.ovf]
  | .mntExcl => [MntExcl.v]
  | .mntAct => [MntAct.start, MntAct.abortStart, MntAct.axes, MntAct.valid]
  | .mntActLamp => [MntActLamp.v]
  | .mntActBound => [MntActBound.v]
  | .mntStep => [MntStep.v]
  | .mntParam => [MntParam.v]
  | .mcCfg => [McCfg.density, McCfg.ranks2, McCfg.speed, McCfg.cap, McCfg.geoMismatch]
  | .mcCtrl => [McCtrl.retrain, McCtrl.retrainRef, McCtrl.scrubEn, McCtrl.scrubHours, McCtrl.wage, McCtrl.rage]
  | .mcStat => [McStat.state, McStat.degraded, McStat.hot]
  | .mcFf => [McFf.ffUrgent]
  | .mcHammer => [McHammer.actThresh, McHammer.ovfLevel, McHammer.throttle]
  | .mcZq => [McZq.zqPeriod, McZq.oscPeriod]
  | .mcSpareCfg => [McSpareCfg.thresh]
  | .mcSr => [McSr.srIdle]
  | .mcSpare => [McSpare.dev0, McSpare.erased0, McSpare.dev1, McSpare.erased1, McSpare.mark, McSpare.dev, McSpare.rank]
  | .mcCntCe => [McCntCe.count, McCntCe.ovf]
  | .mcCntUe => [McCntUe.count, McCntUe.ovf]
  | .mcCntDrfm => [McCntDrfm.count, McCntDrfm.ovf]
  | .mcCntOvf => [McCntOvf.count, McCntOvf.ovf]
  | .mcCntThrot => [McCntThrot.count, McCntThrot.ovf]
  | .mcCntFfurg => [McCntFfurg.count, McCntFfurg.ovf]
  | .mcUeAddrLo => [McUeAddrLo.v]
  | .mcUeAddrHi => [McUeAddrHi.v]
  | .mcUeInfo => [McUeInfo.class_, McUeInfo.region]
  | .mcScrubPosLo => [McScrubPosLo.v]
  | .mcScrubPosHi => [McScrubPosHi.v]
  | .mcScrubPass => [McScrubPass.v]
  | .mcCe => [McCe.count, McCe.ovf]
  | .twCtrl => [TwCtrl.auto, TwCtrl.compareEn, TwCtrl.summitEn, TwCtrl.planAxwait, TwCtrl.partnerWait, TwCtrl.summitHold]
  | .twHb => [TwHb.grace, TwHb.missN, TwHb.soloWait]
  | .twCmd => [TwCmd.plan, TwCmd.pageBound, TwCmd.key]
  | .twStat => [TwStat.role, TwStat.partnerOk, TwStat.fenceOut, TwStat.fenceIn, TwStat.compareSuspended, TwStat.divergence, TwStat.epoch, TwStat.unfit]
  | .twPstat => [TwPstat.role, TwPstat.nodeId, TwPstat.unfit, TwPstat.eccDegraded]
  | .twCntTakeover => [TwCntTakeover.count, TwCntTakeover.ovf]
  | .twCntHbmiss => [TwCntHbmiss.count, TwCntHbmiss.ovf]
  | .twCntMismatch => [TwCntMismatch.count, TwCntMismatch.ovf]
  | .twCntSummit => [TwCntSummit.count, TwCntSummit.ovf]
  | .twCntRxerr => [TwCntRxerr.count, TwCntRxerr.ovf]
  | .twLastTo => [TwLastTo.cause, TwLastTo.epoch, TwLastTo.slipped]
  | .twLastToTLo => [TwLastToTLo.v]
  | .twLastToTHi => [TwLastToTHi.v]
  | .jnlLast => [JnlLast.v]
  | .jnlBacklog => [JnlBacklog.v]
  | .jnlCntAck => [JnlCntAck.count, JnlCntAck.ovf]
  | .jnlCntJnl => [JnlCntJnl.count, JnlCntJnl.ovf]
  | .netCtrl => [NetCtrl.enE, NetCtrl.enW, NetCtrl.block, NetCtrl.heal, NetCtrl.rstEn]
  | .netStat => [NetStat.eUp, NetStat.wUp, NetStat.opened, NetStat.healed]
  | .netHostMacLo => [NetHostMacLo.v]
  | .netHostMacHi => [NetHostMacHi.v]
  | .netCntFwdErr => [NetCntFwdErr.count, NetCntFwdErr.ovf]
  | .netCntDrop => [NetCntDrop.count, NetCntDrop.ovf]
  | .netCntHops => [NetCntHops.count, NetCntHops.ovf]
  | .netCntSeq => [NetCntSeq.count, NetCntSeq.ovf]
  | .ptpCtrl => [PtpCtrl.mode, PtpCtrl.hostFallback, PtpCtrl.delayMech, PtpCtrl.masterEn, PtpCtrl.tcEn, PtpCtrl.domain, PtpCtrl.syncRate, PtpCtrl.logAnn, PtpCtrl.annTo]
  | .ptpStat => [PtpStat.state, PtpStat.stepped, PtpStat.holdSeen]
  | .ptpIncFrac => [PtpIncFrac.v]
  | .ptpIncInt => [PtpIncInt.ns]
  | .ptpAdj => [PtpAdj.v]
  | .ptpTimeSecLo => [PtpTimeSecLo.v]
  | .ptpTimeSecHi => [PtpTimeSecHi.v]
  | .ptpTimeNs => [PtpTimeNs.v]
  | .ptpTimeFrac => [PtpTimeFrac.v]
  | .ptpSetSecLo => [PtpSetSecLo.v]
  | .ptpSetSecHi => [PtpSetSecHi.v]
  | .ptpSetNs => [PtpSetNs.v]
  | .ptpStepNs => [PtpStepNs.v]
  | .ptpLockNs => [PtpLockNs.v]
  | .ptpMeasOfs => [PtpMeasOfs.v]
  | .ptpMeasDly => [PtpMeasDly.v]
  | .ptpMeasSeq => [PtpMeasSeq.seq]
  | .ptpHostSeq => [PtpHostSeq.seq]
  | .ptpHold => [PtpHold.count, PtpHold.ovf]
  | .ptpAsym => [PtpAsym.ns]
  | .ptpPrio => [PtpPrio.prio1, PtpPrio.prio2, PtpPrio.class_, PtpPrio.holdClass]
  | .ptpXsFtLo => [PtpXsFtLo.v]
  | .ptpXsFtHi => [PtpXsFtHi.v]
  | .ptpXsSecLo => [PtpXsSecLo.v]
  | .ptpXsSecHi => [PtpXsSecHi.v]
  | .ptpXsNs => [PtpXsNs.v]
  | .ptpXsFrac => [PtpXsFrac.frac, PtpXsFrac.step]
  | .ptpXs1FtLo => [PtpXs1FtLo.v]
  | .ptpXs1FtHi => [PtpXs1FtHi.v]
  | .ptpXs1SecLo => [PtpXs1SecLo.v]
  | .ptpXs1SecHi => [PtpXs1SecHi.v]
  | .ptpXs1Ns => [PtpXs1Ns.v]
  | .ptpXs1Frac => [PtpXs1Frac.frac, PtpXs1Frac.step]
  | .tlSecLo => [TlSecLo.v]
  | .tlSecHi => [TlSecHi.v]
  | .tlNs => [TlNs.v]
  | .tlCtrl => [TlCtrl.len, TlCtrl.ports, TlCtrl.arm, TlCtrl.cancel, TlCtrl.state]
  | .tlDepSecLo => [TlDepSecLo.v]
  | .tlDepSecHi => [TlDepSecHi.v]
  | .tlDepNs => [TlDepNs.v]
  | .tlBuf => [TlBuf.v]
  | .metStat => [MetStat.alive, MetStat.sealOpen, MetStat.jobOpen, MetStat.unmetered, MetStat.diverged, MetStat.auditFull, MetStat.auditLost, MetStat.romErr, MetStat.tallyGap]
  | .metTotalUmLo => [MetTotalUmLo.v]
  | .metTotalUmHi => [MetTotalUmHi.v]
  | .metJobUmLo => [MetJobUmLo.v]
  | .metJobUmHi => [MetJobUmHi.v]
  | .metJobRec => [MetJobRec.v]
  | .metEvtLo => [MetEvtLo.v]
  | .metEvtHi => [MetEvtHi.v]
  | .metSwid => [MetSwid.v]
  | .metSwchk => [MetSwchk.v]
  | .metFree => [MetFree.jobs, MetFree.audit]
  | .calCmd => [CalCmd.kind, CalCmd.inst, CalCmd.code, CalCmd.op, CalCmd.key]
  | .calCtrl => [CalCtrl.mode, CalCtrl.hostFallback]
  | .calStat => [CalStat.state, CalStat.run_, CalStat.disagree, CalStat.refused, CalStat.abandoned, CalStat.kind]
  | .calRefval => [CalRefval.v]
  | .calRawLo => [CalRawLo.v]
  | .calRawHi => [CalRawHi.v]
  | .calHres => [CalHres.v]
  | .calPhotoRef => [CalPhotoRef.r0, CalPhotoRef.r1]
  | .calRecCount => [CalRecCount.count, CalRecCount.ovf]
  | .calRecSecLo => [CalRecSecLo.v]
  | .calRecSecHi => [CalRecSecHi.v]
  | .calRecNs => [CalRecNs.v]
  | .calRecLast => [CalRecLast.v]
  | .calRecTol => [CalRecTol.v]
  | .calVgain => [CalVgain.v]
  | .calLampGain => [CalLampGain.v]
  | .calPhoto => [CalPhoto.v]
  | .calDropMass => [CalDropMass.v]
  | .thrWin => [ThrWin.v]

/-- The byte address of element 0 of each register. -/
def Reg.base : Reg → Nat
  | .sysId => 0x00000000
  | .sysStep => 0x00000004
  | .sysNode => 0x00000008
  | .sysUidLo => 0x0000000C
  | .sysUidHi => 0x00000010
  | .sysScratch => 0x00000014
  | .rstStatus => 0x00010000
  | .rstFuseMap => 0x00010004
  | .rstStart => 0x00010008
  | .rstCmd => 0x00010010
  | .rstPark => 0x00010014
  | .rstHist => 0x00010100
  | .cfgStatus => 0x00020000
  | .cfgGenLo => 0x00020008
  | .cfgGenHi => 0x0002000C
  | .cfgFwver => 0x00020010
  | .cfgFlCtrl => 0x00020020
  | .cfgFlAddr => 0x00020024
  | .cfgFlBuf => 0x00020100
  | .monRail => 0x00030000
  | .monCtrl => 0x00030040
  | .monTemp => 0x00030080
  | .monPace => 0x00030400
  | .evtCtrl => 0x00040000
  | .evtBaseLo => 0x00040004
  | .evtBaseHi => 0x00040008
  | .evtWr => 0x0004000C
  | .evtRd => 0x00040010
  | .evtLost => 0x00040014
  | .evtQfill => 0x00040018
  | .evtEnt => 0x00040020
  | .evtTail => 0x00040100
  | .lnCtrl => 0x00100000
  | .lnStat => 0x00100004
  | .lnErrcnt => 0x00100008
  | .lnSkpcnt => 0x0010000C
  | .lnPrbs => 0x00100010
  | .lnMargin => 0x00100014
  | .lnMarginErr => 0x00100018
  | .dpCtrl => 0x00200000
  | .dpErr => 0x00200004
  | .pgCtrl => 0x00210000
  | .pgStatus => 0x00210004
  | .pgNextLo => 0x00210008
  | .pgNextHi => 0x0021000C
  | .pgDoneLo => 0x00210010
  | .pgDoneHi => 0x00210014
  | .pgCnt => 0x00210018
  | .pgAbort => 0x00210020
  | .dcxCtrl => 0x00220000
  | .dcxStat => 0x00220010
  | .dcxErr => 0x00220040
  | .dcxPreempt => 0x00220044
  | .dcxLast => 0x00220048
  | .dcxLastOfs => 0x0022004C
  | .dcxLastPseqLo => 0x00220050
  | .dcxLastPseqHi => 0x00220054
  | .cmxStat => 0x00220100
  | .cmxIn => 0x00220104
  | .cmxOut => 0x00220108
  | .scrCtrl => 0x00300000
  | .scrCommit => 0x00300004
  | .scrGenNew => 0x00300008
  | .scrGenCur => 0x0030000C
  | .scrTsvalid => 0x00300010
  | .scrCnt => 0x00300020
  | .scrSset => 0x00300100
  | .scrThrCtl => 0x00300200
  | .scrTsmap => 0x00300400
  | .ctbStage => 0x00400000
  | .ctbCur => 0x00440000
  | .curveStage => 0x00480000
  | .curveCur => 0x00490000
  | .nmStage => 0x00800000
  | .nmNew => 0x00900000
  | .geoStage => 0x00A00000
  | .geoNew => 0x00A04000
  | .usabNew => 0x00A10000
  | .usabCur => 0x00A18000
  | .nmCommit => 0x00A20000
  | .nmGenNew => 0x00A20004
  | .nmGenCur => 0x00A20008
  | .nmDelta => 0x00A2000C
  | .brCfg => 0x01000000
  | .brBaseLo => 0x01000004
  | .brBaseHi => 0x01000008
  | .brLead => 0x0100000C
  | .ffCtrl => 0x01000100
  | .ffDutyW0 => 0x01000104
  | .ffDutyW1 => 0x01000108
  | .ffNozDutyMax => 0x0100010C
  | .ffHeadDutyMax => 0x01000110
  | .ffCntLate => 0x01000120
  | .ffCntCap => 0x01000124
  | .ffCntDred => 0x01000128
  | .ffCntDrem => 0x0100012C
  | .ffCntWd => 0x01000130
  | .ffScreeBaseLo => 0x01000140
  | .ffScreeBaseHi => 0x01000144
  | .ffScreeSize => 0x01000148
  | .ffScreeWr => 0x0100014C
  | .ffScreeRd => 0x01000150
  | .ffScreeLost => 0x01000154
  | .ffScreeEnt => 0x01000160
  | .fpeCtrl => 0x01100000
  | .fpeStat => 0x01100004
  | .fpePosLo => 0x01100008
  | .fpePosHi => 0x0110000C
  | .fpeHwmLo => 0x01100010
  | .fpeHwmHi => 0x01100014
  | .fpePeriod => 0x01100018
  | .fpeScaleALo => 0x01100020
  | .fpeScaleAHi => 0x01100024
  | .fpeScaleBLo => 0x01100028
  | .fpeScaleBHi => 0x0110002C
  | .fpeCoastMax => 0x01100030
  | .fpeXchk => 0x01100034
  | .fpeStretch => 0x01100038
  | .fpeAdv => 0x0110003C
  | .fpeAllowed => 0x01100040
  | .fpeRegOfs => 0x01100044
  | .fpeOfsSlew => 0x01100048
  | .fpeCntSkip => 0x01100050
  | .fpeCntSlip => 0x01100054
  | .fpeCntCoastbl => 0x01100058
  | .fpeCntFall => 0x0110005C
  | .fpeTofOfs => 0x01100080
  | .fpePhase => 0x01100100
  | .hpCtrl => 0x01200000
  | .hpStat => 0x01200004
  | .hpLdly => 0x01200008
  | .hpIdLo => 0x01200010
  | .hpIdHi => 0x01200014
  | .hpIdInfo => 0x01200018
  | .hpIdGeom => 0x0120001C
  | .hpCntResend => 0x01200020
  | .hpCntLost => 0x01200024
  | .hpCntRefused => 0x01200028
  | .hpCntUperr => 0x0120002C
  | .hpTelem => 0x01200030
  | .hpUsageLo => 0x01200040
  | .hpUsageHi => 0x01200044
  | .hpRate => 0x012000C0
  | .hpTherm => 0x012000C4
  | .hpTstat => 0x012000C8
  | .hpWscale => 0x012000CC
  | .hpGctrl => 0x01220000
  | .encCfg => 0x01300000
  | .encStat => 0x01300004
  | .encPosLo => 0x01300008
  | .encPosHi => 0x0130000C
  | .encIdxVal => 0x01300010
  | .encIdxLatLo => 0x01300014
  | .encIdxLatHi => 0x01300018
  | .encSpeed => 0x0130001C
  | .encSpdCtrl => 0x01300020
  | .encUnc => 0x01300024
  | .encQerr => 0x01300028
  | .ssiCfg => 0x01300400
  | .ssiTrig => 0x01300404
  | .ssiStat => 0x01300408
  | .ssiData => 0x0130040C
  | .ssiTimeLo => 0x01300410
  | .ssiTimeHi => 0x01300414
  | .prbCfg => 0x01300800
  | .prbStat => 0x01300804
  | .prbRec => 0x01300810
  | .leCfg => 0x01400000
  | .leSched => 0x01400004
  | .leSrc => 0x01400008
  | .leRef => 0x0140000C
  | .leOmin => 0x01400010
  | .leOmax => 0x01400014
  | .leOpenVal => 0x01400018
  | .leSlew => 0x0140001C
  | .leGapmax => 0x01400020
  | .leStat => 0x01400024
  | .leOut => 0x01400028
  | .leLaw => 0x0140002C
  | .leErr => 0x01400030
  | .leHostOut => 0x01400034
  | .leHostSeq => 0x01400038
  | .leB0 => 0x01400040
  | .leB1 => 0x01400044
  | .leB2 => 0x01400048
  | .leB3 => 0x0140004C
  | .leA1 => 0x01400050
  | .leA2 => 0x01400054
  | .leA3 => 0x01400058
  | .leCsh0 => 0x0140005C
  | .leCsh1 => 0x01400060
  | .leCsum => 0x01400064
  | .leCntMiss => 0x01400068
  | .leCntLate => 0x0140006C
  | .leGctrl => 0x01406000
  | .leLoad => 0x01406004
  | .trcCfg => 0x01410000
  | .trcNode0 => 0x01410004
  | .trcNode1 => 0x01410008
  | .trcLevel => 0x0141000C
  | .trcStat => 0x01410010
  | .trcT0Lo => 0x01410014
  | .trcT0Hi => 0x01410018
  | .trcDumpLo => 0x0141001C
  | .trcDumpHi => 0x01410020
  | .trcDumpCtl => 0x01410024
  | .trcBuf => 0x01440000
  | .camCfg => 0x01500000
  | .camTrig => 0x01500004
  | .camDistLo => 0x01500008
  | .camDistHi => 0x0150000C
  | .camFrameTo => 0x01500010
  | .camStat => 0x01500014
  | .camCntSkip => 0x01500018
  | .camCntUnsol => 0x0150001C
  | .ispSize => 0x01510000
  | .ispMode => 0x01510004
  | .ispBlack => 0x01510008
  | .ispWb => 0x01510010
  | .ispCcm => 0x01510018
  | .ispSep => 0x01510030
  | .ispSepofs => 0x01510048
  | .ispStrobe => 0x01510050
  | .ispStrobeW => 0x01510054
  | .ispStrobeDly => 0x01510058
  | .ispCommit => 0x01510060
  | .ispTarget => 0x01510064
  | .ispTseq => 0x01510068
  | .ispApplied => 0x0151006C
  | .ispGenCur => 0x01510070
  | .ispCol0 => 0x01510080
  | .ispCscale => 0x01510084
  | .ispAscale => 0x01510088
  | .ispY0 => 0x0151008C
  | .ispDefect => 0x01511000
  | .ispCurve => 0x01512000
  | .ispFlat => 0x01518000
  | .insCtrl => 0x01590000
  | .insChkDen => 0x01590004
  | .insTrl => 0x01590008
  | .insHmIdx => 0x01590010
  | .insHmDataLo => 0x01590014
  | .insHmDataHi => 0x01590018
  | .insMarkPos => 0x01590020
  | .insMark => 0x01590030
  | .insMarkNom => 0x01590034
  | .insFocus => 0x01590040
  | .insFocusMaskLo => 0x01590044
  | .insFocusMaskHi => 0x01590048
  | .insGap => 0x01590050
  | .insGapMaskLo => 0x01590054
  | .insGapMaskHi => 0x01590058
  | .insSrc => 0x01590060
  | .insResBaseLo => 0x01590080
  | .insResBaseHi => 0x01590084
  | .insResSize => 0x01590088
  | .insResWr => 0x0159008C
  | .insResRd => 0x01590090
  | .insResLost => 0x01590094
  | .insCap => 0x015900A0
  | .insCapTarget => 0x015900A4
  | .insCapDstLo => 0x015900A8
  | .insCapDstHi => 0x015900AC
  | .insResEnt => 0x015900C0
  | .insTmpl => 0x015A0000
  | .lmpCfg => 0x01600000
  | .lmpStat => 0x01600004
  | .lmpLevel => 0x01600008
  | .lmpSeg => 0x0160000C
  | .lmpVdiv => 0x01600010
  | .lmpVfmin => 0x01600014
  | .lmpPulse => 0x01600018
  | .lmpDiagmin => 0x0160001C
  | .lmpMeas => 0x01600020
  | .lmpCntSkip => 0x01600024
  | .lmpCtrl => 0x01600028
  | .lmpImax => 0x0160002C
  | .lmpSegmap => 0x01600030
  | .lmpDist => 0x01600034
  | .lmpWin => 0x01600038
  | .lmpGstat => 0x01600800
  | .patCtrl => 0x01610000
  | .patStat => 0x01610004
  | .patStep => 0x01611000
  | .ptab => 0x01612000
  | .lmpPoint => 0x01612400
  | .axCfg => 0x01700000
  | .axCmd => 0x01700004
  | .axStat => 0x01700008
  | .axPosLo => 0x0170000C
  | .axPosHi => 0x01700010
  | .axTgtLo => 0x01700014
  | .axTgtHi => 0x01700018
  | .axVmax => 0x0170001C
  | .axAcc => 0x01700020
  | .axDec => 0x01700024
  | .axDecEmerg => 0x01700028
  | .axJerk => 0x0170002C
  | .axIref => 0x01700030
  | .axStept => 0x01700034
  | .axHome => 0x01700038
  | .axHomeV1 => 0x0170003C
  | .axHomeV2 => 0x01700040
  | .axHomeOfsLo => 0x01700044
  | .axHomeOfsHi => 0x01700048
  | .axHlatLo => 0x0170004C
  | .axHlatHi => 0x01700050
  | .axVnow => 0x01700054
  | .mntCtrl => 0x01701000
  | .mntCmd => 0x01701004
  | .mntStat => 0x01701008
  | .mntPrintExcl => 0x0170100C
  | .mntPwinMin => 0x01701010
  | .mntPwinMax => 0x01701014
  | .mntHstep => 0x01701018
  | .mntHgo => 0x0170101C
  | .mntCntMiss => 0x01701020
  | .mntExcl => 0x01701040
  | .mntAct => 0x01701080
  | .mntActLamp => 0x01701084
  | .mntActBound => 0x01701088
  | .mntStep => 0x01702000
  | .mntParam => 0x01704000
  | .mcCfg => 0x01800000
  | .mcCtrl => 0x01800004
  | .mcStat => 0x01800008
  | .mcFf => 0x0180000C
  | .mcHammer => 0x01800010
  | .mcZq => 0x01800014
  | .mcSpareCfg => 0x01800018
  | .mcSr => 0x0180001C
  | .mcSpare => 0x01800040
  | .mcCntCe => 0x01800200
  | .mcCntUe => 0x01800204
  | .mcCntDrfm => 0x01800208
  | .mcCntOvf => 0x0180020C
  | .mcCntThrot => 0x01800210
  | .mcCntFfurg => 0x01800214
  | .mcUeAddrLo => 0x01800220
  | .mcUeAddrHi => 0x01800224
  | .mcUeInfo => 0x01800228
  | .mcScrubPosLo => 0x01800230
  | .mcScrubPosHi => 0x01800234
  | .mcScrubPass => 0x01800238
  | .mcCe => 0x01800400
  | .twCtrl => 0x01900000
  | .twHb => 0x01900004
  | .twCmd => 0x01900008
  | .twStat => 0x0190000C
  | .twPstat => 0x01900010
  | .twCntTakeover => 0x01900020
  | .twCntHbmiss => 0x01900024
  | .twCntMismatch => 0x01900028
  | .twCntSummit => 0x0190002C
  | .twCntRxerr => 0x01900030
  | .twLastTo => 0x01900040
  | .twLastToTLo => 0x01900044
  | .twLastToTHi => 0x01900048
  | .jnlLast => 0x01900100
  | .jnlBacklog => 0x01900104
  | .jnlCntAck => 0x01900108
  | .jnlCntJnl => 0x0190010C
  | .netCtrl => 0x01A00000
  | .netStat => 0x01A00004
  | .netHostMacLo => 0x01A00008
  | .netHostMacHi => 0x01A0000C
  | .netCntFwdErr => 0x01A00010
  | .netCntDrop => 0x01A00014
  | .netCntHops => 0x01A00018
  | .netCntSeq => 0x01A0001C
  | .ptpCtrl => 0x01A10000
  | .ptpStat => 0x01A10004
  | .ptpIncFrac => 0x01A10008
  | .ptpIncInt => 0x01A1000C
  | .ptpAdj => 0x01A10010
  | .ptpTimeSecLo => 0x01A10014
  | .ptpTimeSecHi => 0x01A10018
  | .ptpTimeNs => 0x01A1001C
  | .ptpTimeFrac => 0x01A10020
  | .ptpSetSecLo => 0x01A10024
  | .ptpSetSecHi => 0x01A10028
  | .ptpSetNs => 0x01A1002C
  | .ptpStepNs => 0x01A10030
  | .ptpLockNs => 0x01A10034
  | .ptpMeasOfs => 0x01A10038
  | .ptpMeasDly => 0x01A1003C
  | .ptpMeasSeq => 0x01A10040
  | .ptpHostSeq => 0x01A10044
  | .ptpHold => 0x01A10048
  | .ptpAsym => 0x01A10050
  | .ptpPrio => 0x01A10058
  | .ptpXsFtLo => 0x01A10060
  | .ptpXsFtHi => 0x01A10064
  | .ptpXsSecLo => 0x01A10068
  | .ptpXsSecHi => 0x01A1006C
  | .ptpXsNs => 0x01A10070
  | .ptpXsFrac => 0x01A10074
  | .ptpXs1FtLo => 0x01A10078
  | .ptpXs1FtHi => 0x01A1007C
  | .ptpXs1SecLo => 0x01A10080
  | .ptpXs1SecHi => 0x01A10084
  | .ptpXs1Ns => 0x01A10088
  | .ptpXs1Frac => 0x01A1008C
  | .tlSecLo => 0x01A10100
  | .tlSecHi => 0x01A10104
  | .tlNs => 0x01A10108
  | .tlCtrl => 0x01A1010C
  | .tlDepSecLo => 0x01A10110
  | .tlDepSecHi => 0x01A10114
  | .tlDepNs => 0x01A10118
  | .tlBuf => 0x01A18000
  | .metStat => 0x01B00000
  | .metTotalUmLo => 0x01B00004
  | .metTotalUmHi => 0x01B00008
  | .metJobUmLo => 0x01B0000C
  | .metJobUmHi => 0x01B00010
  | .metJobRec => 0x01B00014
  | .metEvtLo => 0x01B00018
  | .metEvtHi => 0x01B0001C
  | .metSwid => 0x01B00020
  | .metSwchk => 0x01B00024
  | .metFree => 0x01B00028
  | .calCmd => 0x01C00000
  | .calCtrl => 0x01C00004
  | .calStat => 0x01C00008
  | .calRefval => 0x01C0000C
  | .calRawLo => 0x01C00010
  | .calRawHi => 0x01C00014
  | .calHres => 0x01C00018
  | .calPhotoRef => 0x01C0001C
  | .calRecCount => 0x01C00100
  | .calRecSecLo => 0x01C00104
  | .calRecSecHi => 0x01C00108
  | .calRecNs => 0x01C0010C
  | .calRecLast => 0x01C00110
  | .calRecTol => 0x01C00114
  | .calVgain => 0x01C00200
  | .calLampGain => 0x01C00240
  | .calPhoto => 0x01C00280
  | .calDropMass => 0x01C01000
  | .thrWin => 0x02000000

/-- The dimensions of each array: how many elements and how many bytes apart, outermost first. -/
def Reg.dims : Reg → List (Nat × Nat)
  | .rstHist => [(16, 0x4)]
  | .cfgFlBuf => [(64, 0x4)]
  | .monRail => [(6, 0x4)]
  | .monPace => [(16, 0x4)]
  | .evtEnt => [(4, 0x4)]
  | .evtTail => [(64, 0x10), (4, 0x4)]
  | .lnCtrl => [(142, 0x100)]
  | .lnStat => [(142, 0x100)]
  | .lnErrcnt => [(142, 0x100)]
  | .lnSkpcnt => [(142, 0x100)]
  | .lnPrbs => [(142, 0x100)]
  | .lnMargin => [(142, 0x100)]
  | .lnMarginErr => [(142, 0x100)]
  | .dcxStat => [(8, 0x4)]
  | .cmxStat => [(2, 0x40)]
  | .cmxIn => [(2, 0x40)]
  | .cmxOut => [(2, 0x40)]
  | .scrSset => [(32, 0x4)]
  | .scrThrCtl => [(8, 0x4)]
  | .scrTsmap => [(512, 0x4)]
  | .ctbStage => [(65536, 0x4)]
  | .ctbCur => [(65536, 0x4)]
  | .curveStage => [(16384, 0x4)]
  | .curveCur => [(16384, 0x4)]
  | .nmStage => [(262144, 0x4)]
  | .nmNew => [(262144, 0x4)]
  | .geoStage => [(4096, 0x4)]
  | .geoNew => [(4096, 0x4)]
  | .usabNew => [(8192, 0x4)]
  | .usabCur => [(8192, 0x4)]
  | .ffScreeEnt => [(8, 0x4)]
  | .fpeTofOfs => [(4, 0x4)]
  | .fpePhase => [(128, 0x4)]
  | .hpCtrl => [(128, 0x400)]
  | .hpStat => [(128, 0x400)]
  | .hpLdly => [(128, 0x400)]
  | .hpIdLo => [(128, 0x400)]
  | .hpIdHi => [(128, 0x400)]
  | .hpIdInfo => [(128, 0x400)]
  | .hpIdGeom => [(128, 0x400)]
  | .hpCntResend => [(128, 0x400)]
  | .hpCntLost => [(128, 0x400)]
  | .hpCntRefused => [(128, 0x400)]
  | .hpCntUperr => [(128, 0x400)]
  | .hpTelem => [(128, 0x400)]
  | .hpUsageLo => [(128, 0x400), (7, 0x8)]
  | .hpUsageHi => [(128, 0x400), (7, 0x8)]
  | .hpRate => [(128, 0x400)]
  | .hpTherm => [(128, 0x400)]
  | .hpTstat => [(128, 0x400)]
  | .hpWscale => [(128, 0x400)]
  | .encCfg => [(6, 0x40)]
  | .encStat => [(6, 0x40)]
  | .encPosLo => [(6, 0x40)]
  | .encPosHi => [(6, 0x40)]
  | .encIdxVal => [(6, 0x40)]
  | .encIdxLatLo => [(6, 0x40)]
  | .encIdxLatHi => [(6, 0x40)]
  | .encSpeed => [(6, 0x40)]
  | .encSpdCtrl => [(6, 0x40)]
  | .encUnc => [(6, 0x40)]
  | .encQerr => [(6, 0x40)]
  | .ssiCfg => [(2, 0x40)]
  | .ssiTrig => [(2, 0x40)]
  | .ssiStat => [(2, 0x40)]
  | .ssiData => [(2, 0x40)]
  | .ssiTimeLo => [(2, 0x40)]
  | .ssiTimeHi => [(2, 0x40)]
  | .prbCfg => [(12, 0x40)]
  | .prbStat => [(12, 0x40)]
  | .prbRec => [(12, 0x40), (8, 0x4)]
  | .leCfg => [(176, 0x80)]
  | .leSched => [(176, 0x80)]
  | .leSrc => [(176, 0x80)]
  | .leRef => [(176, 0x80)]
  | .leOmin => [(176, 0x80)]
  | .leOmax => [(176, 0x80)]
  | .leOpenVal => [(176, 0x80)]
  | .leSlew => [(176, 0x80)]
  | .leGapmax => [(176, 0x80)]
  | .leStat => [(176, 0x80)]
  | .leOut => [(176, 0x80)]
  | .leLaw => [(176, 0x80)]
  | .leErr => [(176, 0x80)]
  | .leHostOut => [(176, 0x80)]
  | .leHostSeq => [(176, 0x80)]
  | .leB0 => [(176, 0x80)]
  | .leB1 => [(176, 0x80)]
  | .leB2 => [(176, 0x80)]
  | .leB3 => [(176, 0x80)]
  | .leA1 => [(176, 0x80)]
  | .leA2 => [(176, 0x80)]
  | .leA3 => [(176, 0x80)]
  | .leCsh0 => [(176, 0x80)]
  | .leCsh1 => [(176, 0x80)]
  | .leCsum => [(176, 0x80)]
  | .leCntMiss => [(176, 0x80)]
  | .leCntLate => [(176, 0x80)]
  | .trcCfg => [(4, 0x40)]
  | .trcNode0 => [(4, 0x40)]
  | .trcNode1 => [(4, 0x40)]
  | .trcLevel => [(4, 0x40)]
  | .trcStat => [(4, 0x40)]
  | .trcT0Lo => [(4, 0x40)]
  | .trcT0Hi => [(4, 0x40)]
  | .trcDumpLo => [(4, 0x40)]
  | .trcDumpHi => [(4, 0x40)]
  | .trcDumpCtl => [(4, 0x40)]
  | .trcBuf => [(4, 0x20000), (32768, 0x4)]
  | .camCfg => [(4, 0x100)]
  | .camTrig => [(4, 0x100)]
  | .camDistLo => [(4, 0x100)]
  | .camDistHi => [(4, 0x100)]
  | .camFrameTo => [(4, 0x100)]
  | .camStat => [(4, 0x100)]
  | .camCntSkip => [(4, 0x100)]
  | .camCntUnsol => [(4, 0x100)]
  | .ispSize => [(8, 0x10000)]
  | .ispMode => [(8, 0x10000)]
  | .ispBlack => [(8, 0x10000), (2, 0x4)]
  | .ispWb => [(8, 0x10000), (2, 0x4)]
  | .ispCcm => [(8, 0x10000), (6, 0x4)]
  | .ispSep => [(8, 0x10000), (6, 0x4)]
  | .ispSepofs => [(8, 0x10000), (2, 0x4)]
  | .ispStrobe => [(8, 0x10000)]
  | .ispStrobeW => [(8, 0x10000)]
  | .ispStrobeDly => [(8, 0x10000)]
  | .ispCommit => [(8, 0x10000)]
  | .ispTarget => [(8, 0x10000)]
  | .ispTseq => [(8, 0x10000)]
  | .ispApplied => [(8, 0x10000)]
  | .ispGenCur => [(8, 0x10000)]
  | .ispCol0 => [(8, 0x10000)]
  | .ispCscale => [(8, 0x10000)]
  | .ispAscale => [(8, 0x10000)]
  | .ispY0 => [(8, 0x10000)]
  | .ispDefect => [(8, 0x10000), (1024, 0x4)]
  | .ispCurve => [(8, 0x10000), (3072, 0x4)]
  | .ispFlat => [(8, 0x10000), (8192, 0x4)]
  | .insMarkPos => [(4, 0x4)]
  | .insSrc => [(4, 0x4)]
  | .insResEnt => [(16, 0x4)]
  | .insTmpl => [(8, 0x200), (128, 0x4)]
  | .lmpCfg => [(16, 0x40)]
  | .lmpStat => [(16, 0x40)]
  | .lmpLevel => [(16, 0x40)]
  | .lmpSeg => [(16, 0x40)]
  | .lmpVdiv => [(16, 0x40)]
  | .lmpVfmin => [(16, 0x40)]
  | .lmpPulse => [(16, 0x40)]
  | .lmpDiagmin => [(16, 0x40)]
  | .lmpMeas => [(16, 0x40)]
  | .lmpCntSkip => [(16, 0x40)]
  | .lmpCtrl => [(16, 0x40)]
  | .lmpImax => [(16, 0x40)]
  | .lmpSegmap => [(16, 0x40)]
  | .lmpDist => [(16, 0x40)]
  | .lmpWin => [(16, 0x40)]
  | .patCtrl => [(8, 0x20)]
  | .patStat => [(8, 0x20)]
  | .patStep => [(8, 0x200), (128, 0x4)]
  | .ptab => [(256, 0x4)]
  | .lmpPoint => [(8, 0x40), (16, 0x4)]
  | .axCfg => [(8, 0x80)]
  | .axCmd => [(8, 0x80)]
  | .axStat => [(8, 0x80)]
  | .axPosLo => [(8, 0x80)]
  | .axPosHi => [(8, 0x80)]
  | .axTgtLo => [(8, 0x80)]
  | .axTgtHi => [(8, 0x80)]
  | .axVmax => [(8, 0x80)]
  | .axAcc => [(8, 0x80)]
  | .axDec => [(8, 0x80)]
  | .axDecEmerg => [(8, 0x80)]
  | .axJerk => [(8, 0x80)]
  | .axIref => [(8, 0x80)]
  | .axStept => [(8, 0x80)]
  | .axHome => [(8, 0x80)]
  | .axHomeV1 => [(8, 0x80)]
  | .axHomeV2 => [(8, 0x80)]
  | .axHomeOfsLo => [(8, 0x80)]
  | .axHomeOfsHi => [(8, 0x80)]
  | .axHlatLo => [(8, 0x80)]
  | .axHlatHi => [(8, 0x80)]
  | .axVnow => [(8, 0x80)]
  | .mntExcl => [(16, 0x4)]
  | .mntAct => [(16, 0x10)]
  | .mntActLamp => [(16, 0x10)]
  | .mntActBound => [(16, 0x10)]
  | .mntStep => [(16, 0x200), (128, 0x4)]
  | .mntParam => [(8, 0x200), (128, 0x4)]
  | .mcSpare => [(8, 0x4)]
  | .mcCe => [(8, 0x40), (2, 0x14), (5, 0x4)]
  | .ptpAsym => [(2, 0x4)]
  | .tlSecLo => [(16, 0x20)]
  | .tlSecHi => [(16, 0x20)]
  | .tlNs => [(16, 0x20)]
  | .tlCtrl => [(16, 0x20)]
  | .tlDepSecLo => [(16, 0x20)]
  | .tlDepSecHi => [(16, 0x20)]
  | .tlDepNs => [(16, 0x20)]
  | .tlBuf => [(16, 0x800), (512, 0x4)]
  | .calPhotoRef => [(2, 0x4)]
  | .calRecCount => [(8, 0x20)]
  | .calRecSecLo => [(8, 0x20)]
  | .calRecSecHi => [(8, 0x20)]
  | .calRecNs => [(8, 0x20)]
  | .calRecLast => [(8, 0x20)]
  | .calRecTol => [(8, 0x20)]
  | .calLampGain => [(16, 0x4)]
  | .calPhoto => [(8, 0x10), (3, 0x4)]
  | .calDropMass => [(128, 0x20), (8, 0x4)]
  | .thrWin => [(8, 0x100000), (262144, 0x4)]
  | _ => []

/-- Part 0 of the register list, in address order. -/
def regList0 : List Reg :=
  [.sysId, .sysStep, .sysNode, .sysUidLo, .sysUidHi, .sysScratch, .rstStatus, .rstFuseMap,
   .rstStart, .rstCmd, .rstPark, .rstHist, .cfgStatus, .cfgGenLo, .cfgGenHi, .cfgFwver,
   .cfgFlCtrl, .cfgFlAddr, .cfgFlBuf, .monRail, .monCtrl, .monTemp, .monPace, .evtCtrl,
   .evtBaseLo, .evtBaseHi, .evtWr, .evtRd, .evtLost, .evtQfill, .evtEnt, .evtTail,
   .lnCtrl, .lnStat, .lnErrcnt, .lnSkpcnt, .lnPrbs, .lnMargin, .lnMarginErr, .dpCtrl,
   .dpErr, .pgCtrl, .pgStatus, .pgNextLo, .pgNextHi, .pgDoneLo, .pgDoneHi, .pgCnt,
   .pgAbort, .dcxCtrl, .dcxStat, .dcxErr, .dcxPreempt, .dcxLast, .dcxLastOfs, .dcxLastPseqLo,
   .dcxLastPseqHi, .cmxStat, .cmxIn, .cmxOut, .scrCtrl, .scrCommit, .scrGenNew, .scrGenCur]

/-- Part 1 of the register list, in address order. -/
def regList1 : List Reg :=
  [.scrTsvalid, .scrCnt, .scrSset, .scrThrCtl, .scrTsmap, .ctbStage, .ctbCur, .curveStage,
   .curveCur, .nmStage, .nmNew, .geoStage, .geoNew, .usabNew, .usabCur, .nmCommit,
   .nmGenNew, .nmGenCur, .nmDelta, .brCfg, .brBaseLo, .brBaseHi, .brLead, .ffCtrl,
   .ffDutyW0, .ffDutyW1, .ffNozDutyMax, .ffHeadDutyMax, .ffCntLate, .ffCntCap, .ffCntDred, .ffCntDrem,
   .ffCntWd, .ffScreeBaseLo, .ffScreeBaseHi, .ffScreeSize, .ffScreeWr, .ffScreeRd, .ffScreeLost, .ffScreeEnt,
   .fpeCtrl, .fpeStat, .fpePosLo, .fpePosHi, .fpeHwmLo, .fpeHwmHi, .fpePeriod, .fpeScaleALo,
   .fpeScaleAHi, .fpeScaleBLo, .fpeScaleBHi, .fpeCoastMax, .fpeXchk, .fpeStretch, .fpeAdv, .fpeAllowed,
   .fpeRegOfs, .fpeOfsSlew, .fpeCntSkip, .fpeCntSlip, .fpeCntCoastbl, .fpeCntFall, .fpeTofOfs, .fpePhase]

/-- Part 2 of the register list, in address order. -/
def regList2 : List Reg :=
  [.hpCtrl, .hpStat, .hpLdly, .hpIdLo, .hpIdHi, .hpIdInfo, .hpIdGeom, .hpCntResend,
   .hpCntLost, .hpCntRefused, .hpCntUperr, .hpTelem, .hpUsageLo, .hpUsageHi, .hpRate, .hpTherm,
   .hpTstat, .hpWscale, .hpGctrl, .encCfg, .encStat, .encPosLo, .encPosHi, .encIdxVal,
   .encIdxLatLo, .encIdxLatHi, .encSpeed, .encSpdCtrl, .encUnc, .encQerr, .ssiCfg, .ssiTrig,
   .ssiStat, .ssiData, .ssiTimeLo, .ssiTimeHi, .prbCfg, .prbStat, .prbRec, .leCfg,
   .leSched, .leSrc, .leRef, .leOmin, .leOmax, .leOpenVal, .leSlew, .leGapmax,
   .leStat, .leOut, .leLaw, .leErr, .leHostOut, .leHostSeq, .leB0, .leB1,
   .leB2, .leB3, .leA1, .leA2, .leA3, .leCsh0, .leCsh1, .leCsum]

/-- Part 3 of the register list, in address order. -/
def regList3 : List Reg :=
  [.leCntMiss, .leCntLate, .leGctrl, .leLoad, .trcCfg, .trcNode0, .trcNode1, .trcLevel,
   .trcStat, .trcT0Lo, .trcT0Hi, .trcDumpLo, .trcDumpHi, .trcDumpCtl, .trcBuf, .camCfg,
   .camTrig, .camDistLo, .camDistHi, .camFrameTo, .camStat, .camCntSkip, .camCntUnsol, .ispSize,
   .ispMode, .ispBlack, .ispWb, .ispCcm, .ispSep, .ispSepofs, .ispStrobe, .ispStrobeW,
   .ispStrobeDly, .ispCommit, .ispTarget, .ispTseq, .ispApplied, .ispGenCur, .ispCol0, .ispCscale,
   .ispAscale, .ispY0, .ispDefect, .ispCurve, .ispFlat, .insCtrl, .insChkDen, .insTrl,
   .insHmIdx, .insHmDataLo, .insHmDataHi, .insMarkPos, .insMark, .insMarkNom, .insFocus, .insFocusMaskLo,
   .insFocusMaskHi, .insGap, .insGapMaskLo, .insGapMaskHi, .insSrc, .insResBaseLo, .insResBaseHi, .insResSize]

/-- Part 4 of the register list, in address order. -/
def regList4 : List Reg :=
  [.insResWr, .insResRd, .insResLost, .insCap, .insCapTarget, .insCapDstLo, .insCapDstHi, .insResEnt,
   .insTmpl, .lmpCfg, .lmpStat, .lmpLevel, .lmpSeg, .lmpVdiv, .lmpVfmin, .lmpPulse,
   .lmpDiagmin, .lmpMeas, .lmpCntSkip, .lmpCtrl, .lmpImax, .lmpSegmap, .lmpDist, .lmpWin,
   .lmpGstat, .patCtrl, .patStat, .patStep, .ptab, .lmpPoint, .axCfg, .axCmd,
   .axStat, .axPosLo, .axPosHi, .axTgtLo, .axTgtHi, .axVmax, .axAcc, .axDec,
   .axDecEmerg, .axJerk, .axIref, .axStept, .axHome, .axHomeV1, .axHomeV2, .axHomeOfsLo,
   .axHomeOfsHi, .axHlatLo, .axHlatHi, .axVnow, .mntCtrl, .mntCmd, .mntStat, .mntPrintExcl,
   .mntPwinMin, .mntPwinMax, .mntHstep, .mntHgo, .mntCntMiss, .mntExcl, .mntAct, .mntActLamp]

/-- Part 5 of the register list, in address order. -/
def regList5 : List Reg :=
  [.mntActBound, .mntStep, .mntParam, .mcCfg, .mcCtrl, .mcStat, .mcFf, .mcHammer,
   .mcZq, .mcSpareCfg, .mcSr, .mcSpare, .mcCntCe, .mcCntUe, .mcCntDrfm, .mcCntOvf,
   .mcCntThrot, .mcCntFfurg, .mcUeAddrLo, .mcUeAddrHi, .mcUeInfo, .mcScrubPosLo, .mcScrubPosHi, .mcScrubPass,
   .mcCe, .twCtrl, .twHb, .twCmd, .twStat, .twPstat, .twCntTakeover, .twCntHbmiss,
   .twCntMismatch, .twCntSummit, .twCntRxerr, .twLastTo, .twLastToTLo, .twLastToTHi, .jnlLast, .jnlBacklog,
   .jnlCntAck, .jnlCntJnl, .netCtrl, .netStat, .netHostMacLo, .netHostMacHi, .netCntFwdErr, .netCntDrop,
   .netCntHops, .netCntSeq, .ptpCtrl, .ptpStat, .ptpIncFrac, .ptpIncInt, .ptpAdj, .ptpTimeSecLo,
   .ptpTimeSecHi, .ptpTimeNs, .ptpTimeFrac, .ptpSetSecLo, .ptpSetSecHi, .ptpSetNs, .ptpStepNs, .ptpLockNs]

/-- Part 6 of the register list, in address order. -/
def regList6 : List Reg :=
  [.ptpMeasOfs, .ptpMeasDly, .ptpMeasSeq, .ptpHostSeq, .ptpHold, .ptpAsym, .ptpPrio, .ptpXsFtLo,
   .ptpXsFtHi, .ptpXsSecLo, .ptpXsSecHi, .ptpXsNs, .ptpXsFrac, .ptpXs1FtLo, .ptpXs1FtHi, .ptpXs1SecLo,
   .ptpXs1SecHi, .ptpXs1Ns, .ptpXs1Frac, .tlSecLo, .tlSecHi, .tlNs, .tlCtrl, .tlDepSecLo,
   .tlDepSecHi, .tlDepNs, .tlBuf, .metStat, .metTotalUmLo, .metTotalUmHi, .metJobUmLo, .metJobUmHi,
   .metJobRec, .metEvtLo, .metEvtHi, .metSwid, .metSwchk, .metFree, .calCmd, .calCtrl,
   .calStat, .calRefval, .calRawLo, .calRawHi, .calHres, .calPhotoRef, .calRecCount, .calRecSecLo,
   .calRecSecHi, .calRecNs, .calRecLast, .calRecTol, .calVgain, .calLampGain, .calPhoto, .calDropMass,
   .thrWin]

/-- Every register, in address order. -/
def regList : List Reg := regList0 ++ regList1 ++ regList2 ++ regList3 ++ regList4 ++ regList5 ++ regList6

/-- Regions of Table 23-1: first and last address. -/
def regions : List (Nat × Nat) :=
  [(0x00000000, 0x0000FFFF), (0x00010000, 0x0001FFFF), (0x00020000, 0x0002FFFF), (0x00030000, 0x0003FFFF),
   (0x00040000, 0x0004FFFF), (0x00100000, 0x0010FFFF), (0x00200000, 0x0020FFFF), (0x00210000, 0x0021FFFF),
   (0x00220000, 0x0022FFFF), (0x00300000, 0x0030FFFF), (0x00400000, 0x004FFFFF), (0x00800000, 0x00AFFFFF),
   (0x01000000, 0x0100FFFF), (0x01100000, 0x0110FFFF), (0x01200000, 0x0122FFFF), (0x01300000, 0x0130FFFF),
   (0x01400000, 0x0140FFFF), (0x01410000, 0x014BFFFF), (0x01500000, 0x015AFFFF), (0x01600000, 0x0161FFFF),
   (0x01700000, 0x0170FFFF), (0x01800000, 0x0180FFFF), (0x01900000, 0x0190FFFF), (0x01A00000, 0x01A1FFFF),
   (0x01B00000, 0x01B0FFFF), (0x01C00000, 0x01C0FFFF), (0x02000000, 0x027FFFFF)]

/-- R523: an address is in the map when it lies in a region and is a multiple of 4. -/
def inMap (a : Nat) : Bool :=
  a % 4 == 0 && regions.any (fun r => r.1 ≤ a && a ≤ r.2)

/-- The row-major element number that an offset from the array's base names, if it names one. -/
def elemOf : List (Nat × Nat) → Nat → Nat → Option Nat
  | [], off, acc => if off = 0 then some acc else none
  | (count, stride) :: ds, off, acc =>
    if off / stride < count then elemOf ds (off % stride) (acc * count + off / stride) else none

/-- The register and element at an address; none where the map holds nothing there (R524). -/
def Reg.ofAddrIn : List Reg → Nat → Option (Reg × Nat)
  | [], _ => none
  | r :: rs, a =>
    if r.base ≤ a then
      match elemOf r.dims (a - r.base) 0 with
      | some i => some (r, i)
      | none => Reg.ofAddrIn rs a
    else Reg.ofAddrIn rs a

def Reg.ofAddr (a : Nat) : Option (Reg × Nat) := Reg.ofAddrIn regList a

/-- How many elements the register's array has. -/
def Reg.count (r : Reg) : Nat := r.dims.foldl (fun n d => n * d.1) 1

/-- The byte address of element `i` (row-major). -/
def addrOf : List (Nat × Nat) → Nat → Nat
  | [], _ => 0
  | (_, stride) :: ds, i =>
    let inner := ds.foldl (fun n d => n * d.1) 1
    (i / inner) * stride + addrOf ds (i % inner)

def Reg.addr (r : Reg) (i : Nat) : Nat := r.base + addrOf r.dims i

end Sys2Proof.Machine
end

