-- ==== Sys2Proof/Machine/ResetVals.lean ====
section
/-!
DEFINITION. Reset values that depend on the element of an array (Table 13-2 for the loop slots, the ramps of the tone and
lamp curves), and the keys under which register fields are held.
-/
namespace Sys2Proof.Machine

/-- The key of field `f` of element `i`: no two fields share one. -/
def Fld.key (f : Fld) (i : Nat) : Nat := (i * 512 + f.reg.ctorIdx) * 32 + f.lo

/-- Entry `v` of the reset tone curve (spec/08_screening.md: 16 v + floor(v / 16)). -/
def ramp12 (v : Nat) : Nat := 16 * v + v / 16

/-- The groups of Table 13-1. -/
inductive LoopRole where
  | thermal | lamp | spareShort | track | along | cross | gap | focus | spareLong
  deriving DecidableEq, Repr

/-- Table 13-1: the role of slot `n`. -/
def loopRole (n : Nat) : LoopRole :=
  if n < 128 then .thermal else if n < 144 then .lamp else if n < 160 then .spareShort
  else if n < 164 then .track else if n = 164 then .along else if n = 165 then .cross
  else if n = 166 then .gap else if n = 167 then .focus else .spareLong

/-- Long grade: LE160 and above (Table 13-1). -/
def longGrade (n : Nat) : Bool := 160 ≤ n

/-- A slot with a fixed role (R305). -/
def fixedRole (n : Nat) : Bool :=
  match loopRole n with
  | .spareShort | .spareLong => false
  | _ => true

/-- One row of Table 13-2: period, phase, source, source instance, INV, sink, sink instance, NEW_ONLY, REF, OMIN, OMAX, SLEW,
GAPMAX, b0, b1, a1 and the shifts of b0 and b1. -/
structure LoopDefaults where
  period : Nat
  phase : Nat
  src : Nat
  inst : Nat
  inv : Nat
  sink : Nat
  sinkInst : Nat
  newOnly : Nat
  ref : Int
  omin : Int
  omax : Int
  slew : Nat
  gapMax : Nat
  b0 : Int
  b1 : Int
  a1 : Int
  sh0 : Nat
  sh1 : Nat
  deriving DecidableEq, Repr

/-- Table 13-2. The period of LE166, 80,000 LQ, does not fit its 16-bit field: 65,535. The
limits the table leaves to the press maker are 0, and the period of a spare slot is 1. DESIGN CHOICE (log 43). -/
def loopDefaults (n : Nat) : LoopDefaults :=
  match loopRole n with
  | .thermal => ⟨80, n % 80, 1, n, 0, 1, n, 0, 4000, 0, 32767, 0, 0xFFFF, 2304, -2048, -32768, 0, 0⟩
  | .lamp => ⟨2, n % 2, 2, n - 128, 0, 2, n - 128, 0, 0, 0, 29491, 0, 0xFFFF, 4096, -3277, -32768, 0, 0⟩
  | .track => ⟨1, 0, 3, n - 160, 1, 3, 0, 0, 0, -16777216, 16777216, 0, 0xFFFFFFFF, 3, -11, -1, 2, 4⟩
  | .along => ⟨8000, 0, 4, 0, 0, 4, 0, 1, 0, -32768, 32768, 24, 16, 1, -3, -1, 1, 3⟩
  | .cross => ⟨8000, 0, 5, 0, 0, 5, 0, 1, 0, 0, 0, 0, 0xFFFFFFFF, 1, -3, -1, 2, 4⟩
  | .gap => ⟨65535, 0, 6, 0, 0, 5, 0, 1, 0, 0, 0, 0, 0xFFFFFFFF, 1, -1, -1, 3, 4⟩
  | .focus => ⟨40000, 0, 7, 0, 0, 5, 0, 1, 0, 0, 0, 0, 0xFFFFFFFF, 1, -1, -1, 3, 4⟩
  | .spareShort => ⟨1, 0, 0, 0, 0, 0, 0, 0, 0, 0, 0, 0, 0xFFFF, 0, 0, 0, 0, 0⟩
  | .spareLong => ⟨1, 0, 0, 0, 0, 0, 0, 0, 0, 0, 0, 0, 0xFFFFFFFF, 0, 0, 0, 0, 0⟩

/-- Table 15-3, PTAB: the reset pattern curve, round(4095 (L/255)^2.2), as tabulated in `ptabReset`. -/
def ptabReset : List Nat :=
  [0, 0, 0, 0, 0, 1, 1, 2, 2, 3, 3, 4, 5, 6, 7, 8,
   9, 11, 12, 14, 15, 17, 19, 21, 23, 25, 27, 29, 32, 34, 37, 40,
   43, 46, 49, 52, 55, 59, 62, 66, 70, 73, 77, 82, 86, 90, 95, 99,
   104, 109, 114, 119, 124, 129, 135, 140, 146, 152, 158, 164, 170, 176, 182, 189] ++
  [196, 202, 209, 216, 224, 231, 238, 246, 254, 261, 269, 277, 286, 294, 302, 311,
   320, 328, 337, 347, 356, 365, 375, 384, 394, 404, 414, 424, 435, 445, 456, 467,
   477, 488, 500, 511, 522, 534, 545, 557, 569, 581, 594, 606, 619, 631, 644, 657,
   670, 683, 697, 710, 724, 738, 752, 766, 780, 794, 809, 823, 838, 853, 868, 884] ++
  [899, 914, 930, 946, 962, 978, 994, 1011, 1027, 1044, 1061, 1078, 1095, 1112, 1130, 1147,
   1165, 1183, 1201, 1219, 1237, 1256, 1274, 1293, 1312, 1331, 1350, 1370, 1389, 1409, 1429, 1449,
   1469, 1489, 1509, 1530, 1551, 1572, 1593, 1614, 1635, 1657, 1678, 1700, 1722, 1744, 1766, 1789,
   1811, 1834, 1857, 1880, 1903, 1926, 1950, 1974, 1997, 2021, 2045, 2070, 2094, 2119, 2143, 2168] ++
  [2193, 2219, 2244, 2270, 2295, 2321, 2347, 2373, 2400, 2426, 2453, 2479, 2506, 2534, 2561, 2588,
   2616, 2644, 2671, 2700, 2728, 2756, 2785, 2813, 2842, 2871, 2900, 2930, 2959, 2989, 3019, 3049,
   3079, 3109, 3140, 3170, 3201, 3232, 3263, 3295, 3326, 3358, 3390, 3421, 3454, 3486, 3518, 3551,
   3584, 3617, 3650, 3683, 3716, 3750, 3784, 3818, 3852, 3886, 3920, 3955, 3990, 4025, 4060, 4095]

/-- The reset value of field `f` of element `i`. DESIGN CHOICE (log 1). -/
def Fld.resetAt (f : Fld) (i : Nat) : Nat :=
  match f.reg with
  | .curveStage | .curveCur => ramp12 (i % 256)
  | .scrTsmap => i % 64
  | .ispCurve => 64 * (i % 1024)
  | .ispCcm => if f = IspCcm.c0 ∧ i % 6 % 2 = 0 then 0x1000 else 0
  | .ptab => ptabReset.getD i 0
  | .sysUidLo => Config.dieUid % 2 ^ 32
  | .sysUidHi => Config.dieUid / 2 ^ 32 % 2 ^ 32
  | .calRecTol => [100, 500, 10000, 5000, 20000].getD i 0
  | .leCfg =>
    if f = LeCfg.en then (if fixedRole i then 1 else 0)
    else if f = LeCfg.newOnly then (loopDefaults i).newOnly
    else if f = LeCfg.grade then (if longGrade i then 1 else 0) else f.rst
  | .leSched => if f = LeSched.period then (loopDefaults i).period else (loopDefaults i).phase
  | .leSrc =>
    if f = LeSrc.src then (loopDefaults i).src else if f = LeSrc.inst then (loopDefaults i).inst
    else if f = LeSrc.inv then (loopDefaults i).inv else if f = LeSrc.sink then (loopDefaults i).sink
    else (loopDefaults i).sinkInst
  | .leRef => unsign 32 (loopDefaults i).ref
  | .leOmin => unsign 32 (loopDefaults i).omin
  | .leOmax => unsign 32 (loopDefaults i).omax
  | .leSlew => (loopDefaults i).slew
  | .leGapmax => (loopDefaults i).gapMax
  | .leB0 => unsign 32 (loopDefaults i).b0
  | .leB1 => unsign 32 (loopDefaults i).b1
  | .leA1 => unsign 32 (loopDefaults i).a1
  | .leCsh0 =>
    if f = LeCsh0.b0 then (loopDefaults i).sh0 else if f = LeCsh0.b1 then (loopDefaults i).sh1 else f.rst
  | _ => f.rst

end Sys2Proof.Machine
end

