-- ==== Sys2Proof/Machine/Event.lean ====
section
/-!
DEFINITION. Event codes and event records (spec/22_events_errors_ordering.md, R502, R506, Table 22-2). The error class of a
code is the one Table 22-4 or a rule names; for the others see notes/assumptions. The number of a code within its block
is stated nowhere (Config.eventCodeNumber).
-/
namespace Sys2Proof.Machine

/-- The events the rules name. -/
inductive EvCode where
  /-- PACE_WARN (R10) -/
  | paceWarn
  /-- PACE_OVER (R10) -/
  | paceOver
  /-- DOMAIN_CLK_FAIL (R54) -/
  | domainClkFail
  /-- DOMAIN_CLK_LOST (R56) -/
  | domainClkLost
  /-- RST_CMD_REJECT (R61) -/
  | rstCmdReject
  /-- PARK_REFUSED (R520) -/
  | parkRefused
  /-- VWARN (R64) -/
  | vwarn
  /-- VWARN_CLEAR (R66) -/
  | vwarnClear
  /-- TWARN (R69) -/
  | twarn
  /-- CFG_OB_INVALID (R71) -/
  | cfgObInvalid
  /-- CFG_GEN_MISMATCH (R74) -/
  | cfgGenMismatch
  /-- CFG_FUSE_LOCKED (R79) -/
  | cfgFuseLocked
  /-- LN_LOL (R120) -/
  | lnLol
  /-- LN_LOS (R114) -/
  | lnLos
  /-- LN_DESKEW (R106) -/
  | lnDeskew
  /-- LN_MISMATCH (R105) -/
  | lnMismatch
  /-- LN_EB (R101) -/
  | lnEb
  /-- PG_LOST (R145) -/
  | pgLost
  /-- PG_CANCEL_LATE (R144) -/
  | pgCancelLate
  /-- PG_CANCEL_NONE (R545) -/
  | pgCancelNone
  /-- PG_DIGEST_DIFF (R139) -/
  | pgDigestDiff
  /-- PG_START_MOVED (R233) -/
  | pgStartMoved
  /-- PG_ABORT_REFUSED (R515) -/
  | pgAbortRefused
  /-- ABORT (R514) -/
  | abort
  /-- ABORT_DONE (R514) -/
  | abortDone
  /-- DCX_MALFORMED (R161) -/
  | dcxMalformed
  /-- DCX_CHECK (R161) -/
  | dcxCheck
  /-- DCX_VMALFORMED (R161) -/
  | dcxVmalformed
  /-- DCX_VCHECK (R161) -/
  | dcxVcheck
  /-- SCR_THR_MONO (R188) -/
  | scrThrMono
  /-- NM_COMMIT_REFUSED (R194) -/
  | nmCommitRefused
  /-- HM_CHANGE (R517) -/
  | hmChange
  /-- HOST_MISS (R517) -/
  | hostMiss
  /-- HOST_FALLBACK (R516) -/
  | hostFallback
  /-- LATE_LINE (R211) -/
  | lateLine
  /-- FPE_SEL_REFUSED (R220) -/
  | fpeSelRefused
  /-- FPE_COAST_EXPIRED (R221) -/
  | fpeCoastExpired
  /-- FPE_XCHK (R222) -/
  | fpeXchk
  /-- FPE_REVERSE (R223) -/
  | fpeReverse
  /-- FPE_STRETCH_ON (R236) -/
  | fpeStretchOn
  /-- FPE_STRETCH_OFF (R236) -/
  | fpeStretchOff
  /-- HT_HOLD (R245) -/
  | htHold
  /-- HT_RESUME (R246) -/
  | htResume
  /-- HT_TELEM_LOST (R247) -/
  | htTelemLost
  /-- HP_LINE_LOST (R269) -/
  | hpLineLost
  /-- HP_EPOCH_STALE (R266) -/
  | hpEpochStale
  /-- HP_FIRE_MISSED (R270) -/
  | hpFireMissed
  /-- HP_LDLY_FAIL (R261) -/
  | hpLdlyFail
  /-- HP_LDLY_STEP (R261) -/
  | hpLdlyStep
  /-- HP_MGMT_FAIL (R275) -/
  | hpMgmtFail
  /-- HP_HELLO_BAD (R279) -/
  | hpHelloBad
  /-- HP_RATE_LIMITED (R279) -/
  | hpRateLimited
  /-- HP_HEAD_CHANGED (R276) -/
  | hpHeadChanged
  /-- HP_UNVERIFIED (R281) -/
  | hpUnverified
  /-- HP_UNVERIFIED_FIRE (R282) -/
  | hpUnverifiedFire
  /-- HP_USAGE_BAD (R283) -/
  | hpUsageBad
  /-- HP_USAGE_REFUSED (R284) -/
  | hpUsageRefused
  /-- OT_TRIP (R248) -/
  | otTrip
  /-- ENC_FAULT (R295) -/
  | encFault
  /-- ENC_HEALTHY (R295) -/
  | encHealthy
  /-- ENC_INDEX (R292) -/
  | encIndex
  /-- PRB_OVF (R300) -/
  | prbOvf
  /-- PRB_STUCK (R297) -/
  | prbStuck
  /-- SSI_ERR (R304) -/
  | ssiErr
  /-- LE_SCHED_REFUSED (R307) -/
  | leSchedRefused
  /-- SADDLE_GAP (R318) -/
  | saddleGap
  /-- LE_HOST_MISS (R325) -/
  | leHostMiss
  /-- LE_FALLBACK (R326) -/
  | leFallback
  /-- LE_ABORT_REFUSED (R328) -/
  | leAbortRefused
  /-- CAM_TRIG_SKIP (R337) -/
  | camTrigSkip
  /-- ISP_COMMIT_LATE (R345) -/
  | ispCommitLate
  /-- ISP_STROBE_SKIP (R347) -/
  | ispStrobeSkip
  /-- INS_MARK_MISS (R363) -/
  | insMarkMiss
  /-- LMP_CHAIN (R371) -/
  | lmpChain
  /-- LMP_FAULT (R373) -/
  | lmpFault
  /-- LMP_SEG_SHORT (R374) -/
  | lmpSegShort
  /-- LMP_DIAG_STALE (R376) -/
  | lmpDiagStale
  /-- LMP_STROBE_SKIP (R367) -/
  | lmpStrobeSkip
  /-- AX_LIMIT (R391) -/
  | axLimit
  /-- AX_HOME_FAIL (R396) -/
  | axHomeFail
  /-- MNT_CONFLICT (R399) -/
  | mntConflict
  /-- MNT_STEP_FAIL (R401) -/
  | mntStepFail
  /-- MNT_ABORT_TIMEOUT (R402) -/
  | mntAbortTimeout
  /-- MNT_GATE (R404) -/
  | mntGate
  /-- MC_CE (R415) -/
  | mcCe
  /-- MC_UE (R417) -/
  | mcUe
  /-- MC_SPARE (R416) -/
  | mcSpare
  /-- MC_SPARE_FULL (R416) -/
  | mcSpareFull
  /-- MC_ADDR_ERR (R409) -/
  | mcAddrErr
  /-- MC_GEO_MISMATCH (R407) -/
  | mcGeoMismatch
  /-- MC_SPEED_DOWN (R407) -/
  | mcSpeedDown
  /-- MC_HAMMER_FF (R421) -/
  | mcHammerFf
  /-- MC_THROTTLE (R421) -/
  | mcThrottle
  /-- TW_FENCED (R429) -/
  | twFenced
  /-- TW_DEPOSED (R443) -/
  | twDeposed
  /-- TW_MISMATCH (R437) -/
  | twMismatch
  /-- DIVERGENCE (R438) -/
  | divergence
  /-- TW_TAKEOVER (R441) -/
  | twTakeover
  /-- TW_NONE_FIT (R426) -/
  | twNoneFit
  /-- TW_ACTIVE_UNFIT (R426) -/
  | twActiveUnfit
  /-- TW_ID_CLASH (R426) -/
  | twIdClash
  /-- TW_PARTNER_LOST (R447) -/
  | twPartnerLost
  /-- TW_PLAN_FAIL (R445) -/
  | twPlanFail
  /-- TW_SLIP (R443) -/
  | twSlip
  /-- TW_STANDBY_COMMIT (R434) -/
  | twStandbyCommit
  /-- TW_CFG_DIFF (R434) -/
  | twCfgDiff
  /-- TW_SUMMIT_BOTH (R438) -/
  | twSummitBoth
  /-- TW_AX_UNCERTAIN (R448) -/
  | twAxUncertain
  /-- UPDATE_INCOMPATIBLE (R87) -/
  | updateIncompatible
  /-- COMPARE_SUSPENDED (R88) -/
  | compareSuspended
  /-- NET_LINK_DOWN (R454) -/
  | netLinkDown
  /-- NET_RING_OPEN (R454) -/
  | netRingOpen
  /-- NET_RING_HEAL (R455) -/
  | netRingHeal
  /-- NET_RST_REJECT (R463) -/
  | netRstReject
  /-- PTP_STEP (R468) -/
  | ptpStep
  /-- PTP_HOLDOVER (R470) -/
  | ptpHoldover
  /-- PTP_HOST_MISS (R469) -/
  | ptpHostMiss
  /-- MET_SEAL (R493) -/
  | metSeal
  /-- MET_UNMETERED (R493) -/
  | metUnmetered
  /-- MET_DIVERGE (R493) -/
  | metDiverge
  /-- MET_LOST (R493) -/
  | metLost
  /-- CAL_ABANDON (R496) -/
  | calAbandon
  /-- CAL_ACCEPT (R495) -/
  | calAccept
  /-- CAL_DISAGREE (R495) -/
  | calDisagree
  /-- CAL_HOST_MISS (R497) -/
  | calHostMiss
  /-- CNT_SAT (R508) -/
  | cntSat
  /-- CNT_M_SAT (R509) -/
  | cntMSat
  deriving DecidableEq, Repr

/-- BLOCK: bits 31:16 of the base of the block that records the event (Table 22-2, Table 23-1). -/
def EvCode.block : EvCode → Nat
  | .paceWarn => 0x0003
  | .paceOver => 0x0003
  | .domainClkFail => 0x0001
  | .domainClkLost => 0x0001
  | .rstCmdReject => 0x0001
  | .parkRefused => 0x0001
  | .vwarn => 0x0003
  | .vwarnClear => 0x0003
  | .twarn => 0x0003
  | .cfgObInvalid => 0x0002
  | .cfgGenMismatch => 0x0002
  | .cfgFuseLocked => 0x0002
  | .lnLol => 0x0010
  | .lnLos => 0x0010
  | .lnDeskew => 0x0010
  | .lnMismatch => 0x0010
  | .lnEb => 0x0010
  | .pgLost => 0x0021
  | .pgCancelLate => 0x0021
  | .pgCancelNone => 0x0021
  | .pgDigestDiff => 0x0021
  | .pgStartMoved => 0x0021
  | .pgAbortRefused => 0x0021
  | .abort => 0x0021
  | .abortDone => 0x0021
  | .dcxMalformed => 0x0022
  | .dcxCheck => 0x0022
  | .dcxVmalformed => 0x0022
  | .dcxVcheck => 0x0022
  | .scrThrMono => 0x0030
  | .nmCommitRefused => 0x0080
  | .hmChange => 0x0150
  | .hostMiss => 0x0080
  | .hostFallback => 0x0140
  | .lateLine => 0x0100
  | .fpeSelRefused => 0x0110
  | .fpeCoastExpired => 0x0110
  | .fpeXchk => 0x0110
  | .fpeReverse => 0x0110
  | .fpeStretchOn => 0x0110
  | .fpeStretchOff => 0x0110
  | .htHold => 0x0120
  | .htResume => 0x0120
  | .htTelemLost => 0x0120
  | .hpLineLost => 0x0120
  | .hpEpochStale => 0x0120
  | .hpFireMissed => 0x0120
  | .hpLdlyFail => 0x0120
  | .hpLdlyStep => 0x0120
  | .hpMgmtFail => 0x0120
  | .hpHelloBad => 0x0120
  | .hpRateLimited => 0x0120
  | .hpHeadChanged => 0x0120
  | .hpUnverified => 0x0120
  | .hpUnverifiedFire => 0x0120
  | .hpUsageBad => 0x0120
  | .hpUsageRefused => 0x0120
  | .otTrip => 0x0120
  | .encFault => 0x0130
  | .encHealthy => 0x0130
  | .encIndex => 0x0130
  | .prbOvf => 0x0130
  | .prbStuck => 0x0130
  | .ssiErr => 0x0130
  | .leSchedRefused => 0x0140
  | .saddleGap => 0x0140
  | .leHostMiss => 0x0140
  | .leFallback => 0x0140
  | .leAbortRefused => 0x0140
  | .camTrigSkip => 0x0150
  | .ispCommitLate => 0x0150
  | .ispStrobeSkip => 0x0150
  | .insMarkMiss => 0x0150
  | .lmpChain => 0x0160
  | .lmpFault => 0x0160
  | .lmpSegShort => 0x0160
  | .lmpDiagStale => 0x0160
  | .lmpStrobeSkip => 0x0160
  | .axLimit => 0x0170
  | .axHomeFail => 0x0170
  | .mntConflict => 0x0170
  | .mntStepFail => 0x0170
  | .mntAbortTimeout => 0x0170
  | .mntGate => 0x0170
  | .mcCe => 0x0180
  | .mcUe => 0x0180
  | .mcSpare => 0x0180
  | .mcSpareFull => 0x0180
  | .mcAddrErr => 0x0180
  | .mcGeoMismatch => 0x0180
  | .mcSpeedDown => 0x0180
  | .mcHammerFf => 0x0180
  | .mcThrottle => 0x0180
  | .twFenced => 0x0190
  | .twDeposed => 0x0190
  | .twMismatch => 0x0190
  | .divergence => 0x0190
  | .twTakeover => 0x0190
  | .twNoneFit => 0x0190
  | .twActiveUnfit => 0x0190
  | .twIdClash => 0x0190
  | .twPartnerLost => 0x0190
  | .twPlanFail => 0x0190
  | .twSlip => 0x0190
  | .twStandbyCommit => 0x0190
  | .twCfgDiff => 0x0190
  | .twSummitBoth => 0x0190
  | .twAxUncertain => 0x0190
  | .updateIncompatible => 0x0190
  | .compareSuspended => 0x0190
  | .netLinkDown => 0x01A0
  | .netRingOpen => 0x01A0
  | .netRingHeal => 0x01A0
  | .netRstReject => 0x01A0
  | .ptpStep => 0x01A1
  | .ptpHoldover => 0x01A1
  | .ptpHostMiss => 0x01A1
  | .metSeal => 0x01B0
  | .metUnmetered => 0x01B0
  | .metDiverge => 0x01B0
  | .metLost => 0x01B0
  | .calAbandon => 0x01C0
  | .calAccept => 0x01C0
  | .calDisagree => 0x01C0
  | .calHostMiss => 0x01C0
  | .cntSat => 0x0004
  | .cntMSat => 0x0004

/-- The error class, bits 15:13 of CODE (R506, Table 22-4). -/
def EvCode.cls : EvCode → Nat
  | .paceWarn => 0
  | .paceOver => 0
  | .domainClkFail => 5
  | .domainClkLost => 5
  | .rstCmdReject => 2
  | .parkRefused => 2
  | .vwarn => 0
  | .vwarnClear => 0
  | .twarn => 0
  | .cfgObInvalid => 5
  | .cfgGenMismatch => 0
  | .cfgFuseLocked => 2
  | .lnLol => 1
  | .lnLos => 1
  | .lnDeskew => 1
  | .lnMismatch => 5
  | .lnEb => 1
  | .pgLost => 4
  | .pgCancelLate => 2
  | .pgCancelNone => 2
  | .pgDigestDiff => 1
  | .pgStartMoved => 0
  | .pgAbortRefused => 2
  | .abort => 0
  | .abortDone => 0
  | .dcxMalformed => 4
  | .dcxCheck => 4
  | .dcxVmalformed => 1
  | .dcxVcheck => 1
  | .scrThrMono => 2
  | .nmCommitRefused => 2
  | .hmChange => 0
  | .hostMiss => 0
  | .hostFallback => 0
  | .lateLine => 3
  | .fpeSelRefused => 2
  | .fpeCoastExpired => 3
  | .fpeXchk => 0
  | .fpeReverse => 0
  | .fpeStretchOn => 3
  | .fpeStretchOff => 0
  | .htHold => 3
  | .htResume => 0
  | .htTelemLost => 5
  | .hpLineLost => 4
  | .hpEpochStale => 6
  | .hpFireMissed => 4
  | .hpLdlyFail => 5
  | .hpLdlyStep => 0
  | .hpMgmtFail => 5
  | .hpHelloBad => 5
  | .hpRateLimited => 0
  | .hpHeadChanged => 0
  | .hpUnverified => 5
  | .hpUnverifiedFire => 0
  | .hpUsageBad => 1
  | .hpUsageRefused => 2
  | .otTrip => 5
  | .encFault => 5
  | .encHealthy => 0
  | .encIndex => 0
  | .prbOvf => 1
  | .prbStuck => 5
  | .ssiErr => 5
  | .leSchedRefused => 2
  | .saddleGap => 1
  | .leHostMiss => 0
  | .leFallback => 0
  | .leAbortRefused => 2
  | .camTrigSkip => 0
  | .ispCommitLate => 0
  | .ispStrobeSkip => 0
  | .insMarkMiss => 0
  | .lmpChain => 1
  | .lmpFault => 5
  | .lmpSegShort => 1
  | .lmpDiagStale => 5
  | .lmpStrobeSkip => 0
  | .axLimit => 5
  | .axHomeFail => 5
  | .mntConflict => 2
  | .mntStepFail => 5
  | .mntAbortTimeout => 5
  | .mntGate => 3
  | .mcCe => 1
  | .mcUe => 4
  | .mcSpare => 5
  | .mcSpareFull => 5
  | .mcAddrErr => 2
  | .mcGeoMismatch => 0
  | .mcSpeedDown => 5
  | .mcHammerFf => 0
  | .mcThrottle => 0
  | .twFenced => 6
  | .twDeposed => 6
  | .twMismatch => 6
  | .divergence => 6
  | .twTakeover => 6
  | .twNoneFit => 6
  | .twActiveUnfit => 6
  | .twIdClash => 6
  | .twPartnerLost => 6
  | .twPlanFail => 2
  | .twSlip => 3
  | .twStandbyCommit => 2
  | .twCfgDiff => 0
  | .twSummitBoth => 6
  | .twAxUncertain => 0
  | .updateIncompatible => 6
  | .compareSuspended => 0
  | .netLinkDown => 5
  | .netRingOpen => 0
  | .netRingHeal => 0
  | .netRstReject => 2
  | .ptpStep => 0
  | .ptpHoldover => 5
  | .ptpHostMiss => 0
  | .metSeal => 0
  | .metUnmetered => 0
  | .metDiverge => 0
  | .metLost => 5
  | .calAbandon => 0
  | .calAccept => 0
  | .calDisagree => 2
  | .calHostMiss => 0
  | .cntSat => 0
  | .cntMSat => 5

/-- The precedence class of Table 22-1. -/
def EvCode.prec : EvCode → Nat
  | .paceWarn => 9
  | .paceOver => 9
  | .domainClkFail => 2
  | .domainClkLost => 2
  | .rstCmdReject => 10
  | .parkRefused => 10
  | .vwarn => 2
  | .vwarnClear => 2
  | .twarn => 2
  | .cfgObInvalid => 9
  | .cfgGenMismatch => 9
  | .cfgFuseLocked => 9
  | .lnLol => 9
  | .lnLos => 9
  | .lnDeskew => 9
  | .lnMismatch => 9
  | .lnEb => 9
  | .pgLost => 9
  | .pgCancelLate => 10
  | .pgCancelNone => 10
  | .pgDigestDiff => 9
  | .pgStartMoved => 9
  | .pgAbortRefused => 10
  | .abort => 10
  | .abortDone => 9
  | .dcxMalformed => 9
  | .dcxCheck => 9
  | .dcxVmalformed => 9
  | .dcxVcheck => 9
  | .scrThrMono => 9
  | .nmCommitRefused => 9
  | .hmChange => 9
  | .hostMiss => 9
  | .hostFallback => 9
  | .lateLine => 9
  | .fpeSelRefused => 10
  | .fpeCoastExpired => 9
  | .fpeXchk => 9
  | .fpeReverse => 9
  | .fpeStretchOn => 9
  | .fpeStretchOff => 9
  | .htHold => 8
  | .htResume => 8
  | .htTelemLost => 8
  | .hpLineLost => 9
  | .hpEpochStale => 9
  | .hpFireMissed => 9
  | .hpLdlyFail => 9
  | .hpLdlyStep => 9
  | .hpMgmtFail => 9
  | .hpHelloBad => 9
  | .hpRateLimited => 9
  | .hpHeadChanged => 9
  | .hpUnverified => 9
  | .hpUnverifiedFire => 9
  | .hpUsageBad => 9
  | .hpUsageRefused => 9
  | .otTrip => 8
  | .encFault => 5
  | .encHealthy => 5
  | .encIndex => 5
  | .prbOvf => 6
  | .prbStuck => 6
  | .ssiErr => 9
  | .leSchedRefused => 10
  | .saddleGap => 9
  | .leHostMiss => 9
  | .leFallback => 9
  | .leAbortRefused => 10
  | .camTrigSkip => 9
  | .ispCommitLate => 9
  | .ispStrobeSkip => 9
  | .insMarkMiss => 9
  | .lmpChain => 9
  | .lmpFault => 1
  | .lmpSegShort => 9
  | .lmpDiagStale => 9
  | .lmpStrobeSkip => 9
  | .axLimit => 4
  | .axHomeFail => 9
  | .mntConflict => 10
  | .mntStepFail => 9
  | .mntAbortTimeout => 9
  | .mntGate => 9
  | .mcCe => 9
  | .mcUe => 9
  | .mcSpare => 9
  | .mcSpareFull => 9
  | .mcAddrErr => 9
  | .mcGeoMismatch => 9
  | .mcSpeedDown => 9
  | .mcHammerFf => 9
  | .mcThrottle => 9
  | .twFenced => 3
  | .twDeposed => 3
  | .twMismatch => 9
  | .divergence => 9
  | .twTakeover => 3
  | .twNoneFit => 3
  | .twActiveUnfit => 3
  | .twIdClash => 3
  | .twPartnerLost => 3
  | .twPlanFail => 3
  | .twSlip => 9
  | .twStandbyCommit => 10
  | .twCfgDiff => 9
  | .twSummitBoth => 9
  | .twAxUncertain => 9
  | .updateIncompatible => 9
  | .compareSuspended => 9
  | .netLinkDown => 9
  | .netRingOpen => 9
  | .netRingHeal => 9
  | .netRstReject => 10
  | .ptpStep => 9
  | .ptpHoldover => 9
  | .ptpHostMiss => 9
  | .metSeal => 9
  | .metUnmetered => 9
  | .metDiverge => 9
  | .metLost => 9
  | .calAbandon => 9
  | .calAccept => 9
  | .calDisagree => 9
  | .calHostMiss => 9
  | .cntSat => 9
  | .cntMSat => 9

/-- An argument of an event: its width in bits (R502) and its value. -/
structure EvArg where
  width : Nat
  val : Nat
  deriving DecidableEq, Repr

/-- A cause, reason, kind or instance number beside INST (R502 case 3). -/
def a8 (v : Nat) : EvArg := ⟨8, v % 2 ^ 8⟩
/-- A field of up to 16 bits (R502 case 2). -/
def a16 (v : Nat) : EvArg := ⟨16, v % 2 ^ 16⟩
/-- A voltage, temperature, duration, count or 32-bit field (R502 cases 2 and 4). -/
def a32 (v : Nat) : EvArg := ⟨32, v % 2 ^ 32⟩
/-- A PSEQ, FT time, position, DRAM address or class M count (R502 case 1). -/
def a64 (v : Nat) : EvArg := ⟨64, v % 2 ^ 64⟩

/-- One event with its arguments: a first record and its continuation records (Table 22-2). -/
structure EvRec where
  code : EvCode
  inst : Nat
  args : List EvArg
  et : Nat
  coarse : Bool
  loss : Bool
  late : Bool
  deriving DecidableEq, Repr

/-- The bits all arguments take, packed little-endian in the order listed (R502). -/
def argBits : List EvArg → Nat
  | [] => 0
  | a :: as => a.width + argBits as

def argVal : List EvArg → Nat
  | [] => 0
  | a :: as => a.val + 2 ^ a.width * argVal as

/-- MORE: how many continuation records of 120 bits follow the 24 argument bits of the first (at most 3). -/
def EvRec.more (r : EvRec) : Nat := min 3 ((argBits r.args - 24 + 119) / 120)

/-- How many 128-bit records the event takes. -/
def EvRec.size (r : EvRec) : Nat := 1 + r.more

end Sys2Proof.Machine
end

