-- ==== Sys2Proof/Machine/Table.lean ====
section
/-!
DEFINITION. Sparse tables: a list of key and value pairs with strictly rising keys and no entry equal to what an
unlisted key reads as. Register contents, the page store's stripes and the DRAM the device writes are held so.
-/
namespace Sys2Proof.Machine

/-- A sparse table. -/
abbrev Tab (α : Type) := List (Nat × α)

/-- The entry at a key, if one is listed. -/
def Tab.find {α : Type} : Tab α → Nat → Option α
  | [], _ => none
  | (k', v) :: t, k => if k' = k then some v else Tab.find t k

/-- The value at a key, `d` where none is listed. -/
def Tab.get {α : Type} (d : α) (t : Tab α) (k : Nat) : α :=
  (Tab.find t k).getD d

/-- Put an entry in its place, replacing one at the same key. -/
def Tab.insert {α : Type} (k : Nat) (v : α) : Tab α → Tab α
  | [] => [(k, v)]
  | (k', v') :: t =>
    if k < k' then (k, v) :: (k', v') :: t
    else if k = k' then (k, v) :: t
    else (k', v') :: Tab.insert k v t

/-- Drop the entry at a key. -/
def Tab.erase {α : Type} (k : Nat) : Tab α → Tab α
  | [] => []
  | (k', v') :: t => if k' = k then Tab.erase k t else (k', v') :: Tab.erase k t

/-- Write a value: an entry equal to the default is not listed. -/
def Tab.set {α : Type} [DecidableEq α] (d : α) (t : Tab α) (k : Nat) (v : α) : Tab α :=
  if v = d then Tab.erase k t else Tab.insert k v t

/-- The keys rise strictly from above `lo`. -/
def Tab.risesFrom {α : Type} (lo : Nat) : Tab α → Bool
  | [] => true
  | (k, _) :: t => lo ≤ k && Tab.risesFrom (k + 1) t

/-- The keys rise strictly. -/
def Tab.rising {α : Type} (t : Tab α) : Bool := Tab.risesFrom 0 t

/-- The canonical form over a constant default: rising keys, no listed default. -/
def Tab.wf {α : Type} [DecidableEq α] (d : α) (t : Tab α) : Bool :=
  Tab.rising t && t.all (fun e => decide (e.2 ≠ d))

/-- Move the entries whose key passes `p`, re-keyed by `f`, in order. -/
def Tab.pick {α : Type} (p : Nat → Bool) (f : Nat → Nat) : Tab α → Tab α
  | [] => []
  | (k, v) :: t => if p k then (f k, v) :: Tab.pick p f t else Tab.pick p f t

/-- `b`'s entries written over `a`'s. -/
def Tab.merge {α : Type} (a b : Tab α) : Tab α := b.foldl (fun t e => Tab.insert e.1 e.2 t) a

end Sys2Proof.Machine
end

