-- ==== Sys2Proof/Machine/State.lean ====
section
/-!
DEFINITION. The state of the device: every register field, and per block what the rules make it remember beside its
registers. Plain data throughout.
-/
namespace Sys2Proof.Machine

/-- Why a step faults. No meaning of this model faults: every command the spec describes has an effect, which may be none. -/
inductive Fault where
  /-- Raised by nothing (the type must have a name for the host); safe. -/
  | unreachable
  deriving DecidableEq, Repr

/-- Why a step is refused. -/
inductive Refusal where
  /-- Raised by an arm of `exec` that has no meaning yet; safe: no statement is made about such a step. -/
  | notModelled (mnemonic : String)
  deriving DecidableEq, Repr

/-- The intervals of spec/02_pins_and_safe_states.md, Table 02-3. -/
inductive PinPhase where
  | powerRamp | reset | optionRead | imageLoad | configured | foothill
  deriving DecidableEq, Repr

/-- The levels of the output pins (true high) and of the input pins a rule reads (Tables 02-2 to 02-4). -/
structure Pins where
  phase : PinPhase
  hdenN : List Bool
  lsEnN : List Bool
  lsGate : List Bool
  lsRef : List Nat
  lsPrb : List Bool
  segClk : Bool
  segLat : Bool
  segDat : Bool
  axEnN : List Bool
  axStep : List Bool
  axDir : List Bool
  axIref : List Nat
  spdAdvN : Bool
  camTrig : List Bool
  camSel : List Bool
  twRoleN : Bool
  fenceN : Bool
  resetN : Bool
  ddrResetN : Bool
  fenceInN : Bool
  safeInN : List Bool
  axFltN : List Bool
  limP : List Bool
  limN : List Bool
  home : List Bool
  deriving DecidableEq, Repr

/-- Reset sequencing (spec/03_start_and_reset.md). -/
structure ResetSt where
  /-- Sources now active. -/
  active : List Nat
  /-- Sources of the reset in its stretch (R50). -/
  sources : List Nat
  stretch : Bool
  /-- Level of the reset in its stretch or of the bring-up in progress; 3 when neither is. -/
  level : Nat
  /-- L3 targets of the reset in its stretch: class of RST_CMD and instance. -/
  targets : List (Nat × Nat)
  /-- START_TIMEOUT was among the causes. -/
  timeout : Bool
  /-- The page store survived so far (R44). -/
  psKept : Bool
  /-- Step of Table 03-4 in progress; 0 in RUN, 15 in Foothill. -/
  stage : Nat
  /-- STAGE to be recorded for the reset in its stretch. -/
  stageAt : Nat
  seq : Nat
  /-- Time (2 ns units) the last stretch ended. -/
  endAt : Nat
  /-- The start in progress counts as failed when a reset ends it (R57). -/
  starting : Bool
  /-- Domains qualified: FT, MC, DS, HL, NT, CAM0 to CAM3 (Table 03-5). -/
  qualified : List Bool
  /-- An L2 or deeper reset has stopped the print path and it has not resumed (R512). -/
  pathDown : Bool
  /-- Times the rails, and last the temperature, entered their warning states. -/
  warnAt : List Nat
  /-- Rails that have reached their reset level and have not settled since (R66, R533). -/
  low : List Nat
  deriving DecidableEq, Repr

/-- The option block in use (Table 04-2). -/
structure OptionBlock where
  slotSel : Nat
  forcedFoothill : Bool
  fallback : Bool
  dpRate : Nat
  spiClk : Nat
  nodeId : Nat
  twinPref : Nat
  spiDummy : Nat
  etherType : Nat
  density : Nat
  ranks : Nat
  speed : Nat
  imageGen : Nat
  deriving DecidableEq, Repr

/-- HEAD_TABLE data held for the ports of a mask (R83). -/
structure HeadTable where
  mask : Nat
  kind : Nat
  data : List Byte
  deriving DecidableEq, Repr

/-- The image loader, the fuses and the two flash devices (spec/04_configuration_image.md). -/
structure ImageSt where
  /-- Contents of the devices on SPI_CS_N[0] and [1]; an unlisted byte reads erased. -/
  flash : List (Tab Byte)
  /-- Boot pin as sampled: the device whose option block is read first (R70). -/
  bootDev : Nat
  ob : Option OptionBlock
  /-- PM_KEY_HASH fuses. -/
  keyHash : List Byte
  /-- Record application is open (R82). -/
  applying : Bool
  /-- Index of the next record. -/
  recIdx : Nat
  /-- A slot has already failed in this start (FALLBACK takes the other). -/
  triedOther : Bool
  headTables : List HeadTable
  /-- COL_PROTO of the loaded firmware (Table 04-4). -/
  colProto : Nat
  /-- The flash operation in progress: device, OP, address, length. -/
  flOp : Option (Nat × Nat × Nat × Nat)
  deriving DecidableEq, Repr

/-- The event queue, the ring in DRAM and the AON tail (R503 to R505). -/
structure EventSt where
  /-- Accepted and not yet released, oldest first. -/
  queue : List EvRec
  /-- The next record written carries LOSS. -/
  loss : Bool
  /-- 128-bit records by index modulo the ring's size. -/
  ring : Tab Nat
  /-- The last 64 records accepted, newest first. -/
  tail : List Nat
  /-- The latest ET released. -/
  releasedEt : Option Nat
  deriving DecidableEq, Repr


def Pins.reset : Pins :=
  { phase := .reset, hdenN := List.replicate 16 true, lsEnN := List.replicate 16 true,
    lsGate := List.replicate 16 true, lsRef := List.replicate 16 0, lsPrb := List.replicate 16 false,
    segClk := true, segLat := true, segDat := true, axEnN := List.replicate 8 true,
    axStep := List.replicate 8 true, axDir := List.replicate 8 true, axIref := List.replicate 8 0,
    spdAdvN := true, camTrig := List.replicate 4 true, camSel := List.replicate 4 true, twRoleN := true,
    fenceN := true, resetN := false, ddrResetN := false, fenceInN := true, safeInN := List.replicate 4 true,
    axFltN := List.replicate 8 true, limP := List.replicate 8 true, limN := List.replicate 8 true,
    home := List.replicate 8 true }

def ResetSt.reset : ResetSt :=
  { active := [], sources := [0], stretch := true, level := 0, targets := [], timeout := false, psKept := false,
    stage := 1, stageAt := 1, seq := 0, endAt := 0, starting := false, qualified := List.replicate 9 false,
    pathDown := true, warnAt := List.replicate 7 0, low := [] }

def ImageSt.reset : ImageSt :=
  { flash := [[], []], bootDev := 0, ob := none, keyHash := List.replicate 32 0, applying := false, recIdx := 0,
    triedOther := false, headTables := [], colProto := 0, flOp := none }

def EventSt.reset : EventSt := { queue := [], loss := false, ring := [], tail := [], releasedEt := none }

/-- A col-link message this device sends (Table 18-3): type, kind within the type and its fields in payload order. -/
structure ColOut where
  typ : Nat
  args : List Nat
  deriving DecidableEq, Repr

/-- What the device sends, and on which path: a kind, the lane, port or link, and the fields in the order of its table. -/
inductive Out where
  /-- Faong control and completion packets (Table 06-2), by TYPE. -/
  | dp (typ : Nat) (args : List Nat)
  /-- A col-link frame that has left. -/
  | col (m : ColOut)
  /-- A head-lane frame or short message, by port. -/
  | head (port : Nat) (kind : Nat) (args : List Nat)
  /-- A ring frame out of a port (0 E, 1 W). -/
  | ring (port : Nat) (kind : Nat) (args : List Nat)
  /-- Ordered sets and test patterns of a lane. -/
  | lane (lane : Nat) (kind : Nat)
  /-- A response on the island's UART: CMD, STATUS and fields. -/
  | met (cmd status : Nat) (args : List Nat)
  /-- A tally frame to the island (R478). -/
  | tally (args : List Nat)
  /-- A PTP message out of a port. -/
  | ptp (port : Nat) (kind : Nat) (args : List Nat)
  deriving DecidableEq, Repr



/-- What a lane's transmitter does (spec/05_serial_lanes.md, R103, R110 to R117). -/
inductive TxMode where
  /-- In electrical idle before pin commit, or with its balls idle in loopback. -/
  | off
  /-- Sending TS (R103). -/
  | training
  /-- Sending IDL and traffic. -/
  | traffic
  /-- In electrical idle after SLP (R110). -/
  | asleep
  /-- In the 2 microsecond wake sequence (R112). -/
  | waking
  /-- PRBS31 (R116). -/
  | prbs
  deriving DecidableEq, Repr

/-- What a serial lane remembers beside its registers. -/
structure Lane where
  tx : TxMode
  /-- Running disparity of the transmitter; true negative (R92). -/
  disparityNeg : Bool
  /-- SEQ of the next TS or LMK. -/
  seq : Nat
  /-- SKP sent since the last LMK (R97). -/
  skps : Nat
  /-- A wake or sleep request that waits (R113). -/
  wakeDue : Bool
  sleepDue : Bool
  /-- Time (2 ns units) electrical idle began. -/
  idleAt : Nat
  /-- RX_LOCK and RX_DESKEWED of the latest STATUS. -/
  farLock : Bool
  farDeskewed : Bool
  /-- A valid STATUS has come since lock. -/
  statusSeen : Bool
  /-- Deskew offset held, in symbol times (R106, R108). -/
  offset : Option Nat
  /-- The last rate-matching decision: 0 none, 1 insert, 2 delete (R100). -/
  skpDecision : Nat
  /-- A frame in progress has been cut and is delivered marked ERROR. -/
  frameError : Bool
  /-- Times of the last events, by code in the order of R120 (R120: one per millisecond). -/
  lastEvent : List (Option Nat)
  deriving DecidableEq, Repr

def Lane.reset : Lane :=
  { tx := .off, disparityNeg := true, seq := 0, skps := 0, wakeDue := false, sleepDue := false, idleAt := 0,
    farLock := false, farDeskewed := false, statusSeen := false, offset := none, skpDecision := 0,
    frameError := false, lastEvent := [none, none, none, none, none] }



/-- A page descriptor (Table 06-3). -/
structure Desc where
  length : Nat
  widthM1 : Nat
  firstCol : Nat
  format : Nat
  screenSet : Nat
  toneSet : Nat
  overspeed : Nat
  flags : Nat
  rasMap : Nat
  startMode : Nat
  tofSel : Nat
  genPolicy : Nat
  nmGen : Nat
  startPos : Nat
  jobId : Nat
  /-- Plan of each 64-column group: 0 P1, 1 P2, 2 P2R, 3 P4. -/
  plan : List Nat
  deriving DecidableEq, Repr

/-- A stripe of a page in the store (R126, R133, R138). -/
structure Stripe where
  idx : Nat
  data : List Byte
  clen : Nat
  lines : Nat
  /-- Its STRIPE_END has been accepted. -/
  stored : Bool
  verified : Bool
  retries : Nat
  filled : Bool
  /-- Struck by an uncorrectable error, or failed a check of R137. -/
  lost : Bool
  /-- The partner's digest for it: none yet, or its CLEN and CRC, or that it lacks the stripe. -/
  partner : Option Digest
  /-- A decompressor has been assigned for print, or its lines were passed over. -/
  assigned : Bool
  deriving DecidableEq, Repr

/-- What the completion record will say (Table 06-6). -/
structure PageRecord where
  status : Nat
  reason : Nat
  flags : Nat
  spoilLine : Option Nat
  lateFirst : Option Nat
  lateLast : Option Nat
  screeCount : Nat
  startPu : Nat
  ptpSec : Nat
  ptpNs : Nat
  deriving DecidableEq, Repr

/-- A page held (spec/06_page_ingest.md). -/
structure Page where
  pseq : Nat
  desc : Desc
  raw : List Byte
  stripes : List Stripe
  /-- Stripes of the whole page, once known. -/
  total : Option Nat
  admitted : Bool
  /-- Band-ring line the writer will begin next at admission (R547, N_adm). -/
  admittedLine : Nat
  /-- Admission instant (2 ns units). -/
  admittedAt : Nat
  /-- Closed without printing, or by an abort: STATUS stands in the record. -/
  closed : Bool
  scheduled : Bool
  /-- First band-ring line F, generations and plan bound (R135, R239). -/
  first : Nat
  lines : Nat
  nmGen : Nat
  ctbGen : Nat
  absorbed : Bool
  /-- A top-of-form record used (START_MODE 1). -/
  tofUsed : Bool
  /-- The page's start waited since this time (R135). -/
  waitFrom : Option Nat
  deferred : Bool
  /-- A REFETCH is outstanding from this stripe on (R145). -/
  refetch : Option Nat
  /-- Lines from this page line on are blanked by PG_ABORT or a close (R515). -/
  blankFrom : Option Nat
  record : PageRecord
  /-- The partner's descriptor digest (R138). -/
  partnerDigest : Option Digest
  deriving DecidableEq, Repr

/-- Data port and page store beside their registers. -/
structure IngestSt where
  up : Bool
  /-- Cumulative credit limit, and the limit last sent (R124). -/
  limit : Nat
  sentLimit : Nat
  /-- Packets that wait in the ingest buffer because credits are withheld (R125). -/
  buffer : List Faong
  nextSet : Bool
  /-- Page being received, its stripe in progress and the next chunk. -/
  receiving : Option (Nat × Nat × Nat)
  /-- A REWIND is pending for this page and stripe (R127). -/
  rewind : Option (Nat × Nat)
  /-- Packets are discarded until PG_NEXT's descriptor arrives (R130). -/
  waitNext : Bool
  /-- Packets of this refused or cancelled page are discarded without a count (R130, R545). -/
  skipPage : Option Nat
  /-- A resend after REFETCH is being received for this page. -/
  resend : Option Nat
  /-- Pages and stripes at which reception goes on once the page rewound by a verification has been resent (R133). -/
  interrupted : List (Nat × Nat)
  /-- Credits to be returned in the first CREDIT after an L2 reset (R546). -/
  oweCredit : Nat
  deriving DecidableEq, Repr

def IngestSt.reset : IngestSt :=
  { up := false, limit := 0, sentLimit := 0, buffer := [], nextSet := false, receiving := none, rewind := none,
    waitNext := false, skipPage := none, resend := none, interrupted := [], oweCredit := 0 }



/-- What a decompressor decodes: for print or for verification, which stripe (R164). -/
structure DcxJob where
  print : Bool
  pseq : Nat
  stripe : Nat
  deriving DecidableEq, Repr

/-- The decoded lines of a stripe that wait for the band-ring writer (R159). -/
structure Decoded where
  pseq : Nat
  stripe : Nat
  lb : Nat
  lines : Nat
  out : List Byte
  voidFrom : Nat
  deriving DecidableEq, Repr

/-- A compressor job (R169). -/
structure CmxJob where
  /-- 1 Twin, 2 Inspection, 3 Trace. -/
  owner : Nat
  level : Nat
  lb : Nat
  perStripe : Nat
  input : List Byte
  dest : Nat
  /-- The trace buffer, for owner Trace. -/
  tag : Nat
  deriving DecidableEq, Repr

/-- Decompressors and compressors beside their registers. -/
structure CodecSt where
  engines : List (Option DcxJob)
  decoded : List Decoded
  waiting : List CmxJob
  cmx : List (Option CmxJob)
  deriving DecidableEq, Repr

def CodecSt.reset : CodecSt :=
  { engines := List.replicate 8 none, decoded := [], waiting := [], cmx := [none, none] }



/-- A committed generation of tables (R184, R193): its number and the staged fields as they stood at the commit, by `Fld.key`. -/
structure TableGen where
  num : Nat
  tab : Tab Nat
  deriving DecidableEq, Repr

/-- A line of the band ring (R189, R190): its number, its page and page line, and the codes that are not 0 by column. -/
structure BandLine where
  line : Nat
  pseq : Nat
  pageLine : Nat
  codes : Tab Nat
  /-- Written blank because its data was lost or under-run (R203). -/
  lost : Bool
  deriving DecidableEq, Repr

/-- Screening, table generations and band ring beside their registers. -/
structure ScreenSt where
  /-- Column-table generations, newest first. -/
  ctbGens : List TableGen
  /-- The generation in screening SRAM (R185). -/
  ctbLoaded : Nat
  /-- Writes to the staged copies held while a commit is BUSY: address and value, oldest first. -/
  ctbHeld : List (Nat × Nat)
  nmHeld : List (Nat × Nat)
  /-- Nozzle-map generations, newest first (their usability bitmaps follow from them, R179). -/
  nmGens : List TableGen
  /-- Band-ring slots by slot number. -/
  ring : Tab BandLine
  /-- The highest line n such that every line of the scheduled pages up to n has been written, plus 1. -/
  written : Nat
  /-- One more than L_prev (R232), once a page has been placed since the last L2 or deeper reset. -/
  placed : Option Nat
  /-- Threshold slots whose check runs (R188). -/
  thrChecks : List Nat
  /-- OVERSPEED of the page last scheduled (R235). -/
  policy : Nat
  deriving DecidableEq, Repr

def ScreenSt.reset : ScreenSt :=
  { ctbGens := [], ctbLoaded := 0, ctbHeld := [], nmHeld := [], nmGens := [], ring := [], written := 0, placed := none, thrChecks := [], policy := 0 }


/-- A scree entry that is open (Table 09-3, R213, R214). `port` 255 stands for the bar, `cs` 255 for mixed sets. -/
structure ScreeEntry where
  pseq : Nat
  kind : Nat
  port : Nat
  cs : Nat
  nozFirst : Nat
  nozLast : Nat
  first : Nat
  last : Nat
  changed : Nat
  removed : Nat
  /-- Frames of the port, or decided lines of the bar, since the last alteration. -/
  quiet : Nat
  deriving DecidableEq, Repr

/-- The weights a port fired on one web line (R208), by nozzle where not 0. -/
structure DutyLine where
  line : Nat
  weights : Tab Nat
  deriving DecidableEq, Repr

/-- A withdrawal of a port (R205): from web line W0 to W1, and for each row one more than the highest band-ring line that a
substitute has fired in its place. -/
structure Withdrawal where
  w0 : Nat
  w1 : Option Nat
  subst : Tab Nat
  /-- What `FetchSt.next` held when it began: substitutes' frames already dispatched then (R206). -/
  sent : Tab Nat
  deriving DecidableEq, Repr

/-- Fire fetch beside its registers (spec/09_nozzle_map_and_fetch.md). -/
structure FetchSt where
  /-- One more than the last web line dispatched, by port. -/
  next : Tab Nat
  /-- Duty history by port, newest line first. -/
  duty : Tab (List DutyLine)
  /-- Withdrawals by port, newest first. -/
  wd : Tab (List Withdrawal)
  /-- Open scree entries in order of opening. -/
  scree : List ScreeEntry
  /-- Scree ring by index modulo its size: the 256 bits of an entry. -/
  ring : Tab Nat
  /-- Pages that already have a LATE frame recorded as an event. -/
  latePages : List Nat
  /-- By scree kind 8 to 11, one more than the highest web line counted in its entries. -/
  wholeLine : Tab Nat
  deriving DecidableEq, Repr

def FetchSt.reset : FetchSt := { next := [], duty := [], wd := [], scree := [], ring := [], latePages := [], wholeLine := [] }


/-- What the bar decided for a web line (R234 to R238): the delay of its fire instants past the web instant in 1/256 FT tick,
or that it is skipped, or that the page's drops are blanked. -/
inductive LineDec where
  | fire (late : Nat)
  | skip
  | blank
  deriving DecidableEq, Repr

/-- The fire position engine beside its registers (spec/10_fire_timing.md). Positions are in 2^-16 PU. -/
structure FpeSt where
  /-- X at the latest FPE update, and FT time of that update. -/
  x : Int
  xAt : Nat
  /-- Velocity applied, in 2^-16 PU per LQ, and the one that the latest LQ was made with. -/
  vel : Int
  velWas : Int
  /-- Positions of sources A, B, C, D in the coordinates of X, in 2^-32 PU, and by encoder the net counts taken at the latest
  LQ. -/
  pos : List Int
  taken : List Int
  /-- The source's position has been set to X since it was last unhealthy. -/
  aligned : List Bool
  /-- Edges counted by A and B while UNLOCKED. -/
  edges : List Nat
  /-- Writes of SEL_A and SEL_B that wait for the next LQ. -/
  selA : Bool
  selB : Bool
  /-- Scale pairs staged by a write of HI. -/
  scaleDue : List Bool
  /-- A lock has been made since the last L0 or L1 reset. -/
  locked : Bool
  /-- The FT domain has been reset since the last lock (R218). -/
  ftLost : Bool
  /-- FT time at which COAST began. -/
  coastAt : Option Nat
  /-- The highest line stamped, if any; the lines at or below `base` belong to a time before a restart or takeover. -/
  hwm : Option Nat
  base : Option Nat
  /-- Highest X reached. -/
  xhw : Int
  /-- Pairs of tracked encoders now further apart than XCHK_MAX. -/
  apart : List Nat
  /-- LAST[p] (R234) in 1/256 FT tick. -/
  last : Tab Nat
  /-- One more than the highest line stamped, by port. -/
  stamped : Tab Nat
  /-- Applied phase and offset by port, in PU (R231). -/
  applied : Tab Int
  /-- One more than the highest web line decided; the decisions for lines not yet passed. -/
  decided : Nat
  decisions : Tab LineDec
  /-- The page that fell from STRETCH, and until when lines are skipped after it (1/256 FT tick). -/
  fallen : Option Nat
  skipUntil : Option Nat
  /-- The lag exceeds 0, and its largest since FPE_STRETCH_ON, in lines. -/
  stretching : Bool
  lagMax : Nat
  /-- Web lines on which each port was last due, newest first, within 4,096 lines (R240): line and port. -/
  dueLog : List (Nat × Nat)
  /-- The page blanked for overspeed while the reference line is in it (R238). -/
  blankPage : Option Nat
  /-- TIME of the last stamp, by port. -/
  time : Tab Nat
  deriving DecidableEq, Repr

def FpeSt.reset : FpeSt :=
  { x := 0, xAt := 0, vel := 0, velWas := 0, pos := [0, 0, 0, 0], taken := List.replicate 6 0, aligned := [false, false, false, false],
    edges := [0, 0], selA := false, selB := false, scaleDue := [false, false], locked := false, ftLost := false,
    coastAt := none, hwm := none, base := none, xhw := 0, apart := [], last := [], stamped := [], applied := [],
    decided := 0, decisions := [], fallen := none, skipUntil := none, stretching := false, lagMax := 0, dueLog := [], blankPage := none, time := [] }



/-- A line frame this device has built for a port (Table 11-1, R254): the header's fields, the codes that are not 0 by nozzle,
its CRC, and what has become of it. -/
structure HeadFrame where
  line : Nat
  rowMask : Nat
  wscale : Nat
  heater : Nat
  epoch : Nat
  flags : Nat
  csMask : Nat
  depth : Nat
  codes : Tab Nat
  crc : Nat
  /-- Acknowledged as ACCEPTED or DUPLICATE (R268). -/
  acked : Bool
  /-- Resends have ended (PAST, OLD_EPOCH). -/
  ended : Bool
  /-- Declared lost (R269). -/
  lost : Bool
  /-- Pages and page lines that rows of the port were over at this web line (R269). -/
  pages : List (Nat × Nat)
  deriving DecidableEq, Repr

/-- A management request (Table 11-5): OP and its data. -/
structure MgmtReq where
  op : Nat
  args : List Nat
  resends : Nat
  deriving DecidableEq, Repr

/-- What a head port remembers beside its registers (spec/11_head_link.md). -/
structure Port where
  /-- Frames not yet past their fire instants, oldest first. -/
  frames : List HeadFrame
  /-- The highest line counted as ACCEPTED or DUPLICATE (R442). -/
  ackedLine : Option Nat
  /-- Code depth in force since the last bring-up (R255). -/
  depth : Nat
  /-- Departure times of the echo requests of the set, by ID, in 1/256 FT tick. -/
  echoOut : Tab Nat
  echoId : Nat
  /-- Delays measured in the set, in 1/256 FT tick, newest first. -/
  echoes : List Nat
  /-- Sets discarded since the last accepted one. -/
  badSets : Nat
  /-- The delay has been accepted in this bring-up (step 2). -/
  delayOk : Bool
  /-- Waiting 10 ms after HP_LDLY_FAIL. -/
  retryWait : Bool
  helloOk : Bool
  lastSerial : Option Nat
  /-- The nonce of the outstanding CHALLENGE or USAGE_RD. -/
  nonce : List Byte
  /-- The request outstanding and those that wait (R275). -/
  request : Option MgmtReq
  waiting : List MgmtReq
  /-- Trims and row fractions the head holds. -/
  trims : Tab Nat
  rowFrac : Tab Nat
  /-- Time (2 ns units) of the last line frame, HEAT and due line. -/
  lastFrame : Nat
  lastHeat : Nat
  lastDue : Nat
  telemAt : Nat
  telemSeen : Bool
  /-- TELEM frames sampled. -/
  telems : Nat
  missed : Nat
  fired : Nat
  lFired : Nat
  /-- An OLD_EPOCH result stopped the port (R268). -/
  staleEpoch : Bool
  /-- SEQ of the last USAGE_WR acknowledged, and drops since the last write (R284). -/
  usageSeq : Nat
  /-- The outstanding USAGE_RD follows a refused write: the larger counts are taken (R285). -/
  usageMerge : Bool
  /-- The waveform scale last evaluated (R243). -/
  wscale : Nat
  usageDrops : Nat
  /-- Sleep requested by R286. -/
  sleepReq : Bool
  /-- PARAM data last received from the head. -/
  param : List Byte
  /-- Pages already recorded as fired by an UNVERIFIED head (R282). -/
  unverPage : Option Nat
  deriving DecidableEq, Repr

def Port.reset : Port :=
  { frames := [], ackedLine := none, depth := 3, echoOut := [], echoId := 0, echoes := [], badSets := 0, delayOk := false,
    retryWait := false, helloOk := false, lastSerial := none, nonce := [], request := none, waiting := [], trims := [],
    rowFrac := [], lastFrame := 0, lastHeat := 0, lastDue := 0, telemAt := 0, telemSeen := false, telems := 0, missed := 0, fired := 0,
    lFired := 0, staleEpoch := false, usageSeq := 0, usageMerge := false, wscale := 0x4000, usageDrops := 0, sleepReq := false, param := [], unverPage := none }


/-- An encoder beside its registers (spec/12_position_feedback.md): the filtered lines, the net counts since reset (R291), the
speed estimator's edges and the wiring conditions. -/
structure Encoder where
  a : Bool
  b : Bool
  z : Bool
  /-- Net counted edges, untouched by index reloads (R291). -/
  net : Int
  /-- Counted edges with their FT times, newest first: time, count after it, reverse. -/
  edges : List (Nat × Int × Bool)
  /-- ENC_POS before its changes of the last 128 FT ticks, newest first. -/
  hist : List (Nat × Nat)
  /-- Edges since STILL or since the encoder was enabled, at most 2. -/
  run : Nat
  /-- The estimator's latest sample, reported at each LQ (R298). -/
  sample : Int
  /-- Conditions live on A, B and Z: OPEN, CM_LOW, CM_HIGH each. -/
  wire : List Bool
  /-- Consecutive counted edges with Z high; Z has been high without a gate event. -/
  zHigh : Nat
  zNoGate : Bool
  reversed : Bool
  /-- FT time at which the last fault condition ended. -/
  clearAt : Nat
  deriving DecidableEq, Repr

def Encoder.reset : Encoder :=
  { a := false, b := false, z := false, net := 0, edges := [], hist := [], run := 0, sample := 0, wire := List.replicate 9 false,
    zHigh := 0, zNoGate := false, reversed := false, clearAt := 0 }

/-- A latch input (R300): its queue of records as words (oldest first), its level, sequence number and wiring conditions. -/
structure LatchIn where
  queue : List (List Nat)
  seq : Nat
  wire : List Bool
  deriving DecidableEq, Repr

def LatchIn.reset : LatchIn := { queue := [], seq := 0, wire := [false, false, false] }

/-- An SSI port: a frame or its monoflop time is in progress since the FT time of its latch instant. -/
structure SsiPort where
  busy : Option Nat
  wire : List Bool
  deriving DecidableEq, Repr

def SsiPort.reset : SsiPort := { busy := none, wire := [false, false, false] }

/-- Encoders, latch inputs, SSI ports and the top-of-form records the FPE has taken (R302). -/
structure PositionSt where
  enc : List Encoder
  latch : List LatchIn
  ssi : List SsiPort
  /-- Top-of-form records since admission of the pages that wait: input, time (2 ns units) and X in PU, oldest first. -/
  tof : List (Nat × Nat × Int)
  deriving DecidableEq, Repr

def PositionSt.reset : PositionSt :=
  { enc := List.replicate 6 Encoder.reset, latch := List.replicate 12 LatchIn.reset, ssi := List.replicate 2 SsiPort.reset,
    tof := [] }


/-- A loop slot beside its registers (spec/13_loop_engine.md). -/
structure Slot where
  /-- The active coefficient set: B0 to B3, A1 to A3, CSH0, CSH1, and LAW. -/
  coef : List Nat
  law3 : Bool
  /-- History: e[k-1] to e[k-3], y[k-1] to y[k-3] (R310). -/
  e : List Int
  y : List Int
  /-- Mode in force, 0 to 3, and the cause of FORCED: 0 none, 1 thermal hold, 2 abort, 3 COAST. -/
  mode : Nat
  cause : Nat
  /-- A hand-over requested for the next sample, into this mode (R316). -/
  request : Option Nat
  abortDue : Bool
  /-- Enabled since its last sample: the hand-over starts from the present value of the sink (R317). -/
  enabled : Bool
  /-- The slot takes samples: its limits have been applied (Table 13-2, note). -/
  started : Bool
  /-- The value the host has committed for the next boundary (R324). -/
  committed : Option Int
  /-- A miss run is in progress. -/
  missing : Bool
  /-- Sequence of the source value last used (R314). -/
  srcSeq : Nat
  /-- Writes to the staged set held while SWAP_PEND: address and value, oldest first. -/
  held : List (Nat × Nat)
  /-- FT time of the last host commit (R326). -/
  hostAt : Nat
  raw : Int
  /-- LE_OUT and SEQ before the latest output, and the LQ of that output plus 1: what SLOT_OUT holds at that boundary (R308). -/
  prevOut : Int
  prevSeq : Nat
  outLq : Nat
  deriving DecidableEq, Repr

def Slot.reset : Slot :=
  { coef := [], law3 := false, e := [0, 0, 0], y := [0, 0, 0], mode := 0, cause := 0, request := none,
    abortDue := false, enabled := false, started := false, committed := none, missing := false, srcSeq := 0, held := [],
    hostAt := 0, raw := 0, prevOut := 0, prevSeq := 0, outLq := 0 }

/-- A trace buffer beside its registers (R331): samples of four nodes by index, evaluations counted towards the next sample,
samples left after the trigger and the last value of node 0. -/
structure TraceBuf where
  samples : Tab (List Int)
  evals : Nat
  left : Nat
  last0 : Option Int
  forced : Bool
  deriving DecidableEq, Repr

def TraceBuf.reset : TraceBuf := { samples := [], evals := 0, left := 0, last0 := none, forced := false }

/-- The loop engine beside its registers. -/
structure LoopSt where
  slots : Tab Slot
  /-- Present values of the sinks HEATER[p] and LAMP_PWM[n]. -/
  heater : Tab Int
  lampPwm : Tab Int
  /-- LAMP_I[n], ADC code. -/
  lampI : Tab Nat
  traces : List TraceBuf
  deriving DecidableEq, Repr

def LoopSt.reset : LoopSt :=
  { slots := [], heater := [], lampPwm := [], lampI := [], traces := List.replicate 4 TraceBuf.reset }


/-- A trigger issued to a context (R336) that is outstanding, or closed and waiting for its record (R348). -/
structure Trigger where
  tseq : Nat
  /-- The settings generation bound, and its settings. -/
  gen : Nat
  tab : Tab Nat
  ft : Nat
  x : Int
  xfrac : Nat
  pseq : Nat
  trailer : Bool
  conflict : Bool
  strobeSkip : Bool
  /-- FLAGS bits 0 to 3 once it is closed, and the lines taken. -/
  closed : Option (Nat × Nat)
  /-- Pixels of the frame taken, after padding and discarding (R340). -/
  rows : List (List Nat)
  deriving DecidableEq, Repr

/-- A settings generation of a context (R345): its number, the staged fields at the commit, and the TARGET it waits for. -/
structure CtxGen where
  num : Nat
  tab : Tab Nat
  deriving DecidableEq, Repr

/-- A context beside its registers. -/
structure Ctx where
  /-- Issued triggers whose record has not been written, oldest first. -/
  trigs : List Trigger
  /-- The generation bound to the last trigger, the one before it, and one that is committed and not yet bound. -/
  bound : CtxGen
  older : Option CtxGen
  pending : Option (CtxGen × Nat)
  /-- A commit held while the older copy is in use (R347), with its TARGET. -/
  held : Option Nat
  /-- The first strobe skip since the commit has been recorded (R344). -/
  skipSeen : Bool
  deriving DecidableEq, Repr

def Ctx.reset : Ctx :=
  { trigs := [], bound := ⟨0, []⟩, older := none, pending := none, held := none, skipSeen := false }

/-- A camera port beside its registers: the context whose frame is in progress with the TSEQ it was assigned (none: discarded),
a change of CAMn_SEL that waits for SEL_GAP, an abort in progress, and the FT time at which the TRIG pulse ends. -/
structure CamPort where
  frame : Option (Nat × Option Nat)
  selWait : Bool
  aborting : Bool
  trigEnd : Option Nat
  deriving DecidableEq, Repr

def CamPort.reset : CamPort := { frame := none, selWait := false, aborting := false, trigEnd := none }

/-- The trailer of a page (R354): its first band-ring line, the coverage sets of its strip blocks, whether marks follow, the
page width, and the ports that have triggered for it. -/
structure Trailer where
  pseq : Nat
  first : Nat
  sets : List Nat
  marks : Bool
  firstCol : Nat
  width : Nat
  fired : List Nat
  deriving DecidableEq, Repr

/-- A health map entry (Table 14-4) with the sum of the YERR its TRIMCNT counts (R358). -/
structure Health where
  /-- The entry has been made by a result or by HM_CLR; another stands for the values of the nozzle map. -/
  own : Bool
  state : Nat
  miss : Nat
  good : Nat
  trimCnt : Nat
  nores : Bool
  density : Nat
  xerr : Int
  yerr : Int
  htrim : Int
  ysum : Int
  deriving DecidableEq, Repr

def Health.reset : Health :=
  { own := false, state := 0, miss := 0, good := 0, trimCnt := 0, nores := false, density := 0, xerr := 0,
    yerr := 0, htrim := 0, ysum := 0 }

/-- A strip in analysis (R356, R357): contexts triggered and delivered, and by nozzle index the context, class, density, XERR
and YERR of its result. -/
structure Strip where
  pseq : Nat
  ctxs : List Nat
  done : List Nat
  results : Tab (Nat × Nat × Nat × Int × Int)
  deriving DecidableEq, Repr

/-- Cameras, contexts and analysers beside their registers (spec/14_inspection.md). -/
structure InspectSt where
  ports : List CamPort
  ctxs : List Ctx
  trailers : List Trailer
  health : Tab Health
  strips : List Strip
  /-- Strip dashes that fetch marked as not fired as built: page and nozzle index (R355). -/
  unfired : List (Nat × Nat)
  /-- HM_CLR waits for the strip in progress (R360). -/
  clrDue : Bool
  /-- An analyser commit was refused for DELTA, or waits while a commit is BUSY. -/
  retry : Bool
  /-- Sequence of REG_ALONG, REG_CROSS, GAP_SHARP, FOCUS_SHARP. -/
  srcSeq : List Nat
  /-- F of the last valid even frame of the focus context, with its TSEQ (R353). -/
  focusEven : Option (Nat × Nat)
  /-- Result ring by unit index modulo its size: 512 bits. -/
  ring : Tab Nat
  /-- A capture that waits (R364): context, stage, TARGET, destination. -/
  capture : Option (Nat × Nat × Nat × Nat)
  deriving DecidableEq, Repr

def InspectSt.reset : InspectSt :=
  { ports := List.replicate 4 CamPort.reset, ctxs := List.replicate 8 Ctx.reset, trailers := [], health := [], strips := [],
    unfired := [], clrDue := false, retry := false, srcSeq := [0, 0, 0, 0], focusEven := none, ring := [], capture := none }


/-- A lamp string beside its registers (spec/15_lighting.md). -/
structure Lamp where
  /-- Owning pattern engine or maintenance activity. -/
  engine : Option Nat
  activity : Option Nat
  /-- FT times at which the latest pulse starts and ends, with the expected ISENSE code. -/
  pulse : Option (Nat × Nat × Nat)
  /-- Gain in force, U2.14 (R378). -/
  gain : Nat
  /-- LMP_STROBE_SKIP has been recorded since the counter was cleared. -/
  skipSeen : Bool
  /-- On-time of the present PWM period, in FT ticks. -/
  onTime : Nat
  deriving DecidableEq, Repr

def Lamp.reset : Lamp :=
  { engine := none, activity := none, pulse := none, gain := 0x4000, skipSeen := false, onTime := 0 }

/-- A pattern engine beside its registers: its strings, level, mask, T0, the start of its step in FT ticks and PU, the level
the ramp began at, chases made and loop jumps left by step. -/
structure Pattern where
  strings : Nat
  level : Nat
  mask : Nat
  since : Nat
  sinceX : Int
  from_ : Nat
  chased : Nat
  loops : Tab Nat
  follow : Bool
  deriving DecidableEq, Repr

def Pattern.reset : Pattern :=
  { strings := 0, level := 0, mask := 0, since := 0, sinceX := 0, from_ := 0, chased := 0, loops := [], follow := false }

/-- Lamps, the bypass chain and the pattern engines. -/
structure LightSt where
  lamps : List Lamp
  /-- Chain image latched last (bit 1 bypasses), an image shifted and not latched, its shift's end, the latest latch. -/
  latched : Nat
  shifted : Option Nat
  latchAt : Nat
  /-- The last shift compared clean (R371). -/
  clean : Bool
  engines : List Pattern
  /-- NTC ADC codes by input. -/
  ntc : List Nat
  /-- One bit per 64-column group in which a drop fired, by web line, for the last 65,536 lines (R381). -/
  fired : Tab Nat
  deriving DecidableEq, Repr

def LightSt.reset : LightSt :=
  { lamps := List.replicate 16 Lamp.reset, latched := 2 ^ 256 - 1, shifted := none, latchAt := 0, clean := true,
    engines := List.replicate 8 Pattern.reset, ntc := List.replicate 8 0, fired := [] }


/-- An axis beside its registers (spec/16_motion_and_maintenance.md). Velocity and acceleration are in 1/800,000 microstep per
second and per second squared, so that one LQ adds ACC to the velocity; the phase has 32 fraction bits. -/
structure Axis where
  /-- Fraction of the microstep position, 0 to 2^32 - 1. -/
  phase : Nat
  v : Int
  a : Int
  /-- Goal in force, goal committed for the next LQ, and goals held while an activity owns the axis (R386). -/
  goal : Option Int
  due : Option Int
  held : Option Int
  /-- Braking has begun; it has been stopped and the present speed is held (Table 16-1, case 1). -/
  braking : Bool
  holding : Bool
  /-- A switchback brakes at this rate. -/
  switching : Option Nat
  /-- A stop in progress: 1 at DEC, 2 at DEC_EMERG. -/
  stop : Nat
  /-- The stop came from a safety input. -/
  safety : Bool
  /-- FT time before which no step is issued, and since which the axis stands still. -/
  stepFrom : Nat
  stillAt : Nat
  /-- Homing: sequence, pass (1 approach, 2 return, 3 index search), travel in microsteps, and the latch of the pass. -/
  homing : Option (Nat × Nat × Nat)
  latch : Option Int
  /-- The last homing run failed. -/
  homeBad : Bool
  /-- Direction of AXn_DIR: true negative. -/
  negative : Bool
  deriving DecidableEq, Repr

def Axis.reset : Axis :=
  { phase := 0, v := 0, a := 0, goal := none, due := none, held := none, braking := false, holding := false,
    switching := none, stop := 0, safety := false, stepFrom := 0, stillAt := 0, homing := none, latch := none, homeBad := false,
    negative := false }

/-- A maintenance activity that runs. -/
structure Activity where
  num : Nat
  step : Nat
  /-- The present step has been begun; since FT time. -/
  begun : Bool
  since : Nat
  /-- STOP has been asked; the abort sequence runs since this FT time. -/
  stopping : Bool
  aborting : Option Nat
  /-- Ports whose PARAM reply is awaited, and a reply that is missing. -/
  replies : List Nat
  failed : Bool
  /-- Loop jumps left, by step. -/
  loops : Tab Nat
  /-- HOST mode: the step posted under this SEQ has been released. -/
  posted : Option Nat
  released : Bool
  deriving DecidableEq, Repr

/-- Axes and the maintenance arbiter. -/
structure MotionSt where
  axes : List Axis
  acts : List Activity
  /-- PRINT runs. -/
  print : Bool
  /-- Time (2 ns units) of the last host release (R403). -/
  releaseAt : Nat
  deriving DecidableEq, Repr

def MotionSt.reset : MotionSt := { axes := List.replicate 8 Axis.reset, acts := [], print := false, releaseAt := 0 }


/-- The activate-count table of a bank (R419): entries of row and count, the window's activates by class (R421), times of the
last activates of the limited class, and what has been recorded in this window. -/
structure Bank where
  rows : List (Nat × Nat)
  byClass : List Nat
  recent : List Nat
  fallback : Bool
  ffSeen : Bool
  throtSeen : Bool
  /-- The bank's rolling accumulated activate count (R420). -/
  raa : Nat
  deriving DecidableEq, Repr

def Bank.reset : Bank :=
  { rows := [], byClass := List.replicate 8 0, recent := [], fallback := false, ffSeen := false, throtSeen := false, raa := 0 }

/-- The DRAM controller beside its registers (spec/17_memory_controller.md). -/
structure MemCtlSt where
  banks : Tab Bank
  /-- Write queues of the eight subchannels, oldest first: burst address and the time it entered. -/
  writes : List (List (Nat × Nat))
  /-- REF commands postponed, by subchannel. -/
  postponed : List Nat
  /-- Corrected bursts attributed in this scrub pass, by 10 * subchannel + 5 * rank + device. -/
  pass : Tab Nat
  /-- Write DQS delay corrections made, in 1/64 UI, by 2 * subchannel + rank. -/
  dqs : Tab Int
  /-- Time (2 ns units) of the last MC_CE event. -/
  ceAt : Option Nat
  /-- Time since which the queues have been empty. -/
  idleAt : Nat
  /-- RUN has been written and scheduling waits for the exit from self-refresh (R520). -/
  resumeDue : Bool
  deriving DecidableEq, Repr

def MemCtlSt.reset : MemCtlSt :=
  { banks := [], writes := List.replicate 8 [], postponed := List.replicate 8 0, pass := [], dqs := [], ceAt := none,
    idleAt := 0, resumeDue := false }


/-- A Summit test (R438): whether it runs here, and the results known of it. -/
structure SummitSt where
  requested : Bool
  running : Bool
  mine : Option Bool
  partner : Option Bool
  /-- Until this time mismatches start no further test. -/
  holdUntil : Nat
  /-- A first mismatch since a clear state has been seen. -/
  mismatch : Bool
  deriving DecidableEq, Repr

/-- What a rejoining standby has done (R436). -/
structure RejoinSt where
  nmGen : Bool
  ctbGen : Bool
  filled : Bool
  lines : Bool
  cairn : Bool
  compared : Nat
  deriving DecidableEq, Repr

/-- The twin block beside its registers (spec/18_twin_operation.md). -/
structure TwinSt where
  /-- The last heartbeat of the partner: role, epoch, preference, node ID, UNFIT, its FT time, cairn CC, journal line; and the
  time (2 ns units) it arrived. -/
  partner : Option (List Nat)
  heardAt : Nat
  misses : Nat
  /-- Time step 8 of the start was reached. -/
  step8 : Option Nat
  noneFit : Bool
  clash : Bool
  partnerLost : Bool
  /-- The last retry after both fences met (R427). -/
  retryAt : Option Nat
  /-- TW_ROLE_N is to go low at this time. -/
  roleLowAt : Option Nat
  /-- A planned takeover: PAGE_BOUND, since when; and whether ROLE HANDOVER has been sent. -/
  plan : Option (Bool × Nat)
  handed : Option Nat
  /-- Reset held after FAULT (R444): source, level, targets. -/
  faultHold : Option (Nat × Nat × List (Nat × Nat))
  /-- The cairn received and not applied; CC of the last one applied, acknowledged and taken. -/
  cairn : Option Cairn
  applied : Option Nat
  appliedAt : Nat
  acked : Option Nat
  taken : Nat
  /-- Highest PSEQ of the completion records that acknowledged cairns carried (R143). -/
  recordsTo : Option Nat
  /-- Records carried by cairns not yet acknowledged: CC and PSEQ. -/
  carried : List (Nat × Nat)
  /-- Generations that had gone to the standby when each of those cairns was taken: CC, NM and CTB numbers. -/
  gensCarried : List (Nat × Nat × Nat)
  /-- Health-map entries changed since the last cairn. -/
  healthNew : List Nat
  /-- Journal entries whose shadow frames wait for comparison: line, and per port the journaled CRC. -/
  journal : List (Nat × List (Nat × Nat))
  lastLine : Option Nat
  /-- CRCs of ACKs that came before the journal entry of their line: port, line, CRC. -/
  earlyAcks : List (Nat × Nat × Nat)
  /-- What the next journal entry must carry: pages scheduled, withdrawals begun (true) or ended with port and cause, and a page
  abort with its HELD. -/
  schedsDue : List Nat
  wdDue : List (Nat × Bool × Nat)
  abortDue : Option Bool
  /-- Lines not stamped by the old active that a takeover paces (R443): first unstamped line, T' of the last paced line, count
  and largest lag. -/
  pacing : Option (Nat × Nat × Nat × Nat)
  /-- Next SEQ by TYPE of frames sent, and the last SEQ by TYPE received. -/
  txSeq : Tab Nat
  rxSeq : Tab Nat
  summit : SummitSt
  rejoin : RejoinSt
  /-- Generations the standby has acknowledged. -/
  nmAcked : Nat
  ctbAcked : Nat
  /-- IMAGE_GEN, COL_PROTO and configuration CRC of the partner's last HEALTH. -/
  pHealth : Option (Nat × Nat × Nat)
  cfgDiff : Bool
  /-- The active sends completion records alone, after SOLO_WAIT (R447). -/
  alone : Bool
  /-- Highest E_HI seen in TELEM (R441). -/
  highEpoch : Option Nat
  deriving DecidableEq, Repr

def TwinSt.reset : TwinSt :=
  { partner := none, heardAt := 0, misses := 0, step8 := none, noneFit := false, clash := false, partnerLost := false,
    retryAt := none, roleLowAt := none, plan := none, handed := none, faultHold := none, cairn := none, applied := none,
    appliedAt := 0, acked := none, taken := 0, recordsTo := none, carried := [], gensCarried := [], healthNew := [], journal := [],
    lastLine := none, earlyAcks := [], schedsDue := [], wdDue := [], abortDue := none, pacing := none, txSeq := [], rxSeq := [],
    summit := { requested := false, running := false, mine := none, partner := none, holdUntil := 0, mismatch := false },
    rejoin := { nmGen := false, ctbGen := false, filled := false, lines := false, cairn := false, compared := 0 },
    nmAcked := 0, ctbAcked := 0, pHealth := none, cfgDiff := false, alone := false, highEpoch := none }


/-- A frame that waits at an egress port (R452, R453): priority 1 RING, 2 forwarded, 3 local; its length and what it is. -/
structure EgressFrame where
  prio : Nat
  len : Nat
  out : Out
  deriving DecidableEq, Repr

/-- A source of register requests (R461), and the response last sent to it. -/
structure ReqSource where
  mac : Nat
  expected : Nat
  /-- Length of the response frame in bytes, its SEQ, and its operations. -/
  len : Nat
  seq : Nat
  response : List Nat
  deriving DecidableEq, Repr

/-- A request being applied (R459, R460): its source, SEQ, the length of its response frame, the OPC and NW of the operations
left, and the response so far. -/
structure ReqSt where
  mac : Nat
  seq : Nat
  len : Nat
  left : List (Nat × Nat)
  response : List Nat
  deriving DecidableEq, Repr

/-- The ring ports and register access (spec/19_ring_and_time.md). -/
structure NetSt where
  egress : List (List EgressFrame)
  /-- Times (2 ns units) until which the ports send. -/
  busy : List Nat
  /-- Most recently used first. -/
  sources : List ReqSource
  /-- Requests at Local in the order of their arrival; the first is being applied. -/
  requests : List ReqSt
  advSeq : Nat
  /-- Ports that have been down since they last came up. -/
  wasDown : List Bool
  /-- Times (2 ns units) until which a timed-launch frame leaves the ports. -/
  launching : List Nat
  deriving DecidableEq, Repr

def NetSt.reset : NetSt :=
  { egress := [[], []], busy := [0, 0], sources := [], requests := [], advSeq := 0, wasDown := [false, false],
    launching := [0, 0] }

/-- A dataset of a master (R465): priority1, clockClass, accuracy, variance, priority2, identity; steps removed; the sender;
and the port it is heard on. -/
structure PtpMaster where
  data : List Nat
  steps : Nat
  source : Nat
  port : Nat
  deriving DecidableEq, Repr

/-- The PTP clock beside its registers. -/
structure PtpSt where
  /-- PTP time in ns, and the fraction accumulator in 2^-32 ns. -/
  ns : Nat
  frac : Nat
  /-- Increment in force, 2^-32 ns per NT cycle, and one committed for the next cycle. -/
  inc : Nat
  incDue : Option Nat
  /-- A step to be made at the next cycle: a signed addition, or an absolute time in ns. -/
  adjDue : Option Int
  setDue : Option Nat
  master : Option PtpMaster
  /-- Senders of Announce messages, with the time (2 ns units) of the last. -/
  foreign : List (Nat × Nat)
  /-- A Sync that waits for its Follow_Up: sequenceId, ingress time, correction in 2^-16 ns. -/
  syncWait : Option (Nat × Nat × Int)
  /-- The last complete Sync: origin time and ingress time less correction, ns. -/
  sync : Option (Nat × Int)
  /-- Departure time of the last Delay_Req: sequenceId, ns. -/
  delayReq : Option (Nat × Nat)
  delay : Int
  /-- Peer delay by port: sequenceId, t1, and t2, t4 of a response that waits for its Follow_Up; and the link delay. -/
  pdelay : List (Nat × Nat × Option (Nat × Nat))
  linkDelay : List Int
  lockRun : Nat
  /-- sequenceId of the next Sync, Delay_Req and Pdelay_Req. -/
  txSeq : Nat
  /-- A measurement posted to the host has been answered. -/
  answered : Bool
  /-- A step has been made since the last cross-stamp. -/
  stepped : Bool
  /-- The rate of the last step-free interval between two cross-stamps: PTP time in 2^-16 ns, and FT ticks. -/
  rate : Nat × Nat
  /-- Time HOLDOVER began, and ms already counted in PTP_HOLD. -/
  holdAt : Option Nat
  /-- The time derives from a holdover (R470). -/
  heldOver : Bool
  deriving DecidableEq, Repr

def PtpSt.reset : PtpSt :=
  { ns := 0, frac := 0, inc := 8 * 2 ^ 32, incDue := none, adjDue := none, setDue := none, master := none, foreign := [], syncWait := none,
    sync := none, delayReq := none, delay := 0, pdelay := [(0, 0, none), (0, 0, none)], linkDelay := [0, 0], lockRun := 0,
    txSeq := 0, answered := true, stepped := false, rate := (131072, 1), holdAt := none, heldOver := false }


/-- A job record (Table 20-2). -/
structure JobRec where
  recNo : Nat
  jobId : Nat
  open_ : Bool
  powerLoss : Bool
  diverged : Bool
  tallyGap : Bool
  evtAtStart : Nat
  tStart : Nat
  tEnd : Nat
  counts : Nat
  lengthUm : Nat
  mainUm : Nat
  revCounts : Nat
  ink : List Nat
  /-- Parameters the record is metered under (R488): SCALE_PM and DIV_PPM. -/
  scale : Nat
  div : Nat
  /-- Position within the job and its high-water mark (R482), in counts with the sign of DIR. -/
  pos : Int
  high : Int
  dir : Bool
  deriving DecidableEq, Repr

/-- An audit entry (R489). -/
structure AuditEntry where
  event : Nat
  rtc : Nat
  kind : Nat
  param : Nat
  old : Nat
  new : Nat
  deriving DecidableEq, Repr

/-- The metrology island (spec/20_metrology_island.md); nothing of it lies on the main die. -/
structure IslandSt where
  powered : Bool
  /-- The island has started and its ROM checksum matches. -/
  running : Bool
  romErr : Bool
  sealOpen : Bool
  /-- Filtered encoder lines. -/
  a : Bool
  b : Bool
  /-- Job records by REC_NO modulo 8,192; the next REC_NO; the highest acknowledged, plus 1. -/
  jobs : Tab JobRec
  nextRec : Nat
  ackRec : Nat
  /-- REC_NO of the open job, and of the open or last job. -/
  open_ : Option Nat
  lastRec : Option Nat
  unmetered : Bool
  totalCounts : Nat
  totalUm : Nat
  /-- Picometres of lifetime length not yet a whole micrometre, and lifetime position and high-water mark. -/
  totalPm : Nat
  pos : Int
  high : Int
  /-- Sealed parameters SCALE_PM, DIR, DIV_PPM. -/
  scale : Nat
  dir : Bool
  div : Nat
  /-- The same in force since the latest job opening (R488). -/
  fScale : Nat
  fDir : Bool
  fDiv : Nat
  /-- CRC-32C of the island ROM as computed at the start (R492). -/
  romCrc : Nat
  /-- RTC is `rtcBase` plus the time since power-up in 2^-15 s. -/
  rtcBase : Int
  audit : Tab AuditEntry
  eventCtr : Nat
  /-- Entries written; the highest event counter acknowledged. -/
  ackEvent : Nat
  auditLost : Bool
  /-- SEQ of the previous request and the response stored for it. -/
  lastSeq : Option Nat
  response : List Nat
  /-- Last tally sequence number seen, and the main die's length at the opening of the job. -/
  tallySeq : Option Nat
  mainStart : Option Nat
  mainNow : Nat
  /-- What FRAM holds of the counters: TOTAL_COUNTS, TOTAL_UM, and of the open job COUNTS and REV_COUNTS. -/
  fram : List Nat
  /-- Time (2 ns units) of the last mirror update. -/
  mirrorAt : Option Nat
  deriving DecidableEq, Repr

def IslandSt.reset : IslandSt :=
  { powered := true, running := true, romErr := false, sealOpen := false, a := false, b := false, jobs := [], nextRec := 0,
    ackRec := 0, open_ := none, lastRec := none, unmetered := false, totalCounts := 0, totalUm := 0, totalPm := 0, pos := 0,
    high := 0, scale := 10000000, dir := false, div := 1000,
    fScale := 10000000, fDir := false, fDiv := 1000, romCrc := 0x5A31C7E2, rtcBase := 0, audit := [], eventCtr := 0, ackEvent := 0,
    auditLost := false, lastSeq := none, response := [], tallySeq := none, mainStart := none, mainNow := 0, fram := [0, 0, 0, 0],
    mirrorAt := none }

/-- The main die's side: sequence number of the tally stream, drops fired by code since the last frame, and MET_STAT as last
looked at (R493). -/
structure TallySt where
  seq : Nat
  drops : List Nat
  seen : Nat
  deriving DecidableEq, Repr

def TallySt.reset : TallySt := { seq := 0, drops := List.replicate 7 0, seen := 0 }


/-- A calibration in progress (spec/21_calibration.md). -/
structure CalSt where
  kind : Nat
  inst : Nat
  code : Nat
  /-- Results of run 1, by channel. -/
  first : Option (List Int)
  /-- Raw measurement of the run that waits for its reference or the host. -/
  raw : List Nat
  /-- Kind 0: source A's count at the edge of the first input, and the change to the edge of the second; kind 4: the head's
  drop count at START. -/
  edge : Option Int
  change : Option Int
  drops : Nat
  /-- Time (2 ns units) of the post to the host. -/
  postedAt : Nat
  deriving DecidableEq, Repr

def CalSt.reset : CalSt :=
  { kind := 0, inst := 0, code := 0, first := none, raw := [], edge := none, change := none, drops := 0, postedAt := 0 }



/-- The whole state of the device, and the commands that wait. -/
structure State where
  /-- Time since power-up in units of 2 ns; it counts in every state of the device. -/
  now : Nat
  /-- FT time in FT ticks of 2 ns (Table 01-5); 0 whenever the FT domain leaves reset (R18). -/
  ft : Nat
  /-- Pin levels. -/
  pins : Pins
  /-- Register fields that differ from their reset values, by `Fld.key`. -/
  regs : Tab Nat
  /-- Values in force of the staged fields without a generation of their own, by `Fld.key`. -/
  force : Tab Nat
  /-- Words held by the snapshots of R510, by register address. -/
  snap : Tab Nat
  /-- Reset sequencing. -/
  rst : ResetSt
  /-- Image, fuses and flash. -/
  img : ImageSt
  /-- Events. -/
  ev : EventSt
  /-- Service processors SP0 to SP3 running (R20). -/
  sps : List Bool
  /-- What the device has sent, newest first. -/
  sent : List Out
  /-- Col-link frames that wait, in the order R431 sends them. -/
  colTx : List ColOut
  /-- The model's own counter: which open value of `Config.free` is next. -/
  freeCtr : Nat
  /-- Lanes that are not as after reset, by LN index. -/
  lanes : Tab Lane
  /-- Links reported UP (R107): head lane p as p, the data port as 128, the col link as 136. -/
  linkUp : List Nat
  /-- Data port and ingest. -/
  ingest : IngestSt
  /-- Pages in the sequence whose completion record has not been sent, in ascending PSEQ. -/
  pages : List Page
  /-- Coverage plan of the last page described (COV_INHERIT). -/
  lastPlan : List Nat
  /-- Digests of the partner for pages this twin has not been given (R139). -/
  digestWait : List Digest
  /-- Decompressors and compressors. -/
  codec : CodecSt
  /-- Bytes the device has written to DRAM, by address; an unlisted byte has not been written. -/
  dram : List Host.Cell
  /-- Screening, generations and band ring. -/
  scr : ScreenSt
  /-- Fire fetch, withdrawals, duty sums and scree log. -/
  ff : FetchSt
  /-- Fire position engine and line decisions. -/
  fpe : FpeSt
  /-- Head ports that are not as after reset. -/
  ports : Tab Port
  /-- Encoders, latch inputs and SSI ports. -/
  posn : PositionSt
  /-- Loop slots, their sinks and the trace buffers. -/
  loop : LoopSt
  /-- Cameras, contexts, health map and result ring. -/
  ins : InspectSt
  /-- Lamps, bypass chain and pattern engines. -/
  light : LightSt
  /-- Axes and maintenance activities. -/
  mot : MotionSt
  /-- DRAM controller. -/
  mc : MemCtlSt
  /-- Twin block. -/
  twin : TwinSt
  /-- Ring ports and register access. -/
  net : NetSt
  /-- PTP clock. -/
  ptp : PtpSt
  /-- Metrology island. -/
  met : IslandSt
  /-- Tally stream of the main die. -/
  tally : TallySt
  /-- Calibration in progress. -/
  cal : CalSt
  /-- Time (2 ns units) of the first HM_CHANGE that the host has not answered (R517). -/
  hmWait : Option Nat
  /-- Aborts that have not reached their safe state: function, instance, and the time of application (R514). -/
  aborts : List (Nat × Nat × Nat)
  /-- The commands waiting, first in first out. -/
  pending : List Instr
  deriving DecidableEq, Repr

/-- The device in the stretch of its power-on reset, source 0 released and the stretch about to end (R47, R533): every register at
its reset value, nothing stored, no command waiting. -/
def State.reset : State :=
  { now := 0,
    ft := 0,
    pins := Pins.reset,
    regs := [],
    force := [],
    snap := [],
    rst := ResetSt.reset,
    img := ImageSt.reset,
    ev := EventSt.reset,
    sps := List.replicate 4 true,
    sent := [],
    colTx := [],
    freeCtr := 0,
    lanes := [],
    linkUp := [],
    ingest := IngestSt.reset,
    pages := [],
    lastPlan := [],
    digestWait := [],
    codec := CodecSt.reset,
    dram := [],
    scr := ScreenSt.reset,
    ff := FetchSt.reset,
    fpe := FpeSt.reset,
    ports := [],
    posn := PositionSt.reset,
    loop := LoopSt.reset,
    ins := InspectSt.reset,
    light := LightSt.reset,
    mot := MotionSt.reset,
    mc := MemCtlSt.reset,
    twin := TwinSt.reset,
    net := NetSt.reset,
    ptp := PtpSt.reset,
    met := IslandSt.reset,
    tally := TallySt.reset,
    cal := CalSt.reset,
    hmWait := none,
    aborts := [],
    pending := [] }

end Sys2Proof.Machine
end

