-- ==== Sys2Proof/Machine/Ops.lean ====
section
/-!
DEFINITION. The named operations that every meaning is built from: register fields, counters, event records, what is sent,
open values, pins and roles.
-/
namespace Sys2Proof.Machine

/-- What a command answers. -/
abbrev Ans := Host.Outcome State Fault Refusal

def boolArg (b : Bool) : Nat := if b then 1 else 0

/-- The first list comes first. -/
def lexLess : List Nat → List Nat → Bool
  | a :: as, b :: bs => decide (a < b) || (a == b && lexLess as bs)
  | _, _ => false

/-- Microseconds in units of 2 ns. -/
def us (n : Nat) : Nat := 500 * n

/-! ### Register fields -/

/-- The present content of a field of element `i`; a field holds no more than its bits. -/
def State.get (s : State) (f : Fld) (i : Nat) : Nat := Tab.get (f.resetAt i) s.regs (f.key i) % 2 ^ f.width

/-- Write a field: the value is taken modulo the field's width. -/
def State.put (s : State) (f : Fld) (i v : Nat) : State :=
  { s with regs := Tab.set (f.resetAt i) s.regs (f.key i) (v % 2 ^ f.width) }

/-- A field that is one bit. -/
def State.flag (s : State) (f : Fld) (i : Nat) : Bool := s.get f i == 1

/-- The value in force of a staged field (Table 23-2, RWS). DEDUCED (log 13). -/
def State.inForce (s : State) (f : Fld) (i : Nat) : Nat := Tab.get (f.resetAt i) s.force (f.key i) % 2 ^ f.width

/-- A staged field takes effect at its boundary. DEDUCED (log 13). -/
def State.enforce (s : State) (f : Fld) (i : Nat) : State :=
  { s with force := Tab.set (f.resetAt i) s.force (f.key i) (s.get f i) }

/-- The value of a word whose fields read as `g` says. -/
def wordOf (g : Fld → Nat) : List Fld → Nat
  | [] => 0
  | f :: fs => g f * 2 ^ f.lo + wordOf g fs

/-- The fields of a register as one word: reserved bits read 0, WO fields read 0 (Table 23-2, R524). -/
def State.rawWord (s : State) (r : Reg) (i : Nat) : Nat :=
  wordOf (fun f => if f.acc = .wo then 0 else s.get f i) r.fields

/-- The part of a written word that a field takes. -/
def Fld.of (f : Fld) (w : Word) : Nat := w.toNat / 2 ^ f.lo % 2 ^ f.width

/-- Values that a field takes: a reserved encoding, or a value outside the range that the field's description gives, without one
that it acts as, leaves the field unchanged (R527). -/
def Fld.legal (f : Fld) (v : Nat) : Bool :=
  match f.reg, f.lo with
  | .monCtrl, 0 | .pgCtrl, 4 | .hpRate, 0 | .camFrameTo, 0 => decide (1 ≤ v)
  | .fpeAdv, 16 => decide (1 ≤ v)
  | .lmpSegmap, 10 => decide (1 ≤ v)
  | .ispSize, 0 => decide (1 ≤ v ∧ v ≤ 16384)
  | .ispSize, 15 => decide (1 ≤ v)
  | .ispMode, 0 => decide (v ≤ 4)
  | .ispStrobeW, 0 => decide (250 ≤ v ∧ v ≤ 1000000)
  | .cfgFlCtrl, 1 => decide (v ≤ 3)
  | .fpeCtrl, 11 | .fpeCtrl, 14 => decide (v ≤ 5)
  | .trcCfg, 8 => decide (v ≤ 175)
  | .axIref, 16 => decide (1 ≤ v ∧ v ≤ 10000)
  | .axStept, 0 => decide (25 ≤ v ∧ v ≤ 1000)
  | .axHome, 0 => decide (1 ≤ v ∧ v ≤ 6)
  | .axHome, 3 => decide (v ≤ 5)
  | _, _ => true

/-- The plain part of a write: RW and RWS fields take their bits where the value is a legal one, W1C fields clear the bits where a 1 is written (Table 23-2).
DEDUCED (log 11). -/
def State.storeWord (s : State) (r : Reg) (i : Nat) (w : Word) : State :=
  r.fields.foldl (fun t f => match f.acc with
    | .rw | .rws => if f.legal (f.of w) then t.put f i (f.of w) else t
    | .w1c => t.put f i (t.get f i - (t.get f i &&& f.of w))
    | .ro | .wo => t) s

/-- A value of two words, the low word at the lower address (R510). -/
def State.get64 (s : State) (lo hi : Fld) (i : Nat) : Nat := s.get lo i + 2 ^ 32 * s.get hi i

def State.put64 (s : State) (lo hi : Fld) (i v : Nat) : State :=
  (s.put lo i (v % 2 ^ 32)).put hi i (v / 2 ^ 32)

/-- A signed field of 32 bits. -/
def State.getInt (s : State) (f : Fld) (i : Nat) : Int := signed f.width (s.get f i)

def State.putInt (s : State) (f : Fld) (i : Nat) (v : Int) : State := s.put f i (unsign f.width v)

/-- The field's registers are set back to their reset values. -/
def State.clear (s : State) (f : Fld) (i : Nat) : State := s.put f i (f.resetAt i)

/-- Drop from a store every field whose register passes `p`: it reads its reset value again. -/
def dropRegs (p : Reg → Bool) (acc : Acc → Bool) (t : Tab Nat) : Tab Nat :=
  t.filter (fun e => !(regList.any (fun r =>
    r.ctorIdx == e.1 / 32 % 512 && p r && r.fields.any (fun f => f.lo == e.1 % 32 && acc f.acc))))

/-! ### Open values -/

/-- The next open value: it is what the spec does not state. DESIGN CHOICE (log 10). -/
def State.openValue (s : State) (width : Nat) : Nat := Config.free s.freeCtr % 2 ^ width

/-- The same with the counter advanced, so that the next open value is another. DESIGN CHOICE (log 10). -/
def State.nextOpen (s : State) : State := { s with freeCtr := s.freeCtr + 1 }

/-! ### Event records (R502 to R505) -/

/-- The event tick: FT time / 125, or NT ticks of 256 ns while FT is not qualified (COARSE, Table 22-2). -/
def State.etNow (s : State) : Nat := if s.rst.qualified.getD 0 false then s.ft / 125 else s.now / 128

/-- The first record of an event (Table 22-2). DEDUCED (log 5). DESIGN CHOICE (log 6). -/
def EvRec.first (r : EvRec) : Nat :=
  r.code.prec + r.more * 2 ^ 4 + (if r.coarse then 2 ^ 6 else 0) + (if r.loss then 2 ^ 7 else 0)
    + (if r.late then 2 ^ 8 else 0) + r.inst % 2 ^ 8 * 2 ^ 16 + r.code.block * 2 ^ 24
    + (r.code.cls * 2 ^ 13 + Config.eventCodeNumber r.code.ctorIdx % 2 ^ 13) * 2 ^ 40
    + r.et % 2 ^ 48 * 2 ^ 56 + argVal r.args % 2 ^ 24 * 2 ^ 104

/-- The continuation records 1 to MORE. DEDUCED (log 5). -/
def EvRec.cont (r : EvRec) (k : Nat) : Nat :=
  k * 2 ^ 4 + (argVal r.args / 2 ^ (24 + 120 * (k - 1)) % 2 ^ 120) * 2 ^ 8

/-- Every 128-bit record of an event, in order. -/
def EvRec.records (r : EvRec) : List Nat :=
  r.first :: (List.range r.more).map (fun k => r.cont (k + 1))

/-- Records the on-chip queue holds. -/
def queueFill (q : List EvRec) : Nat := q.foldl (fun n r => n + r.size) 0

/-- EVT_CTRL.LOG2 in force: values outside 12 to 20 act as 16. -/
def State.ringSize (s : State) : Nat :=
  let l := s.inForce EvtCtrl.log2 0
  2 ^ (if 12 ≤ l ∧ l ≤ 20 then l else 16)

/-- A lost record is counted, and the next record written carries LOSS (R504). -/
def State.loseRecord (s : State) (n : Nat) : State :=
  let v := satAdd 31 (s.get EvtLost.count 0) n
  let s := s.put EvtLost.count 0 v
  let s := if v = 2 ^ 31 - 1 then s.put EvtLost.ovf 0 1 else s
  { s with ev := { s.ev with loss := true } }

/-- Put words into the ring from index `i` on. -/
def ringPut (size : Nat) : Tab Nat → Nat → List Nat → Tab Nat
  | t, _, [] => t
  | t, i, w :: ws => ringPut size (Tab.insert (i % size) w t) (i + 1) ws

/-- A released record reaches the ring in DRAM, or is lost where the ring is full (R503, R504). -/
def State.spill (s : State) (r : EvRec) : State :=
  let wr := s.get EvtWr.v 0
  let rd := s.get EvtRd.v 0
  if (wr + 2 ^ 32 - rd) % 2 ^ 32 + r.size ≤ s.ringSize then
    let ring := ringPut s.ringSize s.ev.ring wr { r with loss := r.loss || s.ev.loss }.records
    { s with ev := { s.ev with ring := ring, loss := false } }.put EvtWr.v 0 (wr + r.size)
  else s.loseRecord r.size

/-- The event tick now has been released already: a record for it goes out at once with LATE (R503). -/
def State.etReleased (s : State) : Bool :=
  match s.ev.releasedEt with
  | some e => decide (s.etNow ≤ e)
  | none => false

/-- The record of an event that happens now. DEDUCED (log 5). -/
def State.evRec (s : State) (code : EvCode) (inst : Nat) (args : List EvArg) : EvRec :=
  { code := code, inst := inst, args := args, et := s.etNow, coarse := !(s.rst.qualified.getD 0 false), loss := s.ev.loss,
    late := s.etReleased }

/-- Fewer entries of the queue are free than the record takes, or fewer than 64 and its class is above 3 (R504). -/
def State.noRoom (s : State) (r : EvRec) : Bool :=
  decide (1024 - queueFill s.ev.queue < r.size ∨ (1024 - queueFill s.ev.queue < 64 ∧ 3 < r.code.prec))

/-- A record is copied to the AON tail (R505). -/
def State.toTail (s : State) (r : EvRec) : State :=
  { s with ev := { s.ev with tail := (r.records.reverse ++ s.ev.tail).take 64 } }

/-- A record waits in the queue until its event tick is released. -/
def State.enqueue (s : State) (r : EvRec) : State :=
  { s with ev := { s.ev with queue := s.ev.queue ++ [r], loss := false } }

/-- Record an event: accepted into the queue and copied to the AON tail, or lost (R503 to R505). -/
def State.record (s : State) (code : EvCode) (inst : Nat) (args : List EvArg) : State :=
  let r := s.evRec code inst args
  if s.noRoom r then s.loseRecord r.size
  else if r.late then (s.toTail r).spill r
  else (s.toTail r).enqueue r

/-! ### Counters (R507 to R509) -/

/-- A class S counter with its OVF flag: it stops at all-ones, sets OVF there and records CNT_SAT once (R508). -/
def State.countBy (s : State) (c ovf : Fld) (i k : Nat) : State :=
  let v := s.get c i
  let v' := satAdd c.width v k
  let t := s.put c i v'
  if v' = 2 ^ c.width - 1 ∧ v ≠ v' then
    (t.put ovf i 1).record .cntSat 0 [a32 (c.reg.addr i)]
  else t

def State.count (s : State) (c ovf : Fld) (i : Nat) : State := s.countBy c ovf i 1

/-- A class S counter without a flag of its own (R508). -/
def State.countPlain (s : State) (c : Fld) (i : Nat) : State :=
  let v := s.get c i
  let v' := satAdd c.width v 1
  let t := s.put c i v'
  if v' = 2 ^ c.width - 1 ∧ v ≠ v' then t.record .cntSat 0 [a32 (c.reg.addr i)] else t

/-- A class W counter wraps at its width (R507). -/
def State.bump (s : State) (c : Fld) (i : Nat) : State := s.put c i (s.get c i + 1)

/-- A class M counter of 64 bits stops at all-ones and records CNT_M_SAT there (R509). -/
def State.count64 (s : State) (lo hi : Fld) (i k : Nat) : State :=
  let v := s.get64 lo hi i
  let v' := satAdd 64 v k
  let t := s.put64 lo hi i v'
  if v' = 2 ^ 64 - 1 ∧ v ≠ v' then t.record .cntMSat 0 [a32 (lo.reg.addr i)] else t

/-! ### Aborts (R514, Table 22-7: the function is its row, 0 page to 6 calibration) -/

/-- An abort is acknowledged. DEDUCED (log 71). -/
def State.abortStart (s : State) (fn inst : Nat) : State :=
  if s.aborts.any (fun a => a.1 == fn && a.2.1 == inst) then s
  else ({ s with aborts := s.aborts ++ [(fn, inst, s.now)] }).record .abort inst [a8 fn]

/-- Its safe state is reached: ABORT_DONE with the elapsed time in microseconds. DEDUCED (log 71). -/
def State.abortEnd (s : State) (fn inst : Nat) : State :=
  match s.aborts.find? (fun a => a.1 == fn && a.2.1 == inst) with
  | none => s
  | some a => ({ s with aborts := s.aborts.filter (fun b => !(b.1 == fn && b.2.1 == inst)) }).record .abortDone inst
      [a8 fn, a32 ((s.now - a.2.2) / 500)]

def State.aborting (s : State) (fn inst : Nat) : Bool := s.aborts.any (fun a => a.1 == fn && a.2.1 == inst)

/-! ### DRAM the device writes -/

/-- The canonical form of the bytes written to DRAM: rising addresses; an unlisted byte has not been written.
DESIGN CHOICE (log 80). -/
def Memory.wf (m : List Host.Cell) : Bool := Tab.rising m

def writeBytes : List Host.Cell → Nat → List Byte → List Host.Cell
  | m, _, [] => m
  | m, a, b :: bs => writeBytes (Tab.insert a b m) (a + 1) bs

/-- Bytes go to DRAM from an address on (R169). DESIGN CHOICE (log 80). -/
def State.dramWrite (s : State) (addr : Nat) (bytes : List Byte) : State :=
  { s with dram := writeBytes s.dram addr bytes }

/-! ### Sending -/

/-- The device sends something. -/
def State.send (s : State) (o : Out) : State := { s with sent := o :: s.sent }

/-- The priority of a col-link message type: the smaller goes first (R431). -/
def colPriority (typ : Nat) : Nat :=
  if typ ≤ 3 then 0 else if typ = 4 then 1 else if typ = 5 ∨ typ = 6 then 2
  else if typ ≤ 0x0A then 3 else if typ = 0x0B then 4 else 5

def insertCol (m : ColOut) : List ColOut → List ColOut
  | [] => [m]
  | x :: xs => if colPriority m.typ < colPriority x.typ then m :: x :: xs else x :: insertCol m xs

/-- A col-link message waits in the order R431 sends it. A device with TWIN_PREF = 3 never uses the link (R425). -/
def State.solo (s : State) : Bool :=
  match s.img.ob with
  | some o => o.twinPref == 3
  | none => false

def State.sendCol (s : State) (typ : Nat) (args : List Nat) : State :=
  if s.solo then s else { s with colTx := insertCol ⟨typ, args⟩ s.colTx }

/-! ### Roles and fitness (Table 18-1, Table 18-2) -/

def roleNone : Nat := 0
def roleActive : Nat := 1
def roleStandby : Nat := 2
def roleSolo : Nat := 3
def roleFenced : Nat := 4

def State.role (s : State) : Nat := s.get TwStat.role 0

/-- The device drives heads and actuators (Table 18-1). -/
def State.acting (s : State) : Bool := s.role == roleActive || s.role == roleSolo

def State.running (s : State) : Bool := s.get RstStatus.state 0 == 1

/-- RUN or PARK (R519). -/
def State.operating (s : State) : Bool := s.get RstStatus.state 0 == 1 || s.get RstStatus.state 0 == 2

/-! Bits of TW_STAT.UNFIT (Table 18-2). -/

def unfitNotRun : Nat := 0
def unfitDegraded : Nat := 1
def unfitWarn : Nat := 2
def unfitPages : Nat := 3
def unfitLanes : Nat := 4
def unfitCairnStale : Nat := 5
def unfitSummit : Nat := 6
def unfitIncompatible : Nat := 7
def unfitRetrain : Nat := 8
def unfitResync : Nat := 9
def unfitFenced : Nat := 10

/-- A reason of Table 18-2 is set or cleared in TW_STAT.UNFIT. -/
def State.setUnfit (s : State) (bit : Nat) (on : Bool) : State :=
  let m := s.get TwStat.unfit 0
  let b := m / 2 ^ bit % 2
  let m' := if on then (if b = 1 then m else m + 2 ^ bit) else (if b = 1 then m - 2 ^ bit else m)
  s.put TwStat.unfit 0 m'

def State.unfitBit (s : State) (bit : Nat) : Bool := s.get TwStat.unfit 0 / 2 ^ bit % 2 == 1

/-- RST_STATUS.STATE, with NOT_RUN of Table 18-2. DEDUCED (log 22). -/
def State.setDevState (s : State) (v : Nat) : State := (s.put RstStatus.state 0 v).setUnfit unfitNotRun (v != 1)

/-- A partner whose heartbeats are current and that reports no reason of unfitness. -/
def State.partnerFit (s : State) : Bool :=
  s.flag TwStat.partnerOk 0 && s.get TwPstat.unfit 0 == 0

/-- Service processor p runs; the duties of one that restarts are held (Table 01-6, R20). -/
def State.spUp (s : State) (p : Nat) : Bool := s.sps.getD p true

/-! ### Pins (Table 02-4) -/

/-- From pin commit onward the device drives its pins. -/
def State.committed (s : State) : Bool :=
  match s.pins.phase with
  | .configured | .foothill => true
  | _ => false

/-- The inactive level of CAMn_TRIG under its configured polarity. -/
def State.trigIdle (s : State) (n : Nat) : Bool := s.get CamCfg.trigPol n == 1

/-- Every output of Table 02-4 at its safe level; before pin commit the pins rest as R24 defines them (R34). -/
def State.safeOutputs (s : State) : State :=
  if s.committed then
    { s with pins := { s.pins with
        hdenN := List.replicate 16 true, lsEnN := List.replicate 16 true, lsGate := List.replicate 16 false,
        lsRef := List.replicate 16 0, segClk := false, segLat := false, segDat := false,
        axEnN := List.replicate 8 true, axStep := List.replicate 8 false, axIref := List.replicate 8 0,
        spdAdvN := true, camTrig := (List.range 4).map s.trigIdle, twRoleN := true } }
  else s

/-- A function may assert an output: the device is configured and in RUN or PARK, its fence input is high, and it acts (R29, R35). -/
def State.mayAssert (s : State) : Bool :=
  s.pins.phase == .configured && s.operating && s.pins.fenceInN && s.acting

/-- The safe levels of one lamp string. -/
def State.safeLamp (s : State) (n : Nat) : State :=
  { s with pins := { s.pins with lsEnN := s.pins.lsEnN.set n true, lsGate := s.pins.lsGate.set n false,
                                 lsRef := s.pins.lsRef.set n 0 } }

/-- The safe levels of one axis; AXn_DIR stays. -/
def State.safeAxis (s : State) (n : Nat) : State :=
  { s with pins := { s.pins with axEnN := s.pins.axEnN.set n true, axStep := s.pins.axStep.set n false,
                                 axIref := s.pins.axIref.set n 0 } }

/-- The safe level of one camera trigger. -/
def State.safeCam (s : State) (n : Nat) : State :=
  { s with pins := { s.pins with camTrig := s.pins.camTrig.set n (s.trigIdle n) } }

/-- The KEY of a command register reads 0x7128 in the written value (spec/23_register_map.md). DEDUCED (log 12). -/
def keyOk (value : Word) : Bool := value.toNat / 2 ^ 16 == 0x7128

end Sys2Proof.Machine
end

