-- ==== Sys2Proof/Machine/AxisOps.lean ====
section
/-!
DEFINITION. Stepper axes: goals, stops, profiles and homing, and the print gate (spec/16_motion_and_maintenance.md, R383 to R397
and R404). Velocities are in 1/800,000 microstep per second, so that one LQ adds ACC.
-/
namespace Sys2Proof.Machine

def State.axis (s : State) (n : Nat) : Axis := s.mot.axes.getD n Axis.reset

def State.setAxis (s : State) (n : Nat) (x : Axis) : State := { s with mot := { s.mot with axes := s.mot.axes.set n x } }

def State.mapAxis (s : State) (n : Nat) (f : Axis → Axis) : State := s.setAxis n (f (s.axis n))

/-- AX_POS, 48 bits signed. -/
def State.axPos (s : State) (n : Nat) : Int := signed 48 (s.get64 AxPosLo.v AxPosHi.v n)

def State.setAxPos (s : State) (n : Nat) (p : Int) : State := s.put64 AxPosLo.v AxPosHi.v n (unsign 48 p)

/-- Velocity per microstep per second. DESIGN CHOICE (log 39). -/
def vUnit : Nat := 800000

def State.limitLow (s : State) (n : Nat) (positive : Bool) : Bool :=
  s.flag AxCfg.limEn n && !(if positive then s.pins.limP.getD n true else s.pins.limN.getD n true)

/-- DEC and ACC are clamped to DEC_EMERG (R388). -/
def State.axDec (s : State) (n : Nat) : Nat := min (s.get AxDec.v n) (s.get AxDecEmerg.v n)
def State.axAcc (s : State) (n : Nat) : Nat := min (s.get AxAcc.v n) (s.get AxDecEmerg.v n)

/-- R383: the smaller of 2 MHz and 1 / (2 STEP_W 2 ns). -/
def State.axTop (s : State) (n : Nat) : Nat := vUnit * min 2000000 (250000000 / max (s.get AxStept.stepW n) 1)

/-! ### Status and pins -/

/-- AX_STAT.STATE, AX_VNOW and QS_TIME (R393). DEDUCED (log 40). -/
def State.axState (s : State) (n : Nat) : State :=
  let x := s.axis n
  let st := if s.get AxCfg.en n = 0 then 0
    else if s.flag AxStat.drvFault n ∨ (s.flag AxStat.safeStop n ∧ x.v = 0) then 5
    else if x.stop ≠ 0 then 3
    else if x.homing.isSome then 4
    else if x.v ≠ 0 ∨ (x.goal.isSome ∧ x.goal ≠ some (s.axPos n)) then 2 else 1
  let e := max (s.get AxDecEmerg.v n) 1
  let q := (x.v.natAbs + e + 80 * e - 1) / (80 * e)
  ((s.put AxStat.state n st).putInt AxVnow.v n (x.v / (vUnit : Int))).put AxStat.qsTime n (min q 511)

/-- The enable and the current of an axis that this device may drive. -/
def State.driveAxis (s : State) (n : Nat) : State :=
  if s.mayAssert ∧ s.get AxCfg.en n = 1 ∧ ¬s.flag AxStat.drvFault n then
    { s with pins := { s.pins with
        axEnN := s.pins.axEnN.set n false,
        axIref := s.pins.axIref.set n (if s.flag AxStat.hold n then s.get AxIref.holdDuty n else s.get AxIref.runDuty n) } }
  else s

/-- AXn_DIR. -/
def State.setDir (s : State) (n : Nat) (negative : Bool) : State :=
  let x := s.axis n
  if x.negative = negative then s
  else
    let s := s.setAxis n { x with negative := negative, stepFrom := max x.stepFrom (s.ft + s.get AxStept.dirSetup n) }
    if s.mayAssert then
      { s with pins := { s.pins with axDir := s.pins.axDir.set n (negative != s.flag AxCfg.dirInv n) } }
    else s

/-- Steps stop in this tick; the profile is gone. -/
def State.haltAxis (s : State) (n : Nat) : State :=
  (s.mapAxis n (fun x => { x with
    v := 0, a := 0, goal := none, due := none, braking := false, holding := false, switching := none, stop := 0,
    homing := none, latch := none, stillAt := s.ft })).axState n

/-! ### Goals (R385, R386, R391, R392) -/

/-- The axis may take this goal. -/
def State.acceptsGoal (s : State) (n : Nat) (g : Int) : Bool :=
  s.get AxCfg.en n == 1 && !s.flag AxStat.drvFault n && !s.flag AxStat.safeStop n && (s.axis n).homing.isNone &&
  !(s.limitLow n true && decide (s.axPos n < g)) && !(s.limitLow n false && decide (g < s.axPos n))

/-- A target is committed for the next LQ; from the host or a loop it is held while an activity owns the axis. -/
def State.commitTarget (s : State) (n : Nat) (g : Int) (activity : Bool) : State :=
  let g := signed 48 (unsign 48 g)
  if s.flag AxStat.owned n ∧ ¬activity then s.mapAxis n (fun x => { x with held := some g })
  else s.mapAxis n (fun x => { x with due := some g })

/-- The goal committed is taken at the LQ, or refused. -/
def State.takeGoal (s : State) (n : Nat) : State :=
  match (s.axis n).due with
  | none => s
  | some g =>
    let s := s.mapAxis n (fun x => { x with due := none })
    if s.acceptsGoal n g then
      s.mapAxis n (fun x => { x with goal := some g, braking := false, holding := false, switching := none })
    else s.put AxStat.refused n 1

/-! ### The print gate (R404) -/

def State.gateOpen (s : State) : Bool :=
  let p := s.axPos 0
  s.mot.print && s.flag AxStat.homed 0 && decide (s.getInt MntPwinMin.v 0 ≤ p) && decide (p ≤ s.getInt MntPwinMax.v 0)

/-- MNT_STAT.GATE follows; MNT_GATE is recorded as it closes. -/
def State.evalGate (s : State) : State :=
  let g := s.gateOpen
  if g = true ∧ s.get MntStat.gate 0 = 0 then s.put MntStat.gate 0 1
  else if g = false ∧ s.get MntStat.gate 0 = 1 then (s.put MntStat.gate 0 0).record .mntGate 0 []
  else s

/-! ### Stops (Table 16-2) -/

/-- The speed of the next LQ while the axis stops at DEC under the jerk limit: the braking rate rises at JERK and falls again so
that it is gone at standstill. -/
def State.jerkBrake (s : State) (n : Nat) (x : Axis) : Axis :=
  let j := max (s.get AxJerk.v n) 1
  let a := x.a.natAbs
  let b : Nat := if x.v.natAbs * (2 * j * vUnit) ≤ a * a then max (a - j) vUnit else min (a + j) (s.axDec n * vUnit)
  { x with v := (if x.v.natAbs ≤ b / vUnit then 0 else if 0 ≤ x.v then x.v - (b / vUnit : Nat) else x.v + (b / vUnit : Nat)),
           a := -(b : Int) }

/-- The axis has come to a standstill under a stop. -/
def State.stopped (s : State) (n : Nat) : State :=
  let x := s.axis n
  let s := s.setAxis n { x with v := 0, a := 0, stop := 0, goal := some (s.axPos n), braking := false, holding := false,
                                switching := none, stillAt := s.ft }
  let s := if x.safety then
      let s := s.mapAxis n (fun y => { y with safety := false, goal := none, homing := none })
      if s.flag AxCfg.safeDis n then s.safeAxis n else s
    else s
  let s := match x.homing with
    | some (q, 1, t) => if x.latch.isSome ∧ ¬x.safety then s.mapAxis n (fun y => { y with homing := some (q, 2, t), goal := none })
        else s.mapAxis n (fun y => { y with homing := none })
    | some _ => s.mapAxis n (fun y => { y with homing := none })
    | none => s
  (s.abortEnd 4 n).axState n

/-- A stop begins: 1 at DEC, 2 at DEC_EMERG; goals committed in this LQ are discarded (R394). -/
def State.beginStop (s : State) (n how : Nat) : State :=
  let x := s.axis n
  let s := s.setAxis n { x with stop := max x.stop how, due := none, switching := none }
  if x.v = 0 then s.stopped n else s.axState n

/-! ### Homing (R396, R397) -/

/-- Direction of a sequence's approach: true positive. -/
def homePositive (seq : Nat) : Bool := seq == 1 || seq == 4 || seq == 5

def State.homeOfs (s : State) (n : Nat) : Int := signed 48 (s.get64 AxHomeOfsLo.v AxHomeOfsHi.v n)

/-- The second latch is the reference. -/
def State.homeDone (s : State) (n : Nat) (ref : Int) : State :=
  let s := s.setAxPos n (s.axPos n + (s.homeOfs n - ref))
  ((s.put64 AxHlatLo.v AxHlatHi.v n (unsign 48 ref)).put AxStat.homed n 1)

/-- The edge of the present pass: the first pass brakes and turns, the second is the reference. -/
def State.homeEdge (s : State) (n : Nat) : State :=
  let x := s.axis n
  match x.homing with
  | none => s
  | some (q, 1, t) =>
    if x.latch.isSome then s
    else if q = 5 then s.setAxis n { x with homing := some (5, 3, t) }
    else (s.setAxis n { x with latch := some (s.axPos n) }).beginStop n (if q = 3 ∨ q = 4 then 2 else 1)
  | some (_, 2, _) => ((s.homeDone n (s.axPos n)).mapAxis n (fun y => { y with homing := none, latch := none })).beginStop n 1
  | some _ => s

/-- A gate event of an encoder: sequence 5 latches it in both passes. -/
def State.homeIndex (s : State) (enc : Nat) : State :=
  (List.range 8).foldl (fun t n =>
    if t.get AxHome.enc n ≠ enc then t
    else
      let x := t.axis n
      match x.homing with
      | some (5, 3, k) => (t.setAxis n { x with homing := some (5, 1, k), latch := some (t.axPos n) }).beginStop n 1
      | some (5, 2, _) => ((t.homeDone n (t.axPos n)).mapAxis n (fun y => { y with homing := none, latch := none })).beginStop n 1
      | _ => t) s

def State.homeFail (s : State) (n : Nat) : State :=
  ((s.mapAxis n (fun x => { x with homing := none, latch := none, homeBad := true })).put AxStat.homeErr n 1).record .axHomeFail n [] |>.beginStop n 1

/-- A homing run starts; sequence 6 moves nothing, 0 and 7 name no sequence. -/
def State.startHoming (s : State) (n : Nat) : State :=
  let q := s.get AxHome.seq n
  if q = 6 then
    let r := s.homeOfs n
    ((s.setAxPos n r).put64 AxHlatLo.v AxHlatHi.v n (unsign 48 r)).put AxStat.homed n 1 |>.axState n
  else if q = 0 ∨ q = 7 ∨ s.get AxCfg.en n = 0 ∨ s.flag AxStat.drvFault n ∨ s.flag AxStat.safeStop n then s
  else (s.mapAxis n (fun x => { x with homing := some (q, 1, 0), latch := none, homeBad := false, goal := none, due := none, braking := false,
                                       holding := false, switching := none })).axState n

/-! ### Profiles (R387 to R390) -/

/-- Braking by a rate, not through standstill. -/
def towardsZero (v : Int) (r : Nat) : Int := if v.natAbs ≤ r then 0 else if 0 ≤ v then v - r else v + r

/-- Speed towards a top speed at ACC, or down to it at DEC. -/
def towardsTop (u acc dec top : Nat) : Nat := if u ≤ top then min (u + acc) top else max (u - dec) top

/-- What the generator decides at an LQ (Table 16-1). -/
inductive Brake where
  | run | hold | dec | need (rate : Nat) | back (rate : Nat)
  deriving DecidableEq, Repr

/-- Table 16-1 for speed u, distance d (2^-32 microstep, in the direction of travel; 0 or less lies behind).
DESIGN CHOICE (log 39). -/
def brakeCase (u dec emerg : Nat) (d : Int) (braking : Bool) : Brake :=
  if d ≤ 0 then .back dec
  else
    let num := u * u * 2 ^ 31
    let den := 640000000000 * d.toNat
    if num < (dec - dec / 64) * den then (if braking then .hold else .run)
    else if num ≤ dec * den then .dec
    else if num ≤ emerg * den then .need ((num + den - 1) / den)
    else .back emerg

/-- Distance, in microsteps, in which speed v and acceleration a (real units) come to rest under the jerk limit. -/
def jerkStop (v a : Rat) (dec jerk : Nat) : Rat :=
  let j : Rat := max jerk 1
  let d : Rat := max dec 1
  let fromRest : Rat → Rat := fun u =>
    if d * d ≤ u * j then u / 2 * (u / d + d / j)
    else u * ((Nat.sqrt (u * j).ceil.toNat : Nat) + 1) / j
  if 0 ≤ a then
    let u := v + a * a / (2 * j)
    v * a / j + a * a * a / (3 * j * j) + fromRest u
  else
    let b := -a
    let u := v + b * b / (2 * j)
    fromRest u - (u * b / j - b * b * b / (6 * j * j))

/-- The next acceleration of the jerk-limited profile, in 1/800,000 microstep per second squared: the largest of the three that
the jerk allows from which the axis still stops at its goal and stays at or below VMAX. DESIGN CHOICE (log 39). -/
def jerkNext (u : Nat) (a : Int) (acc dec jerk top : Nat) (d : Int) (braking : Bool) : Int :=
  let ok : Int → Bool := fun b =>
    let u' : Int := u + b / (vUnit : Int)
    let v : Rat := (u' : Rat) / vUnit
    let c : Rat := (b : Rat) / vUnit
    let left : Rat := (d : Rat) / 2 ^ 32 - v / vUnit
    decide (0 ≤ u') && decide (jerkStop v c dec jerk ≤ left) &&
    (decide (b ≤ 0) || decide (v + c * c / (2 * (max jerk 1 : Nat)) ≤ (top : Rat) / vUnit))
  let up := min (a + jerk) ((acc * vUnit : Nat) : Int)
  let down := max (a - jerk) (-((dec * vUnit : Nat) : Int))
  let cand := (if braking then [] else [up]) ++ [a, if a < 0 then min (a + jerk) 0 else a, down]
  (cand.find? ok).getD down

/-- Position after one LQ at the present velocity: whole microsteps and phase. DESIGN CHOICE (log 39). -/
def State.advanceAxis (s : State) (n : Nat) : State :=
  let x := s.axis n
  if x.v = 0 then s
  else
    let total : Int := (x.phase : Int) + x.v * 2 ^ 32 / 640000000000
    let k := total / 2 ^ 32
    let s := s.setAxPos n (s.axPos n + k)
    s.setAxis n { x with phase := (total % 2 ^ 32).toNat, homing := match x.homing with
      | some (q, p, t) => some (q, p, t + k.natAbs)
      | none => none }

/-- The axis arrives. -/
def State.arrive (s : State) (n : Nat) (g : Int) : State :=
  (s.setAxPos n g).mapAxis n (fun x => { x with v := 0, a := 0, phase := 0, braking := false, holding := false, stillAt := s.ft })

/-- From standstill: the current is raised, the direction set, and the first step follows its delays (R383, R384). -/
def State.leaveRest (s : State) (n : Nat) (negative : Bool) : State :=
  let s := if s.flag AxStat.hold n then
      ((s.put AxStat.hold n 0).mapAxis n (fun x => { x with stepFrom := max x.stepFrom (s.ft + 10000) })).driveAxis n
    else s
  s.setDir n negative

/-- The velocity of the next LQ while a goal is in force. -/
def State.profile (s : State) (n : Nat) (g : Int) : State :=
  let x := s.axis n
  let d0 : Int := (g - s.axPos n) * 2 ^ 32 - (x.phase : Int)
  if x.v = 0 ∧ d0 = 0 then s
  else if x.v = 0 ∧ d0.natAbs < 2 ^ 32 then s.arrive n g
  else
    let neg := if x.v = 0 then decide (d0 < 0) else decide (x.v < 0)
    let s := if x.v = 0 then s.leaveRest n neg else s
    let x := s.axis n
    if s.ft < x.stepFrom then s
    else
      let sgn : Int := if neg then -1 else 1
      let d := sgn * d0
      let u := x.v.natAbs
      let dec := s.axDec n
      let emerg := s.get AxDecEmerg.v n
      let want := vUnit * s.get AxVmax.v n
      let top := min want (s.axTop n)
      let s := if s.axTop n < want ∧ s.axTop n ≤ u + s.axAcc n then s.put AxStat.vclamp n 1 else s
      let brake (s : State) (r : Nat) : State :=
        if u ≤ r then s.arrive n g
        else s.setAxis n { x with v := sgn * ((u - r : Nat) : Int), a := -((r * vUnit : Nat) : Int), braking := true, holding := false }
      match brakeCase u dec emerg d x.braking with
      | .back r => (s.setAxis n { x with switching := some r, v := towardsZero x.v r, a := 0 }).put AxStat.switchback n 1
      | .need r => (brake s r).put AxStat.decelOverride n 1
      | c =>
        if s.flag AxCfg.profile n then
          let a := jerkNext u x.a (s.axAcc n) dec (s.get AxJerk.v n) top d (x.braking)
          let u' : Int := (u : Int) + a / (vUnit : Int)
          if u' ≤ 0 then s.arrive n g
          else s.setAxis n { x with v := sgn * min u' (max top u : Nat), a := a, braking := x.braking || decide (a < 0) }
        else match c with
        | .dec => brake s dec
        | .hold => s.setAxis n { x with a := 0, holding := true }
        | _ => s.setAxis n { x with v := sgn * ((towardsTop u (s.axAcc n) dec top : Nat) : Int), a := 0 }

/-- The velocity of the next LQ in a homing pass: towards HOME_V1 or HOME_V2 in the direction of the pass. -/
def State.homePass (s : State) (n q pass : Nat) : State :=
  let pos := if pass = 2 then !homePositive q else homePositive q
  let s := if (s.axis n).v = 0 then s.leaveRest n (!pos) else s
  let x := s.axis n
  if s.ft < x.stepFrom then s
  else
    let top := min (vUnit * (if pass = 2 then s.get AxHomeV2.v n else s.get AxHomeV1.v n)) (s.axTop n)
    let u := towardsTop x.v.natAbs (s.axAcc n) (s.axDec n) top
    s.setAxis n { x with v := if pos then (u : Int) else -(u : Int) }

/-- One LQ of an axis: it moves by its velocity, takes the goal committed and sets the velocity of the next LQ. -/
def State.axisLq (s : State) (n : Nat) : State :=
  if ¬s.operating then s else
  let s := (s.advanceAxis n).takeGoal n
  let x := s.axis n
  let s :=
    if s.get AxCfg.en n = 0 then s
    else if x.stop ≠ 0 then
      let y := if x.stop = 1 ∧ s.flag AxCfg.profile n then s.jerkBrake n x
        else { x with v := towardsZero x.v (if x.stop = 1 then s.axDec n else s.get AxDecEmerg.v n), a := 0 }
      if y.v = 0 then s.stopped n else s.setAxis n y
    else match x.homing with
    | some (q, p, t) => if 2 ^ 32 ≤ t then s.homeFail n else s.homePass n q p
    | none => match x.switching with
      | some r =>
        let v := towardsZero x.v r
        s.setAxis n { x with v := v, a := 0, switching := if v = 0 then none else some r,
                             stillAt := if v = 0 then s.ft else x.stillAt }
      | none => match x.goal with
        | some g => s.profile n g
        | none => s
  (s.axState n).evalGate

end Sys2Proof.Machine
end

