-- ==== Sys2Proof/Machine/Axis.lean ====
section
/-!
DEFINITION. The commands of the stepper axes (spec/16_motion_and_maintenance.md, R383 to R397).
-/
namespace Sys2Proof.Machine

/-! ### Enabling and stopping -/

/-- A safety input of the axis's mask reads low. -/
def State.stopInput (s : State) (n : Nat) : Bool :=
  (List.range 4).any (fun k => s.get AxCfg.safeMask n / 2 ^ k % 2 == 1 && !s.pins.safeInN.getD k true)

/-- Homing and goals end with a commanded or safety stop. -/
def State.dropRun (s : State) (n : Nat) : State :=
  s.mapAxis n (fun x => { x with homing := none, latch := none, goal := none, due := none, held := none })

/-- A safety input stops the axis (Table 16-2). -/
def State.safetyStop (s : State) (n : Nat) : State :=
  if s.flag AxStat.safeStop n then s
  else (((s.put AxStat.safeStop n 1).dropRun n).mapAxis n (fun x => { x with safety := true })).beginStop n 2

/-- The axis has become enabled: full current, and no step within 1 ms (R384). -/
def State.axisOn (s : State) (n : Nat) : State :=
  let s := (s.put AxStat.hold n 0).mapAxis n (fun x => { x with stepFrom := s.ft + us 1000, stillAt := s.ft })
  let s := if s.stopInput n then s.safetyStop n else s
  (s.driveAxis n).axState n

def State.axisOff (s : State) (n : Nat) : State := (((s.haltAxis n).put AxStat.hold n 0).safeAxis n).abortEnd 4 n

/-- A write of AX_CFG. -/
def State.writeAxCfg (s : State) (n : Nat) (value : Word) : State :=
  let was := s.flag AxCfg.en n
  let s := s.storeWord .axCfg n value
  let on := s.flag AxCfg.en n
  if on ∧ ¬was then s.axisOn n
  else if was ∧ ¬on then (s.axisOff n).axState n
  else if on ∧ s.stopInput n then s.safetyStop n
  else s

/-- What stands still has stopped at its present place. -/
def State.cmdStop (s : State) (n how : Nat) : State :=
  (s.dropRun n).beginStop n how

/-- A write of AX_CMD. A command to an owned axis is ignored, except ABORT; of several in one tick the strongest brakes (R394). -/
def State.writeAxCmd (s : State) (n : Nat) (value : Word) : State :=
  let owned := s.flag AxStat.owned n
  let bit (f : Fld) : Bool := f.of value == 1
  let s :=
    if bit AxCmd.abort then (s.abortStart 4 n).cmdStop n 2
    else if bit AxCmd.stop ∧ ¬owned then s.cmdStop n 1
    else if bit AxCmd.home ∧ ¬owned then s.startHoming n
    else s
  let s :=
    if bit AxCmd.clr ∧ ¬owned then
      let was := s.flag AxStat.safeStop n || s.flag AxStat.drvFault n
      let s := if s.stopInput n then s else s.put AxStat.safeStop n 0
      let s := if s.pins.axFltN.getD n true then s.put AxStat.drvFault n 0 else s
      if was ∧ ¬s.flag AxStat.safeStop n ∧ ¬s.flag AxStat.drvFault n ∧ s.flag AxCfg.en n then
        (s.mapAxis n (fun x => { x with stepFrom := s.ft + us 1000 })).driveAxis n |>.axState n
      else s.axState n
    else s
  s.evalGate

/-! ### Commands -/

/-- One LQ boundary of axis n (R383 to R390). -/
def execAxisLqUpdate (n : Fin 8) (s : State) : Ans := .next (s.axisLq n.val)

/-- A write of AX_TGT_HI commits the pair (R385, R386). -/
def State.writeAxTgtHi (s : State) (n : Nat) (value : Word) : State :=
  let s := s.storeWord .axTgtHi n value
  s.commitTarget n (signed 48 (s.get64 AxTgtLo.v AxTgtHi.v n)) false

def execAxTgtCommit (n : Fin 8) (value : Word) (s : State) : Ans := .next (s.writeAxTgtHi n.val value)

def execAxisEnable (n : Fin 8) (value : Word) (s : State) : Ans := .next ((s.writeAxCfg n.val value).evalGate)

/-- The axis has stood still for HOLD_DELAY (R384). -/
def execAxisHoldTimer (n : Fin 8) (s : State) : Ans :=
  .next (if s.flag AxCfg.en n.val ∧ (s.axis n.val).v = 0 ∧ s.get AxStat.hold n.val = 0 then (s.put AxStat.hold n.val 1).driveAxis n.val
    else s)

def execAxCmdStop (n : Fin 8) (value : Word) (s : State) : Ans := .next (s.writeAxCmd n.val value)

def execAxCmdAbort (n : Fin 8) (value : Word) (s : State) : Ans := .next (s.writeAxCmd n.val value)

def execAxCmdHome (n : Fin 8) (value : Word) (s : State) : Ans := .next (s.writeAxCmd n.val value)

/-- The levels of SAFE_IN_N and of AXn_FLT_N at the write come with the command (R392). DEDUCED (log 41). -/
def execAxCmdClr (n : Fin 8) (value : Word) (safeN : List Bool) (fltN : Bool) (s : State) : Ans :=
  .next (({ s with pins := { s.pins with
      safeInN := (List.range 4).map (fun k => safeN.getD k true), axFltN := s.pins.axFltN.set n.val fltN } }).writeAxCmd n.val value)

/-- SAFE_IN_N[k] goes low: every axis whose SAFE_MASK names it brakes at DEC_EMERG (Table 16-2). -/
def execSafeInputAssert (k : Fin 4) (s : State) : Ans :=
  let s := { s with pins := { s.pins with safeInN := s.pins.safeInN.set k.val false } }
  .next (((List.range 8).foldl (fun t n => if t.stopInput n then t.safetyStop n else t) s).evalGate)

/-- AXn_FLT_N goes low: steps stop, the outputs are safe, HOMED is lost (Table 16-2, R392). -/
def execDriverFault (n : Fin 8) (s : State) : Ans :=
  let s := { s with pins := { s.pins with axFltN := s.pins.axFltN.set n.val false } }
  let s := (s.put AxStat.drvFault n.val 1).put AxStat.homed n.val 0
  .next ((((s.haltAxis n.val).safeAxis n.val).abortEnd 4 n.val).evalGate)

/-- LIMP or LIMN is actuated (R391, R397). -/
def execAxLimit (n : Fin 8) (positive : Bool) (s : State) : Ans :=
  let s := { s with pins := (if positive then { s.pins with limP := s.pins.limP.set n.val false }
                             else { s.pins with limN := s.pins.limN.set n.val false }) }
  let x := s.axis n.val
  let towards : Bool := if positive then decide (0 < x.v) else decide (x.v < 0)
  let s := if s.flag AxCfg.limEn n.val then (s.record .axLimit n.val []).put AxStat.limSeen n.val 1 else s
  .next (match x.homing with
    | some (q, p, _) =>
      if q = (if positive then 4 else 3) then (if p = 1 then s.homeEdge n.val else s)
      else if s.flag AxCfg.limEn n.val ∧ towards then s.homeFail n.val
      else s
    | none =>
      if s.flag AxCfg.limEn n.val ∧ towards then
        ((((s.put AxStat.hardLimit n.val 1).put AxStat.homed n.val 0).haltAxis n.val).abortEnd 4 n.val).evalGate
      else s)

/-- The limit input reads high again (R391); the return pass of sequences 3 and 4 crosses its reference. DEDUCED (log 40). -/
def execLimitRelease (n : Fin 8) (positive : Bool) (s : State) : Ans :=
  let s := { s with pins := (if positive then { s.pins with limP := s.pins.limP.set n.val true }
                             else { s.pins with limN := s.pins.limN.set n.val true }) }
  let s := if s.pins.limP.getD n.val true ∧ s.pins.limN.getD n.val true then s.put AxStat.hardLimit n.val 0 else s
  .next ((match (s.axis n.val).homing with
    | some (q, 2, _) => if q = (if positive then 4 else 3) then s.homeEdge n.val else s
    | _ => s).evalGate)

/-- An edge of HOME: the approach of sequences 1, 2 and 5 looks for the edge to active, the return of 1 and 2 for the same edge
crossed the other way (R396). -/
def execHomeEdge (n : Fin 8) (active : Bool) (s : State) : Ans :=
  let s := { s with pins := { s.pins with home := s.pins.home.set n.val (active != s.flag AxCfg.homePol n.val) } }
  .next ((match (s.axis n.val).homing with
    | some (q, p, _) =>
      if (q = 1 ∨ q = 2) ∧ ((p = 1 ∧ active) ∨ (p = 2 ∧ ¬active)) then s.homeEdge n.val
      else if q = 5 ∧ p = 1 ∧ active then s.homeEdge n.val
      else s
    | none => s).evalGate)

end Sys2Proof.Machine
end

