-- ==== Sys2Proof/Machine/Isp.lean ====
section
/-!
DEFINITION. The context pipeline and the statistics of a camera frame (spec/14_inspection.md, R340, R342, R343, R350, R351, R363).
-/
namespace Sys2Proof.Machine

/-- A field of element `i` in a copy of the settings. -/
def setGet (tab : Tab Nat) (f : Fld) (i : Nat) : Nat := Tab.get (f.resetAt i) tab (f.key i)

/-- The settings of context c as a function of the field and the element within the context's array of `n`. -/
structure Settings where
  tab : Tab Nat
  ctx : Nat
  deriving DecidableEq, Repr

def Settings.get (g : Settings) (f : Fld) : Nat := setGet g.tab f g.ctx

def Settings.at_ (g : Settings) (f : Fld) (n i : Nat) : Nat := setGet g.tab f (n * g.ctx + i)

/-- One of two 16-bit values a word. -/
def Settings.half (g : Settings) (a b : Fld) (n i : Nat) : Nat := g.at_ (if i % 2 = 0 then a else b) n (i / 2)

abbrev Plane := List (List Nat)

def pixel (r : Plane) (x y : Nat) : Nat := (r.getD y []).getD x 0

def mapPlane (r : Plane) (f : Nat → Nat → Nat → Nat) : Plane :=
  r.mapIdx (fun y l => l.mapIdx (fun x v => f x y v))

def satU16 (v : Int) : Nat := if v < 0 then 0 else min v.toNat 65535

/-- CFA site: 0 R or mono, 1 Gr, 2 Gb, 3 B. -/
def cfaSite (cfa x y : Nat) : Nat :=
  let k := 2 * (y % 2) + x % 2
  match cfa with
  | 1 => [0, 1, 2, 3].getD k 0
  | 2 => [1, 0, 3, 2].getD k 0
  | 3 => [2, 3, 0, 1].getD k 0
  | 4 => [3, 2, 1, 0].getD k 0
  | _ => 0

/-- Stage 1. -/
def stageBlack (g : Settings) (r : Plane) : Plane :=
  let cfa := g.get IspMode.cfa
  mapPlane r (fun x y v => v - g.half IspBlack.b0 IspBlack.b1 2 (cfaSite cfa x y))

/-- The mean of a list, halves up. -/
def roundMean (l : List Nat) : Nat := if l = [] then 0 else (2 * l.foldl (fun a b => a + b) 0 + l.length) / (2 * l.length)

/-- The defect list: x and y. -/
def Settings.defects (g : Settings) : List (Nat × Nat) :=
  (List.range 1024).map (fun i => (g.at_ IspDefect.x 1024 i, g.at_ IspDefect.y 1024 i))

/-- Stage 2. -/
def stageDefect (g : Settings) (width : Nat) (r : Plane) : Plane :=
  if g.get IspMode.dpcEn = 0 then r
  else
    let d := if g.get IspMode.cfa = 0 then 1 else 2
    g.defects.foldl (fun out q =>
      let l := (if d ≤ q.1 then [pixel r (q.1 - d) q.2] else []) ++ (if q.1 + d < width then [pixel r (q.1 + d) q.2] else [])
      if l = [] then out
      else out.modify q.2 (fun line => line.set q.1 (roundMean l))) r

/-- Stage 3. -/
def stageFlat (g : Settings) (r : Plane) : Plane :=
  if g.get IspMode.ffEn = 0 then r
  else mapPlane r (fun x _ v => min 65535 ((v * g.half IspFlat.g0 IspFlat.g1 8192 x + 2 ^ 13) / 2 ^ 14))

/-- Colour of a site: 0 R, 1 G, 2 B. -/
def siteColour (site : Nat) : Nat := if site = 0 then 0 else if site = 3 then 2 else 1

/-- Stage 4, one colour: bilinear over the neighbours of that colour inside the frame. -/
def stageDemosaic (g : Settings) (width height k : Nat) (r : Plane) : Plane :=
  let cfa := g.get IspMode.cfa
  if cfa = 0 ∨ 5 ≤ cfa then r
  else mapPlane r (fun x y v =>
    if siteColour (cfaSite cfa x y) = k then v
    else
      roundMean ((List.range 9).filterMap (fun j =>
        let xx := x + j % 3
        let yy := y + j / 3
        if 1 ≤ xx ∧ xx ≤ width ∧ 1 ≤ yy ∧ yy ≤ height ∧ siteColour (cfaSite cfa (xx - 1) (yy - 1)) = k then
          some (pixel r (xx - 1) (yy - 1)) else none)))

/-- Stage 5: the channel's gain, then the global gain. -/
def balance (gain all v : Nat) : Nat :=
  let u := min 65535 ((v * gain + 2 ^ 11) / 2 ^ 12)
  min 65535 ((u * all + 2 ^ 11) / 2 ^ 12)

/-- A row of a matrix on R, G and B with its offset (stages 6 and 8). -/
def matrixRow (a b c ofs : Int) (r g v : Nat) : Nat := satU16 ((a * r + b * g + c * v + 2 ^ 11) / 2 ^ 12 + ofs)

/-- R, G and B of a pixel after stages 5 and 6. -/
def corrected (g : Settings) (rgb : Nat × Nat × Nat) : Nat × Nat × Nat :=
  let wb (i : Nat) : Nat := g.half IspWb.g0 IspWb.g1 2 i
  let r := balance (wb 0) (wb 3) rgb.1
  let gr := balance (wb 1) (wb 3) rgb.2.1
  let b := balance (wb 2) (wb 3) rgb.2.2
  let m (i : Nat) : Int := signed 16 (g.half IspCcm.c0 IspCcm.c1 6 i)
  let row (k : Nat) : Nat := matrixRow (m (3 * k)) (m (3 * k + 1)) (m (3 * k + 2)) (m (9 + k)) r gr b
  (row 0, row 1, row 2)

/-- R, G and B of a pixel after stage 7. -/
def toned (g : Settings) (rgb : Nat × Nat × Nat) : Nat × Nat × Nat :=
  let v := corrected g rgb
  let tone (k v : Nat) : Nat := g.at_ IspCurve.v 3072 (1024 * k + v / 64)
  (tone 0 v.1, tone 1 v.2.1, tone 2 v.2.2)

/-- An ink of a pixel after stage 8: 0 C to 3 K. -/
def inkOf (g : Settings) (rgb : Nat × Nat × Nat) (k : Nat) : Nat :=
  let m (i : Nat) : Int := signed 16 (g.half IspSep.c0 IspSep.c1 6 i)
  matrixRow (m (3 * k)) (m (3 * k + 1)) (m (3 * k + 2)) (signed 16 (g.half IspSepofs.c0 IspSepofs.c1 2 k)) rgb.1 rgb.2.1 rgb.2.2

/-- The frame through stages 1 to 4, then through `f`, as R, G and B. -/
def throughStages (f : Settings → Nat × Nat × Nat → Nat × Nat × Nat) (g : Settings) (width height : Nat) (rows : Plane) :
    List (List (Nat × Nat × Nat)) :=
  let p := stageFlat g (stageDefect g width (stageBlack g rows))
  let r := stageDemosaic g width height 0 p
  let gr := stageDemosaic g width height 1 p
  let b := stageDemosaic g width height 2 p
  r.mapIdx (fun y l => l.mapIdx (fun x v => f g (v, pixel gr x y, pixel b x y)))

/-- The frame through stages 1 to 7. -/
def pipeline (g : Settings) (width height : Nat) (rows : Plane) : List (List (Nat × Nat × Nat)) := throughStages toned g width height rows

/-- Means of R, G and B after stage 6 in the four patches of a photometric calibration (Table 21-1, kind 3). -/
def patchMeans (g : Settings) (width height : Nat) (rows : Plane) : List Nat :=
  let p := throughStages corrected g width height rows
  (List.range 4).flatMap (fun j =>
    let x0 := width * (2 * j + 1) / 8 - 32
    let px := ((p.drop (height / 2 - 32)).take 64).flatMap (fun l => (l.drop x0).take 64)
    [roundMean (px.map (fun v => v.1)), roundMean (px.map (fun v => v.2.1)), roundMean (px.map (fun v => v.2.2))])

/-- A channel by its code (R343): 0 R, 1 G, 2 B, 3 C, 4 M, 5 Y, 6 K; 7 acts as 1. -/
def channel (g : Settings) (code : Nat) (rgb : Nat × Nat × Nat) : Nat :=
  match code with
  | 0 => rgb.1
  | 2 => rgb.2.2
  | 3 => inkOf g rgb 0
  | 4 => inkOf g rgb 1
  | 5 => inkOf g rgb 2
  | 6 => inkOf g rgb 3
  | _ => rgb.2.1

/-- A frame as taken: lines padded or cut to the size, its flags (bit 0 SHORT, bit 1 LONG) and the lines taken (R334, R340). -/
def frameTaken (width height bits : Nat) (rows : Plane) : Plane × Nat × Nat :=
  let b := if 8 ≤ bits ∧ bits ≤ 16 then bits else 16
  let kept := rows.take height
  let short : Nat := if rows.length < height ∨ kept.any (fun l => decide (l.length < width)) then 1 else 0
  let long : Nat := if height < rows.length ∨ kept.any (fun l => decide (width < l.length)) then 2 else 0
  let px := kept.map (fun l => ((l ++ List.replicate (width - l.length) 0).take width).map (fun v => v % 2 ^ b * 2 ^ (16 - b)))
  (px, short + long, kept.length)

/-! ### Sharpness (R350, R351) -/

/-- The zone of a coordinate among eight; the last takes the remainder. -/
def zoneOf (size v : Nat) : Nat := if size / 8 = 0 then 7 else min 7 (v / (size / 8))

def sqDiff (a b : Int) : Nat := ((a - b) * (a - b)).toNat

/-- GE and LE of zone (zr, zc) over the 12-bit plane. -/
def zoneSums (v : Plane) (width height z : Nat) : Nat × Nat :=
  let inZone (x y : Nat) : Bool := zoneOf width x == z % 8 && zoneOf height y == z / 8
  let at_ (x y : Nat) : Int := (pixel v x y : Nat)
  (List.range height).foldl (fun a y => (List.range width).foldl (fun a x =>
    if ¬inZone x y then a
    else
      let right : Bool := decide (x + 1 < width) && inZone (x + 1) y
      let below : Bool := decide (y + 1 < height) && inZone x (y + 1)
      let left : Bool := decide (1 ≤ x) && inZone (x - 1) y
      let above : Bool := decide (1 ≤ y) && inZone x (y - 1)
      let ge := if right && below then satAdd 48 a.1 (sqDiff (at_ (x + 1) y) (at_ x y) + sqDiff (at_ x (y + 1)) (at_ x y)) else a.1
      let le := if right && below && left && above then
          satAdd 48 a.2 (sqDiff (4 * at_ x y) (at_ (x - 1) y + at_ (x + 1) y + at_ x (y - 1) + at_ x (y + 1))) else a.2
      (ge, le)) a) (0, 0)

/-- F over a zone mask; none where the sum of GE is 0. -/
def sharpFigure (zones : List (Nat × Nat)) (mask : Nat) : Option Nat :=
  let s := (List.range 64).foldl (fun a z => if mask / 2 ^ z % 2 = 1 then
      (a.1 + (zones.getD z (0, 0)).1, a.2 + (zones.getD z (0, 0)).2) else a) (0, 0)
  if s.1 = 0 then none else some (min 32767 (4096 * s.2 / s.1))

/-! ### Coverage density (R363) -/

/-- First band and the means of each band of 64 print columns that the frame covers wholly. -/
def densityBands (g : Settings) (width : Nat) (ink : Plane) : Nat × List Nat :=
  let c0 := g.get IspCol0.v
  let cs := g.get IspCscale.v
  let first := (c0 + 2 ^ 22 - 1) / 2 ^ 22
  let last := (c0 + width * cs) / 2 ^ 22
  (first, (List.range (last - first)).map (fun k =>
    let xs := (List.range width).filter (fun x => (c0 + x * cs) / 2 ^ 22 == first + k)
    let vals := ink.flatMap (fun l => xs.map (fun x => l.getD x 0))
    if vals = [] then 0 else vals.foldl (fun a b => a + b) 0 / vals.length))

end Sys2Proof.Machine
end

