-- ==== Sys2Proof/Machine/NetOps.lean ====
section
/-!
DEFINITION. Operations on the ring ports and the PTP clock that several blocks share (spec/19_ring_and_time.md).
-/
namespace Sys2Proof.Machine

def State.mapNet (s : State) (f : NetSt → NetSt) : State := { s with net := f s.net }

/-! ### Egress (R452, R453) -/

def State.portUp (s : State) (k : Nat) : Bool := if k = 0 then s.flag NetStat.eUp 0 else s.flag NetStat.wUp 0

/-- NET_CTRL.BLOCK names the port: 1 East, 2 West. -/
def State.blocked (s : State) (k : Nat) : Bool := s.get NetCtrl.block 0 == k + 1

/-- Time (2 ns units) that a frame of a length takes: 8 bytes of preamble and the gap of 12 bytes at 1 Gb/s. -/
def wireTime (len : Nat) : Nat := 4 * (max len 64 + 20)

/-- Frames wait in the order R453 starts them. -/
def insertFrame (f : EgressFrame) : List EgressFrame → List EgressFrame
  | [] => [f]
  | x :: xs => if f.prio < x.prio then f :: x :: xs else x :: insertFrame f xs

/-! PTP time in ns, and the launch instants of armed entries (R471). -/

def State.launchNs (s : State) (t : Nat) : Nat := (s.get64 TlSecLo.v TlSecHi.v t) * 1000000000 + s.get TlNs.v t

/-- From 12.976 µs before a launch, a port starts only frames that end before the launch (R472). -/
def State.guarded (s : State) (k len : Nat) : Bool :=
  (List.range 16).any (fun t =>
    let at_ := s.launchNs t
    s.get TlCtrl.state t == 1 && s.get TlCtrl.ports t / 2 ^ k % 2 == 1 && decide (s.ptp.ns ≤ at_ ∧ at_ ≤ s.ptp.ns + 12976)
      && decide (at_ < s.ptp.ns + 2 * wireTime len))

/-- An idle port starts the next frame that waits; timed launches have priority 0 (R453). -/
def State.startEgress (s : State) (k : Nat) : State :=
  match s.net.egress.getD k [] with
  | [] => s
  | f :: rest =>
    if s.net.busy.getD k 0 ≤ s.now ∧ (f.prio = 0 ∨ s.guarded k f.len = false) then
      { s with sent := f.out :: s.sent,
               net := { s.net with egress := s.net.egress.set k rest, busy := s.net.busy.set k (s.now + wireTime f.len) } }
    else s

/-- A frame goes out of a port: a BLOCKED port sends only RING frames (priority 1), a port that is down nothing; a full egress
buffer of 32 KiB discards it. -/
def State.egress (s : State) (k prio len : Nat) (o : Out) : State :=
  if ¬s.portUp k ∨ (s.blocked k ∧ prio ≠ 1) then s
  else
    let q := s.net.egress.getD k []
    let used := q.foldl (fun n f => n + f.len) 0
    if 32768 < used + len then s.count NetCntDrop.count NetCntDrop.ovf 0
    else ({ s with net := { s.net with egress := s.net.egress.set k (insertFrame ⟨prio, len, o⟩ q) } }).startEgress k

/-- A frame of Local origin leaves by both ports. -/
def State.sendLocal (s : State) (len kind : Nat) (args : List Nat) : State :=
  (s.egress 0 3 len (.ring 0 kind args)).egress 1 3 len (.ring 1 kind args)

/-! ### PTP time of an FT time (R474) -/

/-- A cross-stamp as 2^-16 ns. -/
def State.stampPtp (s : State) (prev : Bool) : Nat :=
  if prev then ((s.get64 PtpXs1SecLo.v PtpXs1SecHi.v 0) * 1000000000 + s.get PtpXs1Ns.v 0) * 65536 + s.get PtpXs1Frac.frac 0
  else ((s.get64 PtpXsSecLo.v PtpXsSecHi.v 0) * 1000000000 + s.get PtpXsNs.v 0) * 65536 + s.get PtpXsFrac.frac 0

/-- PTP time of FT time t in ns, from the newest pair at or before t. -/
def State.ptpNsOf (s : State) (t : Nat) : Nat :=
  let newest := decide (s.get64 PtpXsFtLo.v PtpXsFtHi.v 0 ≤ t)
  let f := if newest then s.get64 PtpXsFtLo.v PtpXsFtHi.v 0 else s.get64 PtpXs1FtLo.v PtpXs1FtHi.v 0
  (s.stampPtp (!newest) + (t - f) * s.ptp.rate.1 / s.ptp.rate.2) / 65536

/-- Seconds in [47:0], and nanoseconds. -/
def State.ptpOf (s : State) (t : Nat) : Nat × Nat :=
  (s.ptpNsOf t / 1000000000 % 2 ^ 48, s.ptpNsOf t % 1000000000)

/-! ### The speed advisory (R241, R464) -/

/-- Line rate of the FPE in lines per second. -/
def State.lineRate (s : State) : Nat := s.fpe.vel.toNat * 800000 / 2 ^ 24

/-- ADVISORY: its own SEQ, HOPS 64, ALLOWED, PRESENT, STATE, PTP time. -/
def State.advisory (s : State) : State :=
  let t := s.ptpOf s.ft
  let s := s.sendLocal 60 4 [s.net.advSeq, 64, s.get64 NetHostMacLo.v NetHostMacHi.v 0, s.get FpeAllowed.v 0, s.lineRate,
    s.get FpeStat.adv 0, t.1, t.2]
  { s with net := { s.net with advSeq := (s.net.advSeq + 1) % 65536 } }

end Sys2Proof.Machine
end

