-- ==== Sys2Proof/Machine/LaneOps.lean ====
section
/-!
DEFINITION. Operations on the serial lanes and their links (spec/05_serial_lanes.md).
-/
namespace Sys2Proof.Machine

def State.lane (s : State) (n : Nat) : Lane := Tab.get Lane.reset s.lanes n

def State.setLane (s : State) (n : Nat) (l : Lane) : State := { s with lanes := Tab.set Lane.reset s.lanes n l }

/-- The ring lanes 140 and 141 follow IEEE 802.3 in place of most of this chapter (R115). -/
def ringLane (n : Nat) : Bool := 140 ≤ n

/-- The lanes of the link that lane `n` belongs to (Table 05-1). -/
def linkLanes (n : Nat) : List Nat :=
  if n < 128 then [n] else if n < 136 then [128, 129, 130, 131, 132, 133, 134, 135]
  else if n < 140 then [136, 137, 138, 139] else [n]

/-- The number a link is listed under. -/
def linkOf (n : Nat) : Nat := if n < 128 then n else if n < 136 then 128 else if n < 140 then 136 else n

def linkId : Link → Nat
  | .head p => p.val
  | .dataPort => 128
  | .col => 136

/-- KIND of STATUS for a link (Table 05-3). -/
def linkKind (n : Nat) : Nat := if n < 128 then 0 else if n < 136 then 1 else 2

/-- One bit of the CRC-8 with polynomial 0x07. -/
def crc8Bit (c : Nat) : Nat := if 128 ≤ c then ((c * 2) ^^^ 0x07) % 256 else c * 2

def crc8Byte (c b : Nat) : Nat :=
  crc8Bit (crc8Bit (crc8Bit (crc8Bit (crc8Bit (crc8Bit (crc8Bit (crc8Bit ((c ^^^ b) % 256))))))))

/-- CRC-8, polynomial 0x07, initial value 0x00: CHK of TS and the CRC of an SMSG. -/
def crc8 (bs : List Nat) : Nat := bs.foldl crc8Byte 0

def State.isUp (s : State) (link : Nat) : Bool := s.linkUp.contains link

/-- R105: two lanes report one LANE, a LANE is out of range, or KIND does not match. -/
def State.linkMismatch (s : State) (n : Nat) : Bool :=
  let ls := (linkLanes n).filter (fun m => (s.lane m).statusSeen)
  ls.any (fun m => decide ((linkLanes n).length ≤ s.get LnStat.lane m) || s.get LnStat.kind m != linkKind n) ||
  ls.any (fun m => ls.any (fun k => k != m && s.get LnStat.lane m == s.get LnStat.lane k))

/-- R107: every lane locked and deskewed, far status good, LANE fields consistent, no lane in a test mode (R116). -/
def State.linkReady (s : State) (n : Nat) : Bool :=
  (linkLanes n).all (fun m => s.flag LnStat.lock m && s.flag LnStat.deskewed m && (s.lane m).statusSeen &&
    (s.lane m).farLock && (s.lane m).farDeskewed && s.get LnCtrl.test m % 3 == 0) && !s.linkMismatch n

/-- R120: at most one event of a code per lane and millisecond. DEDUCED (log 28). -/
def State.laneEvent (s : State) (n slot : Nat) (code : EvCode) : State :=
  let l := s.lane n
  let due := match l.lastEvent.getD slot none with
    | none => true
    | some t => decide (500000 ≤ s.now - t)
  if due then
    (s.setLane n { l with lastEvent := l.lastEvent.set slot (some s.now) }).record code n []
  else s

/-- The counters of LN_ERRCNT share its OVF flag. -/
def State.laneCount (s : State) (n : Nat) (c : Fld) (k : Nat) : State := s.countBy c LnErrcnt.ovf n k

/-- A lane loses its lock: a frame in progress is delivered marked ERROR (R109). -/
def State.dropLock (s : State) (n : Nat) : State :=
  let l := s.lane n
  (((s.put LnStat.lock n 0).put LnStat.deskewed n 0).put LnStat.farLock n 0).setLane n
    { l with frameError := true, statusSeen := false, farLock := false, farDeskewed := false }

/-- DESKEWED of every lane of a link: all locked with offsets within 32 symbol times (R106); on a single-lane link it equals
LOCK. -/
def State.deskew (s : State) (n : Nat) : State :=
  let ls := linkLanes n
  let offs := ls.map (fun m => (s.lane m).offset)
  let locked := ls.all (fun m => s.flag LnStat.lock m)
  let known := offs.all (fun o => o.isSome)
  let vals : List Nat := offs.map (fun o => o.getD 0)
  let ok := locked && (ls.length == 1 || (known && decide (vals.foldl Nat.max 0 - vals.foldl Nat.min (vals.headD 0) ≤ 32)))
  ls.foldl (fun t m => t.put LnStat.deskewed m (if ok then 1 else 0)) s

end Sys2Proof.Machine
end

