-- ==== Sys2Proof/Machine/PageOps.lean ====
section
/-!
DEFINITION. Operations on the pages held, on table generations and on the band ring that several blocks share.
-/
namespace Sys2Proof.Machine

/-! ### Generations (spec/08_screening.md R184, spec/09_nozzle_map_and_fetch.md R193) -/

/-- A field of a generation's tables. -/
def TableGen.get (g : TableGen) (f : Fld) (i : Nat) : Nat := Tab.get (f.resetAt i) g.tab (f.key i)

/-- The tables at their reset values: generation 0. DESIGN CHOICE (log 1). -/
def TableGen.zero : TableGen := ⟨0, []⟩

def genFind (gs : List TableGen) (n : Nat) : TableGen := (gs.find? (fun g => g.num == n)).getD TableGen.zero

def State.ctbGen (s : State) (n : Nat) : TableGen := genFind s.scr.ctbGens n

def State.nmGen (s : State) (n : Nat) : TableGen := genFind s.scr.nmGens n

/-- The newest committed generations. -/
def State.ctbNewest (s : State) : TableGen := s.scr.ctbGens.headD TableGen.zero

def State.nmNewest (s : State) : TableGen := s.scr.nmGens.headD TableGen.zero

/-- Registers named by `p` as a generation copies them. -/
def copyRegs (p : List Reg) (t : Tab Nat) : Tab Nat := t.filter (fun e => p.any (fun r => r.ctorIdx == e.1 / 32 % 512))

/-- DEPTH of the band ring in lines (BR_CFG). -/
def State.depth (s : State) : Nat :=
  let d := s.inForce BrCfg.depth256 0
  256 * (if 1 ≤ d ∧ d ≤ 64 then d else 64)

/-- Print lines per inch (R216). -/
def State.resLpi (s : State) : Nat := 600 * (s.inForce FpeCtrl.res 0 + 1)

/-! ### Pages -/

def PageRecord.start : PageRecord :=
  { status := 0, reason := 0, flags := 0, spoilLine := none, lateFirst := none, lateLast := none, screeCount := 0,
    startPu := 0, ptpSec := 0, ptpNs := 0 }

/-- A flag of the completion record (Table 06-6). -/
def PageRecord.flag (r : PageRecord) (bit : Nat) : PageRecord :=
  if r.flags / 2 ^ bit % 2 = 1 then r else { r with flags := r.flags + 2 ^ bit }

/-- SPOILED from a page line on, with the reason that belongs to the first spoiled line. -/
def PageRecord.spoil (r : PageRecord) (line reason : Nat) : PageRecord :=
  match r.status, r.spoilLine with
  | 0, _ => { r with status := 1, reason := reason, spoilLine := some line }
  | 1, some l => if line < l then { r with reason := reason, spoilLine := some line } else r
  | _, _ => r

def State.page (s : State) (pseq : Nat) : Option Page := s.pages.find? (fun p => p.pseq == pseq)

/-- Change one page. -/
def State.mapPage (s : State) (pseq : Nat) (f : Page → Page) : State :=
  { s with pages := s.pages.map (fun p => if p.pseq == pseq then f p else p) }

def Page.spoil (p : Page) (line reason : Nat) : Page := { p with record := p.record.spoil line reason }

def Page.setFlag (p : Page) (bit : Nat) : Page := { p with record := p.record.flag bit }

/-- A page ends in its place in the sequence with a STATUS and REASON (R130, R133, R147, R545, R512). -/
def Page.close (p : Page) (status reason : Nat) : Page :=
  { p with closed := true, refetch := none, waitFrom := none,
           record := { p.record with status := status, reason := reason } }

def Page.stripe (p : Page) (i : Nat) : Option Stripe := p.stripes.find? (fun t => t.idx == i)

def Page.mapStripe (p : Page) (i : Nat) (f : Stripe → Stripe) : Page :=
  { p with stripes := p.stripes.map (fun t => if t.idx == i then f t else t) }

def Stripe.fresh (i : Nat) : Stripe :=
  { idx := i, data := [], clen := 0, lines := 0, stored := false, verified := false, retries := 0, filled := false,
    lost := false, partner := none, assigned := false }

/-- The stripe, made if it is not listed. -/
def Page.withStripe (p : Page) (i : Nat) (f : Stripe → Stripe) : Page :=
  match p.stripe i with
  | some _ => p.mapStripe i f
  | none => { p with stripes := p.stripes ++ [f (Stripe.fresh i)] }

/-- Print lines per input line (Table 06-4); 0 where the ratio is not a whole number. -/
def linesPerInput (res format : Nat) : Nat :=
  if format = 0 ∨ format = 2 then res / 600
  else if format = 1 ∨ format = 3 then (if res % 1200 = 0 then res / 1200 else 0)
  else 1

def State.ratio (s : State) (p : Page) : Nat := linesPerInput s.resLpi p.desc.format

def Desc.contone (d : Desc) : Bool := d.format ≤ 3

/-- Input bits per pixel (Table 06-4). -/
def Desc.bits (d : Desc) : Nat := if d.format ≤ 3 then 8 else if d.format = 4 then 1 else if d.format = 5 then 2 else 4

/-- Input pixels per line: half-resolution formats carry one pixel for two columns. -/
def Desc.pixels (d : Desc) : Nat := if d.format ≤ 1 then (d.widthM1 + 1) / 2 else d.widthM1 + 1

/-- Bytes per input line. -/
def Desc.lb (d : Desc) : Nat := (d.pixels * d.bits + 7) / 8

def Desc.flag (d : Desc) (bit : Nat) : Bool := d.flags / 2 ^ bit % 2 == 1

def Desc.stream (d : Desc) : Bool := d.flag 0

/-- Input lines that stripe `i` of a page must hold: 256, or what is left of LENGTH. -/
def Desc.stripeLines (d : Desc) (i : Nat) : Nat := if d.length = 0 then 256 else min 256 (d.length - 256 * i)

/-- Input lines of the page as far as they are known. -/
def Page.inputLines (p : Page) : Nat :=
  if p.desc.length ≠ 0 then p.desc.length
  else p.stripes.foldl (fun n t => if t.stored then max n (256 * t.idx + t.lines) else n) 0

/-- Stripes of the page that are not there and intact. -/
def Page.complete (p : Page) : Bool :=
  match p.total with
  | none => false
  | some n => (List.range n).all (fun i => match p.stripe i with
    | some t => t.stored && !t.lost
    | none => false)

/-- Every stripe has passed its verification (R133). -/
def Page.allVerified (p : Page) : Bool :=
  match p.total with
  | none => false
  | some n => (List.range n).all (fun i => match p.stripe i with
    | some t => t.stored && t.verified && !t.lost
    | none => false)

/-- No stripe of the page is lost (R145). -/
def Page.intact (p : Page) : Bool := p.stripes.all (fun t => !t.lost)

/-- 64 KiB blocks that the page's stripes fill (eight chunks of 8,192 bytes to a block). -/
def Page.blocks (p : Page) : Nat :=
  p.stripes.foldl (fun n t => n + (t.data.length + 65535) / 65536) 0

/-- Blocks of the page store: DRAM less the band ring and 1 GiB (spec/06_page_ingest.md, Page store); none before training. -/
def State.storeBlocks (s : State) : Nat :=
  if s.get McStat.state 0 ≤ 1 then 0
  else (64 * 2 ^ s.get McCfg.cap 0 * 1024 - s.depth / 32 - 1024) * 16

def State.freeBlocks (s : State) : Nat := s.storeBlocks - s.pages.foldl (fun n p => n + p.blocks) 0

def State.pgNext (s : State) : Nat := s.get64 PgNextLo.v PgNextHi.v 0

def State.setPgNext (s : State) (v : Nat) : State := s.put64 PgNextLo.v PgNextHi.v 0 v

/-! ### Row delays and the writer's reach -/

/-- Rows of a head (R225: up to 32 per port). -/
def rowIndex (port row : Nat) : Nat := 32 * port + row

/-- The integer row delay of a row in a generation, in lines. -/
def TableGen.rowDelay (g : TableGen) (port row : Nat) : Nat := g.get GeoStage.di (rowIndex port row)

/-- The largest row delay of a generation. -/
def TableGen.maxDelay (g : TableGen) : Nat :=
  g.tab.foldl (fun m e =>
    if e.1 / 32 % 512 = Reg.geoStage.ctorIdx ∧ e.1 % 32 = GeoStage.di.lo then max m e.2 else m) 0

/-- Every frame of the lines below this web line has been assembled, or its line is skipped. -/
def State.assembledTo (s : State) : Nat :=
  s.fpe.dueLog.foldl (fun m e =>
    if Tab.find s.fpe.decisions e.1 ≠ some .skip ∧ Tab.get 0 s.ff.next e.2 ≤ e.1 then min m e.1 else m) s.fpe.decided

/-- The lowest band-ring line that a frame not yet assembled may read, plus DEPTH: the writer may begin every line below it
(R547; the delays are those of the generation last scheduled). DEDUCED (log 31). -/
def State.writerReach (s : State) : Nat :=
  s.assembledTo - (s.nmGen (s.get NmGenCur.v 0)).maxDelay + s.depth

/-- L_prev + 1 (R232): behind the page placed last, or behind HWM where none has been placed since the last L2 or deeper reset. -/
def State.prevEnd (s : State) : Nat :=
  match s.scr.placed, s.fpe.hwm with
  | some e, _ => e
  | none, some h => h + 1
  | none, none => 0

/-- F of a START_MODE 1 page for an edge latched at X, in PU (Table 10-2). -/
def State.tofLine (s : State) (sel : Nat) (x : Int) : Int := -((-(x + ((s.get FpeTofOfs.v sel : Nat) : Int))) / 256)

/-- The first page not yet scheduled and not closed. -/
def State.nextPage (s : State) : Option Page := s.pages.find? (fun p => !p.scheduled && !p.closed)

/-- A page becomes admitted (R133, R134); N_adm is fixed here (R547). DEDUCED (log 31). -/
def State.admitPage (s : State) (pseq : Nat) : State :=
  s.mapPage pseq (fun p =>
    if p.admitted ∨ p.closed then p
    else { p with admitted := true, admittedLine := s.writerReach, admittedAt := s.now })

/-- A STREAM page is admitted when its descriptor is stored, a VERIFY page when every stripe has passed; a lost page when its
lost stripes are stored again (R133, R134, R145). -/
def State.tryAdmit (s : State) (pseq : Nat) : State :=
  match s.page pseq with
  | none => s
  | some p =>
    if p.intact ∧ (p.desc.stream = true ∨ p.allVerified = true) then s.admitPage pseq else s

/-- The page that holds a band-ring line, and the page line. -/
def State.pageOfLine (s : State) (line : Nat) : Option (Page × Nat) :=
  match s.pages.find? (fun p => p.scheduled && !p.closed && decide (p.first ≤ line) && decide (line < p.first + p.lines)) with
  | some p => some (p, line - p.first)
  | none => none

/-! ### Trailers (R354) -/

/-- Lines of a trailer. -/
def Trailer.lines (t : Trailer) : Nat := 768 * t.sets.length + (if t.marks then 128 else 0)

/-- The trailer that holds a band-ring line, and its line in it. -/
def State.trailerOfLine (s : State) (line : Nat) : Option (Trailer × Nat) :=
  match s.ins.trailers.find? (fun t => decide (t.first ≤ line) && decide (line < t.first + t.lines)) with
  | some t => some (t, line - t.first)
  | none => none

/-- The plan of a column group after ABSORB, which turns P2R into P2 (R239). -/
def Page.planOf (p : Page) (g : Nat) : Nat :=
  let v := p.desc.plan.getD g 0
  if p.absorbed ∧ v = 2 then 1 else v

/-- Column groups inside the page width. -/
def Page.groups (p : Page) : List Nat :=
  let a := p.desc.firstCol / 64
  let b := (p.desc.firstCol + p.desc.widthM1) / 64
  (List.range (b + 1 - a)).map (fun k => a + k)

/-- Owner of a print line (Table 08-3). -/
def ownerOf (plan y : Nat) : Nat := if (plan = 1 ∨ plan = 3) ∧ y % 2 = 1 then 1 else 0

/-- The substitute of an owner (Table 08-3). -/
def substOf (plan owner : Nat) : Option Nat :=
  if plan = 2 then some 1 else if plan = 3 then some (owner + 2) else none

/-- Coverage sets that a plan uses. -/
def planSets (plan : Nat) : List Nat := if plan = 0 then [0] else if plan = 3 then [0, 1, 2, 3] else [0, 1]

/-- Coverage sets that any group of the page uses, in ascending order. -/
def Page.sets (p : Page) : List Nat :=
  [0, 1, 2, 3].filter (fun c => p.groups.any (fun g => (planSets (p.planOf g)).contains c))

/-- The trailer of a page whose last band-ring line is known (R354). -/
def State.makeTrailer (s : State) (p : Page) : State :=
  if (p.desc.flag 2 ∨ p.desc.flag 3) ∧ ¬s.ins.trailers.any (fun t => t.pseq == p.pseq) then
    let t : Trailer := { pseq := p.pseq, first := p.first + p.lines + s.get InsTrl.gap 0,
                         sets := if p.desc.flag 2 then p.sets else [], marks := p.desc.flag 3,
                         firstCol := p.desc.firstCol, width := p.desc.widthM1 + 1, fired := [] }
    { s with ins := { s.ins with trailers := s.ins.trailers ++ [t] } }
  else s

/-- One more than the last band-ring line of a page, its trailer included. -/
def State.pageEnd (s : State) (p : Page) : Nat :=
  match s.ins.trailers.find? (fun t => t.pseq == p.pseq) with
  | some t => t.first + t.lines
  | none => p.first + p.lines

/-! ### Decodes -/

/-- Every decode of a page's stripes stops (R167); a stopped decode raises no event. -/
def State.stopDecodes (s : State) (pseq : Nat) : State :=
  let idle := (List.range 8).filter (fun e => match s.codec.engines.getD e none with
    | some j => j.pseq == pseq
    | none => false)
  let s := idle.foldl (fun t e => (t.put DcxStat.state e 0).put DcxStat.stripe e 0) s
  { s with codec := { s.codec with
      engines := s.codec.engines.map (fun j => match j with
        | some j => if j.pseq = pseq then none else some j
        | none => none),
      decoded := s.codec.decoded.filter (fun d => d.pseq != pseq) } }

/-- Queue a job for a compressor (R170): behind the jobs of its owner and of the owners before it; the request waits where 15
already do. -/
def insertJob (j : CmxJob) : List CmxJob → List CmxJob
  | [] => [j]
  | x :: xs => if j.owner < x.owner then j :: x :: xs else x :: insertJob j xs

def State.queueCmx (s : State) (j : CmxJob) : State :=
  let s := { s with codec := { s.codec with waiting := insertJob j s.codec.waiting } }
  let n := min 15 s.codec.waiting.length
  (s.put CmxStat.queued 0 n).put CmxStat.queued 1 n

/-! ### The col link -/

/-- What TW_CNT_RXERR counts (R430). DEDUCED (log 55). -/
def State.colError (s : State) : State := s.count TwCntRxerr.count TwCntRxerr.ovf 0

/-- A col-link frame is taken when the PCS delivers it whole, its CRC holds and its SEQ is one more than the last of its TYPE;
a gap in CAIRN, JOURNAL or FILL_DATA makes the receiver unfit (RESYNC, R430). DEDUCED (log 55). -/
def State.colAccept (s : State) (typ seq : Nat) (rx : Rx) : Bool × State :=
  if s.solo then (false, s)
  else if rx.error ∨ ¬rx.crcOk then (false, s.colError)
  else
    let t := { s with twin := { s.twin with rxSeq := Tab.insert typ seq s.twin.rxSeq } }
    match Tab.find s.twin.rxSeq typ with
    | none => (true, t)
    | some q =>
      if seq = (q + 1) % 2 ^ 32 then (true, t)
      else
        let u := t.colError
        (false, if typ = 4 ∨ typ = 5 ∨ typ = 0x0C then u.setUnfit unfitResync true else u)

end Sys2Proof.Machine
end

