-- ==== Sys2Proof/Machine/CalOps.lean ====
section
/-!
DEFINITION. A calibration in progress: its precondition, what ends it, and what edges and frames bring to it
(spec/21_calibration.md, R494 and R496).
-/
namespace Sys2Proof.Machine

def calIdle : Nat := 0
def calMeasure : Nat := 1
def calWaitRef : Nat := 2
def calWaitHost : Nat := 3

def State.calState (s : State) : Nat := s.get CalStat.state 0

/-- What R494 asks of a kind's source. -/
def State.calReady (s : State) (kind inst code : Nat) : Bool :=
  match kind with
  | 0 => decide (inst % 16 < 12) && decide (inst / 16 < 12) && s.get FpeStat.mode 0 == 1
  | 1 => true
  | 2 => decide (inst < 16) && s.get LmpCfg.type inst == 0 &&
      (match s.light.lamps.getD inst Lamp.reset with
       | l => l.engine.isNone && l.activity.isNone)
  | 3 => decide (inst < 8) && s.flag CamCfg.en (inst / 2)
  | 4 => decide (inst < 128) && decide (1 ≤ code) && s.get HpStat.state inst == 4
  | _ => false

/-- The run ends and nothing is kept of run 1. -/
def State.calEnd (s : State) : State :=
  { s with cal := { s.cal with first := none, raw := [], edge := none, change := none } }.put CalStat.state 0 calIdle

/-- R496: a run is abandoned. -/
def State.calAbandon (s : State) : State :=
  if s.calState = calIdle ∧ s.cal.first.isNone then s
  else ((s.calEnd).put CalStat.abandoned 0 1).record .calAbandon s.cal.kind []

/-- The measurement source has left its precondition. -/
def State.calWatch (s : State) : State :=
  if s.calState ≠ calIdle ∧ s.calReady s.cal.kind s.cal.inst s.cal.code = false then s.calAbandon else s

/-- A latched edge in kind 0: source A's count at the first edge of the first input, and the change up to the first edge of the
second that follows. -/
def State.calEdge (s : State) (m count : Nat) : State :=
  if s.calState ≠ calMeasure ∨ s.cal.kind ≠ 0 then s
  else match s.cal.edge, s.cal.change with
    | none, _ => if m = s.cal.inst % 16 then { s with cal := { s.cal with edge := some (signed 64 count) } } else s
    | some e, none =>
      if m = s.cal.inst / 16 then { s with cal := { s.cal with change := some (signed 64 (unsign 64 (signed 64 count - e))) } } else s
    | some _, some _ => s

end Sys2Proof.Machine
end

