-- ==== Sys2Proof/Machine/Lanes.lean ====
section
/-!
DEFINITION. Serial lanes (spec/05_serial_lanes.md). LINK_UP and LINK_DOWN stand with the head ports (Head.lean).
-/
namespace Sys2Proof.Machine

/-- What a lane sends of its ordered sets: 1 TS, 2 SKP, 3 SLP, 4 LMK. -/
def State.sendLane (s : State) (n kind : Nat) : State := s.send (.lane n kind)

/-! ### Sleep and wake (R110 to R113) -/

/-- One transmitter goes to sleep, or does so after its wake sequence (R113). -/
def State.sleepLane (s : State) (n : Nat) : State :=
  let l := s.lane n
  match l.tx with
  | .training | .traffic =>
    ((s.sendLane n 3).put LnStat.txAsleep n 1).setLane n { l with tx := .asleep, idleAt := s.now, wakeDue := false }
  | .waking => s.setLane n { l with sleepDue := true }
  | .off | .asleep | .prbs => s

/-- A sleep request acts on every lane of the link. -/
def State.requestSleep (s : State) (n : Nat) : State := (linkLanes n).foldl (fun t m => t.sleepLane m) s

/-- A transmitter starts the wake sequence: TS for 1 microsecond, then IDL (R112). -/
def State.wakeLane (s : State) (n : Nat) : State :=
  let l := s.lane n
  ((s.put LnStat.txAsleep n 0).setLane n { l with tx := .waking, wakeDue := false }).sendLane n 1

/-- A wake request is carried out once 0.5 microseconds of electrical idle have passed (R113). -/
def State.wakeOrWait (s : State) (n : Nat) : State :=
  let l := s.lane n
  match l.tx with
  | .asleep => if s.now - l.idleAt < 250 then s.setLane n { l with wakeDue := true } else s.wakeLane n
  | .waking => s.setLane n { l with sleepDue := false }
  | .off | .training | .traffic | .prbs => s

def State.requestWake (s : State) (n : Nat) : State := (linkLanes n).foldl (fun t m => t.wakeOrWait m) s

/-! ### What a receiver takes from STATUS (Table 05-3, R105 to R107) -/

/-- A deskew alignment is taken; one that disagrees with the alignment held is counted and recorded (R106). -/
def State.align (s : State) (n offset : Nat) : State :=
  let l := s.lane n
  let differs : Bool := s.flag LnStat.deskewed n && (linkLanes n).length != 1 && l.offset.isSome && l.offset != some offset
  let s := s.setLane n { l with offset := some offset, frameError := l.frameError || differs }
  if differs then (s.laneCount n LnErrcnt.dsk 1).laneEvent n 2 .lnDeskew else s

/-- A STATUS is taken for lane assembly and far status. -/
def State.takeStatus (s : State) (n status : Nat) : State :=
  let l := s.lane n
  let far := status / 32 % 2 == 1
  let desk := status / 64 % 2 == 1
  let s := ((s.put LnStat.lane n (status % 8)).put LnStat.kind n (status / 8 % 4)).put LnStat.farLock n
    (if far && desk then 1 else 0)
  let s := s.setLane n { l with statusSeen := true, farLock := far, farDeskewed := desk }
  if s.linkMismatch n then (s.put LnStat.laneMismatch n 1).laneEvent n 3 .lnMismatch else s

/-! ### Commands -/

def execLaneLockAcquire (n : Fin 142) (s : State) : Ans :=
  let l := s.lane n.val
  .next (if s.flag LnStat.lock n.val then s
    else (((s.put LnStat.lock n.val 1).put LnStat.rxAsleep n.val 0).setLane n.val { l with frameError := false }).deskew n.val)

def execLaneLockLoss (n : Fin 142) (cv : Nat) (s : State) : Ans :=
  .next (if ¬s.flag LnStat.lock n.val then s
    else
      let s' := if s.flag LnStat.rxAsleep n.val then s
        else ((s.laneCount n.val LnErrcnt.cv cv).laneCount n.val LnErrcnt.lol 1).laneEvent n.val 0 .lnLol
      (s'.dropLock n.val).deskew n.val)

def execTsReceive (n : Fin 140) (status seq chk offset : Nat) (s : State) : Ans :=
  .next (if ¬s.flag LnStat.lock n.val then s
    else if crc8 [status, seq] ≠ chk then s.laneCount n.val LnErrcnt.cv 1
    else ((s.align n.val offset).takeStatus n.val status).deskew n.val)

def execTsComplete (n : Fin 140) (s : State) : Ans :=
  let l := s.lane n.val
  .next (if l.tx = .training ∧ s.flag LnStat.lock n.val ∧ s.flag LnStat.deskewed n.val ∧ l.farLock ∧ l.farDeskewed
    then s.setLane n.val { l with tx := .traffic } else s)

/-- SKP, and after every fourth an LMK with the next SEQ (R97). -/
def execSkpSend (n : Fin 140) (s : State) : Ans :=
  let l := s.lane n.val
  .next (match l.tx with
  | .training | .traffic | .waking =>
    let s := s.sendLane n.val 2
    if l.skps = 3 then (s.sendLane n.val 4).setLane n.val { l with skps := 0, seq := (l.seq + 1) % 256 }
    else s.setLane n.val { l with skps := l.skps + 1 }
  | .off | .asleep | .prbs => s)

/-- The decision of R100 by fill: 0 none, 1 insert, 2 delete. -/
def skpRule (fill : Nat) : Nat := if fill < 8 then 1 else if 8 < fill then 2 else 0

def State.skpApply (s : State) (n fill d : Nat) : State :=
  if d = 1 then (s.bump LnSkpcnt.ins n).put LnStat.ebFill n (fill + 1)
  else if d = 2 then (s.bump LnSkpcnt.del n).put LnStat.ebFill n (fill - 1)
  else s.put LnStat.ebFill n fill

/-- On a multi-lane link logical lane 0 decides for every lane (R100). -/
def execSkpReceive (n : Fin 140) (k fill : Nat) (s : State) : Ans :=
  .next (if k < 1 ∨ 5 < k ∨ ¬s.flag LnStat.lock n.val then s
    else if (linkLanes n.val).length = 1 ∨ s.get LnStat.lane n.val = 0 then
      let d := skpRule fill
      let s := (linkLanes n.val).foldl (fun t m => t.setLane m { t.lane m with skpDecision := d }) s
      s.skpApply n.val fill d
    else s.skpApply n.val fill (s.lane n.val).skpDecision)

def execElasticBufferError (n : Fin 140) (s : State) : Ans :=
  .next ((((s.put LnStat.ebErr n.val 1).put LnStat.ebFill n.val 8).setLane n.val
    { s.lane n.val with frameError := true }).laneEvent n.val 4 .lnEb)

def execLmkReceive (n : Fin 140) (status offset : Nat) (s : State) : Ans :=
  .next (if ¬s.flag LnStat.lock n.val then s else ((s.align n.val offset).takeStatus n.val status).deskew n.val)

/-- On a head lane only R286 asks for sleep; the ring lanes never sleep (R115, R286). DEDUCED (log 27). -/
def execTxSleepRequest (n : Fin 142) (s : State) : Ans :=
  .next (if ringLane n.val then s
    else if n.val < 128 then
      (if (Tab.get Port.reset s.ports n.val).sleepReq then (s.put LnCtrl.txSleep n.val 1).requestSleep n.val else s)
    else (s.put LnCtrl.txSleep n.val 1).requestSleep n.val)

def execSlpReceive (n : Fin 140) (s : State) : Ans :=
  .next (if s.flag LnStat.lock n.val then s.put LnStat.rxAsleep n.val 1 else s)

def execTxWakeRequest (n : Fin 142) (s : State) : Ans :=
  .next (if ringLane n.val then s
    else if n.val < 128 ∧ (Tab.get Port.reset s.ports n.val).sleepReq then s
    else (s.put LnCtrl.txSleep n.val 0).requestWake n.val)

def execWakeSequenceEnd (n : Fin 140) (s : State) : Ans :=
  let l := s.lane n.val
  .next (if l.tx = .waking then
      let s := s.setLane n.val { l with tx := .traffic, sleepDue := false }
      if l.sleepDue then s.sleepLane n.val else s
    else s)

def execIdleMinimumExpiry (n : Fin 140) (s : State) : Ans :=
  let l := s.lane n.val
  .next (if l.tx = .asleep ∧ l.wakeDue then s.wakeLane n.val else s)

/-- The receiver stays asleep and counts nothing (R114). -/
def execRxWakeTimeout (n : Fin 140) (s : State) : Ans :=
  .next (if s.flag LnStat.rxAsleep n.val then s.put LnStat.lock n.val 0 else s)

/-- Electrical idle without SLP while the receiver holds lock (R114); not on the ring lanes (R115). -/
def execLnLos (n : Fin 142) (s : State) : Ans :=
  .next (if ringLane n.val ∨ ¬s.flag LnStat.lock n.val ∨ s.flag LnStat.rxAsleep n.val then s
    else ((((s.put LnStat.los n.val 1).laneCount n.val LnErrcnt.lol 1).laneEvent n.val 1 .lnLos).dropLock n.val).deskew n.val)

/-- TEST 1 sends SLP and then PRBS31; 2 loops back with the balls idle; 0 (and 3) leaves through the wake sequence (R116,
R117). -/
def execLaneTestModeSet (n : Fin 142) (test : Fin 4) (s : State) : Ans :=
  let l := s.lane n.val
  let was := s.get LnCtrl.test n.val % 3
  let s := s.put LnCtrl.test n.val test.val
  .next (match test.val % 3 with
  | 1 => ((s.sendLane n.val 3).put LnStat.prbsSync n.val 0).setLane n.val { l with tx := .prbs, statusSeen := false }
  | 2 => (s.put LnStat.prbsSync n.val 0).setLane n.val { l with tx := .off, statusSeen := false }
  | _ => if was = 0 then s else ((s.put LnStat.prbsSync n.val 0).wakeLane n.val))

def execPrbsSyncChange (n : Fin 142) (sync : Bool) (errors : Nat) (s : State) : Ans :=
  .next (if s.get LnCtrl.test n.val = 1 then
      let s' := if s.flag LnStat.prbsSync n.val then s.countBy LnPrbs.errbits LnPrbs.ovf n.val errors else s
      s'.put LnStat.prbsSync n.val (if sync then 1 else 0)
    else s)

/-- Every counter of the lane and every OVF flag (R119). -/
def execLnCntClr (n : Fin 142) (s : State) : Ans :=
  .next ([LnErrcnt.cv, LnErrcnt.lol, LnErrcnt.dsk, LnErrcnt.smsg, LnErrcnt.ovf, LnSkpcnt.ins, LnSkpcnt.del, LnPrbs.errbits,
    LnPrbs.ovf, LnMarginErr.mismatch, LnMarginErr.ovf].foldl (fun t f => t.put f n.val 0) s)

/-- GO starts a dwell unless one is busy (R118). -/
def execMarginGo (n : Fin 142) (value : Word) (s : State) : Ans :=
  let s := ((s.put LnMargin.phase n.val (LnMargin.phase.of value)).put LnMargin.vofs n.val (LnMargin.vofs.of value)).put
    LnMargin.dwell n.val (LnMargin.dwell.of value)
  let s := if LnMargin.done.of value = 1 then s.put LnMargin.done n.val 0 else s
  .next (if LnMargin.go.of value = 1 ∧ ¬s.flag LnMargin.busy n.val then
      ((s.put LnMargin.busy n.val 1).put LnMarginErr.mismatch n.val 0).put LnMarginErr.ovf n.val 0
    else s)

def execMarginDwellDone (n : Fin 142) (mismatch : Nat) (s : State) : Ans :=
  .next (if s.flag LnMargin.busy n.val then
      ((s.countBy LnMarginErr.mismatch LnMarginErr.ovf n.val mismatch).put LnMargin.busy n.val 0).put LnMargin.done n.val 1
    else s)

end Sys2Proof.Machine
end

