-- ==== Sys2Proof/Machine/MaintOps.lean ====
section
/-!
DEFINITION. Running maintenance activities: what they own, their abort sequences and their end (spec/16_motion_and_maintenance.md,
R398 to R402). Activity a has its registers at index a - 1.
-/
namespace Sys2Proof.Machine

def State.act (s : State) (a : Nat) : Option Activity := s.mot.acts.find? (fun (x : Activity) => x.num == a)

def State.setAct (s : State) (x : Activity) : State :=
  { s with mot := { s.mot with acts := s.mot.acts.map (fun (y : Activity) => if y.num = x.num then x else y) } }

/-- The axes, and the lamp strings, that an activity declares. -/
def State.actAxes (s : State) (a : Nat) : List Nat := (List.range 8).filter (fun n => s.get MntAct.axes (a - 1) / 2 ^ n % 2 == 1)
def State.actLamps (s : State) (a : Nat) : List Nat := (List.range 16).filter (fun n => s.get MntActLamp.v (a - 1) / 2 ^ n % 2 == 1)

/-- The axes an activity owns now, which are those it declared when it started. -/
def State.ownedBy (s : State) (a : Nat) : List Nat := (List.range 8).filter (fun n => s.flag AxStat.owned n && s.get AxStat.owner n == a)

/-- A bit of MNT_STAT.RUNNING. -/
def State.setRunning (s : State) (a : Nat) (on : Bool) : State :=
  let m := s.get MntStat.running 0
  let b := m / 2 ^ a % 2
  s.put MntStat.running 0 (if on then (if b = 1 then m else m + 2 ^ a) else (if b = 1 then m - 2 ^ a else m))

/-- Step word k of step i. -/
def State.stepWord (s : State) (a i k : Nat) : Nat := s.get MntStep.v (128 * (a - 1) + 2 * i + k)

/-- The activity ends: what it owned is released, a held goal is committed for the next LQ (R386), and its strings keep level and
mask (R400). -/
def State.endAct (s : State) (a : Nat) : State :=
  let s := (s.ownedBy a).foldl (fun t n => (((t.put AxStat.owned n 0).put AxStat.owner n 0).mapAxis n (fun x =>
    { x with due := x.held.orElse (fun _ => x.due), held := none })).axState n) s
  let s := { s with
    light := { s.light with lamps := s.light.lamps.map (fun (l : Lamp) => if l.activity = some a then { l with activity := none } else l) },
    mot := { s.mot with acts := s.mot.acts.filter (fun (x : Activity) => x.num != a) } }
  (s.setRunning a false).abortEnd 5 a

/-- The abort sequence starts at ABORT_START; owned axes are stopped at DEC first (R402). -/
def State.startAbortSeq (s : State) (a : Nat) : State :=
  match s.act a with
  | none => s
  | some x =>
    if x.aborting.isSome then s
    else
      let s := (s.ownedBy a).foldl (fun t n =>
        (t.mapAxis n (fun y => { y with homing := none, latch := none, goal := none, due := none })).beginStop n 1) s
      s.setAct { x with step := s.get MntAct.abortStart (a - 1), begun := false, since := s.ft, stopping := false,
                        aborting := some s.ft, replies := [], failed := false, loops := [], posted := none, released := false }

/-- A step fails (R401). A failure inside the abort sequence is not followed by another: the bound of R402 ends it. -/
def State.failStep (s : State) (a : Nat) : State :=
  match s.act a with
  | none => s
  | some x =>
    let s := s.record .mntStepFail a [a8 x.step]
    if x.aborting.isSome then s.setAct { x with failed := true } else s.startAbortSeq a

end Sys2Proof.Machine
end

