-- ==== Sys2Proof/Machine/Gsc.lean ====
section
/-!
DEFINITION. GSC-2: the decoder of spec/07_compression.md (R148 to R159).
-/
namespace Sys2Proof.Machine

/-- Causes of Table 07-3; `pass` is no failure. -/
inductive GscCause where
  | pass | opcode | varint | trunc | overrun | dist | rowFirst | short | len | crc | trail
  deriving DecidableEq, Repr

/-- The code of Table 07-3. -/
def GscCause.code : GscCause → Nat
  | .pass => 0 | .opcode => 1 | .varint => 2 | .trunc => 3 | .overrun => 4 | .dist => 5 | .rowFirst => 6
  | .short => 8 | .len => 9 | .crc => 10 | .trail => 11

/-- A malformed token, as against a failed END check. -/
def GscCause.malformed : GscCause → Bool
  | .opcode | .varint | .trunc | .overrun | .dist | .rowFirst => true
  | _ => false

/-- The shape of a stripe: input width in pixels, bits per pixel, bytes per line, lines. -/
structure GscShape where
  width : Nat
  bits : Nat
  lb : Nat
  lines : Nat
  deriving DecidableEq, Repr

/-- What a decode gives: exactly E bytes, the first void byte (E where none), the cause and the stream offset it names. -/
structure GscResult where
  out : List Byte
  voidFrom : Nat
  cause : GscCause
  offset : Nat
  deriving DecidableEq, Repr

/-- A varint (R151): its value and the stream that follows. -/
def varintOf : Nat → List Byte → Nat → Nat → Except GscCause (Nat × List Byte)
  | 0, _, _, _ => .error .varint
  | _ + 1, [], _, _ => .error .trunc
  | n + 1, b :: bs, shift, acc =>
    let v := acc + b.toNat % 128 * 2 ^ shift
    if b.toNat < 128 then (if v < 2 ^ 32 then .ok (v, bs) else .error .varint)
    else varintOf n bs (shift + 7) v

def varint (bs : List Byte) : Except GscCause (Nat × List Byte) := varintOf 5 bs 0 0

/-- Zigzag (R152). -/
def unzigzag (v : Nat) : Int := if v % 2 = 0 then (v / 2 : Nat) else -((v / 2 : Nat) : Int) - 1

/-- `n` copies from `dist` bytes back, one at a time (R154); the output is held newest first. -/
def emitCopy (dist : Nat) : Nat → List Byte → List Byte
  | 0, out => out
  | n + 1, out => emitCopy dist n (out.getD (dist - 1) 0 :: out)

/-- Pixel `x` of a line whose bytes begin at output byte `start`; the output is held newest first and has `k` bytes. -/
def pixelAt (sh : GscShape) (out : List Byte) (k start : Nat) (x : Int) : Nat :=
  if 0 ≤ x ∧ x < sh.width then
    let bit := x.toNat * sh.bits
    (out.getD (k - 1 - (start + bit / 8)) 0).toNat / 2 ^ (bit % 8) % 2 ^ sh.bits
  else 0

/-- The byte at output position `q` of a ROW with shift `dx` (R155). -/
def rowByte (sh : GscShape) (dx : Int) (q : Nat) (out : List Byte) : Byte :=
  let start := (q / sh.lb - 1) * sh.lb
  let first := q % sh.lb * 8 / sh.bits
  BitVec.ofNat 8 ((List.range (8 / sh.bits)).foldl (fun acc j =>
    let x := first + j
    acc + (if x < sh.width then pixelAt sh out q start (x + dx) else 0) * 2 ^ (j * sh.bits)) 0)

def emitRow (sh : GscShape) (dx : Int) : Nat → Nat → List Byte → List Byte
  | 0, _, out => out
  | n + 1, q, out => emitRow sh dx n (q + 1) (rowByte sh dx q out :: out)

/-- Void fill of a stripe that stopped (R158, R160). -/
def fillVoid (e : Nat) (out : List Byte) (k : Nat) (c : GscCause) (ofs : Nat) : GscResult :=
  ⟨out.reverse ++ List.replicate (e - k) 0, k, c, ofs⟩

/-- The END checks in the order of R157. -/
def endCheck (e k slen crc : Nat) (out : List Byte) (rest : List Byte) (ofs : Nat) : GscResult :=
  if k < e then fillVoid e out k .short ofs
  else if slen ≠ k then ⟨out.reverse, e, .len, ofs⟩
  else if crc32c out.reverse ≠ crc then ⟨out.reverse, e, .crc, ofs⟩
  else if rest ≠ [] then ⟨out.reverse, e, .trail, ofs⟩
  else ⟨out.reverse, e, .pass, 0⟩

/-- One token after its length: what it emits and the stream that follows (R153; checked completely before any output). -/
def gscToken (sh : GscShape) (op n k : Nat) (s : List Byte) (out : List Byte) :
    Except GscCause (List Byte × List Byte) :=
  match op with
  | 0 => if s.length < n then .error .trunc else .ok ((s.take n).reverse ++ out, s.drop n)
  | 1 => match s with
    | [] => .error .trunc
    | b :: rest => .ok (List.replicate n b ++ out, rest)
  | 2 => match varint s with
    | .error c => .error c
    | .ok (d, rest) =>
      if d = 0 ∨ 262144 < d ∨ k < d then .error .dist else .ok (emitCopy d n out, rest)
  | _ => match varint s with
    | .error c => .error c
    | .ok (v, rest) =>
      if k < sh.lb then .error .rowFirst else .ok (emitRow sh (unzigzag v) n k out, rest)

/-- The loop of the decoder: `total` is CLEN, `s` what remains of the stream, `out` newest first, `k` its length. -/
def gscLoop (sh : GscShape) (total : Nat) : Nat → List Byte → List Byte → Nat → GscResult
  | 0, _, out, k => fillVoid (sh.lb * sh.lines) out k .trunc total
  | fuel + 1, s, out, k =>
    let e := sh.lb * sh.lines
    let ofs := total - s.length
    match s with
    | [] => fillVoid e out k .trunc ofs
    | t :: s =>
      let op := t.toNat / 32
      let l := t.toNat % 32
      if op = 4 then
        if l ≠ 0 then fillVoid e out k .opcode ofs
        else if s.length < 8 then fillVoid e out k .trunc ofs
        else endCheck e k (leField s 4 4) (leField s 0 4) out (s.drop 8) ofs
      else if 4 < op then fillVoid e out k .opcode ofs
      else
        let base := if op = 0 then 1 else if op = 1 then 3 else 4
        let len := if l = 31 then (varint s).map (fun r => (base + 31 + r.1, r.2)) else .ok (base + l, s)
        match len with
        | .error c => fillVoid e out k c ofs
        | .ok (n, s) =>
          if e < k + n then fillVoid e out k .overrun ofs
          else match gscToken sh op n k s out with
            | .error c => fillVoid e out k c ofs
            | .ok (out', s') => gscLoop sh total fuel s' out' (k + n)

/-- Decode the CLEN bytes of a stripe. -/
def gscDecode (sh : GscShape) (stream : List Byte) : GscResult :=
  gscLoop sh stream.length (stream.length + 1) stream [] 0

end Sys2Proof.Machine
end

