-- ==== Sys2Proof/Machine/Ingest.lean ====
section
/-!
DEFINITION. Page ingest and the page store (spec/06_page_ingest.md).
-/
namespace Sys2Proof.Machine

/-! ### What the device sends on the data port -/

/-- A CONTROL packet: page, code, argument (Table 06-5). Nothing leaves while the port is DOWN. -/
def State.sendControl (s : State) (pseq code arg : Nat) : State :=
  if s.ingest.up then s.send (.dp 4 [pseq, code, arg]) else s

/-- A CREDIT packet (R124): NEXT_SET, NEXT_PSEQ, limit. -/
def State.sendCredit (s : State) : State :=
  let limit := (s.ingest.limit + s.ingest.oweCredit) % 2 ^ 32
  let s := { s with ingest := { s.ingest with limit := limit, oweCredit := 0 } }
  if s.ingest.up then
    ({ s with ingest := { s.ingest with sentLimit := limit } }).send
      (.dp 0x10 [if s.ingest.nextSet then 1 else 0, if s.ingest.nextSet then s.pgNext else 0, limit])
  else s

/-- R123, R125: 1 credit, plus 1 for each 256 bytes of payload received or part of them. -/
def packetCost (k : Faong) : Nat := 1 + (k.payload.length + 255) / 256

/-- The limit advances by the cost of a packet that has left the ingest buffer (R125). DEDUCED (log 29). -/
def State.advance (s : State) (k : Faong) : State :=
  { s with ingest := { s.ingest with limit := (s.ingest.limit + packetCost k) % 2 ^ 32 } }

def State.countRewind (s : State) : State := s.count DpErr.rewind DpErr.ovf 0
def State.countProto (s : State) : State := s.count DpErr.proto DpErr.ovf 0
def State.countCrc (s : State) : State := s.count DpErr.crc DpErr.ovf 0

/-! ### Packet checks (R122) -/

def faongHeader (k : Faong) : List Byte :=
  leBytes 1 k.typ ++ leBytes 1 k.flags ++ leBytes 2 k.len ++ leBytes 8 k.pseq ++ leBytes 4 k.arg

/-- What R122 finds. -/
inductive PacketCheck where
  | good | crc | proto
  deriving DecidableEq, Repr

def faongCheck (k : Faong) : PacketCheck :=
  if k.error ∨ k.cls ≠ 0x46 then .crc
  else if k.len ≠ k.payload.length ∨ k.len % 4 ≠ 0 ∨ 8192 < k.len then .proto
  else if crc32c (faongHeader k ++ k.payload) ≠ k.pcrc then .crc
  else if k.typ = 1 ∨ k.typ = 2 ∨ k.typ = 3 ∨ (k.typ = 4 ∧ 1 ≤ k.arg ∧ k.arg ≤ 3) then .good
  else .proto

/-! ### Descriptors (R129) -/

/-- The descriptor in a payload of 320 bytes (Table 06-3). -/
def descOf (b : List Byte) : Desc :=
  { length := leField b 0 4, widthM1 := leField b 4 2, firstCol := leField b 6 2, format := leField b 8 1,
    screenSet := leField b 9 1, toneSet := leField b 10 1, overspeed := leField b 11 1, flags := leField b 12 2,
    rasMap := leField b 14 2, startMode := leField b 16 1, tofSel := leField b 17 1, genPolicy := leField b 18 1,
    nmGen := leField b 20 4, startPos := leField b 24 8, jobId := leField b 32 4,
    plan := (slice b 64 256).flatMap (fun x =>
      [x.toNat % 4, x.toNat / 4 % 4, x.toNat / 16 % 4, x.toNat / 64]) }

/-- A reserved field of a descriptor is not 0. -/
def descReserved (b : List Byte) (d : Desc) : Bool :=
  d.flags / 128 != 0 || d.rasMap / 4096 != 0 || leField b 19 1 != 0 || leField b 36 28 != 0

/-- R177: the screen set and the tone set of a contone page are loaded under a generation. -/
def State.setsLoaded (s : State) (g : TableGen) (d : Desc) : Bool :=
  !d.contone ||
  (s.get ScrCtrl.scrMode 0 == 0 && decide (d.screenSet < 8) && decide (d.toneSet < 8) &&
   [0, 1, 2, 3].all (fun c => g.get ScrSset.valid (4 * d.screenSet + c) == 1 &&
     s.get ScrThrCtl.state (g.get ScrSset.array (4 * d.screenSet + c)) == 2) &&
   g.get ScrTsvalid.valid 0 / 2 ^ d.toneSet % 2 == 1)

def State.descFormatBad (s : State) (first : Bool) (b : List Byte) (d : Desc) : Bool :=
  b.length != 320 || decide (6 < d.format) || decide (16777216 < d.length) ||
  decide (65535 < d.firstCol + d.widthM1) || (decide (d.format ≤ 1) && d.widthM1 % 2 == 0) ||
  linesPerInput s.resLpi d.format == 0 || d.rasMap % 8 != 0 || descReserved b d || (first && d.flag 6)

/-- The first reason of R129 that applies, 0 for none; `first` says that this page has set PG_NEXT (R131). -/
def State.refuseReason (s : State) (first : Bool) (k : Faong) (d : Desc) : Nat :=
  if k.pseq ≠ s.pgNext then 1
  else if s.descFormatBad first k.payload d then 2
  else if (d.stream ∧ s.get PgCtrl.streamEn 0 = 0) ∨ (d.length = 0 ∧ ¬d.stream) then 3
  else if ¬s.setsLoaded s.ctbNewest d ∨ 2 < d.startMode ∨ 3 < d.overspeed ∨ 2 < d.genPolicy ∨ 3 < d.tofSel then 4
  else 0

/-- A page that has just been described. -/
def Page.fresh (pseq : Nat) (raw : List Byte) (d : Desc) : Page :=
  { pseq := pseq, desc := d, raw := raw, stripes := [],
    total := if d.length = 0 then none else some ((d.length + 255) / 256),
    admitted := false, admittedLine := 0, admittedAt := 0, closed := false, scheduled := false, first := 0, lines := 0,
    nmGen := 0, ctbGen := 0, absorbed := false, tofUsed := false, waitFrom := none, deferred := false, refetch := none,
    blankFrom := none, record := PageRecord.start, partnerDigest := none }

/-- Pages are held in ascending PSEQ. -/
def insertPage (p : Page) : List Page → List Page
  | [] => [p]
  | q :: qs => if p.pseq < q.pseq then p :: q :: qs else q :: insertPage p qs

/-- The digest of a descriptor or stripe goes to the partner (R138): PSEQ, 0 or stripe + 1, CLEN, CRC, lacks. -/
def State.sendDigest (s : State) (pseq : Nat) (stripe : Option Nat) (clen crc : Nat) (lacks : Bool) : State :=
  s.sendCol 0x0A [pseq, match stripe with | some i => i + 1 | none => 0, clen, crc, if lacks then 1 else 0]

/-- CLEN and the CRC-32C found in the END token of a stripe: the last 4 of the last 9 bytes after the opcode (R157). -/
def Stripe.endCrc (t : Stripe) : Nat := leField t.data (t.data.length - 8) 4

def State.sendStripeDigest (s : State) (pseq i : Nat) : State :=
  match s.page pseq with
  | none => s
  | some p => match p.stripe i with
    | none => s
    | some t => s.sendDigest pseq (some i) t.clen t.endCrc false

/-! ### Rewinds (R127) -/

/-- The partial stripe is dropped and asked for again; the request is sent, and counted, while the port is UP. -/
def State.rewind (s : State) (pseq i : Nat) : State :=
  let s := s.mapPage pseq (fun p => { p with stripes := p.stripes.map (fun t =>
    if t.idx = i ∧ t.stored = false then { t with data := [] } else t) })
  let s := { s with ingest := { s.ingest with rewind := some (pseq, i), receiving := some (pseq, i, 0) } }
  if s.ingest.up then (s.sendControl pseq 0x81 i).countRewind else s

/-! ### The ingest buffer -/

/-- A PAGE_DESC that begins a resend after REFETCH (R145). DEDUCED (log 30). -/
def State.beginResend (s : State) (p : Page) (k : Faong) : State :=
  if k.payload = p.raw then
    { s with ingest := { s.ingest with receiving := some (p.pseq, p.refetch.getD 0, 0), resend := some p.pseq } }
  else s.countProto

/-- A page enters the sequence (R129, R130, R134, R138). -/
def State.enterPage (s : State) (k : Faong) (d : Desc) : State :=
  let plan := if d.flag 6 then s.lastPlan else d.plan
  let p := Page.fresh k.pseq k.payload { d with plan := plan }
  let mine := s.digestWait.filter (fun g => g.pseq == k.pseq)
  let p := mine.foldl (fun q g => match g.stripe with
    | none => { q with partnerDigest := some g }
    | some i => q.withStripe i (fun t => { t with partner := some g })) p
  let s := { s with pages := insertPage p s.pages, lastPlan := plan,
                    digestWait := s.digestWait.filter (fun g => g.pseq != k.pseq),
                    ingest := { s.ingest with receiving := some (k.pseq, 0, 0) } }
  let s := (s.setPgNext (k.pseq + 1)).sendDigest k.pseq none 320 (crc32c k.payload) false
  if d.stream then s.admitPage k.pseq else s

/-- A page is refused: it ends in its place, its packets are dropped without a count (R130). -/
def State.refusePage (s : State) (k : Faong) (d : Desc) (reason : Nat) : State :=
  let p := (Page.fresh k.pseq k.payload d).close 2 reason
  let s := { s with pages := insertPage p s.pages,
                    ingest := { s.ingest with receiving := none, skipPage := some k.pseq } }
  (s.setPgNext (k.pseq + 1)).sendControl k.pseq 0x83 reason

/-- A PAGE_DESC leaves the buffer; none where it must wait for a free descriptor slot (R125). DEDUCED (log 30). -/
def State.takeDesc (s : State) (k : Faong) : Option State :=
  if s.ingest.rewind.isSome then some s
  else if s.ingest.waitNext ∧ k.pseq ≠ s.pgNext then some s
  else match s.ingest.receiving with
  | some (q, i, _) => some (s.rewind q i)
  | none =>
    match s.pages.find? (fun p => p.pseq == k.pseq && p.refetch.isSome && !p.closed) with
    | some p => some (s.beginResend p k)
    | none =>
      let first := !s.ingest.nextSet && s.role != roleStandby
      let s : State := if first then
        { (s.setPgNext k.pseq) with ingest := { s.ingest with nextSet := true } } else s
      let d := descOf k.payload
      let r := s.refuseReason first k d
      let s := { s with ingest := { s.ingest with waitNext := false } }
      if r = 1 then
        some ({ s with ingest := { s.ingest with waitNext := true } }.sendControl k.pseq 0x83 1)
      else if 512 ≤ s.pages.length then none
      else if r = 0 then some (s.enterPage k d)
      else some (s.refusePage k d r)

/-- A STRIPE_DATA or STRIPE_END that no page being received claims: not counted while PG_NEXT is awaited, nor of a page refused
or cancelled (R130, R545). -/
def State.strayStripe (s : State) (k : Faong) : State :=
  if s.ingest.waitNext ∨ s.ingest.skipPage = some k.pseq ∨
      s.pages.any (fun p => p.pseq == k.pseq && p.closed && p.record.status == 2) then s
  else s.countProto

/-- Data for this stripe is taken and dropped: it is held intact, or its lines have been passed over (R140, R145, R547). -/
def Page.dropsStripe (p : Page) (i : Nat) : Bool :=
  match p.stripe i with
  | some t => (t.stored && !t.lost) || t.assigned
  | none => false

/-- A chunk is written to the page store (R126); none where no block is free (R125). -/
def State.storeChunk (s : State) (q i ch : Nat) (k : Faong) : Option State :=
  let next := { s with ingest := { s.ingest with receiving := some (q, i, ch + 1), rewind := none } }
  match s.page q with
  | none => some next
  | some p =>
    if p.dropsStripe i then some next
    else
      let held := match p.stripe i with
        | some t => if t.stored ∨ ch = 0 then [] else t.data
        | none => []
      if held.length ≠ 8192 * ch then some (s.rewind q i)
      else if ch % 8 = 0 ∧ s.freeBlocks = 0 then none
      else some (next.mapPage q (fun p => p.withStripe i (fun t =>
        { t with data := held ++ k.payload, stored := false, verified := false })))

def State.takeData (s : State) (k : Faong) : Option State :=
  let i := k.arg % 65536
  let ch := k.arg / 65536
  match s.ingest.rewind with
  | some (q, j) => if k.pseq = q ∧ i = j ∧ ch = 0 then s.storeChunk q j 0 k else some s
  | none =>
    match s.ingest.receiving with
    | none => some (s.strayStripe k)
    | some (q, j, c) => if k.pseq = q ∧ i = j ∧ ch = c then s.storeChunk q j c k else some (s.rewind q j)

/-- The next stripe of the page is awaited, or the page is received. -/
def State.nextStripe (s : State) (q i : Nat) : State :=
  let last := match s.page q with
    | some p => p.total == some (i + 1)
    | none => true
  if last then
    { s with ingest := { s.ingest with
        receiving := s.ingest.interrupted.head?.map (fun x => (x.1, x.2, 0)),
        interrupted := s.ingest.interrupted.tail, resend := none } }
  else { s with ingest := { s.ingest with receiving := some (q, i + 1, 0) } }

/-- The print lines and the trailer of a scheduled page once the length of an open-length page is known. -/
def State.setLines (s : State) (q : Nat) : State :=
  let s := s.mapPage q (fun p =>
    if p.scheduled ∧ p.desc.length = 0 ∧ p.total.isSome then { p with lines := s.ratio p * p.inputLines } else p)
  match s.page q with
  | none => s
  | some p =>
    if p.scheduled ∧ p.desc.length = 0 ∧ p.total.isSome then
      let s := s.makeTrailer p
      { s with scr := { s.scr with placed := some (s.pageEnd p) } }
    else s

/-- A stripe is stored: no stripe of the page is lost any more ends its REFETCH; a resent stripe counts (R145). -/
def Page.settle (p : Page) : Page := if p.intact then { p with refetch := none } else p

/-- A STRIPE_END completes its stripe (R126, R127, R134, R138). -/
def State.endStripe (s : State) (q i : Nat) (k : Faong) : State :=
  let clen := leField k.payload 0 4
  let lines := leField k.payload 4 2
  let open_ (p : Page) : Page := if p.desc.length = 0 ∧ k.flags % 2 = 1 then { p with total := some (i + 1) } else p
  match s.page q with
  | none => s.nextStripe q i
  | some p =>
    if p.dropsStripe i then ((s.mapPage q open_).setLines q).nextStripe q i
    else
      let held := match p.stripe i with
        | some t => t.data
        | none => []
      if k.payload.length ≠ 8 ∨ lines < 1 ∨ 256 < lines ∨ leField k.payload 6 2 ≠ 0 ∨
          held.length ≠ (clen + 3) / 4 * 4 then s.rewind q i
      else
        let resent := s.ingest.resend == some q
        let s := s.mapPage q (fun p => (open_ (p.withStripe i (fun t =>
          { t with data := held.take clen, clen := clen, lines := lines, stored := true, verified := false,
                   lost := false }))).settle)
        let s := (s.setLines q).sendStripeDigest q i
        let s := if resent then s.count PgCnt.refetch PgCnt.ovf 0 else s
        (s.tryAdmit q).nextStripe q i

def State.takeEnd (s : State) (k : Faong) : State :=
  if s.ingest.rewind.isSome then s
  else match s.ingest.receiving with
  | none => s.strayStripe k
  | some (q, j, _) => if k.pseq = q ∧ k.arg = j then s.endStripe q j k else s.rewind q j

/-- One packet leaves the buffer; none where it must wait. -/
def State.takePacket (s : State) (k : Faong) : Option State :=
  let r := if k.typ = 1 then s.takeDesc k else if k.typ = 2 then s.takeData k else some (s.takeEnd k)
  r.map (fun t => t.advance k)

/-- Packets leave the buffer in order until one must wait. -/
def drainPackets : List Faong → State → State
  | [], s => { s with ingest := { s.ingest with buffer := [] } }
  | k :: ks, s => match s.takePacket k with
    | some t => drainPackets ks t
    | none => { s with ingest := { s.ingest with buffer := k :: ks } }

/-- DEDUCED (log 29). -/
def State.drainIngest (s : State) : State := drainPackets s.ingest.buffer s

/-! ### Control packets -/

/-- An ingest abort is requested (R147). -/
def State.requestIngestAbort (s : State) : State := s.abortStart 1 0

/-- A page leaves before it prints (R545, R147): data gone, decodes stopped, packets still to come dropped without a count. -/
def State.cancelPage (s : State) (pseq : Nat) : State :=
  let s := (s.stopDecodes pseq).mapPage pseq (fun p => { p.close 3 0 with stripes := [], raw := [] })
  let mine := match s.ingest.receiving with
    | some (q, _, _) => q == pseq
    | none => false
  if mine then { s with ingest := { s.ingest with receiving := none, rewind := none, skipPage := some pseq } } else s

/-- CANCEL (R144, R545). DEDUCED (log 32). -/
def State.takeCancel (s : State) (pseq : Nat) : State :=
  match s.page pseq with
  | none => s.record .pgCancelNone 0 []
  | some p =>
    if p.scheduled then s.record .pgCancelLate 0 []
    else if p.closed then s.record .pgCancelNone 0 []
    else (s.cancelPage pseq).drainIngest

/-- A packet received on the data port: checked, then acted on or taken into the buffer. -/
def State.packet (s : State) (k : Faong) : State :=
  match faongCheck k with
  | .crc => s.countCrc.advance k
  | .proto => s.countProto.advance k
  | .good =>
    if k.typ = 4 then
      let s := s.advance k
      if k.arg = 1 then s.takeCancel k.pseq
      else if k.arg = 2 then s.requestIngestAbort
      else s.sendCredit
    else ({ s with ingest := { s.ingest with buffer := s.ingest.buffer ++ [k] } }).drainIngest

/-! ### Link and resets -/

/-- The data port comes UP (R124, R127). -/
def State.dataUp (s : State) : State :=
  let s := { s with ingest := { s.ingest with up := true, limit := 2048, sentLimit := 0, oweCredit := 0 } }
  let s := s.sendCredit
  match s.ingest.rewind with
  | some (q, i) => (s.sendControl q 0x81 i).countRewind
  | none => s

/-- The data port goes DOWN: what is buffered is processed, then an incomplete stripe is rewound (R127). -/
def State.dataDown (s : State) : State :=
  let s := s.drainIngest
  let s := { s with ingest := { s.ingest with up := false } }
  match s.ingest.receiving with
  | some (q, i, c) => if s.ingest.rewind.isNone ∧ c ≠ 0 then s.rewind q i else s
  | none => s

/-- R546: an L2 reset empties the buffer, owing its credits, and rewinds the stripe being received. -/
def State.ingestL2 (s : State) : State :=
  let owed := s.ingest.buffer.foldl (fun n k => n + packetCost k) 0
  let s := { s with ingest := { s.ingest with buffer := [], oweCredit := s.ingest.oweCredit + owed } }
  match s.ingest.receiving, s.ingest.rewind with
  | some (q, i, c), none => if c ≠ 0 ∨ owed ≠ 0 then s.rewind q i else s
  | _, _ => s

/-! ### Completion records -/

/-- Every line of the page fired, was acknowledged or is declared (R142): no frame of the page is still open at a head port, and
the bar has decided every line of it. -/
def State.linesSettled (s : State) (p : Page) : Bool :=
  p.closed ||
  (p.scheduled && decide (s.pageEnd p + (s.nmGen p.nmGen).maxDelay ≤ s.fpe.decided) &&
   s.ports.all (fun e => e.2.frames.all (fun f =>
     f.acked || f.ended || f.lost || !f.pages.any (fun x => x.1 == p.pseq))))

/-- R142, R143: the first page of the sequence may send its record. -/
def State.recordReady (s : State) (p : Page) : Bool :=
  (p.closed || p.scheduled) && s.linesSettled p && !s.ff.scree.any (fun e => e.pseq == p.pseq) &&
  (s.role == roleSolo || s.solo || s.twin.alone ||
   (match s.twin.recordsTo with
    | some q => decide (p.pseq ≤ q)
    | none => false))

/-- The fields of a completion record in the order of Table 06-6; a page that never printed reads 0 from offset 4 on. -/
def Page.recordArgs (p : Page) : List Nat :=
  let r := p.record
  let none32 := 0xFFFFFFFF
  if p.scheduled then
    [p.pseq, r.status, r.reason, r.flags, p.nmGen, p.ctbGen, r.spoilLine.getD none32, r.lateFirst.getD none32,
     r.lateLast.getD none32, p.lines, r.screeCount, r.startPu,
     if p.lines = 0 then r.startPu else 256 * (p.first + p.lines - 1), r.ptpSec, r.ptpNs]
  else [p.pseq, r.status, r.reason, 0, 0, 0, none32, none32, none32, 0, 0, 0, 0, 0, 0]

/-- The record of the first page of the sequence is sent and the page's blocks and slot are freed (R136). -/
def State.complete (s : State) (p : Page) : State :=
  let s := s.send (.dp 0x11 p.recordArgs)
  let s := { s with pages := s.pages.filter (fun q => q.pseq != p.pseq) }
  let s := s.put64 PgDoneLo.v PgDoneHi.v 0 p.pseq
  let s := if p.record.status = 1 then s.count PgCnt.spoiled PgCnt.ovf 0 else s
  s.drainIngest

def State.completion (s : State) : State :=
  match s.pages with
  | [] => s
  | p :: _ =>
    if s.recordReady p then
      if s.acting then (if s.ingest.up then s.complete p else s) else s
    else s

end Sys2Proof.Machine
end

