-- ==== Sys2Proof/Machine/Codec.lean ====
section
/-!
DEFINITION. Decompressors, verification, the assignment of decodes for print, and the compressors
(spec/07_compression.md; R133, R134, R139, R140, R145 to R147 of spec/06_page_ingest.md).
-/
namespace Sys2Proof.Machine

/-! ### Engines -/

def State.engineEnabled (s : State) (e : Nat) : Bool := s.get DcxCtrl.enable 0 / 2 ^ e % 2 == 1

/-- What an engine does, with its status register. -/
def State.setEngine (s : State) (e : Nat) (j : Option DcxJob) : State :=
  let st := match j with
    | some j => if j.print then 1 else 2
    | none => if s.engineEnabled e then 0 else 3
  let sp := match j with
    | some j => j.stripe
    | none => 0
  (({ s with codec := { s.codec with engines := s.codec.engines.set e j } }).put DcxStat.state e st).put DcxStat.stripe e sp

/-- The enabled engines that do nothing, lowest first. -/
def State.idleEngines (s : State) : List Nat :=
  (List.range 8).filter (fun e => (s.codec.engines.getD e none).isNone && s.engineEnabled e)

/-- PRINT_MAX: 0 and 9 to 15 act as 8. -/
def State.printMax (s : State) : Nat :=
  let v := s.get DcxCtrl.printMax 0
  if 1 ≤ v ∧ v ≤ 8 then v else 8

def State.printEngines (s : State) : Nat :=
  (s.codec.engines.filter (fun j => match j with
    | some j => j.print
    | none => false)).length

def State.decoding (s : State) (q i : Nat) : Bool :=
  s.codec.engines.any (fun j => match j with
    | some j => j.pseq == q && j.stripe == i
    | none => false)

/-- Stripes that wait for verification, in ascending PSEQ and index (R133, R164). -/
def State.verifyQueue (s : State) : List (Nat × Nat) :=
  s.pages.flatMap (fun p =>
    if p.closed ∨ p.desc.stream ∨ p.scheduled then []
    else (p.stripes.filter (fun t => t.stored && !t.verified && !t.lost && !s.decoding p.pseq t.idx)).map
      (fun t => (p.pseq, t.idx)))

def least : List (Nat × Nat) → Option (Nat × Nat)
  | [] => none
  | x :: xs => match least xs with
    | none => some x
    | some y => if x.1 < y.1 ∨ (x.1 = y.1 ∧ x.2 ≤ y.2) then some x else some y

/-- Idle engines take the stripes that wait for verification. -/
def assignVerify : List Nat → State → State
  | [], s => s
  | e :: es, s => match least s.verifyQueue with
    | none => s
    | some (q, i) => assignVerify es (s.setEngine e (some ⟨false, q, i⟩))

def State.startVerify (s : State) : State := assignVerify s.idleEngines s

/-! ### Failures -/

/-- The DCX_LAST registers are updated together, and the failure counted (R161). -/
def State.dcxFailure (s : State) (e : Nat) (verify : Bool) (q i : Nat) (r : GscResult) : State :=
  let s := ((((s.put DcxLast.cause 0 r.cause.code).put DcxLast.engine 0 e).put DcxLast.verify 0 (if verify then 1 else 0)).put
    DcxLast.stripe 0 i).put DcxLastOfs.v 0 r.offset
  let s := s.put64 DcxLastPseqLo.v DcxLastPseqHi.v 0 q
  let args := [a8 e, a64 q, a16 i, a8 r.cause.code, a32 r.offset]
  if r.cause.malformed then
    (s.count DcxErr.malformed DcxErr.ovf 0).record (if verify then .dcxVmalformed else .dcxMalformed) e args
  else (s.count DcxErr.check DcxErr.ovf 0).record (if verify then .dcxVcheck else .dcxCheck) e args

/-- The shape a stripe is decoded in (R148, Table 06-4). -/
def Page.shape (p : Page) (t : Stripe) : GscShape :=
  { width := p.desc.pixels, bits := p.desc.bits, lb := p.desc.lb, lines := t.lines }

/-! ### Verification (R133) -/

/-- Where reception goes on: the earliest position of each page, in ascending PSEQ. -/
def mergePos (x : Nat × Nat) : List (Nat × Nat) → List (Nat × Nat)
  | [] => [x]
  | y :: ys =>
    if x.1 < y.1 then x :: y :: ys
    else if x.1 = y.1 then (x.1, min x.2 y.2) :: ys
    else y :: mergePos x ys

/-- A stored stripe is discarded and asked for again; reception restarts at the earliest page that waits. -/
def State.rewindStored (s : State) (q i : Nat) : State :=
  let s := s.mapPage q (fun p => p.mapStripe i (fun t =>
    { t with data := [], stored := false, verified := false, retries := t.retries + 1 }))
  let here := match s.ingest.receiving with
    | some (q', i', _) => [(q', i')]
    | none => []
  let order := (here ++ s.ingest.interrupted).foldl (fun l x => mergePos x l) [(q, i)]
  match order with
  | [] => s
  | (q', i') :: rest => ({ s with ingest := { s.ingest with interrupted := rest } }).rewind q' i'

/-- The line count a stripe must have: 256, or what remains of LENGTH; the last stripe of an open-length page may hold fewer. -/
def Page.linesOk (p : Page) (t : Stripe) : Bool :=
  if p.desc.length = 0 then t.lines == 256 || p.total == some (t.idx + 1) else t.lines == p.desc.stripeLines t.idx

def State.verifyFailed (s : State) (q : Nat) (t : Stripe) : State :=
  if t.retries < s.get PgCtrl.retry 0 then s.rewindStored q t.idx
  else
    let s := (s.stopDecodes q).mapPage q (fun p => { p.close 2 5 with stripes := [] })
    match s.ingest.receiving with
    | some (q', _, _) =>
      if q' = q then { s with ingest := { s.ingest with receiving := none, rewind := none, skipPage := some q } } else s
    | none => s

def State.verifyDone (s : State) (e : Nat) : State :=
  match s.codec.engines.getD e none with
  | none => s
  | some j =>
    if j.print then s
    else
      let s := s.setEngine e none
      match s.page j.pseq with
      | none => s.startVerify
      | some p => match p.stripe j.stripe with
        | none => s.startVerify
        | some t =>
          let r := gscDecode (p.shape t) t.data
          let s :=
            if r.cause = .pass ∧ p.linesOk t then
              (s.mapPage j.pseq (fun p => p.mapStripe j.stripe (fun t => { t with verified := true }))).tryAdmit j.pseq
            else
              let s := if r.cause = .pass then s else s.dcxFailure e true j.pseq j.stripe r
              s.verifyFailed j.pseq t
          s.startVerify

/-! ### Print decodes (R164, R547) -/

/-- A scheduled page's stripe that the writer reaches next: the first one, in ascending print line, not yet assigned. -/
def firstUnassigned (ratio : Nat) (p : Page) : Option Nat :=
  let n := if ratio = 0 then 0 else (p.lines + 256 * ratio - 1) / (256 * ratio)
  (List.range (min n (p.stripes.length + 1))).find? (fun i => !(p.stripes.any (fun t => t.idx == i && t.assigned)))

def State.nextDue (s : State) : Option (Page × Nat) :=
  (s.pages.filter (fun p => p.scheduled && !p.closed && p.blankFrom.isNone)).findSome? (fun p =>
    (firstUnassigned (s.ratio p) p).map (fun i => (p, i)))

/-- The two copies of a stripe differ: recorded; the active's prevails, a standby drops its own and asks for the active's
(R139). -/
def State.digestDiff (s : State) (q i : Nat) : State :=
  match s.page q with
  | none => s
  | some p => match p.stripe i with
    | none => s
    | some t => match t.partner with
      | none => s
      | some g =>
        if !t.stored || g.lacks || (g.clen == t.clen && g.crc == t.endCrc) then s
        else
          let s := s.record .pgDigestDiff 0 [a64 q, a16 i]
          if s.role = roleStandby then
            let s := s.mapPage q (fun p => p.mapStripe i (fun t => { t with data := [], stored := false, verified := false }))
            if s.get PgCtrl.fillinEn 0 = 1 then s.sendCol 0x0B [q, i] else s
          else s.mapPage q (fun p => p.mapStripe i (fun t =>
            { t with partner := some { g with clen := t.clen, crc := t.endCrc } }))

/-- R139: an active twin of a pair decodes a stripe only once its partner's digest, or a statement that it lacks it, is here. -/
def State.digestKnown (s : State) (t : Stripe) : Bool :=
  s.role != roleActive || !s.flag TwStat.partnerOk 0 || t.partner.isSome

/-- The engine a print decode takes: an idle one, else that of the verification with the highest PSEQ and index (R165). -/
def State.verifyVictim (s : State) : Option Nat :=
  ((List.range 8).foldl (fun best e => match s.codec.engines.getD e none with
    | some j =>
      if j.print then best
      else match best with
        | some (_, q, i) => if q < j.pseq ∨ (q = j.pseq ∧ i < j.stripe) then some (e, j.pseq, j.stripe) else best
        | none => some (e, j.pseq, j.stripe)
    | none => best) (none : Option (Nat × Nat × Nat))).map (fun x => x.1)

def State.assignPrint (s : State) (q i : Nat) : State :=
  let mark (s : State) : State := s.mapPage q (fun p => p.withStripe i (fun t => { t with assigned := true }))
  match s.idleEngines with
  | e :: _ => (mark s).setEngine e (some ⟨true, q, i⟩)
  | [] => match s.verifyVictim with
    | some e => ((mark s).setEngine e (some ⟨true, q, i⟩)).count DcxPreempt.count DcxPreempt.ovf 0
    | none => s

/-- The lines of a stripe that is not there in time print blank and spoil the page: UNDERRUN on a STREAM page, LOST for lost or
late data, DEFER after a wait longer than DEFER_MAX (R146, R547). -/
def State.passOver (s : State) (p : Page) (i : Nat) : State :=
  let lost : Bool := match p.stripe i with
    | some t => t.lost
    | none => false
  let reason := if p.deferred then 10 else if p.desc.stream ∧ ¬lost then 8 else 7
  s.mapPage p.pseq (fun p => (p.withStripe i (fun t => { t with assigned := true })).spoil (256 * i * s.ratio p) reason)

/-- DECODE_ASSIGN: the next due stripe is decoded, or passed over where it cannot be. -/
def State.decodeAssign (s : State) : State :=
  match s.nextDue with
  | none => s
  | some (p, i) =>
    let line := p.first + 256 * i * s.ratio p
    let free := decide (s.printEngines < s.printMax) && (!s.idleEngines.isEmpty || s.verifyVictim.isSome)
    if s.writerReach ≤ line ∨ ¬free then s
    else
      let s := s.digestDiff p.pseq i
      match s.page p.pseq with
      | none => s
      | some p => match p.stripe i with
        | none => s.passOver p i
        | some t =>
          if t.stored ∧ ¬t.lost then (if s.digestKnown t then s.assignPrint p.pseq i else s) else s.passOver p i

/-- A print decode ends (R158 to R161, R134): its lines wait for the writer. -/
def State.printDone (s : State) (e : Nat) : State :=
  match s.codec.engines.getD e none with
  | none => s
  | some j =>
    if ¬j.print then s
    else
      let s := s.setEngine e none
      match s.page j.pseq with
      | none => s.startVerify
      | some p => match p.stripe j.stripe with
        | none => s.startVerify
        | some t =>
          let r := gscDecode (p.shape t) t.data
          let s := { s with codec := { s.codec with decoded := s.codec.decoded ++
            [Decoded.mk j.pseq j.stripe p.desc.lb t.lines r.out r.voidFrom] } }
          let s :=
            if r.cause = .pass then s
            else (s.dcxFailure e false j.pseq j.stripe r).mapPage j.pseq (fun p =>
              p.spoil (256 * j.stripe * s.ratio p) (if p.desc.stream then 6 else 5))
          s.startVerify

/-- R167: an L2 reset stops every decode; stripes in progress restart when the print path resumes. -/
def State.codecL2 (s : State) : State :=
  let again := s.codec.engines.filterMap (fun j => match j with
    | some j => if j.print then some (j.pseq, j.stripe) else none
    | none => none) ++ s.codec.decoded.map (fun d => (d.pseq, d.stripe))
  let s := again.foldl (fun t x => t.mapPage x.1 (fun p => p.mapStripe x.2 (fun r => { r with assigned := false }))) s
  let s := (List.range 8).foldl (fun t e => t.setEngine e none) s
  { s with codec := { s.codec with decoded := [], waiting := [], cmx := [none, none] } }

/-! ### Lost data and fill-in -/

/-- A stripe is lost (R145): recorded, asked for from the partner and from the RIP node. -/
def State.loseStripe (s : State) (q i : Nat) : State :=
  match s.page q with
  | none => s
  | some p =>
    if p.closed then s
    else
      let s := s.mapPage q (fun p =>
        let p := p.withStripe i (fun t => { t with lost := true, verified := false })
        { p with admitted := p.admitted && p.scheduled,
                 refetch := some (match p.refetch with
                   | some k => min k i
                   | none => i) })
      let s := s.record .pgLost 0 []
      let s := if s.get PgCtrl.fillinEn 0 = 1 then s.sendCol 0x0B [q, i] else s
      s.sendControl q 0x82 i

/-- FILL_DATA (R140): the stripe is stored and passes the same admission test. -/
def State.fillStripe (s : State) (q i lines : Nat) (data : List Byte) : State :=
  match s.page q with
  | none => s
  | some p =>
    if p.closed ∨ p.dropsStripe i then s
    else
      let resent := match p.stripe i with
        | some t => t.lost
        | none => false
      let s := s.mapPage q (fun p => ((p.withStripe i (fun t =>
        { t with data := data, clen := data.length, lines := lines, stored := true, verified := false, filled := true,
                 lost := false })).settle).setFlag 4)
      let s := s.sendStripeDigest q i
      let s := if resent then s.count PgCnt.refetch PgCnt.ovf 0 else s
      (s.tryAdmit q).startVerify

/-- DIGEST (R139). -/
def State.takeDigest (s : State) (g : Digest) : State :=
  match s.page g.pseq with
  | none => { s with digestWait := s.digestWait.filter (fun h => !(h.pseq == g.pseq && h.stripe == g.stripe)) ++ [g] }
  | some p => match g.stripe with
    | none =>
      let s := s.mapPage g.pseq (fun p => { p with partnerDigest := some g })
      if g.lacks ∨ g.crc = crc32c p.raw ∨ p.raw = [] then s else s.record .pgDigestDiff 0 [a64 g.pseq, a16 0xFFFF]
    | some i =>
      let s := s.mapPage g.pseq (fun p => p.withStripe i (fun t => { t with partner := some g }))
      let held : Bool := match p.stripe i with
        | some t => t.stored
        | none => false
      if held then s.digestDiff g.pseq i
      else if g.lacks then s else s.sendDigest g.pseq (some i) 0 0 true

def State.fillTimer (s : State) (q i : Nat) : State :=
  match s.page q with
  | none => s
  | some p => match p.stripe i with
    | none => s
    | some t =>
      let held : Bool := match t.partner with
        | some g => !g.lacks
        | none => false
      if s.get PgCtrl.fillinEn 0 = 1 ∧ ¬t.stored ∧ held ∧ ¬p.closed then s.sendCol 0x0B [q, i] else s

/-- FILL_REQ is answered with the stripe's stored bytes: PSEQ, stripe, lines, then the bytes. -/
def State.fillAnswer (s : State) (q i : Nat) : State :=
  match s.page q with
  | none => s
  | some p => match p.stripe i with
    | none => s
    | some t =>
      if t.stored ∧ ¬t.lost then s.sendCol 0x0C ([q, i, t.lines] ++ t.data.map (fun b => b.toNat)) else s

/-! ### Ingest abort (R147) -/

def State.ingestAbort (s : State) : State :=
  if s.aborting 1 0 then
    let owed := s.ingest.buffer.foldl (fun n k => n + packetCost k) 0
    let gone := (s.pages.filter (fun p => !p.admitted && !p.closed && !p.scheduled)).map (fun p => p.pseq)
    let recv := match s.ingest.receiving with
      | some (q, _, _) => match s.page q with
        | some p => if p.scheduled ∨ p.closed then [] else [q]
        | none => []
      | none => []
    let s := (gone ++ recv).foldl (fun t q => t.cancelPage q) s
    let s := { s with ingest := { s.ingest with buffer := [], receiving := none, rewind := none, interrupted := [],
                                                resend := none, limit := (s.ingest.limit + owed) % 2 ^ 32 } }
    s.abortEnd 1 0
  else s

/-! ### Compressors (R168 to R170) -/

def State.setCmx (s : State) (m : Nat) (j : Option CmxJob) : State :=
  let s := { s with codec := { s.codec with cmx := s.codec.cmx.set m j } }
  match j with
  | some j => (s.put CmxStat.level m j.level).put CmxStat.owner m j.owner
  | none => (s.put CmxStat.level m 0).put CmxStat.owner m 0

/-- A waiting job starts on the first free compressor. -/
def State.cmxStart (s : State) : State :=
  match s.codec.waiting with
  | [] => s
  | j :: rest =>
    match (List.range 2).find? (fun m => (s.codec.cmx.getD m none).isNone) with
    | none => s
    | some m =>
      let s := ({ s with codec := { s.codec with waiting := rest } }).setCmx m (some j)
      (s.put CmxStat.queued 0 (min 15 rest.length)).put CmxStat.queued 1 (min 15 rest.length)

/-- The streams of a job, one per stripe, each after its 8-byte header. DESIGN CHOICE (log 34). -/
def cmxStripes (level lb per : Nat) : Nat → List Byte → List Byte
  | 0, _ => []
  | _ + 1, [] => []
  | n + 1, data =>
    let x := data.take (lb * per)
    let z := Config.cmxStream level lb x
    leBytes 4 z.length ++ leBytes 2 (x.length / lb) ++ leBytes 2 0 ++ z ++ cmxStripes level lb per n (data.drop (lb * per))

def CmxJob.output (j : CmxJob) : List Byte := cmxStripes j.level j.lb j.perStripe (j.input.length + 1) j.input

/-- Bytes that the output region must hold (R168): 14 more than each stripe, and its header. -/
def CmxJob.region (j : CmxJob) : Nat :=
  let x := max 1 (j.lb * j.perStripe)
  j.input.length + 22 * ((j.input.length + x - 1) / x)

/-- The managed capacity in bytes (Table 17-1). -/
def State.managedBytes (s : State) : Nat := 2 ^ 36 * 2 ^ s.get McCfg.cap 0

/-- A job whose output would reach the managed capacity ends without writing (R409). A job ends: its streams stand in the output region (Trace: the dump is over; Twin: they go to the partner). -/
def State.cmxDone (s : State) (m : Nat) : State :=
  match s.codec.cmx.getD m none with
  | none => s
  | some j =>
    let out := j.output
    let s := (s.setCmx m none).put CmxIn.v m (s.get CmxIn.v m + j.input.length)
    let s := s.put CmxOut.v m (s.get CmxOut.v m + out.length)
    if j.owner = 1 then s.sendCol 0x0D (out.map (fun b => b.toNat))
    else if s.managedBytes < j.dest + j.region then
      let s := s.record .mcAddrErr 0 []
      if j.owner = 3 then s.put TrcStat.dumpBusy j.tag 0 else s
    else
      let s := s.dramWrite j.dest out
      if j.owner = 3 then (s.put TrcDumpCtl.len j.tag out.length).put TrcStat.dumpBusy j.tag 0 else s

/-! ### The commands -/

def execPageDesc (k : Faong) (s : State) : Ans := .next (s.packet k)

def execStripeData (k : Faong) (s : State) : Ans := .next (s.packet k)

/-- A stripe that is now stored may be verified at once. -/
def execStripeEnd (k : Faong) (s : State) : Ans := .next (s.packet k).startVerify

def execCancel (k : Faong) (s : State) : Ans := .next (s.packet k)

def execAbortIngest (k : Faong) (s : State) : Ans := .next (s.packet k)

def execSync (k : Faong) (s : State) : Ans := .next (s.packet k)

def execDpCtrlAbort (value : Word) (s : State) : Ans :=
  let s := s.put DpCtrl.creditPeriod 0 (DpCtrl.creditPeriod.of value)
  .next (if DpCtrl.abort.of value = 1 then s.requestIngestAbort else s)

def execIngestAbortEffect (s : State) : Ans := .next s.ingestAbort

def execCredit (s : State) : Ans := .next s.sendCredit

def execDataPortUp (s : State) : Ans := .next (if s.isUp 128 ∧ ¬s.ingest.up then s.dataUp else s)

def execDataPortDown (s : State) : Ans := .next (if s.ingest.up then s.dataDown else s)

def execStripeVerifyDone (e : Fin 8) (s : State) : Ans := .next (s.verifyDone e.val)

def execDecodeAssign (s : State) : Ans := .next s.decodeAssign

def execPrintDecodeDone (e : Fin 8) (s : State) : Ans := .next (s.printDone e.val)

def execCompletion (s : State) : Ans := .next s.completion

def execDigestReceive (rx : Rx) (seq : Nat) (d : Digest) (s : State) : Ans :=
  let r := s.colAccept 0x0A seq rx
  .next (if r.1 then r.2.takeDigest d else r.2)

def execFillinTimer (pseq stripe : Nat) (s : State) : Ans := .next (s.fillTimer pseq stripe)

def execFillReq (rx : Rx) (seq pseq stripe : Nat) (s : State) : Ans :=
  let r := s.colAccept 0x0B seq rx
  .next (if r.1 then r.2.fillAnswer pseq stripe else r.2)

def execFillData (rx : Rx) (seq pseq stripe lines : Nat) (data : List Byte) (s : State) : Ans :=
  let r := s.colAccept 0x0C seq rx
  .next (if r.1 then r.2.fillStripe pseq stripe lines data else r.2)

def execCmxJobStart (s : State) : Ans := .next s.cmxStart

def execCmxJobDone (m : Fin 2) (s : State) : Ans := .next (s.cmxDone m.val)

end Sys2Proof.Machine
end

