-- ==== Sys2Proof/Machine/Screen.lean ====
section
/-!
DEFINITION. Screening, the raster path, the band ring, generations of the column table and the nozzle map, and the threshold
slots (spec/08_screening.md; R4, R191 to R195 of spec/09_nozzle_map_and_fetch.md; R354 of spec/14_inspection.md).
-/
namespace Sys2Proof.Machine

/-! ### The nozzle map -/

/-- The nozzle a key of a generation's table belongs to, for the keys that hold its CAP: an unlisted nozzle is absent. -/
def capKey (e : Nat × Nat) : Option Nat :=
  if e.1 / 32 % 512 = Reg.nmStage.ctorIdx ∧ e.1 % 32 = NmStage.cap.lo then some (e.1 / 16384) else none

/-- Every nozzle with a listed CAP. -/
def TableGen.capped (g : TableGen) : List Nat := g.tab.filterMap capKey

/-- R191: a usable nozzle has STATE OK or WEAK and a CAP of at least 1. -/
def TableGen.usable (g : TableGen) (i : Nat) : Bool := decide (g.get NmStage.state i ≤ 1) && g.get NmStage.cap i != 0

/-- R191: EXCLUDED with CAP 0 stands for no nozzle. -/
def TableGen.absent (g : TableGen) (i : Nat) : Bool := g.get NmStage.state i == 3 && g.get NmStage.cap i == 0

/-- The usable nozzles. -/
def TableGen.usables (g : TableGen) : List Nat := g.capped.filter g.usable

/-- R179: bit Uc of column x. -/
def TableGen.covers (g : TableGen) (x c : Nat) : Bool :=
  g.usables.any (fun i => g.get NmStage.column i == x && g.get NmStage.cs i == c)

/-- The nozzles that two generations list between them. -/
def nozzleKeys (a b : TableGen) : List Nat :=
  ((a.tab ++ b.tab).filterMap (fun e =>
    if e.1 / 32 % 512 = Reg.nmStage.ctorIdx then some (e.1 / 16384) else none)).eraseDups

/-- Entries that differ between two generations, ROW and geometry aside (R194 DELTA). -/
def genDelta (a b : TableGen) : Nat :=
  ((nozzleKeys a b).filter (fun i =>
    [NmStage.column, NmStage.cs, NmStage.state, NmStage.trim, NmStage.cap].any (fun f => a.get f i != b.get f i))).length

/-- ROW fields or the geometry table differ (R196). -/
def genShape (a b : TableGen) : Bool :=
  (nozzleKeys a b).any (fun i => a.get NmStage.row i != b.get NmStage.row i) ||
  (copyRegs [.geoStage] a.tab != copyRegs [.geoStage] b.tab)

/-- R194 DUPLICATE: two usable entries have the same COLUMN and CS. -/
def TableGen.duplicate (g : TableGen) : Bool :=
  let l := g.usables.map (fun i => 4 * g.get NmStage.column i + g.get NmStage.cs i)
  l.eraseDups.length != l.length

/-- R194 DEPTH, R4: a row named by a usable entry needs more than DEPTH lines. -/
def TableGen.tooDeep (g : TableGen) (depth : Nat) : Bool :=
  g.usables.any (fun i => decide (depth < g.rowDelay (i / 2048) (g.get NmStage.row i) + 9))

/-! ### Generations -/

/-- Tables of a nozzle-map generation, and of a column-table generation (Table generations). -/
def nmRegs : List Reg := [.nmStage, .geoStage]
def ctbRegs : List Reg := [.ctbStage, .curveStage, .scrTsmap, .scrTsvalid, .scrSset]

/-- Generations that nothing can name any more are dropped: the newest, the one last scheduled, those of pages held and those
not yet acknowledged by a standby stay. -/
def keepGens (gs : List TableGen) (keep : List Nat) (acked : Nat) : List TableGen :=
  match gs with
  | [] => []
  | g :: rest => g :: rest.filter (fun h => keep.contains h.num || decide (acked ≤ h.num))

def State.trimGens (s : State) : State :=
  let held := s.pages.filter (fun p => p.scheduled)
  { s with scr := { s.scr with
      ctbGens := keepGens s.scr.ctbGens (s.get ScrGenCur.v 0 :: held.map (fun p => p.ctbGen)) s.twin.ctbAcked,
      nmGens := keepGens s.scr.nmGens (s.get NmGenCur.v 0 :: held.map (fun p => p.nmGen)) s.twin.nmAcked } }

/-- A generation goes to the standby (R434): 0 NM or 1 CTB, its number, then keys and values. -/
def State.sendGen (s : State) (kind : Nat) (g : TableGen) : State :=
  if s.role = roleActive then s.sendCol 7 ([kind, g.num] ++ g.tab.flatMap (fun e => [e.1, e.2])) else s

/-- A new column-table generation becomes the newest (R183, R184). -/
def State.commitCtb (s : State) : State :=
  let g : TableGen := ⟨s.get ScrGenNew.v 0 + 1, copyRegs ctbRegs s.regs⟩
  ((({ s with scr := { s.scr with ctbGens := g :: s.scr.ctbGens } }).put ScrGenNew.v 0 g.num).sendGen 1 g).trimGens

/-- In COMP_MODE = HW the staged STATE and TRIM read the newest committed values, host-set EXCLUDED aside (R195). -/
def State.syncStaged (s : State) (g : TableGen) : State :=
  (nozzleKeys g ⟨0, copyRegs [.nmStage] s.regs⟩).foldl (fun t i =>
    let t := t.put NmStage.trim i (g.get NmStage.trim i)
    if t.get NmStage.state i = 3 ∨ g.get NmStage.state i = 3 then t else t.put NmStage.state i (g.get NmStage.state i)) s

def State.compHw (s : State) : Bool := s.inForce ScrCtrl.compMode 0 == 0

/-- The first reason of R194 for which a generation is refused, 0 for none. -/
def State.nmRefusal (s : State) (g : TableGen) : Nat :=
  if g.duplicate then 1
  else if g.tooDeep s.depth then 2
  else if s.pages.any (fun p => p.scheduled) ∧ 16384 < genDelta g (s.nmGen (s.get NmGenCur.v 0)) then 3
  else 0

/-- A nozzle-map generation is committed, or refused (R193, R194). -/
def State.commitNm (s : State) (tab : Tab Nat) (analyser : Bool) : State :=
  let g : TableGen := ⟨s.get NmGenNew.v 0 + 1, tab⟩
  let r := s.nmRefusal g
  let s := s.put NmDelta.count 0 (genDelta g (s.nmGen (s.get NmGenCur.v 0)))
  if r = 0 then
    let s := ({ s with scr := { s.scr with nmGens := g :: s.scr.nmGens } }).put NmGenNew.v 0 g.num
    let s := if s.compHw then s.syncStaged g else s
    (s.sendGen 0 g).trimGens
  else
    let s := ((s.put NmCommit.refused 0 1).put NmCommit.reason 0 r).put NmCommit.analyser 0 (if analyser then 1 else 0)
    let s := if analyser ∧ r = 3 then { s with ins := { s.ins with retry := true } } else s
    s.record .nmCommitRefused 0 [a8 r]

/-- What the health map makes of a nozzle (R359): a STATE and TRIM of the analyser's own, but for EXCLUDED entries. -/
def healthTab (g : TableGen) (h : Tab Health) : Tab Nat :=
  h.foldl (fun t e =>
    if ¬e.2.own ∨ g.get NmStage.state e.1 = 3 then t
    else
      let t := Tab.set (NmStage.state.resetAt e.1) t (NmStage.state.key e.1) (min e.2.state 2)
      Tab.set (NmStage.trim.resetAt e.1) t (NmStage.trim.key e.1) (unsign 4 e.2.htrim)) g.tab

/-- The analyser commit of R359: made where a value differs from the newest committed generation; it waits while a commit is BUSY,
and while SP2, which builds generations, restarts (R20). -/
def State.analyserCommit (s : State) : State :=
  let g := s.nmNewest
  let tab := healthTab g s.ins.health
  let s := { s with ins := { s.ins with retry := false } }
  if ¬s.compHw ∨ s.role = roleStandby ∨ tab = g.tab then s
  else if s.get NmCommit.busy 0 = 1 ∨ ¬s.spUp 2 then { s with ins := { s.ins with retry := true } }
  else s.commitNm tab true

/-- A commit written to a standby is refused (R434). -/
def State.standbyCommit (s : State) : State := s.record .twStandbyCommit 0 []

/-! ### Lost columns and boost (R179 to R182) -/

/-- Column x is lost (Table 08-4). -/
def lostColumn (g : TableGen) (p : Page) (x : Nat) : Bool :=
  decide (p.desc.firstCol ≤ x) && decide (x ≤ p.desc.firstCol + p.desc.widthM1) &&
  (let u := fun c => g.covers x c
   match p.planOf (x / 64) with
   | 0 => !u 0
   | 1 => !u 0 || !u 1
   | 2 => !u 0 && !u 1
   | _ => (!u 0 && !u 2) || (!u 1 && !u 3))

/-- excl_eff and boost_eff (R181); `hw` is COMP_MODE = HW. -/
def exclEff (hw : Bool) (ctb nm : TableGen) (p : Page) (x : Nat) : Bool :=
  ctb.get CtbStage.exclude x == 1 || (hw && lostColumn nm p x)

def boostEff (hw : Bool) (ctb nm : TableGen) (p : Page) (x : Nat) : Bool :=
  !exclEff hw ctb nm p x &&
  (ctb.get CtbStage.boost x == 1 ||
   (hw && ((x != 0 && lostColumn nm p (x - 1)) || lostColumn nm p (x + 1))))

/-! ### Scaling (R172, R173) -/

/-- Input pixel c of line i of a decoded stripe; none where it is void (R159). -/
def inputPixel (d : Decoded) (bits i c : Nat) : Option Nat :=
  let b := i * d.lb + c * bits / 8
  if d.voidFrom ≤ b then none
  else some ((d.out.getD b 0).toNat / 2 ^ (c * bits % 8) % 2 ^ bits)

/-- The 3:1 kernel. -/
def kernel (own : Nat) (other : Option Nat) : Nat := (3 * own + other.getD own + 2) / 4

/-- The neighbour of an even output lies before, that of an odd output after; none outside the bounds. -/
def neighbour (i odd n : Nat) : Option Nat :=
  if odd = 1 then (if i + 1 < n then some (i + 1) else none) else (if i = 0 then none else some (i - 1))

/-- Along the web: the value of input column c at print line y of the stripe (f print lines per input line). -/
def alongValue (d : Decoded) (bilinear : Bool) (f y c : Nat) : Option Nat :=
  let i := y / f
  match inputPixel d 8 i c with
  | none => none
  | some v =>
    if bilinear ∧ f = 2 then
      some (kernel v ((neighbour i (y % 2) d.lines).bind (fun k => inputPixel d 8 k c)))
    else some v

/-- scaled(x, y): the value under print column `k` of the page, none for VOID. -/
def scaled (p : Page) (d : Decoded) (f y k : Nat) : Option Nat :=
  let bil := p.desc.flag 1
  if p.desc.format ≤ 1 then
    match alongValue d bil f y (k / 2) with
    | none => none
    | some v =>
      if bil then some (kernel v ((neighbour (k / 2) (k % 2) p.desc.pixels).bind (fun c => alongValue d bil f y c)))
      else some v
  else alongValue d bil f y k

/-! ### Threshold cells (Table 08-2) -/

/-- Word w of the threshold window of a slot, cell (u, w). -/
def State.thrWord (s : State) (slot u w n : Nat) : Nat :=
  s.get ThrWin.v (slot * 262144 + 4 * (256 * w + u) + n)

/-- The 128 bits of a cell. -/
def State.thrCell (s : State) (slot u w : Nat) : Nat :=
  s.thrWord slot u w 0 + s.thrWord slot u w 1 * 2 ^ 32 + s.thrWord slot u w 2 * 2 ^ 64 + s.thrWord slot u w 3 * 2 ^ 96

/-- Threshold Tj of a cell, j from 1. -/
def cellT (cell j : Nat) : Nat := cell / 2 ^ (12 * (j - 1)) % 4096

/-- T1 to T7 rise (R174). -/
def cellMono (cell : Nat) : Bool := (List.range 6).all (fun j => decide (cellT cell (j + 1) ≤ cellT cell (j + 2)))

/-- Thresholds that a tone passes. -/
def cellCount (cell tone : Nat) : Nat := ((List.range 7).filter (fun j => decide (cellT cell (j + 1) < tone))).length

/-! ### A line (R171, R178) -/

/-- clamp to 0 to 4,095. -/
def clamp12 (x : Int) : Nat := if x < 0 then 0 else min x.toNat 4095

/-- The tone of value v under a column-table entry (R171). -/
def toneOf (ctb : TableGen) (toneSet x k v : Nat) : Nat :=
  let tone := ctb.get CurveStage.v (256 * ctb.get ScrTsmap.curve (64 * toneSet + k) + v)
  clamp12 (((tone * ctb.get CtbStage.gain x + 64) / 128 : Nat) + 8 * signed 8 (ctb.get CtbStage.offset x))

/-- The code of a contone pixel in print column x of print line y. -/
def State.contoneCode (s : State) (hw : Bool) (ctb nm : TableGen) (p : Page) (d : Decoded) (f y yy x : Nat) : Nat :=
  match scaled p d f yy (x - p.desc.firstCol) with
  | none => 0
  | some v =>
    if exclEff hw ctb nm p x then 0
    else
      let k := if boostEff hw ctb nm p x then ctb.get CtbStage.bcurve x else ctb.get CtbStage.curve x
      let tone := toneOf ctb p.desc.toneSet x k v
      let e := 4 * p.desc.screenSet + ownerOf (p.planOf (x / 64)) y
      let a := ctb.get ScrSset.array e
      let u := (x + ctb.get ScrSset.xofs e) % s.get ScrThrCtl.width a
      let w := (y + ctb.get ScrSset.yofs e) % s.get ScrThrCtl.height a
      cellCount (s.thrCell a u w) tone

/-- The code of a raster pixel (R178). -/
def rasterCode (p : Page) (d : Decoded) (yy k : Nat) : Nat :=
  match inputPixel d p.desc.bits yy k with
  | none => 0
  | some v => if p.desc.format = 6 then v % 8 else p.desc.rasMap / 2 ^ (3 * v) % 8

/-- Columns and codes that are not 0, for `n` columns from x on. -/
def lineCodes (code : Nat → Nat) : Nat → Nat → Tab Nat
  | 0, _ => []
  | n + 1, x => if code x = 0 then lineCodes code n (x + 1) else (x, code x) :: lineCodes code n (x + 1)

/-- A line of the page's width. -/
def pageCodes (firstCol width : Nat) (code : Nat → Nat) : Tab Nat := lineCodes code width firstCol

/-- The line of a trailer (R354). -/
def State.trailerCodes (s : State) (t : Trailer) (k : Nat) : Tab Nat :=
  if k < 768 * t.sets.length then
    let r := k % 768
    if r % 48 < 32 then pageCodes t.firstCol t.width (fun x => if x % 16 = r / 48 then s.get InsCtrl.chkCode 0 else 0)
    else []
  else
    let r := k - 768 * t.sets.length
    if r < 64 then
      (List.range 4).foldl (fun codes m =>
        if s.get InsMarkPos.en m = 1 then
          (List.range 64).foldl (fun codes u =>
            let w := s.get InsTmpl.v (128 * s.get InsMarkPos.tmpl m + 2 * r + u / 32)
            if w / 2 ^ (u % 32) % 2 = 1 ∧ s.get InsTrl.markCode 0 ≠ 0
            then Tab.insert (s.get InsMarkPos.col m + u) (s.get InsTrl.markCode 0) codes else codes) codes
        else codes) []
    else []

/-- A band-ring line is written (R189): its slot takes it. -/
def State.writeLine (s : State) (b : BandLine) : State :=
  { s with scr := { s.scr with ring := Tab.insert (b.line % s.depth) b s.scr.ring,
                               written := max s.scr.written (b.line + 1) } }

def State.bandLine (s : State) (line : Nat) : Option BandLine :=
  match Tab.find s.scr.ring (line % s.depth) with
  | some b => if b.line = line then some b else none
  | none => none

/-- R185: the page's generation is loaded into screening SRAM. -/
def State.loadCtb (s : State) (gen : Nat) : State :=
  if s.scr.ctbLoaded = gen then s
  else ({ s with scr := { s.scr with ctbLoaded := gen } }).bump ScrCnt.genLoads 0

/-- A line of a page (R171, R178, R543): blank where its data was passed over or its page is closed, else screened; nothing
happens while its stripe is still being decoded. -/
def State.screenPageLine (s : State) (p : Page) (line y : Nat) : State :=
  let f := s.ratio p
  let i := y / f / 256
  let blank (lost : Bool) : State := s.writeLine ⟨line, p.pseq, y, [], lost⟩
  if p.closed ∨ p.blankFrom.isSome ∨ (p.record.status = 1 ∧ p.record.reason = 4) then blank false
  else match s.codec.decoded.find? (fun d => d.pseq == p.pseq && d.stripe == i) with
  | none =>
    let passed : Bool := match p.stripe i with
      | some t => t.assigned && !s.decoding p.pseq i
      | none => false
    if passed then blank true else s
  | some d =>
    let yy := y - 256 * i * f
    let ctb := s.ctbGen p.ctbGen
    let s := if p.desc.contone then s.loadCtb p.ctbGen else s
    let codes :=
      if p.desc.contone then
        pageCodes p.desc.firstCol (p.desc.widthM1 + 1) (fun x =>
          s.contoneCode s.compHw ctb (s.nmGen p.nmGen) p d f y yy x)
      else pageCodes p.desc.firstCol (p.desc.widthM1 + 1) (fun x => rasterCode p d yy (x - p.desc.firstCol))
    let s := s.writeLine ⟨line, p.pseq, y, codes, false⟩
    let void := decide (d.voidFrom < (yy / f + 1) * d.lb)
    let s := if void then s.countBy ScrCnt.voidLines ScrCnt.ovf 0 1 else s
    if yy + 1 = d.lines * f then
      { s with codec := { s.codec with decoded := s.codec.decoded.filter (fun e => !(e.pseq == p.pseq && e.stripe == i)) } }
    else s

/-- SCREEN_LINE: the writer begins a line whose slot is free (R547). -/
def State.screenLine (s : State) (line : Nat) : State :=
  if s.writerReach ≤ line ∨ (s.bandLine line).isSome then s
  else match s.pageOfLine line with
  | some (p, y) => s.screenPageLine p line y
  | none => match s.trailerOfLine line with
    | some (t, k) => s.writeLine ⟨line, t.pseq, k, s.trailerCodes t k, false⟩
    | none => s

/-! ### Threshold slots (R187, R188) -/

/-- An SCR_SSET entry of some source names slot k. -/
def namesSlot (get : Fld → Nat → Nat) (k : Nat) : Bool :=
  (List.range 32).any (fun n => get ScrSset.valid n == 1 && get ScrSset.array n == k)

/-- A generation listed in R187 names the slot. -/
def State.slotNamed (s : State) (k : Nat) : Bool :=
  namesSlot s.get k || namesSlot s.ctbNewest.get k || namesSlot (s.ctbGen (s.get ScrGenCur.v 0)).get k ||
  s.pages.any (fun p => p.scheduled && namesSlot (s.ctbGen p.ctbGen).get k)

/-- The OPEN action of a write. -/
def State.thrOpen (s : State) (k : Nat) : State :=
  if s.slotNamed k then s.put ScrThrCtl.refused k 1 else s.put ScrThrCtl.state k 1

/-- The W1C fields of a write of SCR_THR_CTL. -/
def State.thrClear (s : State) (k : Nat) (value : Word) : State :=
  let s := if ScrThrCtl.refused.of value = 1 then s.put ScrThrCtl.refused k 0 else s
  if ScrThrCtl.monoErr.of value = 1 then s.put ScrThrCtl.monoErr k 0 else s

/-- The sizes of a write, taken only while the slot is OPEN. -/
def State.thrSize (s : State) (k : Nat) (value : Word) : State :=
  if s.get ScrThrCtl.state k = 1 then
    (s.put ScrThrCtl.width k (ScrThrCtl.width.of value)).put ScrThrCtl.height k (ScrThrCtl.height.of value)
  else s

/-- The first cell of a slot whose thresholds are out of order: u, w. -/
def State.thrBad (s : State) (k : Nat) : Option (Nat × Nat) :=
  let w := s.get ScrThrCtl.width k
  ((List.range (w * s.get ScrThrCtl.height k)).find? (fun n => !cellMono (s.thrCell k (n % w) (n / w)))).map
    (fun n => (n % w, n / w))

def State.thrSizesOk (s : State) (k : Nat) : Bool :=
  let w := s.get ScrThrCtl.width k
  let h := s.get ScrThrCtl.height k
  decide (1 ≤ w) && decide (w ≤ 256) && decide (1 ≤ h) && decide (h ≤ 256)

/-- The CLOSE action: sizes outside 1 to 256 fail at once; otherwise the check runs and ends with SCR_THR_CHECK_DONE. -/
def State.thrClose (s : State) (k : Nat) : State :=
  if s.get ScrThrCtl.state k = 1 ∧ ¬s.thrSizesOk k then s.put ScrThrCtl.monoErr k 1
  else if s.get ScrThrCtl.state k = 1 then
    { s with scr := { s.scr with thrChecks := if s.scr.thrChecks.contains k then s.scr.thrChecks else k :: s.scr.thrChecks } }
  else s

/-- The check ends (R188). -/
def State.thrCheck (s : State) (k : Nat) : State :=
  if ¬s.scr.thrChecks.contains k then s
  else
    let s := { s with scr := { s.scr with thrChecks := s.scr.thrChecks.filter (fun j => j != k) } }
    match s.thrBad k with
    | none => s.put ScrThrCtl.state k 2
    | some (u, w) => (s.put ScrThrCtl.monoErr k 1).record .scrThrMono k [a8 u, a8 w]

/-! ### The commands -/

def execScreenLine (line : Nat) (s : State) : Ans := .next (s.screenLine line)

/-- A COMMIT while BUSY waits with the writes that are held behind it. DEDUCED (log 36). -/
def execScrCommit (s : State) : Ans :=
  .next (if s.role = roleStandby then s.standbyCommit
    else if s.get ScrCommit.busy 0 = 1 then
      { s with scr := { s.scr with ctbHeld := s.scr.ctbHeld ++ [(ScrCommit.commit.reg.addr 0, 1)] } }
    else s.put ScrCommit.busy 0 1)

/-- The write answers the HM_CHANGE that waits (R517). -/
def execNmCommit (s : State) : Ans :=
  .next (if s.role = roleStandby then s.standbyCommit
    else
    let s := { s with hmWait := none }
    if s.get NmCommit.busy 0 = 1 then
      { s with scr := { s.scr with nmHeld := s.scr.nmHeld ++ [(NmCommit.commit.reg.addr 0, 1)] } }
    else s.put NmCommit.busy 0 1)

/-- A write of SCR_THR_CTL: OPEN, then the sizes, which a refused OPEN takes with it, then CLOSE. DEDUCED (log 35). -/
def State.thrWrite (s : State) (k : Nat) (opens : Bool) (value : Word) : State :=
  let s := s.thrClear k value
  let refused := opens && s.slotNamed k
  let s := if opens then s.thrOpen k else s
  let s := if refused then s else s.thrSize k value
  if ScrThrCtl.close.of value = 1 then s.thrClose k else s

def execScrThrOpen (k : Fin 8) (value : Word) (s : State) : Ans := .next (s.thrWrite k.val true value)

def execScrThrClose (k : Fin 8) (value : Word) (s : State) : Ans :=
  .next (s.thrWrite k.val (ScrThrCtl.open_.of value == 1) (value ||| BitVec.ofNat 32 (2 ^ 21)))

def execScrThrCheckDone (k : Fin 8) (s : State) : Ans := .next (s.thrCheck k.val)

end Sys2Proof.Machine
end

