-- ==== Sys2Proof/Machine/HeadOps.lean ====
section
/-!
DEFINITION. Operations on head ports: what may be sent, the management queue, bring-up, withdrawals
(spec/11_head_link.md; R204 to R206 of spec/09_nozzle_map_and_fetch.md).
-/
namespace Sys2Proof.Machine

def State.port (s : State) (p : Nat) : Port := Tab.get Port.reset s.ports p

def State.setPort (s : State) (p : Nat) (x : Port) : State := { s with ports := Tab.set Port.reset s.ports p x }

def State.mapPort (s : State) (p : Nat) (f : Port → Port) : State := s.setPort p (f (s.port p))

/-! States of HP_STAT. -/

def hpDown : Nat := 0
def hpSync : Nat := 1
def hpAuth : Nat := 2
def hpLoad : Nat := 3
def hpReady : Nat := 4
def hpAsleep : Nat := 5

def State.hpState (s : State) (p : Nat) : Nat := s.get HpStat.state p

/-- R252: line frames, stamps, HEAT and the requests that change a head go out only from the active twin whose fence input is
high. -/
def State.mayDrive (s : State) : Bool := s.acting && s.pins.fenceInN && s.twin.handed.isNone

/-- Something is sent on a head lane: an SMSG by its TYPE (Table 11-2), a line frame as 0x4C, a management request as
0x100 + OP, EAB as 0x200. -/
def State.sendHead (s : State) (p kind : Nat) (args : List Nat) : State := s.send (.head p kind args)

/-! ### Management requests (R252, R256, R275) -/

def opTable : Nat := 4
def opTableEnd : Nat := 5
def opTrimUpd : Nat := 6
def opRowfUpd : Nat := 7
def opUsageWr : Nat := 0x0C

/-- HELLO_RQ, CONFIG, CHALLENGE and USAGE_RD belong to a standby's keep-alive traffic. -/
def keepAlive (op : Nat) : Bool := op == 2 || op == 3 || op == 8 || op == 0x0A

/-- R282: an UNVERIFIED head that is idle by policy gets no TRIM_UPD, ROWF_UPD or USAGE_WR. -/
def State.opAllowed (s : State) (p op : Nat) : Bool :=
  (s.mayDrive || keepAlive op) &&
  !((op == opTrimUpd || op == opRowfUpd || op == opUsageWr) && s.flag HpStat.unverified p &&
    s.get HpGctrl.unverFire 0 == 0)

/-- The downstream lane is asked to wake (R286). -/
def State.wakePort (s : State) (p : Nat) : State :=
  if (s.port p).sleepReq then
    ((s.mapPort p (fun x => { x with sleepReq := false })).put LnCtrl.txSleep p 0).requestWake p
  else s

def State.startReq (s : State) (p : Nat) (r : MgmtReq) : State :=
  (s.sendHead p (0x100 + r.op) r.args).mapPort p (fun x => { x with request := some r })

/-- At most one request is outstanding per port; others wait in order. -/
def State.queueReq (s : State) (p op : Nat) (args : List Nat) : State :=
  if ¬s.opAllowed p op then s
  else
    let s := s.wakePort p
    match (s.port p).request with
    | none => s.startReq p ⟨op, args, 0⟩
    | some _ => s.mapPort p (fun x => { x with waiting := x.waiting ++ [⟨op, args, 0⟩] })

/-- The outstanding request has ended: the next one that is still allowed is sent. -/
def State.nextReq (s : State) (p : Nat) : State :=
  let s := s.mapPort p (fun x => { x with request := none })
  let s := s.mapPort p (fun x => { x with waiting := x.waiting.filter (fun r => s.opAllowed p r.op) })
  match (s.port p).waiting with
  | [] => s
  | r :: rest => (s.mapPort p (fun x => { x with waiting := rest })).startReq p r

/-! ### Withdrawals (R204, R205, R246, R247, R280, R282) -/

/-- The port cannot fire: it is not READY, in thermal hold, without telemetry, stopped by an epoch, or its UNVERIFIED head is
idle by policy. -/
def State.portOut (s : State) (p : Nat) : Bool :=
  s.hpState p != hpReady || s.flag HpTstat.hold p || s.flag HpTstat.stale p || (s.port p).staleEpoch ||
  (s.flag HpStat.unverified p && s.get HpGctrl.unverFire 0 == 0)

def State.withdrawals (s : State) (p : Nat) : List Withdrawal := Tab.get [] s.ff.wd p

/-- The port is withdrawn now. -/
def State.wdOpen (s : State) (p : Nat) : Bool :=
  match s.withdrawals p with
  | w :: _ => w.w1.isNone
  | [] => false

def State.nextLine (s : State) (p : Nat) : Nat := Tab.get 0 s.ff.next p

def State.setWd (s : State) (p : Nat) (l : List Withdrawal) : State := { s with ff := { s.ff with wd := Tab.set [] s.ff.wd p l } }

/-- A withdrawal begins at W0, the first web line of the port not yet dispatched (R205); cause 1 thermal, 0 other. -/
def State.beginWd (s : State) (p cause : Nat) : State :=
  if s.wdOpen p then s
  else { s.setWd p (⟨s.nextLine p, none, [], s.ff.next⟩ :: s.withdrawals p) with
         twin := { s.twin with wdDue := s.twin.wdDue ++ [(p, true, cause)] } }

/-- It ends at W1, the first line not yet dispatched. -/
def State.endWd (s : State) (p : Nat) : State :=
  match s.withdrawals p with
  | w :: rest =>
    if w.w1.isNone then
      { s.setWd p ({ w with w1 := some (s.nextLine p) } :: rest) with
        twin := { s.twin with wdDue := s.twin.wdDue ++ [(p, false, 0)] } }
    else s
  | [] => s

/-- HDEN_N[k] gives drive power to ports 8k to 8k + 7 while one of them has been brought up (Table 02-2 names the pin's function and
no rule its moment). DESIGN CHOICE (log 26). -/
def State.driveHeads (s : State) (k : Nat) : State :=
  let up := s.mayAssert && (List.range 8).any (fun i => decide (hpReady ≤ s.hpState (8 * k + i)))
  if s.committed then { s with pins := { s.pins with hdenN := s.pins.hdenN.set k (!up) } } else s

/-- A device that acts withdraws a port that cannot fire and resumes one that can; a standby follows the journal (R432). -/
def State.syncWd (s : State) (p : Nat) : State :=
  let s := s.calWatch.driveHeads (p / 8)
  if s.acting then
    if s.portOut p then s.beginWd p (if s.flag HpTstat.hold p || s.flag HpTstat.stale p then 1 else 0) else s.endWd p
  else s

/-- withdrawn(p, r, n) of R205, with DI the row's delay. -/
def wdCovers (w : Withdrawal) (di r n : Nat) : Bool :=
  decide (w.w0 ≤ n + di) &&
  (match w.w1 with
   | none => true
   | some w1 => decide (n + di < w1) || decide (n < Tab.get 0 w.subst r))

def State.withdrawn (s : State) (p di r n : Nat) : Bool := (s.withdrawals p).any (fun w => wdCovers w di r n)

/-- A substitute has fired band-ring line n in place of row r: H1(r) lies above it. -/
def State.noteSubst (s : State) (p r n : Nat) : State :=
  s.setWd p ((s.withdrawals p).map (fun w =>
    if w.w1.isNone then { w with subst := Tab.insert r (max (n + 1) (Tab.get 0 w.subst r)) w.subst } else w))

/-! ### Bring-up (Table 11-7) -/

/-- HP_CTRL.DEPTH: 0 acts as 3. -/
def State.ctrlDepth (s : State) (p : Nat) : Nat :=
  let d := s.get HpCtrl.depth p
  if d = 0 then 3 else d

/-- Step 1: the echoes start, the head is asked again who it is; the depth is taken (R255). -/
def State.startBringUp (s : State) (p : Nat) : State :=
  let s := ((((s.put HpStat.state p hpSync).put HpStat.verified p 0).put HpStat.unverified p 0).put HpStat.timeOk p 0).put
    HpStat.tablesOk p 0
  let s := s.mapPort p (fun x =>
    { x with depth := s.ctrlDepth p, echoOut := [], echoes := [], badSets := 0, delayOk := false, retryWait := false,
             helloOk := false, request := none, waiting := [], staleEpoch := false })
  s.syncWd p

/-- A PARAM reply is missing after the retries of R275: the steps that wait for it fail (R401). -/
def State.paramLost (s : State) (p : Nat) : State :=
  (s.mot.acts.filter (fun (a : Activity) => a.replies.contains p && !a.failed)).foldl (fun t (a : Activity) => t.failStep a.num) s

/-- An answer to a PARAM request came from the port. -/
def State.paramReplied (s : State) (p : Nat) : State :=
  { s with mot := { s.mot with acts := s.mot.acts.map (fun (a : Activity) => { a with replies := a.replies.filter (fun q => q != p) }) } }

/-- Bring-up restarts while the lane stays up: HELLO is requested, since the head sends it unasked only at link UP. -/
def State.restartBringUp (s : State) (p : Nat) : State :=
  let s := s.paramLost p
  if s.isUp p then (s.startBringUp p).queueReq p 2 [] else s

/-- The link goes DOWN. -/
def State.portDown (s : State) (p : Nat) : State :=
  let s := ((s.paramLost p).put HpStat.state p hpDown).put HpStat.timeOk p 0
  (s.mapPort p (fun x => { x with request := none, waiting := [], helloOk := false, delayOk := false, retryWait := false,
                                  sleepReq := false })).syncWd p

/-- HEAD_TABLE data of a kind for a port (R83): the latest record that names it. -/
def State.headTable (s : State) (p kind : Nat) : Option (List Byte) :=
  ((s.img.headTables.filter (fun t => t.kind == kind && t.mask / 2 ^ p % 2 == 1)).getLast?).map (fun t => t.data)

/-- TABLE frames of at most 500 data bytes, then TABLE_END with the CRC of the whole table (Table 11-5). -/
def tableChunks (kind : Nat) : Nat → Nat → List Byte → List (List Nat)
  | 0, _, _ => []
  | n + 1, ofs, data =>
    if data = [] then []
    else ([kind, ofs / 4] ++ (data.take 500).map (fun b => b.toNat)) :: tableChunks kind n (ofs + 500) (data.drop 500)

def State.sendTable (s : State) (p kind : Nat) (data : List Byte) : State :=
  let s := (tableChunks kind (data.length + 1) 0 data).foldl (fun t a => t.queueReq p opTable a) s
  s.queueReq p opTableEnd [kind, crc32c data]

/-- Trim of nozzle i in a table of kind 1, as the 4-bit field (Table 11-6). -/
def trimOf (data : List Byte) (i : Nat) : Nat := (data.getD (i / 2) 0).toNat / 16 ^ (i % 2) % 16

/-- Nozzle indexes of a port that a generation lists. -/
def TableGen.portNozzles (g : TableGen) (p : Nat) : List Nat :=
  ((g.tab.filterMap (fun e =>
    if e.1 / 32 % 512 = Reg.nmStage.ctorIdx then some (e.1 / 16384) else none)).filter (fun i => i / 2048 == p)).eraseDups

/-- Entries in groups of at most 63 to a frame (504 bytes). -/
def groups63 : Nat → List (List Nat) → List (List Nat)
  | 0, _ => []
  | n + 1, l => if l = [] then [] else (l.take 63).flatten :: groups63 n (l.drop 63)

/-- TRIM_UPD for every nozzle whose trim in the generation differs from the head's: NOZ, TRIM, EFF_LINE (R197, R277). -/
def State.sendTrims (s : State) (p : Nat) (g : TableGen) (first : Nat) : State :=
  let x := s.port p
  let cand := (g.portNozzles p ++ x.trims.map (fun e => 2048 * p + e.1)).eraseDups
  let diff := cand.filter (fun i => !g.absent i && g.get NmStage.trim i != Tab.get 0 x.trims (i % 2048))
  let entries := diff.map (fun i =>
    [i % 2048, g.get NmStage.trim i, (first + g.rowDelay p (g.get NmStage.row i)) % 2 ^ 32])
  let s := (groups63 (entries.length + 1) entries).foldl (fun t a => t.queueReq p opTrimUpd a) s
  s.mapPort p (fun x => { x with trims := diff.foldl (fun t i => Tab.set 0 t (i % 2048) (g.get NmStage.trim i)) x.trims })

/-- ROWF_UPD for every row whose DF differs from what the head holds: ROW, DF, EFF_LINE (R277). -/
def State.sendRowFractions (s : State) (p : Nat) (g : TableGen) (first : Nat) : State :=
  let x := s.port p
  let df := fun r => g.get GeoStage.df (rowIndex p r)
  let diff := (List.range 32).filter (fun r => df r != Tab.get 0 x.rowFrac r)
  if diff = [] then s
  else
    let s := s.queueReq p opRowfUpd (diff.flatMap (fun r => [r, df r, (first + g.rowDelay p r) % 2 ^ 32]))
    s.mapPort p (fun x => { x with rowFrac := diff.foldl (fun t r => Tab.set 0 t r (df r)) x.rowFrac })

/-- The page last scheduled, if it is still held: its first line. -/
def State.lastFirst (s : State) : Nat :=
  (s.pages.filter (fun p => p.scheduled)).foldl (fun m p => max m p.first) 0

/-- Step 5, active twin only: kinds 0 to 3 with TABLE_END for each, then the trims that differ (R277). -/
def State.sendTables (s : State) (p : Nat) : State :=
  let g := s.nmGen (s.get NmGenCur.v 0)
  let s := [0, 1, 2].foldl (fun t k => match t.headTable p k with
    | some d => t.sendTable p k d
    | none => t) s
  let frac := (List.range 32).map (fun r => BitVec.ofNat 8 (g.get GeoStage.df (rowIndex p r)))
  let s := s.sendTable p 3 frac
  let trims : Tab Nat := match s.headTable p 1 with
    | some d => (List.range 2048).foldl (fun t i => Tab.set 0 t i (trimOf d i)) []
    | none => []
  let fracs : Tab Nat := (List.range 32).foldl (fun t r => Tab.set 0 t r (g.get GeoStage.df (rowIndex p r))) []
  let s := s.mapPort p (fun x => { x with trims := trims, rowFrac := fracs })
  s.sendTrims p g s.lastFirst

/-- Step 6: every request answered, delay measured, telemetry shows TIME_VALID and TABLES_OK (Table 11-7, R287). -/
def State.tryReady (s : State) (p : Nat) : State :=
  let x := s.port p
  if (s.hpState p = hpLoad ∨ (s.hpState p = hpAsleep ∧ ¬x.sleepReq)) ∧ x.request.isNone ∧ x.waiting = [] ∧
      s.flag HpStat.timeOk p ∧ s.flag HpStat.tablesOk p ∧ x.delayOk then
    let s := (s.put HpStat.state p hpReady).syncWd p
    { s with fpe := { s.fpe with applied := Tab.erase p s.fpe.applied } }
  else s

/-! ### Line frames (R254) -/

/-- Payload of a line frame: code i in bits D i to D i + D - 1. -/
def framePayload (d : Nat) (codes : Tab Nat) : List Byte :=
  leBytes (256 * d) (codes.foldl (fun n e => n + e.2 * 2 ^ (d * e.1)) 0)

/-- Header of a line frame (Table 11-1). -/
def HeadFrame.header (f : HeadFrame) : List Byte :=
  leBytes 4 f.line ++ leBytes 4 f.rowMask ++ leBytes 2 f.wscale ++ leBytes 2 f.heater ++ leBytes 1 f.epoch ++
  leBytes 1 f.flags ++ leBytes 1 f.csMask ++ leBytes 1 0

/-- CRC-32C of header and payload (R253). -/
def HeadFrame.check (f : HeadFrame) : Nat := crc32c (f.header ++ framePayload f.depth f.codes)

/-- Its fields as they are sent. -/
def HeadFrame.args (f : HeadFrame) : List Nat :=
  [f.line % 2 ^ 32, f.rowMask, f.wscale, f.heater, f.epoch, f.flags, f.csMask, f.depth] ++ f.codes.flatMap (fun e => [e.1, e.2])

/-- HEATER: twice the thermal loop's output, 0 in thermal hold (R244, Table 13-4). -/
def State.heaterDuty (s : State) (p : Nat) : Nat :=
  if s.flag HpTstat.hold p ∨ s.flag HpTstat.stale p then 0 else (2 * Tab.get 0 s.loop.heater p).toNat % 65536

end Sys2Proof.Machine
end

