-- ==== Sys2Proof/Machine/Fetch.lean ====
section
/-!
DEFINITION. Fire fetch: line frames, substitution, duty limits, late data, the scree log and the journal of dispatched lines
(spec/09_nozzle_map_and_fetch.md; R432 of spec/18_twin_operation.md).
-/
namespace Sys2Proof.Machine

/-! ### Scree log (R213 to R215) -/

/-- FF_SCREE_SIZE in force: values outside 12 to 20 act as 16. -/
def State.screeSize (s : State) : Nat :=
  let l := s.inForce FfScreeSize.log2 0
  2 ^ (if 12 ≤ l ∧ l ≤ 20 then l else 16)

/-- The 32 bytes of an entry (Table 09-3) as one number. -/
def ScreeEntry.word (e : ScreeEntry) : Nat :=
  e.pseq % 2 ^ 64 + e.first % 2 ^ 32 * 2 ^ 64 + e.last % 2 ^ 32 * 2 ^ 96 + e.kind % 2 ^ 8 * 2 ^ 128 +
  e.port % 2 ^ 8 * 2 ^ 136 + e.cs % 2 ^ 8 * 2 ^ 144 + e.nozFirst % 2 ^ 16 * 2 ^ 160 + e.nozLast % 2 ^ 16 * 2 ^ 176 +
  e.changed % 2 ^ 32 * 2 ^ 192 + e.removed % 2 ^ 32 * 2 ^ 224

/-- An entry is written, or counted as lost where the ring is full (R215). -/
def State.writeScree (s : State) (e : ScreeEntry) : State :=
  let wr := s.get FfScreeWr.v 0
  if (wr + 2 ^ 32 - s.get FfScreeRd.v 0) % 2 ^ 32 < s.screeSize then
    ({ s with ff := { s.ff with ring := Tab.insert (wr % s.screeSize) e.word s.ff.ring } }).put FfScreeWr.v 0 (wr + 1)
  else (s.count FfScreeLost.count FfScreeLost.ovf 0).mapPage e.pseq (fun p => p.setFlag 6)

/-- Kinds 2 and 3 keep one entry per nozzle, kinds 8 to 11 concern whole lines. -/
def nozzleKind (kind : Nat) : Bool := kind == 2 || kind == 3
def wholeKind (kind : Nat) : Bool := decide (8 ≤ kind)

/-- The open entry that an alteration belongs to. -/
def sameEntry (pseq kind port noz : Nat) (e : ScreeEntry) : Bool :=
  e.pseq == pseq && e.kind == kind && e.port == port && (!nozzleKind kind || e.nozFirst == noz)

def State.closeScree (s : State) (e : ScreeEntry) : State :=
  ({ s with ff := { s.ff with scree := s.ff.scree.filter (fun x => !sameEntry e.pseq e.kind e.port e.nozFirst x) } }).writeScree e

/-- A new entry counts in the page's SCREE_COUNT and marks it ALTERED. -/
def State.openScree (s : State) (e : ScreeEntry) : State :=
  ({ s with ff := { s.ff with scree := s.ff.scree ++ [e] } }).mapPage e.pseq (fun p =>
    { p with record := { p.record.flag 0 with screeCount := satAdd 32 p.record.screeCount 1 } })

/-- An alteration widens the open entry or opens a new one: page lines, nozzle, counts. -/
def State.scree (s : State) (pseq kind port cs noz lo hi changed removed : Nat) : State :=
  let cs := if kind = 1 ∨ wholeKind kind then 255 else cs
  let nf := if kind = 1 ∨ wholeKind kind then 0 else noz
  let nl := if kind = 1 ∨ wholeKind kind then 2047 else noz
  let fresh : ScreeEntry := ⟨pseq, kind, port, cs, nf, nl, lo, hi, satAdd 32 0 changed, satAdd 32 0 removed, 0⟩
  match s.ff.scree.find? (sameEntry pseq kind port noz) with
  | none => s.openScree fresh
  | some e =>
    let lo' := min e.first lo
    let hi' := max e.last hi
    if (4096 < hi' + 1 - lo' ∨ 256 ≤ e.quiet) ∧ ¬nozzleKind kind then (s.closeScree e).openScree fresh
    else
      let e' : ScreeEntry :=
        { e with first := lo', last := hi', nozFirst := min e.nozFirst nf, nozLast := max e.nozLast nl,
                 cs := if e.cs = cs then cs else 255, changed := satAdd 32 e.changed changed,
                 removed := satAdd 32 e.removed removed, quiet := 0 }
      { s with ff := { s.ff with scree := s.ff.scree.map (fun x => if sameEntry pseq kind port noz x then e' else x) } }

/-- One more frame of a port (or decided line of the bar, port 255) without an alteration. -/
def State.screeQuiet (s : State) (port : Nat) : State :=
  { s with ff := { s.ff with scree := s.ff.scree.map (fun e =>
    if e.port = port ∧ ¬nozzleKind e.kind then { e with quiet := e.quiet + 1 } else e) } }

/-- Every row of the port (of every port, for 255) has passed the page's last line. -/
def State.portPassed (s : State) (port pseq : Nat) : Bool :=
  match s.page pseq with
  | none => true
  | some p =>
    let g := s.nmGen p.nmGen
    if port = 255 then decide (s.pageEnd p + g.maxDelay ≤ s.fpe.decided)
    else decide (s.pageEnd p + g.maxDelay ≤ s.nextLine port)

/-- SCREE_ENTRY_CLOSE: an entry that may close closes. -/
def State.screeClose (s : State) (pseq kind port noz : Nat) : State :=
  match s.ff.scree.find? (sameEntry pseq kind port noz) with
  | none => s
  | some e =>
    if s.portPassed port pseq ∨ (256 ≤ e.quiet ∧ ¬nozzleKind kind) then s.closeScree e else s

/-! ### What a port's nozzles are over (R199, R201) -/

/-- A nozzle with a role on a web line: its index in the head, row and delay, band-ring line, page and page line, generation
entry, column, coverage set, whether it owns or substitutes, and whether the line is a strip block line. -/
structure Site where
  noz : Nat
  row : Nat
  di : Nat
  n : Nat
  page : Page
  y : Nat
  col : Nat
  cs : Nat
  owner : Nat
  isOwner : Bool
  strip : Bool
  deriving DecidableEq, Repr

/-- The block of a strip line: its coverage set. -/
def Trailer.blockSet (t : Trailer) (k : Nat) : Option Nat := if k < 768 * t.sets.length then t.sets[k / 768]? else none

/-- Where band-ring line n lies in a page: its page line, and the set of the strip block it belongs to. -/
def State.lineIn (s : State) (p : Page) (n : Nat) : Option (Nat × Option Nat) :=
  if p.first ≤ n ∧ n < p.first + p.lines then some (n - p.first, none)
  else match s.ins.trailers.find? (fun t => t.pseq == p.pseq && decide (t.first ≤ n) && decide (n < t.first + t.lines)) with
  | some t => some (n - p.first, t.blockSet (n - t.first))
  | none => none

/-- The role of a nozzle for band-ring line n of a page (R199, R355). -/
def roleOf (plan n cs : Nat) (block : Option Nat) : Option (Nat × Bool) :=
  match block with
  | some c => if cs = c then some (c, true) else none
  | none =>
    let o := ownerOf plan n
    if cs = o then some (o, true) else if substOf plan o = some cs then some (o, false) else none

/-- The sites of a port on web line N. -/
def State.sites (s : State) (p N : Nat) : List Site :=
  (s.pages.filter (fun q => q.scheduled && !q.closed)).flatMap (fun q =>
    let g := s.nmGen q.nmGen
    (g.portNozzles p).filterMap (fun i =>
      let r := g.get NmStage.row i
      let di := g.rowDelay p r
      if g.absent i ∨ N < di then none
      else match s.lineIn q (N - di) with
      | none => none
      | some (y, block) =>
        let x := g.get NmStage.column i
        let c := g.get NmStage.cs i
        match roleOf (q.planOf (x / 64)) (N - di) c block with
        | none => none
        | some (o, isOwner) => some ⟨i % 2048, r, di, N - di, q, y, x, c, o, isOwner, block.isSome⟩))

/-- ROW_MASK and CSMASK. -/
def rowMask (l : List Site) : Nat := l.foldl (fun m t => m ||| 2 ^ t.row) 0
def csMask (l : List Site) : Nat := l.foldl (fun m t => m ||| 2 ^ t.cs) 0

/-- Entries of a generation for a column and set, absent ones aside. -/
def TableGen.entriesAt (g : TableGen) (x c : Nat) : List Nat :=
  (nozzleKeys g g).filter (fun i => g.get NmStage.column i == x && g.get NmStage.cs i == c && !g.absent i)

/-- A strip nozzle fires unless EXCLUDED or capped at 0 (R355); every other one must be usable (R191). -/
def Site.canFire (t : Site) (g : TableGen) (p : Nat) : Bool :=
  let i := 2048 * p + t.noz
  if t.strip then g.get NmStage.state i != 3 && g.get NmStage.cap i != 0 else g.usable i

/-- The usable owner of the site's column, if any. -/
def Site.ownerNozzle (t : Site) (g : TableGen) : Option Nat := (g.entriesAt t.col t.owner).find? g.usable

/-- Its port is withdrawn for the line (R204). -/
def State.ownerWithdrawn (s : State) (t : Site) (g : TableGen) (j : Nat) : Bool :=
  s.withdrawn (j / 2048) (g.rowDelay (j / 2048) (g.get NmStage.row j)) (g.get NmStage.row j) t.n

/-- owner_out(P, x, o, n). -/
def State.ownerOut (s : State) (t : Site) (g : TableGen) : Bool :=
  match t.ownerNozzle g with
  | none => true
  | some j => s.ownerWithdrawn t g j

/-- The drop would be fired at this site. -/
def State.fires (s : State) (p : Nat) (t : Site) : Bool :=
  let g := s.nmGen t.page.nmGen
  t.canFire g p && !s.withdrawn p t.di t.row t.n && (t.isOwner || s.ownerOut t g) && t.page.blankFrom.isNone

/-- The code in the band ring, none while the line is not ready (R203). -/
def State.bandCode (s : State) (n x : Nat) : Option Nat := (s.bandLine n).map (fun b => Tab.get 0 b.codes x)

/-- A trim or row-fraction update that touches web line N has not been acknowledged (R278). -/
def State.updatePending (s : State) (p N : Nat) : Bool :=
  let x := s.port p
  let reqs := (match x.request with
    | some r => [r]
    | none => []) ++ x.waiting
  let eff : List Nat → Bool := fun a => (List.range (a.length / 3)).any (fun k => decide (a.getD (3 * k + 2) 0 ≤ N % 2 ^ 32))
  reqs.any (fun r => (r.op == opTrimUpd || r.op == opRowfUpd) && eff r.args)

/-- The frame can be completed: every line it fires from is ready and every update acknowledged. -/
def State.frameComplete (s : State) (p N : Nat) (l : List Site) : Bool :=
  l.all (fun t => !s.fires p t || (s.bandLine t.n).isSome) && !s.updatePending p N

/-! ### Duty limits (R207 to R209) -/

def State.weight (s : State) (k : Nat) : Nat :=
  match k with
  | 1 => s.get FfDutyW0.w1 0 | 2 => s.get FfDutyW0.w2 0 | 3 => s.get FfDutyW0.w3 0 | 4 => s.get FfDutyW0.w4 0
  | 5 => s.get FfDutyW1.w5 0 | 6 => s.get FfDutyW1.w6 0 | 7 => s.get FfDutyW1.w7 0
  | _ => 0

def nozSum (h : List DutyLine) (N i : Nat) : Nat :=
  h.foldl (fun n d => if d.line < N ∧ N ≤ d.line + 255 then n + Tab.get 0 d.weights i else n) 0

def headSum (h : List DutyLine) (N : Nat) : Nat :=
  h.foldl (fun n d => if d.line < N ∧ N ≤ d.line + 4095 then n + d.weights.foldl (fun m e => m + e.2) 0 else n) 0

/-- The largest code at or below k whose weight passes the test. -/
def lowerCode (ok : Nat → Bool) : Nat → Nat
  | 0 => 0
  | k + 1 => if ok (k + 1) then k + 1 else lowerCode ok k

/-- What the duty limits make of a frame: state, codes, weights of this line, HEAD_SUM so far. -/
structure DutyAcc where
  s : State
  codes : Tab Nat
  weights : Tab Nat
  head : Nat

/-- One drop (R208). -/
def dutyDrop (p N : Nat) (h : List DutyLine) (sites : List Site) (a : DutyAcc) (i : Nat) : DutyAcc :=
  let k0 := Tab.get 0 a.codes i
  if k0 = 0 then a
  else
    let ns := nozSum h N i
    let kn := lowerCode (fun k => decide (ns + a.s.weight k ≤ a.s.get FfNozDutyMax.max 0)) k0
    let k := lowerCode (fun k => decide (a.head + a.s.weight k ≤ a.s.get FfHeadDutyMax.max 0)) kn
    let s := if k < k0 then
        match sites.find? (fun t => t.noz == i) with
        | some t =>
          let s := a.s.scree t.page.pseq (if kn < k0 then 6 else 7) p t.cs i t.y t.y 1 (if k = 0 then 1 else 0)
          let s := if t.strip then { s with ins := { s.ins with unfired := (t.page.pseq, 2048 * p + i) :: s.ins.unfired } } else s
          if k = 0 then s.count FfCntDrem.count FfCntDrem.ovf 0 else s.count FfCntDred.count FfCntDred.ovf 0
        | none => a.s
      else a.s
    ⟨s, Tab.set 0 a.codes i k, Tab.set 0 a.weights i (s.weight k), a.head + s.weight k⟩

/-- duty_limit: the nozzles in an order that starts at 257 N mod 2048. -/
def State.dutyLimit (s : State) (p N : Nat) (sites : List Site) (codes : Tab Nat) : State × Tab Nat :=
  let h : List DutyLine := Tab.get [] s.ff.duty p
  let order := (List.range 2048).map (fun j => (257 * N + j) % 2048)
  let a := if codes = [] then DutyAcc.mk s [] [] 0
    else order.foldl (dutyDrop p N h sites) ⟨s, codes, [], headSum h N⟩
  let h := (⟨N, a.weights⟩ :: h).filter (fun d => decide (N ≤ d.line + 4095))
  ({ a.s with ff := { a.s.ff with duty := Tab.set [] a.s.ff.duty p h } }, a.codes)

/-! ### Assembly (R202 to R206) -/

/-- One site of a frame that is not late and not blanked as a whole: the state with what is recorded, and the codes.
DEDUCED (log 33). -/
def siteDrop (p : Nat) (a : State × Tab Nat) (t : Site) : State × Tab Nat :=
  let s := a.1
  let g := s.nmGen t.page.nmGen
  let k := (s.bandCode t.n t.col).getD 0
  let i := 2048 * p + t.noz
  let mark : State := if t.strip ∧ k ≠ 0 then
    { s with ins := { s.ins with unfired := (t.page.pseq, i) :: s.ins.unfired } } else s
  if t.page.blankFrom.isSome then (s, a.2)
  else if k = 0 then
    (if !t.isOwner && t.canFire g p && s.ownerOut t g then
       match t.ownerNozzle g with
       | some j => s.noteSubst (j / 2048) (g.get NmStage.row j) t.n
       | none => s
     else s, a.2)
  else if ¬t.canFire g p then
    (if t.strip then mark
     else if t.isOwner then
       (let subs := match substOf (t.page.planOf (t.col / 64)) t.owner with
          | some c => g.entriesAt t.col c
          | none => []
        if subs.any g.usable then s else s.scree t.page.pseq 3 p t.cs t.noz t.y t.y 1 1)
     else if (g.entriesAt t.col t.owner) = [] then s.scree t.page.pseq 3 p t.owner t.noz t.y t.y 1 1
     else s, a.2)
  else if s.withdrawn p t.di t.row t.n then
    (if t.strip then mark
     else if t.isOwner then
       (let sub := match substOf (t.page.planOf (t.col / 64)) t.owner with
          | some c => (g.entriesAt t.col c).find? g.usable
          | none => none
        let fired : Bool := match sub with
          | none => false
          | some j =>
            let dj := g.rowDelay (j / 2048) (g.get NmStage.row j)
            let w := (s.withdrawals p).find? (fun w => wdCovers w t.di t.row t.n)
            match w with
            | some w => decide (Tab.get 0 w.sent (j / 2048) ≤ t.n + dj)
            | none => true
        if fired then s
        else (s.scree t.page.pseq 5 p t.cs t.noz t.y t.y 1 1).count FfCntWd.count FfCntWd.ovf 0)
     else if s.ownerOut t g then
       (s.scree t.page.pseq 5 p t.cs t.noz t.y t.y 1 1).count FfCntWd.count FfCntWd.ovf 0
     else s, a.2)
  else if ¬t.isOwner ∧ ¬s.ownerOut t g then (s, a.2)
  else
    let s := if t.isOwner then s
      else match t.ownerNozzle g with
      | some j =>
        (s.noteSubst (j / 2048) (g.get NmStage.row j) t.n).scree t.page.pseq 4 (j / 2048) t.owner (j % 2048) t.y t.y 1 0
      | none => match g.entriesAt t.col t.owner with
        | j :: _ => s.scree t.page.pseq 2 (j / 2048) t.owner (j % 2048) t.y t.y 1 0
        | [] => s.scree t.page.pseq 2 p t.owner t.noz t.y t.y 1 0
    let cap := g.get NmStage.cap i
    let k1 := min k cap
    let d := (s.port p).depth
    let lim := 2 ^ d - 1
    let k2 := if t.noz < s.get HpIdInfo.nozzles p then min k1 lim else 0
    let s := if k2 < k then s.count FfCntCap.count FfCntCap.ovf 0 else s
    let s := if t.strip ∧ k2 < k then { s with ins := { s.ins with unfired := (t.page.pseq, i) :: s.ins.unfired } } else s
    (s, Tab.set 0 a.2 t.noz k2)

/-- Page lines of a frame by page: PSEQ, lowest and highest. -/
def pageRanges (l : List Site) : List (Nat × Nat × Nat) :=
  l.foldl (fun acc t =>
    match acc.find? (fun x => x.1 == t.page.pseq) with
    | some x => acc.map (fun y => if y.1 = t.page.pseq then (y.1, min x.2.1 t.y, max x.2.2 t.y) else y)
    | none => acc ++ [(t.page.pseq, t.y, t.y)]) []

/-- A whole-line alteration of the bar at web line N is recorded once per line and kind. -/
def State.wholeScree (s : State) (kind N : Nat) (l : List Site) (removed : Nat) : State :=
  if N < Tab.get 0 s.ff.wholeLine kind then s
  else
    let s := { s with ff := { s.ff with wholeLine := Tab.insert kind (N + 1) s.ff.wholeLine } }
    let s := if kind = 9 then s.count FpeCntCoastbl.count FpeCntCoastbl.ovf 0 else s
    (pageRanges l).foldl (fun t x => t.scree x.1 kind 255 255 0 x.2.1 x.2.2 1 removed) s

/-- LATE (R211, R212). DEDUCED (log 37). -/
def State.lateFrame (s : State) (p : Nat) (l : List Site) : State :=
  let s := s.count FfCntLate.count FfCntLate.ovf 0
  (pageRanges l).foldl (fun t x =>
    let t := t.scree x.1 1 p 255 0 x.2.1 x.2.2 1 0
    let t := t.mapPage x.1 (fun q => { q with record := { q.record.flag 1 with
      lateFirst := some (match q.record.lateFirst with
        | some a => min a x.2.1
        | none => x.2.1),
      lateLast := some (match q.record.lateLast with
        | some a => max a x.2.2
        | none => x.2.2) } })
    if t.ff.latePages.contains x.1 then t
    else ({ t with ff := { t.ff with latePages := x.1 :: t.ff.latePages } }).record .lateLine p []) s

/-- Why a frame is blanked as a whole, as the scree kind: GATE, COAST, OVERSPEED in this order (R521); 0 for no cause. -/
def State.blankCause (s : State) (N : Nat) : Nat :=
  if s.get MntStat.gate 0 = 0 then 10
  else if s.get FpeStat.mode 0 = 4 then 9
  else match Tab.find s.fpe.decisions N with
    | some .blank => 8
    | _ => 0

/-- The device builds and, where it may, sends the frame. -/
def State.dispatch (s : State) (p N : Nat) (l : List Site) (late replay : Bool) (codes : Tab Nat) : State :=
  let x := s.port p
  let f : HeadFrame :=
    { line := N, rowMask := rowMask l, wscale := x.wscale, heater := s.heaterDuty p,
      epoch := s.get TwStat.epoch 0,
      flags := (if late then 1 else 0) + (if s.get HpCtrl.tickle p = 1 then 2 else 0) + (if replay then 4 else 0),
      csMask := csMask l, depth := x.depth, codes := codes, crc := 0, acked := false, ended := false, lost := false,
      pages := (pageRanges (l.filter (fun (t : Site) => t.page.blankFrom.isNone))).map (fun r => (r.1, r.2.1)) }
  let f := { f with crc := f.check }
  let old := x.frames.filter (fun h => !((h.acked || h.ended || h.lost) && decide (h.line + 32 < N)))
  let sends := s.mayDrive && s.hpState p != hpDown && !x.staleEpoch && s.isUp p
  let s := if sends then (s.put HpWscale.wscale p f.wscale).sendHead p 0x4C f.args else s
  if sends || !s.acting then
    s.setPort p { x with frames := old ++ [f], lastFrame := s.now, lastDue := s.now }
  else s.setPort p { x with lastDue := s.now }

/-- Groups of 64 columns in which a drop of the line fires, kept for 65,536 lines; of a page with PIN_FOLLOW = 0 every group of its
width counts (R381). -/
def State.noteFired (s : State) (N : Nat) (l : List Site) (codes : Tab Nat) : State :=
  let m := l.foldl (fun m (t : Site) => if Tab.get 0 codes t.noz ≠ 0 then m ||| 2 ^ (t.col / 64) else m) (Tab.get 0 s.light.fired N)
  let whole := ((l.map (fun (t : Site) => t.page)).filter (fun q => !q.desc.flag 4)).eraseDups
  let m := whole.foldl (fun m q => q.groups.foldl (fun k g => k ||| 2 ^ g) m) m
  if m = 0 then s
  else { s with light := { s.light with
      fired := (Tab.insert N m s.light.fired).filter (fun e => decide (N < e.1 + 65536)) } }

/-- R282: a page that an UNVERIFIED head fires is recorded once. -/
def State.noteUnverified (s : State) (p : Nat) (l : List Site) (codes : Tab Nat) : State :=
  if s.flag HpStat.unverified p ∧ codes ≠ [] then
    (pageRanges l).foldl (fun t x =>
      if (t.port p).unverPage = some x.1 then t
      else (t.mapPort p (fun q => { q with unverPage := some x.1 })).record .hpUnverifiedFire p []) s
  else s

/-- The frame of port p for web line N is built: late, or blanked by a whole-frame cause, or drop by drop. -/
def State.build (s : State) (p N cause : Nat) (late replay : Bool) (l : List Site) : State :=
  let s := s.screeQuiet p
  let r : State × Tab Nat :=
    if cause ≠ 0 then (s.wholeScree cause N l 1, [])
    else if late then (s.lateFrame p l, [])
    else
      let lostLine := l.filter (fun t => match s.bandLine t.n with
        | some b => b.lost
        | none => false)
      let s := if lostLine = [] then s else s.wholeScree 11 N lostLine 1
      let r := l.foldl (siteDrop p) (s, [])
      r.1.dutyLimit p N l r.2
  let strips : List Site := l.filter (fun t => t.strip && (cause != 0 || late))
  let s := r.1
  let s := { s with ins := { s.ins with unfired := strips.map (fun (t : Site) => (t.page.pseq, 2048 * p + t.noz)) ++ s.ins.unfired } }
  let s := (s.noteFired N l r.2).noteUnverified p l r.2
  let s := s.dispatch p N l (late && cause == 0) replay r.2
  { s with ff := { s.ff with next := Tab.insert p (N + 1) s.ff.next } }

/-! ### Journal (R432) -/

/-- Ports that a scheduled page's generation gives nozzles to. -/
def State.portsInUse (s : State) : List Nat :=
  ((s.pages.filter (fun q => q.scheduled)).flatMap (fun q =>
    (nozzleKeys (s.nmGen q.nmGen) (s.nmGen q.nmGen)).map (fun i => i / 2048))).eraseDups

/-- What the entry says of each port: port, 0 no frame, 1 frame, 2 LATE frame, CRC. -/
def State.journalPorts (s : State) (N : Nat) : List Nat :=
  s.ports.flatMap (fun e => match e.2.frames.find? (fun f => f.line == N) with
    | some f => [e.1, if f.flags % 2 = 1 then 2 else 1, f.crc]
    | none => [])

def decCode : Option LineDec → List Nat
  | some .skip => [1, 0]
  | some .blank => [2, 0]
  | some (.fire late) => if late = 0 then [0, 0] else [3, late]
  | none => [0, 0]

/-- The entry of line N: N, decision and pacing, schedulings (PSEQ, F, NM_GEN, CTB_GEN, plan), ports, withdrawals, coast, gate,
abort. -/
def State.sendJournal (s : State) (N : Nat) : State :=
  let scheds := s.twin.schedsDue.filterMap (fun q => s.page q)
  let args := [N % 2 ^ 32] ++ decCode (Tab.find s.fpe.decisions N) ++
    [scheds.length] ++ scheds.flatMap (fun q => [q.pseq, q.first, q.nmGen, q.ctbGen] ++ (List.range 1024).map q.planOf) ++
    s.journalPorts N ++ s.twin.wdDue.flatMap (fun w => [w.1, if w.2.1 then 1 else 0, w.2.2]) ++
    [if s.get FpeStat.mode 0 = 4 then 1 else 0, if s.get MntStat.gate 0 = 0 then 1 else 0,
     match s.twin.abortDue with
     | none => 0
     | some h => if h then 2 else 1]
  let s := if s.role = roleActive then s.sendCol 4 args else s
  ({ s with twin := { s.twin with schedsDue := [], wdDue := [], abortDue := none, lastLine := some N } }).put JnlLast.v 0 N

/-- Every frame of N has been dispatched, or N is skipped. -/
def State.lineDispatched (s : State) (N : Nat) : Bool :=
  decide (N < s.fpe.decided) &&
  (Tab.find s.fpe.decisions N == some .skip || s.fpe.dueLog.all (fun e => e.1 != N || decide (N < s.nextLine e.2)))

/-- Entries go out in order of lines. -/
def flushLines : Nat → State → State
  | 0, s => s
  | k + 1, s =>
    let N := match s.twin.lastLine with
      | some l => l + 1
      | none => s.fpe.decided - 1
    if s.lineDispatched N then flushLines k (s.sendJournal N) else s

def State.flushJournal (s : State) : State := if s.acting then flushLines 64 s else s

/-! ### The frame of a line -/

/-- Assembly of (p, N) once its line is decided; at the deadline a frame that is not complete goes out LATE (R202, R211). -/
def State.assemble (s : State) (p N : Nat) (deadline : Bool) : State :=
  if s.fpe.decided ≤ N ∨ N < s.nextLine p then s
  else
    let l := s.sites p N
    let pass : State := { s with ff := { s.ff with next := Tab.insert p (N + 1) s.ff.next } }
    if Tab.find s.fpe.decisions N = some .skip ∨ l = [] then pass.flushJournal
    else
      let s := s.syncWd p
      let cause := s.blankCause N
      let ok := s.frameComplete p N l
      if ok = true ∨ cause ≠ 0 ∨ deadline = true then (s.build p N cause (!ok) false l).flushJournal
      else s

/-! ### Commands -/

/-- LEAD: the last band-ring line written less the line under the row with the smallest delay in use at the next web line to be
assembled, 0 where not positive (BR_LEAD). -/
def State.lead (s : State) : Nat :=
  let g := s.nmGen (s.get NmGenCur.v 0)
  let d := g.usables.foldl (fun (m : Option Nat) i =>
    let x := g.rowDelay (i / 2048) (g.get NmStage.row i)
    some (min x (m.getD x))) none
  min 32767 (s.scr.written + d.getD 0 - 1 - s.assembledTo)

/-- LEAD_MIN follows while a page is printed. -/
def State.noteLead (s : State) : State :=
  if s.pages.any (fun p => p.scheduled && !p.closed) then s.put BrLead.leadMin 0 (min (s.get BrLead.leadMin 0) s.lead) else s

def execFrameAssemble (p : Fin 128) (line : Nat) (s : State) : Ans :=
  .next ((if s.acting then s.assemble p.val line false else s).noteLead)

/-- DESIGN CHOICE (log 4). -/
def execFetchDeadline (p : Fin 128) (line : Nat) (s : State) : Ans :=
  .next ((if s.acting then s.assemble p.val line true else s).noteLead)

def execScreeEntryClose (pseq kind port noz : Nat) (s : State) : Ans := .next (s.screeClose pseq kind port noz)

/-- R207: a write that breaks W1 ≤ … ≤ W7 is ignored and sets W_ERR. -/
def execFfDutyWeightWrite (hi : Bool) (value : Word) (s : State) : Ans :=
  let t := if hi then
      ((s.put FfDutyW1.w5 0 (FfDutyW1.w5.of value)).put FfDutyW1.w6 0 (FfDutyW1.w6.of value)).put FfDutyW1.w7 0
        (FfDutyW1.w7.of value)
    else
      (((s.put FfDutyW0.w1 0 (FfDutyW0.w1.of value)).put FfDutyW0.w2 0 (FfDutyW0.w2.of value)).put FfDutyW0.w3 0
        (FfDutyW0.w3.of value)).put FfDutyW0.w4 0 (FfDutyW0.w4.of value)
  .next (if (List.range 6).all (fun k => decide (t.weight (k + 1) ≤ t.weight (k + 2))) then t else s.put FfCtrl.wErr 0 1)

end Sys2Proof.Machine
end

