-- ==== Sys2Proof/Machine/LoopOps.lean ====
section
/-!
DEFINITION. Loop slots as other blocks see them (spec/13_loop_engine.md).
-/
namespace Sys2Proof.Machine

def State.slot (s : State) (n : Nat) : Slot := Tab.get Slot.reset s.loop.slots n

def State.setSlot (s : State) (n : Nat) (x : Slot) : State :=
  { s with loop := { s.loop with slots := Tab.set Slot.reset s.loop.slots n x } }

def State.mapSlot (s : State) (n : Nat) (f : Slot → Slot) : State := s.setSlot n (f (s.slot n))

/-- A hand-over is asked for the slot's next sample boundary; of several requests the last counts (R316). -/
def State.requestMode (s : State) (n m : Nat) : State := s.mapSlot n (fun x => { x with request := some m })

/-- The slot is FORCED by a cause: 1 thermal hold, 2 abort, 3 COAST (Table 13-3). -/
def State.forceSlot (s : State) (n cause : Nat) : State :=
  (s.mapSlot n (fun x => { x with mode := 3, cause := cause, request := none })).put LeStat.forced n 1

/-- The slot hands over to the mode last written (R316, R327). -/
def State.releaseSlot (s : State) (n : Nat) : State := s.requestMode n (s.get LeCfg.mode n)

end Sys2Proof.Machine
end

