-- ==== Sys2Proof/Machine/Fpe.lean ====
section
/-!
DEFINITION. The fire position engine: web position, modes, line decisions, stamps and the speed advisory
(spec/10_fire_timing.md; R443 of spec/18_twin_operation.md).
-/
namespace Sys2Proof.Machine

/-! ### Sources -/

/-- Encoder of source k: A 0, B 1, C 2, D 3. SRC_A 6 and 7 act as 0, SRC_B 6 and 7 as 1. -/
def State.srcEnc (s : State) (k : Nat) : Nat :=
  match k with
  | 0 => (let e := s.get FpeCtrl.srcA 0; if 6 ≤ e then 0 else e)
  | 1 => (let e := s.get FpeCtrl.srcB 0; if 6 ≤ e then 1 else e)
  | 2 => s.get FpeCtrl.xchkC 0
  | _ => s.get FpeCtrl.xchkD 0

/-- A source counts as healthy as its encoder does (R295); C and D are tracked while XCHK_EN = 1. -/
def State.srcOk (s : State) (k : Nat) : Bool :=
  decide (s.srcEnc k < 6) && s.flag EncStat.healthy (s.srcEnc k) && (decide (k < 2) || s.flag FpeCtrl.xchkEn 0)

/-- PU per count in 2^-32 PU, with the sign of DIR. DESIGN CHOICE (log 9). -/
def State.srcScale (s : State) (k : Nat) : Int :=
  match k with
  | 0 => (if s.flag FpeCtrl.dirA 0 then -1 else 1) * ((s.inForce FpeScaleALo.v 0 + 2 ^ 32 * s.inForce FpeScaleAHi.v 0 : Nat) : Int)
  | 1 => (if s.flag FpeCtrl.dirB 0 then -1 else 1) * ((s.inForce FpeScaleBLo.v 0 + 2 ^ 32 * s.inForce FpeScaleBHi.v 0 : Nat) : Int)
  | _ => ((Config.xchkScale k % 2 ^ 48 : Nat) : Int)

def State.mapFpe (s : State) (f : FpeSt → FpeSt) : State := { s with fpe := f s.fpe }

def State.mode (s : State) : Nat := s.get FpeStat.mode 0

/-! ### Web position -/

/-- X on the FT clock, in 2^-16 PU (R217). -/
def State.xNow (s : State) : Int := s.fpe.x + s.fpe.vel * ((s.ft - s.fpe.xAt : Nat) : Int) / 625

/-- X at an FT time up to one LQ back (R300). -/
def State.xAtTime (s : State) (t : Nat) : Int :=
  if s.fpe.xAt ≤ t then s.fpe.x + s.fpe.vel * ((t - s.fpe.xAt : Nat) : Int) / 625
  else s.fpe.x - s.fpe.velWas * ((s.fpe.xAt - t : Nat) : Int) / 625

/-- The line period in 1/256 FT tick, saturating at 32 bits (R228); the largest while the web does not move forward. -/
def State.period (s : State) : Nat :=
  if s.fpe.vel ≤ 0 then 2 ^ 32 - 1 else min (2 ^ 24 * 625 * 256 / s.fpe.vel.toNat) (2 ^ 32 - 1)

/-- The predicted instant, in 1/256 FT tick, at which X reaches a position in PU; none unless the web moves forward. -/
def State.predict (s : State) (pu : Int) : Option Nat :=
  if s.mode = 0 ∨ s.fpe.vel ≤ 0 then none
  else some (((s.fpe.xAt * 256 : Nat) : Int) + ((pu * 65536 - s.fpe.x) * (625 * 256) + s.fpe.vel / 2) / s.fpe.vel).toNat

/-! ### LQ updates (R217 to R223) -/

/-- A scale pair staged by a write of HI takes effect at the LQ. -/
def State.takeScales (s : State) : State :=
  let s := if s.fpe.scaleDue.getD 0 false then (s.enforce FpeScaleALo.v 0).enforce FpeScaleAHi.v 0 else s
  let s := if s.fpe.scaleDue.getD 1 false then (s.enforce FpeScaleBLo.v 0).enforce FpeScaleBHi.v 0 else s
  s.mapFpe (fun f => { f with scaleDue := [false, false] })

/-- Net counts of an encoder since the last LQ (R291). -/
def State.countChange (s : State) (e : Nat) : Int :=
  match s.posn.enc[e]? with
  | some x => x.net - s.fpe.taken.getD e 0
  | none => 0

/-- Count changes, scaled, move the positions of the sources. -/
def State.takeCounts (s : State) : State :=
  let pos := (List.range 4).map (fun k => s.fpe.pos.getD k 0 + s.countChange (s.srcEnc k) * s.srcScale k)
  let taken := s.posn.enc.map (fun x => x.net)
  s.mapFpe (fun f => { f with pos := pos, taken := taken })

/-- The mode at this LQ (R220): qualified sources, and the writes of SEL_A and SEL_B that wait. -/
def State.nextMode (s : State) : Nat :=
  let a := s.srcOk 0
  let b := s.srcOk 1
  let autoB := s.flag FpeCtrl.autoB 0
  let m := s.mode
  if m = 0 then
    if a ∧ 16 ≤ s.fpe.edges.getD 0 0 then 1
    else if b ∧ 16 ≤ s.fpe.edges.getD 1 0 ∧ (autoB ∨ s.fpe.selB) then 2
    else 0
  else if m = 1 then
    if ¬a then (if autoB ∧ b then 2 else 3)
    else if s.fpe.selB ∧ b then 2 else 1
  else if m = 2 then
    if a ∧ (s.fpe.selA ∨ ¬b) then 1 else if ¬b then 3 else 2
  else if a then 1
  else if b ∧ (autoB ∨ s.fpe.selB) then 2
  else m

/-- Where X starts at a lock (R218): 0 at the first one after L0 or L1, line HWM + 1 after FT has been reset; a twin that has
applied a cairn keeps the X it took from there. -/
def State.lockX (s : State) : Int :=
  if s.twin.applied.isSome then s.fpe.x
  else if s.fpe.ftLost then (match s.fpe.hwm with
    | some h => (h + 1 : Nat) * 2 ^ 24
    | none => 0)
  else if s.fpe.locked then s.fpe.x else 0

/-- A source is set to X, so that a hand-over starts with equal positions (R218). -/
def State.alignSrc (s : State) (k : Nat) : State :=
  s.mapFpe (fun f => { f with pos := f.pos.set k (f.x * 65536), aligned := f.aligned.set k true })

/-- A mode change: the new source starts at X, its slot hands over from the velocity in force; COAST forces the slots of A and
B (R219, Table 13-3). -/
def State.enterMode (s : State) (m : Nat) : State :=
  if m = s.mode then s
  else
    let s := if s.mode = 0 then
        s.mapFpe (fun f => { f with x := s.lockX, xhw := s.lockX, locked := true, ftLost := false, applied := [], edges := [0, 0],
                                    aligned := [false, false, false, false] })
      else s
    let s := s.mapFpe (fun f => { f with selA := false, selB := false, coastAt := if m = 3 then some s.ft else none })
    let s := s.put FpeStat.mode 0 m
    if m = 1 ∨ m = 2 then
      let s := [160, 161].foldl (fun t n => if (t.slot n).cause = 3 then t.releaseSlot n else t) s
      (if m = 1 then (s.alignSrc 0).releaseSlot 160 else (s.alignSrc 1).releaseSlot 161).calWatch
    else if m = 3 then ((s.forceSlot 160 3).forceSlot 161 3).calWatch
    else s

/-- A healthy source joins at X; one that is not loses its alignment (R218). -/
def State.alignAll (s : State) : State :=
  if s.mode = 0 then s
  else [0, 1, 2, 3].foldl (fun t k =>
    if ¬t.srcOk k then t.mapFpe (fun f => { f with aligned := f.aligned.set k false })
    else if t.fpe.aligned.getD k false then t else t.alignSrc k) s

/-- Pairs of tracked encoders too far apart (R222), each recorded when it becomes so. -/
def State.crossCheck (s : State) : State :=
  if ¬s.flag FpeCtrl.xchkEn 0 then s.mapFpe (fun f => { f with apart := [] })
  else [(0, 1), (0, 2), (0, 3), (1, 2), (1, 3), (2, 3)].foldl (fun t (q : Nat × Nat) =>
    let key := 4 * q.1 + q.2
    let ok := t.fpe.aligned.getD q.1 false && t.fpe.aligned.getD q.2 false
    let a := t.fpe.pos.getD q.1 0
    let b := t.fpe.pos.getD q.2 0
    let far := ok && decide (t.get FpeXchk.xchkMax 0 * 2 ^ 32 < (a - b).natAbs)
    if far then
      if t.fpe.apart.contains key then t
      else (t.mapFpe (fun f => { f with apart := key :: f.apart })).record .fpeXchk 0
        [a64 (unsign 64 (a / 2 ^ 32)), a64 (unsign 64 (b / 2 ^ 32))]
    else t.mapFpe (fun f => { f with apart := f.apart.filter (fun x => x != key) })) s

/-- XHW, and the reversal of the web (R223). -/
def State.reversal (s : State) : State :=
  let x := s.fpe.x
  let s := if s.fpe.xhw ≤ x then (s.mapFpe (fun f => { f with xhw := x })).put FpeStat.behind 0 0 else s
  if x < s.fpe.xhw - 2 ^ 24 ∧ s.get FpeStat.behind 0 = 0 then (s.put FpeStat.behind 0 1).record .fpeReverse 0 [] else s

/-! ### Speed advisory (R240, R241) -/

/-- Every second line: a port that was due on lines of one parity only. -/
def everySecond (log : List (Nat × Nat)) (p : Nat) : Bool :=
  match log.filter (fun e => e.2 == p) with
  | [] => false
  | [_] => false
  | e :: es => es.all (fun x => x.1 % 2 == e.1 % 2)

/-- HP_RATE: values above 256,000 act as 256,000. -/
def State.maxRate (s : State) (p : Nat) : Nat := min (s.get HpRate.maxRate p) 256000

/-- The allowed line rate over the ports due in the last 4,096 lines; 0 while none was. -/
def State.allowedRate (s : State) : Nat :=
  let ps := (s.fpe.dueLog.map (fun e => e.2)).eraseDups
  match ps.map (fun p => s.maxRate p * (if everySecond s.fpe.dueLog p then 2 else 1)) with
  | [] => 0
  | r :: rs => rs.foldl min r

/-- SPD_ADV_N goes low. -/
def State.advAssert (s : State) : State :=
  if s.mayAssert ∧ s.get FpeStat.adv 0 = 0 then
    ({ s with pins := { s.pins with spdAdvN := false } }).put FpeStat.adv 0 1
  else s

def State.checkRate (s : State) : State :=
  let allowed := s.allowedRate
  let s := s.put FpeAllowed.v 0 allowed
  if allowed ≠ 0 ∧ s.get FpeAdv.onPct 0 * allowed ≤ 100 * s.lineRate then s.advAssert else s

/-- One LQ. -/
def State.lqUpdate (s : State) : State :=
  let s := s.takeScales.takeCounts
  let s := (s.put FpeStat.aOk 0 (if s.srcOk 0 then 1 else 0)).put FpeStat.bOk 0 (if s.srcOk 1 then 1 else 0)
  let s := (List.range 6).foldl (fun t n => t.putInt EncSpeed.v n (t.posn.enc.getD n Encoder.reset).sample) s
  let s := s.mapFpe (fun f => { f with x := if s.mode = 0 then f.x else f.x + f.vel, xAt := s.ft, velWas := f.vel })
  let s := s.enterMode s.nextMode
  let s := s.mapFpe (fun f => { f with selA := false, selB := f.selB && s.mode == 0 })
  let s := s.alignAll.crossCheck.reversal
  (s.put FpePeriod.v 0 (if s.mode = 0 then 0 else s.period)).checkRate

def execFpeLqUpdate (s : State) : Ans := .next s.lqUpdate

/-! ### Selecting a source -/

/-- A request that names an unhealthy source is ignored and recorded; another waits for the next LQ (R220). -/
def State.selSource (s : State) (k : Nat) : State :=
  if s.srcOk k then s.mapFpe (fun f => if k = 0 then { f with selA := true } else { f with selB := true })
  else s.record .fpeSelRefused 0 []

/-- A write of FPE_CTRL. -/
def State.writeFpeCtrl (s : State) (value : Word) : State :=
  let s := s.storeWord .fpeCtrl 0 value
  let s := if FpeCtrl.selA.of value = 1 then s.selSource 0 else s
  if FpeCtrl.selB.of value = 1 then s.selSource 1 else s

def execFpeSelA (value : Word) (s : State) : Ans := .next (s.writeFpeCtrl value)

def execFpeSelB (value : Word) (s : State) : Ans := .next (s.writeFpeCtrl value)

/-- R221: only COAST expires. -/
def execFpeCoastExpired (s : State) : Ans :=
  .next (if s.mode = 3 then (s.put FpeStat.mode 0 4).record .fpeCoastExpired 0 [] else s)

/-! ### Line decisions (R234 to R239) -/

/-- G(p) in 1/256 FT tick. -/
def State.gap (s : State) (p : Nat) : Nat := 128000000000 / max (s.maxRate p) 1

/-- The page that decides the policy of a line: the one that holds it, or else the page last scheduled (R235). -/
def State.policyPage (s : State) (N : Nat) : Option Page :=
  match s.pageOfLine N with
  | some x => some x.1
  | none => (s.pages.filter (fun p => p.scheduled)).getLast?

def State.policyOf (s : State) (N : Nat) : Nat :=
  match s.pageOfLine N with
  | some x => x.1.desc.overspeed
  | none => s.scr.policy

/-- LAG, and the events of its rise from 0 and its return (R237). -/
def State.setLag (s : State) (lag : Nat) : State :=
  let lines := min (lag / max s.period 1) 4095
  let was := s.fpe.stretching
  let s := (s.put FpeStretch.lag 0 lines).put FpeStat.stretch 0 (if lines = 0 then 0 else 1)
  if lag = 0 then
    if was then (s.mapFpe (fun f => { f with stretching := false, lagMax := 0 })).record .fpeStretchOff 0 [a16 s.fpe.lagMax]
    else s
  else
    let s := s.mapFpe (fun f => { f with stretching := true, lagMax := max f.lagMax lines })
    if was then s else s.record .fpeStretchOn 0 []

/-- The decision for N stands: it is kept for 8,192 lines. -/
def State.setDecision (s : State) (N : Nat) (d : LineDec) : State :=
  s.mapFpe (fun f => { f with decisions := (Tab.insert N d f.decisions).filter (fun e => decide (N < e.1 + 8192)) })

/-- LAST of the ports of D. -/
def State.setLast (s : State) (ds : List Nat) (t : Nat) : State :=
  s.mapFpe (fun f => { f with last := ds.foldl (fun m p => Tab.insert p t m) f.last })

/-- No frame and no stamp on any port (R236). -/
def State.skipLine (s : State) (N : Nat) (sites : List Site) : State :=
  let s := (s.setDecision N .skip).count FpeCntSkip.count FpeCntSkip.ovf 0
  s.wholeScree 8 N sites 1

/-- R238: the page is spoiled from the lowest page line that a row of the ports in D is over; no row over it yet, from 0. -/
def State.blankForSpeed (s : State) (q : Page) (sites : List Site) : State :=
  let ys : List Nat := (sites.filter (fun (t : Site) => t.page.pseq == q.pseq)).map (fun t => t.y)
  let low := match ys with
    | [] => 0
    | y :: rest => rest.foldl min y
  (s.mapPage q.pseq (fun p => p.spoil low 9)).mapFpe (fun f => { f with blankPage := some q.pseq })

/-- The last instants of the bar: the latest LAST, and it with the largest gap. -/
def State.lastPaced (s : State) : Nat := s.fpe.last.foldl (fun m e => max m e.2) 0

/-- The procedure of R235 for a line with ports D, its web instant, and what every port due is over. DEDUCED (log 38). -/
def State.decideLine (s : State) (N tw : Nat) (ds : List Nat) (sites : List Site) : State :=
  let gmax := ds.foldl (fun m p => max m (s.gap p)) 0
  let due : Nat → Nat := fun p => match Tab.find s.fpe.last p with
    | some t => t + s.gap p
    | none => 0
  let fast := ds.any (fun p => decide (tw < due p))
  let pg := s.policyPage N
  let pol := s.policyOf N
  let s := s.put FpeStat.overspeed 0 (if fast then 1 else 0)
  let fallen : Bool := match pg with
    | some q => s.fpe.fallen == some q.pseq
    | none => s.fpe.fallen == some 0
  let s := if fallen then s else s.mapFpe (fun f => { f with fallen := none, skipUntil := none })
  let stillSkips : Bool := match s.fpe.skipUntil with
    | some t => decide (tw < t)
    | none => false
  let paced : Bool := match s.twin.pacing with
    | some x => decide (max 16 (s.get FpeStretch.stretchMax 0) ≤ x.2.2.1 ∧ tw < x.2.1 + gmax)
    | none => false
  let inBlank : Bool := match s.pageOfLine N with
    | some x => s.fpe.blankPage == some x.1.pseq
    | none => false
  let s := if inBlank then s else s.mapFpe (fun f => { f with blankPage := none })
  if stillSkips ∨ paced then (s.skipLine N sites).advAssert
  else if pol = 1 ∧ ¬fallen then
    let tf := ds.foldl (fun m p => max m (due p)) tw
    if tf - tw ≤ max 16 (s.get FpeStretch.stretchMax 0) * s.period then
      let s := ((s.setLast ds tf).setLag (tf - tw)).setDecision N (.fire (tf - tw))
      if tw < tf then s.advAssert else s
    else
      let key := match pg with
        | some q => q.pseq
        | none => 0
      let s := s.mapFpe (fun f => { f with fallen := some key, skipUntil := some (s.lastPaced + gmax) })
      (((s.count FpeCntFall.count FpeCntFall.ovf 0).setLag 0).skipLine N sites).advAssert
  else
    let s := s.setLag 0
    if ¬fast then
      (s.setLast ds tw).setDecision N (if inBlank then .blank else .fire 0)
    else if inBlank then (s.setDecision N .blank).advAssert
    else if pol = 2 then
      let s := match s.pageOfLine N with
        | some x => s.blankForSpeed x.1 sites
        | none => s
      (s.setDecision N .blank).advAssert
    else
      let s := if pol = 3 then s.put FpeStat.absorb 0 1 else s
      (s.skipLine N sites).advAssert

/-- The web instant of a page's last line dates its record. -/
def State.dateRecord (s : State) (N t256 : Nat) : State :=
  { s with pages := s.pages.map (fun p =>
      if p.scheduled ∧ p.first + p.lines = N + 1 then
        { p with record := { p.record with ptpSec := (s.ptpOf (t256 / 256)).1, ptpNs := (s.ptpOf (t256 / 256)).2 } }
      else p) }

/-- Lines up to N are decided; lines passed over had no port due. -/
def State.passTo (s : State) (N : Nat) : State :=
  let jump : Bool := decide (s.fpe.decided < N) && (match s.twin.lastLine with
    | some l => decide (s.fpe.decided ≤ l + 1)
    | none => true)
  let s := if jump then { s with twin := { s.twin with lastLine := some (N - 1) } } else s
  s.mapFpe (fun f => { f with decided := N + 1 })

/-- One decision per web line, for the whole bar (R234). -/
def State.lineDecision (s : State) (N : Nat) : State :=
  if ¬s.acting ∨ s.mode = 0 ∨ N < s.fpe.decided then s
  else
    let s := s.passTo N
    let due := s.portsInUse.filter (fun p => s.sites p N != [])
    let s := s.mapFpe (fun f => { f with
      dueLog := (due.map (fun p => (N, p)) ++ f.dueLog).filter (fun e => decide (N < e.1 + 4096)) })
    let s := due.foldl (fun t p => t.mapPort p (fun x => { x with lastDue := t.now })) s
    let s := s.screeQuiet 255
    let ds := due.filter (fun p => !s.wdOpen p)
    let tw := (s.predict (256 * N)).getD (s.ft * 256)
    let s := s.dateRecord N tw
    let s := if ds = [] then s.put FpeStat.overspeed 0 0
      else s.decideLine N tw ds (due.flatMap (fun p => s.sites p N))
    s.checkRate.flushJournal

def execLineDecision (line : Nat) (s : State) : Ans := .next (s.lineDecision line)

/-- R239: the absorb state clears. -/
def execAbsHoldExpiry (s : State) : Ans := .next (s.put FpeStat.absorb 0 0)

/-- R240, R241: SPD_ADV_N goes high and one further advisory is sent. -/
def execSpdAdvRelease (s : State) : Ans :=
  .next (if s.get FpeStat.adv 0 = 1 ∧ 100 * s.lineRate < s.get FpeAdv.offPct 0 * s.get FpeAllowed.v 0 then
      (({ s with pins := { s.pins with spdAdvN := true } }).put FpeStat.adv 0 0).advisory
    else s)

def execSpeedAdvisory (s : State) : Ans := .next (if s.get FpeStat.adv 0 = 1 then s.advisory else s)

/-! ### Stamps (R223 to R231) -/

/-- Phase trim and register offset of a port, in PU. -/
def State.targetOfs (s : State) (p : Nat) : Int := s.getInt FpePhase.phase p + s.getInt FpeRegOfs.ofs 0

/-- The value applied at the port's next stamp: the first starts at its target, later ones move by at most PU (R231). -/
def State.slewOfs (s : State) (p : Nat) : Int :=
  let t := s.targetOfs p
  match Tab.find s.fpe.applied p with
  | none => t
  | some a =>
    let lim : Int := (max 1 (s.get FpeOfsSlew.pu 0) : Nat)
    if t - a > lim then a + lim else if a - t > lim then a - lim else t

/-- R227: the earliest T that still meets the bound, in 1/256 FT tick. -/
def State.earliestStamp (s : State) : Nat := (s.ft + 1500) * 256 + s.period / 2

/-- R443: the pacing after a takeover. It answers the instant of the line and the state; the pacing ends at the first line that
is not late. -/
def State.paceStamp (s : State) (p N t : Nat) : Nat × State :=
  match s.twin.pacing with
  | none => (t, s)
  | some (m, t', c, lag) =>
    if N ≤ m then (if N = m then max t t' else t, s)
    else
      let g := (s.fpe.dueLog.filter (fun e => e.1 == N)).foldl (fun a e => max a (s.gap e.2)) (s.gap p)
      let tn := max (max t (t' + g)) s.earliestStamp
      if tn = t then
        (t, ({ s with twin := { s.twin with pacing := none } }.put TwLastTo.slipped 0 (min c 65535)).record .twSlip 0
          [a16 c, a32 (2 * lag / 256)])
      else
        (tn, { s with twin := { s.twin with pacing := some (N, tn, c + 1, max lag (tn - t)) } }.count FpeCntSlip.count
          FpeCntSlip.ovf 0)

/-- The frame of the port for this line has been sent and not yet stamped (R229). -/
def State.stampDue (s : State) (p N : Nat) : Bool :=
  (s.port p).frames.any (fun f => f.line == N) && decide (Tab.get 0 s.fpe.stamped p ≤ N) &&
  (match s.fpe.base with
   | some b => decide (b < N)
   | none => true)

/-- The last line of a page fired: its record takes the instant. -/
def State.dateStamp (s : State) (p N t : Nat) : State :=
  ((s.sites p N).filter (fun (x : Site) => x.n + 1 == x.page.first + x.page.lines)).foldl (fun u x =>
    u.mapPage x.page.pseq (fun q => { q with record := { q.record with ptpSec := (u.ptpOf t).1, ptpNs := (u.ptpOf t).2 } })) s

/-- Issue the stamp of (p, N), twice. -/
def State.issueStamp (s : State) (p N : Nat) : State :=
  let ofs := s.slewOfs p
  match s.predict (256 * N + ofs) with
  | none => s
  | some t0 =>
    let late := match Tab.find s.fpe.decisions N with
      | some (.fire l) => l
      | _ => 0
    let r := s.paceStamp p N (t0 + late)
    let t := max r.1 s.earliestStamp
    let s := if r.1 < t then r.2.count FpeCntSlip.count FpeCntSlip.ovf 0 else r.2
    let time := max ((t + 128) / 256) (match Tab.find s.fpe.time p with
      | some x => x + 1
      | none => 0)
    let s := s.mapFpe (fun f => { f with
      applied := Tab.insert p ofs f.applied, stamped := Tab.insert p (N + 1) f.stamped, time := Tab.insert p time f.time,
      hwm := some (match f.hwm with
        | some h => max h N
        | none => N) })
    let args := fun copy => [N % 2 ^ 32, time % 2 ^ 48, s.get TwStat.epoch 0, copy, s.period]
    let s := s.dateStamp p N time
    (s.sendHead p 2 (args 0)).sendHead p 2 (args 1)

def execStampIssue (p : Fin 128) (line : Nat) (s : State) : Ans :=
  .next (if s.mayDrive ∧ s.mode ≠ 0 ∧ 0 < s.fpe.vel ∧ s.get FpeStat.behind 0 = 0 ∧ s.isUp p.val ∧ ¬(s.port p.val).staleEpoch ∧
      s.stampDue p.val line then s.issueStamp p.val line
    else s)

end Sys2Proof.Machine
end

