-- ==== Sys2Proof/Machine/LampOps.lean ====
section
/-!
DEFINITION. Lamp strings: outputs, strobes, faults, the bypass chain and the pattern steps (spec/15_lighting.md, R365 to R381).
-/
namespace Sys2Proof.Machine

def State.lamp (s : State) (n : Nat) : Lamp := s.light.lamps.getD n Lamp.reset

def State.mapLamp (s : State) (n : Nat) (f : Lamp → Lamp) : State :=
  { s with light := { s.light with lamps := s.light.lamps.set n (f (s.lamp n)) } }

def State.isPulse (s : State) (n : Nat) : Bool := s.flag LmpCfg.type n

/-! ### Outputs -/

/-- LSn_EN_N low and LSn_REF of a string that is enabled, not held off, and that this device may drive (R365). -/
def State.driveLamp (s : State) (n : Nat) : State :=
  if s.flag LmpCfg.en n ∧ ¬s.flag LmpStat.fault n ∧ s.mayAssert then
    ({ s with pins := { s.pins with lsEnN := s.pins.lsEnN.set n false,
                                    lsRef := s.pins.lsRef.set n (if s.isPulse n then 0 else s.get LmpCfg.limit n) } }).put LmpStat.on n 1
  else s

/-- The string's outputs go to their safe levels; a pulse ends. -/
def State.darkLamp (s : State) (n : Nat) : State :=
  ((s.safeLamp n).put LmpStat.on n 0).mapLamp n (fun x => { x with pulse := none, onTime := 0 })

/-- A write of LMP_CFG. -/
def State.writeLmpCfg (s : State) (n : Nat) (value : Word) : State :=
  let s := s.storeWord .lmpCfg n value
  (if s.flag LmpCfg.en n then s.driveLamp n else s.darkLamp n).calWatch

/-- Host writes of LMP_LEVEL and LMP_SEG are ignored while the string is owned (R379, R400). -/
def State.lampOwned (s : State) (n : Nat) : Bool := (s.lamp n).engine.isSome || (s.lamp n).activity.isSome

/-! ### Pulses (R366, R367, R378) -/

/-- The string is in a pulse now. -/
def State.inPulse (s : State) (n : Nat) : Bool :=
  match (s.lamp n).pulse with
  | some p => decide (s.ft < p.2.1)
  | none => false

/-- A pulse width after compensation and its limits. -/
def State.pulseWidth (s : State) (n w : Nat) : Nat :=
  let v := if s.get LmpCfg.comp n = 2 ∧ s.isPulse n then (w * (s.lamp n).gain + 2 ^ 13) / 2 ^ 14 else w
  max 250 (min 1000000 v)

/-- A strobe request: DAC code, delay and width in FT ticks. False where no pulse is made: the string cannot pulse (R344), or the
request is skipped (R367). -/
def State.strobe (s : State) (n code delay width : Nat) : Bool × State :=
  if ¬s.isPulse n ∨ ¬s.flag LmpCfg.en n ∨ s.flag LmpStat.fault n then (false, s)
  else
    let busy : Bool := match (s.lamp n).pulse with
      | some p => decide (s.ft < p.2.1 + us (s.get LmpPulse.minGap n))
      | none => false
    if busy then
      let s := s.count LmpCntSkip.count LmpCntSkip.ovf n
      if (s.lamp n).skipSeen then (false, s)
      else (false, (s.mapLamp n (fun x => { x with skipSeen := true })).record .lmpStrobeSkip n [])
    else
      let a := s.ft + delay
      let s := s.mapLamp n (fun x => { x with pulse := some (a, a + s.pulseWidth n width, 4 * code) })
      (true, if s.mayAssert then { s with pins := { s.pins with lsRef := s.pins.lsRef.set n code } } else s)

/-- LSn_GATE and LSn_REF of PULSE strings follow FT time (R366). -/
def State.pulsePins (s : State) : State :=
  if ¬s.mayAssert then s
  else (List.range 16).foldl (fun t n => match (t.lamp n).pulse with
    | some p =>
      { t with pins := { t.pins with lsGate := t.pins.lsGate.set n (decide (p.1 ≤ t.ft ∧ t.ft < p.2.1)),
                                     lsRef := if t.ft < p.2.1 then t.pins.lsRef else t.pins.lsRef.set n 0 } }
    | none => t) s

/-! ### Faults (R377) -/

/-- An open (true) or a short holds the string off. -/
def State.lampFault (s : State) (n : Nat) (isOpen : Bool) : State :=
  (((s.put (if isOpen then LmpStat.open_ else LmpStat.short) n 1).put LmpStat.fault n 1).darkLamp n).record .lmpFault n []

/-! ### Targets and masks (R368, R369, R378, R381) -/

/-- T of a CONT string: the target after compensation. -/
def State.lampTarget (s : State) (n : Nat) : Nat :=
  let t0 := s.get LmpLevel.t0 n
  if s.get LmpCfg.comp n = 1 then min 4095 ((t0 * (s.lamp n).gain + 2 ^ 13) / 2 ^ 14) else t0

/-- A CONT string is lit. -/
def State.lampLit (s : State) (n : Nat) : Bool := !s.isPulse n && s.flag LmpStat.on n && decide (0 < s.lampTarget n)

/-- Segments in use, as a mask. -/
def State.segsInUse (s : State) (n : Nat) : Nat := 2 ^ (s.get LmpCfg.nseg n + 1) - 1

/-- Segment k of string n is lit under FOLLOW: a fired bit of its groups on a line within WIN of L (R381). -/
def State.followLit (s : State) (n k : Nat) : Bool :=
  let line : Int := (s.xNow / 65536 - (s.get LmpDist.v n : Int)) / 256
  let w : Int := s.get LmpWin.win n
  let g := s.get LmpSegmap.gps n
  let a := s.get LmpSegmap.first n + k * g
  let bits := (2 ^ g - 1) * 2 ^ a
  s.light.fired.any (fun e => decide (line - w ≤ (e.1 : Int)) && decide ((e.1 : Int) ≤ line + w) && decide (e.2 &&& bits ≠ 0))

/-- The lit mask demanded of a string. -/
def State.litMask (s : State) (n : Nat) : Nat :=
  let follow : Bool := match (s.lamp n).engine with
    | some e => (s.light.engines.getD e Pattern.reset).follow
    | none => false
  (if follow then (List.range 16).foldl (fun m k => if s.followLit n k then m ||| 2 ^ k else m) 0 else s.get LmpSeg.mask n) &&&
    s.segsInUse n

/-- Of the bits of a mask, the k lowest. -/
def lowBits : Nat → Nat → Nat → Nat
  | 0, _, _ => 0
  | _ + 1, 0, _ => 0
  | fuel + 1, k + 1, m => if m = 0 then 0 else if m % 2 = 1 then 1 + 2 * lowBits fuel k (m / 2) else 2 * lowBits fuel (k + 1) (m / 2)

/-- The sixteen chain bits of string n in the next image: of a lit CONT string at most four change (R370). -/
def State.chainBits (s : State) (n : Nat) : Nat :=
  let want := (2 ^ 16 - 1) - s.litMask n
  let have_ := s.light.latched / 2 ^ (16 * n) % 2 ^ 16
  let diff := want ^^^ have_
  if s.lampLit n then have_ ^^^ lowBits 16 4 diff else want

def State.chainImage (s : State) : Nat := (List.range 16).foldl (fun m n => m + s.chainBits n * 2 ^ (16 * n)) 0

/-- Lit segments of a string in the image latched. -/
def State.litCount (s : State) (n : Nat) : Nat :=
  (List.range (s.get LmpCfg.nseg n + 1)).foldl (fun k i => k + (1 - s.light.latched / 2 ^ (16 * n + i) % 2)) 0

/-- String voltage in microvolts for a 12-bit code of 1.2 V full scale and LMP_VDIV in U8.8. -/
def State.stringUv (s : State) (n code : Nat) : Nat := code * 1200000 * s.get LmpVdiv.v n / (4096 * 256)

/-! ### Pattern engines (R379, R380) -/

def State.pattern (s : State) (e : Nat) : Pattern := s.light.engines.getD e Pattern.reset

def State.setPattern (s : State) (e : Nat) (x : Pattern) : State :=
  { s with light := { s.light with engines := s.light.engines.set e x } }

def State.mapPattern (s : State) (e : Nat) (f : Pattern → Pattern) : State := s.setPattern e (f (s.pattern e))

/-- Strings of an engine. -/
def Pattern.list (x : Pattern) : List Nat := (List.range 16).filter (fun n => x.strings / 2 ^ n % 2 == 1)

/-- The level of an engine reaches its strings as T0 (R379). -/
def State.setLevel (s : State) (e level : Nat) : State :=
  let s := s.mapPattern e (fun x => { x with level := level % 256 })
  (s.pattern e).list.foldl (fun t n => t.put LmpLevel.t0 n ((t.get Ptab.v (level % 256) * t.get LmpImax.v n + 2048) / 4096)) s

/-- The mask of an engine reaches its strings. -/
def State.setMask (s : State) (e mask : Nat) : State :=
  let s := s.mapPattern e (fun x => { x with mask := mask % 2 ^ 16 })
  (s.pattern e).list.foldl (fun t n => t.put LmpSeg.mask n (mask % 2 ^ 16)) s

/-- The engine stops; its strings keep their level and their mask, that of FOLLOW as last evaluated. -/
def State.stopEngine (s : State) (e : Nat) : State :=
  let x := s.pattern e
  let s := if x.follow then x.list.foldl (fun t n => t.put LmpSeg.mask n (s.litMask n)) s else s
  let s := x.list.foldl (fun t n => ((t.put LmpStat.owned n 0).put LmpStat.engine n 0).mapLamp n (fun y => { y with engine := none })) s
  (s.put PatStat.state e 0).mapPattern e (fun x => { x with strings := 0, follow := false })

def State.patWord (s : State) (e step k : Nat) : Nat := s.get PatStep.v (128 * e + 2 * step + k)

/-- The engine goes to a step: what acts at once is done, and a step that waits begins. Runs of steps that never wait are followed
for `fuel` steps, the rest at the next timer. -/
def runSteps : Nat → State → Nat → Nat → State
  | 0, s, e, step => (s.put PatStat.step e (step % 64)).mapPattern e (fun x => { x with since := s.ft, sinceX := s.xNow })
  | fuel + 1, s, e, step =>
    if 64 ≤ step then s.stopEngine e
    else
      let w := s.patWord e step 0
      let s := (s.put PatStat.step e step).mapPattern e (fun x =>
        { x with since := s.ft, sinceX := s.xNow, from_ := x.level, chased := 0, follow := w % 16 == 6 })
      match w % 16 with
      | 0 => s.stopEngine e
      | 1 => runSteps fuel ((s.setLevel e (w / 2 ^ 4 % 256)).setMask e (s.patWord e step 1 % 2 ^ 16)) e (step + 1)
      | 2 | 3 | 4 | 5 | 6 => s
      | 7 =>
        let target := w / 2 ^ 4 % 64
        let count := w / 2 ^ 12 % 2 ^ 16
        if count = 0 then runSteps fuel s e target
        else
          let left := Tab.get count (s.pattern e).loops step
          if left = 0 then runSteps fuel (s.mapPattern e (fun x => { x with loops := Tab.erase step x.loops })) e (step + 1)
          else runSteps fuel (s.mapPattern e (fun x => { x with loops := Tab.insert step (left - 1) x.loops })) e target
      | _ => (s.stopEngine e).put PatStat.badOp e 1

/-- A step ends: the mask FOLLOW last gave stays. -/
def State.nextStep (s : State) (e : Nat) : State :=
  let x := s.pattern e
  let s := if x.follow then x.list.foldl (fun t n => t.put LmpSeg.mask n (s.litMask n)) s else s
  runSteps 64 s e (s.get PatStat.step e + 1)

/-- The level of a RAMP after t ms, halves up. -/
def rampLevel (l0 l1 t time : Nat) : Nat :=
  if time ≤ t then l1
  else (((l0 : Int) * 2 * time + ((l1 : Int) - l0) * 2 * t + time) / (2 * time)).toNat

/-- Ramps follow time (R380). -/
def State.ramps (s : State) : State :=
  (List.range 8).foldl (fun t e =>
    let w := t.patWord e (t.get PatStat.step e) 0
    if t.get PatStat.state e = 1 ∧ w % 16 = 2 then
      t.setLevel e (rampLevel (t.pattern e).from_ (w / 2 ^ 4 % 256) ((t.ft - (t.pattern e).since) / us 1000) (w / 2 ^ 12 % 2 ^ 16))
    else t) s

/-- A mask turned by one segment among k + 1 in use: to the next higher segment, or with `down` to the next lower. -/
def rotateMask (m k : Nat) (down : Bool) : Nat :=
  let n := k + 1
  let v := m % 2 ^ n
  if down then v / 2 + v % 2 * 2 ^ (n - 1) else v * 2 % 2 ^ n + v / 2 ^ (n - 1)

end Sys2Proof.Machine
end

