-- ==== Sys2Proof/Machine/Loop.lean ====
section
/-!
DEFINITION. The loop engine: laws, Saddle hand-overs, host mode, the schedule and the trace buffers
(spec/13_loop_engine.md, R305 to R332; R516 of spec/22_events_errors_ordering.md; R439 of spec/18_twin_operation.md).
-/
namespace Sys2Proof.Machine

/-! ### Values and limits -/

/-- Slots 0 to 159 are of short grade (Table 13-1). -/
def shortSlot (n : Nat) : Bool := decide (n < 160)

def slotWidth (n : Nat) : Nat := if n < 160 then 16 else 32

/-- A signed value register of a slot. -/
def State.leInt (s : State) (f : Fld) (n : Nat) : Int := signed (slotWidth n) (s.get f n % 2 ^ slotWidth n)

/-- An unsigned one. -/
def State.leMag (s : State) (f : Fld) (n : Nat) : Int := ((s.get f n % 2 ^ slotWidth n : Nat) : Int)

def clampInt (lo hi v : Int) : Int := if v < lo then lo else if hi < v then hi else v

/-- Saturation to a signed width. -/
def satInt (w : Nat) (v : Int) : Int := clampInt (-(2 ^ (w - 1) : Nat)) ((2 ^ (w - 1) : Nat) - 1 : Int) v

def State.leClamp (s : State) (n : Nat) (v : Int) : Int := clampInt (s.leInt LeOmin.v n) (s.leInt LeOmax.v n) v

/-- The registers of a coefficient set, in ascending offset (Table 13-5). -/
def coefFields : List Fld := [LeB0.v, LeB1.v, LeB2.v, LeB3.v, LeA1.v, LeA2.v, LeA3.v]

/-- LE_CSH0 and LE_CSH1 as words. -/
def State.cshWords (s : State) (n : Nat) : List Nat := [s.rawWord .leCsh0 n, s.rawWord .leCsh1 n]

/-- The staged set as nine words. -/
def State.stagedCoef (s : State) (n : Nat) : List Nat := coefFields.map (fun f => s.get f n) ++ s.cshWords n

/-- The set the slot had at reset: a swap has not yet been made. -/
def resetCoef (n : Nat) : List Nat :=
  coefFields.map (fun f => f.resetAt n) ++ [wordOf (fun f => f.resetAt n) Reg.leCsh0.fields, wordOf (fun f => f.resetAt n) Reg.leCsh1.fields]

def State.activeCoef (s : State) (n : Nat) : List Nat := if (s.slot n).coef = [] then resetCoef n else (s.slot n).coef

/-- LE_CSUM: CRC-32C of the active set, each word little-endian (R321). -/
def State.leCsum (s : State) (n : Nat) : Nat :=
  crc32c ((s.activeCoef n).flatMap (fun w => (List.range 4).map (fun k => BitVec.ofNat 8 (w / 2 ^ (8 * k)))))

/-! ### The law (R310 to R312) -/

/-- A product of the long grade, aligned to 24 fraction bits; SH above 47 acts as 47. -/
def longTerm (c v : Int) (sh : Nat) : Int :=
  let h := min sh 47
  if h ≤ 24 then c * v * 2 ^ (24 - h) else (c * v + 2 ^ (h - 25)) / 2 ^ (h - 24)

/-- The law output before the clamp, from e[k], the history and an active set. -/
def lawRaw (short law3 : Bool) (coef : List Nat) (e0 : Int) (e y : List Int) : Int :=
  let c (j : Nat) : Int := signed (if short then 16 else 32) (coef.getD j 0 % 2 ^ (if short then 16 else 32))
  let shift (j : Nat) : Nat := if j < 4 then coef.getD 7 0 / 2 ^ (6 * j) % 64 else coef.getD 8 0 / 2 ^ (6 * (j - 4)) % 64
  let term (j : Nat) (v : Int) : Int := if short then c j * v else longTerm (c j) v (shift j)
  let terms := [term 0 e0, term 1 (e.getD 0 0), term 2 (e.getD 1 0), -term 4 (y.getD 0 0), -term 5 (y.getD 1 0)] ++
    (if law3 then [term 3 (e.getD 2 0), -term 6 (y.getD 2 0)] else [])
  let acc := terms.foldl (fun a t => if short then clampInt (-(2 ^ 39 : Int)) (2 ^ 39) (a + t) else satInt 72 (a + t)) 0
  if short then satInt 16 ((acc * 2 ^ (coef.getD 8 0 / 2 ^ 24 % 8) + 2 ^ 14) / 2 ^ 15) else satInt 32 ((acc + 2 ^ 23) / 2 ^ 24)

/-! ### Sources and sinks (Table 13-4) -/

/-- The slot's tracking source: A 0 for LE160 to D 3 for LE163. -/
def trackSource (n : Nat) : Nat := n - 160

/-- LQ number plus 1 of the present moment. -/
def State.lqNow (s : State) : Nat := s.ft / 625 + 1

/-- The raw source input at the boundary, and its sequence where the source delivers values one by one (R308, R314). -/
def State.leSource (s : State) (n : Nat) : Int × Option Nat :=
  let inst := s.get LeSrc.inst n
  match s.get LeSrc.src n with
  | 1 => (signed 16 (s.get HpTstat.temp inst % 2 ^ 16), some (s.port inst).telems)
  | 2 => ((8 * Tab.get 0 s.loop.lampI inst : Nat), none)
  | 3 => ((s.fpe.pos.getD (trackSource n) 0 - s.fpe.x * 65536) / 2 ^ 24, none)
  | 4 => (signed 32 (s.get InsSrc.v 0), some (s.ins.srcSeq.getD 0 0))
  | 5 => (signed 32 (s.get InsSrc.v 1), some (s.ins.srcSeq.getD 1 0))
  | 6 => (signed 16 (s.get InsSrc.v 2 % 2 ^ 16), some (s.ins.srcSeq.getD 2 0))
  | 7 => (signed 16 (s.get InsSrc.v 3 % 2 ^ 16), some (s.ins.srcSeq.getD 3 0))
  | 8 =>
    if 176 ≤ inst then (0, none)
    else
      let x := s.slot inst
      if x.outLq = s.lqNow then (x.prevOut, some x.prevSeq) else (s.leInt LeOut.v inst, some (s.get LeStat.seq inst))
  | _ => (0, none)

/-- The present value of the slot's sink (R317); a sink that holds none reads as the slot's own output. -/
def State.sinkValue (s : State) (n : Nat) : Int :=
  let inst := s.get LeSrc.sinkInst n
  match s.get LeSrc.sink n with
  | 1 => Tab.get 0 s.loop.heater inst
  | 2 => Tab.get 0 s.loop.lampPwm inst
  | 3 => s.fpe.vel
  | 4 => s.getInt FpeRegOfs.ofs 0
  | 5 => if inst < 8 then (match (s.axis inst).goal with
      | some g => signed 32 (unsign 32 g)
      | none => signed 32 (unsign 32 (s.axPos inst))) else s.leInt LeOut.v n
  | 6 => if inst < 176 then s.leInt LeRef.v inst else s.leInt LeOut.v n
  | _ => s.leInt LeOut.v n

/-- The focus dither of R353: +DITHER for triggers of the context with even TSEQ, −DITHER for odd; it is added for the trigger that
comes next. -/
def State.dither (s : State) : Int :=
  let d : Int := s.get InsFocus.dither 0
  if (s.get IspTseq.v (s.get InsFocus.ctx 0) + 1) % 2 = 0 then d else -d

/-- The sink receives the applied output. FPE_VEL follows the slot of the selected source alone; in a twin that does not act no
axis gets a target (R330). -/
def State.driveSink (s : State) (n : Nat) (u : Int) : State :=
  let inst := s.get LeSrc.sinkInst n
  match s.get LeSrc.sink n with
  | 1 => { s with loop := { s.loop with heater := Tab.set 0 s.loop.heater inst u } }
  | 2 => { s with loop := { s.loop with lampPwm := Tab.set 0 s.loop.lampPwm inst u } }
  | 3 => if (n = 160 ∧ s.mode = 1) ∨ (n = 161 ∧ s.mode = 2) then s.mapFpe (fun f => { f with vel := u }) else s
  | 4 => s.putInt FpeRegOfs.ofs 0 u
  | 5 => if inst < 8 ∧ s.acting then
      s.commitTarget inst (u + (if n = 167 ∧ s.get InsFocus.dither 0 ≠ 0 then s.dither else 0)) false else s
  | 6 => if inst < 176 then s.put LeRef.v inst (unsign 32 u) else s
  | _ => s

/-! ### Trace (R331) -/

def State.traceBuf (s : State) (b : Nat) : TraceBuf := s.loop.traces.getD b TraceBuf.reset

def State.setTrace (s : State) (b : Nat) (x : TraceBuf) : State := { s with loop := { s.loop with traces := s.loop.traces.set b x } }

/-- A node's value: slot and kind. -/
def State.traceNode (s : State) (slot kind : Nat) : Int :=
  if 176 ≤ slot then 0
  else match kind with
  | 0 => s.leInt LeErr.v slot
  | 1 => s.leInt LeLaw.v slot
  | 2 => s.leInt LeOut.v slot
  | _ => (s.slot slot).raw

def State.traceNodes (s : State) (b : Nat) : List Int :=
  [s.traceNode (s.get TrcNode0.slot0 b) (s.get TrcNode0.kind0 b), s.traceNode (s.get TrcNode0.slot1 b) (s.get TrcNode0.kind1 b),
   s.traceNode (s.get TrcNode1.slot2 b) (s.get TrcNode1.kind2 b), s.traceNode (s.get TrcNode1.slot3 b) (s.get TrcNode1.kind3 b)]

/-- TRC_CFG.TRIG: 6 and 7 act as 0. -/
def State.traceTrig (s : State) (b : Nat) : Nat := let t := s.get TrcCfg.trig b; if 6 ≤ t then 0 else t

/-- One evaluation of the timebase slot: the buffer may record, trigger and fill. `cause` is the trigger condition that the
evaluation brought: 3 SAT, 4 Saddle, 5 LE_HOST_MISS. -/
def State.traceSample (s : State) (b : Nat) (causes : List Nat) : State :=
  let st := s.get TrcStat.state b
  if ¬s.flag TrcCfg.en b ∨ (st ≠ 1 ∧ st ≠ 2) then s
  else
    let x := s.traceBuf b
    let x := { x with forced := x.forced || causes.contains (s.traceTrig b), evals := x.evals + 1 }
    if x.evals ≤ s.get TrcCfg.decim b then s.setTrace b x
    else
      let v := s.traceNodes b
      let n0 := v.headD 0
      let level := s.getInt TrcLevel.v b
      let edge := match x.last0 with
        | some p => (s.traceTrig b == 1 && decide (p < level) && decide (level ≤ n0)) ||
                    (s.traceTrig b == 2 && decide (level < p) && decide (n0 ≤ level))
        | none => false
      let w := s.get TrcStat.widx b
      let hit := st == 1 && (x.forced || edge)
      let x := { x with samples := Tab.insert w v x.samples, evals := 0, last0 := some n0, forced := false,
                        left := if hit then 8192 - 32 * s.get TrcCfg.pre b else x.left }
      let s := s.put TrcStat.widx b (w + 1)
      let s := if hit then ((s.put TrcStat.state b 2).put TrcStat.tidx b w).put64 TrcT0Lo.v TrcT0Hi.v b s.ft else s
      if s.get TrcStat.state b = 2 then
        let x := { x with left := x.left - 1 }
        (if x.left = 0 then s.put TrcStat.state b 3 else s).setTrace b x
      else s.setTrace b x

/-- Every buffer whose timebase the slot is. -/
def State.traceAll (s : State) (n : Nat) (causes : List Nat) : State :=
  (List.range 4).foldl (fun t b => if t.get TrcCfg.base b = n then t.traceSample b causes else t) s

/-! ### A sample (R309 to R329) -/

/-- Held writes reach the staged set once the swap is done. -/
def State.applyHeld (s : State) (n : Nat) (l : List (Nat × Nat)) : State :=
  l.foldl (fun t w => (coefFields ++ [LeCfg.law] ++ Reg.leCsh0.fields ++ Reg.leCsh1.fields).foldl (fun u f =>
    if f.key n = w.1 then u.put f n w.2 else u) t) s

/-- The swap: the staged set becomes active (R321). -/
def State.swapCoef (s : State) (n : Nat) : State :=
  let x := s.slot n
  let s := s.setSlot n { x with coef := s.stagedCoef n, law3 := s.flag LeCfg.law n, held := [] }
  ((s.put LeStat.swapPend n 0).put LeCfg.resetHist n 0).applyHeld n x.held

/-- Port p is in thermal hold (R245, R247). -/
def State.thermalHold (s : State) (n : Nat) : Bool := decide (n < 128) && (s.flag HpTstat.hold n || s.flag HpTstat.stale n)

/-- The applied output of a sample. -/
def State.applyOut (s : State) (n : Nat) (u : Int) : State :=
  let was := s.leInt LeOut.v n
  let seq := s.get LeStat.seq n
  let s := s.mapSlot n (fun x => { x with prevOut := was, prevSeq := seq, outLq := s.lqNow })
  (((s.putInt LeOut.v n u).bump LeStat.seq n).driveSink n u)

/-- A FORCED sample: thermal hold 0, abort 0 within the limits, COAST the velocity held; no slew, no history. -/
def State.forcedSample (s : State) (n : Nat) : State :=
  let u : Int := match (s.slot n).cause with
    | 2 => s.leClamp n 0
    | 3 => s.fpe.vel
    | _ => 0
  let s := (s.put LeStat.saddle n 0).applyOut n u
  (s.abortEnd 3 n).traceAll n []

/-- History as R317 sets it: every y at u_out, every e at the present error. -/
def Slot.initHist (x : Slot) (u e0 : Int) : Slot :=
  if x.law3 then { x with e := [e0, e0, e0], y := [u, u, u] }
  else { x with e := [e0, e0, x.e.getD 2 0], y := [u, u, x.y.getD 2 0] }

/-- History after a sample; a 2P2Z law leaves the third entries alone (R310). -/
def Slot.pushHist (x : Slot) (e0 y0 : Int) : Slot :=
  if x.law3 then { x with e := [e0, x.e.getD 0 0, x.e.getD 1 0], y := [y0, x.y.getD 0 0, x.y.getD 1 0] }
  else { x with e := [e0, x.e.getD 0 0, x.e.getD 2 0], y := [y0, x.y.getD 0 0, x.y.getD 2 0] }

/-- The demand in HOST mode, and whether a deadline was missed (R324, R325). A standby posts nothing and misses nothing (R518). -/
def State.hostDemand (s : State) (n : Nat) (handOver : Bool) (u : Int) : Int × Bool :=
  match (s.slot n).committed with
  | some v => (s.leClamp n v, false)
  | none => (u, s.acting && !handOver)

/-- A sample that is evaluated. DEDUCED (log 45). -/
def State.evalSample (s : State) (n : Nat) : State :=
  let swap := s.flag LeStat.swapPend n
  let reset := swap && s.flag LeCfg.resetHist n
  let prev := s.leInt LeOut.v n
  let s := if swap then s.swapCoef n else s
  let src := s.leSource n
  let diff := s.leInt LeRef.v n - src.1
  let e0 := satInt (slotWidth n) (if s.flag LeSrc.inv n then -diff else diff)
  let x : Slot := { s.slot n with raw := src.1, srcSeq := src.2.getD 0 }
  let hand := x.request.isSome
  let mode : Nat := x.request.getD x.mode
  let uOut := if ¬hand then prev else if x.enabled then s.sinkValue n else if n = 160 ∨ n = 161 then s.fpe.vel else prev
  let x : Slot := { x with
    mode := mode, cause := if hand then 0 else x.cause, request := none, enabled := false, missing := x.missing && !hand }
  let x := if (hand ∧ mode = 0) ∨ reset = true then x.initHist uOut e0 else x
  let raw := lawRaw (shortSlot n) x.law3 (s.activeCoef n) e0 x.e x.y
  let y0 := s.leClamp n raw
  let host := s.hostDemand n hand uOut
  let d := if mode = 1 then s.leClamp n (s.leInt LeOpenVal.v n) else if mode = 2 then host.1 else y0
  let miss := mode == 2 && host.2
  let y := x.pushHist e0 y0
  let x : Slot := { y with committed := none, missing := x.missing && !(mode == 2 && !miss) }
  let s := (((s.setSlot n x).putInt LeErr.v n e0).putInt LeLaw.v n y0).put LeStat.sat n (if raw = y0 then 0 else 1)
  let s := if hand then s.put LeStat.forced n 0 else s
  let s := if hand ∧ s.leMag LeGapmax.v n < ((d - uOut).natAbs : Int) then s.record .saddleGap n [a32 (unsign 32 uOut), a32 (unsign 32 d)] else s
  let first := miss && !x.missing
  let s := if miss then
      let s := (s.count LeCntMiss.count LeCntMiss.ovf n).mapSlot n (fun x => { x with missing := true })
      if first then s.record .leHostMiss n [] else s
    else s
  let slewing := hand || swap || s.flag LeStat.saddle n
  let st := s.leMag LeSlew.v n
  let reach := st = 0 || decide (((d - uOut).natAbs : Int) ≤ st)
  let u := if miss then prev else if ¬slewing ∨ reach = true then d else if uOut < d then uOut + st else uOut - st
  let s := s.put LeStat.saddle n (if miss then s.get LeStat.saddle n else if slewing = true ∧ reach = false then 1 else 0)
  let s := s.applyOut n u
  s.traceAll n ((if raw = y0 then [] else [3]) ++ (if hand ∧ s.flag LeStat.saddle n then [4] else []) ++ (if miss then [5] else []))

/-- A due boundary of a slot: late, forced, skipped for want of a new value, or evaluated. -/
def State.loopSample (s : State) (n : Nat) (late : Bool) : State :=
  let x := s.slot n
  if ¬s.flag LeCfg.en n ∨ ¬x.started ∨ ((n = 162 ∨ n = 163) ∧ ¬s.flag FpeCtrl.xchkEn 0) then s
  else if late then s.count LeCntLate.count LeCntLate.ovf n
  else if x.abortDue then
    ((s.forceSlot n 2).mapSlot n (fun x => { x with abortDue := false })).forcedSample n
  else if s.thermalHold n ∧ x.cause ≠ 2 then (s.forceSlot n 1).forcedSample n
  else
    let s := if x.cause = 1 then s.releaseSlot n else s
    let x := s.slot n
    if x.mode = 3 ∧ x.request.isNone then s.forcedSample n
    else if s.flag LeCfg.newOnly n ∧ (s.leSource n).2 = some x.srcSeq then s
    else s.evalSample n

/-- `adc` is the ADC code of ISENSE at the boundary, for a slot whose source is LAMP_I. -/
def execLoopSample (n : Fin 176) (late : Bool) (adc : Nat) (s : State) : Ans :=
  let s := if s.get LeSrc.src n.val = 2 then
      { s with loop := { s.loop with lampI := Tab.set 0 s.loop.lampI (s.get LeSrc.inst n.val) (adc % 4096) } }
    else s
  .next (s.loopSample n.val late)

/-! ### The schedule (R306, R307) -/

/-- Two residue classes have a common boundary. -/
def compatible (a b : Nat × Nat) : Bool := a.1 % Nat.gcd a.2 b.2 == b.1 % Nat.gcd a.2 b.2

/-- Slots by residue: (phase, period) and how many. -/
def addResidue (a : Nat × Nat) : List ((Nat × Nat) × Nat) → List ((Nat × Nat) × Nat)
  | [] => [(a, 1)]
  | (b, k) :: rest => if a = b then (b, k + 1) :: rest else (b, k) :: addResidue a rest

/-- The worst LQ: the largest sum of pairwise compatible classes, found by taking or leaving each in turn; a branch that cannot
exceed the best found is cut. -/
def worstLq : List ((Nat × Nat) × Nat) → List (Nat × Nat) → Nat → Nat → Nat
  | [], _, n, best => max n best
  | (a, k) :: rest, chosen, n, best =>
    if n + k + rest.foldl (fun m e => if chosen.all (compatible e.1) then m + e.2 else m) 0 ≤ best then best
    else
      let best := if chosen.all (compatible a) then worstLq rest (a :: chosen) (n + k) best else best
      worstLq rest chosen n best

/-- PEAK of the enabled slots, with one slot's enable, period and phase as given. -/
def State.leLoad (s : State) (n : Nat) (en : Bool) (period phase : Nat) : Nat :=
  let on := (List.range 176).filter (fun m => if m = n then en else s.flag LeCfg.en m)
  let cls := on.foldl (fun l m =>
    let p := max 1 (if m = n then period else s.get LeSched.period m)
    addResidue ((if m = n then phase else s.get LeSched.phase m) % p, p) l) []
  worstLq cls [] 0 0

/-- Refused: REFUSED and LE_SCHED_REFUSED. -/
def State.refuseSched (s : State) (n : Nat) : State := (s.put LeStat.refused n 1).record .leSchedRefused n []

/-- A write of LE_SCHED. -/
def State.writeLeSched (s : State) (n : Nat) (value : Word) : State :=
  let period := LeSched.period.of value
  let peak := s.leLoad n (s.flag LeCfg.en n) period (LeSched.phase.of value)
  if period = 0 ∨ 80 < peak then s.refuseSched n else (s.storeWord .leSched n value).put LeLoad.peak 0 peak

def execLeSchedWrite (n : Fin 176) (value : Word) (s : State) : Ans := .next (s.writeLeSched n.val value)

/-! ### LE_CFG, limits and host values -/

/-- A mode is asked for (Table 13-3): a change gives a hand-over; during a thermal hold or COAST it waits; an abort's FORCED ends. -/
def State.askMode (s : State) (n m : Nat) : State :=
  let s := s.put LeCfg.mode n m
  let x := s.slot n
  if x.cause = 1 ∨ x.cause = 3 then s
  else if x.cause = 2 ∨ x.request.isSome ∨ x.mode ≠ m then s.requestMode n m
  else s

/-- A write of LE_CFG. LAW is part of the staged set (R321). -/
def State.writeLeCfg (s : State) (n : Nat) (value : Word) : State :=
  let was := s.flag LeCfg.en n
  let on := LeCfg.en.of value == 1
  let peak := if on = was then 0 else s.leLoad n on (s.get LeSched.period n) (s.get LeSched.phase n)
  if on = true ∧ was = false ∧ 80 < peak then s.refuseSched n
  else
    let s := if on = was then s else s.put LeLoad.peak 0 peak
    let mode := s.get LeCfg.mode n
    let law := s.get LeCfg.law n
    let s := (s.storeWord .leCfg n value).put LeCfg.mode n mode
    let s := if s.flag LeStat.swapPend n then
        (s.put LeCfg.law n law).mapSlot n (fun x => { x with held := x.held ++ [(LeCfg.law.key n, LeCfg.law.of value)] })
      else s
    let m := LeCfg.mode.of value
    let s := if m = 3 then s else s.askMode n m
    let s := if on = true ∧ was = false then
        s.mapSlot n (fun x => { x with enabled := true, started := x.started || s.operating, request := some (s.get LeCfg.mode n) })
      else s
    let s := if LeCfg.swap.of value = 1 then s.put LeStat.swapPend n 1 else s
    if LeCfg.abort.of value = 1 then
      if 160 ≤ n ∧ n ≤ 163 ∧ s.mode ≠ 0 then s.record .leAbortRefused n []
      else (s.mapSlot n (fun x => { x with abortDue := true })).abortStart 3 n
    else s

def execLeCfgSwap (n : Fin 176) (value : Word) (s : State) : Ans := .next (s.writeLeCfg n.val value)

def execLeCfgAbort (n : Fin 176) (value : Word) (s : State) : Ans := .next (s.writeLeCfg n.val value)

def execLeModeWrite (n : Fin 176) (value : Word) (s : State) : Ans := .next (s.writeLeCfg n.val value)

def execLeEnable (n : Fin 176) (value : Word) (s : State) : Ans := .next (s.writeLeCfg n.val value)

/-- A value register of a short slot keeps 16 bits, sign-extended. -/
def leWord (n : Nat) (value : Word) : Nat := if n < 160 then unsign 32 (signed 16 (value.toNat % 2 ^ 16)) else value.toNat

/-- A write of LE_OMIN or LE_OMAX that would cross the limits is ignored (R313). -/
def State.writeLimit (s : State) (n : Nat) (hi : Bool) (value : Word) : State :=
  let v := signed (slotWidth n) (value.toNat % 2 ^ slotWidth n)
  let bad := if hi then decide (v < s.leInt LeOmin.v n) else decide (s.leInt LeOmax.v n < v)
  if bad then s.put LeStat.limErr n 1 else s.put (if hi then LeOmax.v else LeOmin.v) n (leWord n value)

def execLeLimitWrite (n : Fin 176) (hi : Bool) (value : Word) (s : State) : Ans := .next (s.writeLimit n.val hi value)

/-- A write of LE_HOST_SEQ commits the value for the latest posted sample (R324); a standby accepts none (R518). -/
def State.writeHostSeq (s : State) (n : Nat) (value : Word) : State :=
  if (s.slot n).mode = 2 ∧ s.acting ∧ LeHostSeq.seq.of value = s.get LeStat.seq n then
    s.mapSlot n (fun x => { x with committed := some (s.leInt LeHostOut.v n), hostAt := s.ft })
  else s

def execLeHostSeq (n : Fin 176) (value : Word) (s : State) : Ans := .next (s.writeHostSeq n.val value)

/-- Slots of the thermal function and of register control (R315). -/
def thermalSlots : List Nat := List.range 128
def registerSlots : List Nat := [164, 165]

/-- A write of LE_GCTRL: THERM_MODE and REG_MODE set every slot of their function. -/
def State.writeLeGctrl (s : State) (value : Word) : State :=
  let t := s.get LeGctrl.thermMode 0
  let r := s.get LeGctrl.regMode 0
  let s := s.storeWord .leGctrl 0 value
  let s := if s.get LeGctrl.thermMode 0 = t then s
    else thermalSlots.foldl (fun u n => u.askMode n (2 * u.get LeGctrl.thermMode 0)) s
  if s.get LeGctrl.regMode 0 = r then s
  else registerSlots.foldl (fun u n => u.askMode n (2 * u.get LeGctrl.regMode 0)) s

/-! ### Fallbacks (R326, R516) -/

/-- HOST_FALLBACK with the function, numbered by its row of Table 22-8. -/
def State.fellBack (s : State) (fn : Nat) : State := s.record .hostFallback 0 [a8 fn]

/-- A function that is silent returns to HW, if its fallback allows it; a standby measures no silence (R518). -/
def State.hostSilence (s : State) (f : HostFn) : State :=
  if ¬s.acting then s
  else match f with
  | .compensation =>
    if s.get ScrCtrl.compMode 0 = 1 ∧ s.flag ScrCtrl.hostFallback 0 then
      ((({ s with hmWait := none }).put ScrCtrl.compMode 0 0).enforce ScrCtrl.compMode 0).fellBack 1
    else s
  | .registerControl =>
    if s.get LeGctrl.regMode 0 = 1 ∧ s.flag LeGctrl.regFb 0 then
      ((registerSlots.foldl (fun u n => u.askMode n 0) (s.put LeGctrl.regMode 0 0)).fellBack 2).record .leFallback 164 []
    else s
  | .thermal =>
    if s.get LeGctrl.thermMode 0 = 1 ∧ s.flag LeGctrl.thermFb 0 then
      ((thermalSlots.foldl (fun u n => u.askMode n 0) (s.put LeGctrl.thermMode 0 0)).fellBack 3).record .leFallback 0 []
    else s
  | .ptp =>
    if s.get PtpCtrl.mode 0 = 1 ∧ s.flag PtpCtrl.hostFallback 0 then (s.put PtpCtrl.mode 0 0).fellBack 4 else s
  | .maintenance =>
    if s.get MntCtrl.mode 0 = 1 ∧ s.flag MntCtrl.hostFallback 0 then (s.put MntCtrl.mode 0 0).fellBack 5 else s
  | .calibration =>
    if s.get CalCtrl.mode 0 = 1 ∧ s.flag CalCtrl.hostFallback 0 then (s.put CalCtrl.mode 0 0).fellBack 6 else s
  | .spare n =>
    if (144 ≤ n.val ∧ n.val < 160 ∨ 168 ≤ n.val) ∧ s.get LeCfg.mode n.val = 2 ∧ s.flag LeCfg.hostFb n.val then
      (s.askMode n.val 0).record .leFallback n.val []
    else s

def execHostSilenceExpiry (f : HostFn) (s : State) : Ans := .next (s.hostSilence f)

/-! ### Trace commands -/

/-- A write of TRC_CFG: ARM clears the buffer and arms it; FORCE triggers where TRIG is manual (R331). -/
def State.writeTrcCfg (s : State) (b : Nat) (value : Word) : State :=
  let s := s.storeWord .trcCfg b value
  let s := if TrcCfg.arm.of value = 1 ∧ s.flag TrcCfg.en b then
      (((s.setTrace b TraceBuf.reset).put TrcStat.state b 1).put TrcStat.widx b 0).put TrcStat.tidx b 0
    else s
  if TrcCfg.force.of value = 1 ∧ s.get TrcStat.state b = 1 ∧ s.traceTrig b = 0 then
    s.setTrace b { s.traceBuf b with forced := true }
  else s

def execTrcArm (b : Fin 4) (value : Word) (s : State) : Ans := .next (s.writeTrcCfg b.val value)

def execTrcForce (b : Fin 4) (value : Word) (s : State) : Ans := .next (s.writeTrcCfg b.val value)

/-- The buffer as a dump reads it: oldest sample first, 16 bytes each. -/
def State.traceBytes (s : State) (b : Nat) : List Byte :=
  let x := s.traceBuf b
  let first := if x.samples.length = 8192 then s.get TrcStat.widx b else 0
  (List.range 8192).flatMap (fun k =>
    let v := Tab.get [] x.samples ((first + k) % 8192)
    (List.range 4).flatMap (fun j =>
      let w := unsign 32 (v.getD j 0)
      (List.range 4).map (fun i => BitVec.ofNat 8 (w / 2 ^ (8 * i)))))

/-- A write of TRC_DUMP_CTL.GO (R332). -/
def State.writeTrcDump (s : State) (b : Nat) (value : Word) : State :=
  if TrcDumpCtl.go.of value ≠ 1 then s
  else
    let st := s.get TrcStat.state b
    if st = 1 ∨ st = 2 then s.put TrcStat.dumpRef b 1
    else
      let dest := s.get TrcDumpLo.v b + 2 ^ 32 * (s.get TrcDumpHi.v b % 256)
      (s.put TrcStat.dumpBusy b 1).queueCmx
        { owner := 3, level := 3, lb := 16, perStripe := 256, input := s.traceBytes b, dest := dest, tag := b }

def execTrcDumpGo (b : Fin 4) (value : Word) (s : State) : Ans := .next (s.writeTrcDump b.val value)

/-! ### Known-answer tests (R439) -/

/-- The standby tests every slot against ROM vectors; a failure makes it unfit. -/
def execKnownAnswerTest (pass : Bool) (s : State) : Ans :=
  .next (if s.role = roleStandby ∧ pass = false then s.setUnfit unfitSummit true else s)

end Sys2Proof.Machine
end

