-- ==== Sys2Proof/Machine/Inspect.lean ====
section
/-!
DEFINITION. Camera triggers and frames, settings generations, result records and the health map (spec/14_inspection.md, R333 to
R364).
-/
namespace Sys2Proof.Machine

def State.ctx (s : State) (c : Nat) : Ctx := s.ins.ctxs.getD c Ctx.reset

def State.mapCtx (s : State) (c : Nat) (f : Ctx → Ctx) : State :=
  { s with ins := { s.ins with ctxs := s.ins.ctxs.set c (f (s.ctx c)) } }

def State.camPort (s : State) (n : Nat) : CamPort := s.ins.ports.getD n CamPort.reset

def State.mapCam (s : State) (n : Nat) (f : CamPort → CamPort) : State :=
  { s with ins := { s.ins with ports := s.ins.ports.set n (f (s.camPort n)) } }

/-- Contexts that port n serves (R333). -/
def State.served (s : State) (n : Nat) : List Nat := if s.flag CamCfg.shared n then [2 * n, 2 * n + 1] else [2 * n]

/-- The trigger whose frame is in progress on the port of context c. -/
def State.inFrame (s : State) (c : Nat) : Option Nat :=
  match (s.camPort (c / 2)).frame with
  | some (k, q) => if k = c then q else none
  | none => none

/-- Outstanding triggers of a context: neither taken nor closed (R337). -/
def State.outstanding (s : State) (c : Nat) : List Trigger :=
  (s.ctx c).trigs.filter (fun t => t.closed.isNone && s.inFrame c != some t.tseq)

/-- CAM_STAT follows. -/
def State.syncCam (s : State) (n : Nat) : State :=
  (s.put CamStat.out0 n (s.outstanding (2 * n)).length).put CamStat.out1 n (s.outstanding (2 * n + 1)).length

/-- CAMn_SEL (R335). -/
def State.setSel (s : State) (n : Nat) (high : Bool) : State :=
  let s := s.put CamStat.sel n (if high then 1 else 0)
  if s.mayAssert then { s with pins := { s.pins with camSel := s.pins.camSel.set n high } } else s

/-! ### Settings generations (R345 to R347) -/

def ispRegs : List Reg :=
  [.ispSize, .ispMode, .ispBlack, .ispWb, .ispCcm, .ispSep, .ispSepofs, .ispStrobe, .ispStrobeW, .ispStrobeDly, .ispCol0,
   .ispCscale, .ispAscale, .ispY0, .ispDefect, .ispCurve, .ispFlat]

/-- A trigger not yet completed is bound to the older copy. -/
def Ctx.olderUsed (x : Ctx) : Bool :=
  match x.older with
  | some g => x.trigs.any (fun t => t.closed.isNone && t.gen == g.num)
  | none => false

/-- GEN + 1 is made from the staged copy; a TARGET already issued binds it to the next trigger. -/
def State.makeCtxGen (s : State) (c target : Nat) : State :=
  let num := (s.get IspCommit.gen c + 1) % 2 ^ 16
  let last := s.get IspTseq.v c
  let late : Bool := last != 0 && decide ((last + 2 ^ 32 - target % 2 ^ 32) % 2 ^ 32 < 2 ^ 31)
  let next := (last + 1) % 2 ^ 32
  let s := s.mapCtx c (fun x => { x with pending := some (⟨num, copyRegs ispRegs s.regs⟩, if late then next else target),
                                         held := none, skipSeen := false })
  let s := ((s.put IspCommit.gen c num).put IspCommit.pend c 1).put IspCommit.busy c 0
  if late then (s.put IspCommit.late c 1).record .ispCommitLate c [a32 target, a32 next] else s

/-- A write of ISP_COMMIT. -/
def State.writeIspCommit (s : State) (c : Nat) (value : Word) : State :=
  let s := s.storeWord .ispCommit c value
  if IspCommit.commit.of value ≠ 1 then s
  else
    let target := s.get IspTarget.v c
    if (s.ctx c).olderUsed then (s.mapCtx c (fun x => { x with held := some target })).put IspCommit.busy c 1
    else s.makeCtxGen c target

/-- A commit that is held is made once the last frame bound to the older copy completes. -/
def State.releaseHeld (s : State) (c : Nat) : State :=
  match (s.ctx c).held with
  | some t => if (s.ctx c).olderUsed then s else s.makeCtxGen c t
  | none => s

/-- The generation of a trigger: a pending one whose TARGET is reached binds now. -/
def State.bindGen (s : State) (c tseq : Nat) : State :=
  let s := match (s.ctx c).pending with
    | some (g, target) =>
      if (tseq + 2 ^ 32 - target % 2 ^ 32) % 2 ^ 32 < 2 ^ 31 then
        ((s.mapCtx c (fun x => { x with older := some x.bound, bound := g, pending := none })).put IspApplied.v c tseq).put IspCommit.pend c 0
      else s
    | none => s
  s.put IspGenCur.gen c (s.ctx c).bound.num

/-! ### Triggers (R336, R337, R344) -/

/-- The strobe of a context: asked for, its string, code, delay and width. -/
def Ctx.strobe (x : Ctx) (c : Nat) : Bool × Nat × Nat × Nat × Nat :=
  (setGet x.bound.tab IspStrobe.en c == 1, setGet x.bound.tab IspStrobe.ls c, setGet x.bound.tab IspStrobe.i c,
   setGet x.bound.tab IspStrobeDly.v c, setGet x.bound.tab IspStrobeW.v c)

/-- The odd context of a shared port names the even one's string. -/
def State.strobeConflict (s : State) (c : Nat) : Bool :=
  c % 2 == 1 && ((s.ctx (c - 1)).strobe (c - 1)).1 && ((s.ctx c).strobe c).1 &&
    ((s.ctx (c - 1)).strobe (c - 1)).2.1 == ((s.ctx c).strobe c).2.1

/-- The strobes of a trigger, and the contexts whose request made no pulse. -/
def State.fireStrobes (s : State) (cs : List Nat) : State × List Nat :=
  cs.foldl (fun a c =>
    let r := (a.1.ctx c).strobe c
    if ¬r.1 ∨ (c % 2 = 1 ∧ cs.length = 2 ∧ a.1.strobeConflict c = true) then a
    else
      let q := a.1.strobe r.2.1 r.2.2.1 r.2.2.2.1 r.2.2.2.2
      if q.1 then (q.2, a.2)
      else if (q.2.ctx c).skipSeen then (q.2, a.2 ++ [c])
      else ((q.2.mapCtx c (fun x => { x with skipSeen := true })).record .ispStrobeSkip c [a8 r.2.1], a.2 ++ [c])) (s, [])

/-- The focus axis gets the dither of the next trigger (R353, R385). -/
def State.ditherAxis (s : State) : State :=
  let a := s.get LeSrc.sinkInst 167
  if s.get InsFocus.dither 0 ≠ 0 ∧ s.get LeSrc.sink 167 = 5 ∧ a < 8 ∧ s.acting then
    s.commitTarget a (s.leInt LeOut.v 167 + s.dither) false
  else s

/-- Port n issues a trigger, for the page of a trailer or for none; or skips it. -/
def State.issueTrigger (s : State) (n pseq : Nat) (trailer strip : Bool) : State :=
  let cs := s.served n
  if ¬s.flag CamCfg.en n ∨ ¬s.operating then s
  else if cs.any (fun c => decide (4 ≤ (s.outstanding c).length)) ∨ s.rst.qualified.getD (5 + n) false = false then
    (s.count CamCntSkip.count CamCntSkip.ovf n).record .camTrigSkip n []
  else
    let s := cs.foldl (fun t c => (t.bump IspTseq.v c).bindGen c ((t.get IspTseq.v c + 1) % 2 ^ 32)) s
    let r := s.fireStrobes cs
    let s := r.1
    let x := if s.mode = 0 then 0 else s.xNow
    let s := cs.foldl (fun t c => t.mapCtx c (fun y => { y with trigs := y.trigs ++ [
      { tseq := t.get IspTseq.v c, gen := y.bound.num, tab := y.bound.tab, ft := t.ft, x := x / 65536,
        xfrac := (x % 65536 / 256).toNat, pseq := pseq, trailer := trailer, conflict := decide (cs.length = 2) && t.strobeConflict c,
        strobeSkip := r.2 != [], closed := none, rows := [] }] })) s
    let strips := if s.ins.strips.any (fun (q : Strip) => q.pseq == pseq) then
        s.ins.strips.map (fun (q : Strip) => if q.pseq = pseq then { q with ctxs := q.ctxs ++ cs } else q)
      else s.ins.strips ++ [{ pseq := pseq, ctxs := cs, done := [], results := [] }]
    let s := if strip then { s with ins := { s.ins with strips := strips } } else s
    let w := max 1 (s.get CamTrig.trigW n)
    let s := (s.mapCam n (fun p => { p with trigEnd := some (s.ft + us w) })).setSel n false
    let s := if s.mayAssert then { s with pins := { s.pins with camTrig := s.pins.camTrig.set n (!s.trigIdle n) } } else s
    let s := if cs.contains (s.get InsFocus.ctx 0) then s.ditherAxis else s
    s.syncCam n

/-- CAMn_TRIG returns to its idle level at the end of its pulse (R336). -/
def State.trigPins (s : State) : State :=
  (List.range 4).foldl (fun t n => match (t.camPort n).trigEnd with
    | some e => if e ≤ t.ft then (t.mapCam n (fun p => { p with trigEnd := none })).safeCam n else t
    | none => t) s

/-- The first trailer for which the port has not triggered. -/
def State.dueTrailer (s : State) (n : Nat) : Option Trailer := s.ins.trailers.find? (fun t => !t.fired.contains n)

/-- A trailer trigger (SRC 1). -/
def State.trailerTrigger (s : State) (n : Nat) : State :=
  if s.get CamTrig.src n ≠ 1 then s
  else match s.dueTrailer n with
  | none => s
  | some t =>
    let s := { s with ins := { s.ins with trailers := s.ins.trailers.map (fun (u : Trailer) =>
      if u.pseq = t.pseq then { u with fired := n :: u.fired } else u) } }
    s.issueTrigger n t.pseq true (t.sets != [])

/-! ### Frames (R338 to R341) -/

/-- A valid frame of the context that a photometric calibration measures (R494). -/
def State.calFrame (s : State) (c tseq flags : Nat) (rows : Plane) : State :=
  match (s.ctx c).trigs.find? (fun (t : Trigger) => t.tseq == tseq && t.closed.isNone) with
  | some t =>
    if s.calState = calMeasure ∧ s.cal.kind = 3 ∧ s.cal.inst = c ∧ s.cal.raw = [] ∧ flags = 0 ∧ ¬t.strobeSkip then
      let g : Settings := ⟨t.tab, c⟩
      { s with cal := { s.cal with raw := patchMeans g (g.get IspSize.width) (g.get IspSize.height) rows } }
    else s
  | none => s

/-- A trigger closes with its flags, lines and pixels. -/
def State.closeTrigger (s : State) (c tseq flags lines : Nat) (rows : Plane) : State :=
  let s := s.calFrame c tseq flags rows
  (s.mapCtx c (fun x => { x with trigs := x.trigs.map (fun t =>
    if t.tseq = tseq ∧ t.closed.isNone then { t with closed := some (flags, lines), rows := rows } else t) })).releaseHeld c

/-- CAMn_SEL after the end of a frame of context c or its timeout: high after SEL_GAP, or low again (R335). -/
def State.afterFrame (s : State) (c : Nat) : State :=
  let n := c / 2
  if ¬s.flag CamCfg.shared n then s
  else if c % 2 = 0 then s.mapCam n (fun p => { p with selWait := true })
  else s.setSel n false

/-- An abort is complete: TRIG and SEL are safe (R341). -/
def State.abortedCam (s : State) (n : Nat) : State :=
  (((s.mapCam n (fun p => { p with aborting := false, selWait := false, trigEnd := none })).setSel n false).safeCam n).abortEnd 2 n |>.syncCam n

def State.frameStart (s : State) (n : Nat) : State :=
  if ¬s.flag CamCfg.en n ∨ (s.camPort n).frame.isSome then s
  else
    let c := if s.flag CamCfg.shared n ∧ s.flag CamStat.sel n then 2 * n + 1 else 2 * n
    match s.outstanding c with
    | t :: _ => (s.mapCam n (fun p => { p with frame := some (c, some t.tseq) })).syncCam n
    | [] => (s.mapCam n (fun p => { p with frame := some (c, none) })).count CamCntUnsol.count CamCntUnsol.ovf n

def State.frameEnd (s : State) (n : Nat) (rows : Plane) : State :=
  match (s.camPort n).frame with
  | none => s
  | some (c, q) =>
    let s := s.mapCam n (fun p => { p with frame := none })
    let s := match q with
      | some q =>
        (match (s.ctx c).trigs.find? (fun (t : Trigger) => t.tseq == q) with
        | some t =>
          let f := frameTaken (setGet t.tab IspSize.width c) (setGet t.tab IspSize.height c) (s.get CamCfg.bits n) rows
          s.closeTrigger c q f.2.1 f.2.2 f.1
        | none => s)
      | none => s
    let s := (s.afterFrame c).syncCam n
    if (s.camPort n).aborting then s.abortedCam n else s

/-- CAM_FRAME_TO has passed for the oldest outstanding trigger of a context. -/
def State.frameTimeout (s : State) (c : Nat) : State :=
  match s.outstanding c with
  | t :: _ => ((s.closeTrigger c t.tseq 4 0 []).afterFrame c).syncCam (c / 2)
  | [] => s

/-- Every outstanding trigger of a port closes with some flags. -/
def State.closeAll (s : State) (n flags : Nat) : State :=
  [2 * n, 2 * n + 1].foldl (fun t c => (t.outstanding c).foldl (fun u g => u.closeTrigger c g.tseq flags 0 []) t) s

/-- The frame in progress on a port ends with some flags. -/
def State.cutFrame (s : State) (n flags : Nat) : State :=
  match (s.camPort n).frame with
  | some (c, some q) => (s.mapCam n (fun p => { p with frame := some (c, none) })).closeTrigger c q flags 0 []
  | _ => s

/-- The port's pixel clock is lost (R339). -/
def State.camLost (s : State) (n : Nat) : State :=
  (((s.cutFrame n 1).mapCam n (fun p => { p with frame := none })).closeAll n 4).syncCam n

/-- A write of CAM_TRIG: GO, ABORT, and the source. -/
def State.writeCamTrig (s : State) (n : Nat) (value : Word) : State :=
  let s := s.storeWord .camTrig n value
  if CamTrig.abort.of value = 1 then
    let s := ((s.put CamTrig.src n 0).abortStart 2 n).closeAll n 8
    match (s.camPort n).frame with
    | some (_, some _) => (s.mapCam n (fun p => { p with aborting := true })).syncCam n
    | _ => s.abortedCam n
  else if CamTrig.go.of value = 1 ∧ (s.get CamTrig.src n = 0 ∨ s.get CamTrig.src n = 3) then s.issueTrigger n 0 false false
  else s

/-- 10 microseconds after an abort: the frame in progress is closed as ABORTED, and the rest of it is discarded. -/
def State.abortTimeout (s : State) (n : Nat) : State := if (s.camPort n).aborting then (s.cutFrame n 8).abortedCam n else s

/-! ### Loop sources (R352, R353, R362) -/

/-- A source of the loop engine takes a value and advances its sequence: 0 ALONG, 1 CROSS, 2 GAP, 3 FOCUS. -/
def State.setSource (s : State) (k : Nat) (v : Int) : State :=
  let q := s.ins.srcSeq.getD k 0 + 1
  let s := { s with ins := { s.ins with srcSeq := s.ins.srcSeq.set k q } }
  s.put InsSrc.v k (if k < 2 then unsign 32 v else unsign 16 v + q % 2 ^ 16 * 2 ^ 16)

/-- Halves up. -/
def roundDiv (a : Int) (b : Nat) : Int := (2 * a + b) / (2 * (max b 1 : Nat))

/-- A register that holds a 64-bit mask in two words. -/
def State.mask64 (s : State) (lo hi : Fld) : Nat := s.get lo 0 + 2 ^ 32 * s.get hi 0

/-- GAP_SHARP and FOCUS_SHARP from the zones of a valid frame. -/
def State.sharpSources (s : State) (c : Nat) (t : Trigger) (zones : List (Nat × Nat)) : State :=
  let s := if t.trailer ∧ c = s.get InsGap.ctx 0 then
      (match sharpFigure zones (s.mask64 InsGapMaskLo.v InsGapMaskHi.v) with
      | some f => s.setSource 2 (32767 - (f : Int))
      | none => s)
    else s
  if c = s.get InsFocus.ctx 0 ∧ s.get InsFocus.dither 0 ≠ 0 then
    match sharpFigure zones (s.mask64 InsFocusMaskLo.v InsFocusMaskHi.v) with
    | none => { s with ins := { s.ins with focusEven := none } }
    | some f =>
      if t.tseq % 2 = 0 then { s with ins := { s.ins with focusEven := some (f, t.tseq) } }
      else
        let u := { s with ins := { s.ins with focusEven := none } }
        match s.ins.focusEven with
        | some (f0, q) => if t.tseq = (q + 1) % 2 ^ 32 then u.setSource 3 (satInt 16 ((f : Int) - f0)) else u
        | none => u
  else s

/-- Mark k of a frame is valid (R361). -/
def State.markValid (s : State) (k : Nat) (m : Option MarkMeas) : Bool :=
  match m with
  | some m => s.flag InsMarkPos.en k && decide (s.get InsMark.markMin 0 ≤ m.score) && decide (s.get InsMark.markMin 0 ≤ m.scoreRef)
  | none => false

/-- The valid marks of a frame. -/
def State.validMarks (s : State) (marks : List (Option MarkMeas)) : List MarkMeas :=
  ((List.range 4).filter (fun k => s.markValid k (marks.getD k none))).filterMap (fun k => marks.getD k none)

/-- REG_ALONG and REG_CROSS (R362). -/
def State.markSources (s : State) (c : Nat) (g : Settings) (marks : List (Option MarkMeas)) : State :=
  match s.validMarks marks with
  | [] => s.record .insMarkMiss c []
  | l =>
    let dy := l.foldl (fun a m => a + (m.y - m.yr)) 0
    let dx := l.foldl (fun a m => a + (m.x - m.xr)) 0
    let s := s.setSource 0 (roundDiv (dy * g.get IspAscale.v) (4096 * l.length) - s.getInt InsMarkNom.along 0)
    s.setSource 1 (roundDiv (dx * g.get IspCscale.v) (65536 * l.length) - 16 * s.getInt InsMarkNom.cross 0)

/-! ### The health map (R356 to R360) -/

def State.health (s : State) (i : Nat) : Health := Tab.get Health.reset s.ins.health i

/-- TRIM of the newest committed nozzle map. -/
def State.mapTrim (s : State) (i : Nat) : Int := signed 4 (s.nmNewest.get NmStage.trim i)

/-- Class of a dash: 0 NORES, 1 MISS, 2 DEVIATE, 3 WEAK, 4 GOOD (Table 14-3, the trim aside). -/
def State.dashClass (s : State) (pseq : Nat) (d : DashMeas) : Nat :=
  if s.ins.unfired.contains (pseq, d.nozzle) then 0
  else if d.density < s.get InsChkDen.missDen 0 then 1
  else if 8 ≤ d.xerr.natAbs then 2
  else if d.density < s.get InsChkDen.weakDen 0 then 3
  else 4

def sat6 (v : Int) : Int := clampInt (-32) 31 v

/-- TRIMCNT and its sum after a present result (R358). -/
def trimCount (h : Health) (db : Nat) (yerr : Int) : Nat × Int :=
  if yerr.natAbs ≤ db then (0, 0)
  else if h.trimCnt = 0 ∨ decide (h.ysum < 0) ≠ decide (yerr < 0) then (1, yerr)
  else if h.trimCnt < 7 then (h.trimCnt + 1, h.ysum + yerr)
  else (7, h.ysum)

/-- R357 for a class. -/
def healthClass (missN goodN cls : Nat) (h : Health) : Health :=
  if cls ≤ 2 then
    let m := min (h.miss + 1) 7
    { h with miss := m, good := 0, state := if missN ≤ m then (if cls = 1 then 3 else 2) else h.state }
  else
    let g := min (h.good + 1) 15
    let st := if cls = 3 then 1 else 0
    { h with good := g, miss := 0, state := if h.state ≤ 1 ∨ goodN ≤ g then st else h.state }

/-- An entry after a result (R357, R358): `trim` is the nozzle map's TRIM. -/
def healthStep (missN goodN db : Nat) (trim : Int) (h : Health) (cls density : Nat) (xerr yerr : Int) : Health :=
  if cls = 0 then { h with nores := true }
  else
    let h := if h.own then h else { h with own := true, htrim := trim }
    let h := { h with nores := false, density := density % 256, xerr := sat6 xerr, yerr := sat6 yerr }
    if cls = 1 then healthClass missN goodN 1 h
    else
      let c := trimCount h db yerr
      if c.1 < missN then healthClass missN goodN cls { h with trimCnt := c.1, ysum := c.2 }
      else
        let new := trim - roundDiv c.2 c.1
        if -8 ≤ new ∧ new ≤ 7 then healthClass missN goodN cls { h with trimCnt := 0, ysum := 0, htrim := new }
        else healthClass missN goodN 2 { h with trimCnt := c.1, ysum := c.2 }

/-- The entry of a nozzle after a result, under the register settings. -/
def State.healthAfter (s : State) (i cls density : Nat) (xerr yerr : Int) : Health :=
  let n := s.get InsCtrl.chkMissN 0
  healthStep (if n = 0 then 2 else n) (s.get InsCtrl.chkGoodN 0 + 3) (s.get InsChkDen.trimDb 0) (s.mapTrim i) (s.health i) cls density xerr yerr

/-- An entry changes; an active twin's next cairn carries it. -/
def State.setHealth (s : State) (i : Nat) (h : Health) : State :=
  if h = s.health i then s
  else
    { s with ins := { s.ins with health := Tab.set Health.reset s.ins.health i h },
             twin := { s.twin with healthNew := if s.role = roleActive ∧ ¬s.twin.healthNew.contains i then i :: s.twin.healthNew
                                                else s.twin.healthNew } }

/-- A result reaches its entry; in COMP_MODE = HOST a change of state is posted (R517). -/
def State.healthResult (s : State) (i cls density : Nat) (xerr yerr : Int) : State :=
  let h := s.healthAfter i cls density xerr yerr
  let changed := h.state != (s.health i).state
  let s := s.setHealth i h
  if changed ∧ ¬s.compHw ∧ s.role ≠ roleStandby then
    { s.record .hmChange 0 [a32 i] with hmWait := some (s.hmWait.getD s.now) }
  else s

/-- Nozzles that a strip should show: those of its sets and columns. -/
def State.stripNozzles (s : State) (pseq : Nat) : List Nat :=
  match s.ins.trailers.find? (fun t => t.pseq == pseq) with
  | some t =>
    let g := s.nmNewest
    (nozzleKeys g g).filter (fun i => !g.absent i && t.sets.contains (g.get NmStage.cs i) && decide (t.firstCol ≤ g.get NmStage.column i) &&
      decide (g.get NmStage.column i < t.firstCol + t.width))
  | none => []

/-- HM_CLR (R360): every entry OK, counts 0, HTRIM equal to the present TRIM. -/
def State.clearHealth (s : State) : State :=
  let g := s.nmNewest
  { s with ins := { s.ins with
      clrDue := false,
      health := (nozzleKeys g g).foldl (fun t i => Tab.insert i { Health.reset with own := true, htrim := signed 4 (g.get NmStage.trim i) } t) [] } }

/-- The end of a strip (R357, R359). -/
def State.stripEnd (s : State) : State :=
  match s.ins.strips.find? (fun q => q.ctxs.all (fun c => q.done.contains c)) with
  | none => s
  | some q =>
    let s := (s.stripNozzles q.pseq).foldl (fun t i =>
      if (Tab.find q.results i).isSome then t else t.healthResult i 0 0 0 0) s
    let s := q.results.foldl (fun t e => t.healthResult e.1 e.2.2.1 e.2.2.2.1 e.2.2.2.2.1 e.2.2.2.2.2) s
    let s := { s with ins := { s.ins with strips := s.ins.strips.filter (fun r => r.pseq != q.pseq),
                                          unfired := s.ins.unfired.filter (fun u => u.1 != q.pseq) } }
    let s := s.analyserCommit
    if s.ins.clrDue then s.clearHealth else s

/-! ### Result records (R348, R349) -/

/-- Padded to a multiple of 64 bytes. -/
def pad64 (b : List Byte) : List Byte := b ++ List.replicate ((64 - b.length % 64) % 64) 0

def sharpBlock (zones : List (Nat × Nat)) : List Byte := zones.flatMap (fun z => leBytes 6 z.1 ++ leBytes 6 z.2 ++ leBytes 4 0)

def densityBlock (d : Nat × List Nat) : List Byte := pad64 (leBytes 2 d.1 ++ leBytes 2 d.2.length ++ d.2.flatMap (leBytes 2))

def State.markBlock (s : State) (marks : List (Option MarkMeas)) : List Byte :=
  pad64 ((List.range 4).flatMap (fun k => match marks.getD k none with
    | some m => leBytes 4 (unsign 32 m.x) ++ leBytes 4 (unsign 32 m.y) ++ leBytes 4 (unsign 32 m.xr) ++ leBytes 4 (unsign 32 m.yr) ++
        leBytes 2 m.score ++ leBytes 2 m.scoreRef ++ leBytes 4 (if s.markValid k (some m) then 1 else 0)
    | none => List.replicate 24 0))

/-- Counts of the classes, of state changes and of trim changes that the frame's results bring. -/
def State.stripBlock (s : State) (pseq : Nat) (dashes : List DashMeas) : List Byte :=
  let res := dashes.map (fun d => (d, s.dashClass pseq d))
  let after := res.map (fun r => (s.health r.1.nozzle, s.healthAfter r.1.nozzle r.2 r.1.density r.1.xerr r.1.yerr))
  let n (k : Nat) : Nat := (res.filter (fun r => r.2 == k)).length
  pad64 ((List.range 5).flatMap (fun k => leBytes 4 (n k)) ++
    leBytes 4 (after.filter (fun a => a.1.state != a.2.state)).length ++
    leBytes 4 (after.filter (fun a => a.1.own && a.1.htrim != a.2.htrim)).length)

/-- FLAGS of a closed trigger. -/
def Trigger.flags (t : Trigger) : Nat :=
  (match t.closed with
  | some f => f.1
  | none => 0) + (if t.conflict then 16 else 0) + (if t.trailer then 32 else 0) + (if t.strobeSkip then 64 else 0)

/-- The frame is invalid (R340). -/
def Trigger.invalid (t : Trigger) : Bool := t.strobeSkip || (match t.closed with
  | some f => f.1 != 0
  | none => true)

/-- The header (Table 14-2). DEDUCED (log 46). -/
def State.resultHeader (s : State) (c : Nat) (t : Trigger) (blocks len : Nat) : List Byte :=
  let p := s.ptpOf t.ft
  leBytes 4 t.tseq ++ leBytes 2 t.gen ++ leBytes 1 c ++ leBytes 1 t.flags ++ leBytes 2 blocks ++ leBytes 2 0 ++ leBytes 4 len ++
  leBytes 8 (unsign 64 t.x) ++ leBytes 1 t.xfrac ++ leBytes 3 0 ++ leBytes 4 p.2 ++ leBytes 8 p.1 ++ leBytes 8 t.ft ++ leBytes 8 t.pseq ++
  leBytes 4 (match t.closed with
    | some f => f.2
    | none => 0) ++ leBytes 4 0

/-- Units of the ring: values of LOG2 outside 14 to 20 act as 16. -/
def State.resUnits (s : State) : Nat :=
  let l := s.inForce InsResSize.log2 0
  2 ^ (if 14 ≤ l ∧ l ≤ 20 then l else 16)

/-- A record of whole units goes to the ring, or is lost where it does not fit (R349). -/
def State.putResult (s : State) (bytes : List Byte) : State :=
  let n := bytes.length / 64
  let wr := s.get InsResWr.v 0
  if (wr + 2 ^ 32 - s.get InsResRd.v 0) % 2 ^ 32 + n ≤ s.resUnits then
    let units := (List.range n).map (fun k => leVal (slice bytes (64 * k) 64))
    { s with ins := { s.ins with ring := ringPut s.resUnits s.ins.ring wr units } }.put InsResWr.v 0 (wr + n)
  else s.count InsResLost.count InsResLost.ovf 0

/-- Results of a strip frame; of two contexts that see a dash, the lower counts (R356). DEDUCED (log 46). -/
def State.stripResults (s : State) (c pseq : Nat) (dashes : List DashMeas) : State :=
  { s with ins := { s.ins with strips := s.ins.strips.map (fun (q : Strip) =>
      if q.pseq ≠ pseq then q
      else { q with results := dashes.foldl (fun t d => match Tab.find t d.nozzle with
        | some r => if r.1 < c then t else Tab.insert d.nozzle (c, s.dashClass pseq d, d.density, d.xerr, d.yerr) t
        | none => Tab.insert d.nozzle (c, s.dashClass pseq d, d.density, d.xerr, d.yerr) t) q.results }) } }

/-- The capture that this trigger meets (R364): stage 1 in mono, or the inks after stage 8. -/
def State.takeCapture (s : State) (c : Nat) (t : Trigger) (g : Settings) : State :=
  match s.ins.capture with
  | some (k, stage, target, dest) =>
    if k ≠ c ∨ 2 ^ 31 ≤ (t.tseq + 2 ^ 32 - target % 2 ^ 32) % 2 ^ 32 then s
    else
      let w := g.get IspSize.width
      let h := g.get IspSize.height
      let bytes : List Byte :=
        if stage = 0 then (stageBlack g t.rows).flatMap (fun l => l.flatMap (leBytes 2))
        else (pipeline g w h t.rows).flatMap (fun l => l.flatMap (fun p => (List.range 4).flatMap (fun i => leBytes 2 (inkOf g p i))))
      let s := { s with ins := { s.ins with capture := none } }
      s.queueCmx { owner := 2, level := 2, lb := w * (if stage = 0 then 2 else 8), perStripe := 16, input := bytes, dest := dest, tag := 0 }
  | none => s

/-- The record of a context's oldest trigger, once closed: measures, sources, ring (R348 to R364). -/
def State.resultRecord (s : State) (c : Nat) (marks : List (Option MarkMeas)) (dashes : List DashMeas) : State :=
  match (s.ctx c).trigs with
  | [] => s
  | t :: rest =>
    if t.closed.isNone then s
    else
      let g : Settings := ⟨t.tab, c⟩
      let w := g.get IspSize.width
      let h := g.get IspSize.height
      let ok := !t.invalid
      let rgb := pipeline g w h t.rows
      let plane (code : Nat) : Plane := rgb.map (fun l => l.map (channel g code))
      let sharp := ok && g.get IspMode.sharpEn == 1
      let zones := (List.range 64).map (zoneSums ((plane (g.get IspMode.sharpCh)).map (fun l => l.map (fun v => v / 16))) w h)
      let dens := ok && g.get IspMode.densEn == 1
      let mark := ok && t.trailer && g.get IspMode.markEn == 1
      let strip := ok && t.trailer && g.get IspMode.stripEn == 1 && s.ins.strips.any (fun (q : Strip) => q.pseq == t.pseq)
      let body := (if sharp then sharpBlock zones else []) ++
        (if dens then densityBlock (densityBands g w (plane (g.get IspMode.inkOwn))) else []) ++
        (if mark then s.markBlock marks else []) ++ (if strip then s.stripBlock t.pseq dashes else [])
      let blocks := (if sharp then 1 else 0) + (if dens then 2 else 0) + (if mark then 4 else 0) + (if strip then 8 else 0)
      let s := s.putResult (s.resultHeader c t blocks (64 + body.length) ++ body)
      let s := if sharp then s.sharpSources c t zones else s
      let s := if mark ∧ s.spUp 2 then s.markSources c g marks else s
      let s := if strip then s.stripResults c t.pseq dashes else s
      let s := s.takeCapture c t g
      let s := { s with ins := { s.ins with strips := s.ins.strips.map (fun (q : Strip) =>
        if q.pseq = t.pseq ∧ t.trailer then { q with done := c :: q.done } else q) } }
      s.mapCtx c (fun x => { x with trigs := rest })

end Sys2Proof.Machine
end

