-- ==== Sys2Proof/Machine/Cal.lean ====
section
/-!
DEFINITION. Calibration runs: start, results, agreement and application (spec/21_calibration.md, R494 to R498).
-/
namespace Sys2Proof.Machine

/-! ### Run results (Table 21-1) -/

/-- num / den rounded, in an unsigned format of w bits; a quotient outside the format is an open value. -/
def State.quotient (s : State) (w num den : Nat) : State × Int :=
  let q := (2 * num + den) / (2 * den)
  if den = 0 ∨ 2 ^ w ≤ q then (s.nextOpen, (s.openValue w : Nat)) else (s, (q : Nat))

/-- Drops of a code that a head has fired. -/
def State.dropsOf (s : State) (p k : Nat) : Nat := s.get64 HpUsageLo.v HpUsageHi.v (7 * p + k - 1)

/-- A mean as its raw measurement: sum and count. -/
def codesRaw (codes : List Nat) : List Nat := [codes.foldl (fun a b => a + b % 4096) 0, codes.length]

/-- The reflectance of patch j, U0.16. -/
def State.photoRef (s : State) (j : Nat) : Nat := if j % 2 = 0 then s.get CalPhotoRef.r0 (j / 2) else s.get CalPhotoRef.r1 (j / 2)

/-- The gain of channel ch from the patch means: Σ ref m / Σ m². -/
def State.photoGain (s : State) (ch : Nat) : State × Int :=
  let m (j : Nat) : Nat := s.cal.raw.getD (3 * j + ch) 0
  s.quotient 16 ((List.range 4).foldl (fun a j => a + s.photoRef j * m j) 0 * 2 ^ 14) ((List.range 4).foldl (fun a j => a + m j * m j) 0)

/-- The results of the run in hand, by channel. -/
def State.runResults (s : State) : State × List Int :=
  let one (r : State × Int) : State × List Int := (r.1, [r.2])
  let raw (i : Nat) : Nat := s.cal.raw.getD i 0
  let ref := s.get CalRefval.v 0
  match s.cal.kind with
  | 0 =>
    let c := s.cal.change.getD 0
    let r := s.quotient 32 (ref * 1000000) c.natAbs
    (r.1, [if c < 0 then -r.2 else r.2])
  | 1 => one (s.quotient 16 (341333 * 2 ^ 14 * raw 1) (100 * raw 0))
  | 2 => one (s.quotient 32 (ref * 256 * raw 1) (raw 0))
  | 3 =>
    let r := s.photoGain 0
    let g := r.1.photoGain 1
    let b := g.1.photoGain 2
    (b.1, [r.2, g.2, b.2])
  | _ => one (s.quotient 32 (ref * 1000) (raw 0))

/-! ### Application (Table 21-2) -/

/-- The new scale of source A, U16.32, staged for the next LQ. -/
def State.applyScale (s : State) (v : Int) : State :=
  let r := if v < 0 then (s.nextOpen, (s.openValue 48 : Int)) else
    s.quotient 48 (v.toNat * 256 * s.resLpi * 2 ^ 32) 25400000000
  let t := r.1.put64 FpeScaleALo.v FpeScaleAHi.v 0 r.2.toNat
  { t with fpe := { t.fpe with scaleDue := t.fpe.scaleDue.set 0 true } }

/-- A white-balance gain multiplied by a result, rounded and saturated. -/
def scaledGain (wb : Nat) (g : Int) : Nat := min 65535 ((wb * g.toNat + 2 ^ 13) / 2 ^ 14)

/-- The gains of context c take the result, in a generation committed for TSEQ + 2. -/
def State.applyPhoto (s : State) (c : Nat) (v : List Int) : State :=
  let g (ch : Nat) : Int := v.getD ch 0
  let s := (List.range 3).foldl (fun t ch => t.put CalPhoto.v (3 * c + ch) (g ch).toNat) s
  let s := s.put IspWb.g0 (2 * c) (scaledGain (s.get IspWb.g0 (2 * c)) (g 0))
  let s := s.put IspWb.g1 (2 * c) (scaledGain (s.get IspWb.g1 (2 * c)) (g 1))
  let s := s.put IspWb.g0 (2 * c + 1) (scaledGain (s.get IspWb.g0 (2 * c + 1)) (g 2))
  let target := (s.get IspTseq.v c + 2) % 2 ^ 32
  if (s.ctx c).olderUsed then (s.mapCtx c (fun x => { x with held := some target })).put IspCommit.busy c 1
  else s.makeCtxGen c target

def State.applyCal (s : State) (v : List Int) : State :=
  let n := s.cal.inst
  let w := (v.getD 0 0).toNat
  match s.cal.kind with
  | 0 => s.applyScale (v.getD 0 0)
  | 1 => s.put CalVgain.v 0 w
  | 2 => s.put CalLampGain.v n w
  | 3 => s.applyPhoto n v
  | _ => s.put CalDropMass.v (8 * n + s.cal.code) w

/-! ### Agreement (R495) -/

def agree (tol : Nat) (r1 r2 : Int) : Bool := decide ((r1 - r2).natAbs * 2 * 1000000 ≤ tol * (r1.natAbs + r2.natAbs))

/-- The accepted value is recorded. -/
def State.recordCal (s : State) (v : List Int) : State :=
  let k := s.cal.kind
  let t := s.ptpOf s.ft
  let last : Nat := if k = 3 then (v.getD 0 0).toNat % 2 ^ 16 + (v.getD 1 0).toNat % 2 ^ 16 * 2 ^ 16 else unsign 32 (v.getD 0 0)
  let s := s.count CalRecCount.count CalRecCount.ovf k
  (((s.put64 CalRecSecLo.v CalRecSecHi.v k t.1).put CalRecNs.v k t.2).put CalRecLast.v k last).record .calAccept k []

/-- A run has its result: run 1 keeps it, run 2 is compared with run 1. -/
def State.finishRun (s : State) (r : List Int) : State :=
  match s.cal.first with
  | none => ({ s with cal := { s.cal with first := some r } }).put CalStat.state 0 calIdle
  | some r1 =>
    let k := s.cal.kind
    if (r1.zip r).all (fun x => agree (s.get CalRecTol.v k) x.1 x.2) then
      let v := (r1.zip r).map (fun x => (x.1 + x.2 + 1) / 2)
      ((s.applyCal v).recordCal v).calEnd
    else
      let a (x : Int) : EvArg := if k = 3 then a16 (unsign 16 x) else a32 (unsign 32 x)
      ((s.put CalStat.disagree 0 1).record .calDisagree k ((r1 ++ r).map a)).calEnd

/-! ### Steps of a run (R494, R497) -/

/-- R496: too little was measured. -/
def State.calTooSmall (s : State) : State := (s.put CalStat.refused 0 1).calEnd

/-- The raw measurement of kind 3 has no form in one value that the spec states. DEDUCED (log 68). -/
def State.postRaw (s : State) : State :=
  let raw (i : Nat) : Nat := s.cal.raw.getD i 0
  let put (s : State) (v : Nat) : State := s.put64 CalRawLo.v CalRawHi.v 0 v
  match s.cal.kind with
  | 0 => put s (unsign 64 (s.cal.change.getD 0))
  | 3 => (put s (s.openValue 64)).nextOpen
  | 4 => put s (raw 0)
  | _ => put s (roundDiv (raw 0 : Nat) (raw 1)).toNat

/-- The measurement has ended: the host evaluates it, or the device does once it has its reference. A standby posts nothing. -/
def State.measured (s : State) (needsRef : Bool) : State :=
  let s := s.postRaw
  if s.get CalCtrl.mode 0 = 1 ∧ s.acting then
    ({ s with cal := { s.cal with postedAt := s.now } }).put CalStat.state 0 calWaitHost
  else if needsRef then s.put CalStat.state 0 calWaitRef
  else
    let r := s.runResults
    r.1.finishRun r.2

def State.calStart (s : State) (value : Word) : State :=
  let kind := CalCmd.kind.of value
  let inst := CalCmd.inst.of value
  let code := CalCmd.code.of value
  if s.calState ≠ calIdle ∨ 5 ≤ kind ∨ s.calReady kind inst code = false then s.put CalStat.refused 0 1
  else
    let same : Bool := s.cal.kind == kind && s.cal.inst == inst && s.cal.code == code
    let first := if same then s.cal.first else none
    let s := { s with cal :=
      { kind := kind, inst := inst, code := code, first := first, raw := [], edge := none, change := none,
        drops := if kind = 4 then s.dropsOf inst code else 0, postedAt := s.cal.postedAt } }
    ((s.put CalStat.state 0 calMeasure).put CalStat.run_ 0 (if first.isSome then 1 else 0)).put CalStat.kind 0 kind

/-- ENTER: the reference is taken. Kind 4 ends its measurement here. -/
def State.calEnter (s : State) : State :=
  if s.calState = calWaitRef then
    let r := s.runResults
    r.1.finishRun r.2
  else if s.calState = calMeasure ∧ s.cal.kind = 4 then
    let d := s.dropsOf s.cal.inst s.cal.code - s.cal.drops
    if d < 100000 then s.calTooSmall
    else ({ s with cal := { s.cal with raw := [d] } }).measured false
  else s

def State.calCancel (s : State) : State :=
  if s.calState = calIdle ∧ s.cal.first.isNone then s
  else ((s.abortStart 6 s.cal.kind).calAbandon).abortEnd 6 s.cal.kind

/-- A write of CAL_CMD. DEDUCED (log 12). -/
def State.writeCalCmd (s : State) (value : Word) : State :=
  if ¬keyOk value then s
  else match CalCmd.op.of value with
    | 0 => s.calStart value
    | 1 => s.calEnter
    | 2 => s.calCancel
    | _ => s

def execCalStart (value : Word) (s : State) : Ans := .next (s.writeCalCmd value)

def execCalEnter (value : Word) (s : State) : Ans := .next (s.writeCalCmd value)

def execCalCancel (value : Word) (s : State) : Ans := .next (s.writeCalCmd value)

/-- The measurement ends by the condition of its kind; the operand holds the ADC codes of kinds 1 and 2. -/
def execCalMeasureEnd (m : List Nat) (s : State) : Ans :=
  .next (if s.calState ≠ calMeasure then s
    else match s.cal.kind with
    | 0 => (match s.cal.change with
      | none => s
      | some c => if c.natAbs < 10000 then s.calTooSmall else s.measured true)
    | 1 => ({ s with cal := { s.cal with raw := codesRaw m } }).measured false
    | 2 => ({ s with cal := { s.cal with raw := codesRaw m } }).measured true
    | 3 => if s.cal.raw = [] then s else s.measured false
    | _ => s)

/-- A write of CAL_HRES gives the result of the run that waits for it (R497); of kind 3 the word holds the gains of R and G, and that
of B is not stated. DEDUCED (log 68). -/
def State.writeCalHres (s : State) (value : Word) : State :=
  let s := s.storeWord .calHres 0 value
  if s.calState ≠ calWaitHost ∨ ¬s.acting then s
  else if s.cal.kind = 3 then
    s.nextOpen.finishRun [(value.toNat % 2 ^ 16 : Nat), (value.toNat / 2 ^ 16 : Nat), (s.openValue 16 : Nat)]
  else s.finishRun [(value.toNat : Int)]

def execCalHres (value : Word) (s : State) : Ans := .next (s.writeCalHres value)

/-- No result within 1 s; a standby counts no missed deadline (R518). -/
def execCalHostMiss (s : State) : Ans :=
  .next (if s.calState = calWaitHost ∧ s.acting then (s.record .calHostMiss s.cal.kind []).calAbandon else s)

end Sys2Proof.Machine
end

