-- ==== Sys2Proof/Machine/Camera.lean ====
section
/-!
DEFINITION. The commands of cameras, contexts and analysers (spec/14_inspection.md).
-/
namespace Sys2Proof.Machine

def execCamTrigGo (n : Fin 4) (value : Word) (s : State) : Ans := .next (s.writeCamTrig n.val value)

def execCamTrailerTrigger (n : Fin 4) (s : State) : Ans := .next (s.trailerTrigger n.val)

def execCamPeriodicTrigger (n : Fin 4) (s : State) : Ans :=
  .next (if s.get CamTrig.src n.val = 2 ∧ s.get CamTrig.periodLq n.val ≠ 0 then s.issueTrigger n.val 0 false false else s)

def execCamFrameStart (n : Fin 4) (s : State) : Ans := .next (s.frameStart n.val)

/-- DESIGN CHOICE (log 79). -/
def execCamFrameEnd (n : Fin 4) (rows : List (List Nat)) (s : State) : Ans := .next (s.frameEnd n.val rows)

def execCamFrameTimeout (c : Fin 8) (s : State) : Ans := .next (s.frameTimeout c.val)

/-- SEL_GAP has passed since the end of camera A's frame; SEL changes only while VS is inactive (R335). -/
def execCamSelGapExpiry (n : Fin 4) (s : State) : Ans :=
  .next (if (s.camPort n.val).selWait ∧ (s.camPort n.val).frame.isNone then
      (s.mapCam n.val (fun p => { p with selWait := false })).setSel n.val true
    else s)

def execCamTrigAbort (n : Fin 4) (value : Word) (s : State) : Ans := .next (s.writeCamTrig n.val value)

def execCamAbortTimeout (n : Fin 4) (s : State) : Ans := .next (s.abortTimeout n.val)

def execIspCommit (c : Fin 8) (value : Word) (s : State) : Ans := .next (s.writeIspCommit c.val value)

def execResultRecord (c : Fin 8) (marks : List (Option MarkMeas)) (dashes : List DashMeas) (s : State) : Ans :=
  .next (s.resultRecord c.val marks dashes)

def execHealthMapUpdate (s : State) : Ans := .next s.stripEnd

/-- A write of INS_CTRL: HM_CLR is carried out between strips, and discards a strip that is incomplete (R360). -/
def State.writeInsCtrl (s : State) (value : Word) : State :=
  let s := s.storeWord .insCtrl 0 value
  if InsCtrl.hmClr.of value ≠ 1 then s
  else
    let whole := s.ins.strips.filter (fun q => q.ctxs.all (fun c => q.done.contains c))
    let s := { s with ins := { s.ins with strips := whole, clrDue := true } }
    if whole = [] then s.clearHealth else s

def execHmClr (value : Word) (s : State) : Ans := .next (s.writeInsCtrl value)

/-- A write of INS_CAP (R364). -/
def State.writeInsCap (s : State) (value : Word) : State :=
  let s := s.storeWord .insCap 0 value
  if InsCap.go.of value = 1 then
    { s with ins := { s.ins with capture := some (s.get InsCap.ctx 0, s.get InsCap.stage 0, s.get InsCapTarget.v 0,
                                                  s.get InsCapDstLo.v 0 + 2 ^ 32 * (s.get InsCapDstHi.v 0 % 256)) } }
  else s

def execInsCapGo (value : Word) (s : State) : Ans := .next (s.writeInsCap value)

end Sys2Proof.Machine
end

