-- ==== Sys2Proof/Machine/Sha.lean ====
section
/-!
DEFINITION. SHA-256 (FIPS 180-4), which spec/04_configuration_image.md names for the key hashes of R76 to R78, and HMAC-SHA-256
(RFC 2104), which spec/11_head_link.md names for head authentication (R281, R283). Words are numbers below 2^32.
-/
namespace Sys2Proof.Machine

def shaK : List Nat :=
  [0x428a2f98, 0x71374491, 0xb5c0fbcf, 0xe9b5dba5, 0x3956c25b, 0x59f111f1, 0x923f82a4, 0xab1c5ed5] ++
  [0xd807aa98, 0x12835b01, 0x243185be, 0x550c7dc3, 0x72be5d74, 0x80deb1fe, 0x9bdc06a7, 0xc19bf174] ++
  [0xe49b69c1, 0xefbe4786, 0x0fc19dc6, 0x240ca1cc, 0x2de92c6f, 0x4a7484aa, 0x5cb0a9dc, 0x76f988da] ++
  [0x983e5152, 0xa831c66d, 0xb00327c8, 0xbf597fc7, 0xc6e00bf3, 0xd5a79147, 0x06ca6351, 0x14292967] ++
  [0x27b70a85, 0x2e1b2138, 0x4d2c6dfc, 0x53380d13, 0x650a7354, 0x766a0abb, 0x81c2c92e, 0x92722c85] ++
  [0xa2bfe8a1, 0xa81a664b, 0xc24b8b70, 0xc76c51a3, 0xd192e819, 0xd6990624, 0xf40e3585, 0x106aa070] ++
  [0x19a4c116, 0x1e376c08, 0x2748774c, 0x34b0bcb5, 0x391c0cb3, 0x4ed8aa4a, 0x5b9cca4f, 0x682e6ff3] ++
  [0x748f82ee, 0x78a5636f, 0x84c87814, 0x8cc70208, 0x90befffa, 0xa4506ceb, 0xbef9a3f7, 0xc67178f2]

def shaInit : List Nat := [0x6a09e667, 0xbb67ae85, 0x3c6ef372, 0xa54ff53a, 0x510e527f, 0x9b05688c, 0x1f83d9ab, 0x5be0cd19]

def w32 (n : Nat) : Nat := n % 2 ^ 32

/-- Rotation to the right. -/
def rotr (k x : Nat) : Nat := x / 2 ^ k + x % 2 ^ k * 2 ^ (32 - k)

def shaBig0 (x : Nat) : Nat := rotr 2 x ^^^ rotr 13 x ^^^ rotr 22 x
def shaBig1 (x : Nat) : Nat := rotr 6 x ^^^ rotr 11 x ^^^ rotr 25 x
def shaSmall0 (x : Nat) : Nat := rotr 7 x ^^^ rotr 18 x ^^^ x / 2 ^ 3
def shaSmall1 (x : Nat) : Nat := rotr 17 x ^^^ rotr 19 x ^^^ x / 2 ^ 10

/-- Choice and majority. -/
def shaCh (x y z : Nat) : Nat := (x &&& y) ^^^ ((2 ^ 32 - 1 - x) &&& z)
def shaMaj (x y z : Nat) : Nat := (x &&& y) ^^^ (x &&& z) ^^^ (y &&& z)

/-- The message schedule, newest word first: `n` more words. -/
def shaSchedule : Nat → List Nat → List Nat
  | 0, w => w
  | n + 1, w =>
    shaSchedule n (w32 (shaSmall1 (w.getD 1 0) + w.getD 6 0 + shaSmall0 (w.getD 14 0) + w.getD 15 0) :: w)

/-- The eight working variables. -/
structure ShaVars where
  a : Nat
  b : Nat
  c : Nat
  d : Nat
  e : Nat
  f : Nat
  g : Nat
  h : Nat
  deriving DecidableEq, Repr

def ShaVars.round (v : ShaVars) (kw : Nat × Nat) : ShaVars :=
  let t1 := v.h + shaBig1 v.e + shaCh v.e v.f v.g + kw.1 + kw.2
  let t2 := shaBig0 v.a + shaMaj v.a v.b v.c
  { a := w32 (t1 + t2), b := v.a, c := v.b, d := v.c, e := w32 (v.d + t1), f := v.e, g := v.f, h := v.g }

def ShaVars.add (v u : ShaVars) : ShaVars :=
  { a := w32 (v.a + u.a), b := w32 (v.b + u.b), c := w32 (v.c + u.c), d := w32 (v.d + u.d), e := w32 (v.e + u.e),
    f := w32 (v.f + u.f), g := w32 (v.g + u.g), h := w32 (v.h + u.h) }

/-- Big-endian words. -/
def beWords : Nat → List Byte → List Nat
  | 0, _ => []
  | n + 1, bs => ((bs.take 4).foldl (fun m b => 256 * m + b.toNat) 0) :: beWords n (bs.drop 4)

def ShaVars.block (v : ShaVars) (bs : List Byte) : ShaVars :=
  let w := (shaSchedule 48 (beWords 16 bs).reverse).reverse
  v.add ((shaK.zip w).foldl ShaVars.round v)

/-- Blocks of 64 bytes. -/
def shaBlocks : Nat → ShaVars → List Byte → ShaVars
  | 0, v, _ => v
  | n + 1, v, bs => shaBlocks n (v.block (bs.take 64)) (bs.drop 64)

/-- `n` bytes of a number, most significant first. -/
def beBytes (n v : Nat) : List Byte := (List.range n).map (fun i => BitVec.ofNat 8 (v / 256 ^ (n - 1 - i)))

def sha256 (m : List Byte) : List Byte :=
  let pad := (119 - m.length % 64) % 64
  let bs := m ++ [BitVec.ofNat 8 0x80] ++ List.replicate pad 0 ++ beBytes 8 (8 * m.length)
  let i := fun k => shaInit.getD k 0
  let v := shaBlocks (bs.length / 64) ⟨i 0, i 1, i 2, i 3, i 4, i 5, i 6, i 7⟩ bs
  [v.a, v.b, v.c, v.d, v.e, v.f, v.g, v.h].flatMap (beBytes 4)

/-- HMAC over SHA-256, with its block of 64 bytes. -/
def hmac (key m : List Byte) : List Byte :=
  let k := if 64 < key.length then sha256 key else key
  let k := k ++ List.replicate (64 - k.length) 0
  let x := fun (p : Nat) => k.map (fun b => b ^^^ BitVec.ofNat 8 p)
  sha256 (x 0x5C ++ sha256 (x 0x36 ++ m))

end Sys2Proof.Machine
end

