-- ==== Sys2Proof/Machine/TwinOps.lean ====
section
/-!
DEFINITION. Operations of the twin block that other blocks call: giving up and taking the role, the comparison of shadow
frames, the takeover (spec/18_twin_operation.md).
-/
namespace Sys2Proof.Machine

def State.mapTwin (s : State) (f : TwinSt → TwinSt) : State := { s with twin := f s.twin }

/-! ### Fence and role pins (R36, R428) -/

/-- The fence output is pulled low, and the role pin goes low 2 microseconds later. -/
def State.pullFence (s : State) : State :=
  (({ s with pins := { s.pins with fenceN := false } }).put TwStat.fenceOut 0 1).mapTwin (fun t =>
    { t with roleLowAt := some (s.now + us 2) })

def State.releaseFence (s : State) : State :=
  ({ s with pins := { s.pins with fenceN := true } }).put TwStat.fenceOut 0 0

/-- Every port follows the role: requests that it forbids are withdrawn (R252), and ports that cannot fire are (R204). -/
def State.syncPorts (s : State) : State :=
  s.ports.foldl (fun t e => (t.mapPort e.1 (fun x =>
    { x with waiting := x.waiting.filter (fun r => t.opAllowed e.1 r.op) })).syncWd e.1) s

/-- The role is given up: the outputs go safe, head traffic stops, and only rejoining leads out of FENCED (R429, R446).
DEDUCED (log 50). -/
def State.giveUp (s : State) (code : EvCode) : State :=
  let s := (s.put TwStat.role 0 roleFenced).setUnfit unfitFenced true
  let s := (s.setUnfit unfitResync true).safeOutputs.releaseFence
  let s := s.mapTwin (fun t => { t with
    roleLowAt := none, plan := none, handed := none, pacing := none, alone := false,
    rejoin := TwinSt.reset.rejoin })
  (s.put FpeStat.adv 0 0).syncPorts.record code 0 []

/-- A twin takes ACTIVE by itself or at the start (R426 to R428). -/
def State.takeActive (s : State) : State :=
  ((s.put TwStat.role 0 roleActive).pullFence.mapTwin (fun t => { t with alone := true })).syncPorts

/-- A planned takeover is asked for: it is ignored unless this twin is ACTIVE and its partner is fit (R65, TW_CMD). -/
def State.requestPlan (s : State) (pageBound : Bool) : State :=
  if s.role = roleActive ∧ s.partnerFit ∧ s.twin.plan.isNone ∧ s.twin.handed.isNone then
    s.mapTwin (fun t => { t with plan := some (pageBound, s.now) })
  else s

/-- Epoch a is newer than b (R263). -/
def newerEpoch (a b : Nat) : Bool := let d := (a + 256 - b % 256) % 256; decide (1 ≤ d ∧ d ≤ 127)

/-! ### Comparison (R437, R438) -/

/-- The Summit test starts here. -/
def State.startSummit (s : State) : State :=
  (s.mapTwin (fun t => { t with summit := { t.summit with requested := true, running := true, mine := none, partner := none } })).count
    TwCntSummit.count TwCntSummit.ovf 0

/-- The twins computed different frames. Only the first mismatch after a clear state starts a test, none within SUMMIT_HOLD. -/
def State.mismatch (s : State) (p line : Nat) : State :=
  let s := (s.count TwCntMismatch.count TwCntMismatch.ovf 0).record .twMismatch p [a32 line]
  let s := s.mapTwin (fun t => { t with rejoin := { t.rejoin with compared := 0 } })
  let m := s.twin.summit
  if s.flag TwCtrl.summitEn 0 ∧ ¬m.requested ∧ ¬m.mismatch ∧ m.holdUntil ≤ s.now then
    ((s.mapTwin (fun t => { t with summit := { t.summit with mismatch := true } })).sendCol 9 [0]).startSummit
  else s.mapTwin (fun t => { t with summit := { t.summit with mismatch := true } })

/-- COMPARE_SUSPENDED (R88), or COMPARE_EN = 0. -/
def State.compareOff (s : State) : Bool := s.flag TwStat.compareSuspended 0 || !s.flag TwCtrl.compareEn 0

/-- A standby has to rejoin (R436). DEDUCED (log 50). -/
def State.startRejoin (s : State) : State :=
  (s.setUnfit unfitResync true).mapTwin (fun t => { t with rejoin := TwinSt.reset.rejoin })

/-- All four steps of rejoining are done and 4,096 lines agree (R436). -/
def State.tryRejoined (s : State) : State :=
  let r := s.twin.rejoin
  if s.unfitBit unfitResync ∧ r.nmGen ∧ r.ctbGen ∧ r.filled ∧ r.lines ∧ r.cairn ∧ 4096 ≤ r.compared then
    let s := s.setUnfit unfitResync false
    if s.role = roleFenced then (s.put TwStat.role 0 roleStandby).setUnfit unfitFenced false else s
  else s

/-- The port of an entry has been compared; a whole entry counts as a line compared. -/
def State.dropCompared (s : State) (p line : Nat) : State :=
  let j := s.twin.journal.map (fun e => if e.1 = line then (e.1, e.2.filter (fun x => x.1 != p)) else e)
  let done := j.any (fun e => e.1 == line && e.2.isEmpty)
  let j := j.filter (fun e => !e.2.isEmpty)
  let s := (s.mapTwin (fun t => { t with journal := j })).put JnlBacklog.v 0 j.length
  if done then
    ((s.put JnlLast.v 0 line).mapTwin (fun t => { t with rejoin := { t.rejoin with compared := t.rejoin.compared + 1 } })).tryRejoined
  else s

/-- S, J and K of a frame: K is none where no ACK came (Table of R437). -/
def State.compareFrame (s : State) (p line : Nat) (k : Option Nat) : State :=
  match (s.twin.journal.find? (fun e => e.1 == line)).bind (fun e => e.2.find? (fun x => x.1 == p)) with
  | none => match k with
    | some c => s.mapTwin (fun t => { t with earlyAcks := ((p, line, c) :: t.earlyAcks).take 2048 })
    | none => s
  | some j =>
    let s := s.dropCompared p line
    if s.compareOff then s
    else match (s.port p).frames.find? (fun f => f.line == line) with
      | none => s
      | some f =>
        if f.crc = j.2 then (if k = some f.crc then s else s.count JnlCntAck.count JnlCntAck.ovf 0)
        else if k = some f.crc then s.count JnlCntJnl.count JnlCntJnl.ovf 0
        else s.mismatch p line

/-! ### Takeover (R441 to R443, R448) -/

/-- The shadow frame with the new epoch and REPLAY. -/
def HeadFrame.replay (f : HeadFrame) (epoch : Nat) : HeadFrame :=
  let g := { f with epoch := epoch, flags := if f.flags / 4 % 2 = 1 then f.flags else f.flags + 4, acked := false, ended := false }
  { g with crc := g.check }

/-- R442: the frames of a port above A(p) whose instants have not passed are sent again. -/
def State.replayPort (s : State) (p : Nat) : State :=
  let x := s.port p
  let due : HeadFrame → Bool := fun f =>
    (match x.ackedLine with
     | some a => decide (a < f.line)
     | none => true) &&
    (match s.predict (256 * f.line) with
     | some t => decide (s.ft * 256 < t)
     | none => true)
  let e := s.get TwStat.epoch 0
  let s := if s.isUp p ∧ s.hpState p ≠ hpDown then
      (x.frames.filter due).foldl (fun t f => t.sendHead p 0x4C (f.replay e).args) s
    else s
  s.setPort p { x with frames := x.frames.map (fun f => if due f then f.replay e else f), lastFrame := s.now }

/-- The highest line whose stamp was issued by the time the last HEARTBEAT was sent (R443). DEDUCED (log 59). -/
def State.stampedByPartner (s : State) : Option Nat :=
  let heard : Int := (s.ft : Int) - ((s.now - s.twin.heardAt : Nat) : Int)
  let t : Int := heard * 256 + 512000 + (s.period / 2 : Nat)
  let x : Int := s.fpe.x + s.fpe.vel * (t - ((s.fpe.xAt * 256 : Nat) : Int)) / (625 * 256)
  if x < 0 then none else some (x / 2 ^ 24).toNat

/-- R448: an axis that moves may have issued other steps than its shadow. -/
def State.axesUncertain (s : State) : State :=
  (List.range 8).foldl (fun t n =>
    let v := ((s.mot.axes.getD n Axis.reset).v).natAbs
    if v = 0 then t else t.record .twAxUncertain n [a32 ((v * 5 + 3199999999999) / 3200000000000 + 1)]) s

/-- The standby takes the role at t0. -/
def State.takeover (s : State) (cause : Nat) : State :=
  let e0 := s.get TwStat.epoch 0
  let e := match s.twin.highEpoch with
    | some h => if newerEpoch h e0 then h else e0
    | none => e0
  let e := (e + 1) % 256
  let s := (((s.calAbandon).put TwStat.epoch 0 e).put TwStat.role 0 roleActive).pullFence
  let s := (((s.put TwLastTo.cause 0 cause).put TwLastTo.epoch 0 e).put TwLastTo.slipped 0 0).put64 TwLastToTLo.v TwLastToTHi.v 0 s.ft
  let s := (s.count TwCntTakeover.count TwCntTakeover.ovf 0).record .twTakeover 0 [a8 cause]
  let base := s.stampedByPartner
  let s := s.mapFpe (fun f => { f with
    base := base,
    hwm := match f.hwm, base with
      | some a, some b => some (max a b)
      | none, b => b
      | a, none => a,
    decided := match s.twin.lastLine with
      | some j => max f.decided (j + 1)
      | none => f.decided })
  let s := s.mapTwin (fun t => { t with
    alone := true, pacing := some (base.getD 0, 0, 0, 0), journal := [], earlyAcks := [],
    partnerLost := false, cairn := none })
  let s := s.ports.foldl (fun t q => t.replayPort q.1) s
  (s.put JnlBacklog.v 0 0).syncPorts.axesUncertain

end Sys2Proof.Machine
end

