-- ==== Sys2Proof/Machine/Head.lean ====
section
/-!
DEFINITION. The head link: telemetry, time transfer, acknowledgements, bring-up, authentication, usage and sleep
(spec/11_head_link.md; R242 to R247 of spec/10_fire_timing.md).
-/
namespace Sys2Proof.Machine

/-- A discarded upstream frame or short message (R253, R257). -/
def State.upError (s : State) (p : Nat) : State := s.count HpCntUperr.count HpCntUperr.ovf p

def Rx.good (r : Rx) : Bool := !r.error && r.crcOk

/-! ### Waveform scale (R242) -/

/-- Two bytes of a table, little-endian. -/
def u16At (d : List Byte) (i : Nat) : Nat := (d.getD i 0).toNat + 256 * (d.getD (i + 1) 0).toNat

/-- Place of a value among breakpoints: the index below it, its distance and the width of the interval; clamped at the ends. -/
def bracket (v : Int) : List Int → Nat → Nat × Nat × Nat
  | [], i => (i, 0, 1)
  | [_], i => (i, 0, 1)
  | a :: b :: rest, i =>
    if v ≤ a then (i, 0, 1)
    else if v ≤ b then (i, (v - a).toNat, (b - a).toNat)
    else bracket v (b :: rest) (i + 1)

/-- k(T, V), bilinear, rounded to the nearest 2^-14. -/
def waveScale (d : List Byte) (temp : Int) (v : Nat) : Nat :=
  let t := bracket temp ((List.range 16).map (fun i => signed 16 (u16At d (2 * i)))) 0
  let u := bracket (v : Int) ((List.range 8).map (fun j => (u16At d (32 + 2 * j) : Int))) 0
  let k : Nat → Nat → Nat := fun i j => u16At d (48 + 2 * (8 * min i 15 + min j 7))
  let num := k t.1 u.1 * ((t.2.2 - t.2.1) * (u.2.2 - u.2.1)) + k (t.1 + 1) u.1 * (t.2.1 * (u.2.2 - u.2.1)) +
    k t.1 (u.1 + 1) * ((t.2.2 - t.2.1) * u.2.1) + k (t.1 + 1) (u.1 + 1) * (t.2.1 * u.2.1)
  let den := t.2.2 * u.2.2
  (2 * num + den) / (2 * den)

/-! ### Telemetry (R245, R246, R270, R274) -/

/-- Thermal hold: begins above HT_LIMIT or on OT_TRIP, ends below HT_LIMIT - HT_HYST; so does the hold for absent telemetry. -/
def State.thermal (s : State) (p : Nat) (temp : Int) (trip : Bool) : State :=
  let limit : Int := s.get HpTherm.htLimit p
  let hyst : Int := s.get HpTherm.htHyst p
  let held := s.flag HpTstat.hold p
  let out := held || s.flag HpTstat.stale p
  if trip ∨ limit < temp then
    let s := (s.put HpTstat.stale p 0).put HpTstat.hold p 1
    if held then s
    else (((s.put HpTstat.holdSeen p 1).countBy HpTstat.holds HpTstat.ovf p 1).record .htHold p
      [a16 (unsign 16 temp)]).syncWd p
  else if out ∧ temp < limit - hyst then
    (((s.put HpTstat.stale p 0).put HpTstat.hold p 0).record .htResume p []).syncWd p
  else if out then (s.put HpTstat.stale p 0).put HpTstat.hold p 1
  else s

/-- A frame that the head holds and has not fired. -/
def Port.holding (x : Port) : Bool := x.frames.any (fun f => f.acked && decide (x.lFired < f.line))

/-- TELEM.MISSED has advanced, or the time copy is not valid while frames are held (R270). -/
def State.fireMissed (s : State) (p missed : Nat) (timeOk : Bool) : State :=
  let x := s.port p
  let d := (missed + 256 - x.missed % 256) % 256
  if (x.telemSeen = true ∧ d ≠ 0) ∨ (timeOk = false ∧ x.holding = true) then s.record .hpFireMissed p [a8 d] else s

def State.telemetry (s : State) (p : Nat) (m : Telem) : State :=
  let temp := signed 16 m.temp
  let timeOk := (if m.portB then m.status / 2 % 2 else m.status % 2) == 1
  let trip := m.status / 32 % 2 == 1
  let wasTrip := s.get HpTelem.status p / 32 % 2 == 1
  let s := s.fireMissed p m.missed timeOk
  let s := ((((s.put HpTstat.temp p (m.temp)).put HpTelem.vdrive p m.vdrive).put HpTelem.status p m.status).put HpStat.eHi p
    m.eHi).put HpStat.timeOk p (if timeOk then 1 else 0)
  let s := s.put HpStat.tablesOk p (m.status / 4 % 2)
  let hi := match s.twin.highEpoch with
    | some h => if newerEpoch m.eHi h then m.eHi else h
    | none => m.eHi
  let s := s.mapTwin (fun t => { t with highEpoch := some hi })
  let k := match s.headTable p 2 with
    | some d => waveScale d temp m.vdrive
    | none => (s.port p).wscale
  let s := s.mapPort p (fun x => { x with
    wscale := k % 65536, telemAt := s.now, telemSeen := true, telems := x.telems + 1, missed := m.missed, fired := m.fired,
    lFired := m.lFired })
  let s := if trip ∧ ¬wasTrip then s.record .otTrip p [] else s
  (s.thermal p temp trip).tryReady p

/-- DESIGN CHOICE (log 79). -/
def execTelem (p : Fin 128) (m : Telem) (s : State) : Ans :=
  .next (if ¬s.isUp p.val then s else if ¬Rx.good m.rx then s.upError p.val else s.telemetry p.val m)

/-- R247: the port counts as held until telemetry comes again. -/
def execHtTelemLost (p : Fin 128) (s : State) : Ans :=
  .next (if s.hpState p.val = hpDown ∨ s.flag HpTstat.stale p.val then s
    else ((s.put HpTstat.stale p.val 1).record .htTelemLost p.val []).syncWd p.val)

/-- R272. -/
def execHeat (p : Fin 128) (s : State) : Ans :=
  .next (if s.mayDrive ∧ s.isUp p.val ∧ s.hpState p.val ≠ hpDown ∧ s.hpState p.val ≠ hpAsleep ∧ ¬(s.port p.val).staleEpoch then
      (s.sendHead p.val 3 [s.get TwStat.epoch 0, 0, s.heaterDuty p.val]).mapPort p.val (fun x => { x with lastHeat := s.now })
    else s)

/-! ### Time transfer (R258, R261) -/

/-- The downstream lane carries traffic. -/
def State.awake (s : State) (p : Nat) : Bool := s.isUp p && (s.lane p).tx != .asleep && (s.lane p).tx != .waking

/-- FT time at the head when a TSYNC that leaves now arrives. -/
def State.tsyncPort (s : State) (p : Nat) : State :=
  let d := s.get HpLdly.dly p
  s.sendHead p 1 [(s.ft + d / 256) % 2 ^ 40, d % 256]

def execTsync (s : State) : Ans :=
  .next ((List.range 128).foldl (fun t p => if t.awake p then t.tsyncPort p else t) s)

/-- A request of the set leaves, with its departure time in 1/256 FT tick. -/
def execEchoReq (p : Fin 128) (t0 : Nat) (s : State) : Ans :=
  let x := s.port p.val
  .next (if s.awake p.val ∧ ¬x.retryWait ∧ x.echoOut.length + x.echoes.length < 16 then
      (s.sendHead p.val 4 [x.echoId]).setPort p.val
        { x with echoOut := Tab.insert x.echoId t0 x.echoOut, echoId := (x.echoId + 1) % 65536 }
    else s)

/-- A whole set: twice the delays differ by no more than 2 ns, and their mean is the delay; otherwise it is repeated. -/
def State.echoSet (s : State) (p : Nat) : State :=
  let x := s.port p
  let l := x.echoes
  let hi := l.foldl max 0
  let lo := l.foldl min hi
  let s := s.setPort p { x with echoes := [], echoOut := [] }
  if 256 < hi - lo then
    if x.badSets = 7 then
      (s.mapPort p (fun x => { x with badSets := 0, retryWait := true })).record .hpLdlyFail p []
    else s.mapPort p (fun x => { x with badSets := x.badSets + 1 })
  else
    let old := s.get HpLdly.dly p
    let d := l.foldl (fun n v => n + v) 0 / 32
    let s := (s.put HpLdly.dly p d).put HpLdly.spread p ((hi - lo) / 2)
    let s := if old ≠ 0 ∧ (128 < d - old ∨ 128 < old - d) then s.record .hpLdlyStep p [] else s
    (s.mapPort p (fun x => { x with badSets := 0, delayOk := true })).tryReady p

def execEchoRsp (p : Fin 128) (rx : Rx) (id hold t3 : Nat) (s : State) : Ans :=
  let x := s.port p.val
  .next (if ¬s.isUp p.val then s
    else if ¬Rx.good rx then s.upError p.val
    else match Tab.find x.echoOut id with
      | none => s
      | some t0 =>
        let s := s.setPort p.val { x with echoOut := Tab.erase id x.echoOut, echoes := (t3 - t0 - hold) :: x.echoes }
        if x.echoes.length = 15 then s.echoSet p.val else s)

/-- R261: 10 ms after the failure the port starts again. -/
def execLdlyRetry (p : Fin 128) (s : State) : Ans :=
  .next (if (s.port p.val).retryWait then s.restartBringUp p.val else s)

/-- A new set is measured in service. -/
def execEchoPeriodExpiry (p : Fin 128) (s : State) : Ans :=
  .next (if s.isUp p.val ∧ ¬(s.port p.val).retryWait then
      s.mapPort p.val (fun x => { x with echoOut := [], echoes := [], badSets := 0 })
    else s)

/-! ### Usage (R283 to R285) -/

def ascii4 (a b c d : Nat) : List Byte := [BitVec.ofNat 8 a, BitVec.ofNat 8 b, BitVec.ofNat 8 c, BitVec.ofNat 8 d]

def State.headSerial (s : State) (p : Nat) : Nat := s.get64 HpIdLo.v HpIdHi.v p

/-- K_head, from the family key. DESIGN CHOICE (log 9). -/
def State.headKey (s : State) (p : Nat) : List Byte :=
  let f := s.get HpIdInfo.family p
  hmac (Config.familyKey f) (ascii4 0x4E 0x5A 0x48 0x44 ++ leBytes 8 (s.headSerial p) ++ leBytes 2 f)

/-- Usage registers hold element 7 p + k - 1. -/
def State.usage (s : State) (p k : Nat) : Nat := s.get64 HpUsageLo.v HpUsageHi.v (7 * p + k - 1)

def State.usages (s : State) (p : Nat) : List Nat := (List.range 7).map (fun k => s.usage p (k + 1))

def State.setUsage (s : State) (p k v : Nat) : State := s.put64 HpUsageLo.v HpUsageHi.v (7 * p + k - 1) v

/-- USAGE_WR to a VERIFIED head; one that waits already is enough. -/
def State.writeUsage (s : State) (p : Nat) : State :=
  let x := s.port p
  let busy := (match x.request with
    | some r => r.op == opUsageWr
    | none => false) || x.waiting.any (fun r => r.op == opUsageWr)
  if s.acting ∧ s.flag HpStat.verified p ∧ ¬busy then
    let seq := (x.usageSeq + 1) % 2 ^ 32
    let cs := s.usages p
    let tag := hmac (s.headKey p) (ascii4 0x55 0x53 0x57 0x52 ++ leBytes 8 (s.headSerial p) ++ leBytes 4 seq ++
      cs.flatMap (leBytes 8))
    (s.mapPort p (fun x => { x with usageDrops := 0 })).queueReq p opUsageWr ([seq] ++ cs ++ tag.map (fun b => b.toNat))
  else s

/-- The codes of an accepted frame are added, to the usage and to the tally (R478). -/
def State.addUsage (s : State) (p : Nat) (codes : Tab Nat) : State :=
  let s := codes.foldl (fun t e =>
    if 1 ≤ e.2 ∧ e.2 ≤ 7 then
      let u : State := t.count64 HpUsageLo.v HpUsageHi.v (7 * p + e.2 - 1) 1
      { u with tally := { u.tally with drops := u.tally.drops.set (e.2 - 1) (u.tally.drops.getD (e.2 - 1) 0 + 1) } }
    else t) s
  s.mapPort p (fun x => { x with usageDrops := x.usageDrops + codes.length })

/-- A nonce of the on-die generator: an open value. -/
def State.drawNonce (s : State) (p : Nat) : State :=
  let n := leBytes 16 (s.openValue 128)
  (s.mapPort p (fun x => { x with nonce := n })).nextOpen

/-- A request that carries a fresh nonce: CHALLENGE or USAGE_RD. -/
def State.nonceReq (s : State) (p op : Nat) : State :=
  let s := s.drawNonce p
  s.queueReq p op ((s.port p).nonce.map (fun b => b.toNat))

/-! ### Acknowledgements (R267 to R269) -/

/-- The fetch deadline of a line has not passed (R210). -/
def State.beforeDeadline (s : State) (N : Nat) : Bool :=
  match s.predict (256 * N - 2048) with
  | some t => decide (s.ft * 256 < t)
  | none => true

/-- A frame goes out again unchanged (R268). -/
def State.resend (s : State) (p : Nat) (f : HeadFrame) : State :=
  if s.mayDrive ∧ s.isUp p ∧ ¬(s.port p).staleEpoch ∧ ¬f.acked ∧ ¬f.ended ∧ ¬f.lost ∧ s.beforeDeadline f.line then
    (s.sendHead p 0x4C f.args).count HpCntResend.count HpCntResend.ovf p
  else s

def State.mapFrame (s : State) (p line : Nat) (g : HeadFrame → HeadFrame) : State :=
  s.mapPort p (fun x => { x with frames := x.frames.map (fun f => if f.line = line then g f else f) })

/-- The page has ended for the port: all its frames are settled and no row is over it any more (R284). -/
def State.portPageDone (s : State) (p pseq : Nat) : Bool :=
  s.portPassed p pseq &&
  !(s.port p).frames.any (fun f => !f.acked && !f.ended && !f.lost && f.pages.any (fun x => x.1 == pseq))

/-- ACCEPTED or DUPLICATE. -/
def State.ackFrame (s : State) (p : Nat) (f : HeadFrame) (accepted : Bool) : State :=
  let s := s.mapFrame p f.line (fun g => { g with acked := true })
  let s := s.mapPort p (fun x => { x with ackedLine := some (match x.ackedLine with
    | some a => max a f.line
    | none => f.line) })
  if f.acked ∨ ¬s.acting then s
  else
    let s := if accepted then s.addUsage p f.codes else s
    let x := s.port p
    if 2 ^ 20 ≤ x.usageDrops ∨ (x.usageDrops ≠ 0 ∧ f.pages.any (fun q => s.portPageDone p q.1) = true) then s.writeUsage p else s

/-- OLD_EPOCH: the port is stopped, and an ACTIVE twin gives up the role (R268, R446). -/
def State.oldEpoch (s : State) (p : Nat) : State :=
  let s := (s.mapPort p (fun x => { x with staleEpoch := true })).record .hpEpochStale p []
  if s.role = roleActive then s.giveUp .twDeposed else s.syncWd p

def State.takeAck (s : State) (p : Nat) (a : AckMsg) : State :=
  let s := if 2 ≤ a.result then s.count HpCntRefused.count HpCntRefused.ovf p else s
  let s := if s.role = roleStandby ∧ a.result ≤ 1 then s.compareFrame p a.line (some a.crc) else s
  match (s.port p).frames.find? (fun f => f.line % 2 ^ 32 == a.line && f.crc == a.crc) with
  | none => s
  | some f =>
    match a.result with
    | 0 => s.ackFrame p f true
    | 1 => s.ackFrame p f false
    | 2 => s.oldEpoch p
    | 3 => s.mapFrame p f.line (fun g => { g with ended := true })
    | 4 => s.resend p f
    | _ => s

def execAck (p : Fin 128) (a : AckMsg) (s : State) : Ans :=
  .next (if ¬s.isUp p.val then s else if ¬Rx.good a.rx then s.upError p.val else s.takeAck p.val a)

/-- No ACCEPTED or DUPLICATE within ACK_TO: the frame goes again; a standby compares without an ACK (R268, R437).
DESIGN CHOICE (log 4). -/
def execAckTimeout (p : Fin 128) (line : Nat) (s : State) : Ans :=
  .next (if s.role = roleStandby then s.compareFrame p.val line none
    else match (s.port p.val).frames.find? (fun f => f.line == line) with
      | some f => s.resend p.val f
      | none => s)

/-- A frame that was never acknowledged is declared lost (R269). -/
def State.loseLine (s : State) (p line : Nat) : State :=
  match (s.port p).frames.find? (fun f => f.line == line) with
  | none => s
  | some f =>
    if ¬s.acting ∨ f.acked ∨ f.lost then s
    else
      let s := s.mapFrame p line (fun g => { g with lost := true })
      let s := (s.record .hpLineLost p [a32 line]).count HpCntLost.count HpCntLost.ovf p
      f.pages.foldl (fun t q => t.mapPage q.1 (fun g => g.spoil q.2 7)) s

def execHpLineLost (p : Fin 128) (line : Nat) (s : State) : Ans := .next (s.loseLine p.val line)

/-! ### Bring-up (Table 11-7, R279 to R281) -/

/-- A reply ends the outstanding request of one of these operations. -/
def State.answered (s : State) (p : Nat) (ops : List Nat) : Bool :=
  match (s.port p).request with
  | some r => ops.contains r.op
  | none => false

def State.endReq (s : State) (p : Nat) (ops : List Nat) : State := if s.answered p ops then s.nextReq p else s

/-- R279: PROTO major 1, at most 2,048 nozzles and 32 rows, and the depth supported. -/
def State.helloValid (s : State) (p : Nat) (h : Hello) : Bool :=
  h.proto / 256 == 1 && decide (h.nozzles ≤ 2048) && decide (h.rows ≤ 32) && h.caps / 2 ^ s.ctrlDepth p % 2 == 1

/-- The identification registers. -/
def State.setIdentity (s : State) (p : Nat) (h : Hello) : State :=
  let s := ((s.put64 HpIdLo.v HpIdHi.v p h.serial).put HpIdInfo.family p h.family).put HpIdInfo.nozzles p h.nozzles
  ((s.put HpIdGeom.rows p h.rows).put HpIdGeom.caps p h.caps).put HpIdGeom.proto p h.proto

def State.hello (s : State) (p : Nat) (h : Hello) : State :=
  let old := (s.port p).lastSerial
  let s := (s.setIdentity p h).mapPort p (fun x => { x with lastSerial := some h.serial })
  let s := s.endReq p [2]
  if old.isSome ∧ old ≠ some h.serial then (s.record .hpHeadChanged p []).restartBringUp p
  else if ¬s.helloValid p h then
    ((s.put HpStat.helloErr p 1).put HpStat.state p hpSync).record .hpHelloBad p [] |>.syncWd p
  else
    let s := if h.maxRate < s.get HpRate.maxRate p then
        ((s.put HpRate.maxRate p h.maxRate).put HpStat.rateLim p 1).record .hpRateLimited p []
      else s
    if s.hpState p = hpSync then
      let s := (s.put HpStat.state p hpAuth).mapPort p (fun x => { x with helloOk := true })
      (s.queueReq p 3 [(s.port p).depth]).nonceReq p 8
    else s

def execHello (p : Fin 128) (h : Hello) (s : State) : Ans :=
  .next (if ¬s.isUp p.val then s else if ¬Rx.good h.rx then s.upError p.val else s.hello p.val h)

/-- The head is VERIFIED or UNVERIFIED; the tables follow from the active twin (steps 4 and 5). -/
def State.authenticated (s : State) (p : Nat) (ok : Bool) : State :=
  let s := if ok then (s.put HpStat.verified p 1).put HpStat.unverified p 0
    else ((s.put HpStat.verified p 0).put HpStat.unverified p 1).record .hpUnverified p []
  let s := (s.put HpStat.state p hpLoad).syncWd p
  let s := if ok then s.nonceReq p 0x0A else s
  let s := if s.acting then s.sendTables p else s
  (s.endReq p [8]).tryReady p

def State.responseOk (s : State) (p serial family : Nat) (tag : List Byte) : Bool :=
  let msg := ascii4 0x41 0x55 0x54 0x48 ++ (s.port p).nonce ++ leBytes 8 serial ++ leBytes 2 family
  decide (serial = s.headSerial p) && decide (family = s.get HpIdInfo.family p) && !(Config.familyKey family).isEmpty &&
  hmac (s.headKey p) msg == tag

def execResponse (p : Fin 128) (rx : Rx) (serial family : Nat) (tag : List Byte) (s : State) : Ans :=
  .next (if ¬s.isUp p.val then s
    else if ¬Rx.good rx then s.upError p.val
    else if s.hpState p.val = hpAuth ∧ s.answered p.val [8] then s.authenticated p.val (s.responseOk p.val serial family tag)
    else s)

def State.takeUsage (s : State) (p seq : Nat) (counts : List Nat) (tag : List Byte) : State :=
  let x := s.port p
  let msg := ascii4 0x55 0x53 0x52 0x44 ++ x.nonce ++ leBytes 4 seq ++ counts.flatMap (leBytes 8)
  let s :=
    if hmac (s.headKey p) msg = tag then
      let s := s.mapPort p (fun x => { x with usageSeq := seq, usageMerge := false })
      let s := (List.range 7).foldl (fun t k =>
        let c := counts.getD k 0
        t.setUsage p (k + 1) (if x.usageMerge then max c (t.usage p (k + 1)) else c)) s
      if x.usageMerge then s.writeUsage p else s
    else (s.mapPort p (fun x => { x with usageMerge := false })).record .hpUsageBad p []
  (s.endReq p [0x0A]).tryReady p

def execUsage (p : Fin 128) (rx : Rx) (seq : Nat) (counts : List Nat) (tag : List Byte) (s : State) : Ans :=
  .next (if ¬s.isUp p.val then s
    else if ¬Rx.good rx then s.upError p.val
    else if s.answered p.val [0x0A] then s.takeUsage p.val seq counts tag
    else s)

/-- The request that failed for good: recorded, and bring-up restarts (R275). -/
def State.mgmtFail (s : State) (p : Nat) : State := (s.record .hpMgmtFail p []).restartBringUp p

/-- A MACK ends the request; what was refused fails, but for a USAGE_WR (R275, R285). -/
def State.mack (s : State) (p : Nat) (r : MgmtReq) (status : Nat) : State :=
  if r.op = opUsageWr then
    if status = 0 then ((s.mapPort p (fun x => { x with usageSeq := r.args.headD 0 })).nextReq p).tryReady p
    else if status = 4 ∨ status = 5 then
      (((s.record .hpUsageRefused p []).nextReq p).mapPort p (fun x => { x with usageMerge := true })).nonceReq p 0x0A
    else (s.nextReq p).tryReady p
  else if r.op = 0x0F then ((s.paramReplied p).nextReq p).tryReady p
  else if status = 0 then (s.nextReq p).tryReady p
  else s.mgmtFail p

def execMack (p : Fin 128) (rx : Rx) (op status : Nat) (s : State) : Ans :=
  .next (if ¬s.isUp p.val then s
    else if ¬Rx.good rx then s.upError p.val
    else match (s.port p.val).request with
      | some r => if r.op = op then s.mack p.val r status else s
      | none => s)

/-- Resent up to 3 times; then the failure, and for a CHALLENGE the head is UNVERIFIED (R275, R281). -/
def execMgmtTimeout (p : Fin 128) (s : State) : Ans :=
  .next (match (s.port p.val).request with
    | none => s
    | some r =>
      if r.resends < 3 then
        (s.sendHead p.val (0x100 + r.op) r.args).mapPort p.val (fun x => { x with request := some { r with resends := r.resends + 1 } })
      else
        let s := if r.op = 8 then s.record .hpUnverified p.val [] else s
        s.mgmtFail p.val)

/-! ### Sleep (R286) -/

/-- A page scheduled or held that reaches a nozzle of the port. -/
def State.pageReaches (s : State) (p : Nat) : Bool :=
  s.pages.any (fun q => !q.closed &&
    (let g := if q.scheduled then s.nmGen q.nmGen else s.nmNewest
     (g.portNozzles p).any (fun i => !g.absent i && decide (q.desc.firstCol ≤ g.get NmStage.column i) &&
       decide (g.get NmStage.column i ≤ q.desc.firstCol + q.desc.widthM1))))

/-- What R286 asks of the port, the 10 ms aside; in PARK it holds for every port (R519). -/
def State.maySleep (s : State) (p : Nat) : Bool :=
  (s.flag HpCtrl.sleepEn p || s.get RstStatus.state 0 == 2) && (s.hpState p == hpReady || s.hpState p == hpAsleep) && !s.pageReaches p && s.heaterDuty p == 0 &&
  (s.port p).request.isNone && (s.port p).waiting.isEmpty

/-- A port asleep wakes once a condition has ended. -/
def State.wakeIfDue (s : State) (p : Nat) : State := if (s.port p).sleepReq ∧ ¬s.maySleep p then s.wakePort p else s

def execHeadSleepTimer (p : Fin 128) (s : State) : Ans :=
  .next (if (s.port p.val).sleepReq then s.wakeIfDue p.val
    else if s.maySleep p.val ∧ s.hpState p.val = hpReady then
      (((s.mapPort p.val (fun x => { x with sleepReq := true })).put HpStat.state p.val hpAsleep).put LnCtrl.txSleep p.val 1).requestSleep
        p.val |>.syncWd p.val
    else s)

/-! ### PARAM (Table 11-5) -/

def execHeadParamReply (p : Fin 128) (rx : Rx) (data : List Byte) (s : State) : Ans :=
  .next (if ¬s.isUp p.val then s
    else if ¬Rx.good rx then s.upError p.val
    else
      let s := s.mapPort p.val (fun x => { x with param := data })
      (s.paramReplied p.val).endReq p.val [0x0F])

/-! ### Links (R107) -/

def linkNumber : Link → Nat
  | .head p => p.val
  | .dataPort => 128
  | .col => 136

/-- The PCS reports the link UP once every lane of it is ready. -/
def execLinkUp (l : Link) (s : State) : Ans :=
  let n := linkNumber l
  .next (if s.isUp n ∨ ¬s.linkReady n then s
    else
      let s := { s with linkUp := n :: s.linkUp }
      match l with
      | .head p => s.startBringUp p.val
      | .dataPort => s
      | .col => s)

/-- It reports DOWN once a lane is not. -/
def execLinkDown (l : Link) (s : State) : Ans :=
  let n := linkNumber l
  .next (if ¬s.isUp n ∨ s.linkReady n then s
    else
      let s := { s with linkUp := s.linkUp.filter (fun m => m != n) }
      match l with
      | .head p => s.portDown p.val
      | .dataPort => s
      | .col => s.mapTwin (fun t => { t with rxSeq := [] }))

end Sys2Proof.Machine
end

