-- ==== Sys2Proof/Machine/Lamp.lean ====
section
/-!
DEFINITION. The commands of lamp strings and pattern engines (spec/15_lighting.md, R365 to R381).
-/
namespace Sys2Proof.Machine

/-- A PWM period starts: targets, the slots' references and the on-times of the CONT strings (R368). -/
def State.pwmPeriod (s : State) : State :=
  (List.range 16).foldl (fun t n =>
    if t.isPulse n then t
    else
      let target := t.lampTarget n
      let t := t.put LeRef.v (128 + n) (8 * target % 2 ^ 15)
      let duty := (signed 16 (t.get LeOut.v (128 + n) % 2 ^ 16)).toNat
      let on := if target = 0 ∨ ¬t.flag LmpStat.on n then 0 else (duty * 1250 + 2 ^ 14) / 2 ^ 15
      let t := t.mapLamp n (fun x => { x with onTime := on })
      if t.mayAssert then { t with pins := { t.pins with lsGate := t.pins.lsGate.set n (decide (0 < on)) } } else t) s.ramps

def execLampPwmPeriod (s : State) : Ans := .next s.pwmPeriod

/-- A chain image has been shifted out: what came back is compared with the image latched last (R369, R371). -/
def State.chainShift (s : State) (readback : Nat) : State :=
  if ¬s.mayAssert ∨ s.light.shifted.isSome then s
  else
    let clean := readback % 2 ^ 256 == s.light.latched
    let s := { s with light := { s.light with shifted := some s.chainImage, clean := clean } }
    if clean then s
    else
      let v := satAdd 8 (s.get LmpGstat.count 0) 1
      let t := (s.put LmpGstat.chainErr 0 1).put LmpGstat.count 0 v
      let t := if v = 255 ∧ s.get LmpGstat.count 0 ≠ 255 then t.record .cntSat 0 [a32 (LmpGstat.count.reg.addr 0)] else t
      t.record .lmpChain 0 []

def execSegChainShift (readback : Nat) (s : State) : Ans := .next (s.chainShift readback)

/-- Segments of string n that a change of image toggles. -/
def toggled (old new n : Nat) : List Nat := (List.range 16).filter (fun k => (old / 2 ^ (16 * n + k)) % 2 != (new / 2 ^ (16 * n + k)) % 2)

/-- Segment shorts (R374): the voltage step of a lit string is smaller than VFMIN / 2. -/
def State.segCheck (s : State) (n : Nat) (segs : List Nat) (before after : Nat) : State :=
  let a := s.stringUv n before
  let b := s.stringUv n after
  let step := if a ≤ b then b - a else a - b
  if segs ≠ [] ∧ s.lampLit n ∧ s.flag LmpCfg.diagEn n ∧ s.light.clean ∧ 2 * step < 1000 * s.get LmpVfmin.v n then
    let m := segs.foldl (fun m k => m ||| 2 ^ k) (s.get LmpStat.segShort n)
    (s.put LmpStat.segShort n m).record .lmpSegShort n []
  else s

/-- The image shifted last is latched, unless a PULSE string whose bits change is in a pulse (R369). `before` and `after` are the
strings' voltage means around the latch. -/
def State.chainLatch (s : State) (before after : List Nat) : State :=
  match s.light.shifted with
  | none => s
  | some img =>
    let old := s.light.latched
    if ¬s.mayAssert ∨ (List.range 16).any (fun n => s.inPulse n && toggled old img n != []) then s
    else
      let s := { s with light := { s.light with latched := img, shifted := none, latchAt := s.now } }
      (List.range 16).foldl (fun t n => t.segCheck n (toggled old img n) (before.getD n 0) (after.getD n 0)) s

def execSegLatch (before after : List Nat) (s : State) : Ans := .next (s.chainLatch before after)

/-- A measurement is shown, and the check has completed (R376). -/
def State.checked (s : State) (n isense vsense : Nat) : State :=
  ((s.put LmpMeas.isense n isense).put LmpMeas.vsense n vsense).put LmpStat.stale n 0

/-- The string voltage says short (R373). -/
def State.stringShort (s : State) (n isense vsense target : Nat) : Bool :=
  decide (target ≤ 2 * isense) && decide (s.stringUv n vsense < 1000 * s.litCount n * s.get LmpVfmin.v n)

/-- An on-time check of a string (R372, R373). -/
def State.diagCheck (s : State) (n isense vsense : Nat) : State :=
  if ¬s.flag LmpCfg.diagEn n ∨ ¬s.flag LmpStat.on n then s
  else
    let target : Option (Nat × Bool) :=
      if s.isPulse n then
        (match (s.lamp n).pulse with
        | some p => if p.1 + 1250 ≤ p.2.1 ∧ p.1 ≤ s.ft then some (p.2.2, true) else none
        | none => none)
      else some (s.lampTarget n, s.get LeOut.v (128 + n) == s.get LeOmax.v (128 + n))
    match target with
    | none => s
    | some (t, full) =>
      if t < s.get LmpDiagmin.v n ∨ t = 0 then s
      else
        let s := s.checked n isense vsense
        if full ∧ 2 * isense < t then s.lampFault n true
        else if s.stringShort n isense vsense t then s.lampFault n false
        else s

/-- DESIGN CHOICE (log 79). -/
def execLampDiagCheck (n : Fin 16) (isense vsense : Nat) (s : State) : Ans := .next (s.diagCheck n.val (isense % 4096) (vsense % 4096))

/-- An off-time probe has completed; below 0.30 V the string is open (R375). -/
def State.lampProbe (s : State) (n mv : Nat) : State :=
  if ¬s.flag LmpCfg.prbEn n ∨ ¬s.flag LmpStat.on n ∨ (s.isPulse n ∧ s.inPulse n) ∨ (¬s.isPulse n ∧ 0 < s.lampTarget n) then s
  else
    let s := s.put LmpStat.stale n 0
    if mv < 300 then s.lampFault n true else s

def execLampProbe (n : Fin 16) (mv : Nat) (s : State) : Ans := .next (s.lampProbe n.val mv)

/-- No check has completed for 100 ms (R376). -/
def execLmpDiagStale (n : Fin 16) (s : State) : Ans :=
  .next (if s.flag LmpCfg.en n.val ∧ ¬s.flag LmpStat.stale n.val then (s.put LmpStat.stale n.val 1).record .lmpDiagStale n.val [] else s)

/-- A write of LMP_CTRL: the latched faults clear and the string returns to the demand in force (R377). -/
def State.writeLmpCtrl (s : State) (n : Nat) (value : Word) : State :=
  if LmpCtrl.clr.of value = 1 then (((s.put LmpStat.open_ n 0).put LmpStat.short n 0).put LmpStat.fault n 0).driveLamp n else s

def execLmpCtrlClr (n : Fin 16) (value : Word) (s : State) : Ans := .next (s.writeLmpCtrl n.val value)

/-! ### Temperature compensation (R378) -/

/-- The gain of class k at a code, linear between its points. -/
def State.classGain (s : State) (k c : Nat) : Nat :=
  let pts := (List.range 16).map (fun i => (s.get LmpPoint.c (16 * k + i), s.get LmpPoint.g (16 * k + i)))
  let below := pts.takeWhile (fun p => decide (p.1 ≤ c))
  match below.getLast?, (pts.dropWhile (fun p => decide (p.1 ≤ c))).head? with
  | some a, some b => (((a.2 : Int) * ((b.1 : Int) - a.1) + ((b.2 : Int) - a.2) * ((c : Int) - a.1)) / ((b.1 : Int) - a.1)).toNat
  | some a, none => a.2
  | none, some b => b.2
  | none, none => 0x4000

def execLampTempComp (ntc : List Nat) (s : State) : Ans :=
  let s := { s with light := { s.light with ntc := (List.range 8).map (fun j => ntc.getD j 0 % 4096) } }
  .next ((List.range 16).foldl (fun t n =>
    t.mapLamp n (fun x => { x with gain := t.classGain (t.get LmpCfg.class_ n) (t.light.ntc.getD (t.get LmpCfg.ntc n) 0) })) s)

/-! ### Pattern engines (R379 to R381) -/

/-- The strings of a start cannot be taken. -/
def State.patRefused (s : State) (e mask : Nat) : Bool :=
  (List.range 16).any (fun n => mask / 2 ^ n % 2 == 1 &&
    (s.isPulse n || (s.lamp n).activity.isSome || (match (s.lamp n).engine with
      | some k => k != e
      | none => false)))

/-- The engine starts at START on its strings. -/
def State.startEngine (s : State) (e : Nat) : State :=
  let mask := s.get PatCtrl.strings e
  if s.patRefused e mask then s.put PatStat.refused e 1
  else
    let s := s.stopEngine e
    let s := s.mapPattern e (fun x => { x with strings := mask, loops := [] })
    let s := (s.pattern e).list.foldl (fun t n =>
      ((t.put LmpStat.owned n 1).put LmpStat.engine n e).mapLamp n (fun y => { y with engine := some e })) s
    (runSteps 64 (s.put PatStat.state e 1) e (s.get PatCtrl.start e)).calWatch

/-- A write of PAT_CTRL; STOP acts first. -/
def State.writePatCtrl (s : State) (e : Nat) (value : Word) : State :=
  let s := s.storeWord .patCtrl e value
  let s := if PatCtrl.stop.of value = 1 then s.stopEngine e else s
  if PatCtrl.run_.of value = 1 then s.startEngine e else s

def execPatRun (e : Fin 8) (value : Word) (s : State) : Ans := .next (s.writePatCtrl e.val value)

def execPatStop (e : Fin 8) (value : Word) (s : State) : Ans := .next (s.writePatCtrl e.val value)

/-- The time, interval or distance of the present step has been reached (Table 15-2). -/
def State.patternTimer (s : State) (e : Nat) : State :=
  if s.get PatStat.state e = 0 then s
  else
    let step := s.get PatStat.step e
    let w := s.patWord e step 0
    match w % 16 with
    | 2 => (s.setLevel e (w / 2 ^ 4 % 256)).nextStep e
    | 3 | 4 => s.nextStep e
    | 5 =>
      let x := s.pattern e
      let s := s.setMask e (rotateMask x.mask (s.get LmpCfg.nseg (x.list.headD 0)) (w / 2 ^ 13 % 2 == 1))
      let s := s.mapPattern e (fun y => { y with chased := y.chased + 1, since := s.ft, sinceX := s.xNow })
      let count := w / 2 ^ 16 % 2 ^ 12
      if count ≠ 0 ∧ count ≤ (s.pattern e).chased then s.nextStep e else s
    | 6 => if s.patWord e step 1 = 0 then s else s.nextStep e
    | _ => runSteps 64 s e step

def execPatternTimer (e : Fin 8) (s : State) : Ans := .next (s.patternTimer e.val)

end Sys2Proof.Machine
end

