-- ==== Sys2Proof/Machine/Maint.lean ====
section
/-!
DEFINITION. Maintenance activities, their steps, and the PRINT interlock (spec/16_motion_and_maintenance.md, R398 to R405; R518,
R519 and R522 of spec/22_events_errors_ordering.md).
-/
namespace Sys2Proof.Machine

/-! ### Starting (R398 to R400, R405) -/

/-- Two activities exclude each other, by register or because what they own overlaps; 0 is PRINT. -/
def State.excludes (s : State) (a b : Nat) : Bool :=
  if a = 0 ∨ b = 0 then s.get MntPrintExcl.v 0 / 2 ^ (max a b - 1) % 2 == 1
  else s.get MntExcl.v (a - 1) / 2 ^ (b - 1) % 2 == 1 || s.get MntExcl.v (b - 1) / 2 ^ (a - 1) % 2 == 1 ||
    (s.get MntAct.axes (a - 1) &&& s.get MntAct.axes (b - 1)) != 0 || (s.get MntActLamp.v (a - 1) &&& s.get MntActLamp.v (b - 1)) != 0

/-- Activities that run now, PRINT as 0; one that aborts still runs. -/
def State.runningActs (s : State) : List Nat := (List.range 17).filter (fun a => s.get MntStat.running 0 / 2 ^ a % 2 == 1)

/-- A string that the activity declares cannot be owned by it. -/
def State.badStrings (s : State) (a : Nat) : Bool :=
  (s.actLamps a).any (fun n => s.isPulse n || (s.lamp n).engine.isSome)

/-- In MODE = HOST the next step is posted, unless an abort sequence runs (R403, R518, R522). -/
def State.postStep (s : State) (a : Nat) : State :=
  match s.act a with
  | none => s
  | some x =>
    if s.get MntCtrl.mode 0 = 1 ∧ s.acting ∧ x.aborting = none ∧ x.posted = none then
      let q := (s.get MntHstep.seq 0 + 1) % 2 ^ 16
      (((s.put MntHstep.act 0 a).put MntHstep.step 0 x.step).put MntHstep.seq 0 q).setAct
        { x with posted := some q, released := false, since := s.ft }
    else s

def State.refuseAct (s : State) (a : Nat) : State := s.put MntStat.refusedAct 0 a

def State.startActivity (s : State) (a : Nat) : State :=
  if s.runningActs.contains a then s
  else if a = 0 ∧ s.get RstStatus.state 0 = 2 then s.refuseAct 0
  else if a ≠ 0 ∧ s.get MntAct.valid (a - 1) = 0 then (s.put MntStat.err 0 1).refuseAct a
  else match s.runningActs.find? (fun b => s.excludes a b) with
    | some b => ((s.put MntStat.conflict 0 1).refuseAct a).record .mntConflict 0 [a8 a, a8 b]
    | none =>
      if a = 0 then (({ s with mot := { s.mot with print := true } }).setRunning 0 true).evalGate
      else if s.badStrings a then (s.put MntStat.err 0 1).refuseAct a
      else
        let s := (s.actAxes a).foldl (fun t n => (t.put AxStat.owned n 1).put AxStat.owner n a) s
        let s := (s.actLamps a).foldl (fun t n => t.mapLamp n (fun l => { l with activity := some a })) s
        let x : Activity :=
          { num := a, step := s.get MntAct.start (a - 1), begun := false, since := s.ft, stopping := false, aborting := none,
            replies := [], failed := false, loops := [], posted := none, released := false }
        ((({ s with mot := { s.mot with acts := s.mot.acts ++ [x] } }).setRunning a true).postStep a).calWatch

/-! ### Steps (Table 16-4) -/

/-- The data bytes of a PARAM block. -/
def State.paramData (s : State) (k : Nat) : List Nat :=
  (List.range (min (s.get MntParam.v (128 * k) % 512) 504)).map (fun i =>
    s.get MntParam.v (128 * k + 1 + i / 4) / 2 ^ (8 * (i % 4)) % 256)

/-- HEAD_CMD sends its block to a port and awaits the reply; a port that may be sent nothing leaves the reply missing. A standby
drives no head, and its shadow step awaits nothing. -/
def State.sendParam (s : State) (a k p : Nat) : State :=
  if ¬s.acting then s
  else
    match s.act a with
    | none => s
    | some x =>
      if s.opAllowed p 0x0F then (s.setAct { x with replies := x.replies ++ [p] }).queueReq p 0x0F (s.paramData k)
      else s.setAct { x with failed := true }

/-- The present step is carried out as far as it acts at once. -/
def State.runStep (s : State) (a : Nat) : State :=
  match s.act a with
  | none => s
  | some x =>
    if 64 ≤ x.step then s.endAct a
    else
      let w := s.stepWord a x.step 0
      let v := s.stepWord a x.step 1
      let s := s.setAct { x with begun := true, since := s.ft, replies := [], failed := false }
      let n := w / 2 ^ 4 % 8
      match w % 16 with
      | 0 => s.endAct a
      | 1 => s.commitTarget n (signed 32 v) true
      | 2 => s
      | 3 =>
        let k := w / 2 ^ 4 % 16
        if (s.lamp k).engine.isSome ∨ ((s.lamp k).activity.isSome ∧ (s.lamp k).activity ≠ some a) then s
        else (s.put LmpLevel.t0 k (v % 4096)).put LmpSeg.mask k (v / 2 ^ 16)
      | 4 =>
        let first := w / 2 ^ 7 % 2 ^ 8
        ((List.range (w / 2 ^ 15 % 2 ^ 8)).map (fun i => first + i)).filter (fun p => p < 128) |>.foldl
          (fun t p => t.sendParam a (w / 2 ^ 4 % 8) p) s
      | 5 => s
      | 6 => (s.mapAxis n (fun y => { y with homeBad := false })).startHoming n
      | 7 => s
      | _ => s.failStep a

/-- The axis of a step has refused its goal or faulted (R401). -/
def State.axisFailed (s : State) (n : Nat) : Bool :=
  s.get AxCfg.en n == 0 || s.flag AxStat.drvFault n || s.flag AxStat.safeStop n

/-- The step begun has failed. -/
def State.stepFailed (s : State) (x : Activity) : Bool :=
  let w := s.stepWord x.num x.step 0
  let n := w / 2 ^ 4 % 8
  match w % 16 with
  | 1 => (s.axis n).due.isNone && (s.axisFailed n || (s.axis n).goal != some (signed 32 (s.stepWord x.num x.step 1)))
  | 4 => x.failed
  | 6 => s.axisFailed n || (s.axis n).homeBad
  | _ => false

/-- The step begun has completed. -/
def State.stepDone (s : State) (x : Activity) : Bool :=
  let w := s.stepWord x.num x.step 0
  let v := s.stepWord x.num x.step 1
  let n := w / 2 ^ 4 % 8
  let y := s.axis n
  match w % 16 with
  | 1 => y.due.isNone && (w / 2 ^ 7 % 2 == 0 || (y.v == 0 && s.axPos n == signed 32 v))
  | 2 => (List.range 8).all (fun k => w / 2 ^ (4 + k) % 2 == 0 || ((s.axis k).v == 0 && (s.axis k).due.isNone &&
      ((s.axis k).goal.isNone || (s.axis k).goal == some (s.axPos k))))
  | 4 => x.replies.isEmpty
  | 5 => decide (x.since + us 1000 * v ≤ s.ft)
  | 6 => y.homing.isNone && y.v == 0 && y.stop == 0
  | _ => true

/-- The step after the present one; LOOP jumps as in Table 15-2. -/
def State.stepOn (s : State) (x : Activity) : Activity :=
  let w := s.stepWord x.num x.step 0
  let next : Activity := { x with begun := false, replies := [], posted := none, released := false }
  if w % 16 = 7 then
    let target := w / 2 ^ 4 % 64
    let count := w / 2 ^ 12 % 2 ^ 16
    if count = 0 then { next with step := target }
    else
      let left := Tab.get count x.loops x.step
      if left = 0 then { next with step := x.step + 1, loops := Tab.erase x.step x.loops }
      else { next with step := target, loops := Tab.insert x.step (left - 1) x.loops }
  else { next with step := x.step + 1 }

/-- The step that waits runs, if no release by the host is due for it. An abort sequence begins once the owned axes have stopped. -/
def State.tryStep (s : State) (a : Nat) : State :=
  match s.act a with
  | none => s
  | some x =>
    if x.aborting.isSome then (if (s.ownedBy a).any (fun n => (s.axis n).stop != 0) ∧ x.step = s.get MntAct.abortStart (a - 1) then s
      else s.runStep a)
    else if s.get MntCtrl.mode 0 = 0 ∨ x.released then s.runStep a
    else s.postStep a

/-- An activity goes on: the step begun fails, completes and is followed by the next, or is still in progress. -/
def State.activityStep (s : State) (a : Nat) : State :=
  match s.act a with
  | none => s
  | some x =>
    if ¬s.spUp 3 then s
    else if ¬x.begun then s.tryStep a
    else if s.stepFailed x then (if x.aborting.isSome then s else s.failStep a)
    else if s.stepDone x then
      if x.stopping then s.endAct a else ((s.setAct (s.stepOn x)).postStep a).tryStep a
    else s

/-! ### Commands -/

/-- A write of MNT_CMD. -/
def State.writeMntCmd (s : State) (value : Word) : State :=
  let a := MntCmd.act.of value
  if 16 < a then s
  else match MntCmd.op.of value with
    | 0 => s.startActivity a
    | 1 =>
      if a = 0 then (({ s with mot := { s.mot with print := false } }).setRunning 0 false).evalGate
      else (match s.act a with
        | none => s
        | some x => if x.aborting.isSome then s else if x.begun then s.setAct { x with stopping := true } else s.endAct a)
    | 2 =>
      if a = 0 then
        if s.mot.print then
          ((({ s with mot := { s.mot with print := false } }.abortStart 5 0).setRunning 0 false).evalGate).abortEnd 5 0
        else s
      else if (s.act a).isSome then (s.abortStart 5 a).startAbortSeq a else s
    | _ => s

def execMntStart (value : Word) (s : State) : Ans := .next (s.writeMntCmd value)

def execMntStop (value : Word) (s : State) : Ans := .next (s.writeMntCmd value)

def execMntAbort (value : Word) (s : State) : Ans := .next (s.writeMntCmd value)

/-- Operand a stands for activity a + 1. -/
def execActivityStep (a : Fin 16) (s : State) : Ans := .next (if s.operating then s.activityStep (a.val + 1) else s)

/-- The abort sequence has not completed within ABORT_BOUND: every owned axis is aborted and the activity ends (R402). -/
def execMntAbortTimeout (a : Fin 16) (s : State) : Ans :=
  .next (match s.act (a.val + 1) with
    | none => s
    | some x =>
      if x.aborting.isNone then s
      else ((((s.ownedBy (a.val + 1)).foldl (fun t n => (t.abortStart 4 n).cmdStop n 2) s).record .mntAbortTimeout (a.val + 1) []).endAct
        (a.val + 1)))

/-- A step posted has not been released within HOST_TO (R403); a standby counts none (R518). -/
def execMntHostTimeout (s : State) : Ans :=
  .next (if s.acting ∧ s.get MntCtrl.mode 0 = 1 ∧ s.mot.acts.any (fun (x : Activity) => x.posted.isSome && !x.released && x.aborting.isNone)
    then s.count MntCntMiss.count MntCntMiss.ovf 0 else s)

/-- A write of MNT_HGO with a posted SEQ releases its step. -/
def State.writeMntHgo (s : State) (value : Word) : State :=
  let q := MntHgo.seq.of value
  if ¬s.acting ∨ s.get MntCtrl.mode 0 = 0 then s
  else match s.mot.acts.find? (fun (x : Activity) => x.posted == some q && !x.released && x.aborting.isNone) with
    | none => s
    | some x => ({ s with mot := { s.mot with releaseAt := s.now } }.setAct { x with released := true }).tryStep x.num

def execMntHgo (value : Word) (s : State) : Ans := .next (s.writeMntHgo value)

/-- The gate is evaluated at every ET (R404). -/
def execPrintGateChange (s : State) : Ans := .next s.evalGate

end Sys2Proof.Machine
end

