-- ==== Sys2Proof/Machine/Position.lean ====
section
/-!
DEFINITION. Encoders, latch inputs and SSI ports (spec/12_position_feedback.md, R288 to R304).
-/
namespace Sys2Proof.Machine

def State.enc (s : State) (n : Nat) : Encoder := s.posn.enc.getD n Encoder.reset

def State.mapEnc (s : State) (n : Nat) (f : Encoder → Encoder) : State :=
  { s with posn := { s.posn with enc := s.posn.enc.set n (f (s.enc n)) } }

def State.encPos (s : State) (n : Nat) : Nat := s.get64 EncPosLo.v EncPosHi.v n

/-- ENC_POS changes; what it was stays known for the latches of R300. -/
def State.setEncPos (s : State) (n v : Nat) : State :=
  let was := s.encPos n
  (s.put64 EncPosLo.v EncPosHi.v n v).mapEnc n (fun e => { e with hist := (s.ft, was) :: e.hist.filter (fun h => decide (s.ft < h.1 + 128)) })

/-- ENC_POS in force at an FT time at most 128 ticks back: edges and reloads at that tick are applied (R300). -/
def State.encPosAt (s : State) (n t : Nat) : Nat :=
  match ((s.enc n).hist.filter (fun h => decide (t < h.1))).getLast? with
  | some h => h.2
  | none => s.encPos n

/-! ### Health (R294 to R297) -/

/-- A condition of Table 12-1 is live on a line (0 A, 1 B, 2 Z). -/
def Encoder.wireLive (e : Encoder) (line cond : Nat) : Bool := e.wire.getD (3 * line + cond) false

/-- REVERSED is live (R297). -/
def State.encReversed (s : State) (n : Nat) : Bool :=
  let m := s.get EncCfg.idxMode n
  (m == 1 || m == 2) && s.flag EncCfg.diagEn n && (decide (4 < (s.enc n).zHigh) || (s.enc n).reversed)

/-- The fault conditions of R294 that are live, by cause: 0 UNC, 1 OPEN, 2 CM_LOW, 3 CM_HIGH, 4 REVERSED. -/
def State.encFaults (s : State) (n : Nat) : List Nat :=
  let e := s.enc n
  (if s.get EncUnc.uncMax n < s.get EncUnc.unc n then [0] else []) ++
  ([0, 1, 2].filter (fun c => e.wireLive 0 c || e.wireLive 1 c)).map (fun c => c + 1) ++
  (if s.encReversed n then [4] else [])

/-- The live flags, the declared fault and HEALTHY follow the conditions. -/
def State.evalEnc (s : State) (n : Nat) : State :=
  let e := s.enc n
  let any (c : Nat) : Nat := if e.wireLive 0 c || e.wireLive 1 c || e.wireLive 2 c then 1 else 0
  let rev : Nat := if s.encReversed n then 1 else 0
  let s := (((s.put EncStat.open_ n (any 0)).put EncStat.cmLow n (any 1)).put EncStat.cmHigh n (any 2)).put EncStat.reversed n rev
  let s := if 0 < any 0 + any 1 + any 2 + rev then s.put EncStat.wireSeen n 1 else s
  match s.encFaults n with
  | [] => if s.flag EncStat.fault n ∧ e.clearAt = 0 then s.mapEnc n (fun e => { e with clearAt := max s.ft 1 }) else s
  | c :: _ =>
    let s := (s.put EncStat.healthy n 0).mapEnc n (fun e => { e with clearAt := 0 })
    if s.flag EncStat.fault n then s else (s.put EncStat.fault n 1).record .encFault n [a8 c]

/-- The encoder is healthy (R295, the 1 ms aside). -/
def State.encWell (s : State) (n : Nat) : State :=
  if s.flag EncCfg.en n ∧ s.encFaults n = [] ∧ ¬s.flag EncStat.healthy n then
    let s := (s.put EncStat.healthy n 1).mapEnc n (fun e => { e with clearAt := 0 })
    if s.flag EncStat.fault n then (s.put EncStat.fault n 0).record .encHealthy n [] else s
  else s

/-! ### Speed (R298, R299) -/

/-- A counted edge reaches the estimator: net count c after it, direction. -/
def State.estimate (s : State) (n : Nat) (c : Int) (reverse : Bool) : State :=
  let e := s.enc n
  let t := s.ft
  let s := (s.put EncStat.dirNow n (if reverse then 1 else 0)).put EncStat.still n 0
  let rate (q : Nat × Int × Bool) : Int := ((c - q.2.1) * 500000000).tdiv ((max (t - q.1) 1 : Nat) : Int)
  match e.edges with
  | [] => ((s.put EncStat.speedInvalid n 1).put EncStat.rev n 0).mapEnc n (fun e => { e with edges := [(t, c, reverse)], run := 1, sample := 0 })
  | q :: qs =>
    let s := s.put EncStat.speedInvalid n 0
    if q.2.2 ≠ reverse then
      (s.put EncStat.rev n 1).mapEnc n (fun e => { e with edges := [(t, c, reverse)], run := 2, sample := rate q })
    else
      let avg := 125 * max 4 (s.get EncSpdCtrl.avg n)
      let near := (q :: qs).takeWhile (fun r => decide (t < r.1 + avg))
      let rest := (q :: qs).dropWhile (fun r => decide (t < r.1 + avg))
      let ref := rest.headD q
      (s.put EncStat.rev n 0).mapEnc n (fun e => { e with edges := (t, c, reverse) :: near ++ rest.take 1, run := 2, sample := rate ref })

/-! ### Counting and the index (R289 to R293) -/

/-- Place of a (B, A) state in the sequence 00, 01, 11, 10. -/
def quadrant (a b : Bool) : Nat :=
  match b, a with
  | false, false => 0
  | false, true => 1
  | true, true => 2
  | true, false => 3

/-- UNC, a class S count without a flag. -/
def State.addUnc (s : State) (n k : Nat) : State :=
  let v := s.get EncUnc.unc n
  let v' := satAdd 16 v k
  let t := s.put EncUnc.unc n v'
  if v' = 2 ^ 16 - 1 ∧ v ≠ v' then t.record .cntSat 0 [a32 (EncUnc.unc.reg.addr n)] else t

/-- A gate event: the position before it is latched, and IDX_MODE may reload (R292). DEDUCED (log 42). -/
def State.gateEvent (s : State) (n before : Nat) : State :=
  let s := (s.put64 EncIdxLatLo.v EncIdxLatHi.v n before).put EncStat.idxSeen n 1
  let s := s.mapEnc n (fun e => { e with zNoGate := false, reversed := false })
  let m := s.get EncCfg.idxMode n
  let s := if m = 1 ∨ (m = 2 ∧ s.flag EncStat.armed n) then
      (((s.setEncPos n (unsign 64 (s.getInt EncIdxVal.v n))).put EncUnc.unc n 0).put EncStat.armed n 0).record .encIndex n []
    else s
  s.homeIndex n

/-- One count of the quadrature. -/
def State.countEdge (s : State) (n : Nat) (up : Bool) (z : Bool) : State :=
  let before := s.encPos n
  let d : Int := if up then 1 else -1
  let s := (s.setEncPos n (unsign 64 (signed 64 before + d))).mapEnc n (fun e => { e with net := e.net + d, zHigh := if z then e.zHigh + 1 else 0 })
  let s := if s.mode = 0 then
      s.mapFpe (fun f => { f with edges := [0, 1].map (fun k => f.edges.getD k 0 + (if s.srcEnc k = n then 1 else 0)) })
    else s
  let s := s.estimate n (s.enc n).net (!up)
  let e := s.enc n
  if z ∧ ¬(e.wireLive 2 0 || e.wireLive 2 1 || e.wireLive 2 2) ∧
      s.get EncCfg.idxState n = (if e.b then 2 else 0) + (if e.a then 1 else 0) then s.gateEvent n before
  else s

/-- The filtered lines of an encoder change to a, b and z. -/
def State.encEdge (s : State) (n : Nat) (a b z : Bool) : State :=
  let e := s.enc n
  let d := (quadrant a b + 4 - quadrant e.a e.b) % 4
  let s := s.mapEnc n (fun e => { e with a := a, b := b, z := z, zNoGate := if z && !e.z then true else e.zNoGate })
  if ¬s.flag EncCfg.en n then s
  else
    let s :=
      if d = 2 then (s.count EncQerr.count EncQerr.ovf n).addUnc n 2
      else if d = 1 then s.countEdge n (!s.flag EncCfg.dir n) z
      else if d = 3 then s.countEdge n (s.flag EncCfg.dir n) z
      else s
    let s := if e.z ∧ ¬z then s.mapEnc n (fun x => { x with zHigh := 0, reversed := x.reversed || x.zNoGate, zNoGate := false }) else s
    s.evalEnc n

/-- DESIGN CHOICE (log 79). -/
def execEncoderEdge (n : Fin 6) (a b z : Bool) (s : State) : Ans := .next (s.encEdge n.val a b z)

/-- A write of ENC_CFG: ARM (R293), UNC_CLR and EN (R295). -/
def State.writeEncCfg (s : State) (n : Nat) (value : Word) : State :=
  let was := s.flag EncCfg.en n
  let s := s.storeWord .encCfg n value
  let s := if EncCfg.arm.of value = 1 then s.put EncStat.armed n 1 else s
  let s := if EncCfg.uncClr.of value = 1 then s.put EncUnc.unc n 0 else s
  let s := if s.flag EncCfg.diagEn n then s else s.mapEnc n (fun e => { e with wire := List.replicate 9 false })
  let s := s.evalEnc n
  if s.flag EncCfg.en n ∧ ¬was then
    let s := s.mapEnc n (fun e => { e with edges := [], run := 0, sample := 0, zHigh := 0 })
    if s.flag EncStat.fault n then s else s.encWell n
  else if was ∧ ¬s.flag EncCfg.en n then s.put EncStat.healthy n 0
  else s

def execEncCfgArm (n : Fin 6) (value : Word) (s : State) : Ans := .next (s.writeEncCfg n.val value)

def execEncCfgUncClr (n : Fin 6) (value : Word) (s : State) : Ans := .next (s.writeEncCfg n.val value)

/-- No fault condition has been live for 1 ms (R295). -/
def execEncHealthy (n : Fin 6) (s : State) : Ans := .next (s.encWell n.val)

/-- No edge for STILL_TIME (R299). -/
def execEncStill (n : Fin 6) (s : State) : Ans :=
  .next (if s.flag EncCfg.en n.val then
      ((s.put EncStat.still n.val 1).put EncStat.speedInvalid n.val 0).mapEnc n.val (fun e => { e with edges := [], run := 0, sample := 0 })
    else s)

/-! ### Latch inputs (R300 to R302) -/

def State.latchIn (s : State) (m : Nat) : LatchIn := s.posn.latch.getD m LatchIn.reset

def State.mapLatch (s : State) (m : Nat) (f : LatchIn → LatchIn) : State :=
  { s with posn := { s.posn with latch := s.posn.latch.set m (f (s.latchIn m)) } }

/-- PRB_STAT and PRB_REC follow the queue, the diagnosis and the stuck condition. -/
def State.syncLatch (s : State) (m : Nat) : State :=
  let x := s.latchIn m
  let s := (s.put PrbStat.fill m x.queue.length).put PrbStat.wire m (if x.wire.any (fun b => b) then 1 else 0)
  let s := if s.flag PrbStat.wire m ∨ s.flag PrbStat.stuck m then s.put PrbStat.wireSeen m 1 else s
  (List.range 8).foldl (fun t k => t.put PrbRec.v (8 * m + k) ((x.queue.headD []).getD k 0)) s

/-- Low and high word of a 64-bit value. -/
def twoWords (v : Nat) : List Nat := [v % 2 ^ 32, v / 2 ^ 32 % 2 ^ 32]

/-- The record of an edge (Table 12-2). DEDUCED (log 42). -/
def State.latchRecord (s : State) (m : Nat) (falling : Bool) : List Nat :=
  let t := s.ft - 2 ^ s.get PrbCfg.filt m
  let sel := s.get PrbCfg.encSel m
  let e := if 6 ≤ sel then 0 else sel
  let unlocked := s.mode == 0
  let x := s.xAtTime t
  let einv := !s.flag EncCfg.en e || s.flag EncStat.fault e
  twoWords t ++ twoWords (s.encPosAt e t) ++ (if unlocked then [0, 0] else twoWords (unsign 64 (x / 65536))) ++
  [(if unlocked then 0 else (x % 65536 / 256).toNat) + (if falling then 2 ^ 8 else 0) + (if unlocked then 2 ^ 9 else 0) +
     (if einv then 2 ^ 10 else 0), (s.latchIn m).seq % 2 ^ 32]

/-- The FPE takes a top-of-form record (R302): for the pages that wait, and as the moment from which a page that is not yet
admitted has waited (R135). -/
def State.takeTof (s : State) (k : Nat) (at_ : Nat) (x : Int) : State :=
  let s := if s.pages.any (fun p => p.admitted && !p.scheduled && !p.closed && p.desc.startMode == 1 && p.desc.tofSel == k) then
      { s with posn := { s.posn with tof := s.posn.tof ++ [(k, at_, x)] } }
    else s
  match s.nextPage with
  | some p =>
    if p.desc.startMode = 1 ∧ p.desc.tofSel = k ∧ ¬p.admitted ∧ p.waitFrom = none ∧ (s.prevEnd : Int) ≤ s.tofLine k x then
      s.mapPage p.pseq (fun q => { q with waitFrom := some at_ })
    else s
  | none => s

/-- A filtered edge of a latch input. -/
def State.latchEdge (s : State) (m : Nat) (falling : Bool) : State :=
  let sel := s.get PrbCfg.edge m
  if ¬((sel = 1 ∧ ¬falling) ∨ (sel = 2 ∧ falling) ∨ sel = 3) then s
  else if 4 ≤ (s.latchIn m).queue.length then
    if s.flag PrbStat.ovf m then s else (s.put PrbStat.ovf m 1).record .prbOvf m []
  else
    let s := s.mapLatch m (fun x => { x with seq := x.seq + 1 })
    let r := s.latchRecord m falling
    let s := (s.mapLatch m (fun x => { x with queue := x.queue ++ [r] })).syncLatch m
    let s := s.calEdge m (s.encPosAt (s.get FpeCtrl.srcA 0) (s.ft - 2 ^ s.get PrbCfg.filt m))
    if 8 ≤ m ∧ s.mode ≠ 0 then s.takeTof (m - 8) (s.now - 2 ^ s.get PrbCfg.filt m) (s.xAtTime (s.ft - 2 ^ s.get PrbCfg.filt m) / 65536) else s

def execLatchEdge (m : Fin 12) (falling : Bool) (s : State) : Ans := .next (s.latchEdge m.val falling)

/-- A write of PRB_STAT: OVF and WIRE_SEEN clear, POP removes the oldest record. -/
def State.writePrbStat (s : State) (m : Nat) (value : Word) : State :=
  let s := s.storeWord .prbStat m value
  (if PrbStat.pop.of value = 1 then s.mapLatch m (fun x => { x with queue := x.queue.drop 1 }) else s).syncLatch m

def execPrbPop (m : Fin 12) (value : Word) (s : State) : Ans := .next (s.writePrbStat m.val value)

/-- The input has stayed at its non-idle level for longer than ACT_MAX, or has left it (R297). -/
def execStuckInput (m : Fin 12) (live : Bool) (s : State) : Ans :=
  .next (if s.flag PrbCfg.diagEn m.val ∧ s.get PrbCfg.actMax m.val ≠ 0 then
      let was := s.flag PrbStat.stuck m.val
      let s := (s.put PrbStat.stuck m.val (if live then 1 else 0)).syncLatch m.val
      if live ∧ ¬was then s.record .prbStuck m.val [] else s
    else s)

/-! ### SSI (R303, R304) -/

def State.ssi (s : State) (n : Nat) : SsiPort := s.posn.ssi.getD n SsiPort.reset

def State.mapSsi (s : State) (n : Nat) (f : SsiPort → SsiPort) : State :=
  { s with posn := { s.posn with ssi := s.posn.ssi.set n (f (s.ssi n)) } }

/-- A trigger: skipped during a frame or its monoflop time. -/
def State.ssiStart (s : State) (n : Nat) : State :=
  if s.flag SsiCfg.en n ∧ (s.ssi n).busy = none then s.mapSsi n (fun x => { x with busy := some s.ft }) else s

def State.writeSsiTrig (s : State) (n : Nat) (value : Word) : State :=
  let s := s.storeWord .ssiTrig n value
  if SsiTrig.go.of value = 1 then s.ssiStart n else s

def execSsiGo (n : Fin 2) (value : Word) (s : State) : Ans := .next (s.writeSsiTrig n.val value)

def execSsiPeriodTrigger (n : Fin 2) (s : State) : Ans := .next (if s.get SsiTrig.periodLq n.val = 0 then s else s.ssiStart n.val)

/-- Data bits of a frame: values 0 and 33 to 63 act as 32. -/
def State.ssiLen (s : State) (n : Nat) : Nat := let l := s.get SsiCfg.len n; if l = 0 ∨ 32 < l then 32 else l

/-- Gray to binary, MSB first. -/
def grayToBinary : Nat → Nat → Nat
  | 0, g => g
  | k + 1, g => g ^^^ grayToBinary k (g / 2)

/-- The checks of R303 in order: 0 the idle level, 1 the start bit, 2 the monoflop levels, 3 the two copies. -/
def State.ssiErrors (s : State) (n : Nat) (f : SsiFrame) : List Nat :=
  let m := 2 ^ s.ssiLen n
  (if f.idleHigh then [] else [0]) ++ (if f.start then [1] else []) ++
  (if f.monoLow && f.monoEnd then [] else [2]) ++
  (if s.flag SsiCfg.double n && f.data % m != f.copy % m then [3] else [])

/-- The frame and its monoflop time are over. -/
def State.ssiDone (s : State) (n : Nat) (f : SsiFrame) : State :=
  match (s.ssi n).busy with
  | none => s
  | some t =>
    let s := s.mapSsi n (fun x => { x with busy := none })
    match s.ssiErrors n f with
    | [] =>
      let d := f.data % 2 ^ s.ssiLen n
      let v := if s.flag SsiCfg.gray n then grayToBinary 32 d else d
      ((((s.put SsiData.v n v).put64 SsiTimeLo.v SsiTimeHi.v n t).put SsiStat.errbits n (f.errBits % 2 ^ s.get SsiCfg.errb n)).put
        SsiStat.valid n 1).bump SsiStat.seq n
    | c :: cs =>
      let s := (c :: cs).foldl (fun t k =>
        t.put (if k = 0 then SsiStat.busyErr else if k = 1 then SsiStat.startErr else if k = 2 then SsiStat.monoErr else SsiStat.dblErr) n 1) s
      s.record .ssiErr n [a8 c]

def execSsiFrameDone (n : Fin 2) (f : SsiFrame) (s : State) : Ans := .next (s.ssiDone n.val f)

/-! ### Wiring diagnosis (R296) -/

def condIx : WireCond → Nat
  | .openWire => 0
  | .cmLow => 1
  | .cmHigh => 2

/-- A condition has held, or been false, for 100 microseconds. -/
def State.wireChange (s : State) (w : WireIn) (c : Nat) (live : Bool) : State :=
  match w with
  | .enc n line =>
    if s.flag EncCfg.diagEn n.val then
      (s.mapEnc n.val (fun e => { e with wire := e.wire.set (3 * line.val + c) live })).evalEnc n.val
    else s
  | .latch m =>
    if s.flag PrbCfg.diagEn m.val then
      (s.mapLatch m.val (fun x => { x with wire := x.wire.set c live })).syncLatch m.val
    else s
  | .ssi n =>
    let s := s.mapSsi n.val (fun x => { x with wire := x.wire.set c live })
    s.put SsiStat.wire n.val (if (s.ssi n.val).wire.any (fun b => b) then 1 else 0)

def execWireConditionChange (w : WireIn) (c : WireCond) (live : Bool) (s : State) : Ans := .next (s.wireChange w (condIx c) live)

end Sys2Proof.Machine
end

