-- ==== Sys2Proof/Machine/Schedule.lean ====
section
/-!
DEFINITION. Page scheduling, page start and page abort (R135, R547 of spec/06_page_ingest.md; R132, R183, R543; R196 and R197; R232
and R233 of spec/10_fire_timing.md; R515 of spec/22_events_errors_ordering.md).
-/
namespace Sys2Proof.Machine

/-! ### The first line (Table 10-2) -/

/-- ceil(a / 256). -/
def ceil256 (a : Nat) : Nat := (a + 255) / 256

/-- The first usable top-of-form edge latched after a page's admission: the line it gives. -/
def State.tofFirst (s : State) (p : Page) : Option Nat :=
  match s.posn.tof.find? (fun e => e.1 == p.desc.tofSel && decide (p.admittedAt < e.2.1) &&
      decide ((s.prevEnd : Int) ≤ s.tofLine e.1 e.2.2)) with
  | some e => some (s.tofLine e.1 e.2.2).toNat
  | none => none

/-- F before adjustment; none while the page cannot start. A START_MODE 0 page starts at its due moment whether it is admitted or
not (R135). DEDUCED (log 31). -/
def State.startLine (s : State) (p : Page) : Option Nat :=
  if p.desc.startMode = 0 then some (ceil256 p.desc.startPos)
  else if ¬p.admitted then none
  else if p.desc.startMode = 1 then s.tofFirst p
  else some (max (s.prevEnd + ceil256 p.desc.startPos) p.admittedLine)

/-- R200: a page with a P2 or P4 group starts on an even line. -/
def Page.evenStart (p : Page) : Bool := p.groups.any (fun g => p.planOf g == 1 || p.planOf g == 3)

/-- The two adjustments of R232. -/
def State.adjusted (s : State) (p : Page) (f : Nat) : Nat :=
  let f := max f s.prevEnd
  if p.evenStart ∧ f % 2 = 1 then f + 1 else f

/-- A page whose start had to wait for its admission (R135). -/
def State.waited (s : State) (p : Page) : Bool :=
  p.deferred || (p.desc.startMode == 1 && p.waitFrom.isSome) ||
  (p.desc.startMode == 2 && decide (s.prevEnd + ceil256 p.desc.startPos < p.admittedLine))

/-! ### Generations (R132, R183, R196, R434) -/

/-- The newest generation that may be bound: in a twin pair the standby must have acknowledged it; the one last bound and the one
of pin commit stand otherwise. -/
def State.bindable (s : State) (gs : List TableGen) (acked cur : Nat) : Nat :=
  if s.role = roleActive ∧ s.flag TwStat.partnerOk 0 then
    ((gs.find? (fun g => decide (g.num ≤ max acked (max cur 1)))).getD TableGen.zero).num
  else (gs.headD TableGen.zero).num

/-- NM_GEN and CTB_GEN of a page that is to start at line f. -/
def State.pageGens (s : State) (p : Page) (f : Nat) : Nat × Nat :=
  let curN := s.get NmGenCur.v 0
  let curC := s.get ScrGenCur.v 0
  if p.desc.genPolicy = 1 ∧ curN ≠ 0 then (curN, curC)
  else
    let n := s.bindable s.scr.nmGens s.twin.nmAcked curN
    let c := s.bindable s.scr.ctbGens s.twin.ctbAcked curC
    let a := s.nmGen n
    let b := s.nmGen curN
    if curN ≠ 0 ∧ genShape a b = true ∧ f < s.prevEnd + max a.maxDelay b.maxDelay then (curN, c) else (n, c)

/-! ### Placing -/

/-- The length of the page is known. -/
def Page.closedLength (p : Page) : Bool := p.desc.length != 0 || p.total.isSome

/-- A page is scheduled: placed at line f and bound to its generations (R183, R543). An open-length page takes its last line when
its end is known. DEDUCED (log 37). -/
def State.place (s : State) (q f nm ctb : Nat) (absorbed : Bool) : State :=
  let s := s.mapPage q (fun p => { p with
    scheduled := true, first := f, nmGen := nm, ctbGen := ctb, absorbed := absorbed,
    lines := s.ratio p * (if p.closedLength then p.inputLines else 2 ^ 24),
    record := { p.record with startPu := 256 * f } })
  match s.page q with
  | none => s
  | some p =>
    let s := if s.setsLoaded (s.ctbGen ctb) p.desc then s else s.mapPage q (fun p => p.spoil 0 4)
    let s := if p.closedLength then s.makeTrailer p else s
    let s := { s with scr := { s.scr with placed := some (s.pageEnd p), policy := p.desc.overspeed } }
    let s := ((s.put NmGenCur.v 0 nm).put ScrGenCur.v 0 ctb).enforce ScrCtrl.compMode 0
    { s with posn := { s.posn with tof := s.posn.tof.filter (fun e => decide ((s.prevEnd : Int) ≤ s.tofLine e.1 e.2.2)) } }

/-- Trims and row fractions go to the heads that are READY or ASLEEP, ports wake whose nozzles the page reaches, and an analyser
commit refused for DELTA is tried again (R195, R197, R277, R286). -/
def State.afterPlace (s : State) (f nm : Nat) : State :=
  let g := s.nmGen nm
  let s := (List.range 128).foldl (fun t p =>
    if t.hpState p = hpReady ∨ t.hpState p = hpAsleep then
      ((t.wakeIfDue p).sendTrims p g f).sendRowFractions p g f
    else t) s
  let s := if s.ins.retry then s.analyserCommit else s
  s.trimGens

/-- The page that is next starts at `line`, where that is its first line and the writer has come to it. -/
def State.pageSchedule (s : State) (line : Nat) : State :=
  if ¬s.acting ∨ ¬s.running ∨ s.rst.pathDown ∨ s.mc.resumeDue ∨ s.mode = 0 then s
  else match s.nextPage with
  | none => s
  | some p0 =>
    let p := { p0 with absorbed := s.flag FpeStat.absorb 0 && p0.desc.flag 5 }
    match s.startLine p with
    | none => s
    | some f0 =>
      let f := s.adjusted p f0
      if f ≠ line ∨ s.writerReach ≤ f then s
      else
        let moved := p.desc.startMode = 0 ∧ f0 < s.prevEnd
        let gens := s.pageGens p f
        let waited := s.waited p
        let short := p.desc.genPolicy = 2 ∧ gens.1 < p.desc.nmGen
        let s := s.place p.pseq f gens.1 gens.2 p.absorbed
        let s := s.mapPage p.pseq (fun q =>
          let q := if waited then q.setFlag 3 else q
          { (if short then q.setFlag 2 else q) with waitFrom := none, tofUsed := q.desc.startMode == 1 })
        let s := if moved then s.record .pgStartMoved 0 [a64 p.pseq, a32 f0, a32 f] else s
        let s := { s with twin := { s.twin with schedsDue := s.twin.schedsDue ++ [p.pseq] } }
        let s := { s with twin := { s.twin with plan := s.twin.plan.map (fun (x : Bool × Nat) => (false, x.2)) } }
        s.afterPlace f gens.1

def execPageSchedule (line : Nat) (s : State) : Ans := .next (s.pageSchedule line)

/-- The wait of a page has lasted DEFER_MAX: it is placed as if admitted now (R135). DESIGN CHOICE (log 4). -/
def execStartDeferTimeout (pseq : Nat) (s : State) : Ans :=
  .next (match s.page pseq with
    | none => s
    | some p =>
      if s.acting ∧ p.desc.startMode ≠ 0 ∧ ¬p.admitted ∧ ¬p.scheduled ∧ ¬p.closed then
        (s.admitPage pseq).mapPage pseq (fun q => { q.setFlag 3 with deferred := true })
      else s)

/-! ### PG_ABORT (R515) -/

/-- The lowest page line of which some row of some port has not been assembled: it is the first that reads code 0. -/
def State.firstBlanked (s : State) (p : Page) : Option Nat :=
  let g := s.nmGen p.nmGen
  ((nozzleKeys g g).filter (fun i => !g.absent i)).foldl (fun m i =>
    let r := i / 2048
    let y := s.nextLine r - (p.first + g.rowDelay r (g.get NmStage.row i))
    if p.lines ≤ y then m else some (match m with
      | some k => min k y
      | none => y)) none

/-- A scheduled page is aborted: its decodes stop, its drops read 0 from now on. -/
def State.abortPage (s : State) (q : Nat) : State :=
  match s.page q with
  | none => s
  | some p =>
    let y := s.firstBlanked p
    (s.stopDecodes q).mapPage q (fun p => { p with
      blankFrom := some (y.getD 0), record := { p.record with status := 4, reason := 0, spoilLine := y } })

/-- Scheduled pages of which some line has still to be dispatched, and with HELD the admitted pages not yet scheduled. -/
def State.abortPages (s : State) (held : Bool) : State :=
  let open_ := s.pages.filter (fun (p : Page) => p.scheduled && !p.closed && p.blankFrom.isNone && (s.firstBlanked p).isSome)
  let s := open_.foldl (fun t (p : Page) => t.abortPage p.pseq) s
  if held then
    ((s.pages.filter (fun (p : Page) => p.admitted && !p.scheduled && !p.closed)).foldl (fun t (p : Page) => t.cancelPage p.pseq) s).drainIngest
  else s

/-- A write of PG_ABORT. Fetch assembles whole frames at once, so that the safe state holds in the tick of the write. -/
def State.writePgAbort (s : State) (value : Word) : State :=
  if ¬keyOk value ∨ PgAbort.go.of value ≠ 1 then s
  else if s.role = roleStandby then s.record .pgAbortRefused 0 []
  else
    let held := PgAbort.held.of value == 1
    let s := (s.abortStart 0 0).abortPages held
    let s := if s.role = roleActive then { s with twin := { s.twin with abortDue := some held } } else s
    s.abortEnd 0 0

def execPgAbort (value : Word) (s : State) : Ans := .next (s.writePgAbort value)

end Sys2Proof.Machine
end

