-- ==== Sys2Proof/Machine/ResetOps.lean ====
section
/-!
DEFINITION. Raising a reset, what each level clears and keeps, its stretch and its record (spec/03_start_and_reset.md, R41 to R51,
R542; Table 03-3).
-/
namespace Sys2Proof.Machine

/-! ### Levels (R41, R42) -/

/-- Table 03-2: the shallowest and the deepest level of each source, deepest first. -/
def permitted : List (Nat × Nat) :=
  [(0, 0), (0, 1), (0, 1), (0, 2), (1, 3), (0, 2), (0, 1), (0, 2), (0, 3), (0, 2), (0, 2), (0, 1), (0, 3), (0, 0), (0, 2), (0, 3)]

/-- The fuse field of a source, at the nearest level that the source permits. -/
def State.fuseLevel (s : State) (src : Nat) : Nat :=
  let v := s.rawWord .rstFuseMap 0 / 4 ^ src % 4
  let r := permitted.getD src (0, 3)
  max r.1 (min v r.2)

/-! ### What a function loses when it is reset -/

/-- The read-only and sticky fields of a register go back to their reset values. -/
def State.resetStatus (s : State) (r : Reg) (i : Nat) : State :=
  r.fields.foldl (fun t f => if f.acc = .ro ∨ f.acc = .w1c then t.clear f i else t) s

/-- A head port: what was not acknowledged is declared lost, and bring-up has to start again (R209, R269). DEDUCED (log 77). -/
def State.resetPort (s : State) (p : Nat) : State :=
  let lines := ((s.port p).frames.filter (fun f => !f.acked && !f.ended && !f.lost)).map (fun f => f.line)
  let s := (lines.foldl (fun t n => t.loseLine p n) s).portDown p
  { s with ff := { s.ff with duty := Tab.erase p s.ff.duty } }

/-- An axis: safe outputs, no profile; AX_POS stays, and HOMED if it stood still (R395). -/
def State.resetAxis (s : State) (n : Nat) : State :=
  let x := s.axis n
  let homed := if x.v = 0 then s.get AxStat.homed n else 0
  let owned := s.get AxStat.owned n
  let owner := s.get AxStat.owner n
  let s := ((s.haltAxis n).safeAxis n).setAxis n { Axis.reset with negative := x.negative, stillAt := s.ft }
  ((((s.resetStatus .axStat n).put AxStat.homed n homed).put AxStat.owned n owned).put AxStat.owner n owner).put AxStat.drvFault n
    (if s.pins.axFltN.getD n true then 0 else 1)

def State.resetCam (s : State) (n : Nat) : State := (s.camLost n).safeCam n

def State.resetLamp (s : State) (n : Nat) : State :=
  let x := s.lamp n
  let owned := s.get LmpStat.owned n
  let e := s.get LmpStat.engine n
  let s := ((s.darkLamp n).resetStatus .lmpStat n).mapLamp n (fun _ => { Lamp.reset with engine := x.engine, activity := x.activity })
  (s.put LmpStat.owned n owned).put LmpStat.engine n e

/-- A loop slot stops, and its history is cleared (R329). -/
def State.resetSlot (s : State) (n : Nat) : State :=
  let x := s.slot n
  (s.setSlot n { Slot.reset with coef := x.coef, law3 := x.law3, held := x.held, prevOut := x.prevOut, prevSeq := x.prevSeq,
                                 outLq := x.outLq }).put LeStat.forced n 0

/-- An L3 reset clears its target: a class of RST_CMD and an instance. DEDUCED (log 72). -/
def State.resetTarget (s : State) (t : Nat × Nat) : State :=
  match t.1 with
  | 0 => s.resetPort t.2
  | 1 => s.resetAxis t.2
  | 2 => s.resetCam t.2
  | 3 => s.resetLamp t.2
  | 4 => s.resetSlot t.2
  | _ =>
    let s := { s with sps := s.sps.set t.2 false }
    if t.2 = 2 then s.calAbandon else s

/-- A slot starts again by Saddle from the present value of its sink, if it is enabled. -/
def State.restartSlot (s : State) (n : Nat) : State :=
  if s.flag LeCfg.en n then s.mapSlot n (fun x => { x with started := true, enabled := true, request := some (s.get LeCfg.mode n) })
  else s.mapSlot n (fun x => { x with started := true })

/-- The target restarts at the end of the stretch; a service processor reports its own restart (SP_RESTART).
DEDUCED (log 72). -/
def State.restartTarget (s : State) (t : Nat × Nat) : State :=
  match t.1 with
  | 0 => s.restartBringUp t.2
  | 1 => if s.flag AxCfg.en t.2 then s.axisOn t.2 else s
  | 3 => s.driveLamp t.2
  | 4 => s.restartSlot t.2
  | _ => s

/-! ### L2 -/

/-- The bar's engines: activities and PRINT stop, pattern engines stop. -/
def State.stopActivities (s : State) : State :=
  let s := { s with mot := { s.mot with acts := [], print := false },
                    light := { s.light with lamps := s.light.lamps.map (fun (l : Lamp) => { l with activity := none, engine := none }),
                                            engines := List.replicate 8 Pattern.reset, shifted := none } }
  let s := (List.range 8).foldl (fun t n => ((t.put AxStat.owned n 0).put AxStat.owner n 0).resetStatus .patStat n) s
  let s := (List.range 16).foldl (fun t n => (t.put LmpStat.owned n 0).put LmpStat.engine n 0) s
  (s.put MntStat.running 0 0).put MntStat.gate 0 0

/-- The staged fields that take effect at an L2 reset. DEDUCED (log 13). -/
def State.enforceL2 (s : State) : State :=
  [BrCfg.depth256, FfScreeSize.log2, FpeCtrl.res, EvtCtrl.log2, InsResSize.log2].foldl (fun t f => t.enforce f 0) s

/-- The slots that an L2 reset stops; those that track the web keep running, unless FT has failed (R329). -/
def State.pathSlots (s : State) (ftFail : Bool) : List Nat :=
  (s.loop.slots.map (fun e => e.1)).filter (fun n => ftFail || decide (n < 160) || decide (163 < n))

/-- FT has failed: the position engine starts anew at the first lock, behind HWM (R18, R218). -/
def State.resetFpe (s : State) : State :=
  let f := s.fpe
  { s with fpe := { FpeSt.reset with hwm := f.hwm, base := f.base, locked := f.locked, ftLost := true, decided := f.decided } }
    |>.resetStatus .fpeStat 0

/-- An L2 reset: every core function but the ring, the twin block, the memory controller and the event queue (Tables 03-1, 03-3).
DEDUCED (log 77). -/
def State.resetPath (s : State) (ftFail : Bool) : State :=
  let s := s.calAbandon
  let s := (s.ports.map (fun e => e.1)).foldl (fun t p => if t.hpState p = hpDown then t else t.resetPort p) s
  let s := (List.range 8).foldl (fun t n => t.resetAxis n) s
  let s := (List.range 4).foldl (fun t n => t.resetCam n) s
  let s := (List.range 16).foldl (fun t n => t.resetLamp n) s
  let s := (s.pathSlots ftFail).foldl (fun t n => t.resetSlot n) s
  let s := (List.range 4).foldl (fun t b => (t.setTrace b TraceBuf.reset).resetStatus .trcStat b) s
  let s := (s.stopActivities.ingestL2).codecL2
  let s := { s with
    scr := { s.scr with ring := [], written := 0, placed := none },
    ff := { s.ff with duty := [], wd := [] },
    fpe := { s.fpe with decisions := [], fallen := none, skipUntil := none, stretching := false, lagMax := 0, blankPage := none },
    ins := { s.ins with trailers := [], strips := [], unfired := [], health := [], clrDue := false, retry := false, capture := none },
    twin := { s.twin with wdDue := [], schedsDue := [], abortDue := none } }
  let s := if ftFail then s.resetFpe else s
  let s := s.aborts.foldl (fun t a => t.abortEnd a.1 a.2.1) s
  let role := s.pins.twRoleN
  let s := s.safeOutputs
  let s := { s with pins := { s.pins with twRoleN := role }, rst := { s.rst with pathDown := true } }
  s.enforceL2.setDevState 0

/-! ### L0 and L1 -/

/-- AON retention (Table 03-3). -/
def retained : List Reg := [.rstStatus, .rstFuseMap, .rstStart, .rstHist]

def keepRegs (l : List Reg) (t : Tab Nat) : Tab Nat := t.filter (fun e => l.any (fun r => r.ctorIdx == e.1 / 32 % 512))

/-- The page store survives an L1 reset while the MC clock stays qualified and its rail stays above its reset level, with DRAM in
service (R44). -/
def State.keepsStore (s : State) : Bool :=
  s.rst.qualified.getD 1 false && !s.rst.low.contains 3 && decide (2 ≤ s.get McStat.state 0)

/-- Levels of the input pins, which no reset changes. -/
def Pins.afterReset (p : Pins) : Pins :=
  { Pins.reset with fenceInN := p.fenceInN, safeInN := p.safeInN, axFltN := p.axFltN, limP := p.limP, limN := p.limN, home := p.home }

/-- The main die after an L0 reset: AON retention, the fuses, the flash devices and the island stay. -/
def State.cold (s : State) : State :=
  { State.reset with
    now := s.now, freeCtr := s.freeCtr, sent := s.sent, pending := s.pending, met := s.met,
    pins := s.pins.afterReset,
    regs := keepRegs retained s.regs ++ [],
    img := { ImageSt.reset with flash := s.img.flash, bootDev := s.img.bootDev, keyHash := s.img.keyHash },
    ev := { EventSt.reset with tail := s.ev.tail },
    rst := { ResetSt.reset with active := s.rst.active, seq := s.rst.seq, endAt := s.rst.endAt, low := s.rst.low, sources := [] } }
  |> fun (t : State) => ((t.put CfgStatus.fuseLock 0 (s.get CfgStatus.fuseLock 0)).put CfgStatus.sigReq 0 (s.get CfgStatus.sigReq 0)).put
      RstStatus.state 0 0

/-- What an L1 reset keeps beside: the option block, the monitor trackers, the device markings, and the page store if it survives. -/
def State.warm (s : State) : State :=
  let t := s.cold
  let t := { t with img := { t.img with ob := s.img.ob },
                    regs := Tab.merge t.regs (keepRegs [.monRail, .mcSpare] s.regs),
                    rst := { t.rst with warnAt := s.rst.warnAt } }
  let t := t.put McStat.degraded 0 (s.get McStat.degraded 0)
  if s.keepsStore then
    let u := s.ingestL2
    { t with
      pages := u.pages, dram := s.dram, lastPlan := s.lastPlan,
      regs := Tab.merge t.regs (keepRegs [.pgNextLo, .pgNextHi, .pgDoneLo, .pgDoneHi] s.regs),
      ingest := { u.ingest with up := false, limit := 0, sentLimit := 0, buffer := [], oweCredit := 0 },
      pins := { t.pins with ddrResetN := true },
      rst := { t.rst with psKept := true } }
  else t

/-! ### Raising a source (R46, R47, R50, R51, R57) -/

/-- A word of RST_HIST enters at the top (Table of RST_HIST). -/
def State.pushHist (s : State) (cause level stage : Nat) (timeout : Bool) : State :=
  let fs := [RstHist.cause, RstHist.level, RstHist.stage, RstHist.timeout, RstHist.seq]
  let s := (List.range 15).reverse.foldl (fun t n => fs.foldl (fun u f => u.put f (n + 1) (u.get f n)) t) s
  let s := (((s.put RstHist.cause 0 cause).put RstHist.level 0 level).put RstHist.stage 0 stage).put RstHist.timeout 0 (if timeout then 1 else 0)
  let s := s.put RstHist.seq 0 s.rst.seq
  { s with rst := { s.rst with seq := (s.rst.seq + 1) % 512 } }

def sourceMask (l : List Nat) : Nat := l.eraseDups.foldl (fun m n => m + 2 ^ n) 0

/-- The step in progress, as RST_HIST shows it: 0 in RUN and PARK, 15 in Foothill. DEDUCED (log 15). -/
def State.stageNow (s : State) : Nat := if s.get RstStatus.state 0 = 3 then 15 else s.rst.stage

/-- The reset of a level is carried out and its stretch runs. `srcs` are its sources so far. -/
def State.applyReset (s : State) (lvl : Nat) (srcs : List Nat) (targets : List (Nat × Nat)) (timeout : Bool) : State :=
  let was := s.rst
  let stage := if was.stretch then was.stageAt else s.stageNow
  let s :=
    if was.stretch ∧ was.level ≤ lvl ∧ lvl < 3 then s
    else match lvl with
      | 0 => s.cold
      | 1 => s.warm
      | 2 => if s.get RstStatus.state 0 = 3 then s else s.resetPath (srcs.contains 10)
      | _ => targets.foldl (fun t x => if t.operating then t.resetTarget x else t) s
  { s with
    pins := { s.pins with resetN := false },
    twin := { s.twin with faultHold := none },
    rst := { s.rst with
      stretch := true, sources := (was.sources ++ srcs).eraseDups, stageAt := stage, timeout := was.timeout || timeout,
      level := if was.stretch then min was.level lvl else lvl,
      targets := if was.stretch then was.targets ++ targets else targets } }

/-- The reset touches the print path of a device (R46). -/
def printTargets (lvl : Nat) (targets : List (Nat × Nat)) : Bool := lvl == 2 || (lvl == 3 && targets.any (fun t => t.1 == 0))

/-- A start that ends in a reset counts as failed, but for sources 0, 3 and 13 (R57). DEDUCED (log 17). -/
def State.failStart (s : State) (src : Nat) : State :=
  if s.rst.starting ∧ src ≠ 0 ∧ src ≠ 3 ∧ src ≠ 13 then
    { s.put RstStart.failcnt 0 (min 3 (s.get RstStart.failcnt 0 + 1)) with rst := { s.rst with starting := false } }
  else { s with rst := { s.rst with starting := false } }

/-- A source becomes active with the level it has been given. DEDUCED (log 16). -/
def State.raiseAt (s : State) (src lvl : Nat) (targets : List (Nat × Nat)) (timeout : Bool) : State :=
  let st := s.get RstStatus.state 0
  if s.rst.stretch then
    let lvl' := min lvl s.rst.level
    s.applyReset (if lvl' < s.rst.level ∨ lvl = 3 then lvl else s.rst.level) [src] targets timeout
  else if st = 0 ∧ lvl = 3 then s.pushHist (2 ^ src) 3 s.stageNow timeout
  else
    let s := if lvl < 3 then s.failStart src else s
    let lvl := if st = 0 then min lvl s.rst.level else lvl
    if s.role = roleActive ∧ printTargets lvl targets = true then
      match s.twin.faultHold with
      | some (q, l, ts) => { s with
          twin := { s.twin with faultHold := some (q, min l lvl, ts ++ targets) },
          rst := { s.rst with sources := (s.rst.sources ++ [src]).eraseDups } }
      | none =>
        let s := s.sendCol 2 [lvl, src]
        { s with twin := { s.twin with faultHold := some (src, lvl, targets) }, rst := { s.rst with sources := [src] } }
    else
      match s.twin.faultHold with
      | some (_, l, ts) => s.applyReset (min l lvl) [src] (ts ++ targets) timeout
      | none => ({ s with rst := { s.rst with sources := [], timeout := false } }).applyReset lvl [src] targets timeout

/-- A source with the level that its fuse names. -/
def State.raiseSource (s : State) (src : Nat) (targets : List (Nat × Nat)) : State := s.raiseAt src (s.fuseLevel src) targets false

/-- Sources 8 and 12: the command names the level, the fuse caps it (R42). -/
def State.raiseCapped (s : State) (src asked : Nat) (targets : List (Nat × Nat)) : State :=
  s.raiseAt src (max asked (s.fuseLevel src)) targets false

/-- START_TIMEOUT and MC_TRAIN_FAIL: L0 where the fuse field of source 12 is L0, L1 otherwise. -/
def State.raiseStart (s : State) (timeout : Bool) : State :=
  s.raiseAt 12 (if s.fuseLevel 12 = 0 then 0 else 1) [] timeout

/-- A source stays active until it is released. -/
def State.hold (s : State) (src : Nat) : State :=
  { s with rst := { s.rst with active := if s.rst.active.contains src then s.rst.active else src :: s.rst.active } }

def State.releaseSource (s : State) (src : Nat) : State :=
  { s with rst := { s.rst with active := s.rst.active.filter (fun n => n != src) } }

/-- FAULT has been answered by the fence, or 20 microseconds have passed: the reset held back is carried out (R444).
DEDUCED (log 16). -/
def State.faultDue (s : State) : State :=
  match s.twin.faultHold with
  | some (q, l, ts) => s.applyReset l [q] ts false
  | none => s

end Sys2Proof.Machine
end

