-- ==== Sys2Proof/Machine/StartOps.lean ====
section
/-!
DEFINITION. The states of the device on its way from a reset to RUN or Foothill (spec/03_start_and_reset.md, Table 03-4, R57 to
R60), and the end of a planned takeover request that supply and temperature warnings make (R65, R69).
-/
namespace Sys2Proof.Machine

/-- Every axis and lamp that is enabled is driven, ports follow the role. -/
def State.driveAll (s : State) : State :=
  let s := (List.range 8).foldl (fun t n => if t.flag AxCfg.en n then (t.driveAxis n).axState n else t) s
  ((List.range 16).foldl (fun t n => t.driveLamp n) s).syncPorts

/-- RUN: the start did not fail, and START_MS holds how long it took. -/
def State.enterRun (s : State) : State :=
  let ms := (s.now - s.rst.endAt) / us 1000
  let s := { s with rst := { s.rst with stage := 0, level := 3, starting := false } }
  ((s.put RstStart.startMs 0 (min 65535 ms)).setDevState 1).driveAll

/-- The start of a device whose role has been decided is complete. -/
def State.roleDecided (s : State) : State :=
  if s.get RstStatus.state 0 = 0 ∧ ¬s.rst.pathDown ∧ s.twin.step8.isSome then s.enterRun else s

/-- Foothill mode: every output takes its safe level and nothing else is configured (R29, R58). -/
def State.enterFoothill (s : State) : State :=
  let s := { s with
    pins := { s.pins with phase := .foothill },
    rst := { s.rst with stage := 15, level := 3, starting := false },
    img := { s.img with applying := false } }
  (s.setDevState 3).safeOutputs

/-- The stage of Table 03-4 in progress. DEDUCED (log 15). -/
def State.setStage (s : State) (n : Nat) : State := { s with rst := { s.rst with stage := n } }

/-- FT, MC, DS, HL and NT have all qualified or failed. -/
def State.clocksDone (s : State) : Bool :=
  (List.range 5).all (fun d => s.rst.qualified.getD d false || s.get RstStatus.clkFail 0 / 2 ^ d % 2 == 1)

/-- Step 3 of Table 03-4 begins. -/
def State.clockStep (s : State) : State := if s.rst.stage = 2 ∧ s.clocksDone then s.setStage 3 else s

/-- A supply or temperature warning is live, by MON_RAIL and MON_TEMP. -/
def State.warned (s : State) : Bool := (List.range 6).any (fun r => s.flag MonRail.warn r) || s.flag MonTemp.tw 0

/-- UNFIT.WARN follows the warnings. -/
def State.syncWarn (s : State) : State := s.setUnfit unfitWarn s.warned

end Sys2Proof.Machine
end

