-- ==== Sys2Proof/Machine/Reset.lean ====
section
/-!
DEFINITION. Pace monitors, clock domains, reset sources, the end of the stretch, supply and temperature monitors and the fence
input (spec/01_architecture.md R10, R11, R20; spec/02_pins_and_safe_states.md R34, R35; spec/03_start_and_reset.md).
-/
namespace Sys2Proof.Machine

/-! ### Pace monitors (R10, R11) -/

/-- One stage's USED at a CC, in percent. -/
def State.paceUsed (s : State) (n used : Nat) : State :=
  let u := min 255 used
  let s := (s.put MonPace.used n u).put MonPace.usedMax n (max u (s.get MonPace.usedMax n))
  let s := if s.get MonPace.warnPct n < u ∧ s.get MonPace.warn n = 0 then
      (s.put MonPace.warn n 1).record .paceWarn n [a8 u]
    else s
  if 100 < u ∧ s.get MonPace.over n = 0 then (s.put MonPace.over n 1).record .paceOver n [] else s

def execPaceCcUpdate (used : List Nat) (s : State) : Ans :=
  .next ((List.range 16).foldl (fun t n => t.paceUsed n (used.getD n 0)) s)

/-- MON_PACE.MAX_CLR. -/
def State.clearPaceMax (s : State) (n : Nat) : State := s.put MonPace.usedMax n 0

def execMonPaceMaxClr (n : Fin 16) (s : State) : Ans := .next (s.clearPaceMax n.val)

/-- A stage with work waiting made no progress for 1 ms. -/
def execPaceWatchdog (_n : Fin 16) (s : State) : Ans := .next (s.raiseSource 5 [])

/-- The watchdog of a service processor: at L3 its target is the processor itself. -/
def execSpWatchdogReset (p : Fin 4) (s : State) : Ans := .next (s.raiseSource 4 [(5, p.val)])

/-- A service processor reset at L3 runs again: what waited for it goes on (R20). -/
def execSpRestart (p : Fin 4) (s : State) : Ans :=
  .next (if s.spUp p.val then s
    else
      let s := { s with sps := s.sps.set p.val true }
      if p.val = 2 ∧ s.ins.retry then s.analyserCommit else s)

/-! ### Fence input (R34, R35, R429) -/

/-- Every output takes its safe level; no axis goes on stepping. -/
def State.outputsSafe (s : State) : State :=
  ((List.range 8).foldl (fun t n => if (t.axis n).v = 0 then t else t.haltAxis n) s).safeOutputs

def execFenceInAssert (s : State) : Ans :=
  let s := ({ s with pins := { s.pins with fenceInN := false } }).put TwStat.fenceIn 0 1
  let s := s.outputsSafe
  let s := if s.role = roleActive then s.giveUp .twFenced else s
  .next s.faultDue

/-- The outputs stay at their safe levels. -/
def execFenceInRelease (s : State) : Ans :=
  .next (({ s with pins := { s.pins with fenceInN := true } }).put TwStat.fenceIn 0 0)

/-! ### Clock domains (R53 to R56, Table 03-5): 0 FT, 1 MC, 2 DS, 3 HL, 4 NT, 5 to 8 cameras -/

def State.setQualified (s : State) (d : Nat) (on : Bool) : State :=
  { s with rst := { s.rst with qualified := s.rst.qualified.set d on } }

/-- Lanes of a range lose their lock, and their links go down. -/
def State.lanesLost (s : State) (from_ n : Nat) : State :=
  (List.range n).foldl (fun t k => if t.flag LnStat.lock (from_ + k) then t.dropLock (from_ + k) else t) s

/-- What the loss of a domain's clock stops. DEDUCED (log 14). DEDUCED (log 73). -/
def State.loseDomain (s : State) (d : Nat) : State :=
  match d with
  | 0 => s.outputsSafe
  | 1 => { s with scr := { s.scr with ring := [] } }
  | 2 =>
    let s := (s.lanesLost 128 12).dataDown
    { s with linkUp := s.linkUp.filter (fun l => l < 128) }
  | 3 =>
    let up := s.linkUp.filter (fun l => l < 128)
    let s := up.foldl (fun t p => t.portDown p) (s.lanesLost 0 128)
    { s with linkUp := s.linkUp.filter (fun l => 128 ≤ l) }
  | 4 => (((s.put NetStat.eUp 0 0).put NetStat.wUp 0 0)).mapNet (fun n => { n with egress := [[], []], wasDown := [true, true] })
  | _ => s.resetCam (d - 5)

/-- A domain that requalifies starts its functions again as after an L3 reset; FT time begins at 0 (R18), and the pages whose data
went with the DRAM contents are fetched again. DEDUCED (log 74). -/
def State.gainDomain (s : State) (d : Nat) : State :=
  match d with
  | 0 => { s with ft := 0, ev := { s.ev with releasedEt := none } }
  | 1 => (s.pages.flatMap (fun (p : Page) => p.stripes.map (fun t => (p.pseq, t.idx)))).foldl (fun t x => t.loseStripe x.1 x.2) s
  | _ => s

def execClockQualified (d : Fin 9) (s : State) : Ans :=
  .next (if s.rst.stretch ∨ (s.rst.stage = 1 ∧ s.get RstStatus.state 0 = 0) ∨ s.rst.qualified.getD d.val true then s
    else
      let again := s.pins.phase = .configured
      let s := s.setQualified d.val true
      (if again ∨ d.val = 0 then s.gainDomain d.val else s).clockStep)

/-- R54: the block stays in reset, and the start goes on without it. -/
def execClockQualTimeout (d : Fin 9) (s : State) : Ans :=
  .next (if s.rst.stretch ∨ s.rst.qualified.getD d.val true then s
    else
      let m := s.get RstStatus.clkFail 0
      let s := s.record .domainClkFail d.val []
      let s := if m / 2 ^ d.val % 2 = 1 then s else s.put RstStatus.clkFail 0 (m + 2 ^ d.val)
      ((s.put RstStatus.degraded 0 1).setUnfit unfitDegraded true).clockStep)

/-- R56, R32: a qualified clock is gone. -/
def State.clockLost (s : State) (d : Nat) : State :=
  if ¬s.rst.qualified.getD d false then s
  else
    let s := ((s.setQualified d false).record .domainClkLost d []).loseDomain d
    if d = 0 then s.raiseSource 10 [] else s

def execDomainClkLost (d : Fin 9) (s : State) : Ans := .next (s.clockLost d.val)

/-! ### Reset sources -/

/-- VDD_AON below its reset level: AON retention goes too; the fuses, the flash devices and the island stay. -/
def State.porDown (s : State) : State :=
  let t := s.cold
  { t with
    regs := keepRegs [.rstFuseMap] t.regs, ev := EventSt.reset,
    pins := { t.pins with phase := .powerRamp },
    rst := { ResetSt.reset with active := 0 :: s.rst.active.filter (fun n => n != 0), endAt := s.rst.endAt, low := s.rst.low } }
  |> fun (t : State) => (t.put CfgStatus.fuseLock 0 (s.get CfgStatus.fuseLock 0)).put CfgStatus.sigReq 0 (s.get CfgStatus.sigReq 0)

/-- The rail has stood at or above 0.75 V for 10 microseconds (R533). -/
def State.porUp (s : State) : State :=
  let s := s.releaseSource 0
  if s.pins.phase = .powerRamp then { s with pins := { s.pins with phase := .reset } } else s

def execPowerOnReset (rising : Bool) (s : State) : Ans := .next (if rising then s.porUp else s.porDown)

/-- R48: short pulses are ignored, as are all while the device holds the pin low and for 2 microseconds after; what happens between
200 and 400 ns is not stated. DEDUCED (log 18). -/
def execResetNAssert (ns : Nat) (s : State) : Ans :=
  .next (if ns < 200 ∨ ¬s.pins.resetN ∨ s.now < s.rst.endAt + us 2 then s
    else if 400 ≤ ns then s.raiseSource 3 []
    else if s.openValue 1 = 1 then s.nextOpen.raiseSource 3 [] else s.nextOpen)

/-- Instances of an L3 class. -/
def classSize : Nat → Nat
  | 0 => 128 | 1 => 8 | 2 => 4 | 3 => 16 | 4 => 176 | 5 => 4 | _ => 0

/-- A write of RST_CMD (R42, R60, R61). Written by a record of the image it is firmware's own (source 12). DEDUCED (log 19). -/
def State.writeRstCmd (s : State) (value : Word) : State :=
  let lvl := RstCmd.level.of value
  let cls := RstCmd.class_.of value
  let inst := RstCmd.inst.of value
  if ¬keyOk value ∨ classSize cls ≤ inst then s.record .rstCmdReject 0 [a32 value.toNat]
  else if RstCmd.foothillClr.of value = 1 ∧ s.get RstStatus.state 0 = 3 then
    ((s.put RstStart.failcnt 0 0)).raiseAt 8 0 [] false
  else s.raiseCapped (if s.img.applying then 12 else 8) lvl (if lvl = 3 then [(cls, inst)] else [])

def execRstCmdLevel (value : Word) (s : State) : Ans := .next (s.writeRstCmd value)

def execFoothillClr (value : Word) (s : State) : Ans := .next (s.writeRstCmd value)

def execJtagReset (s : State) : Ans := .next (s.raiseSource 13 [])

/-- A reset command of the partner (R438). DESIGN CHOICE (log 57). -/
def execTwinResetCommand (s : State) : Ans := .next (if s.solo then s else s.raiseSource 7 [])

/-! ### Temperature (R69): TJ in 1/16 degree -/

/-- TJ is taken; a trip that has cooled below 115 degrees is released. DEDUCED (log 23). -/
def State.takeTj (s : State) (tj : Word) : State :=
  let v := signed 12 (tj.toNat % 4096)
  let s := s.put MonTemp.tj 0 (tj.toNat % 4096)
  if v < 1840 ∧ s.rst.active.contains 6 then s.releaseSource 6 else s

def execThermalTrip (tj : Word) (s : State) : Ans :=
  let s := s.takeTj tj
  .next (if 2000 < signed 12 (tj.toNat % 4096) then (s.raiseSource 6 []).hold 6 else s)

def State.twarn (s : State) : Int := 16 * (s.get MonTemp.twarn 0 : Nat)

def execTempWarnEnter (tj : Word) (s : State) : Ans :=
  let s := s.takeTj tj
  .next (if s.twarn < signed 12 (tj.toNat % 4096) ∧ s.get MonTemp.tw 0 = 0 then
      let s := (s.put MonTemp.tw 0 1).put MonTemp.twseen 0 1
      ({ s with rst := { s.rst with warnAt := s.rst.warnAt.set 6 s.now } }).syncWarn
    else s)

/-- DESIGN CHOICE (log 4). -/
def execTempWarnEnd (tj : Word) (s : State) : Ans :=
  let s := s.takeTj tj
  .next (if signed 12 (tj.toNat % 4096) ≤ s.twarn - 48 then (s.put MonTemp.tw 0 0).syncWarn else s)

/-- A warning has lasted for its hold time: the active twin asks for a planned takeover (R65). -/
def State.warnHeld (s : State) (live : Bool) : State :=
  if live ∧ s.flag MonCtrl.takeoverEn 0 then s.requestPlan false else s

def execTempWarnHoldExpiry (s : State) : Ans := .next (s.warnHeld (s.flag MonTemp.tw 0))

/-! ### Supply monitors (Table 03-6, R62 to R68) -/

/-- Warning and reset levels of the rails in mV. -/
def railWarnMv : List Nat := [680, 770, 3000, 1045, 810, 740]
def railResetMv : List Nat := [620, 740, 2850, 1000, 770, 700]

def State.trackMin (s : State) (r mv : Nat) : State := s.put MonRail.vmin r (min (s.get MonRail.vmin r) (min mv 4095))

/-- The rail has been below its warning level for 200 ns: the duration counts from when it fell. -/
def execRailWarnEnter (rail : Fin 6) (mv : Nat) (s : State) : Ans :=
  let r := rail.val
  .next (if railWarnMv.getD r 0 ≤ mv ∨ s.flag MonRail.warn r then s
    else
      let s := ((((s.trackMin r mv).put MonRail.warn r 1).put MonRail.wseen r 1).put MonRail.dur r 0).record .vwarn r []
      ({ s with rst := { s.rst with warnAt := s.rst.warnAt.set r (s.now - 100) } }).syncWarn)

/-- DUR in 10 microseconds, class S. DEDUCED (log 25). -/
def State.setDur (s : State) (r : Nat) : State :=
  let d := (s.now - s.rst.warnAt.getD r 0) / us 10
  if 2 ^ 15 - 1 ≤ d then ((s.put MonRail.dur r (2 ^ 15 - 1)).put MonRail.durOvf r 1).record .cntSat 0 [a32 (Reg.monRail.addr r)]
  else s.put MonRail.dur r d

/-- Source that a rail's reset level raises. -/
def railSource : Nat → Option Nat
  | 0 => some 1 | 1 => some 10 | 2 => some 2 | _ => none

/-- The rail has been 10 mV above its warning level for 10 microseconds; `mv` is the lowest voltage measured.
DEDUCED (log 24). DEDUCED (log 25). -/
def execRailWarnClear (rail : Fin 6) (mv : Nat) (s : State) : Ans :=
  let r := rail.val
  .next (if ¬s.flag MonRail.warn r then s
    else
      let s := (((s.trackMin r mv).put MonRail.warn r 0).setDur r).syncWarn
      if s.rst.low.contains r then
        let s := { s with rst := { s.rst with low := s.rst.low.filter (fun n => n != r) } }
        match railSource r with
        | some q => s.releaseSource q
        | none => s
      else s.record .vwarnClear r [a32 (s.get MonRail.vmin r), a32 ((s.now - s.rst.warnAt.getD r 0) / 500)])

def execVwarnHoldExpiry (rail : Fin 6) (s : State) : Ans := .next (s.warnHeld (s.flag MonRail.warn rail.val))

/-- The rail has been below its reset level for 50 ns (R67). DEDUCED (log 73). -/
def execRailResetLevel (rail : Fin 6) (mv : Nat) (s : State) : Ans :=
  let r := rail.val
  .next (if railResetMv.getD r 0 ≤ mv then s
    else
      let s := (s.trackMin r mv).put MonRail.rseen r 1
      let s := { s with rst := { s.rst with low := if s.rst.low.contains r then s.rst.low else r :: s.rst.low } }
      match r with
      | 3 => s.clockLost 1
      | 4 => (s.clockLost 2).clockLost 3
      | 5 => s.porDown
      | 1 => (s.outputsSafe.raiseSource 10 []).hold 10
      | 2 => (s.raiseSource 2 []).hold 2
      | _ => (s.raiseSource 1 []).hold 1)

/-- MON_RAIL.TRK_CLR. -/
def State.clearTracker (s : State) (r : Nat) : State := (s.clear MonRail.vmin r).put MonRail.dur r 0

def execMonRailTrkClr (rail : Fin 6) (s : State) : Ans := .next (s.clearTracker rail.val)

/-! ### The end of the stretch (R47, R542, R70) -/

/-- RST_STATUS is rewritten with the sources, the level and what was kept. -/
def State.rewriteStatus (s : State) : State :=
  let lvl := s.rst.level
  let kept := (lvl = 1 ∧ s.rst.psKept = true) ∨ 2 ≤ lvl
  let s := ((s.put RstStatus.cause 0 (sourceMask s.rst.sources)).put RstStatus.level 0 lvl).put RstStatus.psKept 0 (if kept then 1 else 0)
  if lvl ≤ 1 then (s.put RstStatus.degraded 0 0).put RstStatus.clkFail 0 0 else s

/-- The start begins with the option read; three failed starts lead to Foothill (R58). -/
def State.beginStart (s : State) (bootPin : Bool) : State :=
  let s := { s with
    pins := { s.pins with phase := .optionRead },
    img := { s.img with bootDev := if bootPin then 0 else 1, triedOther := false },
    rst := { s.rst with stage := 1, starting := true } }
  if s.get RstStart.failcnt 0 = 3 then s.enterFoothill else s

/-- What was reset at this level restarts. -/
def State.stretchEnd (s : State) (bootPin : Bool) : State :=
  if ¬s.rst.stretch ∨ s.rst.active ≠ [] then s
  else
    let r := s.rst
    let s := s.rewriteStatus.pushHist (sourceMask r.sources) r.level r.stageAt r.timeout
    let s := { s with
      pins := { s.pins with resetN := true },
      rst := { s.rst with stretch := false, endAt := s.now, sources := [], targets := [], timeout := false } }
    match r.level with
    | 0 | 1 => s.beginStart bootPin
    | 2 => if s.get RstStatus.state 0 = 3 then { s with rst := { s.rst with level := 3 } } else s
    | _ => if s.operating then r.targets.foldl (fun t x => t.restartTarget x) s else s

def execResetStretchEnd (bootPin : Bool) (s : State) : Ans := .next (s.stretchEnd bootPin)

/-- R57: RUN has not been reached 3 s after the stretch. -/
def execStartTimeout (s : State) : Ans := .next (if s.rst.starting ∧ ¬s.rst.stretch then s.raiseStart true else s)

/-- R58: 60 s of continuous RUN. -/
def execFailedStartClear (s : State) : Ans := .next (if s.running then s.put RstStart.failcnt 0 0 else s)

/-! ### The print path resumes after L2 (R512) -/

/-- No partner prints. -/
def State.noPartner (s : State) : Bool :=
  s.role == roleSolo || s.solo || !(s.flag TwStat.partnerOk 0 && s.get TwPstat.role 0 == roleActive)

/-- Some frame with a line of the page has been dispatched. -/
def State.dispatchedAny (s : State) (p : Page) : Bool :=
  let g := s.nmGen p.nmGen
  (nozzleKeys g g).any (fun i => !g.absent i &&
    decide (p.first + g.rowDelay (i / 2048) (g.get NmStage.row i) < s.nextLine (i / 2048)))

/-- An open page closes in place; one that has not begun is scheduled again. -/
def State.reopen (s : State) (p : Page) : Page :=
  if p.closed ∨ ¬p.scheduled ∨ s.linesSettled p then p
  else if s.dispatchedAny p then { p.close 4 11 with blankFrom := some 0 }
  else { p with scheduled := false, tofUsed := false }

def State.resumePath (s : State) : State :=
  if ¬s.rst.pathDown ∨ s.rst.stretch ∨ s.pins.phase ≠ .configured then s
  else
    let alone := s.noPartner
    let s := { s with rst := { s.rst with pathDown := false, level := 3, stage := 0 } }
    let s := s.setDevState 1
    let s := if alone then { s with pages := s.pages.map s.reopen } else s.setUnfit unfitResync true
    let s := (s.ports.map (fun e => e.1)).foldl (fun t p => t.restartBringUp p) s
    let s := (List.range 8).foldl (fun t n => if t.flag AxCfg.en n then t.axisOn n else t) s
    let s := (s.loop.slots.map (fun e => e.1)).foldl (fun t n => if (t.slot n).started then t else t.restartSlot n) s
    s.driveAll.decodeAssign.startVerify

def execPrintPathResume (s : State) : Ans := .next s.resumePath

end Sys2Proof.Machine
end

