-- ==== Sys2Proof/Machine/Image.lean ====
section
/-!
DEFINITION. The option block, the image and its checks, the fuses, the start up to pin commit and the flash operations
(spec/04_configuration_image.md; R29; R406, R407 and R137 at the end of DRAM training).
-/
namespace Sys2Proof.Machine

/-! ### The flash devices (Table 04-1) -/

/-- A byte of a device; what nothing has written reads as erased. PRESUMED (log 7). -/
def State.flashByte (s : State) (dev a : Nat) : Byte := Tab.get 0xFF (s.img.flash.getD dev []) a

def State.flashBytes (s : State) (dev a n : Nat) : List Byte := (List.range n).map (fun i => s.flashByte dev (a + i))

def State.setFlash (s : State) (dev : Nat) (f : Tab Byte → Tab Byte) : State :=
  { s with img := { s.img with flash := s.img.flash.set dev (f (s.img.flash.getD dev [])) } }

/-! ### Option block (R73, Table 04-2) -/

/-- The option block of 64 bytes, if it passes its check. -/
def parseOption (b : List Byte) : Option OptionBlock :=
  let u := leField b
  let geo := u 16 4
  let ok := u 0 4 == 0x424F5A4E && u 4 2 == 1 && u 60 4 == crc32c (b.take 60) &&
    decide (u 7 1 < 4) && decide (u 10 2 < 2 ^ 14) && u 28 32 == 0 &&
    decide (u 6 1 ≤ 2) && decide (u 8 1 ≤ 2) && decide (u 9 1 ≤ 3) && decide (u 12 1 ≤ 3) &&
    decide (4 ≤ u 13 1) && decide (u 13 1 ≤ 15) && (u 14 2 == 0 || decide (0x600 ≤ u 14 2)) &&
    decide (geo < 256) && decide (geo % 4 ≤ 1) && decide (geo / 4 % 4 ≤ 1) && decide (geo / 16 ≤ 2)
  if ok then
    some { slotSel := u 6 1, forcedFoothill := u 7 1 % 2 == 1, fallback := u 7 1 / 2 % 2 == 1, dpRate := u 8 1, spiClk := u 9 1,
           nodeId := u 10 2, twinPref := u 12 1, spiDummy := u 13 1, etherType := u 14 2, density := geo % 4,
           ranks := geo / 4 % 4, speed := geo / 16, imageGen := u 20 8 }
  else none

/-- SYS_NODE: the node ID and EtherType in use; the defaults of R59 stand where no option block is. -/
def State.setNode (s : State) : State :=
  match s.img.ob with
  | some o => (s.put SysNode.nodeId 0 o.nodeId).put SysNode.ethertype 0 (if o.etherType = 0 then 0x88B5 else o.etherType)
  | none => (s.put SysNode.nodeId 0 0x3FFF).put SysNode.ethertype 0 0x88B5

/-- The option block of the device that the boot pin names, or of the other one (R70, R71). -/
def State.readOption (s : State) : State :=
  let d := s.img.bootDev
  let first := parseOption (s.flashBytes d 0 64)
  let r : Option OptionBlock × Nat := match first with
    | some o => (some o, d)
    | none => (parseOption (s.flashBytes (1 - d) 0 64), 1 - d)
  (({ s with img := { s.img with ob := r.1 } }).put CfgStatus.obSrc 0 (if r.1.isSome then r.2 else 0)).setNode

def execOptionBlockReadDone (s : State) : Ans :=
  .next (if s.rst.stretch ∨ s.rst.stage ≠ 1 ∨ s.pins.phase ≠ .optionRead then s
    else
      let s := s.readOption
      match s.img.ob with
      | none => ((s.put RstStart.forced 0 0).record .cfgObInvalid 0 []).enterFoothill
      | some o =>
        let s := s.put RstStart.forced 0 (if o.forcedFoothill then 1 else 0)
        if o.forcedFoothill then s.enterFoothill
        else (({ s with pins := { s.pins with phase := .imageLoad } }).setStage 2).clockStep)

/-! ### Slot checks (Table 04-6) -/

/-- Offset of the image on a device. -/
def imageBase : Nat := 0x1000

def State.header (s : State) (dev : Nat) : List Byte := s.flashBytes dev imageBase 128

/-- R75. -/
def layoutOk (h : List Byte) : Bool :=
  let fw := leField h 24 4
  let cfg := leField h 32 4
  let trl := leField h 40 4
  fw % 16 == 0 && cfg % 16 == 0 && trl % 16 == 0 && decide (128 ≤ fw) && decide (fw + leField h 28 4 ≤ cfg) &&
  decide (cfg + leField h 36 4 ≤ trl) && leField h 44 4 == trl + 16

/-- The length of a section's signed part: its 64-byte head and its body. -/
def State.signedLen (s : State) (dev off bodyOff : Nat) : Nat := 64 + leVal (s.flashBytes dev (imageBase + off + bodyOff) 4)

/-- The signature block of a section: key and signature. -/
def State.sigBlock (s : State) (dev off signed : Nat) : List Byte × List Byte :=
  (s.flashBytes dev (imageBase + off + signed) 32, s.flashBytes dev (imageBase + off + signed + 32) 64)

/-- R76. DESIGN CHOICE (log 9). -/
def State.firmwareOk (s : State) (dev : Nat) : Bool :=
  let off := leField (s.header dev) 24 4
  let n := s.signedLen dev off 12
  let k := s.sigBlock dev off n
  sha256 k.1 == Config.romKeyHash && Config.ed25519 k.1 (s.flashBytes dev (imageBase + off) n) k.2

/-- PM_KEY_HASH is programmed (R78). -/
def State.keyProgrammed (s : State) : Bool := s.flag CfgStatus.fuseLock 0 && s.img.keyHash.any (fun b => b != 0)

/-- The configuration is accepted without a signature check (R78). -/
def State.unsigned (s : State) (dev : Nat) : Bool :=
  let off := leField (s.header dev) 32 4
  let k := s.sigBlock dev off (s.signedLen dev off 8)
  s.get CfgStatus.sigReq 0 == 0 && (!s.keyProgrammed || (k.1 ++ k.2).all (fun b => b == 0))

/-- R77, R78. -/
def State.configOk (s : State) (dev : Nat) : Bool :=
  let h := s.header dev
  let off := leField h 32 4
  let n := s.signedLen dev off 8
  let k := s.sigBlock dev off n
  s.unsigned dev ||
  (s.keyProgrammed && sha256 k.1 == s.img.keyHash &&
   Config.ed25519 k.1 (h ++ s.flashBytes dev (imageBase + leField h 24 4) (leField h 28 4) ++ s.flashBytes dev (imageBase + off) n) k.2)

/-- The first failed step of Table 04-6 among 1 to 5; 0 for none. -/
def State.slotFail (s : State) (dev : Nat) : Nat :=
  let h := s.header dev
  let trl := leField h 40 4
  let t := s.flashBytes dev (imageBase + trl) 16
  if ¬(leField h 0 4 = 0x4D495A4E ∧ leField h 4 2 = 1 ∧ leField h 6 2 = 128 ∧ leField h 124 4 = crc32c (h.take 124)) then 1
  else if ¬(leField h 8 4 = s.get SysId.id 0 ∧ leField h 12 4 ≤ (s.rawWord .sysStep 0) ∧ layoutOk h ∧ leField h 44 4 ≤ 2 ^ 26) then 2
  else if ¬(leField t 0 4 = 0x52545A4E ∧ leField t 4 4 = leField h 44 4 ∧ leField t 8 4 = crc32c (s.flashBytes dev imageBase trl)) then 3
  else if ¬s.firmwareOk dev then 4
  else if ¬s.configOk dev then 5
  else 0

def State.headerGen (s : State) (dev : Nat) : Nat := leField (s.header dev) 16 8

/-- The slot that SLOT_SEL names. DEDUCED (log 20). -/
def State.firstSlot (s : State) (o : OptionBlock) : Nat :=
  if o.slotSel ≤ 1 then o.slotSel
  else if s.slotFail 0 = 0 ∧ (s.slotFail 1 ≠ 0 ∨ s.headerGen 1 ≤ s.headerGen 0) then 0
  else if s.slotFail 1 = 0 then 1 else 0

/-! ### Loading (R80 to R82) -/

/-- Records are applied from now on. -/
def State.openRecords (s : State) : State :=
  ({ s with img := { s.img with applying := true, recIdx := 0, headTables := [] } }).setStage 5

/-- A slot has passed steps 1 to 5. DEDUCED (log 21). -/
def State.loadSlot (s : State) (o : OptionBlock) (dev : Nat) : State :=
  let gen := s.headerGen dev
  let fw := imageBase + leField (s.header dev) 24 4
  let s := (s.put CfgStatus.slot 0 dev).put CfgStatus.unsigned 0 (if s.unsigned dev then 1 else 0)
  let s := s.put CfgStatus.fallback 0 (if s.img.triedOther then 1 else 0)
  let s := (s.put64 CfgGenLo.v CfgGenHi.v 0 gen).put CfgFwver.v 0 (leVal (s.flashBytes dev (fw + 4) 4))
  let s := { s with img := { s.img with colProto := leVal (s.flashBytes dev (fw + 8) 2) } }
  let s := if o.slotSel ≤ 1 ∧ gen ≠ o.imageGen then s.record .cfgGenMismatch 0 [] else s
  if s.rst.stage = 5 then s.openRecords
  else
    let s := (s.setStage 4).put McStat.state 0 1
    let s := { s with pins := { s.pins with ddrResetN := true } }
    if s.rst.qualified.getD 1 false then s else s.openRecords

/-- R81: a slot has failed at a step. DEDUCED (log 20). -/
def State.slotFailed (s : State) (o : OptionBlock) (dev step : Nat) : State :=
  let s := { s.put CfgStatus.failStep 0 step with img := { s.img with applying := false } }
  if o.fallback ∧ ¬s.img.triedOther then
    let s := { s with img := { s.img with triedOther := true } }
    let k := s.slotFail (1 - dev)
    if k = 0 then s.loadSlot o (1 - dev) else (s.put CfgStatus.failStep 0 k).raiseSource 11 []
  else s.raiseSource 11 []

def execImageReadDone (s : State) : Ans :=
  .next (match s.img.ob with
    | none => s
    | some o =>
      if s.rst.stretch ∨ s.rst.stage ≠ 3 ∨ s.pins.phase ≠ .imageLoad then s
      else
        let dev := s.firstSlot o
        let k := s.slotFail dev
        if k = 0 then s.loadSlot o dev else s.slotFailed o dev k)

/-- The record being applied fails the slot at step 6 (R82). -/
def State.failRecord (s : State) : State :=
  match s.img.ob with
  | none => s
  | some o => (s.put CfgStatus.failRec 0 (min s.img.recIdx 65535)).slotFailed o (s.get CfgStatus.slot 0) 6

/-- The record has been applied. -/
def State.nextRecord (s : State) : State := { s with img := { s.img with recIdx := s.img.recIdx + 1 } }

/-! ### DRAM training (R407) and the page store kept (R137) -/

/-- Held pages are checked again; a page that was being printed waits for the twin's decision, or closes ABORTED. -/
def State.recheckStore (s : State) : State :=
  let s := (s.pages.filter (fun (p : Page) => !p.scheduled && !p.closed)).foldl (fun t (p : Page) =>
    if p.desc.stream then
      (p.stripes.filter (fun x => x.stored && x.clen != x.data.length)).foldl (fun u x => u.loseStripe p.pseq x.idx) t
    else t.mapPage p.pseq (fun q => { q with admitted := false, stripes := q.stripes.map (fun x => { x with verified := false }) })) s
  let s := if s.solo then { s with pages := s.pages.map (fun (p : Page) => if p.scheduled && !p.closed then p.close 4 11 else p),
                                   rst := { s.rst with psKept := false } } else s
  s.startVerify

/-- DEDUCED (log 21). -/
def execDramTrainingDone (t : Training) (s : State) : Ans :=
  .next (match s.img.ob with
    | none => s
    | some o =>
      if s.rst.stretch ∨ s.rst.stage ≠ 4 then s
      else if o.speed < t.failed then
        let s := (List.range o.speed).foldl (fun u _ => u.record .mcSpeedDown 0 []) s
        (s.put McStat.state 0 0).raiseStart false
      else
        let s := (List.range t.failed).foldl (fun u _ => u.record .mcSpeedDown 0 []) s
        let bad := decide (t.density % 2 ≠ o.density ∨ t.ranks % 2 ≠ o.ranks)
        let s := (((s.put McCfg.density 0 (t.density % 2)).put McCfg.ranks2 0 (t.ranks % 2)).put McCfg.speed 0 (o.speed - t.failed)).put
          McCfg.cap 0 (t.density % 2 + t.ranks % 2)
        let s := if bad then (s.put McCfg.geoMismatch 0 1).record .mcGeoMismatch 0 [] else s
        let s := (s.put McStat.state 0 2).openRecords
        if s.rst.psKept then s.recheckStore else s)

/-! ### Records without a register of their own (Table 04-7) -/

/-- THR_ARRAY, HEAD_TABLE: what a record holds for the ports of a mask (R83). -/
def execHeadTable (mask kind : Nat) (data : List Byte) (s : State) : Ans :=
  .next (if ¬s.img.applying then s
    else ({ s with img := { s.img with headTables := s.img.headTables ++ [HeadTable.mk (mask % 2 ^ 128) kind data] } }).nextRecord)

/-- R79. A record that is refused or skipped programs nothing and does not fail the slot. DEDUCED (log 20). -/
def execFuseProgram (hash : List Byte) (map flags : Word) (s : State) : Ans :=
  let h := slice hash 0 32
  let req := flags.toNat % 2
  .next (if ¬s.img.applying then s
    else if s.flag CfgStatus.fuseLock 0 then (s.record .cfgFuseLocked 0 []).nextRecord
    else if req = 1 ∧ h.all (fun b => b == 0) then s.nextRecord
    else
      let s := { s with img := { s.img with keyHash := h } }
      let s := Reg.rstFuseMap.fields.foldl (fun t f => t.put f 0 (f.of map)) s
      ((s.put CfgStatus.sigReq 0 req).put CfgStatus.fuseLock 0 1).nextRecord)

/-! ### Pin commit (R29, R83) -/

/-- Every staged field without a generation of its own takes effect. DEDUCED (log 13). -/
def State.enforceAll (s : State) : State :=
  { s with force := s.regs.filter (fun e => regList.any (fun r =>
      r.ctorIdx == e.1 / 32 % 512 && !(nmRegs ++ ctbRegs ++ ispRegs).contains r &&
      r.fields.any (fun f => f.lo == e.1 % 32 && f.acc == .rws))) }

/-- Generation 1 of the tables, the settings of the contexts, and the loop slots. -/
def State.commitTables (s : State) : State :=
  let s := ((s.commitNm (copyRegs nmRegs s.regs) false).commitCtb)
  let tab := copyRegs ispRegs s.regs
  let s := (List.range 8).foldl (fun t c => t.mapCtx c (fun x => { x with bound := ⟨0, tab⟩ })) s
  (s.loop.slots.map (fun e => e.1)).foldl (fun t n => t.restartSlot n) s

/-- A lane's transmitter begins to train (R103). -/
def State.startLanes (s : State) : State :=
  (List.range 140).foldl (fun t n => if (t.lane n).tx = .off then t.setLane n { t.lane n with tx := .training } else t) s

/-- Everything configured takes effect together; the twin then begins to negotiate, and a device of its own is in RUN (R425). -/
def State.pinCommit (s : State) : State :=
  let s := { s with
    pins := { s.pins with phase := .configured },
    img := { s.img with applying := false },
    rst := { s.rst with stage := 6, pathDown := false } }
  let s := (((s.safeOutputs.enforceAll).commitTables).startLanes).setDevState 0
  if s.solo then (s.put TwStat.role 0 roleSolo).enterRun
  else { s with twin := { s.twin with step8 := some s.now } }

def execCfgRecordEnd (s : State) : Ans := .next (if s.img.applying then s.pinCommit else s)

/-! ### Flash access (CFG_FL_CTRL, R85) -/

/-- Where a program or an erase acts: first byte and length. -/
def flashRange (op addr len : Nat) : Nat × Nat :=
  if op = 2 then (addr / 4096 * 4096, 4096) else if op = 3 then (addr / 65536 * 65536, 65536) else (addr, len)

/-- A write of CFG_FL_CTRL: GO starts the operation, or is refused by R85; nothing starts while
the port is busy, and with a wrong KEY the whole write is ignored. DEDUCED (log 12). -/
def State.writeFlCtrl (s : State) (value : Word) : State :=
  if ¬keyOk value then s
  else
  let s := s.storeWord .cfgFlCtrl 0 value
  let op := s.get CfgFlCtrl.op 0
  let dev := s.get CfgFlCtrl.cs 0
  let addr := s.get CfgFlAddr.v 0
  let len := s.get CfgFlCtrl.lenm1 0 + 1
  let r := flashRange op addr len
  if CfgFlCtrl.go.of value ≠ 1 ∨ s.flag CfgFlCtrl.busy 0 ∨ 4 ≤ op then s
  else if 1 ≤ op ∧ s.get RstStatus.state 0 ≠ 3 ∧ dev = s.get CfgStatus.slot 0 ∧ imageBase < r.1 + r.2 then s.put CfgFlCtrl.refused 0 1
  else ({ s with img := { s.img with flOp := some (dev, op, addr, len) } }).put CfgFlCtrl.busy 0 1

def execCfgFlRead (value : Word) (s : State) : Ans := .next (s.writeFlCtrl value)

def execCfgFlProgram (value : Word) (s : State) : Ans := .next (s.writeFlCtrl value)

def execCfgFlErase4k (value : Word) (s : State) : Ans := .next (s.writeFlCtrl value)

def execCfgFlErase64k (value : Word) (s : State) : Ans := .next (s.writeFlCtrl value)

def State.bufByte (s : State) (i : Nat) : Byte := BitVec.ofNat 8 (s.get CfgFlBuf.v (i / 4) / 256 ^ (i % 4))

/-- A byte of the buffer. -/
def State.setBufByte (s : State) (i : Nat) (b : Byte) : State :=
  let w := s.get CfgFlBuf.v (i / 4)
  let k := 256 ^ (i % 4)
  s.put CfgFlBuf.v (i / 4) (w - w / k % 256 * k + b.toNat * k)

/-- The operation in progress ends: programming clears bits (a NOR flash device), erasing sets them.
PRESUMED (log 7). PRESUMED (log 8). -/
def State.flashDone (s : State) : State :=
  match s.img.flOp with
  | none => s
  | some (dev, op, addr, len) =>
    let s := ({ s with img := { s.img with flOp := none } }).put CfgFlCtrl.busy 0 0
    let r := flashRange op addr len
    match op with
    | 0 => (List.range len).foldl (fun t i => t.setBufByte i (s.flashByte dev (addr + i))) s
    | 1 => s.setFlash dev (fun m => (List.range len).foldl (fun m i =>
        Tab.set 0xFF m (addr + i) (Tab.get 0xFF m (addr + i) &&& s.bufByte i)) m)
    | _ => s.setFlash dev (fun m => m.filter (fun e => decide (e.1 < r.1) || decide (r.1 + r.2 ≤ e.1)))

def execCfgFlOpDone (s : State) : Ans := .next s.flashDone

end Sys2Proof.Machine
end

