-- ==== Sys2Proof/Machine/Mc.lean ====
section
/-!
DEFINITION. The DRAM controller in service: drains, refresh, ECC and sparing, scrub, row disturbance, self-refresh, calibration
and retraining (spec/17_memory_controller.md).
-/
namespace Sys2Proof.Machine

def State.mapMc (s : State) (f : MemCtlSt → MemCtlSt) : State := { s with mc := f s.mc }

/-- DRAM is in service. -/
def State.mcServes (s : State) : Bool := s.get McStat.state 0 == 2

/-- A field in which 0 acts as the reset value. -/
def State.orReset (s : State) (f : Fld) : Nat := if s.get f 0 = 0 then f.resetAt 0 else s.get f 0

/-! ### Queues and refresh (R410, R411, R413) -/

/-- A write enters its subchannel's queue; a burst already queued keeps its place, and the write-back of a correction is dropped
there (R415). -/
def State.queueWrite (s : State) (addr : Nat) : State :=
  let k := addr / 64 % 8
  let q := s.mc.writes.getD k []
  if q.any (fun e => e.1 == addr / 64) then s
  else s.mapMc (fun m => { m with writes := m.writes.set k (q ++ [(addr / 64, s.now)]) })

/-- A drain: oldest first until 16 entries remain and none is older than WAGE. `urgent` class 0 reads interrupt it. -/
def State.drain (s : State) (k urgent : Nat) : State :=
  let q := s.mc.writes.getD k []
  let old : Nat × Nat → Bool := fun e => decide (us (s.orReset McCtrl.wage) < s.now - e.2)
  if q.length < 48 ∧ ¬q.any old then s
  else
    let rest := (q.drop (q.length - 16)).filter (fun e => !old e)
    (s.mapMc (fun m => { m with writes := m.writes.set k rest, idleAt := s.now })).countBy McCntFfurg.count McCntFfurg.ovf 0 urgent

def execWriteDrain (sub : Fin 8) (urgent : Nat) (s : State) : Ans := .next (s.drain sub.val urgent)

/-- REF commands that JESD79-5 lets a controller postpone. PRESUMED (log 47). -/
def postponeLimit : Nat := 4

/-- REF falls due: postponed while a class 0 read is urgent and the limit allows, else issued with those that were postponed. -/
def execRefresh (sub : Fin 8) (urgent hot : Bool) (s : State) : Ans :=
  let n := s.mc.postponed.getD sub.val 0
  let n' := if urgent && decide (n < postponeLimit) then n + 1 else 0
  .next ((s.put McStat.hot 0 (if hot then 1 else 0)).mapMc (fun m => { m with postponed := m.postponed.set sub.val n' }))

/-! ### ECC and sparing (R415 to R417) -/

def ceIndex (sub rank dev : Nat) : Nat := 10 * sub + 5 * rank + dev

def State.erased (s : State) (sub rank : Nat) : Bool := s.flag (if rank = 0 then McSpare.erased0 else McSpare.erased1) sub

/-- A device is marked as erased. -/
def State.markSpare (s : State) (sub rank dev : Nat) : State :=
  let s := if rank = 0 then (s.put McSpare.dev0 sub dev).put McSpare.erased0 sub 1
    else (s.put McSpare.dev1 sub dev).put McSpare.erased1 sub 1
  (s.put McStat.degraded 0 1).record .mcSpare sub []

/-- An attributed correction counts towards SPARE_THRESH in this pass. -/
def State.attribute (s : State) (sub rank dev : Nat) : State :=
  let i := ceIndex sub rank dev
  let n := Tab.get 0 s.mc.pass i + 1
  let s := (s.count McCe.count McCe.ovf i).mapMc (fun m => { m with pass := Tab.insert i n m.pass })
  let t := max 1 (s.get McSpareCfg.thresh 0)
  if n < t then s
  else if ¬s.erased sub rank then s.markSpare sub rank dev
  else if n = t ∧ s.get (if rank = 0 then McSpare.dev0 else McSpare.dev1) sub ≠ dev then s.record .mcSpareFull sub []
  else s

def execMcCe (h : CeHit) (s : State) : Ans :=
  let s := (s.count McCntCe.count McCntCe.ovf 0).queueWrite h.addr
  let s := match h.dev with
    | some d => s.attribute h.sub.val h.rank.val d.val
    | none => s
  let due : Bool := match s.mc.ceAt with
    | none => true
    | some t => decide (us 1000 ≤ s.now - t)
  .next (if due then (s.mapMc (fun m => { m with ceAt := some s.now })).record .mcCe h.sub.val [] else s)

/-- A write of MC_SPARE. -/
def State.writeMcSpare (s : State) (sub : Nat) (value : Word) : State :=
  let s := s.storeWord .mcSpare sub value
  let rank := s.get McSpare.rank sub
  let dev := s.get McSpare.dev sub
  if McSpare.mark.of value = 1 ∧ dev ≤ 4 ∧ ¬s.erased sub rank then s.markSpare sub rank dev else s

def execMcSpareMark (sub : Fin 8) (value : Word) (s : State) : Ans := .next (s.writeMcSpare sub.val value)

/-- A band-ring line is struck: frames assembled from now on read code 0 in every column (Table 17-4). DEDUCED (log 78). -/
def State.strikeLine (s : State) (line : Nat) : State :=
  match s.bandLine line with
  | none => s
  | some b => (s.writeLine { b with codes := [], lost := true }).mapPage b.pseq (fun p => p.spoil b.pageLine 7)

/-- An uncorrectable burst (R417). -/
def State.uncorrectable (s : State) (h : UeHit) : State :=
  let s := (s.count McCntUe.count McCntUe.ovf 0).put64 McUeAddrLo.v McUeAddrHi.v 0 h.addr
  let s := ((s.put McUeInfo.class_ 0 h.cls).put McUeInfo.region 0 h.region).record .mcUe 0 [a64 h.addr, a8 h.cls, a8 h.region]
  match h.region with
  | 0 => s.raiseSource 14 []
  | 1 => s.loseStripe h.pseq h.stripe
  | 2 => s.strikeLine h.line
  | _ => s

def execMcUe (h : UeHit) (s : State) : Ans := .next (s.uncorrectable h)

/-- Patrol scrub reads the next burst; the counts of R416 restart with each pass (R418). -/
def execPatrolScrub (s : State) : Ans :=
  .next (if ¬s.flag McCtrl.scrubEn 0 ∨ ¬s.mcServes then s
    else
      let a := s.get64 McScrubPosLo.v McScrubPosHi.v 0 + 64
      if s.managedBytes ≤ a then
        ((s.put64 McScrubPosLo.v McScrubPosHi.v 0 0).bump McScrubPass.v 0).mapMc (fun m => { m with pass := [] })
      else s.put64 McScrubPosLo.v McScrubPosHi.v 0 a)

/-! ### Row disturbance (R419 to R421) -/

/-- The 16 entries of a table: row and count, a count of 0 where the entry is empty. -/
def Bank.entries (b : Bank) : List (Nat × Nat) := b.rows ++ List.replicate (16 - b.rows.length) (0, 0)

/-- The lowest-numbered entry with the lowest count. -/
def lowestEntry (l : List (Nat × Nat)) : Nat :=
  let m := l.foldl (fun k e => min k e.2) (l.headD (0, 0)).2
  l.findIdx (fun e => e.2 == m)

/-- An activate of a row: the entry it counts in, and the table. -/
def Bank.activate (b : Bank) (row : Nat) : Nat × List (Nat × Nat) :=
  let l := b.entries
  let i := l.findIdx (fun e => e.1 == row && e.2 != 0)
  let i := if i < 16 then i else lowestEntry l
  (i, l.set i (row, (l.getD i (0, 0)).2 + 1))

/-- The class with the most activates; on a tie the higher number. -/
def topClass (l : List Nat) : Nat := (List.range 8).foldl (fun m c => if l.getD m 0 ≤ l.getD c 0 then c else m) 0

/-- When an activate of the limited class is issued: at most `k` within a microsecond. Newest time first. -/
def throttleAt (recent : List Nat) (k now : Nat) : Nat :=
  if k = 0 ∨ recent.length < k then now else max now (recent.getD (k - 1) 0 + us 1)

/-- Fall-back limits the class with the most activates, but never fire fetch. -/
def State.limitClass (s : State) (cls : Nat) (b : Bank) : State × Bank :=
  let top := topClass b.byClass
  if ¬b.fallback then (s, b)
  else if top = 0 then
    if b.ffSeen then (s, b) else (s.record .mcHammerFf 0 [], { b with ffSeen := true })
  else if cls ≠ top then (s, b)
  else
    let k := s.orReset McHammer.throttle
    let t := throttleAt b.recent k s.now
    let b' := { b with recent := (t :: b.recent).take 16 }
    if t = s.now then (s, b')
    else
      let s := s.count McCntThrot.count McCntThrot.ovf 0
      if b.throtSeen then (s, b') else (s.record .mcThrottle 0 [], { b' with throtSeen := true })

def State.rowActivate (s : State) (n row cls : Nat) (rfm : Bool) : State :=
  let b := Tab.get Bank.reset s.mc.banks n
  let r := b.activate row
  let b := { b with rows := r.2, raa := if rfm then 0 else b.raa + 1,
                    byClass := b.byClass.set cls (b.byClass.getD cls 0 + 1) }
  let hit := decide (s.orReset McHammer.actThresh ≤ (r.2.getD r.1 (0, 0)).2)
  let b := if hit then { b with rows := b.rows.set r.1 (0, 0) } else b
  let s := if hit then s.count McCntDrfm.count McCntDrfm.ovf 0 else s
  let low := b.entries.foldl (fun k e => min k e.2) (2 ^ 32)
  let enters := !b.fallback && decide (s.orReset McHammer.ovfLevel ≤ low)
  let b := if enters then { b with fallback := true } else b
  let s := if enters then s.count McCntOvf.count McCntOvf.ovf 0 else s
  let q := s.limitClass cls b
  q.1.mapMc (fun m => { m with banks := Tab.set Bank.reset m.banks n q.2 })

def execRowActivate (bank : Fin 512) (row : Nat) (cls : Fin 8) (rfm : Bool) (s : State) : Ans :=
  .next (s.rowActivate bank.val row cls.val rfm)

/-- Every count clears; the rolling counts of R420 are independent of the window. -/
def execHammerWindowEnd (s : State) : Ans :=
  .next (s.mapMc (fun m => { m with banks := m.banks.foldl (fun t e => Tab.set Bank.reset t e.1 { Bank.reset with raa := e.2.raa }) [] }))

/-! ### Self-refresh, calibration and retraining (R422 to R424) -/

/-- In PARK, with empty queues. -/
def execSelfRefreshEntry (s : State) : Ans :=
  .next (if s.get RstStatus.state 0 = 2 ∧ s.mcServes ∧ s.mc.writes.all (fun q => q.isEmpty) then s.put McStat.state 0 3 else s)

/-- A request, or the return to RUN, ends it; scheduling goes on (R520). -/
def execSelfRefreshExit (s : State) : Ans :=
  .next (if s.get McStat.state 0 = 3 then (s.put McStat.state 0 2).mapMc (fun m => { m with resumeDue := false, idleAt := s.now })
    else s)

/-- ZQ calibration uses refresh slots only and changes nothing that software sees (R423). DEDUCED (log 49). -/
def execZqCalibration (_rank : Fin 2) (s : State) : Ans := .next s

/-- The write DQS delay of a rank follows a drift of more than 1/64 UI from the training baseline. DEDUCED (log 48). -/
def execDqsOscCheck (rank : Fin 2) (drift : Int) (s : State) : Ans :=
  .next (if drift.natAbs ≤ 1 then s
    else s.mapMc (fun m => { m with dqs := (List.range 8).foldl (fun t k => Tab.set 0 t (2 * k + rank.val) drift) m.dqs }))

/-- A write of MC_CTRL: RETRAIN is accepted on a standby, or in PARK on a device that is solo. -/
def State.writeMcCtrl (s : State) (value : Word) : State :=
  let s := s.storeWord .mcCtrl 0 value
  if McCtrl.retrain.of value ≠ 1 then s
  else if (s.role = roleStandby ∨ (s.solo ∧ s.get RstStatus.state 0 = 2)) ∧ (s.mcServes ∨ s.get McStat.state 0 = 3) then
    let s := s.put McStat.state 0 4
    if s.role = roleStandby then s.setUnfit unfitRetrain true else s
  else s.put McCtrl.retrainRef 0 1

def execMcRetrain (value : Word) (s : State) : Ans := .next (s.writeMcCtrl value)

/-- The retrain is over; a standby rejoins. -/
def execRetrainDone (s : State) : Ans :=
  .next (if s.get McStat.state 0 ≠ 4 then s
    else
      let s := (s.put McStat.state 0 2).setUnfit unfitRetrain false
      if s.role = roleStandby then s.startRejoin else s)

end Sys2Proof.Machine
end

