-- ==== Sys2Proof/Machine/Events.lean ====
section
/-!
DEFINITION. Release of event records, PARK and the deadline of nozzle compensation (spec/22_events_errors_ordering.md).
-/
namespace Sys2Proof.Machine

/-! ### Release (R503) -/

/-- One record comes before another: by ET, then PREC, BLOCK and INST. -/
def recordBefore (a b : EvRec) : Bool :=
  lexLess [a.et, a.code.prec, a.code.block, a.inst] [b.et, b.code.prec, b.code.block, b.inst]

/-- A record goes behind those that do not come after it: production order is kept. -/
def placeRecord (r : EvRec) : List EvRec → List EvRec
  | [] => [r]
  | x :: xs => if recordBefore r x then r :: x :: xs else x :: placeRecord r xs

/-- DEDUCED (log 75). -/
def orderRecords (q : List EvRec) : List EvRec := q.foldl (fun l r => placeRecord r l) []

/-- The records of an ET and of earlier ones reach the ring. DEDUCED (log 75). -/
def State.releaseEvents (s : State) (et : Nat) : State :=
  let out := orderRecords (s.ev.queue.filter (fun r => decide (r.et ≤ et)))
  let last := match s.ev.releasedEt with
    | some e => max e et
    | none => et
  let t := { s with ev := { s.ev with queue := s.ev.queue.filter (fun r => decide (et < r.et)), releasedEt := some last } }
  out.foldl (fun u r => u.spill r) t

def execEventRelease (et : Nat) (s : State) : Ans := .next (s.releaseEvents et)

/-! ### PARK (R519, R520) -/

def State.park (s : State) : State :=
  if s.get RstStatus.state 0 ≠ 1 then s
  else if s.pages = [] ∧ ¬s.runningActs.contains 0 then s.setDevState 2
  else (s.put RstPark.refused 0 1).record .parkRefused 0 []

/-- Scheduling resumes once the memory controller has left self-refresh. -/
def State.unpark (s : State) : State :=
  if s.get RstStatus.state 0 ≠ 2 then s
  else
    let s := s.setDevState 1
    if s.get McStat.state 0 = 3 then { s with mc := { s.mc with resumeDue := true } } else s

/-- DEDUCED (log 12). -/
def State.writeRstPark (s : State) (value : Word) : State :=
  if ¬keyOk value then s
  else
    let s := s.storeWord .rstPark 0 value
    let s := if RstPark.req.of value = 1 then s.park else s
    if RstPark.run_.of value = 1 then s.unpark else s

def execRstParkReq (value : Word) (s : State) : Ans := .next (s.writeRstPark value)

def execRstParkRun (value : Word) (s : State) : Ans := .next (s.writeRstPark value)

/-! ### HOST_MISS (R517) -/

/-- The deadline of the first unanswered HM_CHANGE has passed: with HOST_FALLBACK the function returns to HW and the analyser
commits. DEDUCED (log 70). -/
def State.compMiss (s : State) : State :=
  if s.hmWait.isNone ∨ s.get ScrCtrl.compMode 0 ≠ 1 ∨ ¬s.acting then s
  else
    let s := ({ s with hmWait := none }).record .hostMiss 0 []
    if s.flag ScrCtrl.hostFallback 0 then (s.hostSilence .compensation).analyserCommit else s

def execHostMiss (s : State) : Ans := .next s.compMiss

end Sys2Proof.Machine
end

