-- ==== Sys2Proof/Machine/Island.lean ====
section
/-!
DEFINITION. The metrology island and its mirror on the main die (spec/20_metrology_island.md).
-/
namespace Sys2Proof.Machine

def State.mapIsl (s : State) (f : IslandSt → IslandSt) : State := { s with met := f s.met }

/-- RTC in 2^-15 s. -/
def State.rtc (s : State) : Nat := unsign 64 (s.met.rtcBase + (s.now * 32768 / 500000000 : Nat))

/-- The island counts: it is supplied and its ROM is sound (R492). -/
def State.counting (s : State) : Bool := s.met.powered && s.met.running && !s.met.romErr

/-! ### Job records (R482 to R487, Table 20-2) -/

def State.job (s : State) (n : Nat) : Option JobRec :=
  match Tab.find s.met.jobs (n % 8192) with
  | some j => if j.recNo = n then some j else none
  | none => none

def State.openJob (s : State) : Option JobRec :=
  match s.met.open_ with
  | some n => s.job n
  | none => none

def IslandSt.putJob (i : IslandSt) (j : JobRec) : IslandSt := { i with jobs := Tab.insert (j.recNo % 8192) j i.jobs }

/-- LENGTH_UM = floor(COUNTS × SCALE_PM / 10^6), a class M counter (R483). -/
def lengthUm (counts scale : Nat) : Nat := min (counts * scale / 1000000) (2 ^ 64 - 1)

/-- |LENGTH_UM − MAIN_UM| exceeds LENGTH_UM × DIV_PPM / 10^6 + 1,000 µm (R487). -/
def diverges (len main div : Nat) : Bool :=
  decide (len * div + 1000 * 1000000 < (Int.ofNat len - Int.ofNat main).natAbs * 1000000)

def jobCompared (j : JobRec) : JobRec := { j with diverged := j.diverged || diverges j.lengthUm j.mainUm j.div }

/-- One count into a record: above the high-water position to COUNTS, else to REV_COUNTS. -/
def jobStep (j : JobRec) (d : Int) : JobRec :=
  let pos := j.pos + d
  if j.high < pos then
    let c := satAdd 64 j.counts 1
    { j with pos := pos, high := pos, counts := c, lengthUm := lengthUm c j.scale }
  else { j with pos := pos, revCounts := satAdd 64 j.revCounts 1 }

/-- One count into the lifetime totals. DEDUCED (log 66). -/
def IslandSt.totalStep (i : IslandSt) (d : Int) : IslandSt :=
  let pos := i.pos + d
  if i.high < pos then
    let pm := i.totalPm + i.fScale
    { i with pos := pos, high := pos, totalCounts := satAdd 64 i.totalCounts 1, totalPm := pm % 1000000,
             totalUm := satAdd 64 i.totalUm (pm / 1000000) }
  else { i with pos := pos }

/-- Quadrature as R289: 00, 01, 11, 10 of (B, A) count up; a change of both lines is no step. -/
def quadStep (a b a' b' : Bool) : Int :=
  if a = a' ∧ b = b' ∨ a ≠ a' ∧ b ≠ b' then 0
  else
    let up := if a ≠ a' then a' != b' else a' == b'
    if up then 1 else -1

/-- An edge on the island's encoder lines (R481). -/
def State.islandEdge (s : State) (a b : Bool) : State :=
  let d := quadStep s.met.a s.met.b a b
  let d := if s.met.fDir then -d else d
  let t := s.mapIsl (fun i => { i with a := a, b := b })
  if ¬s.counting ∨ d = 0 then t
  else
    let t := t.mapIsl (fun i => i.totalStep d)
    match t.openJob with
    | some j => t.mapIsl (fun i => i.putJob (jobStep j d))
    | none => t

def execMetEncoderEdge (a b : Bool) (s : State) : Ans := .next (s.islandEdge a b)

/-! ### Audit trail (R489, R490) -/

def kSealOpen : Nat := 1
def kSealClose : Nat := 2
def kParam : Nat := 3
def kCalibration : Nat := 4
def kRtcSet : Nat := 5
def kPowerDown : Nat := 6
def kPowerUp : Nat := 7
def kResetMain : Nat := 8

/-- Entries that hold no unacknowledged entry. -/
def IslandSt.freeAudit (i : IslandSt) : Nat := 4096 - (i.audit.filter (fun e => decide (i.ackEvent < e.1))).length

/-- Changes of kinds 3, 4, 5 and 8 are refused. -/
def IslandSt.auditFull (i : IslandSt) : Bool := decide (i.freeAudit ≤ 16)

/-- An event is counted and its entry written over the oldest acknowledged one, or lost. -/
def State.audited (s : State) (kind param old new : Nat) : State :=
  let t := s.rtc
  s.mapIsl (fun i =>
    let e := satAdd 64 i.eventCtr 1
    if i.freeAudit = 0 then { i with eventCtr := e, auditLost := true }
    else
      let kept := if i.audit.length < 4096 then i.audit else i.audit.drop 1
      { i with eventCtr := e, audit := Tab.insert e ⟨e, t, kind, param, old % 2 ^ 32, new % 2 ^ 32⟩ kept })

/-! ### Opening and closing jobs (R485, R486) -/

/-- The open job is closed; it is compared once more (R487). -/
def State.closeJob (s : State) (powerLoss : Bool) : State :=
  match s.openJob with
  | none => s
  | some j =>
    let t := s.rtc
    let k := jobCompared j
    s.mapIsl (fun i => { (i.putJob { k with open_ := false, powerLoss := powerLoss, tEnd := t }) with open_ := none })

/-- Records not acknowledged. -/
def IslandSt.unackedJobs (i : IslandSt) : Nat := i.nextRec - i.ackRec

def State.openNewJob (s : State) (jobId : Nat) : State :=
  let t := s.rtc
  s.mapIsl (fun i =>
    let j : JobRec := {
      recNo := i.nextRec, jobId := jobId, open_ := true, powerLoss := false, diverged := false, tallyGap := false,
      evtAtStart := i.eventCtr % 2 ^ 32, tStart := t, tEnd := 0, counts := 0, lengthUm := 0, mainUm := 0, revCounts := 0,
      ink := List.replicate 7 0, scale := i.scale, div := i.div, pos := 0, high := 0, dir := i.dir }
    { (i.putJob j) with
      nextRec := i.nextRec + 1, open_ := some i.nextRec, lastRec := some i.nextRec, unmetered := false,
      mainStart := some i.mainNow, fScale := i.scale, fDir := i.dir, fDiv := i.div })

/-! ### The tally stream (R478, R480) -/

/-- The main die's web length in µm. -/
def State.webUm (s : State) : Nat := (s.fpe.x * 25400 / (65536 * 256 * s.resLpi : Nat)).toNat

/-- JOB_ID of the page being printed: the one that holds the highest line stamped. -/
def State.printingJob (s : State) : Nat :=
  match s.fpe.hwm with
  | some n => (match s.pageOfLine n with
    | some (p, _) => p.desc.jobId
    | none => 0)
  | none => 0

def execTallySend (s : State) : Ans :=
  .next ({ s with tally := { s.tally with seq := (s.tally.seq + 1) % 2 ^ 32, drops := List.replicate 7 0 } }.send
    (.tally ([s.tally.seq, s.printingJob, s.webUm] ++ s.tally.drops)))

def execTallyFrame (seq _jobId : Nat) (drops : List Nat) (um : Nat) (s : State) : Ans :=
  .next (if ¬s.counting then s
    else
      let gap := match s.met.tallySeq with
        | some q => seq != (q + 1) % 2 ^ 32
        | none => false
      let t := s.mapIsl (fun i => { i with tallySeq := some seq, mainNow := um })
      match t.openJob with
      | none => t
      | some j =>
        let ink := (j.ink.zipIdx).map (fun x => satAdd 64 x.1 (drops.getD x.2 0))
        t.mapIsl (fun i => i.putJob { j with tallyGap := j.tallyGap || gap, ink := ink, mainUm := um - i.mainStart.getD 0 }))

/-- Every millisecond LENGTH_UM is compared with MAIN_UM. -/
def execDivergenceCheck (s : State) : Ans :=
  .next (if ¬s.counting then s
    else match s.openJob with
      | some j => s.mapIsl (fun i => i.putJob (jobCompared j))
      | none => s)

/-! ### FRAM, power and start (R476, R484, R492) -/

/-- The counters go to FRAM. -/
def State.framCommit (s : State) : State :=
  let j := s.openJob
  let c := match j with
    | some j => [j.counts, j.revCounts]
    | none => [0, 0]
  s.mapIsl (fun i => { i with fram := [i.totalCounts, i.totalUm] ++ c })

def execFramCommit (s : State) : Ans := .next (if s.counting then s.framCommit else s)

/-- The island's CRC-32C of its ROM: the checksum of stepping B0, or another value. -/
def State.islandStart (s : State) (romOk : Bool) : State :=
  let crc := if romOk then 0x5A31C7E2 else s.openValue 32
  let t := if romOk then s else s.nextOpen
  (t.mapIsl (fun i => { i with
    powered := true, running := true, romErr := !romOk, romCrc := crc, lastSeq := none, response := [], tallySeq := none })).audited kPowerUp 0 0 0

def execMetPowerDown (s : State) : Ans :=
  .next (if ¬s.met.powered then s
    else
      let t := (s.framCommit.closeJob true).audited kPowerDown 0 0 0
      t.mapIsl (fun i => { i with powered := false, running := false, lastSeq := none, response := [] }))

/-- The RTC had no supply: what it reads from here on is open. DEDUCED (log 66). -/
def execMetPowerUp (romOk : Bool) (s : State) : Ans :=
  .next (if s.met.powered then s
    else
      let base : Int := Int.ofNat (s.openValue 64) - (s.now * 32768 / 500000000 : Nat)
      (s.nextOpen.mapIsl (fun i => { i with rtcBase := base })).islandStart romOk)

/-- What the FRAM holds counts after a watchdog reset; the open job ends there. DEDUCED (log 66). -/
def State.restoreFram (s : State) : State :=
  let f := s.met.fram
  let t := s.mapIsl (fun i => { i with totalCounts := f.getD 0 0, totalUm := f.getD 1 0 })
  match t.openJob with
  | some j => t.mapIsl (fun i => i.putJob { j with counts := f.getD 2 0, lengthUm := lengthUm (f.getD 2 0) j.scale, revCounts := f.getD 3 0 })
  | none => t

def execMetWatchdogReset (romOk : Bool) (s : State) : Ans :=
  .next (if ¬s.met.powered then s
    else ((s.restoreFram.closeJob true).audited kPowerDown 0 0 0).islandStart romOk)

def execSealChange (isOpen : Bool) (s : State) : Ans :=
  .next (if ¬s.met.powered ∨ s.met.sealOpen = isOpen then s
    else (s.mapIsl (fun i => { i with sealOpen := isOpen })).audited (if isOpen then kSealOpen else kSealClose) 0 0 0)

/-! ### The mirror (R479, R493) -/

/-- MET_STAT as the island holds it, with ALIVE. -/
def State.metStatWord (s : State) : Nat :=
  let j := s.openJob
  let bit (p : JobRec → Bool) : Nat := match j with
    | some j => boolArg (p j)
    | none => 0
  1 + 2 * boolArg s.met.sealOpen + 4 * boolArg j.isSome + 8 * boolArg s.met.unmetered + 16 * bit (fun j => j.diverged)
    + 32 * boolArg s.met.auditFull + 64 * boolArg s.met.auditLost + 128 * boolArg s.met.romErr + 256 * bit (fun j => j.tallyGap)

/-- A word of the mirror is written field by field. -/
def State.putWord (s : State) (r : Reg) (i w : Nat) : State :=
  r.fields.foldl (fun t f => t.put f i (w / 2 ^ f.lo)) s

def State.mirror (s : State) : State :=
  let um := match s.met.lastRec with
    | some n => (match s.job n with
      | some j => j.lengthUm
      | none => 0)
    | none => 0
  let s := (s.putWord .metStat 0 s.metStatWord).put64 MetTotalUmLo.v MetTotalUmHi.v 0 s.met.totalUm
  let s := ((s.put64 MetJobUmLo.v MetJobUmHi.v 0 um).put MetJobRec.v 0 (s.met.lastRec.getD 0)).put64 MetEvtLo.v MetEvtHi.v 0 s.met.eventCtr
  let s := (s.put MetSwid.v 0 0x0100).put MetSwchk.v 0 s.met.romCrc
  let s := (s.put MetFree.jobs 0 (8192 - s.met.unackedJobs)).put MetFree.audit 0 s.met.freeAudit
  s.mapIsl (fun i => { i with mirrorAt := some s.now })

def execMirrorUpdate (s : State) : Ans := .next (if s.met.powered ∧ s.met.running then s.mirror else s)

/-- ALIVE clears when the mirror has not been updated within 2 ms. -/
def State.checkAlive (s : State) : State :=
  match s.met.mirrorAt with
  | some t => if us 2000 < s.now - t then s.put MetStat.alive 0 0 else s
  | none => s.put MetStat.alive 0 0

/-- The main die looks at MET_STAT (R493). -/
def State.lookAtMirror (s : State) : State :=
  let s := s.checkAlive
  let now := s.rawWord .metStat 0
  let was := s.tally.seen
  let changed (b : Nat) : Bool := now / 2 ^ b % 2 != was / 2 ^ b % 2
  let s := if changed 1 then s.record .metSeal 0 [a32 now] else s
  let s := if changed 3 then s.record .metUnmetered 0 [a32 now] else s
  let s := if changed 4 then s.record .metDiverge 0 [a32 now] else s
  let s := if changed 0 ∧ now % 2 = 0 then s.record .metLost 0 [] else s
  { s with tally := { s.tally with seen := now } }

def execMetStatusChange (s : State) : Ans := .next s.lookAtMirror

/-! ### Readout (R491, Table 20-5) -/

def msOk : Nat := 0
def msSealed : Nat := 1
def msFull : Nat := 2
def msNoJob : Nat := 3
def msRange : Nat := 4
def msUnmetered : Nat := 6

/-- A response is sent and kept: CMD, STATUS, payload. -/
def State.metAnswer (s : State) (r : MetReq) (cmd status : Nat) (args : List Nat) : State :=
  (s.mapIsl (fun i => { i with lastSeq := some r.seq, response := [cmd, status] ++ args })).send (.met cmd status args)

/-- A request: ignored with a bad CRC, answered again where its SEQ is that of the previous one, and with the ROM in error only
IDENT is executed. The STATUS that says ROM_ERR has no number. -/
def State.metRequest (s : State) (r : MetReq) (cmd : Nat) (run : State → State × Nat × List Nat) : State :=
  if ¬s.met.powered ∨ ¬s.met.running ∨ ¬r.crcOk then s
  else if s.met.lastSeq = some r.seq then
    s.send (.met (s.met.response.getD 0 0) (s.met.response.getD 1 0) (s.met.response.drop 2))
  else if s.met.romErr ∧ cmd ≠ 0x01 then (s.nextOpen).metAnswer r cmd (s.openValue 8) []
  else
    let x := run s
    x.1.metAnswer r cmd x.2.1 x.2.2

def execIdent (r : MetReq) (s : State) : Ans :=
  .next (s.metRequest r 0x01 (fun t => (t, msOk, [0x4E, 0x5A, 0x4D, 0x45, 0x54, 0x0100, t.met.romCrc])))

def execTotals (r : MetReq) (s : State) : Ans :=
  .next (s.metRequest r 0x02 (fun t => (t, msOk, [t.met.totalCounts, t.met.totalUm, t.met.eventCtr, t.rtc, t.metStatWord])))

/-- The fields of a record in the order of Table 20-2, without its CRC. -/
def jobFields (j : JobRec) : List Nat :=
  [j.recNo % 2 ^ 32, j.jobId, boolArg j.open_ + 2 * boolArg j.powerLoss + 4 * boolArg j.diverged + 8 * boolArg j.tallyGap,
    j.evtAtStart, j.tStart, j.tEnd, j.counts, j.lengthUm, j.mainUm, j.revCounts] ++ j.ink

/-- The record as 128 bytes with its CRC-32C. -/
def jobBytes (j : JobRec) : List Byte :=
  let f := jobFields j
  let body := (f.take 4).flatMap (leBytes 4) ++ (f.drop 4).flatMap (leBytes 8) ++ List.replicate 4 0
  body ++ leBytes 4 (crc32c body)

/-- REC_NO is 32 bits and wraps; the record with that number, if one is held. -/
def State.jobNumbered (s : State) (recNo : Nat) : Option JobRec :=
  match Tab.find s.met.jobs (recNo % 8192) with
  | some j => if j.recNo % 2 ^ 32 = recNo then some j else none
  | none => none

def execReadJob (r : MetReq) (recNo : Nat) (s : State) : Ans :=
  .next (s.metRequest r 0x03 (fun t => match t.jobNumbered recNo with
    | some j => (t, msOk, (jobBytes j).map (fun b => b.toNat))
    | none => (t, msRange, [])))

/-- The entry as 32 bytes with its CRC-32C (R489). -/
def auditBytes (e : AuditEntry) : List Byte :=
  let body := leBytes 8 e.event ++ leBytes 8 e.rtc ++ leBytes 1 e.kind ++ leBytes 1 e.param ++ leBytes 2 0 ++ leBytes 4 e.old
    ++ leBytes 4 e.new
  body ++ leBytes 4 (crc32c body)

def execReadAudit (r : MetReq) (event : Nat) (s : State) : Ans :=
  .next (s.metRequest r 0x04 (fun t => match Tab.find t.met.audit event with
    | some e => (t, msOk, (auditBytes e).map (fun b => b.toNat))
    | none => (t, msRange, [])))

/-- Records up to the number are acknowledged. DEDUCED (log 67). -/
def execAckJobs (r : MetReq) (recNo : Nat) (s : State) : Ans :=
  .next (s.metRequest r 0x05 (fun t =>
    let ahead := (recNo + 2 ^ 32 - t.met.ackRec % 2 ^ 32) % 2 ^ 32
    if ahead < t.met.unackedJobs then (t.mapIsl (fun i => { i with ackRec := i.ackRec + ahead + 1 }), msOk, [])
    else if (t.jobNumbered recNo).isSome then (t, msOk, [])
    else (t, msRange, [])))

def execAckAudit (r : MetReq) (event : Nat) (s : State) : Ans :=
  .next (s.metRequest r 0x06 (fun t =>
    if event ≤ t.met.eventCtr then (t.mapIsl (fun i => { i with ackEvent := max i.ackEvent event }), msOk, [])
    else (t, msRange, [])))

def execJobStart (r : MetReq) (jobId : Nat) (s : State) : Ans :=
  .next (s.metRequest r 0x10 (fun t =>
    let t := t.closeJob false
    if 8192 ≤ t.met.unackedJobs then (t.mapIsl (fun i => { i with unmetered := true }), msUnmetered, [])
    else (t.openNewJob jobId, msOk, [])))

def execJobEnd (r : MetReq) (s : State) : Ans :=
  .next (s.metRequest r 0x11 (fun t => if t.openJob.isSome then (t.closeJob false, msOk, []) else (t, msNoJob, [])))

/-! ### Sealed parameters (Table 20-4, R488, R490) -/

/-- A change under the seal: in range, room in the audit ring, the seal open at the commit. DEDUCED (log 67). -/
def State.sealed (s : State) (ok : Bool) (change : State → State) : State × Nat × List Nat :=
  if ¬ok then (s, msRange, [])
  else if s.met.auditFull then (s, msFull, [])
  else if ¬s.met.sealOpen then (s, msSealed, [])
  else (change s, msOk, [])

def State.setRtc (s : State) (time : Nat) : State :=
  let old := s.rtc
  (s.mapIsl (fun i => { i with rtcBase := Int.ofNat time - (s.now * 32768 / 500000000 : Nat) })).audited kRtcSet 4 old time

/-- DEDUCED (log 67). -/
def State.setParam (s : State) (id value : Nat) : State × Nat × List Nat :=
  match id with
  | 1 => s.sealed (decide (1 ≤ value ∧ value < 2 ^ 32)) (fun t =>
      (t.mapIsl (fun i => { i with scale := value })).audited kParam 1 t.met.scale value)
  | 2 => s.sealed (decide (value ≤ 1)) (fun t =>
      (t.mapIsl (fun i => { i with dir := value == 1 })).audited kParam 2 (boolArg t.met.dir) value)
  | 3 => s.sealed (decide (10 ≤ value ∧ value ≤ 100000)) (fun t =>
      (t.mapIsl (fun i => { i with div := value })).audited kParam 3 t.met.div value)
  | 4 => s.sealed true (fun t => t.setRtc value)
  | _ => (s, msRange, [])

def execSetParam (r : MetReq) (id value : Nat) (s : State) : Ans := .next (s.metRequest r 0x20 (fun t => t.setParam id value))

def execSetRtc (r : MetReq) (time : Nat) (s : State) : Ans :=
  .next (s.metRequest r 0x21 (fun t => t.sealed (decide (time < 2 ^ 64)) (fun u => u.setRtc time)))

/-- The island's only action toward the main die: source 15. -/
def execResetMain (r : MetReq) (code : Nat) (s : State) : Ans :=
  .next (s.metRequest r 0x22 (fun t => t.sealed (code == 0x7128) (fun u => (u.audited kResetMain 0 0 0).raiseSource 15 [])))

/-- Two runs that agree give the new SCALE_PM (R495, R499). -/
def execCalLen (r : MetReq) (d c1 c2 tol : Nat) (s : State) : Ans :=
  .next (s.metRequest r 0x30 (fun t =>
    let r1 := roundDiv (d * 1000000 : Nat) c1
    let r2 := roundDiv (d * 1000000 : Nat) c2
    let v := ((r1 + r2 + 1) / 2).toNat
    let ok := decide (0 < c1 ∧ 0 < c2 ∧ 10 ≤ tol ∧ tol ≤ 10000 ∧ 1 ≤ v ∧ v < 2 ^ 32) && agree tol r1 r2
    t.sealed ok (fun u => (u.mapIsl (fun i => { i with scale := v })).audited kCalibration 1 u.met.scale v)))

end Sys2Proof.Machine
end

