-- ==== Sys2Proof/Machine/Ring.lean ====
section
/-!
DEFINITION. The ring ports, the internal switch, ring recovery and register requests (spec/19_ring_and_time.md, R450 to R463).
-/
namespace Sys2Proof.Machine

/-! ### Addresses (R458, R461) -/

def State.nodeId (s : State) : Nat := s.get SysNode.nodeId 0

/-- 02-4E-5A-00 and the node ID, most significant byte first. -/
def State.mac (s : State) : Nat := 0x024E5A000000 + s.nodeId

def broadcastMac : Nat := 0xFFFFFFFFFFFF

/-- Byte b of a 48-bit address, b = 0 the first on the wire. -/
def macByte (m b : Nat) : Nat := m / 256 ^ (5 - b) % 256

/-- A group address has bit 0 of its first byte set (IEEE 802.3). -/
def groupMac (m : Nat) : Bool := macByte m 0 % 2 == 1

/-- NET_HOST_MAC: bytes 0 to 3 in _LO, 4 and 5 in _HI, little-endian (R1). -/
def State.hostMac (s : State) : Nat :=
  (List.range 6).foldl (fun m b => 256 * m + s.get64 NetHostMacLo.v NetHostMacHi.v 0 / 256 ^ b % 256) 0

def otherPort (k : Nat) : Nat := 1 - k

/-! ### RING frames (R454 to R456, R463) -/

def opcLinkDown : Nat := 0x10
def opcReset : Nat := 0x11

/-- A RING frame: OPC, NODE, BCAST, HOPS, originator, data. -/
def ringArgs (opc node : Nat) (bcast : Bool) (hops origin data : Nat) : List Nat := [opc, node, boolArg bcast, hops, origin, data]

/-- BLOCK is cleared and the ring opens (R455). -/
def State.openRing (s : State) (port : Nat) : State :=
  ((s.put NetCtrl.block 0 0).put NetStat.opened 0 1).record .netRingOpen port []

def State.putUp (s : State) (k v : Nat) : State := if k = 0 then s.put NetStat.eUp 0 v else s.put NetStat.wUp 0 v

/-- LINK_DOWN out of a port, three times. DEDUCED (log 61). -/
def State.sendLinkDown (s : State) (k : Nat) : State :=
  (List.range 3).foldl (fun t _ => t.egress k 1 60 (.ring k 3 (ringArgs opcLinkDown t.nodeId false 64 t.mac 0))) s

/-- A port goes down. -/
def State.ringDown (s : State) (k : Nat) : State :=
  if ¬s.portUp k then s
  else
    let s := (s.putUp k 0).mapNet (fun n => { n with wasDown := n.wasDown.set k true, egress := n.egress.set k [] })
    let s := (s.record .netLinkDown k []).sendLinkDown (otherPort k)
    if s.blocked k then s.openRing k else s

def execRingPortDown (port : Fin 2) (s : State) : Ans := .next (s.ringDown port.val)

/-- A port that was down comes up, BLOCKED with HEAL = 1 (R455). -/
def State.ringUp (s : State) (k : Nat) : State :=
  if s.portUp k ∨ ¬(if k = 0 then s.flag NetCtrl.enE 0 else s.flag NetCtrl.enW 0) then s
  else
    let was := s.net.wasDown.getD k false
    let s := (s.putUp k 1).mapNet (fun n => { n with wasDown := n.wasDown.set k false })
    if was ∧ s.flag NetCtrl.heal 0 then
      ((s.put NetCtrl.block 0 (k + 1)).put NetStat.healed 0 1).record .netRingHeal k []
    else s

def execRingPortUp (port : Fin 2) (s : State) : Ans := .next (s.ringUp port.val)

/-- A RING frame goes on, its HOPS decremented, unless it originated here, its HOPS has reached 0 or its port is BLOCKED
(R451 rules 2 and 4, R454). DEDUCED (log 61). -/
def State.passRing (s : State) (k opc node : Nat) (bcast : Bool) (hops origin data : Nat) : State :=
  if hops = 0 then s.count NetCntHops.count NetCntHops.ovf 0
  else if origin = s.mac ∨ s.blocked k then s
  else s.egress (otherPort k) 1 60 (.ring (otherPort k) 3 (ringArgs opc node bcast (hops - 1) origin data))

/-- LINK_DOWN arrives: it goes on, and a BLOCKED port of this device opens (R455). -/
def State.ringLinkDown (s : State) (k hops origin : Nat) : State :=
  let t := s.passRing k opcLinkDown 0 false hops origin 0
  if s.blocked 0 then t.openRing 0 else if s.blocked 1 then t.openRing 1 else t

def execRingLinkDown (port : Fin 2) (origin hops : Nat) (s : State) : Ans := .next (s.ringLinkDown port.val hops origin)

/-- RESET acts on the device named, or on every device it reaches: source 9 with its key and RST_EN, else NET_RST_REJECT (R463).
DEDUCED (log 61). -/
def State.ringReset (s : State) (k node : Nat) (bcast : Bool) (hops origin : Nat) (data : Nat) : State :=
  let s := s.passRing k opcReset node bcast hops origin data
  if bcast ∨ node = s.nodeId then
    if data = 0x7128 ∧ s.flag NetCtrl.rstEn 0 then s.raiseSource 9 [] else s.record .netRstReject k []
  else s

def execRingReset (port : Fin 2) (node : Nat) (bcast : Bool) (hops : Nat) (data : Word) (s : State) : Ans :=
  .next (s.ringReset port.val node bcast hops 0 data.toNat)

/-! ### Register requests (R459 to R462) -/

def stOk : Nat := 0
def stAddr : Nat := 1
def stFoothill : Nat := 2
def stSkipped : Nat := 3
def stTooBig : Nat := 4
def stOpcode : Nat := 5

/-- OPC and NW are in range (Table 19-2). -/
def opOk (o : Nat × Nat) : Bool :=
  match o.1 with
  | 1 => decide (1 ≤ o.2 ∧ o.2 ≤ 64)
  | 2 => decide (1 ≤ o.2 ∧ o.2 ≤ 64)
  | 3 => o.2 == 1
  | _ => false

/-- Data words of an operation in a response: what READ read, the old value of RMW. -/
def dataWords (o : Nat × Nat) : Nat := if o.1 = 1 then o.2 else if o.1 = 3 then 1 else 0

/-- Payload of a response. -/
def responseBytes (ops : List (Nat × Nat)) : Nat := ops.foldl (fun n o => n + 8 + 4 * dataWords o) 12

/-- A response goes to its source. DEDUCED (log 62). -/
def State.respond (s : State) (mac seq len : Nat) (r : List Nat) : State := s.sendLocal len 2 ([mac, s.mac, s.nodeId, seq] ++ r)

def State.storeResponse (s : State) (q : ReqSt) : State :=
  s.mapNet (fun n => { n with sources := n.sources.map (fun (x : ReqSource) =>
    if x.mac = q.mac then { x with len := q.len, seq := q.seq, response := q.response } else x) })

/-- OPC and STATUS of operations that are not applied. -/
def unapplied (status : Nat) (ops : List (Nat × Nat)) : List Nat := ops.flatMap (fun o => [o.1, status])

/-- The first request's operations that can't be applied are answered; a request with none left is answered whole.
DEDUCED (log 62). -/
def State.settleRequest (s : State) : State :=
  match s.net.requests with
  | [] => s
  | q :: rest =>
    match q.left with
    | o :: os =>
      if opOk o then s
      else
        let q := { q with left := [], response := q.response ++ unapplied stOpcode [o] ++ unapplied stSkipped os }
        ((s.mapNet (fun n => { n with requests := rest })).storeResponse q).respond q.mac q.seq q.len q.response
    | [] => ((s.mapNet (fun n => { n with requests := rest })).storeResponse q).respond q.mac q.seq q.len q.response

/-- Requests that can't be applied further, as many as wait. -/
def State.settleRequests (s : State) : State := (List.range (s.net.requests.length)).foldl (fun t _ => t.settleRequest) s

/-- An operation of the first request has been applied: its status and data, and what it leaves of the rest (R460).
DEDUCED (log 62). -/
def State.opDone (s : State) (opc status : Nat) (data : List Nat) : State :=
  match s.net.requests with
  | [] => s
  | q :: rest =>
    let left := q.left.tail
    let r := q.response ++ [opc, status] ++ data
    let q := if status = stOk then { q with left := left, response := r }
      else { q with left := [], response := r ++ unapplied stSkipped left }
    (s.mapNet (fun n => { n with requests := q :: rest })).settleRequests

/-- The source moves to the front of the table; the one used least recently makes way (R461). -/
def useSource (x : ReqSource) (t : List ReqSource) : List ReqSource := (x :: t.filter (fun y => !(y.mac == x.mac))).take 16

/-- A REQUEST of this device, by its SEQ. DEDUCED (log 62). DEDUCED (log 63). -/
def State.request (s : State) (src : Nat) (sync : Bool) (seq : Nat) (ops : List (Nat × Nat)) : State :=
  let known := s.net.sources.find? (fun x => x.mac == src)
  let fresh := sync || (match known with
    | some x => x.expected == seq
    | none => false)
  if fresh then
    let x : ReqSource := match known with
      | some x => { x with expected := (seq + 1) % 65536 }
      | none => { mac := src, expected := (seq + 1) % 65536, len := 0, seq := seq, response := [] }
    let s := s.mapNet (fun n => { n with sources := useSource x n.sources })
    let bytes := responseBytes ops
    let q : ReqSt := if 1500 < bytes then
        { mac := src, seq := seq, len := 26 + 8 * ops.length, left := [], response := unapplied stTooBig ops }
      else { mac := src, seq := seq, len := 14 + bytes, left := ops, response := [] }
    (s.mapNet (fun n => { n with requests := n.requests ++ [q] })).settleRequests
  else match known with
    | some x =>
      if (seq + 1) % 65536 = x.expected then
        (s.mapNet (fun n => { n with sources := useSource x n.sources })).respond src x.seq x.len x.response
      else s.count NetCntSeq.count NetCntSeq.ovf 0
    | none => s.count NetCntSeq.count NetCntSeq.ovf 0

/-! ### The switch (R450 to R453) -/

/-- A frame leaves by the other port, of kind 16, or 18 where it is ended with an error code group. DEDUCED (log 61). -/
def State.passFrame (s : State) (k : Nat) (f : RingFrame) (hops : List Nat) : State :=
  let o := otherPort k
  let s := s.egress o 2 f.len (.ring o (if f.fcsOk && !f.errorEnd then 16 else 18) ([f.len, f.dst, f.src] ++ hops))
  if f.fcsOk && !f.errorEnd then s else s.count NetCntFwdErr.count NetCntFwdErr.ovf 0

/-- Transparent clock (R466): the residence time of an event message is added; in P2P, Pdelay messages end at the port. -/
def State.passPtp (s : State) (k : Nat) (event : Bool) (kind len : Nat) : State :=
  let o := otherPort k
  let p2p := s.flag PtpCtrl.delayMech 0
  if s.blocked k then s
  else if s.flag PtpCtrl.tcEn 0 then
    if p2p ∧ (kind = 2 ∨ kind = 3 ∨ kind = 0xA) then s
    else if event then
      let link : Int := if p2p ∧ kind = 0 then s.ptp.linkDelay.getD k 0 * 65536 else 0
      (s.nextOpen).egress o 2 len (.ptp o kind [unsign 64 (Int.ofNat (s.openValue 32) + link)])
    else s.egress o 2 len (.ptp o kind [0])
  else s.egress o 2 len (.ptp o kind [0])

/-- A frame received on a ring port. -/
def State.receiveFrame (s : State) (k : Nat) (f : RingFrame) : State :=
  let good := f.fcsOk && !f.errorEnd
  if 1518 < f.len then s.count NetCntDrop.count NetCntDrop.ovf 0
  else if f.pause then s
  else match f.body with
    | .ring opc node bcast hops origin data =>
      if ¬good then (if hops = 0 ∨ origin = s.mac ∨ s.blocked k then s else s.passFrame k f [hops - 1])
      else if opc = opcLinkDown then s.ringLinkDown k hops origin
      else if opc = opcReset then s.ringReset k node bcast hops origin data.toNat
      else s.passRing k opc node bcast hops origin data.toNat
    | body =>
      if s.blocked k then s
      else match body with
        | .request node bcast sync hops seq ops =>
          if bcast then s
          else if (f.dst = s.mac ∨ f.dst = broadcastMac) ∧ node = s.nodeId then
            (if good then s.request f.src sync seq ops else s)
          else if hops = 0 then s.count NetCntHops.count NetCntHops.ovf 0
          else s.passFrame k f [hops - 1]
        | .other _ hops => s.passFrame k f [hops - 1]
        | .ptp event kind => if good then s.passPtp k event kind f.len else s.passFrame k f []
        | _ => s.passFrame k f []

def execFrameForward (port : Fin 2) (f : RingFrame) (s : State) : Ans := .next (s.receiveFrame port.val f)

end Sys2Proof.Machine
end

