-- ==== Sys2Proof/Machine/Ptp.lean ====
section
/-!
DEFINITION. The PTP clock, timed launch and cross-stamping (spec/19_ring_and_time.md, R465 to R474).
-/
namespace Sys2Proof.Machine

def State.mapPtp (s : State) (f : PtpSt → PtpSt) : State := { s with ptp := f s.ptp }

def State.clockState (s : State) : Nat := s.get PtpStat.state 0

def ckFree : Nat := 0
def ckAcquire : Nat := 1
def ckLocked : Nat := 2
def ckHoldover : Nat := 3
def ckMaster : Nat := 4

/-- A timestamp at a port: within 1 ns of the true instant, with the asymmetry of the port (R467). DEDUCED (log 65). -/
def State.stampAt (s : State) (port : Nat) : Int :=
  Int.ofNat s.ptp.ns + signed 16 (s.get PtpAsym.ns port) + Int.ofNat (s.openValue 2 % 3) - 1

def State.ofDomain (s : State) (d : Nat) : Bool := d == s.get PtpCtrl.domain 0

def State.p2p (s : State) : Bool := s.flag PtpCtrl.delayMech 0

/-! ### Increments, steps and settings (R468) -/

/-- INT is 7 or 8, and the increment lies within 500 ppm of 8.0 ns. -/
def incOk (int frac : Nat) : Bool :=
  let v := int * 2 ^ 32 + frac
  (int == 7 || int == 8) && decide ((8 * 2 ^ 32 : Nat) * 999500 ≤ v * 1000000 ∧ v * 1000000 ≤ (8 * 2 ^ 32 : Nat) * 1000500)

/-- The increment of the registers takes effect at the next NT cycle. -/
def State.commitInc (s : State) : State :=
  s.mapPtp (fun p => { p with incDue := some (s.get PtpIncInt.ns 0 * 2 ^ 32 + s.get PtpIncFrac.v 0) })

/-- In HOST mode the increment waits for PTP_HOST_SEQ (R469). -/
def State.writePtpInc (s : State) (value : Word) : State :=
  if incOk (PtpIncInt.ns.of value) (s.get PtpIncFrac.v 0) then
    let s := s.put PtpIncInt.ns 0 (PtpIncInt.ns.of value)
    if s.get PtpCtrl.mode 0 = 1 then s else s.commitInc
  else s

def execPtpIncInt (value : Word) (s : State) : Ans := .next (s.writePtpInc value)

/-- The time is stepped. -/
def State.ptpStepped (s : State) : State :=
  ((s.mapPtp (fun p => { p with stepped := true })).put PtpStat.stepped 0 1).record .ptpStep 0 []

def State.stepBy (s : State) (d : Int) : State := (s.mapPtp (fun p => { p with adjDue := some (p.adjDue.getD 0 + d) })).ptpStepped

def execPtpAdj (value : Word) (s : State) : Ans := .next (s.stepBy (signed 32 value.toNat))

def State.writePtpSet (s : State) (value : Word) : State :=
  let s := s.storeWord .ptpSetNs 0 value
  let v := s.get64 PtpSetSecLo.v PtpSetSecHi.v 0 * 1000000000 + s.get PtpSetNs.v 0
  (s.mapPtp (fun p => { p with setDue := some v, adjDue := none })).ptpStepped

def execPtpSet (value : Word) (s : State) : Ans := .next (s.writePtpSet value)

/-- One NT cycle. -/
def State.ptpCycle (s : State) : State :=
  let p := s.ptp
  let inc := p.incDue.getD p.inc
  let f := p.frac + inc
  let ns := (match p.setDue with
    | some v => v
    | none => p.ns + f / 2 ^ 32)
  let ns := (Int.ofNat ns + p.adjDue.getD 0).toNat
  s.mapPtp (fun p => { p with inc := inc, incDue := none, adjDue := none, setDue := none, ns := ns, frac := f % 2 ^ 32 })

/-! ### The servo (R469) -/

/-- The increment the firmware servo writes; the rule does not say which, only that it is one that R468 takes. -/
def State.servoInc (s : State) : State :=
  let v := (8 * 2 ^ 32 * 9995 + 9999) / 10000 + s.openValue 64 % (8 * 2 ^ 32 / 1000 - 1)
  (((s.nextOpen).put PtpIncInt.ns 0 (v / 2 ^ 32)).put PtpIncFrac.v 0 (v % 2 ^ 32)).commitInc

/-- Sixteen offsets in a row within the threshold lock the clock. -/
def State.judgeLock (s : State) (ofs : Int) : State :=
  let run := if ofs.natAbs < s.get PtpLockNs.v 0 then s.ptp.lockRun + 1 else 0
  let s := s.mapPtp (fun p => { p with lockRun := run })
  if 16 ≤ run ∧ s.clockState = ckAcquire then (s.put PtpStat.state 0 ckLocked).mapPtp (fun p => { p with heldOver := false }) else s

/-- One measurement: origin, and ingress less the correction. A standby posts nothing (R518). -/
def State.measure (s : State) (port : Nat) (t1 : Nat) (t2 : Int) : State :=
  let delay := if s.p2p then s.ptp.linkDelay.getD port 0 else s.ptp.delay
  let ofs := t2 - Int.ofNat t1 - delay
  let s := (s.mapPtp (fun p => { p with sync := some (t1, t2), syncWait := none })).judgeLock ofs
  if s.get PtpCtrl.mode 0 = 1 ∧ s.role = roleStandby then s
  else if s.get PtpCtrl.mode 0 = 1 then
    (((s.putInt PtpMeasOfs.v 0 ofs).putInt PtpMeasDly.v 0 delay).bump PtpMeasSeq.seq 0).mapPtp (fun p => { p with answered := false })
  else if ¬s.spUp 3 then s
  else if s.get PtpStepNs.v 0 < ofs.natAbs then s.stepBy (-ofs)
  else s.servoInc

/-- The host's commit: only for the latest measurement. -/
def State.writePtpHostSeq (s : State) (value : Word) : State :=
  if s.get PtpCtrl.mode 0 = 1 ∧ PtpHostSeq.seq.of value = s.get PtpMeasSeq.seq 0 ∧ s.ptp.answered = false ∧
      s.role ≠ roleStandby then
    s.commitInc.mapPtp (fun p => { p with answered := true })
  else s

def execPtpHostSeq (value : Word) (s : State) : Ans := .next (s.writePtpHostSeq value)

/-- The next Sync is the host's deadline. -/
def State.hostDeadline (s : State) : State :=
  if s.get PtpCtrl.mode 0 = 1 ∧ s.ptp.answered = false ∧ s.role ≠ roleStandby then
    (s.record .ptpHostMiss 0 []).mapPtp (fun p => { p with answered := true })
  else s

/-! ### Messages (R465, R466); kinds are messageType of IEEE 1588 -/

def ptpLen : Nat := 68

/-- A message with this clock as its sender. -/
def State.sendPtp (s : State) (port kind : Nat) (args : List Nat) : State :=
  s.egress port 3 ptpLen (.ptp port kind (s.mac :: s.get PtpCtrl.domain 0 :: args))

/-- Pdelay_Req out of both ports. -/
def State.askPeers (s : State) : State :=
  (List.range 2).foldl (fun t k =>
    let q := t.ptp.txSeq
    (t.nextOpen.sendPtp k 2 [q]).mapPtp (fun p => { p with txSeq := (q + 1) % 65536, pdelay := p.pdelay.set k (q, (t.stampAt k).toNat, none) })) s

/-- The delay is asked for after each Sync, by the mechanism of PTP_CTRL.DELAY_MECH. PRESUMED (log 64). -/
def State.askDelay (s : State) (port : Nat) : State :=
  if s.p2p then s.askPeers
  else
    let q := s.ptp.txSeq
    (s.nextOpen.sendPtp port 1 [q]).mapPtp (fun p => { p with txSeq := (q + 1) % 65536, delayReq := some (q, (s.stampAt port).toNat) })

/-- A message of the master this clock follows. -/
def State.fromMaster (s : State) (m : PtpMsg) : Bool :=
  s.ofDomain m.domain && (match s.ptp.master with
    | some x => x.source == m.source && x.port == m.port.val
    | none => false) && (s.clockState == ckAcquire || s.clockState == ckLocked)

def State.ptpSync (s : State) (m : PtpMsg) : State :=
  let k := m.port.val
  let s := s.passPtp k true 0 ptpLen
  if s.blocked k ∨ s.fromMaster m = false then s
  else
    let t2 := s.stampAt k
    let s := s.nextOpen.hostDeadline
    if m.twoStep then s.mapPtp (fun p => { p with syncWait := some (m.seqId, t2.toNat, m.correction) })
    else (s.measure k m.time (t2 - m.correction / 65536)).askDelay k

def execPtpSync (m : PtpMsg) (s : State) : Ans := .next (s.ptpSync m)

def State.ptpFollowUp (s : State) (m : PtpMsg) : State :=
  let k := m.port.val
  let s := s.passPtp k false 8 ptpLen
  if s.blocked k ∨ s.fromMaster m = false then s
  else match s.ptp.syncWait with
    | some (q, t2, c) =>
      if q = m.seqId then (s.measure k m.time (Int.ofNat t2 - (c + m.correction) / 65536)).askDelay k else s
    | none => s

def execPtpFollowUp (m : PtpMsg) (s : State) : Ans := .next (s.ptpFollowUp m)

/-- A master answers with the time of receipt. -/
def State.ptpDelayReq (s : State) (m : PtpMsg) : State :=
  let k := m.port.val
  let s := s.passPtp k true 1 ptpLen
  if s.blocked k ∨ s.clockState ≠ ckMaster ∨ s.p2p ∨ s.ofDomain m.domain = false then s
  else (s.nextOpen).sendPtp k 9 [m.seqId, m.source, (s.stampAt k).toNat, unsign 64 m.correction]

def execPtpDelayReq (m : PtpMsg) (s : State) : Ans := .next (s.ptpDelayReq m)

def State.ptpDelayResp (s : State) (m : PtpMsg) : State :=
  let k := m.port.val
  let s := s.passPtp k false 9 ptpLen
  if s.blocked k ∨ s.fromMaster m = false ∨ m.mine = false ∨ s.p2p then s
  else match s.ptp.delayReq, s.ptp.sync with
    | some (q, t3), some (t1, t2) =>
      if q = m.seqId then
        let d := ((t2 - Int.ofNat t3) + (Int.ofNat m.time - m.correction / 65536 - Int.ofNat t1)) / 2
        s.mapPtp (fun p => { p with delay := d, delayReq := none })
      else s
    | _, _ => s

def execPtpDelayResp (m : PtpMsg) (s : State) : Ans := .next (s.ptpDelayResp m)

/-- In P2P the port answers one-step, with the turnaround time in correctionField. -/
def State.ptpPdelayReq (s : State) (m : PtpMsg) : State :=
  let k := m.port.val
  let s := s.passPtp k true 2 ptpLen
  if s.p2p ∧ ¬s.blocked k then (s.nextOpen).sendPtp k 3 [m.seqId, m.source, s.openValue 64] else s

def execPtpPdelayReq (m : PtpMsg) (s : State) : Ans := .next (s.ptpPdelayReq m)

def State.setLinkDelay (s : State) (k : Nat) (d : Int) : State :=
  s.mapPtp (fun p => { p with linkDelay := p.linkDelay.set k d, pdelay := p.pdelay.set k (0, 0, none) })

/-- A one-step response completes the measurement; a two-step one waits for its Follow_Up. -/
def State.ptpPdelayResp (s : State) (m : PtpMsg) : State :=
  let k := m.port.val
  let s := s.passPtp k true 3 ptpLen
  let e := s.ptp.pdelay.getD k (0, 0, none)
  if s.p2p = false ∨ s.blocked k ∨ m.mine = false ∨ e.1 ≠ m.seqId then s
  else
    let t4 := s.stampAt k
    let s := s.nextOpen
    if m.twoStep then s.mapPtp (fun p => { p with pdelay := p.pdelay.set k (e.1, e.2.1, some (m.time, (t4 - m.correction / 65536).toNat)) })
    else s.setLinkDelay k ((t4 - Int.ofNat e.2.1 - m.correction / 65536) / 2)

def execPtpPdelayResp (m : PtpMsg) (s : State) : Ans := .next (s.ptpPdelayResp m)

def State.ptpPdelayFollowUp (s : State) (m : PtpMsg) : State :=
  let k := m.port.val
  let s := s.passPtp k false 0xA ptpLen
  match s.ptp.pdelay.getD k (0, 0, none) with
  | (q, t1, some (t2, t4)) =>
    if s.p2p = false ∨ s.blocked k ∨ m.mine = false ∨ q ≠ m.seqId then s
    else s.setLinkDelay k ((Int.ofNat t4 - Int.ofNat t1 - (Int.ofNat m.time - Int.ofNat t2) - m.correction / 65536) / 2)
  | _ => s

def execPtpPdelayRespFollowUp (m : PtpMsg) (s : State) : Ans := .next (s.ptpPdelayFollowUp m)

/-! ### Best master clock (R465, R470, Table 19-3) -/

/-- This clock's dataset. DESIGN CHOICE (log 9). -/
def State.ownDataset (s : State) : List Nat :=
  [s.get PtpPrio.prio1 0, if s.ptp.heldOver then s.get PtpPrio.holdClass 0 else s.get PtpPrio.class_ 0, Config.ptpAccuracy,
    Config.ptpVariance, s.get PtpPrio.prio2 0, s.mac]

/-- The first dataset is better: by steps where both name one grandmaster. -/
def betterMaster (a b : PtpMaster) : Bool :=
  if a.data.getLast? = b.data.getLast? then decide (a.steps < b.steps) else lexLess a.data b.data

/-- A master is selected. -/
def State.follow (s : State) (m : PtpMaster) : State :=
  let same : Bool := match s.ptp.master with
    | some x => x.source == m.source && x.port == m.port
    | none => false
  let s := s.mapPtp (fun p => { p with master := some m })
  if same ∧ (s.clockState = ckAcquire ∨ s.clockState = ckLocked) then s
  else (s.put PtpStat.state 0 ckAcquire).mapPtp (fun p =>
    { p with lockRun := 0, syncWait := none, sync := none, delayReq := none, answered := true, holdAt := none })

/-- The algorithm selects this clock. -/
def State.beMaster (s : State) : State :=
  (s.put PtpStat.state 0 ckMaster).mapPtp (fun p => { p with master := none, lockRun := 0, syncWait := none, holdAt := none })

/-- Announce interval in 2 ns units; the intervals of 4 in which two Announce messages qualify a sender (IEEE 1588). -/
def State.announceInterval (s : State) : Nat := us (1000000 * 2 ^ s.get PtpCtrl.logAnn 0)

/-- PRESUMED (log 64). -/
def State.ptpAnnounce (s : State) (m : PtpAnnounce) : State :=
  let k := m.port.val
  let s := s.passPtp k false 0xB ptpLen
  if s.blocked k ∨ s.ofDomain m.domain = false ∨ m.source = s.mac ∨ 255 ≤ m.steps then s
  else
    let heard := s.ptp.foreign.any (fun x => x.1 == m.source && decide (s.now ≤ x.2 + 4 * s.announceInterval))
    let s := s.mapPtp (fun p => { p with foreign := (m.source, s.now) :: p.foreign.filter (fun x => !(x.1 == m.source)) })
    let c : PtpMaster := { data := m.dataset, steps := m.steps, source := m.source, port := k }
    let own : PtpMaster := { data := s.ownDataset, steps := 0, source := s.mac, port := 0 }
    let current : Bool := match s.ptp.master with
      | some x => x.source == m.source && x.port == k
      | none => false
    if ¬heard ∧ ¬current then s
    else
      let best := match s.ptp.master with
        | some x => if current ∨ betterMaster c x then c else x
        | none => c
      if s.flag PtpCtrl.masterEn 0 ∧ betterMaster own best then s.beMaster else s.follow best

def execPtpAnnounce (m : PtpAnnounce) (s : State) : Ans := .next (s.ptpAnnounce m)

/-- HOLDOVER: the clock runs on at the last increment. -/
def State.holdover (s : State) : State :=
  (((s.put PtpStat.state 0 ckHoldover).put PtpStat.holdSeen 0 1).mapPtp (fun p =>
    { p with master := none, syncWait := none, lockRun := 0, holdAt := some s.now, heldOver := true })).record .ptpHoldover 0 []

/-- No master is heard: a clock that follows one holds over; another that may be master becomes it. PRESUMED (log 64). -/
def State.announceTimeout (s : State) : State :=
  if s.clockState = ckAcquire ∨ s.clockState = ckLocked then s.holdover
  else if s.flag PtpCtrl.masterEn 0 then s.beMaster
  else s

def execPtpAnnounceTimeout (s : State) : Ans := .next s.announceTimeout

def execPtpSyncTimeout (s : State) : Ans :=
  .next (if s.clockState = ckAcquire ∨ s.clockState = ckLocked then s.holdover else s)

/-- A master's Sync, its originTimestamp inserted; Announce with its dataset at its own interval. PRESUMED (log 64). -/
def State.ptpSyncSend (s : State) : State :=
  if s.clockState ≠ ckMaster then s
  else
    let q := s.ptp.txSeq
    let s := (List.range 2).foldl (fun t k => (t.nextOpen).sendPtp k 0 [q, (t.stampAt k).toNat]) s
    let s := s.mapPtp (fun p => { p with txSeq := (q + 1) % 65536 })
    let s := if s.p2p then s.askPeers else s
    if q % 2 ^ (s.get PtpCtrl.syncRate 0 + s.get PtpCtrl.logAnn 0) = 0 then
      (List.range 2).foldl (fun t k => t.sendPtp k 0xB t.ownDataset) s
    else s

def execPtpSyncSend (s : State) : Ans := .next s.ptpSyncSend

/-! ### Timed launch (R471, R472) -/

def tlIdle : Nat := 0
def tlArmed : Nat := 1
def tlSent : Nat := 2
def tlLate : Nat := 3
def tlDelayed : Nat := 4
def tlBlocked : Nat := 5
def tlNoLink : Nat := 6

/-- ARM with a length outside 60 to 1,514 is ignored; less than 13 µs ahead is LATE. -/
def State.writeTlCtrl (s : State) (t : Nat) (value : Word) : State :=
  let s := s.storeWord .tlCtrl t value
  let len := s.get TlCtrl.len t
  let s := if TlCtrl.arm.of value = 1 ∧ 60 ≤ len ∧ len ≤ 1514 then
      s.put TlCtrl.state t (if s.launchNs t < s.ptp.ns + 13000 then tlLate else tlArmed)
    else s
  if TlCtrl.cancel.of value = 1 ∧ s.get TlCtrl.state t = tlArmed then s.put TlCtrl.state t tlIdle else s

def execTlArm (t : Fin 16) (value : Word) (s : State) : Ans := .next (s.writeTlCtrl t.val value)

def execTlCancel (t : Fin 16) (value : Word) (s : State) : Ans := .next (s.writeTlCtrl t.val value)

/-- Byte b of the frame in an entry's buffer. -/
def State.tlByte (s : State) (t b : Nat) : Nat := s.get TlBuf.v (512 * t + b / 4) / 256 ^ (b % 4) % 256

/-- The frame is a PTP event message: EtherType 0x88F7, messageType 0 to 3. -/
def State.tlEvent (s : State) (t : Nat) : Bool := s.tlByte t 12 == 0x88 && s.tlByte t 13 == 0xF7 && decide (s.tlByte t 14 % 16 < 4)

/-- The frame leaves one port: at the launch instant within 8 ns, or behind a launch frame that is leaving. DEDUCED (log 65). -/
def State.launchOn (s : State) (t k : Nat) : State :=
  if s.blocked k then s.put TlCtrl.state t tlBlocked
  else if ¬s.portUp k then s.put TlCtrl.state t tlNoLink
  else
    let until_ := s.net.launching.getD k 0
    let wait := if s.now < until_ then 2 * (until_ - s.now) else 0
    let dep := s.launchNs t + wait + s.openValue 8 % 17 - 8
    let len := s.get TlCtrl.len t
    let words := (List.range ((len + 3) / 4)).map (fun i => s.get TlBuf.v (512 * t + i))
    let s := (s.nextOpen).egress k 0 (len + 4) (.ring k 17 ([len, boolArg (s.tlEvent t), dep] ++ words))
    let s := s.mapNet (fun n => { n with launching := n.launching.set k (max s.now until_ + wireTime (len + 4)) })
    let s := (s.put64 TlDepSecLo.v TlDepSecHi.v t (dep / 1000000000)).put TlDepNs.v t (dep % 1000000000)
    if s.get TlCtrl.state t = tlArmed ∨ s.get TlCtrl.state t = tlSent then s.put TlCtrl.state t (if wait = 0 then tlSent else tlDelayed)
    else s

def execTimedLaunch (t : Fin 16) (s : State) : Ans :=
  .next (if s.get TlCtrl.state t.val = tlArmed then
      let m := s.get TlCtrl.ports t.val
      let s := if m % 2 = 1 then s.launchOn t.val 0 else s
      let s := if m / 2 = 1 then s.launchOn t.val 1 else s
      if m = 0 then s.put TlCtrl.state t.val tlSent else s
    else s)

/-! ### Cross-stamping (R473, R474) -/

/-- DEDUCED (log 65). -/
def State.crossStamp (s : State) : State :=
  let at_ := s.ft / 500000 * 500000
  let old := s.stampPtp false
  let oldFt := s.get64 PtpXsFtLo.v PtpXsFtHi.v 0
  let new := (s.ptp.ns * 65536 + s.ptp.frac / 65536 + s.openValue 20 % 524289) - 262144
  let s := s.nextOpen
  let s := (s.put64 PtpXs1FtLo.v PtpXs1FtHi.v 0 oldFt).put64 PtpXs1SecLo.v PtpXs1SecHi.v 0 (s.get64 PtpXsSecLo.v PtpXsSecHi.v 0)
  let s := ((s.put PtpXs1Ns.v 0 (s.get PtpXsNs.v 0)).put PtpXs1Frac.frac 0 (s.get PtpXsFrac.frac 0)).put PtpXs1Frac.step 0
    (s.get PtpXsFrac.step 0)
  let ns := new / 65536
  let s := (s.put64 PtpXsFtLo.v PtpXsFtHi.v 0 at_).put64 PtpXsSecLo.v PtpXsSecHi.v 0 (ns / 1000000000)
  let s := ((s.put PtpXsNs.v 0 (ns % 1000000000)).put PtpXsFrac.frac 0 (new % 65536)).put PtpXsFrac.step 0 (boolArg s.ptp.stepped)
  let rate := if s.ptp.stepped = false ∧ old ≠ 0 ∧ oldFt < at_ then (new - old, at_ - oldFt) else s.ptp.rate
  s.mapPtp (fun p => { p with rate := rate, stepped := false })

/-- FT time runs while FT is qualified. -/
def execCrossStamp (s : State) : Ans := .next (if s.rst.qualified.getD 0 false then s.crossStamp else s)

end Sys2Proof.Machine
end

