-- ==== Sys2Proof/Machine/Twin.lean ====
section
/-!
DEFINITION. Roles, supervision, journal, cairns, rejoining, hidden faults and takeover as the col link's messages and timers bring
them about (spec/18_twin_operation.md; R87 to R89; R137).
-/
namespace Sys2Proof.Machine

/-! ### Roles (R426 to R428) -/

/-- UNFIT without NOT_RUN, CAIRN_STALE and RESYNC, which do not count for the decision at start. -/
def startMask (m : Nat) : Nat := m &&& (2 ^ 11 - 1 - (2 ^ unfitNotRun + 2 ^ unfitCairnStale + 2 ^ unfitResync))

/-- No bit but DEGRADED, WARN, PAGES and LANES. -/
def tolerable (m : Nat) : Bool := startMask m &&& (2 ^ 11 - 1 - (2 ^ unfitDegraded + 2 ^ unfitWarn + 2 ^ unfitPages + 2 ^ unfitLanes)) == 0

/-- Preference 1 is stronger than 0, and 0 than 2. -/
def prefRank (p : Nat) : Nat := if p = 1 then 2 else if p = 0 then 1 else 0

/-- Rule 3 between this twin and its partner: none where preferences and node IDs are equal. -/
def ruleThree (pref node ppref pnode : Nat) : Option Bool :=
  if prefRank pref ≠ prefRank ppref then some (decide (prefRank ppref < prefRank pref))
  else if node ≠ pnode then some (decide (node < pnode))
  else none

/-- The two twins: preference and node ID. -/
def State.prefs (s : State) : Nat × Nat × Nat × Nat :=
  let p := s.twin.partner.getD []
  match s.img.ob with
  | some o => (o.twinPref, o.nodeId, p.getD 2 0, p.getD 3 0)
  | none => (0, 0, p.getD 2 0, p.getD 3 0)

/-- ACTIVE is taken at the start. -/
def State.becomeActive (s : State) (unfit : Bool) : State :=
  let s := s.takeActive
  (if unfit then s.record .twActiveUnfit 0 [] else s).roleDecided

def State.becomeStandby (s : State) : State := ((s.put TwStat.role 0 roleStandby).startRejoin.syncPorts).roleDecided

/-- The partner is heard, and this twin negotiates. -/
def State.negotiating (s : State) : Bool :=
  s.role == roleNone && s.twin.step8.isSome && !s.solo && s.twin.partner.isSome && s.flag TwStat.partnerOk 0

/-- R426, but for the end of PARTNER_WAIT. -/
def State.decideRole (s : State) : State :=
  if ¬s.negotiating then s
  else
    let p := s.twin.partner.getD []
    let mine := startMask (s.get TwStat.unfit 0)
    let theirs := startMask (p.getD 4 0)
    let q := s.prefs
    if p.getD 0 0 = roleActive then s.becomeStandby
    else if mine = 0 ∧ theirs ≠ 0 then s.becomeActive false
    else if mine ≠ 0 ∧ theirs = 0 then s
    else if mine = 0 then
      match ruleThree q.1 q.2.1 q.2.2.1 q.2.2.2 with
      | some b => if b then s.becomeActive false else s
      | none => if s.twin.clash then s else (s.mapTwin (fun t => { t with clash := true })).record .twIdClash 0 []
    else if s.twin.noneFit then s
    else (s.mapTwin (fun t => { t with noneFit := true })).record .twNoneFit 0 []

/-- Rule 4 after PARTNER_WAIT: rule 3 between the twins that are tolerably unfit. -/
def State.decideUnfit (s : State) : State :=
  let p := s.twin.partner.getD []
  let q := s.prefs
  let mine := s.get TwStat.unfit 0
  if startMask mine = 0 ∨ startMask (p.getD 4 0) = 0 ∨ p.getD 0 0 = roleActive then s.decideRole
  else if ¬tolerable mine then s
  else if ¬tolerable (p.getD 4 0) then s.becomeActive true
  else match ruleThree q.1 q.2.1 q.2.2.1 q.2.2.2 with
    | some b => if b then s.becomeActive true else s
    | none => s

/-- A page that was being printed before an L1 reset closes ABORTED where no partner printed it (R137). -/
def State.closeOpen (s : State) : State :=
  if s.rst.psKept then
    { s with pages := s.pages.map (fun (p : Page) => if p.scheduled && !p.closed then p.close 4 11 else p),
             rst := { s.rst with psKept := false } }
  else s

/-- R427: alone after PARTNER_WAIT. `fenceLow`: the fence input was low within 4 microseconds of pulling the fence. -/
def State.partnerWait (s : State) (fenceLow : Bool) : State :=
  if s.role ≠ roleNone ∨ s.twin.step8.isNone ∨ s.solo then s
  else if s.negotiating then s.decideUnfit
  else
    let s := s.closeOpen
    let m := s.get TwStat.unfit 0
    if ¬tolerable m then s
    else if fenceLow ∨ ¬s.pins.fenceInN then s.mapTwin (fun t => { t with retryAt := some s.now })
    else s.becomeActive (startMask m != 0)

/-- DESIGN CHOICE (log 4). -/
def execPartnerWaitExpiry (fenceLow : Bool) (s : State) : Ans := .next (s.partnerWait fenceLow)

/-! ### Heartbeats (R426, R440, R447) -/

/-- Fields of HEARTBEAT (Table 18-3). -/
def State.heartbeatArgs (s : State) : List Nat :=
  let q := s.prefs
  let cc := if s.acting then s.twin.acked.getD 0 else s.twin.applied.getD 0
  [s.role, s.get TwStat.epoch 0, q.1, q.2.1, s.get TwStat.unfit 0, s.ft, cc % 2 ^ 32, s.twin.lastLine.getD 0 % 2 ^ 32]

def execHeartbeatSend (s : State) : Ans :=
  .next (if s.twin.step8.isNone then s else (s.sendCol 1 s.heartbeatArgs).decideRole)

/-- Bytes of a band-ring line in DRAM: 65,536 columns of 4 bits (R190). -/
def BandLine.bytes (b : BandLine) : List Byte :=
  (List.range 32768).map (fun i => BitVec.ofNat 8 (Tab.get 0 b.codes (2 * i) + 16 * Tab.get 0 b.codes (2 * i + 1)))

/-- What a partner that begins to rejoin needs: the generations (R89) and the lines still to be fetched (R436).
DEDUCED (log 51). -/
def State.feedRejoin (s : State) : State :=
  let s := (s.sendGen 0 s.nmNewest).sendGen 1 s.ctbNewest
  let low := s.writerReach - s.depth
  let lines := (s.scr.ring.filter (fun e => decide (low ≤ e.2.line))).map (fun e => e.2)
  if lines = [] then s
  else s.queueCmx { owner := 1, level := 1, lb := 32768, perStripe := 256, input := lines.flatMap BandLine.bytes, dest := 0, tag := 0 }

/-- The partner's heartbeat shows that it has begun to rejoin. -/
def rejoining (h : List Nat) : Bool :=
  (h.getD 0 0 == roleStandby || h.getD 0 0 == roleFenced) && h.getD 4 0 / 2 ^ unfitResync % 2 == 1

/-- A partner that stands by with a cairn applied needs the fence no longer (R428). DEDUCED (log 52). -/
def State.partnerStands (s : State) (h : Heartbeat) : State :=
  if s.role = roleActive ∧ h.role = roleStandby ∧ h.cc ≠ 0 then (s.releaseFence).mapTwin (fun t => { t with alone := false }) else s

def State.heartbeat (s : State) (h : Heartbeat) : State :=
  let was := s.twin.partner.getD []
  let now_ := [h.role, h.epoch, h.pref, h.nodeId, h.unfit, h.ft, h.cc, h.line]
  let s := s.mapTwin (fun t => { t with partner := some now_, heardAt := s.now, misses := 0, partnerLost := false })
  let s := (((s.put TwStat.partnerOk 0 1).put TwPstat.role 0 h.role).put TwPstat.nodeId 0 h.nodeId).put TwPstat.unfit 0 h.unfit
  let s := (s.partnerStands h).decideRole
  if s.role = roleActive ∧ rejoining now_ = true ∧ rejoining was = false then s.feedRejoin else s

def execHeartbeat (rx : Rx) (seq : Nat) (h : Heartbeat) (s : State) : Ans :=
  let r := s.colAccept 1 seq rx
  .next (if r.1 then r.2.heartbeat h else r.2)

/-- MISS_N: 2 to 4, other values act as 2. -/
def State.missN (s : State) : Nat :=
  let n := s.get TwHb.missN 0
  if 2 ≤ n ∧ n ≤ 4 then n else 2

/-- The standby takes over, and everything enabled is driven (R441). A low fence input ends the takeover before it begins. -/
def State.takeRole (s : State) (cause : Nat) : State :=
  if s.role = roleStandby ∧ s.pins.fenceInN ∧ (cause = 1 ∨ s.get TwStat.unfit 0 = 0) then (s.takeover cause).driveAll else s

def State.heartbeatMiss (s : State) : State :=
  if s.twin.partner.isNone ∨ s.solo then s
  else
    let s := (s.mapTwin (fun t => { t with misses := t.misses + 1 })).count TwCntHbmiss.count TwCntHbmiss.ovf 0
    if s.twin.misses < s.missN then s
    else
      let s := s.put TwStat.partnerOk 0 0
      if s.role = roleStandby then (if s.flag TwCtrl.auto 0 then s.takeRole 1 else s)
      else if s.role = roleActive ∧ ¬s.twin.partnerLost then
        (s.mapTwin (fun t => { t with partnerLost := true })).record .twPartnerLost 0 []
      else s

/-- DESIGN CHOICE (log 4). -/
def execHeartbeatMiss (s : State) : Ans := .next s.heartbeatMiss

/-- R447: not fenced for SOLO_WAIT, the active fences its partner and sends records alone. DESIGN CHOICE (log 4). -/
def execSoloWaitExpiry (s : State) : Ans :=
  .next (if s.role = roleActive ∧ s.twin.partnerLost ∧ s.pins.fenceInN then
      ((({ s with pins := { s.pins with fenceN := false } }).put TwStat.fenceOut 0 1).mapTwin (fun t => { t with alone := true })).completion
    else s)

/-! ### Fault reports and planned takeovers (R444, R445) -/

def execFault (rx : Rx) (seq _level _source : Nat) (s : State) : Ans :=
  let r := s.colAccept 2 seq rx
  .next (if r.1 then r.2.takeRole 2 else r.2)

/-- DESIGN CHOICE (log 4). -/
def execFaultHoldExpiry (s : State) : Ans := .next s.faultDue

/-- A write of TW_CMD. DEDUCED (log 12). -/
def State.writeTwCmd (s : State) (value : Word) : State :=
  if keyOk value ∧ TwCmd.plan.of value = 1 then s.requestPlan (TwCmd.pageBound.of value == 1) else s

def execTwCmdPlan (value : Word) (s : State) : Ans := .next (s.writeTwCmd value)

/-- An axis still moves and is waited for, at most 100 ms. DEDUCED (log 53). -/
def State.axesWaited (s : State) (since : Nat) : Bool :=
  s.flag TwCtrl.planAxwait 0 && s.mot.axes.any (fun x => x.v != 0) && decide (s.now - since < us 100000)

/-- ROLE HANDOVER: th, and the last line stamped of each port (Table 18-5). -/
def State.handover (s : State) : State :=
  let lines := (List.range 128).map (fun p => (Tab.get 0 s.fpe.stamped p - 1) % 2 ^ 32)
  (s.mapTwin (fun t => { t with plan := none, handed := some s.now })).sendCol 3 ([2, s.ft] ++ lines)

/-- DEDUCED (log 53). -/
def execPlanWaitEnd (s : State) : Ans :=
  .next (match s.twin.plan with
    | some (false, since) => if s.role = roleActive ∧ s.axesWaited since = false then s.handover else s
    | _ => s)

/-- The standby takes over and stamps each port from the line after the one named: no stamp moves. -/
def execHandover (rx : Rx) (seq _th : Nat) (lines : List Nat) (s : State) : Ans :=
  let r := s.colAccept 3 seq rx
  .next (if r.1 ∧ r.2.role = roleStandby then
      let s := r.2.takeRole 3
      if s.role = roleActive then
        let st := fun (f : FpeSt) => (List.range 128).foldl (fun t p => Tab.insert p (lines.getD p 0 + 1) t) f.stamped
        (s.mapFpe (fun f => { f with base := none, stamped := st f })).mapTwin
          (fun t => { t with pacing := none })
      else s
    else r.2)

def execTwPlanFail (s : State) : Ans :=
  .next (if s.twin.handed.isSome ∧ s.role = roleActive then (s.mapTwin (fun t => { t with handed := none })).record .twPlanFail 0 [] else s)

def execOffer (rx : Rx) (seq _role : Nat) (s : State) : Ans :=
  let r := s.colAccept 3 seq rx
  .next (if r.1 then r.2.decideRole else r.2)

def execResign (rx : Rx) (seq _reason : Nat) (s : State) : Ans :=
  let r := s.colAccept 3 seq rx
  .next (if r.1 then r.2.decideRole else r.2)

/-! ### Journal (R432) -/

/-- The standby or a fenced twin that rejoins. DEDUCED (log 50). -/
def State.follows (s : State) : Bool := s.role == roleStandby || s.role == roleFenced

/-- A scheduling that took effect: the page is placed as the active placed it; a page that is missing makes the twin unfit (R141).
DEDUCED (log 56). -/
def State.copySched (s : State) (j : JournalSched) : State :=
  match s.page j.pseq with
  | none => s.setUnfit unfitPages true
  | some p => s.place j.pseq j.first j.nmGen j.ctbGen (p.groups.any (fun g => p.desc.plan.getD g 0 == 2 && j.plan.getD g 0 == 1))

/-- A withdrawal begins or ends at web line N. -/
def State.copyWd (s : State) (N : Nat) (w : Nat × Bool × Nat) : State :=
  let l := s.withdrawals w.1
  if w.2.1 then (if s.wdOpen w.1 then s else s.setWd w.1 (⟨N, none, [], s.ff.next⟩ :: l))
  else match l with
    | x :: rest => if x.w1.isNone then s.setWd w.1 ({ x with w1 := some N } :: rest) else s
    | [] => s

/-- The overspeed decision for N. -/
def State.copyDecision (s : State) (N : Nat) (d : JournalDec) : State :=
  let due := s.portsInUse.filter (fun p => s.sites p N != [])
  let sites := due.flatMap (fun p => s.sites p N)
  let s := s.mapFpe (fun f => { f with
    decided := max f.decided (N + 1),
    dueLog := (due.map (fun p => (N, p)) ++ f.dueLog).filter (fun e => decide (N < e.1 + 4096)) })
  let s := s.screeQuiet 255
  let tw := (s.predict (256 * N)).getD (s.ft * 256)
  let ds := due.filter (fun p => !s.wdOpen p)
  let s := s.dateRecord N tw
  match d with
  | .fired => (s.setLast ds tw).setDecision N (.fire 0)
  | .paced late => ((s.setLast ds (tw + late)).setLag late).setDecision N (.fire late)
  | .skipped => s.skipLine N sites
  | .blanked =>
    let s := match s.pageOfLine N with
      | some x => if s.fpe.blankPage = some x.1.pseq then s else s.blankForSpeed x.1 sites
      | none => s
    s.setDecision N .blank

/-- Why the entry's frames are blank: gate, coast, overspeed. -/
def journalCause (j : JournalEntry) : Nat :=
  if j.gate then 10 else if j.coast then 9 else if j.dec = .blanked then 8 else 0

/-- The shadow frame of a port: 1 a frame, 2 a LATE frame, 0 none. -/
def State.shadowFrame (s : State) (j : JournalEntry) (p : Nat) : State :=
  let k := (j.ports.getD p (0, 0)).1
  let l := s.sites p j.line
  if k = 0 ∨ l = [] then { s with ff := { s.ff with next := Tab.insert p (j.line + 1) s.ff.next } }
  else s.build p j.line (if k = 2 then 0 else journalCause j) (k == 2) false l

/-- Frames that have been journaled wait for the comparison; ACKs that came first are compared at once (R437). -/
def State.awaitCompare (s : State) (j : JournalEntry) : State :=
  let ports := ((List.range 128).filter (fun p => (j.ports.getD p (0, 0)).1 != 0)).map (fun p => (p, (j.ports.getD p (0, 0)).2))
  if ports = [] then s
  else
    let s := s.mapTwin (fun t => { t with journal := t.journal ++ [(j.line, ports)] })
    let s := s.put JnlBacklog.v 0 (min 65535 s.twin.journal.length)
    let early := s.twin.earlyAcks.filter (fun e => e.2.1 == j.line)
    let s := s.mapTwin (fun t => { t with earlyAcks := t.earlyAcks.filter (fun e => e.2.1 != j.line) })
    early.foldl (fun t e => t.compareFrame e.1 j.line (some e.2.2)) s

def State.applyJournal (s : State) (j : JournalEntry) : State :=
  let s := j.scheds.foldl (fun t x => t.copySched x) s
  let s := match j.abort with
    | some held => s.abortPages held
    | none => s
  let s := j.withdrawals.foldl (fun t w => t.copyWd j.line w) s
  let s := s.copyDecision j.line j.dec
  let s := if j.dec = .skipped then s else (List.range 128).foldl (fun t p => t.shadowFrame j p) s
  (s.mapTwin (fun t => { t with lastLine := some j.line })).awaitCompare j

def execJournal (rx : Rx) (seq : Nat) (j : JournalEntry) (s : State) : Ans :=
  let r := s.colAccept 4 seq rx
  .next (if r.1 ∧ r.2.follows then r.2.applyJournal j else r.2)

/-! ### Cairns (R433) -/

/-- CC of the present boundary. -/
def State.ccNow (s : State) : Nat := s.ft / 25000

/-- The last page, in sequence, whose record this twin is ready to send but for the partner's acknowledgement. -/
def readyTo (ready : Page → Bool) : List Page → Option Nat → Option Nat
  | [], last => last
  | p :: ps, last => if ready p then readyTo ready ps (some p.pseq) else last

def State.recordsReady (s : State) : Option Nat :=
  let t := s.mapTwin (fun x => { x with alone := true })
  readyTo t.recordReady s.pages s.twin.recordsTo

/-- State of a held page as a cairn carries it. -/
def pageState (p : Page) : Nat :=
  if p.closed then 4 else if p.scheduled then 3 else if p.admitted then 2 else if p.total.isSome then 1 else 0

def optArgs : Option Nat → List Nat
  | some n => [1, n]
  | none => [0]

/-- The loop state of R330. -/
def State.cairnSlots (s : State) : List Nat :=
  s.loop.slots.flatMap (fun e =>
    [e.1] ++ (e.2.e ++ e.2.y ++ [s.leInt LeOut.v e.1]).map (unsign 32) ++ [s.get LeStat.saddle e.1, s.get LeStat.seq e.1])

/-- The encoder that the FPE tracks, and its net count. -/
def State.primaryCount (s : State) : Int := (s.enc (s.srcEnc (if s.mode = 2 then 1 else 0))).net

/-- DEDUCED (log 59). -/
def State.cairnFpe (s : State) : List Nat :=
  [unsign 64 s.fpe.x] ++ optArgs s.fpe.hwm ++ [s.mode, unsign 64 s.fpe.vel, s.period, unsign 64 s.primaryCount]

def State.cairnMotion (s : State) : List Nat :=
  (List.range 8).flatMap (fun n => [unsign 48 (s.axPos n)] ++
    (match (s.axis n).goal with
     | some g => [1, unsign 48 g]
     | none => [0]) ++ [s.get AxStat.homed n]) ++
  s.mot.acts.flatMap (fun (a : Activity) => [a.num, a.step]) ++ [boolArg s.mot.print]

def State.cairnLight (s : State) : List Nat :=
  (List.range 16).flatMap (fun n => [s.get LmpLevel.t0 n, s.get LmpSeg.mask n] ++ optArgs (s.lamp n).engine) ++
  (List.range 8).flatMap (fun e => [s.get PatStat.state e, s.get PatStat.step e])

/-- MODE fields of Table 22-8. -/
def modeFields : List Fld :=
  [ScrCtrl.compMode, LeGctrl.regMode, LeGctrl.thermMode, PtpCtrl.mode, MntCtrl.mode, CalCtrl.mode, ScrCtrl.scrMode]

/-- Words of a health-map entry (Table 14-4). -/
def Health.words (h : Health) : Nat × Nat :=
  (h.state + 4 * h.miss + 32 * h.good + 512 * h.trimCnt + 4096 * boolArg h.nores + 2 ^ 16 * h.density,
   unsign 6 h.xerr + 2 ^ 8 * unsign 6 h.yerr + 2 ^ 16 * unsign 4 h.htrim)

def State.cairnArgs (s : State) : List Nat :=
  [s.ccNow % 2 ^ 32] ++ s.cairnSlots ++ s.cairnFpe ++ s.cairnMotion ++ s.cairnLight ++ [s.pgNext] ++
  s.pages.flatMap (fun p => [p.pseq, pageState p]) ++ optArgs s.recordsReady ++
  [s.get NmGenCur.v 0, s.get ScrGenCur.v 0] ++
  (List.range 8).flatMap (fun c => [s.get IspCommit.gen c, s.get IspTseq.v c]) ++
  s.twin.healthNew.flatMap (fun i => [i, (s.health i).words.1, (s.health i).words.2]) ++
  s.ports.flatMap (fun e => [e.1, s.hpState e.1] ++ s.usages e.1) ++
  [s.get TwStat.epoch 0] ++ modeFields.map (fun f => s.get f 0)

/-- The generations whose messages have left (GEN, type 7). -/
def State.gensGone (s : State) : Nat × Nat :=
  if s.colTx.any (fun m => m.typ == 7) then (s.twin.nmAcked, s.twin.ctbAcked) else (s.nmNewest.num, s.ctbNewest.num)

/-- DEDUCED (log 54). -/
def State.takeCairn (s : State) : State :=
  if s.role ≠ roleActive then s
  else
    let cc := s.ccNow
    let s := s.sendCol 5 s.cairnArgs
    s.mapTwin (fun t => { t with
      taken := t.taken + 1, healthNew := [],
      carried := match s.recordsReady with
        | some q => t.carried ++ [(cc, q)]
        | none => t.carried,
      gensCarried := t.gensCarried ++ [(cc, s.gensGone.1, s.gensGone.2)] })

def execCairnTake (s : State) : Ans := .next s.takeCairn

def execCairn (rx : Rx) (seq : Nat) (c : Cairn) (s : State) : Ans :=
  let r := s.colAccept 5 seq rx
  .next (if r.1 ∧ r.2.follows then r.2.mapTwin (fun t => { t with cairn := some c }) else r.2)

/-- R330. -/
def State.applySlot (s : State) (c : CairnSlot) : State :=
  let s := s.mapSlot c.slot (fun x => { x with e := c.e, y := c.y })
  ((s.putInt LeOut.v c.slot c.u).put LeStat.saddle c.slot (boolArg c.saddle)).put LeStat.seq c.slot c.seq

/-- X through the encoder count that both twins observe, and HWM, mode and velocity. DEDUCED (log 59). -/
def State.applyFpe (s : State) (c : Cairn) : State :=
  let k := if c.fpeMode = 2 then 1 else 0
  let moved := (s.enc (s.srcEnc k)).net - c.encoder
  let x := c.x + moved * s.srcScale k / 65536
  (s.mapFpe (fun f => { f with
    x := x, xAt := s.ft, vel := c.vel, locked := true, aligned := [false, false, false, false],
    hwm := match f.hwm, c.hwm with
      | some a, some b => some (max a b)
      | none, b => b
      | a, none => a })).put FpeStat.mode 0 c.fpeMode

def State.applyAxis (s : State) (n : Nat) (a : Int × Option Int × Bool) : State :=
  ((s.setAxPos n a.1).mapAxis n (fun x => { x with goal := a.2.1 })).put AxStat.homed n (boolArg a.2.2)

/-- The running activities with their steps. -/
def State.applyActs (s : State) (c : Cairn) : State :=
  let acts : List Activity := c.acts.map (fun q => match s.act q.1 with
    | some x => if x.step = q.2 then x else { x with step := q.2, begun := false, since := s.ft }
    | none => { num := q.1, step := q.2, begun := false, since := s.ft, stopping := false, aborting := none, replies := [],
                failed := false, loops := [], posted := none, released := false })
  let mask := acts.foldl (fun m (a : Activity) => m ||| 2 ^ a.num) (boolArg c.print)
  (({ s with mot := { s.mot with acts := acts, print := c.print } }).put MntStat.running 0 mask).evalGate

def State.applyLamp (s : State) (n : Nat) (l : Nat × Nat × Option Nat) : State :=
  let s := ((s.put LmpLevel.t0 n l.1).put LmpSeg.mask n l.2.1).mapLamp n (fun x => { x with engine := l.2.2 })
  (s.put LmpStat.owned n (boolArg l.2.2.isSome)).put LmpStat.engine n (l.2.2.getD 0)

def State.applyPattern (s : State) (e : Nat) (p : Option Nat) : State :=
  let strings := (List.range 16).foldl (fun m n => if (s.lamp n).engine = some e then m + 2 ^ n else m) 0
  match p with
  | some step =>
    if s.get PatStat.state e = 1 ∧ s.get PatStat.step e = step then s.mapPattern e (fun x => { x with strings := strings })
    else ((s.put PatStat.state e 1).put PatStat.step e step).mapPattern e (fun x =>
      { x with strings := strings, since := s.ft, sinceX := s.xNow, from_ := x.level, chased := 0 })
  | none => (s.put PatStat.state e 0).mapPattern e (fun x => { x with strings := 0, follow := false })

def State.applyHealth (s : State) (h : HealthEntry) : State :=
  let a := h.word0
  let b := h.word1
  let e : Health :=
    { own := true, state := a % 4, miss := a / 4 % 8, good := a / 32 % 16, trimCnt := a / 512 % 8, nores := a / 4096 % 2 == 1,
      density := a / 2 ^ 16 % 256, xerr := signed 6 (b % 64), yerr := signed 6 (b / 2 ^ 8 % 64), htrim := signed 4 (b / 2 ^ 16 % 16),
      ysum := (s.health h.nozzle).ysum }
  { s with ins := { s.ins with health := Tab.set Health.reset s.ins.health h.nozzle e } }

/-- A page that the partner has completed, or has scheduled, goes from a store kept across L1 (R137). -/
def State.dropPrinted (s : State) (c : Cairn) : State :=
  if ¬s.rst.psKept then s
  else
    let gone : Page → Bool := fun p => match c.pages.find? (fun q => q.1 == p.pseq) with
      | some q => decide (3 ≤ q.2)
      | none => decide (p.pseq < c.pgNext)
    { s with pages := s.pages.filter (fun p => !gone p), rst := { s.rst with psKept := false } }

/-- Held pages, PG_NEXT and the records that the active sends from now on; what is missing is asked for (R131, R141, R143, R436).
DEDUCED (log 56). -/
def State.applyPages (s : State) (c : Cairn) : State :=
  let s := (s.dropPrinted c).setPgNext c.pgNext
  let s := { s with ingest := { s.ingest with nextSet := true } }
  let s : State := match c.record with
    | some q =>
      let done := s.pages.filter (fun (p : Page) => decide (p.pseq ≤ q))
      let s := { s with pages := s.pages.filter (fun (p : Page) => decide (q < p.pseq)) }
      (if done = [] then s else s.put64 PgDoneLo.v PgDoneHi.v 0 q).mapTwin (fun t => { t with recordsTo := some q })
    | none => s
  let missing := c.pages.filter (fun q => decide (1 ≤ q.2 ∧ q.2 ≤ 3) && (s.page q.1).isNone)
  let s := s.setUnfit unfitPages (missing.any (fun q => q.2 == 3))
  let s := if s.get PgCtrl.fillinEn 0 = 1 ∧ s.unfitBit unfitResync then missing.foldl (fun t q => t.sendCol 0x0B [q.1, 0]) s else s
  s.mapTwin (fun t => { t with rejoin := { t.rejoin with filled := missing.isEmpty } })

/-- A head port READY at the partner is not READY here (LANES, Table 18-2). DEDUCED (log 60). -/
def State.lanesShort (s : State) (c : Cairn) : Bool := c.hpStates.any (fun q => q.2 == hpReady && s.hpState q.1 != hpReady)

def State.applyGens (s : State) (c : Cairn) : State :=
  let s := (s.put NmGenCur.v 0 c.nmGen).put ScrGenCur.v 0 c.ctbGen
  let has : List TableGen → Nat → Bool := fun gs n => n == 0 || gs.any (fun g => g.num == n)
  let s := s.mapTwin (fun t => { t with rejoin := { t.rejoin with
    nmGen := t.rejoin.nmGen || has s.scr.nmGens c.nmGen, ctbGen := t.rejoin.ctbGen || has s.scr.ctbGens c.ctbGen } })
  (List.range 8).foldl (fun t k => (t.put IspCommit.gen k (c.insGens.getD k 0)).put IspTseq.v k (c.tseqs.getD k 0)) s

def State.applyModes (s : State) (c : Cairn) : State :=
  ((modeFields.zip c.modes).foldl (fun t q => t.put q.1 0 (boolArg q.2)) s).enforce ScrCtrl.compMode 0

def State.applyCairn (s : State) (c : Cairn) : State :=
  let s := c.slots.foldl (fun t x => t.applySlot x) s
  let s := s.applyFpe c
  let s := (c.axes.zipIdx).foldl (fun t x => t.applyAxis x.2 x.1) s
  let s := s.applyActs c
  let s := (c.lamps.zipIdx).foldl (fun t x => t.applyLamp x.2 x.1) s
  let s := (c.patterns.zipIdx).foldl (fun t x => t.applyPattern x.2 x.1) s
  let s := (s.applyPages c).applyGens c
  let s := c.health.foldl (fun t x => t.applyHealth x) s
  let s := c.usage.foldl (fun t u => (u.2.zipIdx).foldl (fun v x => v.setUsage u.1 (x.2 + 1) x.1) t) s
  ((s.put TwStat.epoch 0 c.epoch).setUnfit unfitLanes (s.lanesShort c)).applyModes c

/-- The standby applies the cairn at its next CC boundary and acknowledges it. -/
def State.cairnApply (s : State) : State :=
  match s.twin.cairn with
  | none => s
  | some c =>
    if ¬s.follows then s
    else
      let s := (s.applyCairn c).mapTwin (fun t => { t with
        cairn := none, applied := some c.cc, appliedAt := s.now, rejoin := { t.rejoin with cairn := true } })
      ((s.setUnfit unfitCairnStale false).sendCol 6 [c.cc % 2 ^ 32]).tryRejoined

def execCairnApply (s : State) : Ans := .next s.cairnApply

/-- The records and generations of the cairns up to this one are the partner's too. DEDUCED (log 54). -/
def State.cairnAck (s : State) (cc : Nat) : State :=
  let old := s.twin.carried.filter (fun e => decide (e.1 ≤ cc))
  let gens := s.twin.gensCarried.filter (fun e => decide (e.1 ≤ cc))
  s.mapTwin (fun t => { t with
    acked := some cc,
    recordsTo := old.foldl (fun m e => some (match m with
      | some q => max q e.2
      | none => e.2)) t.recordsTo,
    carried := t.carried.filter (fun e => decide (cc < e.1)),
    nmAcked := gens.foldl (fun m e => max m e.2.1) t.nmAcked,
    ctbAcked := gens.foldl (fun m e => max m e.2.2) t.ctbAcked,
    gensCarried := t.gensCarried.filter (fun e => decide (cc < e.1)) })

def execCairnAck (rx : Rx) (seq cc : Nat) (s : State) : Ans :=
  let r := s.colAccept 6 seq rx
  .next (if r.1 ∧ r.2.role = roleActive then (r.2.cairnAck cc).completion else r.2)

/-- No cairn has been applied for 2 CC. -/
def execCairnStale (s : State) : Ans :=
  .next (if s.role = roleStandby ∧ (s.twin.applied.isNone ∨ 50000 ≤ s.now - s.twin.appliedAt) then s.setUnfit unfitCairnStale true else s)

/-! ### Generations (R434, R89) -/

/-- The tables of a generation message: register address and word. -/
def genTab (words : List (Nat × Word)) : Tab Nat :=
  words.foldl (fun t w => match Reg.ofAddr w.1 with
    | none => t
    | some (r, i) => r.fields.foldl (fun u f => Tab.set (f.resetAt i) u (f.key i) (f.of w.2)) t) []

def State.takeGen (s : State) (g : GenMsg) : State :=
  let x : TableGen := ⟨g.num, genTab g.words⟩
  let s := if g.ctb then
      ({ s with scr := { s.scr with ctbGens := x :: s.scr.ctbGens.filter (fun y => y.num != g.num) } }).put ScrGenNew.v 0 g.num
    else
      let s := ({ s with scr := { s.scr with nmGens := x :: s.scr.nmGens.filter (fun y => y.num != g.num) } }).put NmGenNew.v 0 g.num
      if s.compHw then s.syncStaged x else s
  (s.mapTwin (fun t => { t with rejoin :=
    if g.ctb then { t.rejoin with ctbGen := true } else { t.rejoin with nmGen := true } })).tryRejoined

def execGen (rx : Rx) (seq : Nat) (g : GenMsg) (s : State) : Ans :=
  let r := s.colAccept 7 seq rx
  .next (if r.1 ∧ r.2.follows then r.2.takeGen g else r.2)

/-! ### HEALTH (R87, R88, R434) -/

/-- The CRC of the RW and RWS configuration. DESIGN CHOICE (log 58). -/
def State.cfgCrc (s : State) : Nat :=
  Config.cfgCrc (s.regs.filter (fun e => regList.any (fun r =>
    r.ctorIdx == e.1 / 32 % 512 && r.fields.any (fun f => f.lo == e.1 % 32 && (f.acc == .rw || f.acc == .rws))))) % 2 ^ 32

def State.imageGen (s : State) : Nat := s.get64 CfgGenLo.v CfgGenHi.v 0

/-- UNFIT, ECC_DEGRADED, IMAGE_GEN, COL_PROTO, the last Summit result, the configuration CRC. -/
def State.healthArgs (s : State) : List Nat :=
  [s.get TwStat.unfit 0, s.get McStat.degraded 0, s.imageGen, s.img.colProto] ++
  (match s.twin.summit.mine with
   | some b => [1, boolArg b]
   | none => [0]) ++ [s.cfgCrc]

def execHealthSend (s : State) : Ans := .next (if s.twin.step8.isNone then s else s.sendCol 8 s.healthArgs)

def State.takeHealth (s : State) (h : HealthMsg) : State :=
  let diff := decide (h.cfgCrc ≠ s.cfgCrc)
  let s := (s.put TwPstat.unfit 0 h.unfit).put TwPstat.eccDegraded 0 (boolArg h.eccDegraded)
  let s := s.put TwStat.compareSuspended 0 (boolArg (h.imageGen != s.imageGen))
  let s := s.setUnfit unfitIncompatible (h.colProto / 256 != s.img.colProto / 256)
  let s := if diff ∧ ¬s.twin.cfgDiff then s.record .twCfgDiff 0 [] else s
  s.mapTwin (fun t => { t with cfgDiff := diff, pHealth := some (h.imageGen, h.colProto, h.cfgCrc) })

def execHealth (rx : Rx) (seq : Nat) (h : HealthMsg) (s : State) : Ans :=
  let r := s.colAccept 8 seq rx
  .next (if r.1 then r.2.takeHealth h else r.2)

/-! ### Summit test (R438) -/

def execSummit (rx : Rx) (seq : Nat) (s : State) : Ans :=
  let r := s.colAccept 9 seq rx
  .next (if r.1 ∧ ¬r.2.twin.summit.running then r.2.startSummit else r.2)

/-- Both results are known. DESIGN CHOICE (log 57). -/
def State.summitOutcome (s : State) (mine theirs : Bool) : State :=
  let active := if s.role = roleStandby then theirs else mine
  let standby := if s.role = roleStandby then mine else theirs
  let s := s.setUnfit unfitSummit (!mine)
  let s := s.mapTwin (fun t => { t with summit := { t.summit with requested := false, mismatch := false, partner := none } })
  if active ∧ standby then
    ((s.put TwStat.divergence 0 1).record .divergence 0 []).mapTwin (fun t =>
      { t with summit := { t.summit with holdUntil := s.now + us 1000 * s.get TwCtrl.summitHold 0 } })
  else if active then (if s.role = roleActive then s.sendCol 9 [2] else s)
  else if standby then
    if s.role = roleActive then ((s.sendCol 2 [s.openValue 8, s.nextOpen.openValue 8]).nextOpen).nextOpen else s.takeRole 2
  else s.record .twSummitBoth 0 []

def State.summitDecide (s : State) : State :=
  match s.twin.summit.mine, s.twin.summit.partner with
  | some a, some b => if s.twin.summit.requested then s.summitOutcome a b else s
  | _, _ => s

/-- The test ends here: its result goes to the partner. -/
def execSummitTestDone (pass : Bool) (s : State) : Ans :=
  .next (if ¬s.twin.summit.running then s
    else
      let s := s.mapTwin (fun t => { t with summit := { t.summit with running := false, mine := some pass } })
      (s.sendCol 9 [1, boolArg pass]).summitDecide)

def execSummitResult (rx : Rx) (seq : Nat) (pass : Bool) (s : State) : Ans :=
  let r := s.colAccept 9 seq rx
  .next (if r.1 then (r.2.mapTwin (fun t => { t with summit := { t.summit with partner := some pass } })).summitDecide else r.2)

/-! ### Lines sent to a twin that rejoins (R436) -/

def execLineFill (rx : Rx) (seq : Nat) (lines : List (Nat × Nat × Nat × List (Nat × Nat))) (last : Bool) (s : State) : Ans :=
  let r := s.colAccept 0x0D seq rx
  .next (if r.1 ∧ r.2.follows ∧ r.2.unfitBit unfitResync then
      let s := lines.foldl (fun t l =>
        t.writeLine ⟨l.1, l.2.1, l.2.2.1, l.2.2.2.foldl (fun m e => Tab.set 0 m e.1 (e.2 % 8)) [], false⟩) r.2
      (if last then s.mapTwin (fun t => { t with rejoin := { t.rejoin with lines := true } }) else s).tryRejoined
    else r.2)

end Sys2Proof.Machine
end

