-- ==== Sys2Proof/Machine/RegRead.lean ====
section
/-!
DEFINITION. Reading a register: what a read-only view shows, and the snapshots of R510 (spec/23_register_map.md).
-/
namespace Sys2Proof.Machine

/-! ### Views -/

/-- Word k of a value. -/
def word32 (v k : Nat) : Nat := v / 2 ^ (32 * k) % 2 ^ 32

/-- A ring base: 0 until pin commit. DESIGN CHOICE (log 9). -/
def State.baseOf (s : State) (k : Nat) : Nat := if s.committed then Config.ringBase k % 2 ^ 40 else 0

/-- A register's word in a committed generation. -/
def TableGen.word (g : TableGen) (r : Reg) (i : Nat) : Nat := wordOf (fun f => g.get f i) r.fields

/-- A word of the usability bitmap: eight columns, a nibble each (Table 09-5). -/
def TableGen.usability (g : TableGen) (i : Nat) : Nat :=
  (List.range 32).foldl (fun v b => if g.covers (8 * i + b / 4) (b % 4) then v + 2 ^ b else v) 0

/-- The entry of a ring at its read index, or 0 where the ring is empty. -/
def ringHead (ring : Tab Nat) (wr rd size : Nat) : Nat := if rd = wr then 0 else Tab.get 0 ring (rd % size)

/-- X in PU, as 64 bits (class W). -/
def State.xPu (s : State) : Nat := unsign 64 (s.xNow / 65536)

def State.ptpSecs (s : State) : Nat := s.ptp.ns / 1000000000

/-- A trace buffer's word: sample i / 4, node i mod 4. -/
def State.traceWord (s : State) (i : Nat) : Nat :=
  unsign 32 ((Tab.get [] (s.traceBuf (i / 32768)).samples (i % 32768 / 4)).getD (i % 4) 0)

/-- The present content of a field: views are computed from the rest of the state, every other field is held.
DESIGN CHOICE (log 1). DEDUCED (log 14). -/
def State.view (s : State) (f : Fld) (i : Nat) : Nat :=
  match f.reg, f.lo with
  | .sysUidLo, _ => word32 Config.dieUid 0
  | .sysUidHi, _ => word32 Config.dieUid 1
  | .evtBaseLo, _ => word32 (s.baseOf 0) 0
  | .evtBaseHi, _ => word32 (s.baseOf 0) 1
  | .brBaseLo, _ => word32 (s.baseOf 1) 0
  | .brBaseHi, _ => word32 (s.baseOf 1) 1
  | .ffScreeBaseLo, _ => word32 (s.baseOf 2) 0
  | .ffScreeBaseHi, _ => word32 (s.baseOf 2) 1
  | .insResBaseLo, _ => word32 (s.baseOf 3) 0
  | .insResBaseHi, _ => word32 (s.baseOf 3) 1
  | .evtQfill, _ => queueFill s.ev.queue
  | .evtEnt, _ => word32 (ringHead s.ev.ring (s.get EvtWr.v 0) (s.get EvtRd.v 0) s.ringSize) i
  | .evtTail, _ => word32 (s.ev.tail.getD (i / 4) 0) (i % 4)
  | .ffScreeEnt, _ => word32 (ringHead s.ff.ring (s.get FfScreeWr.v 0) (s.get FfScreeRd.v 0) s.screeSize) i
  | .insResEnt, _ => word32 (ringHead s.ins.ring (s.get InsResWr.v 0) (s.get InsResRd.v 0) s.resUnits) i
  | .pgStatus, 0 => s.pages.length
  | .pgStatus, _ => s.freeBlocks
  | .pgAbort, 2 => boolArg (s.aborts.any (fun a => a.1 == 0))
  | .ctbCur, _ => (s.ctbGen s.scr.ctbLoaded).word .ctbStage i
  | .curveCur, _ => (s.ctbGen s.scr.ctbLoaded).word .curveStage i
  | .nmNew, _ => s.nmNewest.word .nmStage i
  | .geoNew, _ => s.nmNewest.word .geoStage i
  | .usabNew, _ => s.nmNewest.usability i
  | .usabCur, _ => (s.nmGen (s.get NmGenCur.v 0)).usability i
  | .brLead, 0 => s.lead
  | .fpePosLo, _ => word32 s.xPu 0
  | .fpePosHi, _ => word32 s.xPu 1
  | .fpeHwmLo, _ => word32 (s.fpe.hwm.getD 0) 0
  | .fpeHwmHi, _ => word32 (s.fpe.hwm.getD 0) 1
  | .leCsum, _ => s.leCsum i
  | .trcBuf, _ => s.traceWord i
  | .insHmDataLo, _ => (s.health (s.get InsHmIdx.idx 0)).words.1
  | .insHmDataHi, _ => (s.health (s.get InsHmIdx.idx 0)).words.2
  | .ptpTimeSecLo, _ => word32 s.ptpSecs 0
  | .ptpTimeSecHi, _ => word32 s.ptpSecs 1 % 2 ^ 16
  | .ptpTimeNs, _ => s.ptp.ns % 1000000000
  | .ptpTimeFrac, _ => s.ptp.frac / 65536 % 65536
  | _, _ =>
    if f = AxStat.inputs then
      boolArg (s.pins.limP.getD i true) + 2 * boolArg (s.pins.limN.getD i true) + 4 * boolArg (s.pins.home.getD i true)
    else if f = LeCfg.mode ∧ (s.slot i).mode = 3 then 3
    else s.get f i

/-- A register as a word (R524, R525): reserved and WO fields read 0. -/
def State.viewWord (s : State) (r : Reg) (i : Nat) : Nat := wordOf (fun f => if f.acc = .wo then 0 else s.view f i) r.fields

/-! ### Snapshots (R510) -/

/-- The registers that a read of a low word snapshots (R510 and the registers' own descriptions). -/
def snapMates : Reg → List Reg
  | .sysUidLo => [.sysUidHi]
  | .cfgGenLo => [.cfgGenHi]
  | .evtBaseLo => [.evtBaseHi]
  | .pgNextLo => [.pgNextHi]
  | .pgDoneLo => [.pgDoneHi]
  | .dcxLastPseqLo => [.dcxLastPseqHi]
  | .brBaseLo => [.brBaseHi]
  | .ffScreeBaseLo => [.ffScreeBaseHi]
  | .fpePosLo => [.fpePosHi]
  | .fpeHwmLo => [.fpeHwmHi]
  | .fpeScaleALo => [.fpeScaleAHi]
  | .fpeScaleBLo => [.fpeScaleBHi]
  | .hpIdLo => [.hpIdHi]
  | .hpUsageLo => [.hpUsageHi]
  | .encPosLo => [.encPosHi]
  | .encIdxLatLo => [.encIdxLatHi]
  | .ssiTimeLo => [.ssiTimeHi, .ssiData]
  | .trcT0Lo => [.trcT0Hi]
  | .trcDumpLo => [.trcDumpHi]
  | .camDistLo => [.camDistHi]
  | .insHmDataLo => [.insHmDataHi]
  | .insFocusMaskLo => [.insFocusMaskHi]
  | .insGapMaskLo => [.insGapMaskHi]
  | .insResBaseLo => [.insResBaseHi]
  | .insCapDstLo => [.insCapDstHi]
  | .axPosLo => [.axPosHi]
  | .axTgtLo => [.axTgtHi]
  | .axHomeOfsLo => [.axHomeOfsHi]
  | .axHlatLo => [.axHlatHi]
  | .mcUeAddrLo => [.mcUeAddrHi, .mcUeInfo]
  | .mcScrubPosLo => [.mcScrubPosHi]
  | .twLastToTLo => [.twLastToTHi, .twLastTo]
  | .netHostMacLo => [.netHostMacHi]
  | .ptpTimeSecLo => [.ptpTimeSecHi, .ptpTimeNs, .ptpTimeFrac]
  | .ptpSetSecLo => [.ptpSetSecHi]
  | .ptpXsFtLo => [.ptpXsFtHi, .ptpXsSecLo, .ptpXsSecHi, .ptpXsNs, .ptpXsFrac]
  | .ptpXs1FtLo => [.ptpXs1FtHi, .ptpXs1SecLo, .ptpXs1SecHi, .ptpXs1Ns, .ptpXs1Frac]
  | .tlSecLo => [.tlSecHi]
  | .tlDepSecLo => [.tlDepSecHi, .tlDepNs]
  | .metTotalUmLo => [.metTotalUmHi]
  | .metJobUmLo => [.metJobUmHi]
  | .metEvtLo => [.metEvtHi]
  | .calRawLo => [.calRawHi]
  | .calRecSecLo => [.calRecSecHi, .calRecNs]
  | .dcxLast => [.dcxLastOfs, .dcxLastPseqLo, .dcxLastPseqHi]
  | _ => []

/-- Words of a row of which word 0 snapshots the others. -/
def snapRow : Reg → Nat
  | .evtEnt => 4
  | .ffScreeEnt | .prbRec => 8
  | .insResEnt => 16
  | _ => 0

/-- What a read of element i of a register snapshots. -/
def snapGroup (r : Reg) (i : Nat) : List (Reg × Nat) :=
  let n := snapRow r
  if n = 0 then (snapMates r).map (fun m => (m, i))
  else if i % n = 0 then (List.range (n - 1)).map (fun k => (r, i + k + 1))
  else []

/-- A word as a read returns it, and the snapshots the read makes. A word that stands in a snapshot reads so; where it is itself a
low word, that read ends its own snapshot and makes no new one. DEDUCED (log 11). -/
def State.readReg (s : State) (r : Reg) (i : Nat) : State × Nat :=
  match Tab.find s.snap (r.addr i) with
  | some v => (if snapGroup r i = [] then s else { s with snap := Tab.erase (r.addr i) s.snap }, v)
  | none =>
    ({ s with snap := (snapGroup r i).foldl (fun t m => Tab.insert (m.1.addr m.2) (s.viewWord m.1 m.2) t) s.snap }, s.viewWord r i)

/-- A read of an address of the map: 0 where nothing is held (R524). -/
def State.readAddr (s : State) (a : Nat) : State × Nat :=
  match Reg.ofAddr a with
  | some (r, i) => s.readReg r i
  | none => (s, 0)

/-- Words at ascending addresses. -/
def State.readWords (s : State) (a : Nat) : Nat → State × List Nat
  | 0 => (s, [])
  | n + 1 =>
    let x := s.readAddr a
    let y := x.1.readWords (a + 4) n
    (y.1, x.2 :: y.2)

end Sys2Proof.Machine
end

