-- ==== Sys2Proof/Machine/RegWrite.lean ====
section
/-!
DEFINITION. Writing a register, by the host and by a record: every register's own rule, register requests over the ring
(R459, R460) and the records of Table 04-7 that write registers (R82), and the end of a commit (R183, R193).
-/
namespace Sys2Proof.Machine

/-- The state a meaning goes on to, or the one it started from. -/
def State.after (s : State) : Ans → State
  | .next t => t
  | _ => s

/-! ### Registers with a rule of their own -/

/-- A counter of the layout of Table 09-6. -/
def counterLayout (r : Reg) : Bool :=
  match r.fields with
  | [c, o] => c.lo == 0 && c.width == 31 && c.acc == .ro && o.lo == 31 && o.acc == .w1c
  | _ => false

/-- Bit 31 clears COUNT and OVF together (R508). -/
def State.writeCounter (s : State) (r : Reg) (i : Nat) (w : Word) : State :=
  if w.toNat / 2 ^ 31 = 1 then
    let s := r.fields.foldl (fun t f => t.put f i 0) s
    if r = .lmpCntSkip then s.mapLamp i (fun x => { x with skipSeen := false }) else s
  else s

/-- A ring's read index: values from the present RD to WR in modular order. -/
def State.writeRd (s : State) (rd wr : Fld) (w : Word) : State :=
  let d := s.get rd 0
  if (w.toNat + 2 ^ 32 - d) % 2 ^ 32 ≤ (s.get wr 0 + 2 ^ 32 - d) % 2 ^ 32 then s.put rd 0 w.toNat else s

/-- LN_CTRL: inversions, test mode (R116), counters (R119), sleep and wake (R110, R112; not on the ring lanes, R115, nor on the
head lanes, whose field shows the request of R286). DEDUCED (log 27). -/
def State.writeLnCtrl (s : State) (n : Nat) (w : Word) : State :=
  let was := s.get LnCtrl.txSleep n
  let s := (s.put LnCtrl.txInv n (LnCtrl.txInv.of w)).put LnCtrl.rxInv n (LnCtrl.rxInv.of w)
  let s := if LnCtrl.test.of w = s.get LnCtrl.test n then s
    else s.after (execLaneTestModeSet (Fin.ofNat 142 n) (Fin.ofNat 4 (LnCtrl.test.of w)) s)
  let s := if LnCtrl.cntClr.of w = 1 then s.after (execLnCntClr (Fin.ofNat 142 n) s) else s
  if n < 128 ∨ ringLane n ∨ LnCtrl.txSleep.of w = was then s
  else
    let s := s.put LnCtrl.txSleep n (LnCtrl.txSleep.of w)
    if LnCtrl.txSleep.of w = 1 then s.requestSleep n else s.requestWake n

/-- Registers of the staged column-table copy and of the staged nozzle map. -/
def ctbStaged (r : Reg) : Bool := ctbRegs.any (fun x => x = r)
def nmStaged (r : Reg) : Bool := nmRegs.any (fun x => x = r)

/-- A staged nozzle entry. In COMP_MODE = HW a host write takes STATE only to or from EXCLUDED, and never TRIM; records stage
every field (R195). -/
def State.writeNozzle (s : State) (i : Nat) (w : Word) : State :=
  let trim := s.get NmStage.trim i
  let old := s.get NmStage.state i
  let new := NmStage.state.of w
  let s := s.storeWord .nmStage i w
  if s.img.applying ∨ ¬s.compHw then s
  else (s.put NmStage.trim i trim).put NmStage.state i (if new = 3 ∨ old = 3 then new else old)

/-- The slots of a fixed role (Table 13-2). -/
def fixedSlot (n : Nat) : Bool := decide (n < 144) || decide (160 ≤ n ∧ n < 168)

/-- LE_SRC of a slot with a fixed role takes INV, and SINK_INST of the cross-web and focus loops (R305, Table 13-2). -/
def State.writeLeSrc (s : State) (n : Nat) (w : Word) : State :=
  if fixedSlot n then
    let s := s.put LeSrc.inv n (LeSrc.inv.of w)
    if n = 165 ∨ n = 167 then s.put LeSrc.sinkInst n (LeSrc.sinkInst.of w) else s
  else s.storeWord .leSrc n w

/-- Another slot's output is this slot's REF. DEDUCED (log 44). -/
def State.refDriven (s : State) (n : Nat) : Bool :=
  (List.range 176).any (fun m => s.get LeSrc.sink m == 6 && s.get LeSrc.sinkInst m == n)

/-- A staged coefficient: held while SWAP_PEND (R321). -/
def State.writeCoef (s : State) (r : Reg) (n : Nat) (w : Word) : State :=
  if s.flag LeStat.swapPend n then
    s.mapSlot n (fun x => { x with held := x.held ++ r.fields.map (fun f => (f.key n, f.of w)) })
  else s.storeWord r n w

/-- CAL_REC_TOL: 10 to 100,000, for kind 0 10 to 10,000; other values are ignored. -/
def State.writeCalTol (s : State) (k : Nat) (w : Word) : State :=
  if 10 ≤ w.toNat ∧ w.toNat ≤ (if k = 0 then 10000 else 100000) then s.put CalRecTol.v k w.toNat else s

/-- LMP_LEVEL and LMP_SEG show the engine's values while the string is owned. -/
def State.writeLampValue (s : State) (r : Reg) (n : Nat) (w : Word) : State := if s.lampOwned n then s else s.storeWord r n w

/-- A change of TRIG_POL moves the idle level of the trigger; a port that is disabled abandons a calibration (R496). -/
def State.writeCamCfg (s : State) (n : Nat) (w : Word) : State :=
  let pol := s.get CamCfg.trigPol n
  let s := s.storeWord .camCfg n w
  let s := if pol ≠ s.get CamCfg.trigPol n ∧ s.committed then s.safeCam n else s
  s.calWatch

/-- ACC and DEC are clamped to DEC_EMERG when written (R388). -/
def State.writeAxRate (s : State) (f : Fld) (n : Nat) (w : Word) : State := s.put f n (min w.toNat (s.get AxDecEmerg.v n))

def State.writeDuty (s : State) (hi : Bool) (w : Word) : State := s.after (execFfDutyWeightWrite hi w s)

/-! ### A write of a register (R525, R527) -/

/-- Nozzle map, screening and page registers. DEDUCED (log 44). -/
def State.writeImageReg (s : State) (r : Reg) (i : Nat) (w : Word) : State :=
  match r with
  | .scrCommit => if ScrCommit.commit.of w = 1 then s.after (execScrCommit s) else s
  | .nmCommit =>
    let s := s.storeWord r i w
    if NmCommit.commit.of w = 1 then s.after (execNmCommit s) else s
  | .scrThrCtl => s.thrWrite i (ScrThrCtl.open_.of w == 1) w
  | .thrWin => if s.get ScrThrCtl.state (i / 262144) = 1 then s.storeWord r i w else s
  | .nmStage => s.writeNozzle i w
  | .brLead => if BrLead.minClr.of w = 1 then s.put BrLead.leadMin 0 s.lead else s
  | .ffDutyW0 => s.writeDuty false w
  | .ffDutyW1 => s.writeDuty true w
  | .ffScreeRd => s.writeRd FfScreeRd.v FfScreeWr.v w
  | .pgAbort => s.writePgAbort w
  | .dpCtrl =>
    let s := s.put DpCtrl.creditPeriod 0 (DpCtrl.creditPeriod.of w)
    if DpCtrl.abort.of w = 1 then s.after (execDpCtrlAbort w s) else s
  | _ => s.storeWord r i w

/-- Device registers: reset, image, rails, events, lanes, twin, memory controller, ring and clock. -/
def State.writeDeviceReg (s : State) (r : Reg) (i : Nat) (w : Word) : State :=
  match r with
  | .rstCmd => s.writeRstCmd w
  | .rstPark => s.writeRstPark w
  | .cfgFlCtrl => s.writeFlCtrl w
  | .monRail =>
    let s := s.storeWord r i w
    if MonRail.trkClr.of w = 1 then s.clearTracker i else s
  | .monPace =>
    let s := s.storeWord r i w
    if MonPace.maxClr.of w = 1 then s.clearPaceMax i else s
  | .evtRd => s.writeRd EvtRd.v EvtWr.v w
  | .lnCtrl => s.writeLnCtrl i w
  | .lnMargin => s.after (execMarginGo (Fin.ofNat 142 i) w s)
  | .mcCtrl => s.writeMcCtrl w
  | .mcSpare => s.writeMcSpare i w
  | .twCmd => s.writeTwCmd w
  | .ptpIncInt => s.writePtpInc w
  | .ptpAdj => s.stepBy (signed 32 w.toNat)
  | .ptpSetNs => s.writePtpSet w
  | .ptpHostSeq => s.writePtpHostSeq w
  | .tlCtrl => s.writeTlCtrl i w
  | .calCmd => s.writeCalCmd w
  | .calHres => s.writeCalHres w
  | .calRecTol => s.writeCalTol i w
  | _ => s.storeWord r i w

/-- Registers of the FPE, the loops, inspection, lamps, axes and activities. -/
def State.writeMotionReg (s : State) (r : Reg) (i : Nat) (w : Word) : State :=
  match r with
  | .fpeCtrl => s.writeFpeCtrl w
  | .fpeScaleAHi => let s := s.storeWord r i w; { s with fpe := { s.fpe with scaleDue := s.fpe.scaleDue.set 0 true } }
  | .fpeScaleBHi => let s := s.storeWord r i w; { s with fpe := { s.fpe with scaleDue := s.fpe.scaleDue.set 1 true } }
  | .encCfg => s.writeEncCfg i w
  | .prbStat => s.writePrbStat i w
  | .ssiTrig => s.writeSsiTrig i w
  | .leCfg => s.writeLeCfg i w
  | .leSched => s.writeLeSched i w
  | .leSrc => s.writeLeSrc i w
  | .leRef => if s.refDriven i then s else s.put LeRef.v i (leWord i w)
  | .leOmin => s.writeLimit i false w
  | .leOmax => s.writeLimit i true w
  | .leOpenVal => s.put LeOpenVal.v i (leWord i w)
  | .leHostOut => s.put LeHostOut.v i (leWord i w)
  | .leHostSeq => s.writeHostSeq i w
  | .leB0 | .leB1 | .leB2 | .leB3 | .leA1 | .leA2 | .leA3 | .leCsh0 | .leCsh1 => s.writeCoef r i w
  | .leGctrl => s.writeLeGctrl w
  | .trcCfg => s.writeTrcCfg i w
  | .trcDumpCtl => s.writeTrcDump i w
  | .camCfg => s.writeCamCfg i w
  | .camTrig => s.writeCamTrig i w
  | .ispCommit => s.writeIspCommit i w
  | .insCtrl => s.writeInsCtrl w
  | .insCap => s.writeInsCap w
  | .insResRd => s.writeRd InsResRd.v InsResWr.v w
  | .lmpCfg => s.writeLmpCfg i w
  | .lmpLevel | .lmpSeg => s.writeLampValue r i w
  | .lmpCtrl => s.writeLmpCtrl i w
  | .patCtrl => s.writePatCtrl i w
  | .axCfg => (s.writeAxCfg i w).evalGate
  | .axCmd => s.writeAxCmd i w
  | .axTgtHi => s.writeAxTgtHi i w
  | .axAcc => s.writeAxRate AxAcc.v i w
  | .axDec => s.writeAxRate AxDec.v i w
  | .mntCmd => s.writeMntCmd w
  | .mntHgo => s.writeMntHgo w
  | .mntPrintExcl | .mntPwinMin | .mntPwinMax => (s.storeWord r i w).evalGate
  | _ => s.storeWord r i w

/-- Registers from which block: by address. -/
def imageReg (r : Reg) : Bool := decide (0x00200000 ≤ r.base ∧ r.base < 0x01100000) || r = .thrWin
def motionReg (r : Reg) : Bool := decide (0x01100000 ≤ r.base ∧ r.base < 0x01800000)

/-- A write of element i of a register. The staged copies hold writes while their commit is BUSY. -/
def State.writeReg (s : State) (r : Reg) (i : Nat) (w : Word) : State :=
  let s := { s with snap := Tab.erase (r.addr i) s.snap }
  if counterLayout r then s.writeCounter r i w
  else if ctbStaged r ∧ s.get ScrCommit.busy 0 = 1 then
    { s with scr := { s.scr with ctbHeld := s.scr.ctbHeld ++ [(r.addr i, w.toNat)] } }
  else if nmStaged r ∧ s.get NmCommit.busy 0 = 1 then
    { s with scr := { s.scr with nmHeld := s.scr.nmHeld ++ [(r.addr i, w.toNat)] } }
  else if imageReg r then s.writeImageReg r i w
  else if motionReg r then s.writeMotionReg r i w
  else s.writeDeviceReg r i w

/-- A write at an address; an address that holds no register ignores it (R524). -/
def State.writeAddr (s : State) (a : Nat) (w : Word) : State :=
  match Reg.ofAddr a with
  | some (r, i) => s.writeReg r i w
  | none => s

/-! ### Access over the ring (R59, R459, R460) -/

/-- In Foothill mode only the SYS, RST and CFG regions. DEDUCED (log 69). -/
def State.foothillRefuses (s : State) (a : Nat) : Bool := s.get RstStatus.state 0 == 3 && decide (0x00030000 ≤ a)

/-- STATUS of an operation on n words. -/
def State.opStatus (s : State) (a n : Nat) : Nat :=
  let addrs := (List.range n).map (fun k => a + 4 * k)
  if n = 0 ∨ 64 < n then stOpcode
  else if addrs.any (fun x => !inMap x) then stAddr
  else if addrs.any s.foothillRefuses then stFoothill
  else stOk

def execRegisterWrite (addr : Nat) (value : Word) (s : State) : Ans :=
  .next (if s.opStatus addr 1 = stOk then s.writeAddr addr value else s)

def execRegOpRead (nw addr : Nat) (s : State) : Ans :=
  .next (let st := s.opStatus addr nw
    if st = stOk then
      let x := s.readWords addr nw
      x.1.opDone 1 stOk x.2
    else s.opDone 1 st [])

/-- Words at ascending addresses. -/
def State.writeWords (s : State) (a : Nat) : List Word → State
  | [] => s
  | w :: ws => (s.writeAddr a w).writeWords (a + 4) ws

def execRegOpWrite (addr : Nat) (data : List Word) (s : State) : Ans :=
  .next (let st := s.opStatus addr data.length
    if st = stOk then (s.writeWords addr data).opDone 2 stOk [] else s.opDone 2 st [])

/-- The value an RMW writes: W1C and WO fields outside the mask are taken as 0. -/
def rmwValue (r : Option (Reg × Nat)) (old : Nat) (mask value : Word) : Word :=
  let keep := match r with
    | some (r, _) => wordOf (fun f => if f.acc = .w1c ∨ f.acc = .wo then 0 else f.of (BitVec.ofNat 32 old)) r.fields
    | none => 0
  (BitVec.ofNat 32 keep &&& ~~~mask) ||| (value &&& mask)

/-- An RMW, and the value it read. -/
def State.rmw (s : State) (a : Nat) (mask value : Word) : State × Nat :=
  let x := s.readAddr a
  (x.1.writeAddr a (rmwValue (Reg.ofAddr a) x.2 mask value), x.2)

def execRegOpRmw (addr : Nat) (mask value : Word) (s : State) : Ans :=
  .next (let st := s.opStatus addr 1
    if st = stOk then
      let x := s.rmw addr mask value
      x.1.opDone 3 stOk [x.2]
    else s.opDone 3 st [])

/-! ### Records (R82) -/

def Reg.writable (r : Reg) : Bool := r.fields.any (fun f => f.acc != .ro)

/-- Bits of a word that no field of a register covers. -/
def Reg.reservedBits (r : Reg) (w : Word) : Bool :=
  decide (wordOf (fun f => f.of w) r.fields ≠ w.toNat)

/-- A record may write the value there. -/
def recordOk (a : Nat) (w : Word) : Bool :=
  inMap a && (match Reg.ofAddr a with
    | some (r, _) => r.writable && !r.reservedBits w
    | none => false)

/-- Writes of a record in order; it fails at the first that it may not make. -/
def State.recordWrites (s : State) : List (Nat × Word) → State
  | [] => s.nextRecord
  | (a, w) :: rest => if recordOk a w then (s.writeAddr a w).recordWrites rest else s.failRecord

def execRegWrite (pairs : List (Nat × Word)) (s : State) : Ans := .next (if s.img.applying then s.recordWrites pairs else s)

def State.recordRmws (s : State) : List (Nat × Word × Word) → State
  | [] => s.nextRecord
  | (a, m, v) :: rest =>
    let x := s.readAddr a
    let w := rmwValue (Reg.ofAddr a) x.2 m v
    if recordOk a w then (x.1.writeAddr a w).recordRmws rest else s.failRecord

def execRegRmw (triples : List (Nat × Word × Word)) (s : State) : Ans := .next (if s.img.applying then s.recordRmws triples else s)

def execTableLoad (addr : Nat) (data : List Word) (s : State) : Ans :=
  .next (if s.img.applying then s.recordWrites ((data.zipIdx).map (fun x => (addr + 4 * x.2, x.1))) else s)

/-- A slot is opened, written and closed in one step (R188). -/
def State.loadThreshold (s : State) (k width height : Nat) (cells : List (List Word)) : State :=
  let s := ((s.put ScrThrCtl.state k 1).put ScrThrCtl.width k width).put ScrThrCtl.height k height
  let s := (cells.zipIdx).foldl (fun t c => (c.1.zipIdx).foldl (fun u x =>
    u.put ThrWin.v (262144 * k + 4 * (256 * (c.2 / max width 1) + c.2 % max width 1) + x.2) x.1.toNat) t) s
  if s.thrSizesOk k = false then (s.put ScrThrCtl.state k 0).put ScrThrCtl.monoErr k 1
  else match s.thrBad k with
    | none => s.put ScrThrCtl.state k 2
    | some (u, w) => ((s.put ScrThrCtl.state k 0).put ScrThrCtl.monoErr k 1).record .scrThrMono k [a8 u, a8 w]

def execThrArray (slot : Fin 8) (width height : Nat) (cells : List (List Word)) (s : State) : Ans :=
  .next (if s.img.applying then (s.loadThreshold slot.val width height cells).nextRecord else s)

/-- The register is read until (value read AND mask) equals the value, or the time expires. -/
def execWait (addr : Nat) (mask value : Word) (expired : Bool) (s : State) : Ans :=
  .next (if ¬s.img.applying then s
    else
      let x := s.readAddr addr
      if expired ∧ BitVec.ofNat 32 x.2 &&& mask ≠ value &&& mask then x.1.failRecord else x.1.nextRecord)

/-! ### The end of a commit -/

/-- Held writes are made in order; behind a COMMIT the rest is held again. DEDUCED (log 36). -/
def State.replayHeld (s : State) (l : List (Nat × Nat)) : State := l.foldl (fun t x => t.writeAddr x.1 (BitVec.ofNat 32 x.2)) s

def execScrCommitDone (s : State) : Ans :=
  .next (if s.get ScrCommit.busy 0 ≠ 1 then s
    else
      let held := s.scr.ctbHeld
      let s := (s.commitCtb).put ScrCommit.busy 0 0
      ({ s with scr := { s.scr with ctbHeld := [] } }).replayHeld held)

/-- An analyser commit that waited follows. -/
def execNmCommitDone (s : State) : Ans :=
  .next (if s.get NmCommit.busy 0 ≠ 1 then s
    else
      let held := s.scr.nmHeld
      let s := (s.commitNm (copyRegs nmRegs s.regs) false).put NmCommit.busy 0 0
      let s := ({ s with scr := { s.scr with nmHeld := [] } }).replayHeld held
      if s.ins.retry then s.analyserCommit else s)

end Sys2Proof.Machine
end

