-- ==== Sys2Proof/Machine/Dispatch.lean ====
section
/-!
DEFINITION. What each command does: one arm per constructor, each one call of its meaning.
-/
namespace Sys2Proof.Machine

def exec (i : Instr) (s : State) : Host.Outcome State Fault Refusal :=
  match i with
  | .paceCcUpdate used => Sys2Proof.Machine.execPaceCcUpdate used s
  | .monPaceMaxClr n => Sys2Proof.Machine.execMonPaceMaxClr n s
  | .paceWatchdog n => Sys2Proof.Machine.execPaceWatchdog n s
  | .spWatchdogReset p => Sys2Proof.Machine.execSpWatchdogReset p s
  | .fenceInAssert => Sys2Proof.Machine.execFenceInAssert s
  | .fenceInRelease => Sys2Proof.Machine.execFenceInRelease s
  | .powerOnReset rising => Sys2Proof.Machine.execPowerOnReset rising s
  | .resetNAssert ns => Sys2Proof.Machine.execResetNAssert ns s
  | .rstCmdLevel value => Sys2Proof.Machine.execRstCmdLevel value s
  | .foothillClr value => Sys2Proof.Machine.execFoothillClr value s
  | .jtagReset => Sys2Proof.Machine.execJtagReset s
  | .thermalTrip tj => Sys2Proof.Machine.execThermalTrip tj s
  | .twinResetCommand => Sys2Proof.Machine.execTwinResetCommand s
  | .resetStretchEnd bootPin => Sys2Proof.Machine.execResetStretchEnd bootPin s
  | .optionBlockReadDone => Sys2Proof.Machine.execOptionBlockReadDone s
  | .clockQualified d => Sys2Proof.Machine.execClockQualified d s
  | .clockQualTimeout d => Sys2Proof.Machine.execClockQualTimeout d s
  | .domainClkLost d => Sys2Proof.Machine.execDomainClkLost d s
  | .imageReadDone => Sys2Proof.Machine.execImageReadDone s
  | .dramTrainingDone t => Sys2Proof.Machine.execDramTrainingDone t s
  | .regWrite pairs => Sys2Proof.Machine.execRegWrite pairs s
  | .regRmw triples => Sys2Proof.Machine.execRegRmw triples s
  | .tableLoad addr data => Sys2Proof.Machine.execTableLoad addr data s
  | .thrArray slot width height cells => Sys2Proof.Machine.execThrArray slot width height cells s
  | .headTable mask kind data => Sys2Proof.Machine.execHeadTable mask kind data s
  | .wait addr mask value expired => Sys2Proof.Machine.execWait addr mask value expired s
  | .fuseProgram hash map flags => Sys2Proof.Machine.execFuseProgram hash map flags s
  | .cfgRecordEnd => Sys2Proof.Machine.execCfgRecordEnd s
  | .startTimeout => Sys2Proof.Machine.execStartTimeout s
  | .failedStartClear => Sys2Proof.Machine.execFailedStartClear s
  | .railWarnEnter rail mv => Sys2Proof.Machine.execRailWarnEnter rail mv s
  | .railWarnClear rail mv => Sys2Proof.Machine.execRailWarnClear rail mv s
  | .vwarnHoldExpiry rail => Sys2Proof.Machine.execVwarnHoldExpiry rail s
  | .railResetLevel rail mv => Sys2Proof.Machine.execRailResetLevel rail mv s
  | .tempWarnEnter tj => Sys2Proof.Machine.execTempWarnEnter tj s
  | .tempWarnEnd tj => Sys2Proof.Machine.execTempWarnEnd tj s
  | .tempWarnHoldExpiry => Sys2Proof.Machine.execTempWarnHoldExpiry s
  | .monRailTrkClr rail => Sys2Proof.Machine.execMonRailTrkClr rail s
  | .cfgFlRead value => Sys2Proof.Machine.execCfgFlRead value s
  | .cfgFlProgram value => Sys2Proof.Machine.execCfgFlProgram value s
  | .cfgFlErase4k value => Sys2Proof.Machine.execCfgFlErase4k value s
  | .cfgFlErase64k value => Sys2Proof.Machine.execCfgFlErase64k value s
  | .cfgFlOpDone => Sys2Proof.Machine.execCfgFlOpDone s
  | .laneLockAcquire n => Sys2Proof.Machine.execLaneLockAcquire n s
  | .laneLockLoss n cv => Sys2Proof.Machine.execLaneLockLoss n cv s
  | .tsReceive n status seq chk offset => Sys2Proof.Machine.execTsReceive n status seq chk offset s
  | .tsComplete n => Sys2Proof.Machine.execTsComplete n s
  | .skpSend n => Sys2Proof.Machine.execSkpSend n s
  | .skpReceive n k fill => Sys2Proof.Machine.execSkpReceive n k fill s
  | .elasticBufferError n => Sys2Proof.Machine.execElasticBufferError n s
  | .lmkReceive n status offset => Sys2Proof.Machine.execLmkReceive n status offset s
  | .linkUp l => Sys2Proof.Machine.execLinkUp l s
  | .linkDown l => Sys2Proof.Machine.execLinkDown l s
  | .txSleepRequest n => Sys2Proof.Machine.execTxSleepRequest n s
  | .slpReceive n => Sys2Proof.Machine.execSlpReceive n s
  | .txWakeRequest n => Sys2Proof.Machine.execTxWakeRequest n s
  | .wakeSequenceEnd n => Sys2Proof.Machine.execWakeSequenceEnd n s
  | .idleMinimumExpiry n => Sys2Proof.Machine.execIdleMinimumExpiry n s
  | .rxWakeTimeout n => Sys2Proof.Machine.execRxWakeTimeout n s
  | .lnLos n => Sys2Proof.Machine.execLnLos n s
  | .laneTestModeSet n test => Sys2Proof.Machine.execLaneTestModeSet n test s
  | .prbsSyncChange n sync errors => Sys2Proof.Machine.execPrbsSyncChange n sync errors s
  | .lnCntClr n => Sys2Proof.Machine.execLnCntClr n s
  | .marginGo n value => Sys2Proof.Machine.execMarginGo n value s
  | .marginDwellDone n mismatch => Sys2Proof.Machine.execMarginDwellDone n mismatch s
  | .pageDesc k => Sys2Proof.Machine.execPageDesc k s
  | .stripeData k => Sys2Proof.Machine.execStripeData k s
  | .stripeEnd k => Sys2Proof.Machine.execStripeEnd k s
  | .cancel k => Sys2Proof.Machine.execCancel k s
  | .abortIngest k => Sys2Proof.Machine.execAbortIngest k s
  | .sync k => Sys2Proof.Machine.execSync k s
  | .dpCtrlAbort value => Sys2Proof.Machine.execDpCtrlAbort value s
  | .ingestAbortEffect => Sys2Proof.Machine.execIngestAbortEffect s
  | .credit => Sys2Proof.Machine.execCredit s
  | .dataPortUp => Sys2Proof.Machine.execDataPortUp s
  | .dataPortDown => Sys2Proof.Machine.execDataPortDown s
  | .stripeVerifyDone e => Sys2Proof.Machine.execStripeVerifyDone e s
  | .pageSchedule line => Sys2Proof.Machine.execPageSchedule line s
  | .startDeferTimeout pseq => Sys2Proof.Machine.execStartDeferTimeout pseq s
  | .completion => Sys2Proof.Machine.execCompletion s
  | .digestReceive rx seq d => Sys2Proof.Machine.execDigestReceive rx seq d s
  | .fillinTimer pseq stripe => Sys2Proof.Machine.execFillinTimer pseq stripe s
  | .fillReq rx seq pseq stripe => Sys2Proof.Machine.execFillReq rx seq pseq stripe s
  | .fillData rx seq pseq stripe lines data => Sys2Proof.Machine.execFillData rx seq pseq stripe lines data s
  | .mcUe h => Sys2Proof.Machine.execMcUe h s
  | .decodeAssign => Sys2Proof.Machine.execDecodeAssign s
  | .printDecodeDone e => Sys2Proof.Machine.execPrintDecodeDone e s
  | .cmxJobStart => Sys2Proof.Machine.execCmxJobStart s
  | .cmxJobDone m => Sys2Proof.Machine.execCmxJobDone m s
  | .scrCommit => Sys2Proof.Machine.execScrCommit s
  | .scrCommitDone => Sys2Proof.Machine.execScrCommitDone s
  | .scrThrOpen k value => Sys2Proof.Machine.execScrThrOpen k value s
  | .scrThrClose k value => Sys2Proof.Machine.execScrThrClose k value s
  | .scrThrCheckDone k => Sys2Proof.Machine.execScrThrCheckDone k s
  | .screenLine line => Sys2Proof.Machine.execScreenLine line s
  | .nmCommit => Sys2Proof.Machine.execNmCommit s
  | .nmCommitDone => Sys2Proof.Machine.execNmCommitDone s
  | .frameAssemble p line => Sys2Proof.Machine.execFrameAssemble p line s
  | .fetchDeadline p line => Sys2Proof.Machine.execFetchDeadline p line s
  | .screeEntryClose pseq kind port noz => Sys2Proof.Machine.execScreeEntryClose pseq kind port noz s
  | .ffDutyWeightWrite hi value => Sys2Proof.Machine.execFfDutyWeightWrite hi value s
  | .fpeLqUpdate => Sys2Proof.Machine.execFpeLqUpdate s
  | .fpeSelA value => Sys2Proof.Machine.execFpeSelA value s
  | .fpeSelB value => Sys2Proof.Machine.execFpeSelB value s
  | .fpeCoastExpired => Sys2Proof.Machine.execFpeCoastExpired s
  | .stampIssue p line => Sys2Proof.Machine.execStampIssue p line s
  | .lineDecision line => Sys2Proof.Machine.execLineDecision line s
  | .absHoldExpiry => Sys2Proof.Machine.execAbsHoldExpiry s
  | .spdAdvRelease => Sys2Proof.Machine.execSpdAdvRelease s
  | .speedAdvisory => Sys2Proof.Machine.execSpeedAdvisory s
  | .telem p m => Sys2Proof.Machine.execTelem p m s
  | .htTelemLost p => Sys2Proof.Machine.execHtTelemLost p s
  | .heat p => Sys2Proof.Machine.execHeat p s
  | .tsync => Sys2Proof.Machine.execTsync s
  | .echoReq p t0 => Sys2Proof.Machine.execEchoReq p t0 s
  | .echoRsp p rx id hold t3 => Sys2Proof.Machine.execEchoRsp p rx id hold t3 s
  | .ldlyRetry p => Sys2Proof.Machine.execLdlyRetry p s
  | .echoPeriodExpiry p => Sys2Proof.Machine.execEchoPeriodExpiry p s
  | .ack p a => Sys2Proof.Machine.execAck p a s
  | .ackTimeout p line => Sys2Proof.Machine.execAckTimeout p line s
  | .hpLineLost p line => Sys2Proof.Machine.execHpLineLost p line s
  | .hello p h => Sys2Proof.Machine.execHello p h s
  | .response p rx serial family tag => Sys2Proof.Machine.execResponse p rx serial family tag s
  | .usage p rx seq counts tag => Sys2Proof.Machine.execUsage p rx seq counts tag s
  | .mack p rx op status => Sys2Proof.Machine.execMack p rx op status s
  | .mgmtTimeout p => Sys2Proof.Machine.execMgmtTimeout p s
  | .headSleepTimer p => Sys2Proof.Machine.execHeadSleepTimer p s
  | .encoderEdge n a b z => Sys2Proof.Machine.execEncoderEdge n a b z s
  | .encCfgArm n value => Sys2Proof.Machine.execEncCfgArm n value s
  | .encCfgUncClr n value => Sys2Proof.Machine.execEncCfgUncClr n value s
  | .wireConditionChange w c live => Sys2Proof.Machine.execWireConditionChange w c live s
  | .encHealthy n => Sys2Proof.Machine.execEncHealthy n s
  | .stuckInput m live => Sys2Proof.Machine.execStuckInput m live s
  | .encStill n => Sys2Proof.Machine.execEncStill n s
  | .latchEdge m falling => Sys2Proof.Machine.execLatchEdge m falling s
  | .prbPop m value => Sys2Proof.Machine.execPrbPop m value s
  | .ssiGo n value => Sys2Proof.Machine.execSsiGo n value s
  | .ssiPeriodTrigger n => Sys2Proof.Machine.execSsiPeriodTrigger n s
  | .ssiFrameDone n f => Sys2Proof.Machine.execSsiFrameDone n f s
  | .loopSample n late adc => Sys2Proof.Machine.execLoopSample n late adc s
  | .leSchedWrite n value => Sys2Proof.Machine.execLeSchedWrite n value s
  | .leCfgSwap n value => Sys2Proof.Machine.execLeCfgSwap n value s
  | .leCfgAbort n value => Sys2Proof.Machine.execLeCfgAbort n value s
  | .leModeWrite n value => Sys2Proof.Machine.execLeModeWrite n value s
  | .leEnable n value => Sys2Proof.Machine.execLeEnable n value s
  | .leHostSeq n value => Sys2Proof.Machine.execLeHostSeq n value s
  | .leLimitWrite n hi value => Sys2Proof.Machine.execLeLimitWrite n hi value s
  | .hostSilenceExpiry f => Sys2Proof.Machine.execHostSilenceExpiry f s
  | .trcArm b value => Sys2Proof.Machine.execTrcArm b value s
  | .trcForce b value => Sys2Proof.Machine.execTrcForce b value s
  | .trcDumpGo b value => Sys2Proof.Machine.execTrcDumpGo b value s
  | .knownAnswerTest pass => Sys2Proof.Machine.execKnownAnswerTest pass s
  | .camTrigGo n value => Sys2Proof.Machine.execCamTrigGo n value s
  | .camTrailerTrigger n => Sys2Proof.Machine.execCamTrailerTrigger n s
  | .camPeriodicTrigger n => Sys2Proof.Machine.execCamPeriodicTrigger n s
  | .camFrameStart n => Sys2Proof.Machine.execCamFrameStart n s
  | .camFrameEnd n rows => Sys2Proof.Machine.execCamFrameEnd n rows s
  | .camFrameTimeout c => Sys2Proof.Machine.execCamFrameTimeout c s
  | .camSelGapExpiry n => Sys2Proof.Machine.execCamSelGapExpiry n s
  | .camTrigAbort n value => Sys2Proof.Machine.execCamTrigAbort n value s
  | .camAbortTimeout n => Sys2Proof.Machine.execCamAbortTimeout n s
  | .ispCommit c value => Sys2Proof.Machine.execIspCommit c value s
  | .resultRecord c marks dashes => Sys2Proof.Machine.execResultRecord c marks dashes s
  | .healthMapUpdate => Sys2Proof.Machine.execHealthMapUpdate s
  | .hmClr value => Sys2Proof.Machine.execHmClr value s
  | .insCapGo value => Sys2Proof.Machine.execInsCapGo value s
  | .lampPwmPeriod => Sys2Proof.Machine.execLampPwmPeriod s
  | .segChainShift readback => Sys2Proof.Machine.execSegChainShift readback s
  | .segLatch before after => Sys2Proof.Machine.execSegLatch before after s
  | .lampDiagCheck n isense vsense => Sys2Proof.Machine.execLampDiagCheck n isense vsense s
  | .lampProbe n mv => Sys2Proof.Machine.execLampProbe n mv s
  | .lmpDiagStale n => Sys2Proof.Machine.execLmpDiagStale n s
  | .lmpCtrlClr n value => Sys2Proof.Machine.execLmpCtrlClr n value s
  | .lampTempComp ntc => Sys2Proof.Machine.execLampTempComp ntc s
  | .patRun e value => Sys2Proof.Machine.execPatRun e value s
  | .patStop e value => Sys2Proof.Machine.execPatStop e value s
  | .patternTimer e => Sys2Proof.Machine.execPatternTimer e s
  | .axisLqUpdate n => Sys2Proof.Machine.execAxisLqUpdate n s
  | .axTgtCommit n value => Sys2Proof.Machine.execAxTgtCommit n value s
  | .axisEnable n value => Sys2Proof.Machine.execAxisEnable n value s
  | .axisHoldTimer n => Sys2Proof.Machine.execAxisHoldTimer n s
  | .axCmdStop n value => Sys2Proof.Machine.execAxCmdStop n value s
  | .axCmdAbort n value => Sys2Proof.Machine.execAxCmdAbort n value s
  | .axCmdHome n value => Sys2Proof.Machine.execAxCmdHome n value s
  | .axCmdClr n value safeN fltN => Sys2Proof.Machine.execAxCmdClr n value safeN fltN s
  | .safeInputAssert k => Sys2Proof.Machine.execSafeInputAssert k s
  | .driverFault n => Sys2Proof.Machine.execDriverFault n s
  | .axLimit n positive => Sys2Proof.Machine.execAxLimit n positive s
  | .limitRelease n positive => Sys2Proof.Machine.execLimitRelease n positive s
  | .homeEdge n active => Sys2Proof.Machine.execHomeEdge n active s
  | .mntStart value => Sys2Proof.Machine.execMntStart value s
  | .mntStop value => Sys2Proof.Machine.execMntStop value s
  | .mntAbort value => Sys2Proof.Machine.execMntAbort value s
  | .activityStep a => Sys2Proof.Machine.execActivityStep a s
  | .mntAbortTimeout a => Sys2Proof.Machine.execMntAbortTimeout a s
  | .mntHostTimeout => Sys2Proof.Machine.execMntHostTimeout s
  | .mntHgo value => Sys2Proof.Machine.execMntHgo value s
  | .printGateChange => Sys2Proof.Machine.execPrintGateChange s
  | .writeDrain sub urgent => Sys2Proof.Machine.execWriteDrain sub urgent s
  | .refresh sub urgent hot => Sys2Proof.Machine.execRefresh sub urgent hot s
  | .mcCe h => Sys2Proof.Machine.execMcCe h s
  | .mcSpareMark sub value => Sys2Proof.Machine.execMcSpareMark sub value s
  | .patrolScrub => Sys2Proof.Machine.execPatrolScrub s
  | .rowActivate bank row cls rfm => Sys2Proof.Machine.execRowActivate bank row cls rfm s
  | .hammerWindowEnd => Sys2Proof.Machine.execHammerWindowEnd s
  | .selfRefreshEntry => Sys2Proof.Machine.execSelfRefreshEntry s
  | .selfRefreshExit => Sys2Proof.Machine.execSelfRefreshExit s
  | .zqCalibration rank => Sys2Proof.Machine.execZqCalibration rank s
  | .dqsOscCheck rank drift => Sys2Proof.Machine.execDqsOscCheck rank drift s
  | .mcRetrain value => Sys2Proof.Machine.execMcRetrain value s
  | .retrainDone => Sys2Proof.Machine.execRetrainDone s
  | .heartbeatSend => Sys2Proof.Machine.execHeartbeatSend s
  | .heartbeat rx seq h => Sys2Proof.Machine.execHeartbeat rx seq h s
  | .partnerWaitExpiry fenceLow => Sys2Proof.Machine.execPartnerWaitExpiry fenceLow s
  | .heartbeatMiss => Sys2Proof.Machine.execHeartbeatMiss s
  | .soloWaitExpiry => Sys2Proof.Machine.execSoloWaitExpiry s
  | .fault rx seq level source => Sys2Proof.Machine.execFault rx seq level source s
  | .faultHoldExpiry => Sys2Proof.Machine.execFaultHoldExpiry s
  | .twCmdPlan value => Sys2Proof.Machine.execTwCmdPlan value s
  | .planWaitEnd => Sys2Proof.Machine.execPlanWaitEnd s
  | .handover rx seq th lines => Sys2Proof.Machine.execHandover rx seq th lines s
  | .twPlanFail => Sys2Proof.Machine.execTwPlanFail s
  | .offer rx seq role => Sys2Proof.Machine.execOffer rx seq role s
  | .resign rx seq reason => Sys2Proof.Machine.execResign rx seq reason s
  | .journal rx seq j => Sys2Proof.Machine.execJournal rx seq j s
  | .cairnTake => Sys2Proof.Machine.execCairnTake s
  | .cairn rx seq c => Sys2Proof.Machine.execCairn rx seq c s
  | .cairnApply => Sys2Proof.Machine.execCairnApply s
  | .cairnAck rx seq cc => Sys2Proof.Machine.execCairnAck rx seq cc s
  | .gen rx seq g => Sys2Proof.Machine.execGen rx seq g s
  | .healthSend => Sys2Proof.Machine.execHealthSend s
  | .health rx seq h => Sys2Proof.Machine.execHealth rx seq h s
  | .summit rx seq => Sys2Proof.Machine.execSummit rx seq s
  | .summitTestDone pass => Sys2Proof.Machine.execSummitTestDone pass s
  | .summitResult rx seq pass => Sys2Proof.Machine.execSummitResult rx seq pass s
  | .lineFill rx seq lines last => Sys2Proof.Machine.execLineFill rx seq lines last s
  | .ringPortDown port => Sys2Proof.Machine.execRingPortDown port s
  | .ringPortUp port => Sys2Proof.Machine.execRingPortUp port s
  | .frameForward port f => Sys2Proof.Machine.execFrameForward port f s
  | .regOpRead nw addr => Sys2Proof.Machine.execRegOpRead nw addr s
  | .regOpWrite addr data => Sys2Proof.Machine.execRegOpWrite addr data s
  | .regOpRmw addr mask value => Sys2Proof.Machine.execRegOpRmw addr mask value s
  | .ringLinkDown port origin hops => Sys2Proof.Machine.execRingLinkDown port origin hops s
  | .ringReset port node bcast hops data => Sys2Proof.Machine.execRingReset port node bcast hops data s
  | .ptpSync m => Sys2Proof.Machine.execPtpSync m s
  | .ptpFollowUp m => Sys2Proof.Machine.execPtpFollowUp m s
  | .ptpDelayReq m => Sys2Proof.Machine.execPtpDelayReq m s
  | .ptpDelayResp m => Sys2Proof.Machine.execPtpDelayResp m s
  | .ptpPdelayReq m => Sys2Proof.Machine.execPtpPdelayReq m s
  | .ptpPdelayResp m => Sys2Proof.Machine.execPtpPdelayResp m s
  | .ptpPdelayRespFollowUp m => Sys2Proof.Machine.execPtpPdelayRespFollowUp m s
  | .ptpAnnounce m => Sys2Proof.Machine.execPtpAnnounce m s
  | .ptpAnnounceTimeout => Sys2Proof.Machine.execPtpAnnounceTimeout s
  | .ptpSyncTimeout => Sys2Proof.Machine.execPtpSyncTimeout s
  | .ptpSyncSend => Sys2Proof.Machine.execPtpSyncSend s
  | .ptpIncInt value => Sys2Proof.Machine.execPtpIncInt value s
  | .ptpAdj value => Sys2Proof.Machine.execPtpAdj value s
  | .ptpSet value => Sys2Proof.Machine.execPtpSet value s
  | .ptpHostSeq value => Sys2Proof.Machine.execPtpHostSeq value s
  | .tlArm t value => Sys2Proof.Machine.execTlArm t value s
  | .tlCancel t value => Sys2Proof.Machine.execTlCancel t value s
  | .timedLaunch t => Sys2Proof.Machine.execTimedLaunch t s
  | .crossStamp => Sys2Proof.Machine.execCrossStamp s
  | .tallySend => Sys2Proof.Machine.execTallySend s
  | .metEncoderEdge a b => Sys2Proof.Machine.execMetEncoderEdge a b s
  | .tallyFrame seq jobId drops um => Sys2Proof.Machine.execTallyFrame seq jobId drops um s
  | .mirrorUpdate => Sys2Proof.Machine.execMirrorUpdate s
  | .divergenceCheck => Sys2Proof.Machine.execDivergenceCheck s
  | .framCommit => Sys2Proof.Machine.execFramCommit s
  | .metPowerDown => Sys2Proof.Machine.execMetPowerDown s
  | .metPowerUp romOk => Sys2Proof.Machine.execMetPowerUp romOk s
  | .metWatchdogReset romOk => Sys2Proof.Machine.execMetWatchdogReset romOk s
  | .sealChange isOpen => Sys2Proof.Machine.execSealChange isOpen s
  | .ident r => Sys2Proof.Machine.execIdent r s
  | .totals r => Sys2Proof.Machine.execTotals r s
  | .readJob r recNo => Sys2Proof.Machine.execReadJob r recNo s
  | .readAudit r event => Sys2Proof.Machine.execReadAudit r event s
  | .ackJobs r recNo => Sys2Proof.Machine.execAckJobs r recNo s
  | .ackAudit r event => Sys2Proof.Machine.execAckAudit r event s
  | .jobStart r jobId => Sys2Proof.Machine.execJobStart r jobId s
  | .jobEnd r => Sys2Proof.Machine.execJobEnd r s
  | .setParam r id value => Sys2Proof.Machine.execSetParam r id value s
  | .setRtc r time => Sys2Proof.Machine.execSetRtc r time s
  | .resetMain r code => Sys2Proof.Machine.execResetMain r code s
  | .calLen r d c1 c2 tol => Sys2Proof.Machine.execCalLen r d c1 c2 tol s
  | .metStatusChange => Sys2Proof.Machine.execMetStatusChange s
  | .calStart value => Sys2Proof.Machine.execCalStart value s
  | .calMeasureEnd m => Sys2Proof.Machine.execCalMeasureEnd m s
  | .calEnter value => Sys2Proof.Machine.execCalEnter value s
  | .calCancel value => Sys2Proof.Machine.execCalCancel value s
  | .calHres value => Sys2Proof.Machine.execCalHres value s
  | .calHostMiss => Sys2Proof.Machine.execCalHostMiss s
  | .eventRelease et => Sys2Proof.Machine.execEventRelease et s
  | .pgAbort value => Sys2Proof.Machine.execPgAbort value s
  | .rstParkReq value => Sys2Proof.Machine.execRstParkReq value s
  | .rstParkRun value => Sys2Proof.Machine.execRstParkRun value s
  | .hostMiss => Sys2Proof.Machine.execHostMiss s
  | .registerWrite addr value => Sys2Proof.Machine.execRegisterWrite addr value s
  | .printPathResume => Sys2Proof.Machine.execPrintPathResume s
  | .spRestart p => Sys2Proof.Machine.execSpRestart p s
  | .headParamReply p rx data => Sys2Proof.Machine.execHeadParamReply p rx data s
  | .cairnStale => Sys2Proof.Machine.execCairnStale s

end Sys2Proof.Machine
end

