-- ==== Sys2Proof/Machine/Tick.lean ====
section
/-!
DEFINITION. What passes by itself in one FT tick of 2 ns: the timebases, what waits to be sent, and pulses that end.
-/
namespace Sys2Proof.Machine

/-- One col-link frame leaves, with its SEQ, counted per TYPE (R430, R431); while the link is not UP, what would leave is lost. -/
def State.drainCol (s : State) : State :=
  match s.colTx with
  | [] => s
  | m :: rest =>
    if ¬s.linkUp.contains 136 then { s with colTx := rest }
    else
    let q := Tab.get 0 s.twin.txSeq m.typ
    let t := { s with colTx := rest, twin := { s.twin with txSeq := Tab.insert m.typ ((q + 1) % 2 ^ 32) s.twin.txSeq } }
    t.send (.col { m with args := q :: m.args })

/-- TW_ROLE_N goes low at its time (R429). -/
def State.dropRoleN (s : State) : State :=
  match s.twin.roleLowAt with
  | some t => if t ≤ s.now then { s with pins := { s.pins with twRoleN := false }, twin := { s.twin with roleLowAt := none } } else s
  | none => s

/-- PTP_HOLD counts the milliseconds of HOLDOVER (R470). -/
def State.countHold (s : State) : State :=
  match s.ptp.holdAt with
  | some t => if (s.now - t) % us 1000 = 0 ∧ t < s.now then s.count PtpHold.count PtpHold.ovf 0 else s
  | none => s

/-- FT time runs while FT is qualified, PTP time while NT is, at 8 ns a cycle (Table 01-5, R468). -/
def State.passTime (s : State) : State :=
  let s := { s with now := s.now + 1, ft := if s.rst.qualified.getD 0 false then s.ft + 1 else s.ft }
  if s.rst.qualified.getD 4 false ∧ s.now % 4 = 0 then s.ptpCycle else s

/-- DESIGN CHOICE (log 3). -/
def State.tick (s : State) : State :=
  let s := (s.passTime.drainCol.startEgress 0).startEgress 1
  let s := s.dropRoleN.countHold
  let s := if s.flag MetStat.alive 0 then s.checkAlive else s
  s.pulsePins.trigPins

end Sys2Proof.Machine
end

