-- ==== Sys2Proof/Machine/Step.lean ====
section
/-!
DEFINITION. One step: the command at the front of the queue, or a tick where none waits.
-/
namespace Sys2Proof.Machine

/-- The command at the front acts on the state with the rest of the queue; with an empty queue 2 ns pass.
DESIGN CHOICE (log 3). DESIGN CHOICE (log 76). -/
def step (s : State) : Host.Outcome State Fault Refusal :=
  match s.pending with
  | c :: rest => exec c { s with pending := rest }
  | [] => .next s.tick

/-- The command that a word of the opcode table spells goes to the front of the queue. The table gives no row any bits, so no word
spells a command and the state is unchanged. DESIGN CHOICE (log 3). -/
def State.withFetchWord (s : State) (nbits w : Nat) : State :=
  match Sys2Proof.decodeTableWord nbits w with
  | some c => { s with pending := c :: s.pending }
  | none => s

end Sys2Proof.Machine
end

