-- ==== Sys2Proof/Safety.lean ====
section
/-!
DEFINITION. What the statements speak of: the canonical forms that every step keeps, and what a command leaves as it was.
-/
namespace Sys2Proof.Machine

/-- The register fields and the values in force are held in rising key order, and the DRAM the device writes in rising addresses. -/
abbrev State.wf (s : State) : Prop := Tab.rising s.regs = true ∧ Tab.rising s.force = true ∧ Memory.wf s.dram = true

/-- The lists that stand for a fixed number of like things have that many entries: pins, service processors, domains, rails, flash
devices, axes, lamps, pattern engines, cameras, contexts, encoders, latch inputs, SSI ports, decompressors, compressors, trace
buffers, ring ports and DRAM subchannels. -/
abbrev State.shaped (s : State) : Prop :=
  (s.pins.hdenN.length = 16 ∧ s.pins.lsEnN.length = 16 ∧ s.pins.lsGate.length = 16 ∧ s.pins.lsRef.length = 16 ∧
    s.pins.axEnN.length = 8 ∧ s.pins.axStep.length = 8 ∧ s.pins.axDir.length = 8 ∧ s.pins.axIref.length = 8 ∧
    s.pins.camTrig.length = 4 ∧ s.pins.camSel.length = 4 ∧ s.pins.safeInN.length = 4 ∧ s.pins.axFltN.length = 8 ∧
    s.pins.limP.length = 8 ∧ s.pins.limN.length = 8 ∧ s.pins.home.length = 8) ∧
  s.sps.length = 4 ∧ s.rst.qualified.length = 9 ∧ s.rst.warnAt.length = 7 ∧ s.img.flash.length = 2 ∧
  s.mot.axes.length = 8 ∧ s.light.lamps.length = 16 ∧ s.light.engines.length = 8 ∧ s.ins.ports.length = 4 ∧ s.ins.ctxs.length = 8 ∧
  s.posn.enc.length = 6 ∧ s.posn.latch.length = 12 ∧ s.posn.ssi.length = 2 ∧ s.codec.engines.length = 8 ∧ s.codec.cmx.length = 2 ∧
  s.loop.traces.length = 4 ∧ s.net.egress.length = 2 ∧ s.net.busy.length = 2 ∧
  s.net.wasDown.length = 2 ∧ s.net.launching.length = 2 ∧ s.ptp.linkDelay.length = 2 ∧ s.ptp.pdelay.length = 2 ∧
  s.mc.writes.length = 8 ∧ s.mc.postponed.length = 8

/-- Every register field keeps its content, but for the fields and elements that `p` names. -/
def FieldsKept (p : Fld → Nat → Bool) (s t : State) : Prop :=
  ∀ (r : Reg) (f : Fld) (i : Nat), f ∈ r.fields → p f i = false → t.get f i = s.get f i

/-- Recording an event may change EVT_LOST and EVT_WR (R503, R504). -/
def evtField (f : Fld) : Bool := f == EvtLost.count || f == EvtLost.ovf || f == EvtWr.v

/-- The fields of the list may change, and those that recording an event may change. -/
def only (l : List Fld) (f : Fld) (_ : Nat) : Bool := evtField f || l.contains f

/-- The same, of element `n` alone. -/
def onlyAt (l : List Fld) (n : Nat) (f : Fld) (i : Nat) : Bool := evtField f || (l.contains f && i == n)

/-- What a command to axis `n` may write: position, status and homing latch of that axis, the print gate, and the registers `l`. -/
def axisField (l : List Reg) (n : Nat) (f : Fld) (i : Nat) : Bool :=
  evtField f || f == MntStat.gate ||
  (i == n && ([Reg.axPosLo, .axPosHi, .axStat, .axVnow, .axHlatLo, .axHlatHi] ++ l).contains f.reg)

/-- What a command to the maintenance arbiter may write. -/
def motionField (f : Fld) (_ : Nat) : Bool :=
  evtField f || [Reg.axPosLo, .axPosHi, .axStat, .axVnow, .axHlatLo, .axHlatHi, .mntStat, .mntHstep].contains f.reg

/-- Registers whose write the chapters give a rule of its own. -/
def ruledRegs : List Reg :=
  [.scrCommit, .nmCommit, .scrThrCtl, .thrWin, .nmStage, .brLead, .ffDutyW0, .ffDutyW1, .ffScreeRd, .pgAbort, .dpCtrl, .rstCmd,
   .rstPark, .cfgFlCtrl, .monRail, .monPace, .evtRd, .lnCtrl, .lnMargin, .mcCtrl, .mcSpare, .twCmd, .ptpIncInt, .ptpAdj, .ptpSetNs,
   .ptpHostSeq, .tlCtrl, .calCmd, .calHres, .calRecTol, .fpeCtrl, .fpeScaleAHi, .fpeScaleBHi, .encCfg, .prbStat, .ssiTrig, .leCfg] ++
  [.leSched, .leSrc, .leRef, .leOmin, .leOmax, .leOpenVal, .leHostOut, .leHostSeq, .leB0, .leB1, .leB2, .leB3, .leA1, .leA2, .leA3,
   .leCsh0, .leCsh1, .leGctrl, .trcCfg, .trcDumpCtl, .camCfg, .camTrig, .ispCommit, .insCtrl, .insCap, .insResRd, .lmpCfg, .lmpLevel,
   .lmpSeg, .lmpCtrl, .patCtrl, .axCfg, .axCmd, .axTgtHi, .axAcc, .axDec, .mntCmd, .mntHgo, .mntPrintExcl, .mntPwinMin, .mntPwinMax]

/-- The outputs of Table 02-4 that have one safe level are at it. -/
def Pins.atSafe (p : Pins) : Prop :=
  (∀ b ∈ p.hdenN, b = true) ∧ (∀ b ∈ p.lsEnN, b = true) ∧ (∀ b ∈ p.lsGate, b = false) ∧ (∀ v ∈ p.lsRef, v = 0) ∧
  p.segClk = false ∧ p.segLat = false ∧ p.segDat = false ∧ (∀ b ∈ p.axEnN, b = true) ∧ (∀ b ∈ p.axStep, b = false) ∧
  (∀ v ∈ p.axIref, v = 0) ∧ p.spdAdvN = true ∧ p.twRoleN = true

/-- What a command records: the events of `t` are those of `s` with one more. -/
def Recorded (s t : State) (code : EvCode) (inst : Nat) (args : List EvArg) : Prop := t.ev = (s.record code inst args).ev

/-- A col-link message of the TYPE is taken: whole, its CRC good, and its SEQ the next of its TYPE (R430). -/
def ColTaken (s : State) (typ seq : Nat) (rx : Rx) : Prop :=
  s.solo = false ∧ rx.error = false ∧ rx.crcOk = true ∧ ∀ q, Tab.find s.twin.rxSeq typ = some q → seq = (q + 1) % 2 ^ 32

/-- Taking a message of the TYPE, with nothing else. -/
def State.heard (s : State) (typ seq : Nat) : State := { s with twin := { s.twin with rxSeq := Tab.insert typ seq s.twin.rxSeq } }

/-- What R441 says of a takeover: the new epoch, ACTIVE, the fence pulled low with the role pin 2 microseconds later, the takeover
counted, and its cause, epoch and time held. -/
def TookOver (s t : State) (cause : Nat) : Prop :=
  t.role = roleActive ∧ t.pins.fenceN = false ∧ t.flag TwStat.fenceOut 0 = true ∧ t.twin.roleLowAt = some (s.now + 1000) ∧
  t.get TwStat.epoch 0 = ((match s.twin.highEpoch with
    | some h => if newerEpoch h (s.get TwStat.epoch 0) then h else s.get TwStat.epoch 0
    | none => s.get TwStat.epoch 0) + 1) % 256 ∧
  t.get TwLastTo.cause 0 = cause ∧ t.get TwLastTo.epoch 0 = t.get TwStat.epoch 0 ∧
  t.get64 TwLastToTLo.v TwLastToTHi.v 0 = s.ft % 2 ^ 64 ∧
  t.get TwCntTakeover.count 0 = satAdd TwCntTakeover.count.width (s.get TwCntTakeover.count 0) 1

/-- The island's own commands: what reaches its pins, its supply and timers, and its readout. -/
def islandCommand : Instr → Bool
  | .metEncoderEdge _ _ | .tallyFrame _ _ _ _ | .mirrorUpdate | .divergenceCheck | .framCommit | .metPowerDown | .metPowerUp _
  | .metWatchdogReset _ | .sealChange _ | .ident _ | .totals _ | .readJob _ _ | .readAudit _ _ | .ackJobs _ _ | .ackAudit _ _
  | .jobStart _ _ | .jobEnd _ | .setParam _ _ _ | .setRtc _ _ | .resetMain _ _ | .calLen _ _ _ _ _ => true
  | _ => false

end Sys2Proof.Machine
end

