-- ==== Sys2Proof/WellFormed.lean ====
section
/-!
DEFINITION. Commands whose operands have the widths and lengths that the spec's frames, messages and registers give them. What an
operand's type already bounds is not asked again. The meanings are total: they answer for ill-formed operands too.
-/
namespace Sys2Proof

/-- The value has n bits. -/
def fits (n v : Nat) : Bool := decide (v < 2 ^ n)

/-- A signed value of n bits. -/
def fitsInt (n : Nat) (v : Int) : Bool := decide (-(2 ^ (n - 1) : Nat) ≤ v ∧ v < (2 ^ (n - 1) : Nat))

/-! ### Frames and messages -/

/-- Table 06-1: TYPE, CLASS and FLAGS are bytes, LEN is a multiple of 4 up to 8,192 and counts the payload. -/
def faongOk (k : Faong) : Bool :=
  fits 8 k.cls && fits 8 k.typ && fits 8 k.flags && fits 64 k.pseq && fits 32 k.arg && fits 32 k.pcrc &&
    decide (k.len % 4 = 0 ∧ k.len ≤ 8192) && k.payload.length == k.len

def digestOk (d : Digest) : Bool := fits 64 d.pseq && fits 16 (d.stripe.getD 0) && fits 32 d.clen && fits 32 d.crc

/-- Table 11-4. -/
def telemOk (m : Telem) : Bool :=
  fits 16 m.temp && fits 16 m.vdrive && fits 16 m.status && fits 16 m.fired && fits 8 m.eHi && fits 8 m.crcErr && fits 8 m.missed &&
    fits 32 m.lFired

/-- Table 11-2. -/
def ackOk (a : AckMsg) : Bool := fits 32 a.line && fits 32 a.crc && fits 8 a.epoch && fits 8 a.result && fits 8 a.free

/-- Table 11-5. -/
def helloOk (h : Hello) : Bool :=
  fits 16 h.proto && fits 16 h.family && fits 64 h.serial && fits 16 h.nozzles && fits 8 h.rows && fits 8 h.caps && fits 32 h.maxRate &&
    fits 32 h.hfw

/-- A DRAM address of 40 bits. -/
def ueOk (h : UeHit) : Bool := fits 40 h.addr && fits 64 h.pseq && fits 16 h.stripe && fits 32 h.line

/-- Table 18-3. -/
def heartbeatOk (h : Heartbeat) : Bool :=
  fits 8 h.role && fits 8 h.epoch && fits 8 h.pref && fits 16 h.nodeId && fits 16 h.unfit && fits 64 h.ft && fits 32 h.cc && fits 32 h.line

/-- A journal entry names each of the 128 ports. -/
def journalOk (j : JournalEntry) : Bool :=
  fits 32 j.line && j.ports.length == 128 && j.ports.all (fun p => decide (p.1 ≤ 2) && fits 32 p.2) &&
    j.withdrawals.all (fun w => decide (w.1 < 128))

/-- A cairn names 8 axes, 16 strings, 8 engines and 8 contexts. -/
def cairnOk (c : Cairn) : Bool :=
  fits 32 c.cc && c.slots.all (fun x => decide (x.slot < 176)) && c.axes.length == 8 && c.lamps.length == 16 && c.patterns.length == 8 &&
    c.insGens.length == 8 && c.tseqs.length == 8 && c.usage.all (fun u => decide (u.1 < 128) && u.2.length == 7) && c.modes.length == 7

/-- Table 19-1. -/
def ringFrameOk (f : RingFrame) : Bool :=
  fits 48 f.dst && fits 48 f.src && (match f.body with
    | .request node _ _ hops seq ops => fits 14 node && fits 8 hops && fits 16 seq && ops.all (fun o => fits 8 o.1 && fits 16 o.2)
    | .ring opc node _ hops origin _ => fits 8 opc && fits 14 node && fits 8 hops && fits 48 origin
    | .other kind hops => fits 8 kind && fits 8 hops
    | .ptp _ kind => fits 4 kind
    | .foreign => true)

/-- IEEE 1588 fields: domainNumber, sequenceId, 48-bit seconds and nanoseconds as one count of ns. -/
def ptpOk (m : PtpMsg) : Bool := fits 8 m.domain && fits 16 m.seqId && fitsInt 64 m.correction && decide (m.time < 2 ^ 48 * 1000000000)

def announceOk (m : PtpAnnounce) : Bool := fits 8 m.domain && m.dataset.length == 6 && fits 16 m.steps

/-! ### Commands -/

def Instr.wellFormed : Instr → Bool
  | .paceCcUpdate used => used.length == 16
  | .regWrite pairs => pairs.all (fun p => fits 32 p.1)
  | .regRmw ts => ts.all (fun t => fits 32 t.1)
  | .tableLoad a _ => fits 32 a
  | .thrArray _ w h cells =>
    decide (1 ≤ w ∧ w ≤ 256 ∧ 1 ≤ h ∧ h ≤ 256) && cells.length == w * h && cells.all (fun c => c.length == 4)
  | .headTable mask kind _ => fits 128 mask && decide (kind ≤ 2)
  | .wait a _ _ _ => fits 32 a
  | .fuseProgram hash _ _ => hash.length == 32
  | .railWarnEnter _ mv | .railWarnClear _ mv | .railResetLevel _ mv => fits 16 mv
  | .laneLockLoss _ cv => fits 16 cv
  | .tsReceive _ status seq chk _ => fits 8 status && fits 8 seq && fits 8 chk
  | .lmkReceive _ status _ => fits 8 status
  | .pageSchedule line | .screenLine line | .frameAssemble _ line | .fetchDeadline _ line | .stampIssue _ line | .lineDecision line
  | .ackTimeout _ line | .hpLineLost _ line => fits 32 line
  | .startDeferTimeout pseq => fits 64 pseq
  | .pageDesc k | .stripeData k | .stripeEnd k | .cancel k | .abortIngest k | .sync k => faongOk k
  | .digestReceive _ seq d => fits 32 seq && digestOk d
  | .fillinTimer pseq stripe => fits 64 pseq && fits 16 stripe
  | .fillReq _ seq pseq stripe => fits 32 seq && fits 64 pseq && fits 16 stripe
  | .fillData _ seq pseq stripe _ _ => fits 32 seq && fits 64 pseq && fits 16 stripe
  | .screeEntryClose pseq kind port noz => fits 64 pseq && fits 8 kind && fits 8 port && fits 16 noz
  | .echoReq _ t0 => fits 56 t0
  | .echoRsp _ _ id hold t3 => fits 16 id && fits 32 hold && fits 56 t3
  | .telem _ m => telemOk m
  | .ack _ a => ackOk a
  | .hello _ h => helloOk h
  | .response _ _ serial family tag => fits 64 serial && fits 16 family && tag.length == 32
  | .usage _ _ seq counts tag => fits 32 seq && counts.length == 7 && tag.length == 32
  | .mack _ _ op status => fits 8 op && fits 8 status
  | .mcUe h => ueOk h
  | .mcCe h => fits 40 h.addr
  | .camFrameEnd _ rows => match rows with
    | [] => true
    | r :: rs => rs.all (fun x => x.length == r.length)
  | .segChainShift readback => fits 256 readback
  | .segLatch before after => before.length == 16 && after.length == 16
  | .lampDiagCheck _ isense vsense => fits 12 isense && fits 12 vsense
  | .lampTempComp ntc => ntc.length == 8
  | .axCmdClr _ _ safeN _ => safeN.length == 4
  | .rowActivate _ row _ _ => fits 17 row
  | .heartbeat _ seq h => fits 32 seq && heartbeatOk h
  | .fault _ seq level source => fits 32 seq && fits 2 level && fits 4 source
  | .handover _ seq th lines => fits 32 seq && fits 48 th && lines.length == 128
  | .offer _ seq role => fits 32 seq && decide (role ≤ 4)
  | .resign _ seq reason => fits 32 seq && fits 8 reason
  | .journal _ seq j => fits 32 seq && journalOk j
  | .cairn _ seq c => fits 32 seq && cairnOk c
  | .cairnAck _ seq cc => fits 32 seq && fits 32 cc
  | .gen _ seq g => fits 32 seq && g.words.all (fun w => fits 32 w.1)
  | .health _ seq h => fits 32 seq && fits 16 h.unfit && fits 64 h.imageGen && fits 16 h.colProto && fits 32 h.cfgCrc
  | .summit _ seq | .summitResult _ seq _ => fits 32 seq
  | .lineFill _ seq lines _ => fits 32 seq && lines.all (fun l => fits 32 l.1)
  | .frameForward _ f => ringFrameOk f
  | .regOpRead nw addr => fits 16 nw && fits 32 addr
  | .regOpWrite addr _ | .regOpRmw addr _ _ | .registerWrite addr _ => fits 32 addr
  | .ringLinkDown _ origin hops => fits 48 origin && fits 8 hops
  | .ringReset _ node _ hops _ => fits 14 node && fits 8 hops
  | .ptpSync m | .ptpFollowUp m | .ptpDelayReq m | .ptpDelayResp m | .ptpPdelayReq m | .ptpPdelayResp m
  | .ptpPdelayRespFollowUp m => ptpOk m
  | .ptpAnnounce m => announceOk m
  | .tallyFrame seq jobId drops um => fits 32 seq && fits 32 jobId && drops.length == 7 && fits 64 um
  | .ident r | .totals r | .jobEnd r => fits 8 r.seq
  | .readJob r n | .ackJobs r n | .jobStart r n => fits 8 r.seq && fits 32 n
  | .readAudit r e | .ackAudit r e | .setRtc r e => fits 8 r.seq && fits 64 e
  | .setParam r id value => fits 8 r.seq && fits 8 id && fits 32 value
  | .resetMain r code => fits 8 r.seq && fits 16 code
  | .calLen r d c1 c2 tol => fits 8 r.seq && fits 64 d && fits 64 c1 && fits 64 c2 && fits 32 tol
  | .eventRelease et => fits 48 et
  | _ => true

end Sys2Proof
end

