-- ==== Sys2Proof/Certificates/Slice0/Obligations.lean ====
section
/-!
DEFINITION. The statements about the model, for the provers.
-/
open Sys2Proof Sys2Proof.Machine

/-- A step runs the command at the front of the queue on the state with the rest of the queue -/
def Obligations.StepTakesFrontCommand : Prop :=
  ∀ (c : Instr) (rest : List Instr) (s : State), step { s with pending := c :: rest } = exec c { s with pending := rest }

/-- No command faults and none is refused -/
def Obligations.EveryCommandAnswersNextState : Prop :=
  ∀ (c : Instr) (s : State), ∃ t, exec c s = .next t

/-- With no command waiting a step is one FT tick -/
def Obligations.IdleStepPassesOneTick : Prop :=
  ∀ s : State, s.pending = [] → ∃ t, step s = .next t ∧ t.now = s.now + 1 ∧
    t.ft = (if s.rst.qualified.getD 0 false then s.ft + 1 else s.ft) ∧ t.pending = [] ∧ t.pages = s.pages ∧ t.loop = s.loop ∧
    t.scr = s.scr ∧ t.mot = s.mot ∧ t.met = s.met ∧ t.dram = s.dram ∧ t.img = s.img

/-- The state after reset is in canonical form and has its fixed numbers of like things -/
def Obligations.ResetHasCanonicalForms : Prop :=
  State.reset.wf ∧ State.reset.shaped

/-- Every step keeps the canonical forms of registers, values in force and DRAM -/
def Obligations.StepKeepsCanonicalForms : Prop :=
  ∀ s t : State, s.wf → step s = .next t → t.wf

/-- Every step keeps the number of pins, axes, lamps, cameras, encoders, ports and subchannels -/
def Obligations.StepKeepsShape : Prop :=
  ∀ s t : State, s.shaped → step s = .next t → t.shaped

/-- Pace monitors: USED, USED_MAX, WARN, OVER and MAX_CLR -/
def Obligations.PaceMonitors : Prop :=
  (∀ (used : List Nat) (s : State), ∃ t, exec (.paceCcUpdate used) s = .next t ∧ t = { s with regs := t.regs, ev := t.ev } ∧
    FieldsKept (only [MonPace.used, MonPace.usedMax, MonPace.warn, MonPace.over]) s t ∧
    (∀ n, n < 16 → t.get MonPace.used n = min 255 (used.getD n 0) ∧
      t.get MonPace.usedMax n = max (min 255 (used.getD n 0)) (s.get MonPace.usedMax n) ∧
      t.flag MonPace.warn n = (s.flag MonPace.warn n || decide (s.get MonPace.warnPct n < min 255 (used.getD n 0))) ∧
      t.flag MonPace.over n = (s.flag MonPace.over n || decide (100 < used.getD n 0))) ∧
    ((∀ n, n < 16 → t.flag MonPace.warn n = s.flag MonPace.warn n ∧ t.flag MonPace.over n = s.flag MonPace.over n) → t.ev = s.ev)) ∧
  (∀ (n : Fin 16) (s : State), ∃ t, exec (.monPaceMaxClr n) s = .next t ∧ t = { s with regs := t.regs } ∧
    FieldsKept (onlyAt [MonPace.usedMax] n) s t ∧ t.get MonPace.usedMax n = 0)

/-- Each reset source starts a stretched reset at its mapped level. Choices and readings of the model that it rests on: log 16, 17, 18. -/
def Obligations.ResetSourcesStartStretch : Prop :=
  ∀ s : State, s.rst.stretch = false → s.twin.faultHold = none → s.role ≠ roleActive → s.operating = true →
    (∀ n : Fin 16, ∃ t, exec (.paceWatchdog n) s = .next t ∧ t.rst.stretch = true ∧ t.pins.resetN = false ∧ t.rst.sources = [5] ∧
      t.rst.level = s.fuseLevel 5) ∧
    (∀ p : Fin 4, ∃ t, exec (.spWatchdogReset p) s = .next t ∧ t.rst.stretch = true ∧ t.pins.resetN = false ∧ t.rst.sources = [4] ∧
      t.rst.level = s.fuseLevel 4 ∧ (s.fuseLevel 4 = 3 → t.rst.targets = [(5, p.val)] ∧ (s.shaped → t.spUp p = false))) ∧
    (∀ ns : Nat, 400 ≤ ns → s.pins.resetN = true → s.rst.endAt + us 2 ≤ s.now → ∃ t, exec (.resetNAssert ns) s = .next t ∧
      t.rst.stretch = true ∧ t.pins.resetN = false ∧ t.rst.sources = [3] ∧ t.rst.level = s.fuseLevel 3) ∧
    (∀ tj : Word, 2000 < signed 12 (tj.toNat % 4096) → ∃ t, exec (.thermalTrip tj) s = .next t ∧ t.rst.stretch = true ∧
      t.pins.resetN = false ∧ t.rst.sources = [6] ∧ t.rst.level = s.fuseLevel 6 ∧ t.rst.active.contains 6 = true) ∧
    (s.solo = false → ∃ t, exec .twinResetCommand s = .next t ∧ t.rst.stretch = true ∧ t.pins.resetN = false ∧ t.rst.sources = [7] ∧
      t.rst.level = s.fuseLevel 7) ∧
    (∃ t, exec .jtagReset s = .next t ∧ t.rst.stretch = true ∧ t.pins.resetN = false ∧ t.rst.sources = [13] ∧ t.rst.level = 0) ∧
    (∀ mv : Nat, mv < 620 → ∃ t, exec (.railResetLevel 0 mv) s = .next t ∧ t.rst.stretch = true ∧ t.pins.resetN = false ∧
      t.rst.sources = [1] ∧ t.rst.level = s.fuseLevel 1 ∧ t.rst.active.contains 1 = true) ∧
    (∀ mv : Nat, mv < 740 → ∃ t, exec (.railResetLevel 1 mv) s = .next t ∧ t.rst.stretch = true ∧ t.pins.resetN = false ∧
      t.rst.sources = [10] ∧ t.rst.level = s.fuseLevel 10 ∧ t.rst.active.contains 10 = true) ∧
    (∀ mv : Nat, mv < 2850 → ∃ t, exec (.railResetLevel 2 mv) s = .next t ∧ t.rst.stretch = true ∧ t.pins.resetN = false ∧
      t.rst.sources = [2] ∧ t.rst.level = s.fuseLevel 2 ∧ t.rst.active.contains 2 = true) ∧
    (s.rst.qualified.getD 0 false = true → ∃ t, exec (.domainClkLost 0) s = .next t ∧ t.rst.stretch = true ∧ t.pins.resetN = false ∧
      t.rst.sources = [10] ∧ t.rst.level = s.fuseLevel 10 ∧ t.rst.qualified.getD 0 false = false)

/-- TW_FENCE_IN_N low puts every output of Table 02-4 at its safe level; its return changes no output -/
def Obligations.FenceInputForcesSafeOutputs : Prop :=
  (∀ s : State, s.committed = true → s.twin.faultHold = none → s.role ≠ roleActive → ∃ t, exec .fenceInAssert s = .next t ∧
    t.pins.fenceInN = false ∧ t.flag TwStat.fenceIn 0 = true ∧ t.pins.atSafe ∧ t.pins.axDir = s.pins.axDir ∧ t.role = s.role ∧
    t.pages = s.pages ∧ t.dram = s.dram ∧ t.rst = s.rst) ∧
  (∀ s : State, s.committed = true → s.twin.faultHold = none → s.role = roleActive → ∃ t, exec .fenceInAssert s = .next t ∧
    t.pins.fenceInN = false ∧ t.flag TwStat.fenceIn 0 = true ∧ t.role = roleFenced ∧ t.unfitBit unfitFenced = true ∧
    t.pins.atSafe ∧ t.pins.fenceN = true ∧ t.pages = s.pages ∧ t.dram = s.dram ∧ t.rst = s.rst) ∧
  (∀ s : State, ∃ t, exec .fenceInRelease s = .next t ∧ t = { s with regs := t.regs, pins := { s.pins with fenceInN := true } } ∧
    t.flag TwStat.fenceIn 0 = false ∧ FieldsKept (only [TwStat.fenceIn]) s t)

/-- A write of RST_CMD with a wrong KEY, a reserved CLASS or an instance out of range only records RST_CMD_REJECT -/
def Obligations.RejectedResetCommandHasNoEffect : Prop :=
  ∀ (value : Word) (s : State),
    (value.toNat / 65536 ≠ 0x7128 ∨ 6 ≤ value.toNat / 4 % 8 ∨ [128, 8, 4, 16, 176, 4].getD (value.toNat / 4 % 8) 0 ≤ value.toNat / 32 % 256) →
    exec (.rstCmdLevel value) s = .next (s.record .rstCmdReject 0 [a32 value.toNat]) ∧
    exec (.foothillClr value) s = .next (s.record .rstCmdReject 0 [a32 value.toNat])

/-- A keyed write of RST_CMD resets at its level within the cap of the fuse; FOOTHILL_CLR leaves Foothill. Choices and readings of the model that it rests on: log 16, 17. -/
def Obligations.ResetCommandRaisesSource : Prop :=
  (∀ (value : Word) (s : State), s.rst.stretch = false → s.twin.faultHold = none → s.role ≠ roleActive → s.operating = true →
    s.img.applying = false → keyOk value = true → RstCmd.inst.of value < classSize (RstCmd.class_.of value) →
    ∃ t, exec (.rstCmdLevel value) s = .next t ∧ t.rst.stretch = true ∧ t.pins.resetN = false ∧ t.rst.sources = [8] ∧
      t.rst.level = max (RstCmd.level.of value) (s.fuseLevel 8) ∧
      (RstCmd.level.of value = 3 → t.rst.targets = [(RstCmd.class_.of value, RstCmd.inst.of value)])) ∧
  (∀ (value : Word) (s : State), s.rst.stretch = false → s.twin.faultHold = none → s.get RstStatus.state 0 = 3 → keyOk value = true →
    RstCmd.inst.of value < classSize (RstCmd.class_.of value) → RstCmd.foothillClr.of value = 1 →
    ∃ t, exec (.foothillClr value) s = .next t ∧ t.rst.stretch = true ∧ t.pins.resetN = false ∧ t.rst.sources = [8] ∧ t.rst.level = 0 ∧
      t.get RstStart.failcnt 0 = 0)

/-- POR clears the main die with its AON retention and leaves the island, the fuses and the flash; its release ends source 0. Choices and readings of the model that it rests on: log 1, 2. -/
def Obligations.PowerOnResetClearsRetention : Prop :=
  (∀ s : State, ∃ t, exec (.powerOnReset false) s = .next t ∧ t.rst.active.contains 0 = true ∧ t.rst.stretch = true ∧
    t.pins.resetN = false ∧ t.pins.phase = .powerRamp ∧ t.met = s.met ∧ t.img.keyHash = s.img.keyHash ∧ t.img.flash = s.img.flash ∧
    t.ev = EventSt.reset ∧ t.pages = [] ∧ t.dram = [] ∧ t.scr = ScreenSt.reset ∧ t.get RstStart.failcnt 0 = 0 ∧
    (∀ n, t.get RstHist.cause n = 0) ∧ t.get RstStatus.cause 0 = RstStatus.cause.rst ∧ t.pending = s.pending ∧
    (∀ f ∈ Reg.rstFuseMap.fields, t.get f 0 = s.get f 0) ∧ t.get CfgStatus.fuseLock 0 = s.get CfgStatus.fuseLock 0) ∧
  (∀ s : State, ∃ t, exec (.powerOnReset true) s = .next t ∧ t.rst.active.contains 0 = false ∧
    (∀ n, n ≠ 0 → t.rst.active.contains n = s.rst.active.contains n) ∧ t = { s with rst := t.rst, pins := t.pins } ∧
    t.rst.stretch = s.rst.stretch)

/-- At the end of a stretch RST_STATUS is rewritten and RST_HIST takes the reset. Choices and readings of the model that it rests on: log 15. -/
def Obligations.StretchEndRewritesStatusAndHistory : Prop :=
  ∀ (bootPin : Bool) (s : State), s.rst.stretch = true → s.rst.active = [] → s.rst.level ≤ 3 →
    ∃ t, exec (.resetStretchEnd bootPin) s = .next t ∧ t.rst.stretch = false ∧ t.pins.resetN = true ∧
      t.get RstStatus.cause 0 = sourceMask s.rst.sources % 2 ^ 16 ∧ t.get RstStatus.level 0 = s.rst.level ∧
      t.flag RstStatus.psKept 0 = (decide (2 ≤ s.rst.level) || (decide (s.rst.level = 1) && s.rst.psKept)) ∧
      (s.rst.level ≤ 1 → t.get RstStatus.degraded 0 = 0 ∧ t.get RstStatus.clkFail 0 = 0) ∧
      (2 ≤ s.rst.level → t.get RstStatus.degraded 0 = s.get RstStatus.degraded 0 ∧ t.get RstStatus.clkFail 0 = s.get RstStatus.clkFail 0) ∧
      t.get RstHist.cause 0 = sourceMask s.rst.sources % 2 ^ 16 ∧ t.get RstHist.level 0 = s.rst.level ∧
      t.get RstHist.stage 0 = s.rst.stageAt % 16 ∧ t.flag RstHist.timeout 0 = s.rst.timeout ∧ t.get RstHist.seq 0 = s.rst.seq % 512 ∧
      (∀ n, n < 15 → ∀ f ∈ Reg.rstHist.fields, t.get f (n + 1) = s.get f n)

/-- Domains qualify, fail to qualify, and are lost. Choices and readings of the model that it rests on: log 15, 74. -/
def Obligations.ClockQualification : Prop :=
  (∀ (d : Fin 9) (s : State), s.shaped → s.rst.stretch = false → (s.rst.stage ≠ 1 ∨ s.get RstStatus.state 0 ≠ 0) →
    s.rst.qualified.getD d.val true = false → ∃ t, exec (.clockQualified d) s = .next t ∧ t.rst.qualified.getD d.val false = true ∧
      (d.val = 0 → t.ft = 0) ∧ (d.val ≠ 0 → t.ft = s.ft)) ∧
  (∀ (d : Fin 9) (s : State), s.rst.stretch = false → s.rst.qualified.getD d.val true = false →
    ∃ t, exec (.clockQualTimeout d) s = .next t ∧ t.rst.qualified = s.rst.qualified ∧ t.flag RstStatus.degraded 0 = true ∧
      t.get RstStatus.clkFail 0 / 2 ^ d.val % 2 = 1 ∧ t.unfitBit unfitDegraded = true ∧ t.pins = s.pins ∧ t.pages = s.pages) ∧
  (∀ (d : Fin 9) (s : State), d.val ≠ 0 → s.rst.qualified.getD d.val false = true →
    ∃ t, exec (.domainClkLost d) s = .next t ∧ t.rst.qualified.getD d.val false = false ∧ t.rst.stretch = s.rst.stretch ∧
      (d.val = 1 → t.scr.ring = []) ∧ (d.val = 2 → t.isUp 128 = false ∧ t.isUp 136 = false) ∧
      (d.val = 3 → ∀ p, p < 128 → t.isUp p = false) ∧ (d.val = 4 → t.flag NetStat.eUp 0 = false ∧ t.flag NetStat.wUp 0 = false))

/-- Option read, image checks, DRAM training, and the resumption of the print path and of a service processor. Choices and readings of the model that it rests on: log 15, 20, 21. -/
def Obligations.StartRunsThroughItsSteps : Prop :=
  (∀ (s : State) (o : OptionBlock), s.rst.stretch = false → s.rst.stage = 1 → s.pins.phase = .optionRead →
    parseOption (s.flashBytes s.img.bootDev 0 64) = some o → o.forcedFoothill = false → ∃ t, exec .optionBlockReadDone s = .next t ∧
      t.img.ob = some o ∧ t.pins.phase = .imageLoad ∧ 2 ≤ t.rst.stage ∧ t.get SysNode.nodeId 0 = o.nodeId % 2 ^ 14) ∧
  (∀ s : State, s.rst.stretch = false → s.rst.stage = 1 → s.pins.phase = .optionRead →
    parseOption (s.flashBytes s.img.bootDev 0 64) = none → parseOption (s.flashBytes (1 - s.img.bootDev) 0 64) = none →
    ∃ t, exec .optionBlockReadDone s = .next t ∧ t.pins.phase = .foothill ∧ t.get RstStatus.state 0 = 3 ∧ t.pins.atSafe ∧
      t.get SysNode.nodeId 0 = 0x3FFF ∧ t.get SysNode.ethertype 0 = 0x88B5 ∧ t.rst.starting = false) ∧
  (∀ (s : State) (o : OptionBlock), s.img.ob = some o → s.rst.stretch = false → s.rst.stage = 3 → s.pins.phase = .imageLoad →
    s.rst.qualified.getD 1 false = true → s.slotFail (s.firstSlot o) = 0 → ∃ t, exec .imageReadDone s = .next t ∧
      t.get CfgStatus.slot 0 = s.firstSlot o % 2 ∧ t.get64 CfgGenLo.v CfgGenHi.v 0 = s.headerGen (s.firstSlot o) % 2 ^ 64 ∧
      t.rst.stage = 4 ∧ t.get McStat.state 0 = 1 ∧ t.pins.ddrResetN = true) ∧
  (∀ (s : State) (o : OptionBlock) (x : Training), s.img.ob = some o → s.rst.stretch = false → s.rst.stage = 4 → x.failed ≤ o.speed →
    o.speed ≤ 2 → ∃ t, exec (.dramTrainingDone x) s = .next t ∧ t.get McStat.state 0 = 2 ∧ t.get McCfg.speed 0 = o.speed - x.failed ∧
      t.get McCfg.density 0 = x.density % 2 ∧ t.get McCfg.ranks2 0 = x.ranks % 2 ∧ t.img.applying = true ∧ t.img.recIdx = 0) ∧
  (∀ s : State, s.rst.pathDown = true → s.rst.stretch = false → s.pins.phase = .configured → ∃ t, exec .printPathResume s = .next t ∧
    t.rst.pathDown = false ∧ t.get RstStatus.state 0 = 1 ∧ t.rst.stage = 0) ∧
  (∀ (p : Fin 4) (s : State), s.shaped → s.spUp p.val = false → ∃ t, exec (.spRestart p) s = .next t ∧ t.spUp p.val = true ∧
    (∀ q, q ≠ p.val → t.spUp q = s.spUp q) ∧ t.pins = s.pins ∧ t.rst = s.rst)

/-- A start that times out raises source 12 with START_TIMEOUT and counts as failed; 60 s of RUN clear the count. Choices and readings of the model that it rests on: log 17. -/
def Obligations.FailedStartsAreCounted : Prop :=
  (∀ s : State, s.rst.starting = true → s.rst.stretch = false → ∃ t, exec .startTimeout s = .next t ∧ t.rst.stretch = true ∧
    t.rst.level ≤ 1 ∧ t.rst.sources.contains 12 = true ∧ t.rst.timeout = true ∧ t.rst.starting = false ∧
    t.get RstStart.failcnt 0 = min 3 (s.get RstStart.failcnt 0 + 1)) ∧
  (∀ s : State, s.running = true → ∃ t, exec .failedStartClear s = .next t ∧ t = { s with regs := t.regs } ∧
    t.get RstStart.failcnt 0 = 0 ∧ FieldsKept (only [RstStart.failcnt]) s t)

/-- Supply and temperature warnings: entry, end, hold time, trackers, and the rails of the MC and lane domains. Choices and readings of the model that it rests on: log 23, 24, 25, 73. -/
def Obligations.SupplyAndTemperatureMonitors : Prop :=
  (∀ (r : Fin 6) (mv : Nat) (s : State), mv < railWarnMv.getD r.val 0 → s.flag MonRail.warn r.val = false →
    ∃ t, exec (.railWarnEnter r mv) s = .next t ∧ t.flag MonRail.warn r.val = true ∧ t.flag MonRail.wseen r.val = true ∧
      t.get MonRail.dur r.val = 0 ∧ t.get MonRail.vmin r.val = min (s.get MonRail.vmin r.val) mv ∧ t.unfitBit unfitWarn = true ∧
      Recorded s t .vwarn r.val [] ∧ t = { s with regs := t.regs, ev := t.ev, rst := { s.rst with warnAt := t.rst.warnAt } } ∧
      FieldsKept (fun f i => onlyAt [MonRail.warn, MonRail.wseen, MonRail.dur, MonRail.vmin] r.val f i || f == TwStat.unfit) s t) ∧
  (∀ (r : Fin 6) (mv : Nat) (s : State), mv < 4096 → s.flag MonRail.warn r.val = true → s.rst.low.contains r.val = false →
    ∃ t, exec (.railWarnClear r mv) s = .next t ∧ t.flag MonRail.warn r.val = false ∧
      t.get MonRail.vmin r.val = min (s.get MonRail.vmin r.val) mv ∧
      t.get MonRail.dur r.val = min ((s.now - s.rst.warnAt.getD r.val 0) / us 10) (2 ^ 15 - 1) ∧ t.rst = s.rst ∧ t.pins = s.pins) ∧
  (∀ (r : Fin 6) (s : State), s.flag MonRail.warn r.val = true → s.flag MonCtrl.takeoverEn 0 = true → s.role = roleActive →
    s.partnerFit = true → s.twin.plan = none → s.twin.handed = none → ∃ t, exec (.vwarnHoldExpiry r) s = .next t ∧
      t = { s with twin := { s.twin with plan := some (false, s.now) } }) ∧
  (∀ s : State, s.flag MonTemp.tw 0 = true → s.flag MonCtrl.takeoverEn 0 = true → s.role = roleActive → s.partnerFit = true →
    s.twin.plan = none → s.twin.handed = none → ∃ t, exec .tempWarnHoldExpiry s = .next t ∧
      t = { s with twin := { s.twin with plan := some (false, s.now) } }) ∧
  (∀ (s : State) (r : Fin 6), (s.flag MonCtrl.takeoverEn 0 = false ∨ s.role ≠ roleActive ∨ s.partnerFit = false) →
    exec (.vwarnHoldExpiry r) s = .next s ∧ exec .tempWarnHoldExpiry s = .next s) ∧
  (∀ (tj : Word) (s : State), 16 * (s.get MonTemp.twarn 0 : Int) < signed 12 (tj.toNat % 4096) → s.get MonTemp.tw 0 = 0 →
    ∃ t, exec (.tempWarnEnter tj) s = .next t ∧ t.flag MonTemp.tw 0 = true ∧ t.flag MonTemp.twseen 0 = true ∧
      t.get MonTemp.tj 0 = tj.toNat % 4096 ∧ t.unfitBit unfitWarn = true ∧ t.pins = s.pins) ∧
  (∀ (tj : Word) (s : State), signed 12 (tj.toNat % 4096) ≤ 16 * (s.get MonTemp.twarn 0 : Int) - 48 →
    ∃ t, exec (.tempWarnEnd tj) s = .next t ∧ t.flag MonTemp.tw 0 = false ∧ t.get MonTemp.tj 0 = tj.toNat % 4096 ∧ t.pins = s.pins) ∧
  (∀ (r : Fin 6) (s : State), ∃ t, exec (.monRailTrkClr r) s = .next t ∧ t = { s with regs := t.regs } ∧
    t.get MonRail.vmin r.val = 0xFFF ∧ t.get MonRail.dur r.val = 0 ∧ FieldsKept (onlyAt [MonRail.vmin, MonRail.dur] r.val) s t) ∧
  (∀ (mv : Nat) (s : State), mv < 1000 → s.rst.qualified.getD 1 false = true → ∃ t, exec (.railResetLevel 3 mv) s = .next t ∧
    t.rst.qualified.getD 1 false = false ∧ t.flag MonRail.rseen 3 = true ∧ t.rst.low.contains 3 = true) ∧
  (∀ (mv : Nat) (s : State), mv < 770 → ∃ t, exec (.railResetLevel 4 mv) s = .next t ∧ t.rst.qualified.getD 2 false = false ∧
    t.rst.qualified.getD 3 false = false ∧ t.flag MonRail.rseen 4 = true ∧ t.rst.low.contains 4 = true)

/-- Every element of every register array has an address of its own in the map, and that address names it -/
def Obligations.EveryElementHasItsAddress : Prop :=
  ∀ (r : Reg) (i : Nat), i < r.count → inMap (r.addr i) = true ∧ Reg.ofAddr (r.addr i) = some (r, i)

/-- A write of a register without a rule of its own: RW and RWS take their bits, W1C clears, RO stays. Choices and readings of the model that it rests on: log 11, 69. -/
def Obligations.PlainRegisterWrite : Prop :=
  (∀ (r : Reg) (i : Nat) (w : Word) (s : State), ruledRegs.contains r = false → counterLayout r = false →
    (ctbStaged r = true → s.get ScrCommit.busy 0 = 0) → (nmStaged r = true → s.get NmCommit.busy 0 = 0) →
    inMap (r.addr i) = true → Reg.ofAddr (r.addr i) = some (r, i) → (s.get RstStatus.state 0 ≠ 3 ∨ r.addr i < 0x30000) →
    ∃ t, exec (.registerWrite (r.addr i) w) s = .next t ∧ t = { s with regs := t.regs, snap := Tab.erase (r.addr i) s.snap } ∧
      FieldsKept (fun f j => r.fields.contains f && j == i) s t ∧
      (∀ f ∈ r.fields, t.get f i = match f.acc with
        | .rw | .rws => if f.legal (f.of w) then f.of w else s.get f i
        | .w1c => s.get f i - (s.get f i &&& f.of w)
        | .ro | .wo => s.get f i)) ∧
  (∀ (a : Nat) (w : Word) (s : State),
    (inMap a = false ∨ Reg.ofAddr a = none ∨ (s.get RstStatus.state 0 = 3 ∧ 0x30000 ≤ a)) → exec (.registerWrite a w) s = .next s)

/-- REG_WRITE, REG_RMW and TABLE_LOAD write in order; the first write that the map does not allow fails the slot; WAIT. Choices and readings of the model that it rests on: log 4, 20. -/
def Obligations.RecordsAreAppliedInOrder : Prop :=
  (∀ (pairs : List (Nat × Word)) (s : State), s.img.applying = true → (∀ x ∈ pairs, recordOk x.1 x.2 = true) →
    exec (.regWrite pairs) s = .next (pairs.foldl (fun u x => u.writeAddr x.1 x.2) s).nextRecord) ∧
  (∀ (a : Nat) (data : List Word) (s : State), s.img.applying = true →
    (∀ k, k < data.length → recordOk (a + 4 * k) (data.getD k 0) = true) →
    exec (.tableLoad a data) s =
      .next ((List.range data.length).foldl (fun u k => u.writeAddr (a + 4 * k) (data.getD k 0)) s).nextRecord) ∧
  (∀ (a : Nat) (m v : Word) (s : State), s.img.applying = true → recordOk a (rmwValue (Reg.ofAddr a) (s.readAddr a).2 m v) = true →
    exec (.regRmw [(a, m, v)]) s =
      .next ((s.readAddr a).1.writeAddr a (rmwValue (Reg.ofAddr a) (s.readAddr a).2 m v)).nextRecord) ∧
  (∀ (o : OptionBlock) (a : Nat) (w : Word) (rest : List (Nat × Word)) (s : State), s.img.applying = true → s.img.ob = some o →
    o.fallback = false → s.rst.stretch = false → s.twin.faultHold = none → s.role ≠ roleActive → s.get RstStatus.state 0 = 0 →
    recordOk a w = false → ∃ t, exec (.regWrite ((a, w) :: rest)) s = .next t ∧ exec (.tableLoad a [w]) s = .next t ∧
      t.img.applying = false ∧ t.rst.stretch = true ∧ t.pins.resetN = false ∧ t.rst.sources = [11] ∧
      t.rst.level = min (s.fuseLevel 11) s.rst.level) ∧
  (∀ (a : Nat) (m v : Word) (s : State), s.img.applying = true → BitVec.ofNat 32 (s.readAddr a).2 &&& m = v &&& m →
    ∀ expired, exec (.wait a m v expired) s = .next (s.readAddr a).1.nextRecord) ∧
  (∀ (o : OptionBlock) (a : Nat) (m v : Word) (s : State), s.img.applying = true → s.img.ob = some o →
    o.fallback = false → s.rst.stretch = false → s.twin.faultHold = none → s.role ≠ roleActive → s.get RstStatus.state 0 = 0 →
    BitVec.ofNat 32 (s.readAddr a).2 &&& m ≠ v &&& m → ∃ t, exec (.wait a m v true) s = .next t ∧
      t.img.applying = false ∧ t.rst.stretch = true ∧ t.rst.sources = [11]) ∧
  (∀ (s : State), s.img.applying = false → ∀ pairs triples a m v e data, exec (.regWrite pairs) s = .next s ∧
    exec (.regRmw triples) s = .next s ∧ exec (.tableLoad a data) s = .next s ∧ exec (.wait a m v e) s = .next s)

/-- THR_ARRAY, HEAD_TABLE, FUSE_PROGRAM and END. Choices and readings of the model that it rests on: log 20, 22. -/
def Obligations.OtherRecords : Prop :=
  (∀ (k : Fin 8) (w h : Nat) (cells : List (List Word)) (s : State), s.img.applying = true → 1 ≤ w → w ≤ 256 → 1 ≤ h → h ≤ 256 →
    cells.length = w * h → (∀ c ∈ cells, c.length = 4) → ∃ t, exec (.thrArray k w h cells) s = .next t ∧
      t.get ScrThrCtl.width k.val = w ∧ t.get ScrThrCtl.height k.val = h ∧
      (∀ j n, j < w * h → n < 4 → t.thrWord k.val (j % w) (j / w) n = ((cells.getD j []).getD n 0).toNat) ∧
      ((∀ j, j < w * h → cellMono (t.thrCell k.val (j % w) (j / w)) = true) → t.get ScrThrCtl.state k.val = 2) ∧
      (∀ j, j < w * h → cellMono (t.thrCell k.val (j % w) (j / w)) = false →
        t.get ScrThrCtl.state k.val = 0 ∧ t.flag ScrThrCtl.monoErr k.val = true) ∧
      t = { s with regs := t.regs, ev := t.ev, img := { s.img with recIdx := s.img.recIdx + 1 } }) ∧
  (∀ (mask kind : Nat) (data : List Byte) (s : State), s.img.applying = true → mask < 2 ^ 128 →
    exec (.headTable mask kind data) s =
      .next { s with img := { s.img with headTables := s.img.headTables ++ [⟨mask, kind, data⟩], recIdx := s.img.recIdx + 1 } }) ∧
  (∀ (hash : List Byte) (map flags : Word) (s : State), s.img.applying = true → hash.length = 32 →
    (s.flag CfgStatus.fuseLock 0 = true → exec (.fuseProgram hash map flags) s =
      .next { s.record .cfgFuseLocked 0 [] with img := { s.img with recIdx := s.img.recIdx + 1 } }) ∧
    (s.flag CfgStatus.fuseLock 0 = false → flags.toNat % 2 = 1 → hash = List.replicate 32 0 →
      exec (.fuseProgram hash map flags) s = .next { s with img := { s.img with recIdx := s.img.recIdx + 1 } }) ∧
    (s.flag CfgStatus.fuseLock 0 = false → (flags.toNat % 2 = 0 ∨ hash ≠ List.replicate 32 0) →
      ∃ t, exec (.fuseProgram hash map flags) s = .next t ∧
        t = { s with regs := t.regs, img := { s.img with keyHash := hash, recIdx := s.img.recIdx + 1 } } ∧
        t.flag CfgStatus.fuseLock 0 = true ∧ t.get CfgStatus.sigReq 0 = flags.toNat % 2 ∧ t.rawWord .rstFuseMap 0 = map.toNat ∧
        FieldsKept (only (CfgStatus.fuseLock :: CfgStatus.sigReq :: Reg.rstFuseMap.fields)) s t)) ∧
  (∀ s : State, s.img.applying = true → ∃ t, exec .cfgRecordEnd s = .next t ∧ t.pins.phase = .configured ∧ t.img.applying = false ∧
    t.rst.pathDown = false ∧ (t.lane 0).tx ≠ .off ∧ t.get ScrGenNew.v 0 = (s.get ScrGenNew.v 0 + 1) % 2 ^ 32 ∧
    (s.solo = true → t.role = roleSolo ∧ t.running = true) ∧
    (s.solo = false → t.get RstStatus.state 0 = 0 ∧ t.twin.step8 = some s.now ∧ t.role = s.role ∧ t.pins.atSafe))

/-- CFG_FL_CTRL starts a flash operation or refuses it, and its end reads, programs or erases. Choices and readings of the model that it rests on: log 7, 8, 12. -/
def Obligations.FlashAccess : Prop :=
  (∀ (value : Word) (s : State), keyOk value = true → CfgFlCtrl.go.of value = 1 → CfgFlCtrl.op.of value ≤ 3 → s.get CfgFlCtrl.busy 0 = 0 →
    (CfgFlCtrl.op.of value = 0 ∨ s.get RstStatus.state 0 = 3 ∨ CfgFlCtrl.cs.of value ≠ s.get CfgStatus.slot 0 ∨
      (flashRange (CfgFlCtrl.op.of value) (s.get CfgFlAddr.v 0) (CfgFlCtrl.lenm1.of value + 1)).1 +
        (flashRange (CfgFlCtrl.op.of value) (s.get CfgFlAddr.v 0) (CfgFlCtrl.lenm1.of value + 1)).2 ≤ 0x1000) →
    ∃ t, exec (.cfgFlRead value) s = .next t ∧ exec (.cfgFlProgram value) s = .next t ∧ exec (.cfgFlErase4k value) s = .next t ∧
      exec (.cfgFlErase64k value) s = .next t ∧ t = { s with regs := t.regs, img := { s.img with
        flOp := some (CfgFlCtrl.cs.of value, CfgFlCtrl.op.of value, s.get CfgFlAddr.v 0, CfgFlCtrl.lenm1.of value + 1) } } ∧
      t.get CfgFlCtrl.busy 0 = 1 ∧ FieldsKept (only Reg.cfgFlCtrl.fields) s t) ∧
  (∀ (value : Word) (s : State), keyOk value = true → CfgFlCtrl.go.of value = 1 → 1 ≤ CfgFlCtrl.op.of value → CfgFlCtrl.op.of value ≤ 3 →
    s.get CfgFlCtrl.busy 0 = 0 → s.get RstStatus.state 0 ≠ 3 → CfgFlCtrl.cs.of value = s.get CfgStatus.slot 0 →
    0x1000 < (flashRange (CfgFlCtrl.op.of value) (s.get CfgFlAddr.v 0) (CfgFlCtrl.lenm1.of value + 1)).1 +
        (flashRange (CfgFlCtrl.op.of value) (s.get CfgFlAddr.v 0) (CfgFlCtrl.lenm1.of value + 1)).2 →
    ∃ t, exec (.cfgFlProgram value) s = .next t ∧ exec (.cfgFlErase4k value) s = .next t ∧ exec (.cfgFlErase64k value) s = .next t ∧
      t = { s with regs := t.regs } ∧ t.get CfgFlCtrl.busy 0 = 0 ∧ t.get CfgFlCtrl.refused 0 = 1) ∧
  (∀ (value : Word) (s : State), keyOk value = false → exec (.cfgFlRead value) s = .next s ∧ exec (.cfgFlProgram value) s = .next s ∧
    exec (.cfgFlErase4k value) s = .next s ∧ exec (.cfgFlErase64k value) s = .next s) ∧
  (∀ (dev op addr len : Nat) (s : State), s.img.flOp = some (dev, op, addr, len) → s.img.flash.length = 2 → dev < 2 → len ≤ 256 → op ≤ 3 →
    ∃ t, exec .cfgFlOpDone s = .next t ∧ t.get CfgFlCtrl.busy 0 = 0 ∧ t.img.flOp = none ∧
      t = { s with regs := t.regs, img := { s.img with flOp := none, flash := t.img.flash } } ∧
      (∀ a, t.flashByte (1 - dev) a = s.flashByte (1 - dev) a) ∧
      (op = 0 → t.img.flash = s.img.flash ∧ ∀ i, i < len → t.bufByte i = s.flashByte dev (addr + i)) ∧
      (op = 1 → (∀ i, i < len → t.flashByte dev (addr + i) = s.flashByte dev (addr + i) &&& s.bufByte i) ∧
        ∀ a, (a < addr ∨ addr + len ≤ a) → t.flashByte dev a = s.flashByte dev a) ∧
      (2 ≤ op → ∀ a, t.flashByte dev a =
        if (flashRange op addr len).1 ≤ a ∧ a < (flashRange op addr len).1 + (flashRange op addr len).2 then 0xFF else s.flashByte dev a))

/-- Event records: acceptance into the queue and the tail, and release to the ring in DRAM. Choices and readings of the model that it rests on: log 5, 6, 75. -/
def Obligations.EventsReachTheRing : Prop :=
  (∀ (c : EvCode) (i : Nat) (args : List EvArg) (s : State),
    (s.noRoom (s.evRec c i args) = false → s.etReleased = false → (s.record c i args).ev.queue = s.ev.queue ++ [s.evRec c i args] ∧
      (s.record c i args).ev.tail = ((s.evRec c i args).records.reverse ++ s.ev.tail).take 64 ∧ (s.record c i args).ev.loss = false ∧
      (s.record c i args).regs = s.regs) ∧
    (s.noRoom (s.evRec c i args) = true → (s.record c i args).ev.queue = s.ev.queue ∧ (s.record c i args).ev.tail = s.ev.tail ∧
      (s.record c i args).get EvtLost.count 0 = satAdd 31 (s.get EvtLost.count 0) (s.evRec c i args).size ∧
      (s.record c i args).ev.loss = true)) ∧
  (∀ (et : Nat) (s : State), ∃ t, exec (.eventRelease et) s = .next t ∧ t = { s with regs := t.regs, ev := t.ev } ∧
    t.ev.queue = s.ev.queue.filter (fun r => decide (et < r.et)) ∧ t.ev.tail = s.ev.tail ∧
    (∀ e, s.ev.releasedEt = some e → t.ev.releasedEt = some (max e et)) ∧ (s.ev.releasedEt = none → t.ev.releasedEt = some et) ∧
    FieldsKept (only []) s t) ∧
  (∀ (et : Nat) (r : EvRec) (s : State), s.ev.queue.filter (fun r => decide (r.et ≤ et)) = [r] → r.more = 0 →
    ∃ t, exec (.eventRelease et) s = .next t ∧
      ((s.get EvtWr.v 0 + 2 ^ 32 - s.get EvtRd.v 0) % 2 ^ 32 + 1 ≤ s.ringSize →
        t.get EvtWr.v 0 = (s.get EvtWr.v 0 + 1) % 2 ^ 32 ∧ t.get EvtLost.count 0 = s.get EvtLost.count 0 ∧
        Tab.find t.ev.ring (s.get EvtWr.v 0 % s.ringSize) = some ({ r with loss := r.loss || s.ev.loss } : EvRec).first) ∧
      (s.ringSize < (s.get EvtWr.v 0 + 2 ^ 32 - s.get EvtRd.v 0) % 2 ^ 32 + 1 →
        t.get EvtWr.v 0 = s.get EvtWr.v 0 ∧ t.get EvtLost.count 0 = satAdd 31 (s.get EvtLost.count 0) 1 ∧ t.ev.ring = s.ev.ring))

/-- PARK and RUN, and a missed answer to HM_CHANGE. Choices and readings of the model that it rests on: log 12, 70. -/
def Obligations.ParkRunAndHostMiss : Prop :=
  (∀ (value : Word) (s : State), keyOk value = true → RstPark.req.of value = 1 → RstPark.run_.of value = 0 → s.get RstStatus.state 0 = 1 →
    ∃ t, exec (.rstParkReq value) s = .next t ∧ exec (.rstParkRun value) s = .next t ∧
      (s.pages = [] → s.runningActs.contains 0 = false → t.get RstStatus.state 0 = 2 ∧ t.unfitBit unfitNotRun = true ∧
        t = { s with regs := t.regs } ∧ FieldsKept (only (RstStatus.state :: TwStat.unfit :: Reg.rstPark.fields)) s t) ∧
      ((s.pages ≠ [] ∨ s.runningActs.contains 0 = true) → t.get RstStatus.state 0 = 1 ∧ t.flag RstPark.refused 0 = true ∧
        t = { s with regs := t.regs, ev := t.ev } ∧ FieldsKept (only Reg.rstPark.fields) s t)) ∧
  (∀ (value : Word) (s : State), keyOk value = true → RstPark.req.of value = 0 → RstPark.run_.of value = 1 → s.get RstStatus.state 0 = 2 →
    ∃ t, exec (.rstParkRun value) s = .next t ∧ exec (.rstParkReq value) s = .next t ∧ t.get RstStatus.state 0 = 1 ∧
      t.unfitBit unfitNotRun = false ∧ t.mc.resumeDue = (s.mc.resumeDue || decide (s.get McStat.state 0 = 3)) ∧
      t = { s with regs := t.regs, mc := t.mc }) ∧
  (∀ (value : Word) (s : State), keyOk value = false → exec (.rstParkReq value) s = .next s ∧ exec (.rstParkRun value) s = .next s) ∧
  (∀ (s : State), s.hmWait.isSome = true → s.get ScrCtrl.compMode 0 = 1 → s.acting = true →
    ∃ t, exec .hostMiss s = .next t ∧ t.hmWait = none ∧
      (s.flag ScrCtrl.hostFallback 0 = false → t = { s.record .hostMiss 0 [] with hmWait := none }) ∧
      (s.flag ScrCtrl.hostFallback 0 = true → t.get ScrCtrl.compMode 0 = 0))

/-- A receiver acquires and loses lock, falls asleep, and detects a loss of signal. Choices and readings of the model that it rests on: log 28. -/
def Obligations.LaneLockAndIdle : Prop :=
  (∀ (n : Fin 142) (s : State), s.flag LnStat.lock n.val = false → ∃ t, exec (.laneLockAcquire n) s = .next t ∧
    t = { s with regs := t.regs, lanes := t.lanes } ∧ t.flag LnStat.lock n.val = true ∧ t.flag LnStat.rxAsleep n.val = false ∧
    ((linkLanes n.val).length = 1 → t.flag LnStat.deskewed n.val = true) ∧ FieldsKept (fun f i => evtField f || ((Reg.lnStat.fields ++ Reg.lnErrcnt.fields).contains f && (linkLanes n.val).contains i)) s t) ∧
  (∀ (n : Fin 142) (cv : Nat) (s : State), s.flag LnStat.lock n.val = true → ∃ t, exec (.laneLockLoss n cv) s = .next t ∧
    t = { s with regs := t.regs, lanes := t.lanes, ev := t.ev } ∧ t.flag LnStat.lock n.val = false ∧
    (∀ m ∈ linkLanes n.val, t.flag LnStat.deskewed m = false) ∧ (t.lane n.val).frameError = true ∧
    (s.flag LnStat.rxAsleep n.val = false → t.get LnErrcnt.cv n.val = satAdd 16 (s.get LnErrcnt.cv n.val) cv ∧
      t.get LnErrcnt.lol n.val = satAdd 8 (s.get LnErrcnt.lol n.val) 1) ∧
    (s.flag LnStat.rxAsleep n.val = true → t.ev = s.ev ∧ ∀ f ∈ Reg.lnErrcnt.fields, t.get f n.val = s.get f n.val) ∧ FieldsKept (fun f i => evtField f || ((Reg.lnStat.fields ++ Reg.lnErrcnt.fields).contains f && (linkLanes n.val).contains i)) s t) ∧
  (∀ (n : Fin 140) (s : State), s.flag LnStat.lock n.val = true → ∃ t, exec (.slpReceive n) s = .next t ∧ t = { s with regs := t.regs } ∧
    t.flag LnStat.rxAsleep n.val = true ∧ FieldsKept (onlyAt [LnStat.rxAsleep] n.val) s t) ∧
  (∀ (n : Fin 140) (s : State), s.flag LnStat.rxAsleep n.val = true → ∃ t, exec (.rxWakeTimeout n) s = .next t ∧
    t = { s with regs := t.regs } ∧ t.flag LnStat.lock n.val = false ∧ FieldsKept (onlyAt [LnStat.lock] n.val) s t) ∧
  (∀ (n : Fin 142) (s : State), n.val < 140 → s.flag LnStat.lock n.val = true → s.flag LnStat.rxAsleep n.val = false →
    ∃ t, exec (.lnLos n) s = .next t ∧ t = { s with regs := t.regs, lanes := t.lanes, ev := t.ev } ∧ t.flag LnStat.los n.val = true ∧
      t.flag LnStat.lock n.val = false ∧ t.get LnErrcnt.lol n.val = satAdd 8 (s.get LnErrcnt.lol n.val) 1 ∧ FieldsKept (fun f i => evtField f || ((Reg.lnStat.fields ++ Reg.lnErrcnt.fields).contains f && (linkLanes n.val).contains i)) s t) ∧
  (∀ (n : Fin 142) (s : State), (140 ≤ n.val ∨ s.flag LnStat.rxAsleep n.val = true) → exec (.lnLos n) s = .next s)

/-- TS and LMK: the STATUS taken, a wrong CHK, a LANE that does not fit, a changed alignment; the end of training -/
def Obligations.LaneTrainingAndStatus : Prop :=
  (∀ (n : Fin 140) (status seq chk ofs : Nat) (s : State), s.flag LnStat.lock n.val = true → crc8 [status, seq] = chk →
    ∃ t u, exec (.tsReceive n status seq chk ofs) s = .next t ∧ exec (.lmkReceive n status ofs) s = .next u ∧ u = t ∧
      t = { s with regs := t.regs, lanes := t.lanes, ev := t.ev } ∧
      t.get LnStat.lane n.val = status % 8 ∧ t.get LnStat.kind n.val = status / 8 % 4 ∧
      t.flag LnStat.farLock n.val = (status / 32 % 2 == 1 && status / 64 % 2 == 1) ∧
      (t.lane n.val).statusSeen = true ∧ (t.lane n.val).farLock = (status / 32 % 2 == 1) ∧
      (t.lane n.val).farDeskewed = (status / 64 % 2 == 1) ∧ (t.lane n.val).offset = some ofs ∧
      (n.val < 128 → (status % 8 ≠ 0 ∨ status / 8 % 4 ≠ 0) → t.flag LnStat.laneMismatch n.val = true) ∧ FieldsKept (fun f i => evtField f || ((Reg.lnStat.fields ++ Reg.lnErrcnt.fields).contains f && (linkLanes n.val).contains i)) s t) ∧
  (∀ (n : Fin 140) (status ofs o : Nat) (s : State), s.flag LnStat.lock n.val = true → 128 ≤ n.val → s.flag LnStat.deskewed n.val = true →
    (s.lane n.val).offset = some o → o ≠ ofs → ∃ t, exec (.lmkReceive n status ofs) s = .next t ∧
      t.get LnErrcnt.dsk n.val = satAdd 4 (s.get LnErrcnt.dsk n.val) 1 ∧ (t.lane n.val).frameError = true) ∧
  (∀ (n : Fin 140) (status seq chk ofs : Nat) (s : State), s.flag LnStat.lock n.val = true → crc8 [status, seq] ≠ chk →
    ∃ t, exec (.tsReceive n status seq chk ofs) s = .next t ∧ t = { s with regs := t.regs, ev := t.ev } ∧
      t.get LnErrcnt.cv n.val = satAdd 16 (s.get LnErrcnt.cv n.val) 1 ∧
      FieldsKept (onlyAt [LnErrcnt.cv, LnErrcnt.ovf] n.val) s t) ∧
  (∀ (n : Fin 140) (s : State), (s.lane n.val).tx = .training → s.flag LnStat.lock n.val = true → s.flag LnStat.deskewed n.val = true →
    (s.lane n.val).farLock = true → (s.lane n.val).farDeskewed = true → ∃ t, exec (.tsComplete n) s = .next t ∧
      (t.lane n.val).tx = .traffic ∧ t = { s with lanes := t.lanes } ∧ ∀ m, m ≠ n.val → t.lane m = s.lane m)

/-- Sleep and wake of a transmitter. Choices and readings of the model that it rests on: log 4, 27. -/
def Obligations.LaneSleepAndWake : Prop :=
  (∀ (n : Fin 142) (s : State), n.val < 140 → (n.val < 128 → (Tab.get Port.reset s.ports n.val).sleepReq = true) →
    ∃ t, exec (.txSleepRequest n) s = .next t ∧ t = { s with regs := t.regs, lanes := t.lanes, sent := t.sent } ∧
      t.flag LnCtrl.txSleep n.val = true ∧ (∀ m ∈ linkLanes n.val,
        ((s.lane m).tx = .training ∨ (s.lane m).tx = .traffic → (t.lane m).tx = .asleep ∧ (t.lane m).idleAt = s.now ∧
          t.flag LnStat.txAsleep m = true ∧ Out.lane m 3 ∈ t.sent) ∧
        ((s.lane m).tx = .waking → (t.lane m).tx = .waking ∧ (t.lane m).sleepDue = true) ∧
        ((s.lane m).tx = .asleep → t.lane m = s.lane m)) ∧ (∀ m, m ∉ linkLanes n.val → t.lane m = s.lane m) ∧
      FieldsKept (fun f i => [LnCtrl.txSleep, LnStat.txAsleep].contains f && (linkLanes n.val).contains i) s t) ∧
  (∀ (n : Fin 142) (s : State), n.val < 140 → (n.val < 128 → (Tab.get Port.reset s.ports n.val).sleepReq = false) →
    ∃ t, exec (.txWakeRequest n) s = .next t ∧ t = { s with regs := t.regs, lanes := t.lanes, sent := t.sent } ∧
      t.flag LnCtrl.txSleep n.val = false ∧ (∀ m ∈ linkLanes n.val, (s.lane m).tx = .asleep →
        (250 ≤ s.now - (s.lane m).idleAt → (t.lane m).tx = .waking ∧ t.flag LnStat.txAsleep m = false) ∧
        (s.now - (s.lane m).idleAt < 250 → (t.lane m).tx = .asleep ∧ (t.lane m).wakeDue = true)) ∧
      (∀ m, m ∉ linkLanes n.val → t.lane m = s.lane m)) ∧
  (∀ (n : Fin 142) (s : State), 140 ≤ n.val → exec (.txSleepRequest n) s = .next s ∧ exec (.txWakeRequest n) s = .next s) ∧
  (∀ (n : Fin 140) (s : State), (s.lane n.val).tx = .waking → ∃ t, exec (.wakeSequenceEnd n) s = .next t ∧
    (t.lane n.val).tx = (if (s.lane n.val).sleepDue then .asleep else .traffic) ∧ (t.lane n.val).sleepDue = false ∧
    t = { s with regs := t.regs, lanes := t.lanes, sent := t.sent }) ∧
  (∀ (n : Fin 140) (s : State), (s.lane n.val).tx = .asleep → (s.lane n.val).wakeDue = true → ∃ t, exec (.idleMinimumExpiry n) s = .next t ∧
    (t.lane n.val).tx = .waking ∧ (t.lane n.val).wakeDue = false ∧ t.flag LnStat.txAsleep n.val = false ∧
    t = { s with regs := t.regs, lanes := t.lanes, sent := .lane n.val 1 :: s.sent })

/-- SKP and LMK as sent, the rate matching of a receiver, and an elastic-buffer error. Choices and readings of the model that it rests on: log 28. -/
def Obligations.LaneRateMatching : Prop :=
  (∀ (n : Fin 140) (s : State), (s.lane n.val).tx = .training ∨ (s.lane n.val).tx = .traffic ∨ (s.lane n.val).tx = .waking →
    ∃ t, exec (.skpSend n) s = .next t ∧ t = { s with lanes := t.lanes, sent := t.sent } ∧
      (t.lane n.val).skps = (if (s.lane n.val).skps = 3 then 0 else (s.lane n.val).skps + 1) ∧
      (t.lane n.val).seq = (if (s.lane n.val).skps = 3 then ((s.lane n.val).seq + 1) % 256 else (s.lane n.val).seq) ∧
      t.sent = (if (s.lane n.val).skps = 3 then .lane n.val 4 :: .lane n.val 2 :: s.sent else .lane n.val 2 :: s.sent)) ∧
  (∀ (n : Fin 140) (k fill : Nat) (s : State), 1 ≤ k → k ≤ 5 → fill ≤ 16 → s.flag LnStat.lock n.val = true →
    (n.val < 128 ∨ s.get LnStat.lane n.val = 0) → ∃ t, exec (.skpReceive n k fill) s = .next t ∧
      t = { s with regs := t.regs, lanes := t.lanes } ∧
      t.get LnSkpcnt.ins n.val = (if fill < 8 then (s.get LnSkpcnt.ins n.val + 1) % 2 ^ 16 else s.get LnSkpcnt.ins n.val) ∧
      t.get LnSkpcnt.del n.val = (if 8 < fill then (s.get LnSkpcnt.del n.val + 1) % 2 ^ 16 else s.get LnSkpcnt.del n.val) ∧
      t.get LnStat.ebFill n.val = (if fill < 8 then fill + 1 else if 8 < fill then fill - 1 else 8) ∧
      (∀ m ∈ linkLanes n.val, (t.lane m).skpDecision = skpRule fill) ∧
      FieldsKept (onlyAt [LnSkpcnt.ins, LnSkpcnt.del, LnStat.ebFill] n.val) s t) ∧
  (∀ (n : Fin 140) (s : State), ∃ t, exec (.elasticBufferError n) s = .next t ∧ t = { s with regs := t.regs, lanes := t.lanes, ev := t.ev } ∧
    t.flag LnStat.ebErr n.val = true ∧ t.get LnStat.ebFill n.val = 8 ∧ (t.lane n.val).frameError = true ∧
    ((s.lane n.val).lastEvent.getD 4 none = none → Recorded s t .lnEb n.val []) ∧
    (∀ x, (s.lane n.val).lastEvent.getD 4 none = some x → s.now - x < 500000 → t.ev = s.ev) ∧
    FieldsKept (onlyAt [LnStat.ebErr, LnStat.ebFill] n.val) s t)

/-- Test modes, the PRBS checker, the margin scan and the counter clear -/
def Obligations.LaneTestAndMargin : Prop :=
  (∀ (n : Fin 142) (test : Fin 4) (s : State), ∃ t, exec (.laneTestModeSet n test) s = .next t ∧
    t = { s with regs := t.regs, lanes := t.lanes, sent := t.sent } ∧ t.get LnCtrl.test n.val = test.val ∧
    (test.val = 1 → (t.lane n.val).tx = .prbs ∧ t.sent = .lane n.val 3 :: s.sent) ∧ (test.val = 2 → (t.lane n.val).tx = .off) ∧
    (test.val = 0 → s.get LnCtrl.test n.val = 1 ∨ s.get LnCtrl.test n.val = 2 → (t.lane n.val).tx = .waking) ∧
    (test.val = 0 → s.get LnCtrl.test n.val = 0 → t.lane n.val = s.lane n.val) ∧
    FieldsKept (onlyAt [LnCtrl.test, LnStat.prbsSync, LnStat.txAsleep] n.val) s t) ∧
  (∀ (n : Fin 142) (sync : Bool) (errors : Nat) (s : State), s.get LnCtrl.test n.val = 1 → ∃ t, exec (.prbsSyncChange n sync errors) s = .next t ∧
    t = { s with regs := t.regs, ev := t.ev } ∧ t.flag LnStat.prbsSync n.val = sync ∧
    t.get LnPrbs.errbits n.val = (if s.flag LnStat.prbsSync n.val then satAdd 31 (s.get LnPrbs.errbits n.val) errors
      else s.get LnPrbs.errbits n.val) ∧ FieldsKept (onlyAt [LnStat.prbsSync, LnPrbs.errbits, LnPrbs.ovf] n.val) s t) ∧
  (∀ (n : Fin 142) (s : State), ∃ t, exec (.lnCntClr n) s = .next t ∧ t = { s with regs := t.regs } ∧
    (∀ f ∈ Reg.lnErrcnt.fields ++ Reg.lnSkpcnt.fields ++ Reg.lnPrbs.fields ++ Reg.lnMarginErr.fields, t.get f n.val = 0) ∧
    FieldsKept (onlyAt (Reg.lnErrcnt.fields ++ Reg.lnSkpcnt.fields ++ Reg.lnPrbs.fields ++ Reg.lnMarginErr.fields) n.val) s t) ∧
  (∀ (n : Fin 142) (value : Word) (s : State), ∃ t, exec (.marginGo n value) s = .next t ∧ t = { s with regs := t.regs } ∧
    t.get LnMargin.phase n.val = LnMargin.phase.of value ∧ t.get LnMargin.vofs n.val = LnMargin.vofs.of value ∧
    t.get LnMargin.dwell n.val = LnMargin.dwell.of value ∧
    (LnMargin.go.of value = 1 → s.flag LnMargin.busy n.val = false → t.flag LnMargin.busy n.val = true ∧
      t.get LnMarginErr.mismatch n.val = 0 ∧ t.get LnMarginErr.ovf n.val = 0) ∧
    ((LnMargin.go.of value = 0 ∨ s.flag LnMargin.busy n.val = true) → t.get LnMargin.busy n.val = s.get LnMargin.busy n.val ∧
      t.get LnMarginErr.mismatch n.val = s.get LnMarginErr.mismatch n.val) ∧
    FieldsKept (onlyAt (Reg.lnMargin.fields ++ Reg.lnMarginErr.fields) n.val) s t) ∧
  (∀ (n : Fin 142) (mismatch : Nat) (s : State), s.flag LnMargin.busy n.val = true → ∃ t, exec (.marginDwellDone n mismatch) s = .next t ∧
    t = { s with regs := t.regs, ev := t.ev } ∧ t.flag LnMargin.busy n.val = false ∧ t.flag LnMargin.done n.val = true ∧
    t.get LnMarginErr.mismatch n.val = satAdd 31 (s.get LnMarginErr.mismatch n.val) mismatch ∧
    FieldsKept (onlyAt (Reg.lnMargin.fields ++ Reg.lnMarginErr.fields) n.val) s t)

/-- Faong packets: checks and credits, descriptors taken or refused, chunks and stripe ends in and out of order, SYNC, CREDIT, link changes. Choices and readings of the model that it rests on: log 29, 30. -/
def Obligations.FaongPackets : Prop :=
  (∀ (k : Faong) (s : State), (k.error = true ∨ k.cls ≠ 0x46 ∨
      (k.len = k.payload.length ∧ k.len % 4 = 0 ∧ k.len ≤ 8192 ∧ crc32c (faongHeader k ++ k.payload) ≠ k.pcrc)) →
    ∃ t, exec (.pageDesc k) s = .next t ∧ exec (.stripeData k) s = .next t ∧ exec (.cancel k) s = .next t ∧
      exec (.abortIngest k) s = .next t ∧ exec (.sync k) s = .next t ∧ exec (.stripeEnd k) s = .next t.startVerify ∧
      t = { s with regs := t.regs, ev := t.ev, ingest := { s.ingest with limit := (s.ingest.limit + packetCost k) % 2 ^ 32 } } ∧
      t.get DpErr.crc 0 = satAdd 16 (s.get DpErr.crc 0) 1 ∧ FieldsKept (only [DpErr.crc, DpErr.ovf]) s t) ∧
  (∀ (k : Faong) (s : State), k.error = false → k.cls = 0x46 → (k.len ≠ k.payload.length ∨ k.len % 4 ≠ 0 ∨ 8192 < k.len ∨
      (crc32c (faongHeader k ++ k.payload) = k.pcrc ∧ (k.typ = 0 ∨ 4 < k.typ ∨ (k.typ = 4 ∧ (k.arg = 0 ∨ 3 < k.arg))))) →
    ∃ t, exec (.pageDesc k) s = .next t ∧ exec (.stripeData k) s = .next t ∧ exec (.cancel k) s = .next t ∧
      exec (.abortIngest k) s = .next t ∧ exec (.sync k) s = .next t ∧
      t = { s with regs := t.regs, ev := t.ev, ingest := { s.ingest with limit := (s.ingest.limit + packetCost k) % 2 ^ 32 } } ∧
      t.get DpErr.proto 0 = satAdd 7 (s.get DpErr.proto 0) 1 ∧ FieldsKept (only [DpErr.proto, DpErr.ovf]) s t) ∧
  (∀ (k : Faong) (s : State), faongCheck k = .good → k.typ = 1 → s.ingest.buffer = [] → s.ingest.rewind = none → s.ingest.waitNext = false →
    s.ingest.receiving = none → s.ingest.nextSet = true → s.pages.length < 512 → (∀ p ∈ s.pages, p.pseq ≠ k.pseq) →
    ∃ t, exec (.pageDesc k) s = .next t ∧ t.ingest.buffer = [] ∧ t.dram = s.dram ∧ t.pins = s.pins ∧
      (∀ p ∈ s.pages, p ∈ t.pages) ∧
      (s.refuseReason false k (descOf k.payload) = 0 → t.pgNext = (k.pseq + 1) % 2 ^ 64 ∧ t.ingest.receiving = some (k.pseq, 0, 0) ∧
        t.pages.length = s.pages.length + 1 ∧ ∃ p, t.page k.pseq = some p ∧ p.raw = k.payload ∧ p.closed = false ∧ p.scheduled = false ∧
          p.admitted = (descOf k.payload).stream ∧
          p.desc = { descOf k.payload with plan := if (descOf k.payload).flag 6 then s.lastPlan else (descOf k.payload).plan }) ∧
      (1 < s.refuseReason false k (descOf k.payload) → t.pgNext = (k.pseq + 1) % 2 ^ 64 ∧ t.ingest.receiving = none ∧
        (s.ingest.up = true → t.sent = .dp 4 [k.pseq, 0x83, s.refuseReason false k (descOf k.payload)] :: s.sent) ∧
        ∃ p, t.page k.pseq = some p ∧ p.closed = true ∧ p.record.status = 2 ∧
          p.record.reason = s.refuseReason false k (descOf k.payload)) ∧
      (s.refuseReason false k (descOf k.payload) = 1 → t.pages = s.pages ∧ t.ingest.waitNext = true ∧ t.regs = s.regs)) ∧
  (∀ (k : Faong) (q j c : Nat) (p : Page) (s : State), faongCheck k = .good → k.typ = 2 → s.ingest.buffer = [] → s.ingest.rewind = none →
    s.ingest.receiving = some (q, j, c) → s.page q = some p → k.pseq = q → j < 65536 → k.arg = j + 65536 * c → p.dropsStripe j = false →
    (c = 0 ∨ ∃ x, p.stripe j = some x ∧ x.data.length = 8192 * c ∧ x.stored = false) → s.freeBlocks ≠ 0 →
    ∃ t p' x', exec (.stripeData k) s = .next t ∧ t.ingest.receiving = some (q, j, c + 1) ∧ t.page q = some p' ∧ p'.stripe j = some x' ∧
      x'.stored = false ∧ (c = 0 → x'.data = k.payload) ∧ (∀ x, c ≠ 0 → p.stripe j = some x → x'.data = x.data ++ k.payload) ∧
      t = { s with pages := t.pages, ingest := t.ingest } ∧ ∀ a, a ≠ q → t.page a = s.page a) ∧
  (∀ (k : Faong) (q j c : Nat) (s : State), faongCheck k = .good → s.ingest.buffer = [] → s.ingest.rewind = none →
    s.ingest.receiving = some (q, j, c) → s.ingest.up = true →
    (k.typ = 2 → (k.pseq ≠ q ∨ k.arg % 65536 ≠ j ∨ k.arg / 65536 ≠ c) → ∃ t, exec (.stripeData k) s = .next t ∧
      t.ingest.rewind = some (q, j) ∧ t.sent = .dp 4 [q, 0x81, j] :: s.sent ∧
      t.get DpErr.rewind 0 = satAdd 8 (s.get DpErr.rewind 0) 1) ∧
    (k.typ = 3 → (k.pseq ≠ q ∨ k.arg ≠ j) → ∃ t, exec (.stripeEnd k) s = .next t ∧ t.ingest.rewind = some (q, j) ∧
      t.sent = .dp 4 [q, 0x81, j] :: s.sent ∧ t.get DpErr.rewind 0 = satAdd 8 (s.get DpErr.rewind 0) 1)) ∧
  (∀ (k : Faong) (q j : Nat) (s : State), faongCheck k = .good → s.ingest.buffer = [] → s.ingest.rewind = some (q, j) →
    (k.typ = 1 ∨ (k.typ = 2 ∧ (k.pseq ≠ q ∨ k.arg ≠ j))) → exec (if k.typ = 1 then .pageDesc k else .stripeData k) s =
      .next { s with ingest := { s.ingest with limit := (s.ingest.limit + packetCost k) % 2 ^ 32 } }) ∧
  (∀ (k : Faong) (q j c : Nat) (p : Page) (x : Stripe) (s : State), faongCheck k = .good → k.typ = 3 → s.ingest.buffer = [] →
    s.ingest.rewind = none → s.ingest.receiving = some (q, j, c) → k.pseq = q → k.arg = j → s.page q = some p → p.dropsStripe j = false →
    p.stripe j = some x → k.payload.length = 8 → 1 ≤ leField k.payload 4 2 → leField k.payload 4 2 ≤ 256 → leField k.payload 6 2 = 0 →
    x.data.length = (leField k.payload 0 4 + 3) / 4 * 4 → ∃ t p' x', exec (.stripeEnd k) s = .next t ∧ t.page q = some p' ∧
      p'.stripe j = some x' ∧ x'.stored = true ∧ x'.lost = false ∧ x'.data = x.data.take (leField k.payload 0 4) ∧
      x'.clen = leField k.payload 0 4 ∧ x'.lines = leField k.payload 4 2 ∧
      (p.desc.length ≠ 0 → p.total ≠ some (j + 1) → t.ingest.receiving = some (q, j + 1, 0)) ∧ t.dram = s.dram) ∧
  (∀ (k : Faong) (s : State), s.ingest.up = true →
    (∃ t, exec .credit s = .next t ∧ t.ingest.sentLimit = (s.ingest.limit + s.ingest.oweCredit) % 2 ^ 32 ∧
      t.ingest.limit = t.ingest.sentLimit ∧ t.ingest.oweCredit = 0 ∧ t = { s with ingest := t.ingest, sent := t.sent } ∧
      t.sent = .dp 0x10 [if s.ingest.nextSet then 1 else 0, if s.ingest.nextSet then s.pgNext else 0, t.ingest.limit] :: s.sent) ∧
    (faongCheck k = .good → k.typ = 4 → k.arg = 3 → exec (.sync k) s =
      exec .credit { s with ingest := { s.ingest with limit := (s.ingest.limit + packetCost k) % 2 ^ 32 } })) ∧
  (∀ s : State, s.isUp 128 = true → s.ingest.up = false → ∃ t, exec .dataPortUp s = .next t ∧ t.ingest.up = true ∧ t.ingest.limit = 2048 ∧
    t.ingest.sentLimit = 2048 ∧ t.pages = s.pages ∧
    Out.dp 0x10 [if s.ingest.nextSet then 1 else 0, if s.ingest.nextSet then s.pgNext else 0, 2048] ∈ t.sent ∧
    (∀ q i, s.ingest.rewind = some (q, i) → t.sent.head? = some (.dp 4 [q, 0x81, i]))) ∧
  (∀ (s : State), s.ingest.up = true → s.ingest.buffer = [] → ∃ t, exec .dataPortDown s = .next t ∧ t.ingest.up = false ∧ t.sent = s.sent ∧
    (∀ q i c, s.ingest.receiving = some (q, i, c) → c ≠ 0 → s.ingest.rewind = none → t.ingest.rewind = some (q, i)))

/-- A page is scheduled, cancelled, aborted, deferred and completed. Choices and readings of the model that it rests on: log 4, 31, 32, 37. -/
def Obligations.PagesStartAndEnd : Prop :=
  (∀ (p : Page) (f0 line : Nat) (s : State), s.acting = true → s.running = true → s.rst.pathDown = false → s.mc.resumeDue = false →
    s.mode ≠ 0 → s.nextPage = some p → s.page p.pseq = some p →
    s.startLine { p with absorbed := s.flag FpeStat.absorb 0 && p.desc.flag 5 } = some f0 →
    s.adjusted { p with absorbed := s.flag FpeStat.absorb 0 && p.desc.flag 5 } f0 = line → line < s.writerReach →
    ∃ t p', exec (.pageSchedule line) s = .next t ∧ t.page p.pseq = some p' ∧ p'.scheduled = true ∧ p'.first = line ∧
      p'.absorbed = (s.flag FpeStat.absorb 0 && p.desc.flag 5) ∧
      (p'.nmGen, p'.ctbGen) = s.pageGens { p with absorbed := s.flag FpeStat.absorb 0 && p.desc.flag 5 } line ∧
      t.get NmGenCur.v 0 = p'.nmGen % 2 ^ 32 ∧ t.get ScrGenCur.v 0 = p'.ctbGen % 2 ^ 32 ∧
      t.inForce ScrCtrl.compMode 0 = s.get ScrCtrl.compMode 0 ∧ t.dram = s.dram ∧ (∀ a, a ≠ p.pseq → t.page a = s.page a)) ∧
  (∀ (line : Nat) (s : State), (s.acting = false ∨ s.running = false ∨ s.nextPage = none) → exec (.pageSchedule line) s = .next s) ∧
  (∀ (k : Faong) (s : State), faongCheck k = .good → k.typ = 4 → k.arg = 1 → s.ingest.buffer = [] → ∃ t, exec (.cancel k) s = .next t ∧
    (s.page k.pseq = none → Recorded s t .pgCancelNone 0 [] ∧ t.pages = s.pages) ∧
    (∀ p, s.page k.pseq = some p → p.scheduled = true → Recorded s t .pgCancelLate 0 [] ∧ t.pages = s.pages) ∧
    (∀ p, s.page k.pseq = some p → p.scheduled = false → p.closed = false → ∃ p', t.page k.pseq = some p' ∧ p'.closed = true ∧
      p'.record.status = 3 ∧ p'.record.reason = 0 ∧ p'.stripes = [] ∧ t.pgNext = s.pgNext ∧ (∀ a, a ≠ k.pseq → t.page a = s.page a))) ∧
  (∀ (k : Faong) (value : Word) (s : State), s.aborting 1 0 = false → DpCtrl.abort.of value = 1 →
    (∃ t, exec (.dpCtrlAbort value) s = .next t ∧ t.aborting 1 0 = true ∧ t.get DpCtrl.creditPeriod 0 = DpCtrl.creditPeriod.of value ∧
      Recorded s t .abort 0 [a8 1] ∧ t.pages = s.pages ∧ t.ingest = s.ingest) ∧
    (faongCheck k = .good → k.typ = 4 → k.arg = 2 → ∃ t, exec (.abortIngest k) s = .next t ∧ t.aborting 1 0 = true ∧
      Recorded s t .abort 0 [a8 1] ∧ t.pages = s.pages)) ∧
  (∀ s : State, s.aborting 1 0 = true → (s.pages.map (fun p => p.pseq)).Nodup → ∃ t, exec .ingestAbortEffect s = .next t ∧
    t.aborting 1 0 = false ∧ t.ingest.buffer = [] ∧ t.ingest.receiving = none ∧ t.ingest.rewind = none ∧ t.pgNext = s.pgNext ∧
    (∀ p ∈ s.pages, p.admitted = false → p.closed = false → p.scheduled = false → ∃ p', t.page p.pseq = some p' ∧ p'.closed = true ∧
      p'.record.status = 3 ∧ p'.stripes = []) ∧
    (∀ p ∈ s.pages, (p.admitted = true ∨ p.closed = true ∨ p.scheduled = true) → (∀ i c, s.ingest.receiving ≠ some (p.pseq, i, c)) →
      t.page p.pseq = some p)) ∧
  (∀ s : State, s.aborting 1 0 = false → exec .ingestAbortEffect s = .next s) ∧
  (∀ (p : Page) (s : State), s.acting = true → s.page p.pseq = some p → p.desc.startMode ≠ 0 → p.admitted = false → p.scheduled = false →
    p.closed = false → ∃ t p', exec (.startDeferTimeout p.pseq) s = .next t ∧ t.page p.pseq = some p' ∧ p'.admitted = true ∧
      p'.admittedLine = s.writerReach ∧ p'.deferred = true ∧ p'.record.flags / 8 % 2 = 1 ∧ t = { s with pages := t.pages }) ∧
  (∀ (value : Word) (s : State), keyOk value = true → PgAbort.go.of value = 1 →
    (s.role = roleStandby → exec (.pgAbort value) s = .next (s.record .pgAbortRefused 0 [])) ∧
    (s.role ≠ roleStandby → PgAbort.held.of value = 0 → s.aborting 0 0 = false → (s.pages.map (fun p => p.pseq)).Nodup →
      ∃ t, exec (.pgAbort value) s = .next t ∧ t.aborting 0 0 = false ∧ t.pages.length = s.pages.length ∧
        ∀ p ∈ s.pages, (∀ y, p.scheduled = true → p.closed = false → p.blankFrom = none → s.firstBlanked p = some y →
            ∃ p', t.page p.pseq = some p' ∧ p'.blankFrom = some y ∧ p'.record.status = 4 ∧ p'.record.spoilLine = some y ∧
              p'.first = p.first ∧ p'.lines = p.lines) ∧
          (p.scheduled = false → t.page p.pseq = some p))) ∧
  (∀ (value : Word) (s : State), keyOk value = false → exec (.pgAbort value) s = .next s) ∧
  (∀ (p : Page) (rest : List Page) (s : State), s.pages = p :: rest → s.recordReady p = true → s.acting = true → s.ingest.up = true →
    s.ingest.buffer = [] → ∃ t, exec .completion s = .next t ∧ t.sent = .dp 0x11 p.recordArgs :: s.sent ∧
      t.pages = s.pages.filter (fun q => q.pseq != p.pseq) ∧ t.get64 PgDoneLo.v PgDoneHi.v 0 = p.pseq % 2 ^ 64 ∧
      t.get PgCnt.spoiled 0 = (if p.record.status = 1 then satAdd 16 (s.get PgCnt.spoiled 0) 1 else s.get PgCnt.spoiled 0) ∧
      t.dram = s.dram ∧ FieldsKept (only [PgDoneLo.v, PgDoneHi.v, PgCnt.spoiled, PgCnt.ovf]) s t) ∧
  (∀ s : State, s.acting = false → exec .completion s = .next s)

/-- Verification, print decode, the band ring and the compressors. Choices and readings of the model that it rests on: log 34. -/
def Obligations.DecodesAndBandRing : Prop :=
  (∀ (e : Fin 8) (q i : Nat) (p : Page) (x : Stripe) (s : State), s.shaped → s.codec.engines.getD e.val none = some ⟨false, q, i⟩ →
    s.page q = some p → p.stripe i = some x →
    ((gscDecode (p.shape x) x.data).cause = .pass → p.linesOk x = true → ∃ t p' x', exec (.stripeVerifyDone e) s = .next t ∧
      t.page q = some p' ∧ p'.stripe i = some x' ∧ x' = { x with verified := true } ∧ (∀ a, a ≠ q → t.page a = s.page a) ∧
      t.sent = s.sent) ∧
    ((gscDecode (p.shape x) x.data).cause ≠ .pass → x.retries < s.get PgCtrl.retry 0 → ∃ t p' x', exec (.stripeVerifyDone e) s = .next t ∧
      t.page q = some p' ∧ p'.stripe i = some x' ∧ x'.data = [] ∧ x'.stored = false ∧ x'.retries = x.retries + 1 ∧
      t.ingest.rewind.isSome = true ∧ t.get DcxLast.stripe 0 = i % 2 ^ 16 ∧ t.flag DcxLast.verify 0 = true) ∧
    ((gscDecode (p.shape x) x.data).cause ≠ .pass → s.get PgCtrl.retry 0 ≤ x.retries → ∃ t p', exec (.stripeVerifyDone e) s = .next t ∧
      t.page q = some p' ∧ p'.closed = true ∧ p'.record.status = 2 ∧ p'.record.reason = 5)) ∧
  (∀ (p : Page) (i e : Nat) (es : List Nat) (s : State), s.shaped → s.nextDue = some (p, i) → s.page p.pseq = some p →
    p.first + 256 * i * s.ratio p < s.writerReach → s.printEngines < s.printMax → s.idleEngines = e :: es → s.role ≠ roleActive →
    (∀ x, p.stripe i = some x → x.stored = true → x.lost = false → x.partner = none → ∃ t p' x', exec .decodeAssign s = .next t ∧
      t.codec.engines.getD e none = some ⟨true, p.pseq, i⟩ ∧ t.get DcxStat.state e = 1 ∧ t.page p.pseq = some p' ∧ p'.stripe i = some x' ∧
      x' = { x with assigned := true } ∧ t.ev = s.ev) ∧
    (p.stripe i = none → ∃ t p' x', exec .decodeAssign s = .next t ∧ t.page p.pseq = some p' ∧ p'.stripe i = some x' ∧ x'.assigned = true ∧
      (p.record.status = 0 → p'.record.status = 1 ∧ p'.record.spoilLine = some (256 * i * s.ratio p) ∧
        p'.record.reason = (if p.deferred then 10 else if p.desc.stream then 8 else 7)))) ∧
  (∀ (e : Fin 8) (q i : Nat) (p : Page) (x : Stripe) (s : State), s.codec.engines.getD e.val none = some ⟨true, q, i⟩ →
    s.page q = some p → p.stripe i = some x → ∃ t p', exec (.printDecodeDone e) s = .next t ∧ t.page q = some p' ∧
      t.codec.decoded = s.codec.decoded ++ [⟨q, i, p.desc.lb, x.lines, (gscDecode (p.shape x) x.data).out,
        (gscDecode (p.shape x) x.data).voidFrom⟩] ∧
      ((gscDecode (p.shape x) x.data).cause = .pass → p' = p) ∧
      ((gscDecode (p.shape x) x.data).cause ≠ .pass → p.record.status = 0 → p'.record.status = 1 ∧
        p'.record.spoilLine = some (256 * i * s.ratio p) ∧ p'.record.reason = (if p.desc.stream then 6 else 5))) ∧
  (∀ (line y : Nat) (p : Page) (d : Decoded) (s : State), line < s.writerReach → s.bandLine line = none → s.pageOfLine line = some (p, y) →
    p.closed = false → p.blankFrom = none → ¬(p.record.status = 1 ∧ p.record.reason = 4) →
    s.codec.decoded.find? (fun d => d.pseq == p.pseq && d.stripe == y / s.ratio p / 256) = some d → ∃ t, exec (.screenLine line) s = .next t ∧
      t.bandLine line = some ⟨line, p.pseq, y, pageCodes p.desc.firstCol (p.desc.widthM1 + 1) (fun c =>
        if p.desc.contone = true then s.contoneCode s.compHw (s.ctbGen p.ctbGen) (s.nmGen p.nmGen) p d (s.ratio p) y
          (y - 256 * (y / s.ratio p / 256) * s.ratio p) c
        else rasterCode p d (y - 256 * (y / s.ratio p / 256) * s.ratio p) (c - p.desc.firstCol)), false⟩ ∧
      t.pages = s.pages ∧ t.dram = s.dram ∧ t.scr.written = max s.scr.written (line + 1)) ∧
  (∀ (line y : Nat) (p : Page) (s : State), line < s.writerReach → s.bandLine line = none → s.pageOfLine line = some (p, y) →
    p.blankFrom.isSome = true → ∃ t, exec (.screenLine line) s = .next t ∧ t.bandLine line = some ⟨line, p.pseq, y, [], false⟩ ∧
      t = { s with scr := t.scr }) ∧
  (∀ (line : Nat) (s : State), s.writerReach ≤ line → exec (.screenLine line) s = .next s) ∧
  (∀ (j : CmxJob) (rest : List CmxJob) (s : State), s.shaped → s.codec.waiting = j :: rest → s.codec.cmx.getD 0 none = none →
    ∃ t, exec .cmxJobStart s = .next t ∧ t.codec.waiting = rest ∧ t.codec.cmx.getD 0 none = some j ∧
      t.codec.cmx.getD 1 none = s.codec.cmx.getD 1 none ∧ t.get CmxStat.level 0 = j.level % 4 ∧ t.get CmxStat.owner 0 = j.owner % 4 ∧
      t = { s with regs := t.regs, codec := t.codec } ∧
      FieldsKept (fun f _ => [CmxStat.level, CmxStat.owner, CmxStat.queued].contains f) s t) ∧
  (∀ (m : Fin 2) (j : CmxJob) (s : State), s.shaped → s.codec.cmx.getD m.val none = some j → ∃ t, exec (.cmxJobDone m) s = .next t ∧
    t.codec.cmx.getD m.val none = none ∧ t.get CmxStat.owner m.val = 0 ∧
    t.get CmxIn.v m.val = (s.get CmxIn.v m.val + j.input.length) % 2 ^ 32 ∧
    t.get CmxOut.v m.val = (s.get CmxOut.v m.val + j.output.length) % 2 ^ 32 ∧
    (j.owner = 2 → j.dest + j.region ≤ s.managedBytes → t.dram = writeBytes s.dram j.dest j.output) ∧
    ((j.owner = 1 ∨ s.managedBytes < j.dest + j.region) → t.dram = s.dram))

/-- Digests of the partner and fill-in of stripes over the col link. Choices and readings of the model that it rests on: log 4, 55. -/
def Obligations.DigestsAndFillIn : Prop :=
  (∀ (rx : Rx) (seq : Nat) (d : Digest) (s : State), s.solo = false → rx.error = false → rx.crcOk = true →
    (Tab.find s.twin.rxSeq 0x0A = none ∨ ∃ q, Tab.find s.twin.rxSeq 0x0A = some q ∧ seq = (q + 1) % 2 ^ 32) →
    ∃ t, exec (.digestReceive rx seq d) s = .next t ∧
      (s.page d.pseq = none → d ∈ t.digestWait ∧ t = { s with digestWait := t.digestWait, twin := t.twin }) ∧
      (∀ p i x, s.page d.pseq = some p → d.stripe = some i → p.stripe i = some x → x.stored = false → ∃ p' x',
        t.page d.pseq = some p' ∧ p'.stripe i = some x' ∧ x'.partner = some d ∧
        (d.lacks = false → (⟨0x0A, [d.pseq, i + 1, 0, 0, 1]⟩ : ColOut) ∈ t.colTx)) ∧
      (∀ p i x, s.page d.pseq = some p → d.stripe = some i → p.stripe i = some x → x.stored = true → d.lacks = false →
        (d.clen ≠ x.clen ∨ d.crc ≠ x.endCrc) → s.role = roleStandby → ∃ p' x', t.page d.pseq = some p' ∧ p'.stripe i = some x' ∧
          x'.stored = false ∧ x'.data = [] ∧ Recorded s t .pgDigestDiff 0 [a64 d.pseq, a16 i])) ∧
  (∀ (p : Page) (i : Nat) (x : Stripe) (g : Digest) (s : State), s.solo = false → s.page p.pseq = some p → p.stripe i = some x →
    x.stored = false → x.partner = some g → g.lacks = false → p.closed = false → s.get PgCtrl.fillinEn 0 = 1 →
    exec (.fillinTimer p.pseq i) s = .next { s with colTx := insertCol ⟨0x0B, [p.pseq, i]⟩ s.colTx }) ∧
  (∀ (rx : Rx) (seq : Nat) (p : Page) (i : Nat) (x : Stripe) (s : State), s.solo = false → rx.error = false → rx.crcOk = true →
    (Tab.find s.twin.rxSeq 0x0B = none ∨ ∃ q, Tab.find s.twin.rxSeq 0x0B = some q ∧ seq = (q + 1) % 2 ^ 32) → s.page p.pseq = some p →
    p.stripe i = some x → x.stored = true → x.lost = false → ∃ t, exec (.fillReq rx seq p.pseq i) s = .next t ∧
      t = { s with twin := t.twin,
                   colTx := insertCol ⟨0x0C, [p.pseq, i, x.lines] ++ x.data.map (fun b => b.toNat)⟩ s.colTx }) ∧
  (∀ (rx : Rx) (seq : Nat) (p : Page) (i lines : Nat) (data : List Byte) (s : State), s.solo = false → rx.error = false → rx.crcOk = true →
    (Tab.find s.twin.rxSeq 0x0C = none ∨ ∃ q, Tab.find s.twin.rxSeq 0x0C = some q ∧ seq = (q + 1) % 2 ^ 32) → s.page p.pseq = some p →
    p.closed = false → p.dropsStripe i = false → ∃ t p' x', exec (.fillData rx seq p.pseq i lines data) s = .next t ∧
      t.page p.pseq = some p' ∧ p'.stripe i = some x' ∧ x'.stored = true ∧ x'.filled = true ∧ x'.data = data ∧ x'.lines = lines ∧
      p'.record.flags / 16 % 2 = 1 ∧ t.dram = s.dram) ∧
  (∀ (rx : Rx) (seq pseq i lines : Nat) (data : List Byte) (d : Digest) (s : State), s.solo = false → (rx.error = true ∨ rx.crcOk = false) →
    exec (.digestReceive rx seq d) s = .next s.colError ∧ exec (.fillReq rx seq pseq i) s = .next s.colError ∧
    exec (.fillData rx seq pseq i lines data) s = .next s.colError) ∧
  (∀ (rx : Rx) (seq pseq i lines : Nat) (data : List Byte) (d : Digest) (s : State), s.solo = true →
    exec (.digestReceive rx seq d) s = .next s ∧ exec (.fillReq rx seq pseq i) s = .next s ∧
    exec (.fillData rx seq pseq i lines data) s = .next s)

/-- Commits of the column tables and the nozzle map, and threshold slots opened, closed and checked. Choices and readings of the model that it rests on: log 35, 36. -/
def Obligations.NozzleMapAndTables : Prop :=
  (∀ s : State, s.role = roleStandby → exec .scrCommit s = .next (s.record .twStandbyCommit 0 []) ∧
    exec .nmCommit s = .next (s.record .twStandbyCommit 0 [])) ∧
  (∀ s : State, s.role ≠ roleStandby → s.get ScrCommit.busy 0 = 0 → ∃ t, exec .scrCommit s = .next t ∧ t.get ScrCommit.busy 0 = 1 ∧
    t = { s with regs := t.regs } ∧ FieldsKept (only [ScrCommit.busy]) s t) ∧
  (∀ s : State, s.role ≠ roleStandby → s.get NmCommit.busy 0 = 0 → ∃ t, exec .nmCommit s = .next t ∧ t.get NmCommit.busy 0 = 1 ∧
    t = { s with regs := t.regs, hmWait := none } ∧ FieldsKept (only [NmCommit.busy]) s t) ∧
  (∀ s : State, s.role ≠ roleStandby → s.get ScrCommit.busy 0 = 1 → exec .scrCommit s =
    .next { s with scr := { s.scr with ctbHeld := s.scr.ctbHeld ++ [(0x00300004, 1)] } }) ∧
  (∀ s : State, s.role ≠ roleStandby → s.get NmCommit.busy 0 = 1 → exec .nmCommit s =
    .next { s with hmWait := none, scr := { s.scr with nmHeld := s.scr.nmHeld ++ [(0x00A20000, 1)] } }) ∧
  (∀ s : State, s.get ScrCommit.busy 0 = 1 → s.scr.ctbHeld = [] → ∃ t, exec .scrCommitDone s = .next t ∧ t.get ScrCommit.busy 0 = 0 ∧
    t.get ScrGenNew.v 0 = (s.get ScrGenNew.v 0 + 1) % 2 ^ 32 ∧ t.ctbNewest.num = s.get ScrGenNew.v 0 + 1 ∧
    (∀ r ∈ ctbRegs, ∀ f ∈ r.fields, ∀ i, t.ctbNewest.get f i % 2 ^ f.width = s.get f i) ∧
    t = { s with regs := t.regs, scr := t.scr, colTx := t.colTx } ∧ t.scr.nmGens.head? = s.scr.nmGens.head? ∧
    FieldsKept (only [ScrCommit.busy, ScrGenNew.v]) s t) ∧
  (∀ s : State, s.get ScrCommit.busy 0 = 0 → exec .scrCommitDone s = .next s) ∧
  (∀ (g : TableGen) (s : State), g = ⟨s.get NmGenNew.v 0 + 1, copyRegs nmRegs s.regs⟩ → s.get NmCommit.busy 0 = 1 → s.scr.nmHeld = [] →
    s.ins.retry = false → ∃ t, exec .nmCommitDone s = .next t ∧ t.get NmCommit.busy 0 = 0 ∧ t.dram = s.dram ∧ t.pages = s.pages ∧
    t.get NmDelta.count 0 = genDelta g (s.nmGen (s.get NmGenCur.v 0)) % 2 ^ 19 ∧
    (s.nmRefusal g = 0 → t.get NmGenNew.v 0 = (s.get NmGenNew.v 0 + 1) % 2 ^ 32 ∧ t.nmNewest = g ∧ t.ev = s.ev ∧
      (∀ r ∈ nmRegs, ∀ f ∈ r.fields, ∀ i, t.nmNewest.get f i % 2 ^ f.width = s.get f i) ∧
      FieldsKept (only [NmCommit.busy, NmDelta.count, NmGenNew.v, NmStage.state, NmStage.trim]) s t) ∧
    (s.nmRefusal g ≠ 0 → t.get NmCommit.refused 0 = 1 ∧ t.get NmCommit.reason 0 = s.nmRefusal g ∧ t.get NmCommit.analyser 0 = 0 ∧
      Recorded s t .nmCommitRefused 0 [a8 (s.nmRefusal g)] ∧ t.scr.nmGens = s.scr.nmGens ∧
      FieldsKept (only [NmCommit.busy, NmDelta.count, NmCommit.refused, NmCommit.reason, NmCommit.analyser]) s t)) ∧
  (∀ s : State, s.get NmCommit.busy 0 = 0 → exec .nmCommitDone s = .next s) ∧
  (∀ (k : Fin 8) (v : Word) (s : State), ScrThrCtl.refused.of v = 0 → ScrThrCtl.monoErr.of v = 0 → ScrThrCtl.close.of v = 0 →
    ∃ t, exec (.scrThrOpen k v) s = .next t ∧ t = { s with regs := t.regs } ∧
    (s.slotNamed k.val = true → t.get ScrThrCtl.refused k.val = 1 ∧ FieldsKept (onlyAt [ScrThrCtl.refused] k.val) s t) ∧
    (s.slotNamed k.val = false → t.get ScrThrCtl.state k.val = 1 ∧ t.get ScrThrCtl.width k.val = ScrThrCtl.width.of v ∧
      t.get ScrThrCtl.height k.val = ScrThrCtl.height.of v ∧
      FieldsKept (onlyAt [ScrThrCtl.state, ScrThrCtl.width, ScrThrCtl.height] k.val) s t)) ∧
  (∀ (k : Fin 8) (v : Word) (s : State), ScrThrCtl.refused.of v = 0 → ScrThrCtl.monoErr.of v = 0 → ScrThrCtl.open_.of v = 0 →
    s.get ScrThrCtl.state k.val = 1 → ∃ t, exec (.scrThrClose k v) s = .next t ∧ t = { s with regs := t.regs, scr := t.scr } ∧
    t.get ScrThrCtl.state k.val = 1 ∧ t.get ScrThrCtl.width k.val = ScrThrCtl.width.of v ∧
    t.get ScrThrCtl.height k.val = ScrThrCtl.height.of v ∧
    FieldsKept (onlyAt [ScrThrCtl.width, ScrThrCtl.height, ScrThrCtl.monoErr] k.val) s t ∧
    (1 ≤ ScrThrCtl.width.of v → ScrThrCtl.width.of v ≤ 256 → 1 ≤ ScrThrCtl.height.of v → ScrThrCtl.height.of v ≤ 256 →
      k.val ∈ t.scr.thrChecks ∧ t.get ScrThrCtl.monoErr k.val = s.get ScrThrCtl.monoErr k.val) ∧
    ((ScrThrCtl.width.of v = 0 ∨ 256 < ScrThrCtl.width.of v ∨ ScrThrCtl.height.of v = 0 ∨ 256 < ScrThrCtl.height.of v) →
      t.get ScrThrCtl.monoErr k.val = 1 ∧ t.scr = s.scr)) ∧
  (∀ (k : Fin 8) (s : State), k.val ∈ s.scr.thrChecks → ∃ t, exec (.scrThrCheckDone k) s = .next t ∧ k.val ∉ t.scr.thrChecks ∧
    t = { s with regs := t.regs, scr := t.scr, ev := t.ev } ∧ FieldsKept (onlyAt [ScrThrCtl.state, ScrThrCtl.monoErr] k.val) s t ∧
    (s.thrBad k.val = none → t.get ScrThrCtl.state k.val = 2 ∧ t.ev = s.ev) ∧
    (∀ u w, s.thrBad k.val = some (u, w) → t.get ScrThrCtl.monoErr k.val = 1 ∧
      t.get ScrThrCtl.state k.val = s.get ScrThrCtl.state k.val ∧ Recorded s t .scrThrMono k.val [a8 u, a8 w])) ∧
  (∀ (k : Fin 8) (s : State), k.val ∉ s.scr.thrChecks → exec (.scrThrCheckDone k) s = .next s)

/-- Frames assembled, sent complete or LATE at the deadline; scree entries closed; duty weights kept in order. Choices and readings of the model that it rests on: log 33, 37. -/
def Obligations.FireFetch : Prop :=
  (∀ (p : Fin 128) (n : Nat) (s : State), (s.acting = false ∨ s.fpe.decided ≤ n ∨ n < s.nextLine p.val) →
    exec (.frameAssemble p n) s = .next s.noteLead ∧ exec (.fetchDeadline p n) s = .next s.noteLead ∧ s.noteLead.sent = s.sent ∧
    FieldsKept (only [BrLead.leadMin]) s s.noteLead) ∧
  (∀ (p : Fin 128) (n : Nat) (s : State), s.acting = true → n < s.fpe.decided → s.nextLine p.val ≤ n →
    (Tab.find s.fpe.decisions n = some .skip ∨ s.sites p.val n = []) → ∃ t, exec (.frameAssemble p n) s = .next t ∧
    exec (.fetchDeadline p n) s = .next t ∧ t.nextLine p.val = n + 1 ∧ (∀ q, q ≠ p.val → t.nextLine q = s.nextLine q) ∧
    t.ports = s.ports ∧ t.sent = s.sent ∧ t.pages = s.pages ∧ t.pins = s.pins ∧ t.dram = s.dram ∧
    FieldsKept (only [BrLead.leadMin, JnlLast.v]) s t) ∧
  (∀ (p : Fin 128) (n : Nat) (s u : State), u = s.syncWd p.val → s.acting = true → n < s.fpe.decided → s.nextLine p.val ≤ n →
    Tab.find s.fpe.decisions n ≠ some .skip → s.sites p.val n ≠ [] → u.blankCause n = 0 →
    u.frameComplete p.val n (s.sites p.val n) = false → ∃ t, exec (.frameAssemble p n) s = .next t ∧ t = u.noteLead ∧
    t.nextLine p.val = s.nextLine p.val) ∧
  (∀ (p : Fin 128) (n : Nat) (s u : State), u = s.syncWd p.val → s.acting = true → n < s.fpe.decided → s.nextLine p.val ≤ n →
    Tab.find s.fpe.decisions n ≠ some .skip → s.sites p.val n ≠ [] → u.blankCause n = 0 →
    u.frameComplete p.val n (s.sites p.val n) = false → u.mayDrive = true → u.hpState p.val ≠ hpDown → u.isUp p.val = true →
    (u.port p.val).staleEpoch = false → ∃ t f, exec (.fetchDeadline p n) s = .next t ∧ t.nextLine p.val = n + 1 ∧
      f ∈ (t.port p.val).frames ∧ f.line = n ∧ f.codes = [] ∧ f.flags % 2 = 1 ∧ f.rowMask = rowMask (s.sites p.val n) ∧
      t.sent = .head p.val 0x4C f.args :: u.sent ∧ t.get FfCntLate.count 0 = satAdd 31 (u.get FfCntLate.count 0) 1 ∧
      (∀ q, q ≠ p.val → t.port q = u.port q)) ∧
  (∀ (p : Fin 128) (n : Nat) (s u : State), u = s.syncWd p.val → s.acting = true → n < s.fpe.decided → s.nextLine p.val ≤ n →
    Tab.find s.fpe.decisions n ≠ some .skip → s.sites p.val n ≠ [] → u.blankCause n = 0 →
    u.frameComplete p.val n (s.sites p.val n) = true → u.mayDrive = true → u.hpState p.val ≠ hpDown → u.isUp p.val = true →
    (u.port p.val).staleEpoch = false → ∃ t f, exec (.frameAssemble p n) s = .next t ∧ exec (.fetchDeadline p n) s = .next t ∧
      t.nextLine p.val = n + 1 ∧ f ∈ (t.port p.val).frames ∧ f.line = n ∧ f.flags % 2 = 0 ∧ f.rowMask = rowMask (s.sites p.val n) ∧
      f.csMask = csMask (s.sites p.val n) ∧ t.sent = .head p.val 0x4C f.args :: u.sent ∧
      t.get FfCntLate.count 0 = u.get FfCntLate.count 0 ∧
      (∀ i, Tab.get 0 f.codes i ≠ 0 → ∃ x ∈ s.sites p.val n, x.noz = i ∧ x.canFire (s.nmGen x.page.nmGen) p.val = true ∧
        x.page.blankFrom = none ∧ u.withdrawn p.val x.di x.row x.n = false ∧
        Tab.get 0 f.codes i ≤ (s.nmGen x.page.nmGen).get NmStage.cap (2048 * p.val + i) ∧
        Tab.get 0 f.codes i ≤ (s.bandCode x.n x.col).getD 0)) ∧
  (∀ (p : Fin 128) (n : Nat) (s u : State), u = s.syncWd p.val → s.acting = true → n < s.fpe.decided → s.nextLine p.val ≤ n →
    Tab.find s.fpe.decisions n ≠ some .skip → s.sites p.val n ≠ [] → u.blankCause n ≠ 0 → u.mayDrive = true →
    u.hpState p.val ≠ hpDown → u.isUp p.val = true → (u.port p.val).staleEpoch = false → ∃ t f,
      exec (.frameAssemble p n) s = .next t ∧ exec (.fetchDeadline p n) s = .next t ∧ t.nextLine p.val = n + 1 ∧
      f ∈ (t.port p.val).frames ∧ f.line = n ∧ f.codes = [] ∧ f.flags % 2 = 0 ∧ t.sent = .head p.val 0x4C f.args :: u.sent ∧
      t.get FfCntLate.count 0 = u.get FfCntLate.count 0) ∧
  (∀ (q kind port noz : Nat) (e : ScreeEntry) (s : State), s.ff.scree.find? (sameEntry q kind port noz) = some e →
    (s.portPassed port q = true ∨ (256 ≤ e.quiet ∧ nozzleKind kind = false)) → ∃ t, exec (.screeEntryClose q kind port noz) s = .next t ∧
    e ∉ t.ff.scree ∧ t.dram = s.dram ∧
    ((s.get FfScreeWr.v 0 + 2 ^ 32 - s.get FfScreeRd.v 0) % 2 ^ 32 < s.screeSize → t.get FfScreeWr.v 0 = (s.get FfScreeWr.v 0 + 1) % 2 ^ 32 ∧
      Tab.find t.ff.ring (s.get FfScreeWr.v 0 % s.screeSize) = some e.word ∧ FieldsKept (only [FfScreeWr.v]) s t ∧ t.pages = s.pages) ∧
    (s.screeSize ≤ (s.get FfScreeWr.v 0 + 2 ^ 32 - s.get FfScreeRd.v 0) % 2 ^ 32 →
      t.get FfScreeLost.count 0 = satAdd 31 (s.get FfScreeLost.count 0) 1 ∧ t.ff.ring = s.ff.ring ∧
      FieldsKept (only [FfScreeLost.count, FfScreeLost.ovf]) s t)) ∧
  (∀ (q kind port noz : Nat) (s : State), s.ff.scree.find? (sameEntry q kind port noz) = none →
    exec (.screeEntryClose q kind port noz) s = .next s) ∧
  (∀ (v : Word) (s : State), ∃ t, exec (.ffDutyWeightWrite false v) s = .next t ∧ t = { s with regs := t.regs } ∧
    ((FfDutyW0.w1.of v ≤ FfDutyW0.w2.of v ∧ FfDutyW0.w2.of v ≤ FfDutyW0.w3.of v ∧ FfDutyW0.w3.of v ≤ FfDutyW0.w4.of v ∧
        FfDutyW0.w4.of v ≤ s.get FfDutyW1.w5 0 ∧ s.get FfDutyW1.w5 0 ≤ s.get FfDutyW1.w6 0 ∧ s.get FfDutyW1.w6 0 ≤ s.get FfDutyW1.w7 0) →
      t.get FfDutyW0.w1 0 = FfDutyW0.w1.of v ∧ t.get FfDutyW0.w2 0 = FfDutyW0.w2.of v ∧ t.get FfDutyW0.w3 0 = FfDutyW0.w3.of v ∧
      t.get FfDutyW0.w4 0 = FfDutyW0.w4.of v ∧ FieldsKept (only [FfDutyW0.w1, FfDutyW0.w2, FfDutyW0.w3, FfDutyW0.w4]) s t) ∧
    ((FfDutyW0.w2.of v < FfDutyW0.w1.of v ∨ FfDutyW0.w3.of v < FfDutyW0.w2.of v ∨ FfDutyW0.w4.of v < FfDutyW0.w3.of v ∨
        s.get FfDutyW1.w5 0 < FfDutyW0.w4.of v) → t.get FfCtrl.wErr 0 = 1 ∧ FieldsKept (only [FfCtrl.wErr]) s t)) ∧
  (∀ (v : Word) (s : State), ∃ t, exec (.ffDutyWeightWrite true v) s = .next t ∧ t = { s with regs := t.regs } ∧
    ((s.get FfDutyW0.w1 0 ≤ s.get FfDutyW0.w2 0 ∧ s.get FfDutyW0.w2 0 ≤ s.get FfDutyW0.w3 0 ∧ s.get FfDutyW0.w3 0 ≤ s.get FfDutyW0.w4 0 ∧
        s.get FfDutyW0.w4 0 ≤ FfDutyW1.w5.of v ∧ FfDutyW1.w5.of v ≤ FfDutyW1.w6.of v ∧ FfDutyW1.w6.of v ≤ FfDutyW1.w7.of v) →
      t.get FfDutyW1.w5 0 = FfDutyW1.w5.of v ∧ t.get FfDutyW1.w6 0 = FfDutyW1.w6.of v ∧ t.get FfDutyW1.w7 0 = FfDutyW1.w7.of v ∧
      FieldsKept (only [FfDutyW1.w5, FfDutyW1.w6, FfDutyW1.w7]) s t) ∧
    ((FfDutyW1.w5.of v < s.get FfDutyW0.w4 0 ∨ FfDutyW1.w6.of v < FfDutyW1.w5.of v ∨ FfDutyW1.w7.of v < FfDutyW1.w6.of v) →
      t.get FfCtrl.wErr 0 = 1 ∧ FieldsKept (only [FfCtrl.wErr]) s t))

/-- The fire position engine: its mode at each LQ, the position, selection of a source, and the expiry of COAST -/
def Obligations.FpeModes : Prop :=
  (∀ s : State, ∃ t, exec .fpeLqUpdate s = .next t ∧
    (s.mode = 0 → s.srcOk 0 = true → 16 ≤ s.fpe.edges.getD 0 0 → t.mode = 1) ∧
    (s.mode = 0 → (s.srcOk 0 = false ∨ s.fpe.edges.getD 0 0 < 16) → s.srcOk 1 = true → 16 ≤ s.fpe.edges.getD 1 0 →
      (s.flag FpeCtrl.autoB 0 = true ∨ s.fpe.selB = true) → t.mode = 2) ∧
    (s.mode = 0 → (s.srcOk 0 = false ∨ s.fpe.edges.getD 0 0 < 16) → (s.srcOk 1 = false ∨ s.fpe.edges.getD 1 0 < 16 ∨
      (s.flag FpeCtrl.autoB 0 = false ∧ s.fpe.selB = false)) → t.mode = 0) ∧
    (s.mode = 1 → s.srcOk 0 = false → s.flag FpeCtrl.autoB 0 = true → s.srcOk 1 = true → t.mode = 2) ∧
    (s.mode = 1 → s.srcOk 0 = false → (s.flag FpeCtrl.autoB 0 = false ∨ s.srcOk 1 = false) → t.mode = 3) ∧
    (s.mode = 1 → s.srcOk 0 = true → t.mode = (if s.fpe.selB = true ∧ s.srcOk 1 = true then 2 else 1)) ∧
    (s.mode = 2 → s.srcOk 1 = false → t.mode = (if s.srcOk 0 = true then 1 else 3)) ∧
    (s.mode = 2 → s.srcOk 1 = true → t.mode = (if s.srcOk 0 = true ∧ s.fpe.selA = true then 1 else 2)) ∧
    ((s.mode = 3 ∨ s.mode = 4) → s.srcOk 0 = true → t.mode = 1) ∧
    ((s.mode = 3 ∨ s.mode = 4) → s.srcOk 0 = false → t.mode =
      (if s.srcOk 1 = true ∧ (s.flag FpeCtrl.autoB 0 = true ∨ s.fpe.selB = true) then 2 else s.mode)) ∧
    (s.mode ≠ 0 → t.fpe.x = s.fpe.x + s.fpe.vel ∧
      (s.fpe.xhw ≤ s.fpe.x + s.fpe.vel → t.fpe.xhw = s.fpe.x + s.fpe.vel ∧ t.get FpeStat.behind 0 = 0) ∧
      (s.fpe.x + s.fpe.vel < s.fpe.xhw - 2 ^ 24 → t.fpe.xhw = s.fpe.xhw ∧ t.get FpeStat.behind 0 = 1)) ∧
    t.fpe.xAt = s.ft ∧ t.fpe.vel = s.fpe.vel ∧ t.fpe.hwm = s.fpe.hwm ∧ t.fpe.taken = s.posn.enc.map (fun x => x.net) ∧
    t.fpe.selA = false ∧ (∀ n, n < 6 → t.getInt EncSpeed.v n = signed 32 (unsign 32 (s.posn.enc.getD n Encoder.reset).sample)) ∧
    t.pages = s.pages ∧ t.dram = s.dram ∧ t.ports = s.ports ∧
    (t.mode = s.mode → t = { s with regs := t.regs, force := t.force, fpe := t.fpe, ev := t.ev, pins := t.pins } ∧
      FieldsKept (only [FpeStat.aOk, FpeStat.bOk, FpeStat.behind, FpeStat.adv, FpeStat.mode, EncSpeed.v, FpePeriod.v, FpeAllowed.v]) s t)) ∧
  (∀ (v : Word) (s u : State), u = s.storeWord .fpeCtrl 0 v → exec (.fpeSelA v) s = exec (.fpeSelB v) s ∧
    u.get FpeCtrl.srcA 0 = FpeCtrl.srcA.of v ∧ u.get FpeCtrl.srcB 0 = FpeCtrl.srcB.of v ∧ u.get FpeCtrl.autoB 0 = FpeCtrl.autoB.of v ∧
    u = { s with regs := u.regs } ∧
    (FpeCtrl.selA.of v = 1 → FpeCtrl.selB.of v = 0 → u.srcOk 0 = true →
      exec (.fpeSelA v) s = .next { u with fpe := { u.fpe with selA := true } }) ∧
    (FpeCtrl.selA.of v = 1 → FpeCtrl.selB.of v = 0 → u.srcOk 0 = false → exec (.fpeSelA v) s = .next (u.record .fpeSelRefused 0 [])) ∧
    (FpeCtrl.selA.of v = 0 → FpeCtrl.selB.of v = 1 → u.srcOk 1 = true →
      exec (.fpeSelB v) s = .next { u with fpe := { u.fpe with selB := true } }) ∧
    (FpeCtrl.selA.of v = 0 → FpeCtrl.selB.of v = 1 → u.srcOk 1 = false → exec (.fpeSelB v) s = .next (u.record .fpeSelRefused 0 []))) ∧
  (∀ s : State, s.mode = 3 → ∃ t, exec .fpeCoastExpired s = .next t ∧ t.mode = 4 ∧ Recorded s t .fpeCoastExpired 0 [] ∧
    t = { s with regs := t.regs, ev := t.ev } ∧ FieldsKept (only [FpeStat.mode]) s t) ∧
  (∀ s : State, s.mode ≠ 3 → exec .fpeCoastExpired s = .next s)

/-- Fire stamps: when one is issued, its fields, strictly rising TIME, the bound of R227 and HWM -/
def Obligations.FireStamps : Prop :=
  (∀ (p : Fin 128) (n t0 : Nat) (s : State), s.mayDrive = true → s.mode ≠ 0 → 0 < s.fpe.vel → s.get FpeStat.behind 0 = 0 →
    s.isUp p.val = true → (s.port p.val).staleEpoch = false → s.stampDue p.val n = true → s.twin.pacing = none →
    (∀ l, Tab.find s.fpe.decisions n = some (.fire l) → l = 0) → s.predict (256 * n + s.slewOfs p.val) = some t0 →
    ∃ t time, exec (.stampIssue p n) s = .next t ∧
      t.sent = .head p.val 2 [n % 2 ^ 32, time % 2 ^ 48, s.get TwStat.epoch 0, 1, s.period] ::
        .head p.val 2 [n % 2 ^ 32, time % 2 ^ 48, s.get TwStat.epoch 0, 0, s.period] :: s.sent ∧
      (∀ x, Tab.find s.fpe.time p.val = some x → x < time) ∧ (s.earliestStamp + 128) / 256 ≤ time ∧
      Tab.find t.fpe.time p.val = some time ∧ Tab.find t.fpe.applied p.val = some (s.slewOfs p.val) ∧
      t.stampDue p.val n = false ∧
      (s.earliestStamp ≤ t0 → (∀ x, Tab.find s.fpe.time p.val = some x → x < (t0 + 128) / 256) → time = (t0 + 128) / 256) ∧
      (s.earliestStamp ≤ t0 → t.regs = s.regs ∧ t.ev = s.ev) ∧
      (t0 < s.earliestStamp → t.get FpeCntSlip.count 0 = satAdd 31 (s.get FpeCntSlip.count 0) 1) ∧
      (s.fpe.hwm = none → t.fpe.hwm = some n) ∧ (∀ h, s.fpe.hwm = some h → t.fpe.hwm = some (max h n)) ∧
      t = { s with regs := t.regs, ev := t.ev, fpe := t.fpe, pages := t.pages, sent := t.sent } ∧
      FieldsKept (only [FpeCntSlip.count, FpeCntSlip.ovf]) s t) ∧
  (∀ (p : Fin 128) (n : Nat) (s : State), (s.mayDrive = false ∨ s.mode = 0 ∨ s.fpe.vel ≤ 0 ∨ s.get FpeStat.behind 0 = 1 ∨
      s.isUp p.val = false ∨ (s.port p.val).staleEpoch = true ∨ s.stampDue p.val n = false) → exec (.stampIssue p n) s = .next s) ∧
  (∀ (p n : Nat) (s : State), n < Tab.get 0 s.fpe.stamped p → s.stampDue p n = false) ∧
  (∀ (p : Nat) (s : State), Tab.find s.fpe.applied p = none → s.slewOfs p = s.getInt FpePhase.phase p + s.getInt FpeRegOfs.ofs 0) ∧
  (∀ (p : Nat) (a : Int) (s : State), Tab.find s.fpe.applied p = some a → 1 ≤ s.get FpeOfsSlew.pu 0 →
    (s.slewOfs p - a).natAbs ≤ s.get FpeOfsSlew.pu 0 ∧
    ((s.targetOfs p - a).natAbs ≤ s.get FpeOfsSlew.pu 0 → s.slewOfs p = s.targetOfs p))

/-- Line decisions under DROP, STRETCH, BLANK and ABSORB; the absorb state; the speed advisory. Choices and readings of the model that it rests on: log 38. -/
def Obligations.LineDecisions : Prop :=
  (∀ (n : Nat) (s : State), (s.acting = false ∨ s.mode = 0 ∨ n < s.fpe.decided) → exec (.lineDecision n) s = .next s) ∧
  (∀ (n tw : Nat) (due ds : List Nat) (s : State), s.acting = true → s.mode ≠ 0 → s.fpe.decided ≤ n →
    due = s.portsInUse.filter (fun p => s.sites p n != []) → ds = due.filter (fun p => !s.wdOpen p) →
    tw = (s.predict (256 * n)).getD (s.ft * 256) → ∃ t, exec (.lineDecision n) s = .next t ∧ t.fpe.decided = n + 1 ∧ t.sent = s.sent ∧
    t.dram = s.dram ∧ t.fpe.hwm = s.fpe.hwm ∧ t.fpe.x = s.fpe.x ∧
    (ds = [] → t.get FpeStat.overspeed 0 = 0 ∧ t.fpe.decisions = s.fpe.decisions ∧ t.fpe.last = s.fpe.last) ∧
    (ds ≠ [] → s.fpe.skipUntil = none → s.fpe.fallen = none → s.fpe.blankPage = none → s.twin.pacing = none →
      ((∀ p ∈ ds, ∀ x, Tab.find s.fpe.last p = some x → x + s.gap p ≤ tw) →
        Tab.find t.fpe.decisions n = some (.fire 0) ∧ (∀ p ∈ ds, Tab.find t.fpe.last p = some tw) ∧ t.get FpeStat.overspeed 0 = 0 ∧
        t.get FpeCntSkip.count 0 = s.get FpeCntSkip.count 0) ∧
      ((∃ p ∈ ds, ∃ x, Tab.find s.fpe.last p = some x ∧ tw < x + s.gap p) → t.get FpeStat.overspeed 0 = 1 ∧
        (s.mayAssert = true → t.get FpeStat.adv 0 = 1) ∧
        (∀ m, s.policyOf n = 1 → IsGreatest (insert tw {y | ∃ p ∈ ds, ∃ x, Tab.find s.fpe.last p = some x ∧ y = x + s.gap p}) m →
          (m - tw ≤ max 16 (s.get FpeStretch.stretchMax 0) * s.period → Tab.find t.fpe.decisions n = some (.fire (m - tw)) ∧
            (∀ p ∈ ds, Tab.find t.fpe.last p = some m)) ∧
          (max 16 (s.get FpeStretch.stretchMax 0) * s.period < m - tw → Tab.find t.fpe.decisions n = some .skip ∧
            t.get FpeCntFall.count 0 = satAdd 31 (s.get FpeCntFall.count 0) 1 ∧
            t.get FpeCntSkip.count 0 = satAdd 31 (s.get FpeCntSkip.count 0) 1)) ∧
        ((s.policyOf n = 0 ∨ s.policyOf n = 3) → Tab.find t.fpe.decisions n = some .skip ∧ t.fpe.last = s.fpe.last ∧
          t.get FpeCntSkip.count 0 = satAdd 31 (s.get FpeCntSkip.count 0) 1 ∧
          t.get FpeStat.absorb 0 = (if s.policyOf n = 3 then 1 else s.get FpeStat.absorb 0)) ∧
        (s.policyOf n = 2 → Tab.find t.fpe.decisions n = some .blank ∧ t.get FpeCntSkip.count 0 = s.get FpeCntSkip.count 0 ∧
          ∀ q y, s.pageOfLine n = some (q, y) → s.page q.pseq = some q → q.record.status = 0 → ∃ q', t.page q.pseq = some q' ∧ q'.record.status = 1 ∧
            q'.record.reason = 9)))) ∧
  (∀ s : State, ∃ t, exec .absHoldExpiry s = .next t ∧ t.get FpeStat.absorb 0 = 0 ∧ t = { s with regs := t.regs } ∧
    FieldsKept (only [FpeStat.absorb]) s t) ∧
  (∀ s : State, s.get FpeStat.adv 0 = 1 → 100 * s.lineRate < s.get FpeAdv.offPct 0 * s.get FpeAllowed.v 0 → ∃ t,
    exec .spdAdvRelease s = .next t ∧ t.pins = { s.pins with spdAdvN := true } ∧ t.get FpeStat.adv 0 = 0 ∧
    t.net.advSeq = (s.net.advSeq + 1) % 65536 ∧ t.pages = s.pages ∧ t.fpe = s.fpe ∧
    FieldsKept (only [FpeStat.adv, NetCntDrop.count, NetCntDrop.ovf]) s t) ∧
  (∀ s : State, (s.get FpeStat.adv 0 = 0 ∨ s.get FpeAdv.offPct 0 * s.get FpeAllowed.v 0 ≤ 100 * s.lineRate) →
    exec .spdAdvRelease s = .next s) ∧
  (∀ s : State, s.get FpeStat.adv 0 = 0 → exec .speedAdvisory s = .next s) ∧
  (∀ s : State, s.shaped → s.get FpeStat.adv 0 = 1 → s.portUp 0 = true → s.blocked 0 = false → s.net.egress.getD 0 [] = [] →
    s.net.busy.getD 0 0 ≤ s.now → s.guarded 0 60 = false → s.portUp 1 = false → ∃ t, exec .speedAdvisory s = .next t ∧
    t.sent = .ring 0 4 [s.net.advSeq, 64, s.get64 NetHostMacLo.v NetHostMacHi.v 0, s.get FpeAllowed.v 0, s.lineRate, 1,
      (s.ptpOf s.ft).1, (s.ptpOf s.ft).2] :: s.sent ∧ t.pins = s.pins ∧ t.regs = s.regs ∧ t = { s with sent := t.sent, net := t.net })

/-- Head telemetry, thermal hold and resume, lost telemetry, HEAT and TSYNC; upstream messages in error. Choices and readings of the model that it rests on: log 79. -/
def Obligations.HeadTelemetry : Prop :=
  (∀ (p : Fin 128) (m : Telem) (a : AckMsg) (h : Hello) (rx : Rx) (i j k : Nat) (l : List Nat) (b : List Byte) (s : State),
    (s.isUp p.val = false → exec (.telem p m) s = .next s ∧ exec (.ack p a) s = .next s ∧ exec (.hello p h) s = .next s ∧
      exec (.echoRsp p rx i j k) s = .next s ∧ exec (.response p rx i j b) s = .next s ∧ exec (.usage p rx i l b) s = .next s ∧
      exec (.mack p rx i j) s = .next s ∧ exec (.headParamReply p rx b) s = .next s) ∧
    (s.isUp p.val = true → ∃ t, t = s.count HpCntUperr.count HpCntUperr.ovf p.val ∧
      t.get HpCntUperr.count p.val = satAdd 31 (s.get HpCntUperr.count p.val) 1 ∧
      FieldsKept (onlyAt [HpCntUperr.count, HpCntUperr.ovf] p.val) s t ∧
      (Rx.good m.rx = false → exec (.telem p m) s = .next t) ∧ (Rx.good a.rx = false → exec (.ack p a) s = .next t) ∧
      (Rx.good h.rx = false → exec (.hello p h) s = .next t) ∧
      (Rx.good rx = false → exec (.echoRsp p rx i j k) s = .next t ∧ exec (.response p rx i j b) s = .next t ∧
        exec (.usage p rx i l b) s = .next t ∧ exec (.mack p rx i j) s = .next t ∧ exec (.headParamReply p rx b) s = .next t))) ∧
  (∀ (p : Fin 128) (m : Telem) (s : State), s.isUp p.val = true → Rx.good m.rx = true → ∃ t, exec (.telem p m) s = .next t ∧
    t.get HpTstat.temp p.val = m.temp % 2 ^ 16 ∧ t.get HpTelem.vdrive p.val = m.vdrive % 2 ^ 16 ∧
    t.get HpTelem.status p.val = m.status % 2 ^ 16 ∧ t.get HpStat.eHi p.val = m.eHi % 2 ^ 8 ∧
    t.get HpStat.timeOk p.val = (if m.portB = true then m.status / 2 % 2 else m.status % 2) ∧
    t.get HpStat.tablesOk p.val = m.status / 4 % 2 ∧ (t.port p.val).lFired = m.lFired ∧ (t.port p.val).telemAt = s.now ∧
    (∀ d, s.headTable p.val 2 = some d → (t.port p.val).wscale = waveScale d (signed 16 m.temp) m.vdrive % 65536) ∧
    (s.headTable p.val 2 = none → (t.port p.val).wscale = (s.port p.val).wscale % 65536) ∧
    ((m.status / 32 % 2 = 1 ∨ (s.get HpTherm.htLimit p.val : Int) < signed 16 m.temp) → t.flag HpTstat.hold p.val = true ∧
      t.flag HpTstat.stale p.val = false ∧ (s.flag HpTstat.hold p.val = true → t.get HpTstat.holds p.val = s.get HpTstat.holds p.val) ∧
      (s.flag HpTstat.hold p.val = false → t.get HpTstat.holds p.val = satAdd 12 (s.get HpTstat.holds p.val) 1 ∧
        (s.acting = true → t.wdOpen p.val = true))) ∧
    (m.status / 32 % 2 = 0 → signed 16 m.temp < (s.get HpTherm.htLimit p.val : Int) - s.get HpTherm.htHyst p.val →
      t.flag HpTstat.hold p.val = false ∧ t.flag HpTstat.stale p.val = false) ∧
    (m.status / 32 % 2 = 0 → signed 16 m.temp ≤ (s.get HpTherm.htLimit p.val : Int) →
      (s.get HpTherm.htLimit p.val : Int) - s.get HpTherm.htHyst p.val ≤ signed 16 m.temp →
      t.flag HpTstat.hold p.val = (s.flag HpTstat.hold p.val || s.flag HpTstat.stale p.val) ∧
      t.get HpTstat.holds p.val = s.get HpTstat.holds p.val) ∧
    t.sent = s.sent ∧ t.pages = s.pages ∧ t.dram = s.dram ∧ (∀ q, q ≠ p.val → t.port q = s.port q) ∧
    FieldsKept (only [HpTstat.temp, HpTstat.hold, HpTstat.stale, HpTstat.holdSeen, HpTstat.holds, HpTstat.ovf, HpTelem.vdrive,
      HpTelem.status, HpStat.eHi, HpStat.timeOk, HpStat.tablesOk, HpStat.state, CalStat.state, CalStat.abandoned]) s t) ∧
  (∀ (p : Fin 128) (s : State), (s.hpState p.val = hpDown ∨ s.flag HpTstat.stale p.val = true) → exec (.htTelemLost p) s = .next s) ∧
  (∀ (p : Fin 128) (s : State), s.hpState p.val ≠ hpDown → s.flag HpTstat.stale p.val = false → ∃ t,
    exec (.htTelemLost p) s = .next t ∧ t.flag HpTstat.stale p.val = true ∧ (s.acting = true → t.wdOpen p.val = true) ∧
    (s.calState = calIdle → Recorded s t .htTelemLost p.val []) ∧ t.ports = s.ports ∧ t.sent = s.sent ∧
    FieldsKept (only [HpTstat.stale, CalStat.state, CalStat.abandoned]) s t) ∧
  (∀ (p : Fin 128) (s : State), s.mayDrive = true → s.isUp p.val = true → s.hpState p.val ≠ hpDown → s.hpState p.val ≠ hpAsleep →
    (s.port p.val).staleEpoch = false → ∃ t, exec (.heat p) s = .next t ∧
    t.sent = .head p.val 3 [s.get TwStat.epoch 0, 0, s.heaterDuty p.val] :: s.sent ∧ (t.port p.val).lastHeat = s.now ∧
    t = { s with sent := t.sent, ports := t.ports } ∧ (∀ q, q ≠ p.val → t.port q = s.port q)) ∧
  (∀ (p : Fin 128) (s : State), (s.mayDrive = false ∨ s.isUp p.val = false ∨ s.hpState p.val = hpDown ∨ s.hpState p.val = hpAsleep ∨
    (s.port p.val).staleEpoch = true) → exec (.heat p) s = .next s) ∧
  (∀ (p : Nat) (s : State), (s.flag HpTstat.hold p = true ∨ s.flag HpTstat.stale p = true) → s.heaterDuty p = 0) ∧
  (∀ s : State, ∃ t, exec .tsync s = .next t ∧ t = { s with sent := t.sent } ∧
    t.sent.length = s.sent.length + ((List.range 128).filter (fun p => s.awake p)).length ∧
    (∀ p, p < 128 → s.awake p = true →
      Out.head p 1 [(s.ft + s.get HpLdly.dly p / 256) % 2 ^ 40, s.get HpLdly.dly p % 256] ∈ t.sent) ∧ s.sent <:+ t.sent)

/-- Delay measurement, acknowledgements of line frames, resends and lost frames. Choices and readings of the model that it rests on: log 4. -/
def Obligations.HeadDelayAndAcks : Prop :=
  (∀ (p : Fin 128) (t0 : Nat) (s : State), s.awake p.val = true → (s.port p.val).retryWait = false →
    (s.port p.val).echoOut.length + (s.port p.val).echoes.length < 16 → ∃ t, exec (.echoReq p t0) s = .next t ∧
    t.sent = .head p.val 4 [(s.port p.val).echoId] :: s.sent ∧ Tab.find (t.port p.val).echoOut (s.port p.val).echoId = some t0 ∧
    (t.port p.val).echoId = ((s.port p.val).echoId + 1) % 65536 ∧ t = { s with sent := t.sent, ports := t.ports }) ∧
  (∀ (p : Fin 128) (t0 : Nat) (s : State), (s.awake p.val = false ∨ (s.port p.val).retryWait = true ∨
    16 ≤ (s.port p.val).echoOut.length + (s.port p.val).echoes.length) → exec (.echoReq p t0) s = .next s) ∧
  (∀ (p : Fin 128) (rx : Rx) (id hold t3 t0 : Nat) (s : State), s.isUp p.val = true → Rx.good rx = true → Tab.find (s.port p.val).echoOut id = some t0 →
    ((s.port p.val).echoes.length ≠ 15 → ∃ t, exec (.echoRsp p rx id hold t3) s = .next t ∧
      (t.port p.val).echoes = (t3 - t0 - hold) :: (s.port p.val).echoes ∧ Tab.find (t.port p.val).echoOut id = none ∧
      t = { s with ports := t.ports }) ∧
    (∀ l hi lo, (s.port p.val).echoes.length = 15 → l = (t3 - t0 - hold) :: (s.port p.val).echoes → IsGreatest {x | x ∈ l} hi →
      IsLeast {x | x ∈ l} lo → ∃ t, exec (.echoRsp p rx id hold t3) s = .next t ∧ (t.port p.val).echoes = [] ∧
      (t.port p.val).echoOut = [] ∧
      (hi - lo ≤ 256 → t.get HpLdly.dly p.val = l.sum / 32 % 2 ^ 24 ∧ (t.port p.val).delayOk = true ∧ (t.port p.val).badSets = 0) ∧
      (256 < hi - lo → (s.port p.val).badSets ≠ 7 → t.regs = s.regs ∧ (t.port p.val).badSets = (s.port p.val).badSets + 1) ∧
      (256 < hi - lo → (s.port p.val).badSets = 7 → (t.port p.val).retryWait = true ∧ (t.port p.val).badSets = 0 ∧
        Recorded s t .hpLdlyFail p.val []))) ∧
  (∀ (p : Fin 128) (rx : Rx) (id hold t3 : Nat) (s : State), s.isUp p.val = true → Rx.good rx = true → Tab.find (s.port p.val).echoOut id = none →
    exec (.echoRsp p rx id hold t3) s = .next s) ∧
  (∀ (p : Fin 128) (s : State), (s.port p.val).retryWait = true → s.isUp p.val = true → ∃ t, exec (.ldlyRetry p) s = .next t ∧
    (t.port p.val).retryWait = false ∧ t.hpState p.val = hpSync ∧ t.sent.head? = some (.head p.val 0x102 []) ∧
    (t.port p.val).depth = s.ctrlDepth p.val) ∧
  (∀ (p : Fin 128) (s : State), (s.port p.val).retryWait = false → exec (.ldlyRetry p) s = .next s) ∧
  (∀ (p : Fin 128) (s : State), (s.isUp p.val = false ∨ (s.port p.val).retryWait = true) → exec (.echoPeriodExpiry p) s = .next s) ∧
  (∀ (p : Fin 128) (s : State), s.isUp p.val = true → (s.port p.val).retryWait = false → exec (.echoPeriodExpiry p) s =
    .next (s.setPort p.val { s.port p.val with echoOut := [], echoes := [], badSets := 0 })) ∧
  (∀ (p : Fin 128) (a : AckMsg) (f : HeadFrame) (s : State), s.isUp p.val = true → Rx.good a.rx = true → s.role ≠ roleStandby →
    (s.port p.val).frames.find? (fun f => f.line % 2 ^ 32 == a.line && f.crc == a.crc) = some f → ∃ t, exec (.ack p a) s = .next t ∧
    (a.result ≤ 1 → { f with acked := true } ∈ (t.port p.val).frames ∧
      (∃ m, (t.port p.val).ackedLine = some m ∧ f.line ≤ m) ∧ t.get HpCntRefused.count p.val = s.get HpCntRefused.count p.val) ∧
    (2 ≤ a.result → t.get HpCntRefused.count p.val = satAdd 31 (s.get HpCntRefused.count p.val) 1) ∧
    (a.result = 0 → s.acting = true → f.acked = false → ∀ k, 1 ≤ k → k ≤ 7 →
      t.usage p.val k = min (s.usage p.val k + (f.codes.filter (fun e => e.2 == k)).length) (2 ^ 64 - 1)) ∧
    (a.result = 1 → ∀ k, t.usage p.val k = s.usage p.val k) ∧
    (a.result = 2 → (t.port p.val).staleEpoch = true ∧ (s.role = roleActive → t.role = roleFenced)) ∧
    (a.result = 3 → { f with ended := true } ∈ (t.port p.val).frames ∧ t.sent = s.sent) ∧
    (a.result = 4 → s.mayDrive = true → (s.port p.val).staleEpoch = false → f.acked = false → f.ended = false → f.lost = false →
      s.beforeDeadline f.line = true → t.sent = .head p.val 0x4C f.args :: s.sent ∧
      t.get HpCntResend.count p.val = satAdd 31 (s.get HpCntResend.count p.val) 1) ∧
    (5 ≤ a.result → t.sent = s.sent ∧ t.ports = s.ports)) ∧
  (∀ (p : Fin 128) (line : Nat) (f : HeadFrame) (s : State), s.role ≠ roleStandby →
    (s.port p.val).frames.find? (fun f => f.line == line) = some f →
    (s.mayDrive = true → s.isUp p.val = true → (s.port p.val).staleEpoch = false → f.acked = false → f.ended = false → f.lost = false →
      s.beforeDeadline line = true → ∃ t, exec (.ackTimeout p line) s = .next t ∧ t.sent = .head p.val 0x4C f.args :: s.sent ∧
      t.get HpCntResend.count p.val = satAdd 31 (s.get HpCntResend.count p.val) 1 ∧ t = { s with regs := t.regs, ev := t.ev, sent := t.sent } ∧
      FieldsKept (onlyAt [HpCntResend.count, HpCntResend.ovf] p.val) s t) ∧
    ((f.acked = true ∨ f.lost = true ∨ s.beforeDeadline line = false ∨ s.mayDrive = false) → exec (.ackTimeout p line) s = .next s)) ∧
  (∀ (p : Fin 128) (line : Nat) (f : HeadFrame) (s : State), (s.port p.val).frames.find? (fun f => f.line == line) = some f →
    (s.acting = true → f.acked = false → f.lost = false → ∃ t, exec (.hpLineLost p line) s = .next t ∧
      { f with lost := true } ∈ (t.port p.val).frames ∧ t.get HpCntLost.count p.val = satAdd 31 (s.get HpCntLost.count p.val) 1 ∧
      (∀ q y g, f.pages = [(q, y)] → s.page q = some g → g.record.status = 0 → ∃ g', t.page q = some g' ∧ g'.record.status = 1 ∧
        g'.record.reason = 7 ∧ g'.record.spoilLine = some y) ∧ t.sent = s.sent ∧ t.dram = s.dram ∧
      FieldsKept (onlyAt [HpCntLost.count, HpCntLost.ovf] p.val) s t) ∧
    ((s.acting = false ∨ f.acked = true ∨ f.lost = true) → exec (.hpLineLost p line) s = .next s))

/-- Bring-up of a head: HELLO, authentication, usage, requests answered, refused or timed out, sleep, PARAM and link changes. Choices and readings of the model that it rests on: log 4, 9, 10. -/
def Obligations.HeadBringUp : Prop :=
  (∀ (p : Fin 128) (h : Hello) (s : State), s.isUp p.val = true → Rx.good h.rx = true → s.hpState p.val = hpSync →
    ((s.port p.val).lastSerial = none ∨ (s.port p.val).lastSerial = some h.serial) → (s.port p.val).request = none →
    (s.port p.val).waiting = [] → (s.port p.val).sleepReq = false → ∃ t, exec (.hello p h) s = .next t ∧
    t.get HpIdInfo.family p.val = h.family % 2 ^ 16 ∧ t.get HpIdGeom.rows p.val = h.rows % 2 ^ 6 ∧
    t.get64 HpIdLo.v HpIdHi.v p.val = h.serial % 2 ^ 64 ∧ (t.port p.val).lastSerial = some h.serial ∧
    (s.helloValid p.val h = true → t.hpState p.val = hpAuth ∧ (t.port p.val).helloOk = true ∧
      t.sent = .head p.val 0x103 [(s.port p.val).depth] :: s.sent ∧ (∃ n, (t.port p.val).waiting = [⟨8, n, 0⟩]) ∧
      t.get HpRate.maxRate p.val = min (s.get HpRate.maxRate p.val) h.maxRate ∧
      (h.maxRate < s.get HpRate.maxRate p.val → t.flag HpStat.rateLim p.val = true)) ∧
    (s.helloValid p.val h = false → t.hpState p.val = hpSync ∧ t.flag HpStat.helloErr p.val = true ∧ t.sent = s.sent ∧
      (s.calState = calIdle → Recorded s t .hpHelloBad p.val []))) ∧
  (∀ (p : Fin 128) (h : Hello) (n : Nat) (s : State), s.isUp p.val = true → Rx.good h.rx = true → (s.port p.val).lastSerial = some n →
    n ≠ h.serial → ∃ t, exec (.hello p h) s = .next t ∧ t.hpState p.val = hpSync ∧ t.flag HpStat.verified p.val = false ∧
    t.sent.head? = some (.head p.val 0x102 []) ∧ (t.port p.val).lastSerial = some h.serial) ∧
  (∀ (p : Fin 128) (rx : Rx) (serial family : Nat) (tag : List Byte) (s : State), s.isUp p.val = true → Rx.good rx = true →
    (s.hpState p.val = hpAuth → s.answered p.val [8] = true → ∃ t, exec (.response p rx serial family tag) s = .next t ∧
      (t.hpState p.val = hpLoad ∨ t.hpState p.val = hpReady) ∧
      t.flag HpStat.verified p.val = s.responseOk p.val serial family tag ∧
      t.flag HpStat.unverified p.val = !s.responseOk p.val serial family tag) ∧
    ((s.hpState p.val ≠ hpAuth ∨ s.answered p.val [8] = false) → exec (.response p rx serial family tag) s = .next s)) ∧
  (∀ (p : Fin 128) (rx : Rx) (seq : Nat) (c : List Nat) (tag : List Byte) (s : State), s.isUp p.val = true → Rx.good rx = true →
    s.answered p.val [0x0A] = true → ∃ t, exec (.usage p rx seq c tag) s = .next t ∧ (t.port p.val).usageMerge = false ∧
    (hmac (s.headKey p.val) (ascii4 0x55 0x53 0x52 0x44 ++ (s.port p.val).nonce ++ leBytes 4 seq ++ c.flatMap (leBytes 8)) = tag →
      ∀ k, 1 ≤ k → k ≤ 7 → t.usage p.val k = (if (s.port p.val).usageMerge = true then max (c.getD (k - 1) 0) (s.usage p.val k)
        else c.getD (k - 1) 0) % 2 ^ 64) ∧
    (hmac (s.headKey p.val) (ascii4 0x55 0x53 0x52 0x44 ++ (s.port p.val).nonce ++ leBytes 4 seq ++ c.flatMap (leBytes 8)) ≠ tag →
      (∀ k, t.usage p.val k = s.usage p.val k) ∧ (s.calState = calIdle → Recorded s t .hpUsageBad p.val []))) ∧
  (∀ (p : Fin 128) (rx : Rx) (seq : Nat) (c : List Nat) (tag : List Byte) (s : State), s.isUp p.val = true → Rx.good rx = true →
    s.answered p.val [0x0A] = false → exec (.usage p rx seq c tag) s = .next s) ∧
  (∀ (p : Fin 128) (rx : Rx) (op st : Nat) (r : MgmtReq) (s : State), s.isUp p.val = true → Rx.good rx = true → (s.port p.val).request = some r →
    (r.op ≠ op → exec (.mack p rx op st) s = .next s) ∧
    (r.op = op → (s.port p.val).waiting = [] → (st = 0 ∨ r.op = 0x0F ∨ (r.op = opUsageWr ∧ st ≠ 4 ∧ st ≠ 5)) → ∃ t,
      exec (.mack p rx op st) s = .next t ∧ (t.port p.val).request = none ∧ t.sent = s.sent ∧
      (r.op = opUsageWr → st = 0 → (t.port p.val).usageSeq = r.args.headD 0)) ∧
    (r.op = opUsageWr → op = opUsageWr → (st = 4 ∨ st = 5) → (s.port p.val).waiting = [] → (s.port p.val).sleepReq = false → ∃ t,
      exec (.mack p rx op st) s = .next t ∧ (t.port p.val).usageMerge = true ∧
      (∃ n, t.sent = .head p.val 0x10A n :: s.sent) ∧ Recorded s t .hpUsageRefused p.val []) ∧
    (r.op = op → r.op ≠ opUsageWr → r.op ≠ 0x0F → st ≠ 0 → ∃ t, exec (.mack p rx op st) s = .next t ∧ t.hpState p.val = hpSync ∧
      t.sent.head? = some (.head p.val 0x102 []))) ∧
  (∀ (p : Fin 128) (rx : Rx) (op st : Nat) (s : State), s.isUp p.val = true → Rx.good rx = true → (s.port p.val).request = none →
    exec (.mack p rx op st) s = .next s ∧ exec (.mgmtTimeout p) s = .next s) ∧
  (∀ (p : Fin 128) (r : MgmtReq) (s : State), (s.port p.val).request = some r →
    (r.resends < 3 → ∃ t, exec (.mgmtTimeout p) s = .next t ∧ t.sent = .head p.val (0x100 + r.op) r.args :: s.sent ∧
      (t.port p.val).request = some { r with resends := r.resends + 1 } ∧ t = { s with sent := t.sent, ports := t.ports }) ∧
    (3 ≤ r.resends → s.isUp p.val = true → ∃ t, exec (.mgmtTimeout p) s = .next t ∧ t.hpState p.val = hpSync ∧
      t.sent.head? = some (.head p.val 0x102 []))) ∧
  (∀ (p : Fin 128) (s : State), s.maySleep p.val = true → s.hpState p.val = hpReady → (s.port p.val).sleepReq = false → ∃ t,
    exec (.headSleepTimer p) s = .next t ∧ t.hpState p.val = hpAsleep ∧ (t.port p.val).sleepReq = true ∧ t.flag LnCtrl.txSleep p.val = true ∧
    t.pages = s.pages ∧ t.dram = s.dram) ∧
  (∀ (p : Fin 128) (s : State), (s.port p.val).sleepReq = true → s.maySleep p.val = false → ∃ t,
    exec (.headSleepTimer p) s = .next t ∧ (t.port p.val).sleepReq = false ∧ t.flag LnCtrl.txSleep p.val = false) ∧
  (∀ (p : Fin 128) (s : State), ((s.port p.val).sleepReq = true → s.maySleep p.val = true) →
    ((s.port p.val).sleepReq = false → s.maySleep p.val = false ∨ s.hpState p.val ≠ hpReady) → exec (.headSleepTimer p) s = .next s) ∧
  (∀ (p : Fin 128) (rx : Rx) (data : List Byte) (s : State), s.isUp p.val = true → Rx.good rx = true → ∃ t,
    exec (.headParamReply p rx data) s = .next t ∧ (t.port p.val).param = data ∧ t.regs = s.regs ∧
    (∀ a ∈ t.mot.acts, p.val ∉ a.replies)) ∧
  (∀ (l : Link) (s : State), s.isUp (linkNumber l) = false → s.linkReady (linkNumber l) = true → ∃ t, exec (.linkUp l) s = .next t ∧
    t.isUp (linkNumber l) = true ∧ (∀ p : Fin 128, l = .head p → t.hpState p.val = hpSync ∧ (t.port p.val).depth = s.ctrlDepth p.val) ∧
    ((l = .dataPort ∨ l = .col) → t = { s with linkUp := t.linkUp })) ∧
  (∀ (l : Link) (s : State), s.isUp (linkNumber l) = true → s.linkReady (linkNumber l) = false → ∃ t, exec (.linkDown l) s = .next t ∧
    t.isUp (linkNumber l) = false ∧ (∀ p : Fin 128, l = .head p → t.hpState p.val = hpDown ∧ (t.port p.val).request = none ∧
      (s.acting = true → t.wdOpen p.val = true)) ∧ (l = .col → t.twin.rxSeq = [])) ∧
  (∀ (l : Link) (s : State), ((s.isUp (linkNumber l) = true ∨ s.linkReady (linkNumber l) = false) → exec (.linkUp l) s = .next s) ∧
    ((s.isUp (linkNumber l) = false ∨ s.linkReady (linkNumber l) = true) → exec (.linkDown l) s = .next s))

/-- Encoders: quadrature, double transitions, the index, arming, health, wiring conditions and standstill. Choices and readings of the model that it rests on: log 42, 79. -/
def Obligations.Encoders : Prop :=
  (∀ (n : Fin 6) (a b z : Bool) (s : State), s.shaped → s.flag EncCfg.en n.val = false → ∃ t, exec (.encoderEdge n a b z) s = .next t ∧
    t.regs = s.regs ∧ (t.enc n.val).net = (s.enc n.val).net ∧ (t.enc n.val).a = a ∧ (t.enc n.val).b = b ∧ (t.enc n.val).z = z ∧
    t = { s with posn := t.posn }) ∧
  (∀ (n : Fin 6) (a b z : Bool) (s : State), s.shaped → s.flag EncCfg.en n.val = true → a ≠ (s.enc n.val).a → b ≠ (s.enc n.val).b →
    ∃ t, exec (.encoderEdge n a b z) s = .next t ∧ t.encPos n.val = s.encPos n.val ∧ (t.enc n.val).net = (s.enc n.val).net ∧
    t.get EncQerr.count n.val = satAdd 31 (s.get EncQerr.count n.val) 1 ∧ t.get EncUnc.unc n.val = satAdd 16 (s.get EncUnc.unc n.val) 2 ∧
    t = { s with regs := t.regs, ev := t.ev, posn := t.posn } ∧ FieldsKept (onlyAt [EncQerr.count, EncQerr.ovf, EncUnc.unc, EncStat.open_,
      EncStat.cmLow, EncStat.cmHigh, EncStat.reversed, EncStat.wireSeen, EncStat.healthy, EncStat.fault] n.val) s t) ∧
  (∀ (n : Fin 6) (a b z up : Bool) (s : State), s.shaped → s.flag EncCfg.en n.val = true →
    (quadrant a b + 4 - quadrant (s.enc n.val).a (s.enc n.val).b) % 4 = (if up = s.flag EncCfg.dir n.val then 3 else 1) →
    ∃ t, exec (.encoderEdge n a b z) s = .next t ∧ (t.enc n.val).net = (s.enc n.val).net + (if up = true then 1 else -1) ∧
    t.get EncQerr.count n.val = s.get EncQerr.count n.val ∧ t.get EncStat.dirNow n.val = (if up = true then 0 else 1) ∧
    ((s.enc n.val).edges = [] → t.flag EncStat.speedInvalid n.val = true ∧ (t.enc n.val).sample = 0) ∧
    ((s.enc n.val).edges ≠ [] → t.flag EncStat.speedInvalid n.val = false ∧
      t.flag EncStat.rev n.val = (((s.enc n.val).edges.headD (0, 0, false)).2.2 != !up)) ∧
    (z = false → t.encPos n.val = (s.encPos n.val + (if up = true then 1 else 2 ^ 64 - 1)) % 2 ^ 64 ∧ t.mot = s.mot ∧
      t.get64 EncIdxLatLo.v EncIdxLatHi.v n.val = s.get64 EncIdxLatLo.v EncIdxLatHi.v n.val ∧
      t.get EncUnc.unc n.val = s.get EncUnc.unc n.val) ∧
    (z = true → (∀ c, c < 3 → (s.enc n.val).wireLive 2 c = false) →
      s.get EncCfg.idxState n.val = (if b = true then 2 else 0) + (if a = true then 1 else 0) →
      t.get64 EncIdxLatLo.v EncIdxLatHi.v n.val = s.encPos n.val ∧ t.flag EncStat.idxSeen n.val = true ∧
      ((s.get EncCfg.idxMode n.val = 1 ∨ (s.get EncCfg.idxMode n.val = 2 ∧ s.flag EncStat.armed n.val = true)) →
        t.encPos n.val = unsign 64 (s.getInt EncIdxVal.v n.val) ∧ t.get EncUnc.unc n.val = 0 ∧ t.flag EncStat.armed n.val = false) ∧
      ((s.get EncCfg.idxMode n.val = 0 ∨ (s.get EncCfg.idxMode n.val = 2 ∧ s.flag EncStat.armed n.val = false)) →
        t.encPos n.val = (s.encPos n.val + (if up = true then 1 else 2 ^ 64 - 1)) % 2 ^ 64))) ∧
  (∀ (n : Fin 6) (v : Word) (s : State), s.shaped → ∃ t, exec (.encCfgArm n v) s = .next t ∧ exec (.encCfgUncClr n v) s = .next t ∧
    t.get EncCfg.en n.val = EncCfg.en.of v ∧ t.get EncCfg.idxMode n.val = EncCfg.idxMode.of v ∧ t.get EncCfg.dir n.val = EncCfg.dir.of v ∧
    (EncCfg.arm.of v = 1 → t.flag EncStat.armed n.val = true) ∧ (EncCfg.uncClr.of v = 1 → t.get EncUnc.unc n.val = 0) ∧
    (EncCfg.uncClr.of v = 0 → t.get EncUnc.unc n.val = s.get EncUnc.unc n.val) ∧
    (s.flag EncCfg.en n.val = true → EncCfg.en.of v = 0 → t.flag EncStat.healthy n.val = false) ∧
    (s.flag EncCfg.en n.val = false → EncCfg.en.of v = 1 → (t.enc n.val).edges = []) ∧
    t = { s with regs := t.regs, ev := t.ev, posn := t.posn } ∧
    FieldsKept (fun f i => onlyAt [EncUnc.unc, EncStat.armed, EncStat.open_, EncStat.cmLow, EncStat.cmHigh, EncStat.reversed,
      EncStat.wireSeen, EncStat.healthy, EncStat.fault] n.val f i || (f.reg == .encCfg && i == n.val)) s t) ∧
  (∀ (n : Fin 6) (line : Fin 3) (c : WireCond) (s : State), s.shaped → s.flag EncCfg.diagEn n.val = true → (s.enc n.val).wire.length = 9 →
    line.val < 2 → ∃ t, exec (.wireConditionChange (.enc n line) c true) s = .next t ∧ t.flag EncStat.fault n.val = true ∧
    t.flag EncStat.healthy n.val = false ∧ t.flag EncStat.wireSeen n.val = true ∧ (s.flag EncStat.fault n.val = true → t.ev = s.ev) ∧
    (s.flag EncStat.fault n.val = false → ∃ k, Recorded s t .encFault n.val [a8 k]) ∧ t.encPos n.val = s.encPos n.val) ∧
  (∀ (w : WireIn) (c : WireCond) (live : Bool) (s : State), ∃ t, exec (.wireConditionChange w c live) s = .next t ∧
    t = { s with regs := t.regs, ev := t.ev, posn := t.posn }) ∧
  (∀ (n : Fin 6) (s : State), s.shaped → s.flag EncCfg.en n.val = true → s.encFaults n.val = [] → s.flag EncStat.healthy n.val = false →
    ∃ t, exec (.encHealthy n) s = .next t ∧ t.flag EncStat.healthy n.val = true ∧ t.flag EncStat.fault n.val = false ∧
    (s.flag EncStat.fault n.val = true → Recorded s t .encHealthy n.val []) ∧ (s.flag EncStat.fault n.val = false → t.ev = s.ev) ∧
    FieldsKept (onlyAt [EncStat.healthy, EncStat.fault] n.val) s t) ∧
  (∀ (n : Fin 6) (s : State), (s.flag EncCfg.en n.val = false ∨ s.encFaults n.val ≠ [] ∨ s.flag EncStat.healthy n.val = true) →
    exec (.encHealthy n) s = .next s) ∧
  (∀ (n : Fin 6) (s : State), s.shaped → s.flag EncCfg.en n.val = true → ∃ t, exec (.encStill n) s = .next t ∧
    t.flag EncStat.still n.val = true ∧ t.flag EncStat.speedInvalid n.val = false ∧ (t.enc n.val).sample = 0 ∧ (t.enc n.val).edges = [] ∧
    t.encPos n.val = s.encPos n.val ∧ FieldsKept (onlyAt [EncStat.still, EncStat.speedInvalid] n.val) s t) ∧
  (∀ (n : Fin 6) (s : State), s.flag EncCfg.en n.val = false → exec (.encStill n) s = .next s)

/-- Latch inputs and SSI ports: records queued, popped and overrun; frames triggered, taken or refused. Choices and readings of the model that it rests on: log 42, 79. -/
def Obligations.LatchesAndSsi : Prop :=
  (∀ (m : Fin 12) (falling : Bool) (s : State), (s.get PrbCfg.edge m.val = 0 ∨ (s.get PrbCfg.edge m.val = 1 ∧ falling = true) ∨
    (s.get PrbCfg.edge m.val = 2 ∧ falling = false)) → exec (.latchEdge m falling) s = .next s) ∧
  (∀ (m : Fin 12) (falling : Bool) (s : State), (s.get PrbCfg.edge m.val = 3 ∨ s.get PrbCfg.edge m.val = (if falling = true then 2 else 1)) →
    4 ≤ (s.latchIn m.val).queue.length → ∃ t, exec (.latchEdge m falling) s = .next t ∧ t.flag PrbStat.ovf m.val = true ∧ t.posn = s.posn ∧
    (s.flag PrbStat.ovf m.val = true → t = s) ∧ (s.flag PrbStat.ovf m.val = false → Recorded s t .prbOvf m.val []) ∧
    FieldsKept (onlyAt [PrbStat.ovf] m.val) s t) ∧
  (∀ (m : Fin 12) (falling : Bool) (s : State), s.shaped →
    (s.get PrbCfg.edge m.val = 3 ∨ s.get PrbCfg.edge m.val = (if falling = true then 2 else 1)) →
    (s.latchIn m.val).queue.length < 4 → ∃ t r, exec (.latchEdge m falling) s = .next t ∧
    (t.latchIn m.val).queue = (s.latchIn m.val).queue ++ [r] ∧ r.length = 8 ∧
    t.get PrbStat.fill m.val = (s.latchIn m.val).queue.length + 1 ∧
    r.getD 0 0 + 2 ^ 32 * r.getD 1 0 = (s.ft - 2 ^ s.get PrbCfg.filt m.val) % 2 ^ 64 ∧
    r.getD 6 0 / 256 % 2 = (if falling = true then 1 else 0) ∧ r.getD 6 0 / 512 % 2 = (if s.mode = 0 then 1 else 0) ∧
    (s.mode = 0 → r.getD 4 0 = 0 ∧ r.getD 5 0 = 0 ∧ r.getD 6 0 % 256 = 0) ∧
    r.getD 7 0 = ((s.latchIn m.val).seq + 1) % 2 ^ 32 ∧ (t.latchIn m.val).seq = (s.latchIn m.val).seq + 1 ∧
    (∀ q, q ≠ m.val → t.latchIn q = s.latchIn q) ∧
    (m.val < 8 → t.pages = s.pages ∧ t.posn.tof = s.posn.tof) ∧ t.dram = s.dram ∧ t.sent = s.sent) ∧
  (∀ (m : Fin 12) (v : Word) (s : State), s.shaped → ∃ t, exec (.prbPop m v) s = .next t ∧
    (t.latchIn m.val).queue = (if PrbStat.pop.of v = 1 then (s.latchIn m.val).queue.drop 1 else (s.latchIn m.val).queue) ∧
    (t.latchIn m.val).seq = (s.latchIn m.val).seq ∧ t.get PrbStat.fill m.val = (t.latchIn m.val).queue.length % 8 ∧
    t.flag PrbStat.ovf m.val = (s.flag PrbStat.ovf m.val && PrbStat.ovf.of v == 0) ∧
    (∀ k, k < 8 → t.get PrbRec.v (8 * m.val + k) = ((t.latchIn m.val).queue.headD []).getD k 0 % 2 ^ 32) ∧
    t = { s with regs := t.regs, posn := t.posn } ∧
    FieldsKept (fun f i => onlyAt [PrbStat.fill, PrbStat.ovf, PrbStat.wire, PrbStat.wireSeen] m.val f i ||
      (f == PrbRec.v && i / 8 == m.val)) s t) ∧
  (∀ (m : Fin 12) (live : Bool) (s : State), s.shaped → s.flag PrbCfg.diagEn m.val = true → s.get PrbCfg.actMax m.val ≠ 0 → ∃ t,
    exec (.stuckInput m live) s = .next t ∧ t.flag PrbStat.stuck m.val = live ∧ (live = true → t.flag PrbStat.wireSeen m.val = true) ∧
    (live = true → s.flag PrbStat.stuck m.val = false → Recorded s t .prbStuck m.val []) ∧
    ((live = false ∨ s.flag PrbStat.stuck m.val = true) → t.ev = s.ev) ∧ t.posn = s.posn) ∧
  (∀ (m : Fin 12) (live : Bool) (s : State), (s.flag PrbCfg.diagEn m.val = false ∨ s.get PrbCfg.actMax m.val = 0) →
    exec (.stuckInput m live) s = .next s) ∧
  (∀ (n : Fin 2) (v : Word) (s : State), s.shaped → ∃ t, exec (.ssiGo n v) s = .next t ∧
    t.get SsiTrig.periodLq n.val = SsiTrig.periodLq.of v ∧ t.get SsiTrig.smpDly n.val = SsiTrig.smpDly.of v ∧
    (t.ssi n.val).busy = (if SsiTrig.go.of v = 1 ∧ s.flag SsiCfg.en n.val = true ∧ (s.ssi n.val).busy = none then some s.ft
      else (s.ssi n.val).busy) ∧ t = { s with regs := t.regs, posn := t.posn } ∧
    FieldsKept (onlyAt [SsiTrig.periodLq, SsiTrig.smpDly] n.val) s t) ∧
  (∀ (n : Fin 2) (s : State), s.shaped → s.get SsiTrig.periodLq n.val ≠ 0 → s.flag SsiCfg.en n.val = true → (s.ssi n.val).busy = none →
    ∃ t, exec (.ssiPeriodTrigger n) s = .next t ∧ (t.ssi n.val).busy = some s.ft ∧ t = { s with posn := t.posn }) ∧
  (∀ (n : Fin 2) (s : State), (s.get SsiTrig.periodLq n.val = 0 ∨ s.flag SsiCfg.en n.val = false ∨ (s.ssi n.val).busy.isSome = true) →
    exec (.ssiPeriodTrigger n) s = .next s) ∧
  (∀ (n : Fin 2) (f : SsiFrame) (s : State), (s.ssi n.val).busy = none → exec (.ssiFrameDone n f) s = .next s) ∧
  (∀ (n : Fin 2) (f : SsiFrame) (at_ : Nat) (s : State), s.shaped → (s.ssi n.val).busy = some at_ → ∃ t,
    exec (.ssiFrameDone n f) s = .next t ∧ (t.ssi n.val).busy = none ∧ t = { s with regs := t.regs, ev := t.ev, posn := t.posn } ∧
    ((f.idleHigh = true ∧ f.start = false ∧ f.monoLow = true ∧ f.monoEnd = true ∧
        (s.flag SsiCfg.double n.val = true → f.data % 2 ^ s.ssiLen n.val = f.copy % 2 ^ s.ssiLen n.val)) →
      t.flag SsiStat.valid n.val = true ∧ t.get SsiStat.seq n.val = (s.get SsiStat.seq n.val + 1) % 2 ^ 16 ∧ t.ev = s.ev ∧
      t.get64 SsiTimeLo.v SsiTimeHi.v n.val = at_ % 2 ^ 64 ∧
      (s.flag SsiCfg.gray n.val = false → t.get SsiData.v n.val = f.data % 2 ^ s.ssiLen n.val) ∧
      (s.flag SsiCfg.gray n.val = true → t.get SsiData.v n.val = grayToBinary 32 (f.data % 2 ^ s.ssiLen n.val) % 2 ^ 32)) ∧
    ((f.idleHigh = false ∨ f.start = true ∨ f.monoLow = false ∨ f.monoEnd = false) → t.get SsiData.v n.val = s.get SsiData.v n.val ∧
      t.get SsiStat.seq n.val = s.get SsiStat.seq n.val ∧ (f.start = true → t.flag SsiStat.startErr n.val = true) ∧
      (f.idleHigh = false → t.flag SsiStat.busyErr n.val = true ∧ Recorded s t .ssiErr n.val [a8 0]) ∧
      (f.idleHigh = true → f.start = true → Recorded s t .ssiErr n.val [a8 1]) ∧
      ((f.monoLow = false ∨ f.monoEnd = false) → t.flag SsiStat.monoErr n.val = true)))

/-- A sample of a loop slot: late, forced, skipped, closed, open or host, with the slew stage and the swap. Choices and readings of the model that it rests on: log 45. -/
def Obligations.LoopSamples : Prop :=
  (∀ (n : Fin 176) (late : Bool) (adc : Nat) (s u : State), u = (if s.get LeSrc.src n.val = 2 then
      { s with loop := { s.loop with lampI := Tab.set 0 s.loop.lampI (s.get LeSrc.inst n.val) (adc % 4096) } } else s) →
    ((u.flag LeCfg.en n.val = false ∨ (u.slot n.val).started = false ∨ ((n.val = 162 ∨ n.val = 163) ∧ u.flag FpeCtrl.xchkEn 0 = false)) →
      exec (.loopSample n late adc) s = .next u) ∧
    (u.flag LeCfg.en n.val = true → (u.slot n.val).started = true → (n.val = 162 ∨ n.val = 163 → u.flag FpeCtrl.xchkEn 0 = true) →
      (late = true → ∃ t, exec (.loopSample n late adc) s = .next t ∧ t = { u with regs := t.regs, ev := t.ev } ∧
        t.get LeCntLate.count n.val = satAdd 31 (u.get LeCntLate.count n.val) 1 ∧
        FieldsKept (onlyAt [LeCntLate.count, LeCntLate.ovf] n.val) u t) ∧
      (late = false → (u.slot n.val).abortDue = true → ∃ t, exec (.loopSample n late adc) s = .next t ∧
        t.leInt LeOut.v n.val = u.leClamp n.val 0 ∧ (t.slot n.val).mode = 3 ∧ (t.slot n.val).cause = 2 ∧
        (t.slot n.val).abortDue = false ∧ (t.slot n.val).e = (u.slot n.val).e ∧ (t.slot n.val).y = (u.slot n.val).y ∧
        t.flag LeStat.forced n.val = true ∧ t.flag LeStat.saddle n.val = false) ∧
      (late = false → (u.slot n.val).abortDue = false → u.thermalHold n.val = true → (u.slot n.val).cause ≠ 2 → ∃ t,
        exec (.loopSample n late adc) s = .next t ∧ t.leInt LeOut.v n.val = 0 ∧ t.flag LeStat.forced n.val = true ∧
        (t.slot n.val).e = (u.slot n.val).e ∧ (t.slot n.val).y = (u.slot n.val).y ∧ (t.slot n.val).cause = 1) ∧
      (late = false → (u.slot n.val).abortDue = false → u.thermalHold n.val = false → (u.slot n.val).cause ≠ 1 →
        ((u.slot n.val).mode = 3 → (u.slot n.val).request = none → ∃ t, exec (.loopSample n late adc) s = .next t ∧
          t.get LeStat.seq n.val = (u.get LeStat.seq n.val + 1) % 2 ^ 16 ∧ (t.slot n.val).y = (u.slot n.val).y ∧
          (t.slot n.val).mode = 3) ∧
        (((u.slot n.val).mode ≠ 3 ∨ (u.slot n.val).request.isSome = true) →
          (u.flag LeCfg.newOnly n.val = true → (u.leSource n.val).2 = some (u.slot n.val).srcSeq → exec (.loopSample n late adc) s = .next u) ∧
          ((u.flag LeCfg.newOnly n.val = false ∨ (u.leSource n.val).2 ≠ some (u.slot n.val).srcSeq) → ∃ t,
            exec (.loopSample n late adc) s = .next t ∧ t.get LeStat.seq n.val = (u.get LeStat.seq n.val + 1) % 2 ^ 16 ∧
            t.flag LeStat.swapPend n.val = false ∧ (t.slot n.val).request = none ∧ t.pages = s.pages ∧ t.dram = s.dram ∧
            (u.flag LeStat.swapPend n.val = true → (t.slot n.val).coef = u.stagedCoef n.val ∧ (t.slot n.val).law3 = u.flag LeCfg.law n.val) ∧
            (∀ m, (u.slot n.val).request = some m → (t.slot n.val).mode = m ∧ t.flag LeStat.forced n.val = false ∧
              ((u.slot n.val).enabled = false → n.val < 160 ∨ n.val > 163 → u.leMag LeSlew.v n.val ≠ 0 → m ≠ 2 →
                ((t.leInt LeOut.v n.val - u.leInt LeOut.v n.val).natAbs : Int) ≤ u.leMag LeSlew.v n.val)) ∧
            ((u.slot n.val).request = none → (t.slot n.val).mode = (u.slot n.val).mode ∧
              (u.flag LeStat.swapPend n.val = false → u.flag LeStat.saddle n.val = false →
                ((u.slot n.val).mode = 0 → ∀ e0 raw y0, e0 = satInt (slotWidth n.val) (if u.flag LeSrc.inv n.val = true
                      then (u.leSource n.val).1 - u.leInt LeRef.v n.val else u.leInt LeRef.v n.val - (u.leSource n.val).1) →
                  raw = lawRaw (shortSlot n.val) (u.slot n.val).law3 (u.activeCoef n.val) e0 (u.slot n.val).e (u.slot n.val).y →
                  y0 = u.leClamp n.val raw → t.leInt LeErr.v n.val = e0 ∧ t.leInt LeLaw.v n.val = y0 ∧ t.leInt LeOut.v n.val = y0 ∧
                    t.flag LeStat.sat n.val = (raw != y0) ∧ (t.slot n.val).e.head? = some e0 ∧ (t.slot n.val).y.head? = some y0 ∧
                    t.flag LeStat.saddle n.val = false) ∧
                ((u.slot n.val).mode = 1 → t.leInt LeOut.v n.val = u.leClamp n.val (u.leInt LeOpenVal.v n.val)) ∧
                ((u.slot n.val).mode = 2 → (t.slot n.val).committed = none ∧
                  (∀ v, (u.slot n.val).committed = some v → t.leInt LeOut.v n.val = u.leClamp n.val v ∧ (t.slot n.val).missing = false) ∧
                  ((u.slot n.val).committed = none → t.leInt LeOut.v n.val = u.leInt LeOut.v n.val ∧
                    (s.acting = true → t.get LeCntMiss.count n.val = satAdd 31 (u.get LeCntMiss.count n.val) 1 ∧
                      (t.slot n.val).missing = true)))))))))) 

/-- Writes of the loop engine: schedule, LE_CFG, limits, host commits, fallbacks, trace buffers and the known-answer test. Choices and readings of the model that it rests on: log 44. -/
def Obligations.LoopSettings : Prop :=
  (∀ (n : Fin 176) (v : Word) (s : State), (LeSched.period.of v = 0 ∨
      80 < s.leLoad n.val (s.flag LeCfg.en n.val) (LeSched.period.of v) (LeSched.phase.of v)) → ∃ t, exec (.leSchedWrite n v) s = .next t ∧
    t.flag LeStat.refused n.val = true ∧ Recorded s t .leSchedRefused n.val [] ∧ FieldsKept (onlyAt [LeStat.refused] n.val) s t) ∧
  (∀ (n : Fin 176) (v : Word) (s : State), LeSched.period.of v ≠ 0 →
    s.leLoad n.val (s.flag LeCfg.en n.val) (LeSched.period.of v) (LeSched.phase.of v) ≤ 80 → ∃ t, exec (.leSchedWrite n v) s = .next t ∧
    t.get LeSched.period n.val = LeSched.period.of v ∧ t.get LeSched.phase n.val = LeSched.phase.of v ∧
    t.get LeLoad.peak 0 = s.leLoad n.val (s.flag LeCfg.en n.val) (LeSched.period.of v) (LeSched.phase.of v) ∧
    t = { s with regs := t.regs } ∧ FieldsKept (fun f i => onlyAt [LeSched.period, LeSched.phase] n.val f i || f == LeLoad.peak) s t) ∧
  (∀ (n : Fin 176) (v : Word) (s : State), s.flag LeCfg.en n.val = false → LeCfg.en.of v = 1 →
    80 < s.leLoad n.val true (s.get LeSched.period n.val) (s.get LeSched.phase n.val) → ∃ t, exec (.leEnable n v) s = .next t ∧
    t.flag LeCfg.en n.val = false ∧ t.flag LeStat.refused n.val = true ∧ Recorded s t .leSchedRefused n.val []) ∧
  (∀ (n : Fin 176) (v : Word) (s : State), s.flag LeCfg.en n.val = false → LeCfg.en.of v = 1 → LeCfg.abort.of v = 0 →
    s.leLoad n.val true (s.get LeSched.period n.val) (s.get LeSched.phase n.val) ≤ 80 → ∃ t, exec (.leEnable n v) s = .next t ∧
    t.flag LeCfg.en n.val = true ∧ (t.slot n.val).enabled = true ∧ (t.slot n.val).request = some (t.get LeCfg.mode n.val) ∧
    (s.operating = true → (t.slot n.val).started = true) ∧
    t.get LeLoad.peak 0 = s.leLoad n.val true (s.get LeSched.period n.val) (s.get LeSched.phase n.val)) ∧
  (∀ (n : Fin 176) (v : Word) (s : State), LeCfg.en.of v = s.get LeCfg.en n.val → ∃ t, exec (.leModeWrite n v) s = .next t ∧
    exec (.leCfgSwap n v) s = .next t ∧ exec (.leCfgAbort n v) s = .next t ∧ exec (.leEnable n v) s = .next t ∧
    t.get LeCfg.en n.val = s.get LeCfg.en n.val ∧ t.get LeCfg.newOnly n.val = LeCfg.newOnly.of v ∧
    t.get LeCfg.resetHist n.val = LeCfg.resetHist.of v ∧
    (s.flag LeStat.swapPend n.val = false → t.get LeCfg.law n.val = LeCfg.law.of v) ∧
    t.flag LeStat.swapPend n.val = (s.flag LeStat.swapPend n.val || LeCfg.swap.of v == 1) ∧
    t.get LeCfg.mode n.val = (if LeCfg.mode.of v = 3 then s.get LeCfg.mode n.val else LeCfg.mode.of v) ∧
    (LeCfg.mode.of v ≠ 3 → (s.slot n.val).cause ≠ 1 → (s.slot n.val).cause ≠ 3 → (s.slot n.val).mode ≠ LeCfg.mode.of v →
      (t.slot n.val).request = some (LeCfg.mode.of v)) ∧
    ((s.slot n.val).cause = 1 ∨ (s.slot n.val).cause = 3 → (t.slot n.val).request = (s.slot n.val).request) ∧
    (LeCfg.abort.of v = 1 → (n.val < 160 ∨ 163 < n.val ∨ s.mode = 0) → (t.slot n.val).abortDue = true ∧ t.aborting 3 n.val = true ∧
      (s.aborting 3 n.val = false → Recorded s t .abort n.val [a8 3])) ∧
    (LeCfg.abort.of v = 1 → 160 ≤ n.val → n.val ≤ 163 → s.mode ≠ 0 → Recorded s t .leAbortRefused n.val [] ∧
      (t.slot n.val).abortDue = (s.slot n.val).abortDue) ∧ (LeCfg.abort.of v = 0 → t.ev = s.ev) ∧
    (∀ m, m ≠ n.val → t.slot m = s.slot m) ∧ FieldsKept (onlyAt [LeCfg.law, LeCfg.mode, LeCfg.newOnly, LeCfg.hostFb, LeCfg.resetHist,
      LeStat.swapPend] n.val) s t) ∧
  (∀ (n : Fin 176) (hi : Bool) (v : Word) (w : Int) (s : State), w = signed (slotWidth n.val) (v.toNat % 2 ^ slotWidth n.val) →
    ∃ t, exec (.leLimitWrite n hi v) s = .next t ∧ t = { s with regs := t.regs } ∧
    ((hi = true → w < s.leInt LeOmin.v n.val) → (hi = false → s.leInt LeOmax.v n.val < w) → t.flag LeStat.limErr n.val = true ∧
      FieldsKept (onlyAt [LeStat.limErr] n.val) s t) ∧
    (hi = true → s.leInt LeOmin.v n.val ≤ w → t.leInt LeOmax.v n.val = w ∧ FieldsKept (onlyAt [LeOmax.v] n.val) s t) ∧
    (hi = false → w ≤ s.leInt LeOmax.v n.val → t.leInt LeOmin.v n.val = w ∧ FieldsKept (onlyAt [LeOmin.v] n.val) s t)) ∧
  (∀ (n : Fin 176) (v : Word) (s : State), ((s.slot n.val).mode = 2 → s.acting = true → LeHostSeq.seq.of v = s.get LeStat.seq n.val →
      ∃ t, exec (.leHostSeq n v) s = .next t ∧ (t.slot n.val).committed = some (s.leInt LeHostOut.v n.val) ∧ t = { s with loop := t.loop }) ∧
    (((s.slot n.val).mode ≠ 2 ∨ s.acting = false ∨ LeHostSeq.seq.of v ≠ s.get LeStat.seq n.val) → exec (.leHostSeq n v) s = .next s)) ∧
  (∀ (f : HostFn) (s : State), (s.acting = false → exec (.hostSilenceExpiry f) s = .next s) ∧
    (∀ (m fb : Fld) (k : Nat), s.acting = true →
      [(HostFn.compensation, ScrCtrl.compMode, ScrCtrl.hostFallback, 1), (.registerControl, LeGctrl.regMode, LeGctrl.regFb, 2),
        (.thermal, LeGctrl.thermMode, LeGctrl.thermFb, 3), (.ptp, PtpCtrl.mode, PtpCtrl.hostFallback, 4),
        (.maintenance, MntCtrl.mode, MntCtrl.hostFallback, 5), (.calibration, CalCtrl.mode, CalCtrl.hostFallback, 6)].contains (f, m, fb, k) →
      ((s.get m 0 = 0 ∨ s.flag fb 0 = false) → exec (.hostSilenceExpiry f) s = .next s) ∧
      (s.get m 0 = 1 → s.flag fb 0 = true → ∃ t, exec (.hostSilenceExpiry f) s = .next t ∧ t.get m 0 = 0 ∧
        (k ≠ 2 → k ≠ 3 → Recorded s t .hostFallback 0 [a8 k]) ∧ t.pages = s.pages ∧ t.sent = s.sent ∧
        FieldsKept (fun g i => only [m] g i || g == LeCfg.mode) s t))) ∧
  (∀ (n : Fin 176) (s : State), s.acting = true →
    ((144 ≤ n.val ∧ n.val < 160 ∨ 168 ≤ n.val) → s.get LeCfg.mode n.val = 2 → s.flag LeCfg.hostFb n.val = true → ∃ t,
      exec (.hostSilenceExpiry (.spare n)) s = .next t ∧ t.get LeCfg.mode n.val = 0 ∧ Recorded s t .leFallback n.val [] ∧
      FieldsKept (onlyAt [LeCfg.mode] n.val) s t) ∧
    ((n.val < 144 ∨ (160 ≤ n.val ∧ n.val < 168) ∨ s.get LeCfg.mode n.val ≠ 2 ∨ s.flag LeCfg.hostFb n.val = false) →
      exec (.hostSilenceExpiry (.spare n)) s = .next s)) ∧
  (∀ (b : Fin 4) (v : Word) (s : State), s.shaped → ∃ t, exec (.trcArm b v) s = .next t ∧ exec (.trcForce b v) s = .next t ∧
    t.get TrcCfg.en b.val = TrcCfg.en.of v ∧ t.get TrcCfg.trig b.val = TrcCfg.trig.of v ∧
    (TrcCfg.en.of v = 1 → TrcCfg.arm.of v = 1 → t.get TrcStat.state b.val = 1 ∧ t.get TrcStat.widx b.val = 0 ∧
      (t.traceBuf b.val).samples = []) ∧
    (TrcCfg.force.of v = 1 → TrcCfg.arm.of v = 0 → s.get TrcStat.state b.val = 1 →
      (TrcCfg.trig.of v = 0 ∨ 6 ≤ TrcCfg.trig.of v) → (t.traceBuf b.val).forced = true) ∧
    (TrcCfg.arm.of v = 0 → (TrcCfg.force.of v = 0 ∨ s.get TrcStat.state b.val ≠ 1) → t.loop = s.loop) ∧
    t = { s with regs := t.regs, loop := t.loop } ∧ FieldsKept (onlyAt [TrcCfg.en, TrcCfg.trig, TrcCfg.base, TrcCfg.decim, TrcCfg.pre,
      TrcStat.state, TrcStat.widx, TrcStat.tidx] b.val) s t) ∧
  (∀ (b : Fin 4) (v : Word) (s : State), (TrcDumpCtl.go.of v = 0 → exec (.trcDumpGo b v) s = .next s) ∧
    (TrcDumpCtl.go.of v = 1 → (s.get TrcStat.state b.val = 1 ∨ s.get TrcStat.state b.val = 2) → ∃ t, exec (.trcDumpGo b v) s = .next t ∧
      t.flag TrcStat.dumpRef b.val = true ∧ t.codec = s.codec ∧ FieldsKept (onlyAt [TrcStat.dumpRef] b.val) s t) ∧
    (TrcDumpCtl.go.of v = 1 → (s.get TrcStat.state b.val = 0 ∨ s.get TrcStat.state b.val = 3) → ∃ t j, exec (.trcDumpGo b v) s = .next t ∧
      t.flag TrcStat.dumpBusy b.val = true ∧ j ∈ t.codec.waiting ∧ j.owner = 3 ∧ j.level = 3 ∧ j.lb = 16 ∧ j.perStripe = 256 ∧
      j.input = s.traceBytes b.val ∧ j.dest = s.get64 TrcDumpLo.v TrcDumpHi.v b.val ∧ t.dram = s.dram)) ∧
  (∀ (pass : Bool) (s : State), ((s.role ≠ roleStandby ∨ pass = true) → exec (.knownAnswerTest pass) s = .next s) ∧
    (s.role = roleStandby → pass = false → ∃ t, exec (.knownAnswerTest pass) s = .next t ∧ t.unfitBit unfitSummit = true ∧
      t = { s with regs := t.regs } ∧ FieldsKept (only [TwStat.unfit]) s t))

/-- The peak that the schedule check computes is the largest number of samples in any LQ -/
def Obligations.SchedulePeakIsTheWorstLq : Prop :=
  ∀ (n : Nat) (en : Bool) (period phase : Nat) (s : State), n < 176 →
    let due : Nat → Nat → Bool := fun k m => (if m = n then en else s.flag LeCfg.en m) &&
      (let p := max 1 (if m = n then period else s.get LeSched.period m)
       k % p == (if m = n then phase else s.get LeSched.phase m) % p)
    (∀ k, ((List.range 176).filter (due k)).length ≤ s.leLoad n en period phase) ∧
    (∃ k, ((List.range 176).filter (due k)).length = s.leLoad n en period phase)

/-- Camera triggers by GO, trailer and period; frames taken, missing or unsolicited; CAMn_SEL; the camera abort. Choices and readings of the model that it rests on: log 4, 79. -/
def Obligations.CameraTriggersAndFrames : Prop :=
  (∀ (n : Fin 4) (v : Word) (c : Instr) (q : Nat) (s u : State), u.shaped →
    ((c = .camTrigGo n v ∧ q = 0 ∧ u = s.storeWord .camTrig n.val v ∧ CamTrig.go.of v = 1 ∧ CamTrig.abort.of v = 0 ∧
        (CamTrig.src.of v = 0 ∨ CamTrig.src.of v = 3)) ∨
      (c = .camPeriodicTrigger n ∧ q = 0 ∧ u = s ∧ s.get CamTrig.src n.val = 2 ∧ s.get CamTrig.periodLq n.val ≠ 0) ∨
      (∃ x, c = .camTrailerTrigger n ∧ s.get CamTrig.src n.val = 1 ∧ s.dueTrailer n.val = some x ∧ q = x.pseq ∧
        u = { s with ins := { s.ins with trailers := s.ins.trailers.map (fun (y : Trailer) =>
          if y.pseq = x.pseq then { y with fired := n.val :: y.fired } else y) } })) →
    ((u.flag CamCfg.en n.val = false ∨ u.operating = false) → exec c s = .next u) ∧
    (u.flag CamCfg.en n.val = true → u.operating = true →
      ((∃ k ∈ u.served n.val, 4 ≤ (u.outstanding k).length) ∨ u.rst.qualified.getD (5 + n.val) false = false) → ∃ t, exec c s = .next t ∧
      t.get CamCntSkip.count n.val = satAdd 31 (u.get CamCntSkip.count n.val) 1 ∧ t.ins = u.ins ∧ t.pins = u.pins ∧
      FieldsKept (onlyAt [CamCntSkip.count, CamCntSkip.ovf] n.val) u t) ∧
    (u.flag CamCfg.en n.val = true → u.operating = true → (∀ k ∈ u.served n.val, (u.outstanding k).length < 4) →
      u.rst.qualified.getD (5 + n.val) false = true → ∃ t, exec c s = .next t ∧
      (∀ k ∈ u.served n.val, t.get IspTseq.v k = (u.get IspTseq.v k + 1) % 2 ^ 32 ∧ ∃ x, (t.ctx k).trigs = (u.ctx k).trigs ++ [x] ∧
        x.tseq = t.get IspTseq.v k ∧ x.closed = none ∧ x.ft = s.ft ∧ x.pseq = q ∧ x.gen = (t.ctx k).bound.num) ∧
      (∀ k, k ∉ u.served n.val → t.get IspTseq.v k = u.get IspTseq.v k ∧ (t.ctx k).trigs = (u.ctx k).trigs) ∧
      t.flag CamStat.sel n.val = false ∧ t.pages = s.pages ∧ t.dram = s.dram ∧
      (u.mayAssert = true → t.pins.camTrig.getD n.val false = !u.trigIdle n.val ∧ t.pins.camSel.getD n.val true = false))) ∧
  (∀ (n : Fin 4) (s : State), ((s.get CamTrig.src n.val ≠ 2 ∨ s.get CamTrig.periodLq n.val = 0) → exec (.camPeriodicTrigger n) s = .next s) ∧
    ((s.get CamTrig.src n.val ≠ 1 ∨ s.dueTrailer n.val = none) → exec (.camTrailerTrigger n) s = .next s)) ∧
  (∀ (n : Fin 4) (s : State), ((s.flag CamCfg.en n.val = false ∨ (s.camPort n.val).frame.isSome = true) →
      exec (.camFrameStart n) s = .next s) ∧
    (∀ c, s.shaped → s.flag CamCfg.en n.val = true → (s.camPort n.val).frame = none →
      c = (if s.flag CamCfg.shared n.val = true ∧ s.flag CamStat.sel n.val = true then 2 * n.val + 1 else 2 * n.val) →
      ∃ t, exec (.camFrameStart n) s = .next t ∧ t.ins.ctxs = s.ins.ctxs ∧
      (∀ x l, s.outstanding c = x :: l → (t.camPort n.val).frame = some (c, some x.tseq) ∧ t.ev = s.ev) ∧
      (s.outstanding c = [] → (t.camPort n.val).frame = some (c, none) ∧
        t.get CamCntUnsol.count n.val = satAdd 31 (s.get CamCntUnsol.count n.val) 1))) ∧
  (∀ (n : Fin 4) (rows : List (List Nat)) (s : State), ((s.camPort n.val).frame = none → exec (.camFrameEnd n rows) s = .next s) ∧
    (∀ c q x, s.shaped → c < 8 → (s.camPort n.val).frame = some (c, some q) → (s.ctx c).trigs.find? (fun x => x.tseq == q) = some x →
      x.closed = none → ∃ t y, exec (.camFrameEnd n rows) s = .next t ∧ (t.camPort n.val).frame = none ∧ y ∈ (t.ctx c).trigs ∧
      y.tseq = q ∧ y.gen = x.gen ∧ (∃ f lines, y.closed = some (f, lines) ∧ lines ≤ setGet x.tab IspSize.height c ∧
        (rows.length < setGet x.tab IspSize.height c → f % 2 = 1 ∧ lines = rows.length) ∧
        (setGet x.tab IspSize.height c < rows.length → f / 2 % 2 = 1) ∧
        (rows.length = setGet x.tab IspSize.height c → (∀ l ∈ rows, l.length = setGet x.tab IspSize.width c) → f = 0)) ∧
      ((s.camPort n.val).aborting = true → (t.camPort n.val).aborting = false ∧ t.aborting 2 n.val = false)) ∧
    (∀ c, s.shaped → (s.camPort n.val).frame = some (c, none) → ∃ t, exec (.camFrameEnd n rows) s = .next t ∧
      (t.camPort n.val).frame = none ∧ t.ins.ctxs = s.ins.ctxs)) ∧
  (∀ (c : Fin 8) (s : State), (s.outstanding c.val = [] → exec (.camFrameTimeout c) s = .next s) ∧
    (∀ x l, s.shaped → s.outstanding c.val = x :: l → ∃ t y, exec (.camFrameTimeout c) s = .next t ∧ y ∈ (t.ctx c.val).trigs ∧
      y.tseq = x.tseq ∧ y.closed = some (4, 0))) ∧
  (∀ (n : Fin 4) (s : State), s.shaped → (s.camPort n.val).selWait = true → (s.camPort n.val).frame = none → ∃ t,
    exec (.camSelGapExpiry n) s = .next t ∧ t.flag CamStat.sel n.val = true ∧ (t.camPort n.val).selWait = false ∧
    (s.mayAssert = true → t.pins.camSel.getD n.val false = true) ∧
    FieldsKept (onlyAt [CamStat.sel] n.val) s t) ∧
  (∀ (n : Fin 4) (s : State), ((s.camPort n.val).selWait = false ∨ (s.camPort n.val).frame.isSome = true) →
    exec (.camSelGapExpiry n) s = .next s) ∧
  (∀ (n : Fin 4) (v : Word) (s : State), s.shaped → CamTrig.abort.of v = 1 → ∃ t, exec (.camTrigAbort n v) s = .next t ∧
    exec (.camTrigGo n v) s = .next t ∧ t.get CamTrig.src n.val = 0 ∧ t.outstanding (2 * n.val) = [] ∧ t.outstanding (2 * n.val + 1) = [] ∧
    (∀ c q, (s.camPort n.val).frame = some (c, some q) → (t.camPort n.val).aborting = true ∧ t.aborting 2 n.val = true) ∧
    ((s.camPort n.val).frame = none → (t.camPort n.val).aborting = false ∧ t.aborting 2 n.val = false ∧ t.flag CamStat.sel n.val = false ∧
      (t.pins.camTrig.getD n.val (s.trigIdle n.val) = s.trigIdle n.val))) ∧
  (∀ (n : Fin 4) (s : State), ((s.camPort n.val).aborting = false → exec (.camAbortTimeout n) s = .next s) ∧
    (∀ c q x, s.shaped → c < 8 → (s.camPort n.val).aborting = true → (s.camPort n.val).frame = some (c, some q) →
      (s.ctx c).trigs.find? (fun x => x.tseq == q) = some x → x.closed = none → ∃ t y, exec (.camAbortTimeout n) s = .next t ∧
      y ∈ (t.ctx c).trigs ∧ y.tseq = q ∧ y.closed = some (8, 0) ∧ (t.camPort n.val).aborting = false ∧ t.aborting 2 n.val = false))

/-- Settings generations of a context, result records, the health map, HM_CLR and captures. Choices and readings of the model that it rests on: log 46. -/
def Obligations.ContextsAndHealthMap : Prop :=
  (∀ (c : Fin 8) (v : Word) (s : State), s.shaped → IspCommit.commit.of v = 1 → ∃ t, exec (.ispCommit c v) s = .next t ∧
    ((s.ctx c.val).olderUsed = true → t.flag IspCommit.busy c.val = true ∧ (t.ctx c.val).held = some (s.get IspTarget.v c.val) ∧
      t.get IspCommit.gen c.val = s.get IspCommit.gen c.val ∧ (t.ctx c.val).pending = (s.ctx c.val).pending) ∧
    ((s.ctx c.val).olderUsed = false → t.get IspCommit.gen c.val = (s.get IspCommit.gen c.val + 1) % 2 ^ 16 ∧
      t.flag IspCommit.pend c.val = true ∧ t.flag IspCommit.busy c.val = false ∧ (t.ctx c.val).bound = (s.ctx c.val).bound ∧
      ∃ g target, (t.ctx c.val).pending = some (g, target) ∧ g.num = (s.get IspCommit.gen c.val + 1) % 2 ^ 16 ∧
        (∀ r ∈ ispRegs, ∀ f ∈ r.fields, ∀ i, setGet g.tab f i % 2 ^ f.width = s.get f i) ∧
        (s.get IspTseq.v c.val = 0 → target = s.get IspTarget.v c.val ∧ t.ev = s.ev) ∧
        (2 ^ 31 ≤ (s.get IspTseq.v c.val + 2 ^ 32 - s.get IspTarget.v c.val) % 2 ^ 32 → target = s.get IspTarget.v c.val ∧ t.ev = s.ev) ∧
        (s.get IspTseq.v c.val ≠ 0 → (s.get IspTseq.v c.val + 2 ^ 32 - s.get IspTarget.v c.val) % 2 ^ 32 < 2 ^ 31 →
          target = (s.get IspTseq.v c.val + 1) % 2 ^ 32 ∧ t.flag IspCommit.late c.val = true ∧
          Recorded s t .ispCommitLate c.val [a32 (s.get IspTarget.v c.val), a32 ((s.get IspTseq.v c.val + 1) % 2 ^ 32)])) ∧
    (∀ k, k ≠ c.val → t.ctx k = s.ctx k)) ∧
  (∀ (c : Fin 8) (v : Word) (s : State), IspCommit.commit.of v = 0 → exec (.ispCommit c v) s = .next (s.storeWord .ispCommit c.val v)) ∧
  (∀ (c : Fin 8) (marks : List (Option MarkMeas)) (dashes : List DashMeas) (s : State),
    ((s.ctx c.val).trigs = [] → exec (.resultRecord c marks dashes) s = .next s) ∧
    (∀ x l, (s.ctx c.val).trigs = x :: l → x.closed = none → exec (.resultRecord c marks dashes) s = .next s) ∧
    (∀ x l, s.shaped → (s.ctx c.val).trigs = x :: l → x.closed.isSome = true → ∃ t, exec (.resultRecord c marks dashes) s = .next t ∧
      (t.ctx c.val).trigs = l ∧ (∀ k, k ≠ c.val → t.ctx k = s.ctx k) ∧ t.ins.health = s.ins.health ∧ t.dram = s.dram ∧
      (x.invalid = true → t.ins.srcSeq = s.ins.srcSeq ∧
        ((s.get InsResWr.v 0 + 2 ^ 32 - s.get InsResRd.v 0) % 2 ^ 32 < s.resUnits →
          t.get InsResWr.v 0 = (s.get InsResWr.v 0 + 1) % 2 ^ 32) ∧
        (s.resUnits ≤ (s.get InsResWr.v 0 + 2 ^ 32 - s.get InsResRd.v 0) % 2 ^ 32 → t.get InsResWr.v 0 = s.get InsResWr.v 0 ∧
          t.get InsResLost.count 0 = satAdd 31 (s.get InsResLost.count 0) 1)))) ∧
  (∀ s : State, s.ins.strips.find? (fun q => q.ctxs.all (fun c => q.done.contains c)) = none → exec .healthMapUpdate s = .next s) ∧
  (∀ (q : Strip) (s : State), s.ins.strips.find? (fun q => q.ctxs.all (fun c => q.done.contains c)) = some q → s.ins.clrDue = false →
    (q.results.map (fun e => e.1)).Nodup → ∃ t, exec .healthMapUpdate s = .next t ∧ (∀ r ∈ t.ins.strips, r.pseq ≠ q.pseq) ∧
    (∀ e ∈ q.results, t.health e.1 = s.healthAfter e.1 e.2.2.1 e.2.2.2.1 e.2.2.2.2.1 e.2.2.2.2.2) ∧
    (∀ i, Tab.find q.results i = none → (t.health i).state = (s.health i).state ∧ (t.health i).miss = (s.health i).miss ∧
      (t.health i).good = (s.health i).good ∧ (t.health i).htrim = (s.health i).htrim)) ∧
  (∀ (missN goodN db : Nat) (trim : Int) (h : Health) (cls den : Nat) (x y : Int),
    (cls = 0 → healthStep missN goodN db trim h cls den x y = { h with nores := true }) ∧
    (cls = 1 → (healthStep missN goodN db trim h cls den x y).miss = min (h.miss + 1) 7 ∧
      (healthStep missN goodN db trim h cls den x y).good = 0 ∧
      (healthStep missN goodN db trim h cls den x y).state = (if missN ≤ min (h.miss + 1) 7 then 3 else h.state)) ∧
    ((cls = 3 ∨ cls = 4) → y.natAbs ≤ db → 1 ≤ missN → (healthStep missN goodN db trim h cls den x y).good = min (h.good + 1) 15 ∧
      (healthStep missN goodN db trim h cls den x y).miss = 0 ∧ (healthStep missN goodN db trim h cls den x y).trimCnt = 0 ∧
      (healthStep missN goodN db trim h cls den x y).state =
        (if h.state ≤ 1 ∨ goodN ≤ min (h.good + 1) 15 then (if cls = 3 then 1 else 0) else h.state))) ∧
  (∀ (v : Word) (s : State), InsCtrl.hmClr.of v = 0 → exec (.hmClr v) s = .next (s.storeWord .insCtrl 0 v)) ∧
  (∀ (v : Word) (s : State), InsCtrl.hmClr.of v = 1 → ∃ t, exec (.hmClr v) s = .next t ∧
    t.ins.strips = s.ins.strips.filter (fun q => q.ctxs.all (fun c => q.done.contains c)) ∧
    (t.ins.strips = [] → t.ins.clrDue = false ∧ ∀ i, (t.health i).state = 0 ∧ (t.health i).miss = 0 ∧ (t.health i).good = 0 ∧
      (t.health i).trimCnt = 0) ∧ (t.ins.strips ≠ [] → t.ins.clrDue = true ∧ t.ins.health = s.ins.health)) ∧
  (∀ (v : Word) (s : State), ∃ t, exec (.insCapGo v) s = .next t ∧ t.get InsCap.ctx 0 = InsCap.ctx.of v ∧
    t.get InsCap.stage 0 = InsCap.stage.of v ∧ (InsCap.go.of v = 0 → t.ins = s.ins) ∧
    (InsCap.go.of v = 1 → t.ins.capture = some (InsCap.ctx.of v, InsCap.stage.of v, s.get InsCapTarget.v 0,
      s.get64 InsCapDstLo.v InsCapDstHi.v 0)) ∧ t = { s with regs := t.regs, ins := t.ins } ∧ FieldsKept (only [InsCap.ctx, InsCap.stage]) s t)

/-- Lamp strings: PWM periods, the segment chain, checks and faults, compensation; pattern engines run, step and stop. Choices and readings of the model that it rests on: log 79. -/
def Obligations.LampsAndPatterns : Prop :=
  (∀ s : State, s.shaped → ∃ t, exec .lampPwmPeriod s = .next t ∧ t.dram = s.dram ∧ t.pages = s.pages ∧ ∀ n, n < 16 → s.isPulse n = false →
    t.get LeRef.v (128 + n) = 8 * s.ramps.lampTarget n ∧
    (t.lamp n).onTime = (if s.ramps.lampTarget n = 0 ∨ s.flag LmpStat.on n = false then 0
      else ((signed 16 (s.get LeOut.v (128 + n) % 2 ^ 16)).toNat * 1250 + 2 ^ 14) / 2 ^ 15) ∧
    (s.mayAssert = true → t.pins.lsGate.getD n false = decide (0 < (t.lamp n).onTime))) ∧
  (∀ (rb : Nat) (s : State), ((s.mayAssert = false ∨ s.light.shifted.isSome = true) → exec (.segChainShift rb) s = .next s) ∧
    (s.mayAssert = true → s.light.shifted = none → ∃ t, exec (.segChainShift rb) s = .next t ∧
      t.light.shifted = some s.chainImage ∧ t.light.latched = s.light.latched ∧
      (∀ n, n < 16 → s.lampLit n = true → (toggled s.light.latched s.chainImage n).length ≤ 4) ∧
      (rb % 2 ^ 256 = s.light.latched → t.regs = s.regs ∧ t.light.clean = true ∧ t.ev = s.ev) ∧
      (rb % 2 ^ 256 ≠ s.light.latched → t.light.clean = false ∧ t.flag LmpGstat.chainErr 0 = true ∧
        t.get LmpGstat.count 0 = satAdd 8 (s.get LmpGstat.count 0) 1 ∧
        (s.get LmpGstat.count 0 ≠ 254 → Recorded s t .lmpChain 0 [])) ∧ FieldsKept (only [LmpGstat.chainErr, LmpGstat.count]) s t)) ∧
  (∀ (b a : List Nat) (s : State), (s.light.shifted = none → exec (.segLatch b a) s = .next s) ∧
    (∀ img, s.light.shifted = some img → ((s.mayAssert = false ∨ ∃ n, n < 16 ∧ s.inPulse n = true ∧ toggled s.light.latched img n ≠ []) →
        exec (.segLatch b a) s = .next s) ∧
      (s.mayAssert = true → (∀ n, n < 16 → s.inPulse n = true → toggled s.light.latched img n = []) → ∃ t, exec (.segLatch b a) s = .next t ∧
        t.light.latched = img ∧ t.light.shifted = none ∧ FieldsKept (only [LmpStat.segShort]) s t ∧
        (∀ n k, n < 16 → k ∈ toggled s.light.latched img n → s.lampLit n = true → s.flag LmpCfg.diagEn n = true → s.light.clean = true →
          2 * ((s.stringUv n (a.getD n 0) - s.stringUv n (b.getD n 0)) + (s.stringUv n (b.getD n 0) - s.stringUv n (a.getD n 0))) <
            1000 * s.get LmpVfmin.v n → t.get LmpStat.segShort n / 2 ^ k % 2 = 1)))) ∧
  (∀ (n : Fin 16) (i v : Nat) (s : State), ((s.flag LmpCfg.diagEn n.val = false ∨ s.flag LmpStat.on n.val = false) →
      exec (.lampDiagCheck n i v) s = .next s) ∧
    (s.shaped → s.flag LmpCfg.diagEn n.val = true → s.flag LmpStat.on n.val = true → s.isPulse n.val = false →
      ((s.lampTarget n.val < s.get LmpDiagmin.v n.val ∨ s.lampTarget n.val = 0) → exec (.lampDiagCheck n i v) s = .next s) ∧
      (s.get LmpDiagmin.v n.val ≤ s.lampTarget n.val → 0 < s.lampTarget n.val → ∃ t, exec (.lampDiagCheck n i v) s = .next t ∧
        t.get LmpMeas.isense n.val = i % 4096 ∧ t.get LmpMeas.vsense n.val = v % 4096 ∧ t.flag LmpStat.stale n.val = false ∧
        (s.get LeOut.v (128 + n.val) = s.get LeOmax.v (128 + n.val) → 2 * (i % 4096) < s.lampTarget n.val →
          t.flag LmpStat.open_ n.val = true ∧ t.flag LmpStat.fault n.val = true ∧ t.flag LmpStat.on n.val = false ∧
          t.pins.lsEnN.getD n.val false = true ∧ t.pins.lsGate.getD n.val true = false ∧ Recorded s t .lmpFault n.val []) ∧
        (s.lampTarget n.val ≤ 2 * (i % 4096) → s.stringUv n.val (v % 4096) < 1000 * s.litCount n.val * s.get LmpVfmin.v n.val →
          t.flag LmpStat.short n.val = true ∧ t.flag LmpStat.fault n.val = true ∧ t.flag LmpStat.on n.val = false ∧
          Recorded s t .lmpFault n.val []) ∧
        (s.lampTarget n.val ≤ 2 * (i % 4096) → 1000 * s.litCount n.val * s.get LmpVfmin.v n.val ≤ s.stringUv n.val (v % 4096) →
          t.ev = s.ev ∧ t.pins = s.pins ∧ FieldsKept (onlyAt [LmpMeas.isense, LmpMeas.vsense, LmpStat.stale] n.val) s t)))) ∧
  (∀ (n : Fin 16) (i v a b k : Nat) (s : State), s.shaped → s.flag LmpCfg.diagEn n.val = true → s.flag LmpStat.on n.val = true →
    s.isPulse n.val = true → (s.lamp n.val).pulse = some (a, b, k) → a ≤ s.ft → s.get LmpDiagmin.v n.val ≤ k → 0 < k →
    (b < a + 1250 → exec (.lampDiagCheck n i v) s = .next s) ∧
    (a + 1250 ≤ b → ∃ t, exec (.lampDiagCheck n i v) s = .next t ∧ t.get LmpMeas.isense n.val = i % 4096 ∧
      t.flag LmpStat.fault n.val = (s.flag LmpStat.fault n.val || decide (2 * (i % 4096) < k) || s.stringShort n.val (i % 4096) (v % 4096) k) ∧
      (2 * (i % 4096) < k → t.flag LmpStat.open_ n.val = true ∧ t.pins.lsGate.getD n.val true = false))) ∧
  (∀ (n : Fin 16) (mv : Nat) (s : State), ((s.flag LmpCfg.prbEn n.val = false ∨ s.flag LmpStat.on n.val = false ∨
      (s.isPulse n.val = false ∧ 0 < s.lampTarget n.val) ∨ (s.isPulse n.val = true ∧ s.inPulse n.val = true)) →
      exec (.lampProbe n mv) s = .next s) ∧
    (s.shaped → s.flag LmpCfg.prbEn n.val = true → s.flag LmpStat.on n.val = true → (s.isPulse n.val = true → s.inPulse n.val = false) →
      (s.isPulse n.val = false → s.lampTarget n.val = 0) → ∃ t, exec (.lampProbe n mv) s = .next t ∧ t.flag LmpStat.stale n.val = false ∧
      (mv < 300 → t.flag LmpStat.open_ n.val = true ∧ t.flag LmpStat.fault n.val = true ∧ t.pins.lsEnN.getD n.val false = true ∧
        Recorded s t .lmpFault n.val []) ∧ (300 ≤ mv → t.pins = s.pins ∧ t.ev = s.ev))) ∧
  (∀ (n : Fin 16) (s : State), ((s.flag LmpCfg.en n.val = false ∨ s.flag LmpStat.stale n.val = true) →
      exec (.lmpDiagStale n) s = .next s) ∧
    (s.flag LmpCfg.en n.val = true → s.flag LmpStat.stale n.val = false → ∃ t, exec (.lmpDiagStale n) s = .next t ∧
      t.flag LmpStat.stale n.val = true ∧ Recorded s t .lmpDiagStale n.val [] ∧ FieldsKept (onlyAt [LmpStat.stale] n.val) s t)) ∧
  (∀ (n : Fin 16) (v : Word) (s : State), (LmpCtrl.clr.of v = 0 → exec (.lmpCtrlClr n v) s = .next s) ∧
    (s.shaped → LmpCtrl.clr.of v = 1 → ∃ t, exec (.lmpCtrlClr n v) s = .next t ∧ t.flag LmpStat.fault n.val = false ∧
      t.flag LmpStat.open_ n.val = false ∧ t.flag LmpStat.short n.val = false ∧
      (s.flag LmpCfg.en n.val = true → s.mayAssert = true → t.flag LmpStat.on n.val = true ∧ t.pins.lsEnN.getD n.val true = false) ∧
      (s.flag LmpCfg.en n.val = false → t.pins = s.pins) ∧
      FieldsKept (onlyAt [LmpStat.fault, LmpStat.open_, LmpStat.short, LmpStat.on] n.val) s t)) ∧
  (∀ (ntc : List Nat) (s : State), s.shaped → ∃ t, exec (.lampTempComp ntc) s = .next t ∧ t.regs = s.regs ∧ t = { s with light := t.light } ∧
    ∀ n, n < 16 → (t.lamp n).gain = s.classGain (s.get LmpCfg.class_ n) (ntc.getD (s.get LmpCfg.ntc n) 0 % 4096)) ∧
  (∀ (e : Fin 8) (v : Word) (s u : State), s.shaped → u = s.storeWord .patCtrl e.val v → PatCtrl.stop.of v = 0 → PatCtrl.run_.of v = 1 →
    (u.patRefused e.val (PatCtrl.strings.of v) = true → ∃ t, exec (.patRun e v) s = .next t ∧ t.flag PatStat.refused e.val = true ∧
      t.light = s.light ∧ FieldsKept (onlyAt [PatCtrl.strings, PatCtrl.start, PatStat.refused] e.val) s t) ∧
    (u.patRefused e.val (PatCtrl.strings.of v) = false → 2 ≤ u.patWord e.val (PatCtrl.start.of v) 0 % 16 →
      u.patWord e.val (PatCtrl.start.of v) 0 % 16 ≤ 6 → ∃ t, exec (.patRun e v) s = .next t ∧ t.get PatStat.state e.val = 1 ∧
      t.get PatStat.step e.val = PatCtrl.start.of v ∧ (t.pattern e.val).strings = PatCtrl.strings.of v ∧
      ∀ n, n < 16 → PatCtrl.strings.of v / 2 ^ n % 2 = 1 → t.flag LmpStat.owned n = true ∧ t.get LmpStat.engine n = e.val ∧
        (t.lamp n).engine = some e.val)) ∧
  (∀ (e : Fin 8) (v : Word) (s : State), s.shaped → PatCtrl.stop.of v = 1 → PatCtrl.run_.of v = 0 → ∃ t, exec (.patStop e v) s = .next t ∧
    exec (.patRun e v) s = .next t ∧ t.get PatStat.state e.val = 0 ∧ (t.pattern e.val).strings = 0 ∧
    (∀ n ∈ (s.pattern e.val).list, t.flag LmpStat.owned n = false ∧ (t.lamp n).engine = none) ∧
    (∀ n, t.get LmpLevel.t0 n = s.get LmpLevel.t0 n) ∧ t.pins = s.pins) ∧
  (∀ (e : Fin 8) (s : State), (s.get PatStat.state e.val = 0 → exec (.patternTimer e) s = .next s) ∧
    (∀ k op nxt, s.shaped → s.get PatStat.state e.val = 1 → k = s.get PatStat.step e.val → op = s.patWord e.val k 0 % 16 →
      nxt = s.patWord e.val (k + 1) 0 % 16 →
      ((op = 3 ∨ op = 4) → k < 63 → 2 ≤ nxt → nxt ≤ 6 → ∃ t, exec (.patternTimer e) s = .next t ∧ t.get PatStat.step e.val = k + 1 ∧
        t.get PatStat.state e.val = 1 ∧ (t.pattern e.val).since = s.ft ∧ t.pins = s.pins) ∧
      (op = 2 → k < 63 → 2 ≤ nxt → nxt ≤ 6 → ∃ t, exec (.patternTimer e) s = .next t ∧ t.get PatStat.step e.val = k + 1 ∧
        (t.pattern e.val).level = s.patWord e.val k 0 / 2 ^ 4 % 256 ∧ ∀ n ∈ (s.pattern e.val).list, t.get LmpLevel.t0 n =
          (s.get Ptab.v (s.patWord e.val k 0 / 2 ^ 4 % 256) * s.get LmpImax.v n + 2048) / 4096 % 2 ^ 12) ∧
      (op = 5 → s.patWord e.val k 0 / 2 ^ 16 % 2 ^ 12 = 0 → ∃ t, exec (.patternTimer e) s = .next t ∧ t.get PatStat.step e.val = k ∧
        (t.pattern e.val).mask = rotateMask (s.pattern e.val).mask (s.get LmpCfg.nseg ((s.pattern e.val).list.headD 0))
          (s.patWord e.val k 0 / 2 ^ 13 % 2 == 1)) ∧
      (op = 6 → s.patWord e.val k 1 = 0 → exec (.patternTimer e) s = .next s)))

/-- Axes: an LQ moves, brakes or refuses; targets, enables, commands, safety inputs, faults, limits and homing edges. Choices and readings of the model that it rests on: log 39, 40, 41. -/
def Obligations.AxesMoveStopAndHome : Prop :=
  (∀ (n : Fin 8) (v : Word) (b fl : Bool) (sn : List Bool) (s : State) (c : Instr),
    c ∈ [Instr.axisLqUpdate n, .axTgtCommit n v, .axisEnable n v, .axisHoldTimer n, .axCmdStop n v, .axCmdAbort n v, .axCmdHome n v,
      .axCmdClr n v sn fl, .driverFault n, .axLimit n b, .limitRelease n b, .homeEdge n b] →
    ∃ t, exec c s = .next t ∧ (∀ m, m ≠ n.val → t.axis m = s.axis m) ∧ t.mot.acts = s.mot.acts ∧ t.mot.print = s.mot.print ∧
      t = { s with regs := t.regs, mot := t.mot, pins := t.pins, ev := t.ev, aborts := t.aborts } ∧
      FieldsKept (axisField [.axCfg, .axTgtHi] n.val) s t) ∧
  (∀ (n : Fin 8) (s : State), s.operating = false → exec (.axisLqUpdate n) s = .next s) ∧
  (∀ (n : Fin 8) (s : State), s.shaped → s.operating = true → s.get AxCfg.en n.val = 1 → (s.axis n.val).stop = 2 →
    (s.axis n.val).due = none → (s.axis n.val).safety = false → (s.axis n.val).homing = none → (s.axis n.val).v ≠ 0 →
    ∃ t, exec (.axisLqUpdate n) s = .next t ∧
      t.axPos n.val = signed 48 (unsign 48 (s.axPos n.val +
        (((s.axis n.val).phase : Int) + (s.axis n.val).v * 2 ^ 32 / 640000000000) / 2 ^ 32)) ∧
      (s.get AxDecEmerg.v n.val < (s.axis n.val).v.natAbs → (t.axis n.val).stop = 2 ∧ (t.axis n.val).v =
        (if 0 < (s.axis n.val).v then (s.axis n.val).v - s.get AxDecEmerg.v n.val else (s.axis n.val).v + s.get AxDecEmerg.v n.val)) ∧
      ((s.axis n.val).v.natAbs ≤ s.get AxDecEmerg.v n.val → (t.axis n.val).v = 0 ∧ (t.axis n.val).stop = 0 ∧
        (t.axis n.val).goal = some (t.axPos n.val))) ∧
  (∀ (n : Fin 8) (g : Int) (s : State), s.shaped → s.operating = true → s.get AxCfg.en n.val = 1 → (s.axis n.val).v = 0 →
    (s.axis n.val).stop = 0 → (s.axis n.val).homing = none → (s.axis n.val).switching = none → (s.axis n.val).goal = none →
    (s.axis n.val).due = some g →
    (s.flag AxStat.drvFault n.val = true ∨ s.flag AxStat.safeStop n.val = true ∨ (s.limitLow n.val true = true ∧ s.axPos n.val < g) ∨
      (s.limitLow n.val false = true ∧ g < s.axPos n.val)) →
    ∃ t, exec (.axisLqUpdate n) s = .next t ∧ t.flag AxStat.refused n.val = true ∧ (t.axis n.val).goal = none ∧
      (t.axis n.val).due = none ∧ (t.axis n.val).v = 0 ∧ t.axPos n.val = s.axPos n.val) ∧
  (∀ (n : Fin 8) (g : Int) (s : State), s.shaped → s.operating = true → s.get AxCfg.en n.val = 1 → (s.axis n.val).v = 0 →
    (s.axis n.val).phase = 0 → (s.axis n.val).stop = 0 → (s.axis n.val).homing = none → (s.axis n.val).due = some g →
    s.flag AxStat.drvFault n.val = false → s.flag AxStat.safeStop n.val = false → s.limitLow n.val true = false →
    s.limitLow n.val false = false → s.flag AxStat.hold n.val = false → s.flag AxCfg.profile n.val = false →
    (s.axis n.val).stepFrom ≤ s.ft → (s.axis n.val).negative = decide (g < s.axPos n.val) → g ≠ s.axPos n.val → 1 ≤ s.axDec n.val →
    ∃ t, exec (.axisLqUpdate n) s = .next t ∧ (t.axis n.val).goal = some g ∧ (t.axis n.val).due = none ∧
      (t.axis n.val).v = (if g < s.axPos n.val then -1 else 1) *
        ((min (s.axAcc n.val) (min (800000 * s.get AxVmax.v n.val) (s.axTop n.val)) : Nat) : Int) ∧ t.axPos n.val = s.axPos n.val) ∧
  (∀ (n : Fin 8) (g : Int) (s : State), s.shaped → s.operating = true → s.get AxCfg.en n.val = 1 → 0 < (s.axis n.val).v →
    (s.axis n.val).stop = 0 → (s.axis n.val).homing = none → (s.axis n.val).switching = none → (s.axis n.val).due = none →
    (s.axis n.val).stepFrom ≤ s.ft → (s.axis n.val).goal = some g →
    (g < (s.advanceAxis n.val).axPos n.val → ∃ t, exec (.axisLqUpdate n) s = .next t ∧ t.flag AxStat.switchback n.val = true ∧
      (t.axis n.val).switching = some (s.axDec n.val) ∧ (t.axis n.val).goal = some g ∧
      (t.axis n.val).v = (if (s.axis n.val).v.natAbs ≤ s.axDec n.val then 0 else (s.axis n.val).v - s.axDec n.val)) ∧
    (∀ d r : Nat, 0 < d →
      (d : Int) = (g - (s.advanceAxis n.val).axPos n.val) * 2 ^ 32 - ((s.advanceAxis n.val).axis n.val).phase →
      s.axDec n.val * (640000000000 * d) < (s.axis n.val).v.natAbs * (s.axis n.val).v.natAbs * 2 ^ 31 →
      (s.axis n.val).v.natAbs * (s.axis n.val).v.natAbs * 2 ^ 31 ≤ s.get AxDecEmerg.v n.val * (640000000000 * d) →
      r = ((s.axis n.val).v.natAbs * (s.axis n.val).v.natAbs * 2 ^ 31 + 640000000000 * d - 1) / (640000000000 * d) →
      ∃ t, exec (.axisLqUpdate n) s = .next t ∧ t.flag AxStat.decelOverride n.val = true ∧ (t.axis n.val).goal = some g ∧
        (t.axis n.val).v = (((s.axis n.val).v.natAbs - r : Nat) : Int))) ∧
  (∀ (n : Fin 8) (q p k : Nat) (s : State), s.shaped → s.operating = true → s.get AxCfg.en n.val = 1 → (s.axis n.val).v = 0 →
    (s.axis n.val).stop = 0 → (s.axis n.val).due = none → (s.axis n.val).safety = false → (s.axis n.val).homing = some (q, p, k) →
    2 ^ 32 ≤ k → ∃ t, exec (.axisLqUpdate n) s = .next t ∧ t.flag AxStat.homeErr n.val = true ∧ (t.axis n.val).homing = none ∧
      (s.aborting 4 n.val = false → s.gateOpen = s.flag MntStat.gate 0 → Recorded s t .axHomeFail n.val [])) ∧
  (∀ (n : Fin 8) (v : Word) (s : State), s.shaped → ∃ t, exec (.axTgtCommit n v) s = .next t ∧
    t.get AxTgtHi.v n.val = AxTgtHi.v.of v ∧ t.pins = s.pins ∧
    t.axis n.val = (if s.flag AxStat.owned n.val
      then { s.axis n.val with held := some (signed 48 (s.get AxTgtLo.v n.val + 2 ^ 32 * AxTgtHi.v.of v)) }
      else { s.axis n.val with due := some (signed 48 (s.get AxTgtLo.v n.val + 2 ^ 32 * AxTgtHi.v.of v)) })) ∧
  (∀ (n : Fin 8) (v : Word) (s : State), s.shaped → (∀ k, k < 4 → s.pins.safeInN.getD k true = true) →
    ∃ t, exec (.axisEnable n v) s = .next t ∧ (∀ f, f ∈ Reg.axCfg.fields → t.get f n.val = f.of v) ∧
      (AxCfg.en.of v = 1 → s.get AxCfg.en n.val = 0 → t.flag AxStat.hold n.val = false ∧ (t.axis n.val).stepFrom = s.ft + 500000 ∧
        (s.mayAssert = true → s.flag AxStat.drvFault n.val = false → t.pins.axEnN.getD n.val true = false ∧
          t.pins.axIref.getD n.val 0 = s.get AxIref.runDuty n.val)) ∧
      (AxCfg.en.of v = 0 → s.get AxCfg.en n.val = 1 → (t.axis n.val).v = 0 ∧ t.pins.axEnN.getD n.val false = true ∧
        t.pins.axStep.getD n.val true = false ∧ t.pins.axIref.getD n.val 1 = 0 ∧ t.get AxStat.state n.val = 0) ∧
      (AxCfg.en.of v = s.get AxCfg.en n.val → t.mot = s.mot ∧ t.pins = s.pins)) ∧
  (∀ (n : Fin 8) (s : State), ((s.flag AxCfg.en n.val = false ∨ (s.axis n.val).v ≠ 0 ∨ s.flag AxStat.hold n.val = true) →
      exec (.axisHoldTimer n) s = .next s) ∧
    (s.shaped → s.flag AxCfg.en n.val = true → (s.axis n.val).v = 0 → s.flag AxStat.hold n.val = false →
      ∃ t, exec (.axisHoldTimer n) s = .next t ∧ t.flag AxStat.hold n.val = true ∧ t.mot = s.mot ∧
        FieldsKept (onlyAt [AxStat.hold] n.val) s t ∧ (s.mayAssert = true → s.flag AxStat.drvFault n.val = false →
          t.pins.axIref.getD n.val 0 = s.get AxIref.holdDuty n.val))) ∧
  (∀ (n : Fin 8) (v : Word) (s : State), s.flag AxStat.owned n.val = true → AxCmd.abort.of v = 0 →
    s.gateOpen = s.flag MntStat.gate 0 → exec (.axCmdStop n v) s = .next s ∧ exec (.axCmdHome n v) s = .next s) ∧
  (∀ (n : Fin 8) (v : Word) (s : State), s.shaped → s.flag AxStat.owned n.val = false → AxCmd.stop.of v = 1 → AxCmd.abort.of v = 0 →
    AxCmd.clr.of v = 0 → ∃ t, exec (.axCmdStop n v) s = .next t ∧ t.axPos n.val = s.axPos n.val ∧ (t.axis n.val).due = none ∧
      ((s.axis n.val).v ≠ 0 → (t.axis n.val).stop = max (s.axis n.val).stop 1 ∧ (t.axis n.val).v = (s.axis n.val).v ∧
        (t.axis n.val).goal = none ∧ t.pins = s.pins) ∧
      ((s.axis n.val).v = 0 → (s.axis n.val).safety = false → (t.axis n.val).stop = 0 ∧ (t.axis n.val).goal = some (s.axPos n.val))) ∧
  (∀ (n : Fin 8) (v : Word) (s : State), s.shaped → AxCmd.abort.of v = 1 → AxCmd.clr.of v = 0 → (s.axis n.val).v ≠ 0 →
    ∃ t, exec (.axCmdAbort n v) s = .next t ∧ (t.axis n.val).stop = max (s.axis n.val).stop 2 ∧ (t.axis n.val).goal = none ∧
      (t.axis n.val).due = none ∧ (t.axis n.val).v = (s.axis n.val).v ∧
      (s.aborting 4 n.val = false → t.aborts = s.aborts ++ [(4, n.val, s.now)] ∧
        (s.gateOpen = s.flag MntStat.gate 0 → Recorded s t .abort n.val [a8 4]))) ∧
  (∀ (n : Fin 8) (v : Word) (s : State), s.shaped → s.flag AxStat.owned n.val = false → AxCmd.home.of v = 1 → AxCmd.stop.of v = 0 →
    AxCmd.abort.of v = 0 → AxCmd.clr.of v = 0 → ∃ t, exec (.axCmdHome n v) s = .next t ∧
      (s.get AxHome.seq n.val = 6 → t.axPos n.val = s.homeOfs n.val ∧ t.flag AxStat.homed n.val = true ∧ t.mot = s.mot) ∧
      (1 ≤ s.get AxHome.seq n.val → s.get AxHome.seq n.val ≤ 5 → s.get AxCfg.en n.val = 1 → s.flag AxStat.drvFault n.val = false →
        s.flag AxStat.safeStop n.val = false → (t.axis n.val).homing = some (s.get AxHome.seq n.val, 1, 0) ∧
        (t.axis n.val).goal = none ∧ (t.axis n.val).due = none ∧ t.axPos n.val = s.axPos n.val)) ∧
  (∀ (n : Fin 8) (v : Word) (sn : List Bool) (fl : Bool) (s : State), s.shaped → s.flag AxStat.owned n.val = false →
    AxCmd.stop.of v = 0 → AxCmd.abort.of v = 0 → AxCmd.home.of v = 0 → AxCmd.clr.of v = 1 → (∀ k, k < 4 → sn.getD k true = true) →
    ∃ t, exec (.axCmdClr n v sn fl) s = .next t ∧ t.pins.axFltN.getD n.val (!fl) = fl ∧ t.flag AxStat.safeStop n.val = false ∧
      t.flag AxStat.drvFault n.val = (s.flag AxStat.drvFault n.val && !fl) ∧
      (fl = true → (s.flag AxStat.safeStop n.val = true ∨ s.flag AxStat.drvFault n.val = true) → s.flag AxCfg.en n.val = true →
        (t.axis n.val).stepFrom = s.ft + 500000 ∧ (s.mayAssert = true → t.pins.axEnN.getD n.val true = false))) ∧
  (∀ (k : Fin 4) (s : State), s.shaped → ∃ t, exec (.safeInputAssert k) s = .next t ∧ t.pins.safeInN.getD k.val true = false ∧
    t = { s with regs := t.regs, mot := t.mot, pins := t.pins, ev := t.ev, aborts := t.aborts } ∧
    (∀ n, n < 8 → ((∃ j, j < 4 ∧ s.get AxCfg.safeMask n / 2 ^ j % 2 = 1 ∧ (j = k.val ∨ s.pins.safeInN.getD j true = false)) →
        t.flag AxStat.safeStop n = true ∧ (s.flag AxStat.safeStop n = false → (s.axis n).v ≠ 0 → (t.axis n).stop = max (s.axis n).stop 2 ∧
          (t.axis n).safety = true ∧ (t.axis n).goal = none ∧ (t.axis n).due = none ∧ (t.axis n).homing = none)) ∧
      ((∀ j, j < 4 → s.get AxCfg.safeMask n / 2 ^ j % 2 = 1 → j ≠ k.val ∧ s.pins.safeInN.getD j true = true) →
        t.axis n = s.axis n ∧ t.flag AxStat.safeStop n = s.flag AxStat.safeStop n))) ∧
  (∀ (n : Fin 8) (s : State), s.shaped → ∃ t, exec (.driverFault n) s = .next t ∧ t.pins.axFltN.getD n.val true = false ∧
    t.flag AxStat.drvFault n.val = true ∧ t.flag AxStat.homed n.val = false ∧ (t.axis n.val).v = 0 ∧ (t.axis n.val).goal = none ∧
    t.axPos n.val = s.axPos n.val ∧ t.pins.axEnN.getD n.val false = true ∧ t.pins.axStep.getD n.val true = false ∧
    t.pins.axIref.getD n.val 1 = 0 ∧ (s.get AxCfg.en n.val = 1 → t.get AxStat.state n.val = 5)) ∧
  (∀ (n : Fin 8) (b : Bool) (s : State), s.shaped → ∃ t, exec (.axLimit n b) s = .next t ∧
    (if b then t.pins.limP.getD n.val true = false else t.pins.limN.getD n.val true = false) ∧
    (s.flag AxCfg.limEn n.val = true → t.flag AxStat.limSeen n.val = true) ∧
    ((s.axis n.val).homing = none → s.flag AxCfg.limEn n.val = false → t.mot = s.mot ∧ t.regs = s.regs ∧ t.ev = s.ev) ∧
    ((s.axis n.val).homing = none → s.flag AxCfg.limEn n.val = true → (if b then (s.axis n.val).v ≤ 0 else 0 ≤ (s.axis n.val).v) →
      t.mot = s.mot ∧ Recorded s t .axLimit n.val []) ∧
    ((s.axis n.val).homing = none → s.flag AxCfg.limEn n.val = true → (if b then 0 < (s.axis n.val).v else (s.axis n.val).v < 0) →
      t.flag AxStat.hardLimit n.val = true ∧ t.flag AxStat.homed n.val = false ∧ (t.axis n.val).v = 0 ∧ (t.axis n.val).goal = none ∧
      t.axPos n.val = s.axPos n.val) ∧
    (∀ q k, (s.axis n.val).homing = some (q, 1, k) → (s.axis n.val).latch = none → (s.axis n.val).v ≠ 0 → q = (if b then 4 else 3) →
      (t.axis n.val).latch = some (s.axPos n.val) ∧ (t.axis n.val).stop = max (s.axis n.val).stop 2) ∧
    (∀ q p k, (s.axis n.val).homing = some (q, p, k) → q ≠ (if b then 4 else 3) → s.flag AxCfg.limEn n.val = true →
      (if b then 0 < (s.axis n.val).v else (s.axis n.val).v < 0) → t.flag AxStat.homeErr n.val = true ∧
      (t.axis n.val).homing = none ∧ (t.axis n.val).stop = max (s.axis n.val).stop 1)) ∧
  (∀ (n : Fin 8) (b : Bool) (s : State), s.shaped → ∃ t, exec (.limitRelease n b) s = .next t ∧
    (if b then t.pins.limP.getD n.val false = true else t.pins.limN.getD n.val false = true) ∧
    ((if b then s.pins.limN.getD n.val true = true else s.pins.limP.getD n.val true = true) → t.flag AxStat.hardLimit n.val = false) ∧
    (∀ q k, (s.axis n.val).homing = some (q, 2, k) → q = (if b then 4 else 3) → t.flag AxStat.homed n.val = true ∧
      t.axPos n.val = s.homeOfs n.val ∧ signed 48 (t.get64 AxHlatLo.v AxHlatHi.v n.val) = s.axPos n.val)) ∧
  (∀ (n : Fin 8) (b : Bool) (s : State), s.shaped → ∃ t, exec (.homeEdge n b) s = .next t ∧
    t.pins.home.getD n.val (b == s.flag AxCfg.homePol n.val) = (b != s.flag AxCfg.homePol n.val) ∧
    ((s.axis n.val).homing = none → t.mot = s.mot) ∧
    (∀ q k, (s.axis n.val).homing = some (q, 1, k) → (q = 1 ∨ q = 2) → b = true → (s.axis n.val).latch = none → (s.axis n.val).v ≠ 0 →
      (t.axis n.val).latch = some (s.axPos n.val) ∧ (t.axis n.val).stop = max (s.axis n.val).stop 1) ∧
    (∀ q k, (s.axis n.val).homing = some (q, 2, k) → (q = 1 ∨ q = 2) → b = false → t.flag AxStat.homed n.val = true ∧
      t.axPos n.val = s.homeOfs n.val ∧ signed 48 (t.get64 AxHlatLo.v AxHlatHi.v n.val) = s.axPos n.val) ∧
    (∀ k, (s.axis n.val).homing = some (5, 1, k) → b = true → (s.axis n.val).latch = none →
      (t.axis n.val).homing = some (5, 3, k) ∧ (t.axis n.val).stop = (s.axis n.val).stop))

/-- Maintenance activities start, run their steps, stop and abort; PRINT and its gate; host releases. Choices and readings of the model that it rests on: log 4. -/
def Obligations.MaintenanceActivities : Prop :=
  (∀ (v : Word) (s : State) (c : Instr), c ∈ [Instr.mntStart v, .mntStop v, .mntAbort v] → s.calState = calIdle →
    ∃ t, exec c s = .next t ∧ FieldsKept motionField s t ∧
      t = { s with regs := t.regs, ev := t.ev, mot := t.mot, light := t.light, aborts := t.aborts, pins := t.pins }) ∧
  (∀ (v : Word) (s : State) (c : Instr), c ∈ [Instr.mntStart v, .mntStop v, .mntAbort v] →
    (16 < MntCmd.act.of v ∨ MntCmd.op.of v = 3 ∨ (MntCmd.op.of v = 0 ∧ MntCmd.act.of v ∈ s.runningActs) ∨
      (MntCmd.op.of v = 1 ∧ MntCmd.act.of v ≠ 0 ∧ s.act (MntCmd.act.of v) = none) ∨
      (MntCmd.op.of v = 2 ∧ MntCmd.act.of v ≠ 0 ∧ s.act (MntCmd.act.of v) = none) ∨
      (MntCmd.op.of v = 2 ∧ MntCmd.act.of v = 0 ∧ s.mot.print = false)) → exec c s = .next s) ∧
  (∀ (v : Word) (s : State), MntCmd.op.of v = 0 → MntCmd.act.of v ≤ 16 → MntCmd.act.of v ∉ s.runningActs →
    ∃ t, exec (.mntStart v) s = .next t ∧
      (MntCmd.act.of v = 0 → s.get RstStatus.state 0 = 2 → t.get MntStat.refusedAct 0 = 0 ∧ t.mot = s.mot) ∧
      (MntCmd.act.of v ≠ 0 → s.get MntAct.valid (MntCmd.act.of v - 1) = 0 → t.flag MntStat.err 0 = true ∧
        t.get MntStat.refusedAct 0 = MntCmd.act.of v ∧ t.mot = s.mot ∧ t.light = s.light) ∧
      (∀ b, (MntCmd.act.of v = 0 → s.get RstStatus.state 0 ≠ 2) →
        (MntCmd.act.of v ≠ 0 → s.get MntAct.valid (MntCmd.act.of v - 1) = 1) →
        s.runningActs.find? (fun b => s.excludes (MntCmd.act.of v) b) = some b → t.flag MntStat.conflict 0 = true ∧
        t.get MntStat.refusedAct 0 = MntCmd.act.of v ∧ Recorded s t .mntConflict 0 [a8 (MntCmd.act.of v), a8 b] ∧
        t.mot = s.mot ∧ t.light = s.light) ∧
      (MntCmd.act.of v = 0 → s.get RstStatus.state 0 ≠ 2 → (∀ b ∈ s.runningActs, s.excludes 0 b = false) →
        t.mot.print = true ∧ t.get MntStat.running 0 = s.get MntStat.running 0 + 1 ∧ t.flag MntStat.gate 0 = t.gateOpen) ∧
      (MntCmd.act.of v ≠ 0 → s.get MntAct.valid (MntCmd.act.of v - 1) = 1 →
        (∀ b ∈ s.runningActs, s.excludes (MntCmd.act.of v) b = false) → s.badStrings (MntCmd.act.of v) = true →
        t.flag MntStat.err 0 = true ∧ t.get MntStat.refusedAct 0 = MntCmd.act.of v ∧ t.mot = s.mot ∧ t.light = s.light) ∧
      (s.shaped → s.calState = calIdle → MntCmd.act.of v ≠ 0 → s.get MntAct.valid (MntCmd.act.of v - 1) = 1 →
        (∀ b ∈ s.runningActs, s.excludes (MntCmd.act.of v) b = false) → s.badStrings (MntCmd.act.of v) = false →
        s.act (MntCmd.act.of v) = none →
        t.get MntStat.running 0 = s.get MntStat.running 0 + 2 ^ MntCmd.act.of v ∧
        (∀ n, n < 8 → s.get MntAct.axes (MntCmd.act.of v - 1) / 2 ^ n % 2 = 1 →
          t.flag AxStat.owned n = true ∧ t.get AxStat.owner n = MntCmd.act.of v) ∧
        (∀ n, n < 16 → s.get MntActLamp.v (MntCmd.act.of v - 1) / 2 ^ n % 2 = 1 → (t.lamp n).activity = some (MntCmd.act.of v)) ∧
        ∃ x, t.act (MntCmd.act.of v) = some x ∧ x.step = s.get MntAct.start (MntCmd.act.of v - 1) ∧ x.begun = false ∧
          x.aborting = none)) ∧
  (∀ (v : Word) (s : State), MntCmd.op.of v = 1 → MntCmd.act.of v = 0 → ∃ t, exec (.mntStop v) s = .next t ∧ t.mot.print = false ∧
    t.get MntStat.running 0 % 2 = 0 ∧ t.flag MntStat.gate 0 = false) ∧
  (∀ (v : Word) (x : Activity) (s : State), MntCmd.op.of v = 1 → 1 ≤ MntCmd.act.of v → MntCmd.act.of v ≤ 16 →
    s.act (MntCmd.act.of v) = some x → (x.aborting.isSome = true → exec (.mntStop v) s = .next s) ∧
    (x.aborting = none → ∃ t, exec (.mntStop v) s = .next t ∧
      (x.begun = true → t.act (MntCmd.act.of v) = some { x with stopping := true } ∧ t.regs = s.regs) ∧
      (s.shaped → x.begun = false → t.act (MntCmd.act.of v) = none ∧ t.get MntStat.running 0 / 2 ^ MntCmd.act.of v % 2 = 0 ∧
        ∀ n, n < 8 → s.flag AxStat.owned n = true → s.get AxStat.owner n = MntCmd.act.of v → t.flag AxStat.owned n = false ∧
          (t.axis n).held = none ∧ (t.axis n).due = (s.axis n).held.orElse (fun _ => (s.axis n).due)))) ∧
  (∀ (v : Word) (x : Activity) (s : State), MntCmd.op.of v = 2 → 1 ≤ MntCmd.act.of v → MntCmd.act.of v ≤ 16 →
    s.act (MntCmd.act.of v) = some x → x.aborting = none → ∃ t y, exec (.mntAbort v) s = .next t ∧ t.act (MntCmd.act.of v) = some y ∧
      y.step = s.get MntAct.abortStart (MntCmd.act.of v - 1) ∧ y.aborting = some s.ft ∧ y.begun = false ∧
      (s.aborting 5 (MntCmd.act.of v) = false → (5, MntCmd.act.of v, s.now) ∈ t.aborts)) ∧
  (∀ (a : Fin 16) (s : State), ∃ t, exec (.activityStep a) s = .next t ∧ t.dram = s.dram ∧ t.pages = s.pages ∧ t.met = s.met) ∧
  (∀ (a : Fin 16) (s : State), ((s.operating = false ∨ s.spUp 3 = false ∨ s.act (a.val + 1) = none) →
    exec (.activityStep a) s = .next s)) ∧
  (∀ (a : Fin 16) (x : Activity) (s : State), s.shaped → s.operating = true → s.spUp 3 = true → s.act (a.val + 1) = some x →
    x.num = a.val + 1 → x.begun = false → x.aborting = none → s.get MntCtrl.mode 0 = 0 → x.step < 64 →
    ∃ t, exec (.activityStep a) s = .next t ∧
      (s.stepWord (a.val + 1) x.step 0 % 16 = 0 → t.act (a.val + 1) = none ∧
        ∀ n, n < 8 → s.flag AxStat.owned n = true → s.get AxStat.owner n = a.val + 1 → t.flag AxStat.owned n = false) ∧
      (s.stepWord (a.val + 1) x.step 0 % 16 = 1 →
        (t.axis (s.stepWord (a.val + 1) x.step 0 / 2 ^ 4 % 8)).due = some (signed 32 (s.stepWord (a.val + 1) x.step 1))) ∧
      (∀ k, s.stepWord (a.val + 1) x.step 0 % 16 = 3 → k = s.stepWord (a.val + 1) x.step 0 / 2 ^ 4 % 16 → (s.lamp k).engine = none →
        (s.lamp k).activity = some (a.val + 1) → t.get LmpLevel.t0 k = s.stepWord (a.val + 1) x.step 1 % 4096 ∧
        t.get LmpSeg.mask k = s.stepWord (a.val + 1) x.step 1 / 2 ^ 16) ∧
      (∀ n, s.stepWord (a.val + 1) x.step 0 % 16 = 6 → n = s.stepWord (a.val + 1) x.step 0 / 2 ^ 4 % 8 →
        1 ≤ s.get AxHome.seq n → s.get AxHome.seq n ≤ 5 → s.get AxCfg.en n = 1 → s.flag AxStat.drvFault n = false →
        s.flag AxStat.safeStop n = false → (t.axis n).homing = some (s.get AxHome.seq n, 1, 0)) ∧
      (8 ≤ s.stepWord (a.val + 1) x.step 0 % 16 → ∃ y, t.act (a.val + 1) = some y ∧ y.aborting = some s.ft ∧
        y.step = s.get MntAct.abortStart a.val) ∧
      (s.stepWord (a.val + 1) x.step 0 % 16 ∈ [2, 5, 7] → t.act (a.val + 1) = some { x with
        begun := true, since := s.ft, replies := [], failed := false })) ∧
  (∀ (a : Fin 16) (x : Activity) (s : State), s.operating = true → s.spUp 3 = true → s.act (a.val + 1) = some x →
    x.num = a.val + 1 → x.begun = true →
    (s.stepFailed x = false → s.stepDone x = false → exec (.activityStep a) s = .next s) ∧
    (s.stepFailed x = false → s.stepDone x = true → x.stopping = true → ∃ t, exec (.activityStep a) s = .next t ∧
      t.act (a.val + 1) = none) ∧
    (s.stepFailed x = true → x.aborting = none → ∃ t y, exec (.activityStep a) s = .next t ∧ t.act (a.val + 1) = some y ∧
      y.aborting = some s.ft ∧ y.step = s.get MntAct.abortStart a.val ∧
      (s.ownedBy (a.val + 1) = [] → Recorded s t .mntStepFail (a.val + 1) [a8 x.step]))) ∧
  (∀ (x : Activity) (s : State), s.stepWord x.num x.step 0 % 16 = 7 →
    (s.stepWord x.num x.step 0 / 2 ^ 12 % 2 ^ 16 = 0 → (s.stepOn x).step = s.stepWord x.num x.step 0 / 2 ^ 4 % 64) ∧
    (0 < s.stepWord x.num x.step 0 / 2 ^ 12 % 2 ^ 16 → Tab.find x.loops x.step = none →
      (s.stepOn x).step = s.stepWord x.num x.step 0 / 2 ^ 4 % 64)) ∧
  (∀ (a : Fin 16) (s : State), ((s.act (a.val + 1) = none ∨ ∃ x, s.act (a.val + 1) = some x ∧ x.aborting = none) →
      exec (.mntAbortTimeout a) s = .next s) ∧
    (∀ x, s.act (a.val + 1) = some x → x.aborting.isSome = true → ∃ t, exec (.mntAbortTimeout a) s = .next t ∧
      t.act (a.val + 1) = none ∧ t.get MntStat.running 0 / 2 ^ (a.val + 1) % 2 = 0 ∧ FieldsKept motionField s t ∧
      t = { s with regs := t.regs, ev := t.ev, mot := t.mot, light := t.light, aborts := t.aborts, pins := t.pins } ∧
      (∀ n, s.shaped → n < 8 → s.flag AxStat.owned n = true → s.get AxStat.owner n = a.val + 1 → t.flag AxStat.owned n = false ∧
        ((s.axis n).v ≠ 0 → (t.axis n).stop = max (s.axis n).stop 2)) ∧
      (s.ownedBy (a.val + 1) = [] → s.aborting 5 (a.val + 1) = false → Recorded s t .mntAbortTimeout (a.val + 1) []))) ∧
  (∀ s : State, ((s.acting = false ∨ s.get MntCtrl.mode 0 = 0 ∨
      (∀ x ∈ s.mot.acts, x.posted.isSome = true → x.released = true ∨ x.aborting.isSome = true)) → exec .mntHostTimeout s = .next s) ∧
    (∀ x ∈ s.mot.acts, s.acting = true → s.get MntCtrl.mode 0 = 1 → x.posted.isSome = true → x.released = false → x.aborting = none →
      ∃ t, exec .mntHostTimeout s = .next t ∧ t.get MntCntMiss.count 0 = satAdd MntCntMiss.count.width (s.get MntCntMiss.count 0) 1 ∧
        t = { s with regs := t.regs, ev := t.ev } ∧ FieldsKept (only [MntCntMiss.count, MntCntMiss.ovf]) s t)) ∧
  (∀ (v : Word) (s : State), ((s.acting = false ∨ s.get MntCtrl.mode 0 = 0 ∨
      s.mot.acts.find? (fun x => x.posted == some (MntHgo.seq.of v) && !x.released && x.aborting.isNone) = none) →
      exec (.mntHgo v) s = .next s) ∧
    (∀ x, s.acting = true → s.get MntCtrl.mode 0 = 1 →
      s.mot.acts.find? (fun x => x.posted == some (MntHgo.seq.of v) && !x.released && x.aborting.isNone) = some x →
      s.act x.num = some x → ∃ t, exec (.mntHgo v) s = .next t ∧ t.mot.releaseAt = s.now ∧ t.dram = s.dram ∧ t.pages = s.pages ∧
      (x.step < 64 → s.stepWord x.num x.step 0 % 16 ∈ [2, 5, 7] → t.act x.num = some { x with
        released := true, begun := true, since := s.ft, replies := [], failed := false }))) ∧
  (∀ s : State, ∃ t, exec .printGateChange s = .next t ∧ t.flag MntStat.gate 0 = (s.mot.print && s.flag AxStat.homed 0 &&
      decide (s.getInt MntPwinMin.v 0 ≤ s.axPos 0) && decide (s.axPos 0 ≤ s.getInt MntPwinMax.v 0)) ∧
    (s.flag MntStat.gate 0 = true → s.gateOpen = false → Recorded s t .mntGate 0 []) ∧
    (s.flag MntStat.gate 0 = s.gateOpen → t = s) ∧ (s.flag MntStat.gate 0 = false → t.ev = s.ev) ∧
    t = { s with regs := t.regs, ev := t.ev } ∧ FieldsKept (only [MntStat.gate]) s t)

/-- DRAM controller: drains, refresh, corrections, sparing, uncorrectable bursts, scrub, row counts, self-refresh and retrain. Choices and readings of the model that it rests on: log 47, 48, 49, 78. -/
def Obligations.MemoryControllerInService : Prop :=
  (∀ (k : Fin 8) (u : Nat) (s : State), ((s.mc.writes.getD k.val []).length < 48 →
      (∀ e ∈ s.mc.writes.getD k.val [], s.now - e.2 ≤ 500 * s.orReset McCtrl.wage) → exec (.writeDrain k u) s = .next s) ∧
    (s.shaped → (48 ≤ (s.mc.writes.getD k.val []).length ∨
        ∃ e ∈ s.mc.writes.getD k.val [], 500 * s.orReset McCtrl.wage < s.now - e.2) → ∃ t, exec (.writeDrain k u) s = .next t ∧
      (t.mc.writes.getD k.val []).length ≤ 16 ∧ (∀ e ∈ t.mc.writes.getD k.val [], s.now - e.2 ≤ 500 * s.orReset McCtrl.wage) ∧
      (∀ e ∈ (s.mc.writes.getD k.val []).drop ((s.mc.writes.getD k.val []).length - 16), s.now - e.2 ≤ 500 * s.orReset McCtrl.wage →
        e ∈ t.mc.writes.getD k.val []) ∧ (∀ j, j ≠ k.val → t.mc.writes.getD j [] = s.mc.writes.getD j []) ∧
      t.get McCntFfurg.count 0 = satAdd McCntFfurg.count.width (s.get McCntFfurg.count 0) u ∧
      t = { s with regs := t.regs, ev := t.ev, mc := t.mc } ∧ FieldsKept (only [McCntFfurg.count, McCntFfurg.ovf]) s t)) ∧
  (∀ (k : Fin 8) (u hot : Bool) (s : State), s.shaped → ∃ t, exec (.refresh k u hot) s = .next t ∧
    t.flag McStat.hot 0 = hot ∧
    t.mc.postponed.getD k.val 9 = (if u = true ∧ s.mc.postponed.getD k.val 0 < 4 then s.mc.postponed.getD k.val 0 + 1 else 0) ∧
    (∀ j, j ≠ k.val → t.mc.postponed.getD j 0 = s.mc.postponed.getD j 0) ∧ t.mc.writes = s.mc.writes ∧ t.mc.banks = s.mc.banks ∧
    t = { s with regs := t.regs, mc := t.mc } ∧ FieldsKept (only [McStat.hot]) s t) ∧
  (∀ (h : CeHit) (s : State), ∃ t, exec (.mcCe h) s = .next t ∧
    t.get McCntCe.count 0 = satAdd McCntCe.count.width (s.get McCntCe.count 0) 1 ∧
    (s.shaped → ∃ e ∈ t.mc.writes.getD (h.addr / 64 % 8) [], e.1 = h.addr / 64) ∧
    ((∃ e ∈ s.mc.writes.getD (h.addr / 64 % 8) [], e.1 = h.addr / 64) → t.mc.writes = s.mc.writes) ∧
    (h.dev = none → t.mc.pass = s.mc.pass) ∧
    (∀ d, h.dev = some d →
      t.get McCe.count (10 * h.sub.val + 5 * h.rank.val + d.val) =
        satAdd McCe.count.width (s.get McCe.count (10 * h.sub.val + 5 * h.rank.val + d.val)) 1 ∧
      Tab.get 0 t.mc.pass (10 * h.sub.val + 5 * h.rank.val + d.val) =
        Tab.get 0 s.mc.pass (10 * h.sub.val + 5 * h.rank.val + d.val) + 1 ∧
      (max 1 (s.get McSpareCfg.thresh 0) ≤ Tab.get 0 s.mc.pass (10 * h.sub.val + 5 * h.rank.val + d.val) + 1 →
        s.erased h.sub.val h.rank.val = false → t.erased h.sub.val h.rank.val = true ∧ t.flag McStat.degraded 0 = true ∧
        t.get (if h.rank.val = 0 then McSpare.dev0 else McSpare.dev1) h.sub.val = d.val) ∧
      ((Tab.get 0 s.mc.pass (10 * h.sub.val + 5 * h.rank.val + d.val) + 1 < max 1 (s.get McSpareCfg.thresh 0) ∨
          s.erased h.sub.val h.rank.val = true) → t.erased h.sub.val h.rank.val = s.erased h.sub.val h.rank.val ∧
        t.flag McStat.degraded 0 = s.flag McStat.degraded 0)) ∧
    t.mc.ceAt = (if s.mc.ceAt.all (fun a => 500000 ≤ s.now - a) then some s.now else s.mc.ceAt) ∧
    t = { s with regs := t.regs, ev := t.ev, mc := t.mc } ∧
    FieldsKept (only [McCntCe.count, McCntCe.ovf, McCe.count, McCe.ovf, McSpare.dev0, McSpare.dev1, McSpare.erased0, McSpare.erased1,
      McStat.degraded]) s t) ∧
  (∀ (k : Fin 8) (v : Word) (s : State), ((McSpare.mark.of v = 0 ∨ 4 < McSpare.dev.of v ∨ s.erased k.val (McSpare.rank.of v) = true) →
      exec (.mcSpareMark k v) s = .next (s.storeWord .mcSpare k.val v)) ∧
    (McSpare.mark.of v = 1 → McSpare.dev.of v ≤ 4 → s.erased k.val (McSpare.rank.of v) = false →
      ∃ t, exec (.mcSpareMark k v) s = .next t ∧ t.erased k.val (McSpare.rank.of v) = true ∧ t.flag McStat.degraded 0 = true ∧
        t.get (if McSpare.rank.of v = 0 then McSpare.dev0 else McSpare.dev1) k.val = McSpare.dev.of v ∧
        Recorded s t .mcSpare k.val [] ∧ t = { s with regs := t.regs, ev := t.ev })) ∧
  (∀ (h : UeHit) (s : State), ∃ t, exec (.mcUe h) s = .next t ∧ (h.region ∉ [0, 1, 2] ∨ (h.region = 1 ∧ s.page h.pseq = none) ∨
      (h.region = 2 ∧ s.bandLine h.line = none) → t = { s with regs := t.regs, ev := t.ev } ∧
      t.get McCntUe.count 0 = satAdd McCntUe.count.width (s.get McCntUe.count 0) 1 ∧
      t.get64 McUeAddrLo.v McUeAddrHi.v 0 = h.addr % 2 ^ 40 ∧ t.get McUeInfo.class_ 0 = h.cls % 8 ∧
      t.get McUeInfo.region 0 = h.region % 4 ∧ (s.get McCntUe.count 0 < 2 ^ 31 - 2 → Recorded s t .mcUe 0 [a64 h.addr, a8 h.cls, a8 h.region])) ∧
    (h.region = 0 → s.rst.stretch = false → s.twin.faultHold = none → s.role ≠ roleActive → s.operating = true →
      t.rst.stretch = true ∧ t.rst.sources = [14] ∧ t.rst.level = s.fuseLevel 14 ∧ t.pins.resetN = false) ∧
    (∀ p x, h.region = 1 → s.page h.pseq = some p → p.pseq = h.pseq → p.closed = false → p.stripe h.stripe = some x →
      ∃ q y, t.page h.pseq = some q ∧ q.stripe h.stripe = some y ∧ y.lost = true ∧ y.verified = false ∧
        q.admitted = (p.admitted && p.scheduled)) ∧
    (∀ b p, h.region = 2 → s.bandLine h.line = some b → s.page b.pseq = some p → ∃ q, t.bandLine h.line =
        some { b with codes := [], lost := true } ∧ t.page b.pseq = some q ∧ q.record = p.record.spoil b.pageLine 7)) ∧
  (∀ s : State, ((s.flag McCtrl.scrubEn 0 = false ∨ s.get McStat.state 0 ≠ 2) → exec .patrolScrub s = .next s) ∧
    (s.flag McCtrl.scrubEn 0 = true → s.get McStat.state 0 = 2 → ∃ t, exec .patrolScrub s = .next t ∧
      t = { s with regs := t.regs, mc := t.mc } ∧ FieldsKept (only [McScrubPosLo.v, McScrubPosHi.v, McScrubPass.v]) s t ∧
      (s.get64 McScrubPosLo.v McScrubPosHi.v 0 + 64 < s.managedBytes →
        t.get64 McScrubPosLo.v McScrubPosHi.v 0 = s.get64 McScrubPosLo.v McScrubPosHi.v 0 + 64 ∧ t.mc = s.mc) ∧
      (s.managedBytes ≤ s.get64 McScrubPosLo.v McScrubPosHi.v 0 + 64 → t.get64 McScrubPosLo.v McScrubPosHi.v 0 = 0 ∧
        t.mc.pass = [] ∧ t.get McScrubPass.v 0 = (s.get McScrubPass.v 0 + 1) % 2 ^ 32))) ∧
  (∀ (n : Fin 512) (row : Nat) (c : Fin 8) (rfm : Bool) (s : State), ∃ t, exec (.rowActivate n row c rfm) s = .next t ∧
    t = { s with regs := t.regs, ev := t.ev, mc := t.mc } ∧ (∀ j, j ≠ n.val → Tab.get Bank.reset t.mc.banks j = Tab.get Bank.reset s.mc.banks j) ∧
    FieldsKept (only [McCntDrfm.count, McCntDrfm.ovf, McCntOvf.count, McCntOvf.ovf, McCntThrot.count, McCntThrot.ovf]) s t ∧
    (Tab.get Bank.reset t.mc.banks n.val).raa = (if rfm then 0 else (Tab.get Bank.reset s.mc.banks n.val).raa + 1) ∧
    ((Tab.get Bank.reset s.mc.banks n.val).fallback = true → (Tab.get Bank.reset t.mc.banks n.val).fallback = true) ∧
    (c.val = 0 → t.get McCntThrot.count 0 = s.get McCntThrot.count 0) ∧
    (∀ k, (Tab.get Bank.reset s.mc.banks n.val).entries.findIdx? (fun e => e.1 == row && e.2 != 0) = some k → k < 16 →
      (((Tab.get Bank.reset s.mc.banks n.val).entries.getD k (0, 0)).2 + 1 < s.orReset McHammer.actThresh →
        (Tab.get Bank.reset t.mc.banks n.val).entries.getD k (0, 0) =
          (row, ((Tab.get Bank.reset s.mc.banks n.val).entries.getD k (0, 0)).2 + 1) ∧
        t.get McCntDrfm.count 0 = s.get McCntDrfm.count 0) ∧
      (s.orReset McHammer.actThresh ≤ ((Tab.get Bank.reset s.mc.banks n.val).entries.getD k (0, 0)).2 + 1 →
        (Tab.get Bank.reset t.mc.banks n.val).entries.getD k (1, 1) = (0, 0) ∧
        t.get McCntDrfm.count 0 = satAdd McCntDrfm.count.width (s.get McCntDrfm.count 0) 1))) ∧
  (∀ s : State, ∃ t, exec .hammerWindowEnd s = .next t ∧ t = { s with mc := { s.mc with banks := t.mc.banks } } ∧
    (Tab.rising s.mc.banks = true → ∀ n, Tab.get Bank.reset t.mc.banks n =
      { Bank.reset with raa := (Tab.get Bank.reset s.mc.banks n).raa })) ∧
  (∀ s : State, (s.get RstStatus.state 0 = 2 → s.get McStat.state 0 = 2 → (∀ q ∈ s.mc.writes, q = []) →
      ∃ t, exec .selfRefreshEntry s = .next t ∧ t.get McStat.state 0 = 3 ∧ t = { s with regs := t.regs } ∧
        FieldsKept (only [McStat.state]) s t) ∧
    ((s.get RstStatus.state 0 ≠ 2 ∨ s.get McStat.state 0 ≠ 2 ∨ ∃ q ∈ s.mc.writes, q ≠ []) → exec .selfRefreshEntry s = .next s)) ∧
  (∀ s : State, (s.get McStat.state 0 ≠ 3 → exec .selfRefreshExit s = .next s) ∧
    (s.get McStat.state 0 = 3 → ∃ t, exec .selfRefreshExit s = .next t ∧ t.get McStat.state 0 = 2 ∧ t.mc.resumeDue = false ∧
      t = { s with regs := t.regs, mc := t.mc } ∧ FieldsKept (only [McStat.state]) s t)) ∧
  (∀ (r : Fin 2) (s : State), exec (.zqCalibration r) s = .next s) ∧
  (∀ (r : Fin 2) (d : Int) (s : State), (d.natAbs ≤ 1 → exec (.dqsOscCheck r d) s = .next s) ∧
    (1 < d.natAbs → ∃ t, exec (.dqsOscCheck r d) s = .next t ∧ (∀ k, k < 8 → Tab.get 0 t.mc.dqs (2 * k + r.val) = d) ∧
      (∀ k, k % 2 ≠ r.val → Tab.get 0 t.mc.dqs k = Tab.get 0 s.mc.dqs k) ∧ t = { s with mc := { s.mc with dqs := t.mc.dqs } })) ∧
  (∀ (v : Word) (s : State), (McCtrl.retrain.of v = 0 → exec (.mcRetrain v) s = .next (s.storeWord .mcCtrl 0 v)) ∧
    (McCtrl.retrain.of v = 1 → ∃ t, exec (.mcRetrain v) s = .next t ∧ t = { s with regs := t.regs } ∧
      (s.role = roleStandby → (s.get McStat.state 0 = 2 ∨ s.get McStat.state 0 = 3) → t.get McStat.state 0 = 4 ∧
        t.unfitBit unfitRetrain = true) ∧
      (s.role ≠ roleStandby → s.solo = true → s.get RstStatus.state 0 = 2 → (s.get McStat.state 0 = 2 ∨ s.get McStat.state 0 = 3) →
        t.get McStat.state 0 = 4) ∧
      (s.role ≠ roleStandby → (s.solo = false ∨ s.get RstStatus.state 0 ≠ 2) → t.flag McCtrl.retrainRef 0 = true ∧
        t.get McStat.state 0 = s.get McStat.state 0))) ∧
  (∀ s : State, (s.get McStat.state 0 ≠ 4 → exec .retrainDone s = .next s) ∧
    (s.get McStat.state 0 = 4 → ∃ t, exec .retrainDone s = .next t ∧ t.get McStat.state 0 = 2 ∧ t.unfitBit unfitRetrain = false ∧
      t.unfitBit unfitResync = (decide (s.role = roleStandby) || s.unfitBit unfitResync) ∧
      t = { s with regs := t.regs, twin := { s.twin with rejoin := t.twin.rejoin } }))

/-- Twin roles: what a frame in error does, negotiation, supervision by heartbeats, fault and planned takeovers. Choices and readings of the model that it rests on: log 50, 52, 53, 55. -/
def Obligations.TwinRolesAndTakeover : Prop :=
  (∀ (rx : Rx) (q n m : Nat) (h : Heartbeat) (j : JournalEntry) (c : Cairn) (g : GenMsg) (hm : HealthMsg) (b : Bool) (ls : List Nat)
      (lf : List (Nat × Nat × Nat × List (Nat × Nat))) (s : State) (typ : Nat) (i : Instr),
    (typ, i) ∈ [(1, Instr.heartbeat rx q h), (2, .fault rx q n m), (3, .handover rx q n ls), (3, .offer rx q n), (3, .resign rx q n),
      (4, .journal rx q j), (5, .cairn rx q c), (6, .cairnAck rx q n), (7, .gen rx q g), (8, .health rx q hm), (9, .summit rx q),
      (9, .summitResult rx q b), (13, .lineFill rx q lf b)] →
    (s.solo = true → exec i s = .next s) ∧
    (s.solo = false → (rx.error = true ∨ rx.crcOk = false) → ∃ t, exec i s = .next t ∧ t = { s with regs := t.regs, ev := t.ev } ∧
      t.get TwCntRxerr.count 0 = satAdd TwCntRxerr.count.width (s.get TwCntRxerr.count 0) 1 ∧
      FieldsKept (only [TwCntRxerr.count, TwCntRxerr.ovf]) s t) ∧
    (∀ k, s.solo = false → rx.error = false → rx.crcOk = true → Tab.find s.twin.rxSeq typ = some k → q ≠ (k + 1) % 2 ^ 32 →
      ∃ t, exec i s = .next t ∧ t = { s.heard typ q with regs := t.regs, ev := t.ev } ∧
      t.get TwCntRxerr.count 0 = satAdd TwCntRxerr.count.width (s.get TwCntRxerr.count 0) 1 ∧
      t.unfitBit unfitResync = (s.unfitBit unfitResync || typ == 4 || typ == 5) ∧
      FieldsKept (only [TwCntRxerr.count, TwCntRxerr.ovf, TwStat.unfit]) s t)) ∧
  (∀ s : State, (s.twin.step8 = none → exec .heartbeatSend s = .next s) ∧
    (s.twin.step8.isSome = true → s.solo = false → s.negotiating = false → exec .heartbeatSend s = .next
      { s with colTx := insertCol ⟨1, s.heartbeatArgs⟩ s.colTx }) ∧
    s.heartbeatArgs.take 2 = [s.role, s.get TwStat.epoch 0] ∧ (s.heartbeatArgs.drop 4).take 2 = [s.get TwStat.unfit 0, s.ft] ∧
    (∀ o, s.img.ob = some o → (s.heartbeatArgs.drop 2).take 2 = [o.twinPref, o.nodeId])) ∧
  (∀ (rx : Rx) (q : Nat) (h : Heartbeat) (s : State), ColTaken s 1 q rx → ∃ t, exec (.heartbeat rx q h) s = .next t ∧
    t.twin.partner = some [h.role, h.epoch, h.pref, h.nodeId, h.unfit, h.ft, h.cc, h.line] ∧ t.twin.misses = 0 ∧
    t.twin.heardAt = s.now ∧ t.flag TwStat.partnerOk 0 = true ∧ t.get TwPstat.role 0 = h.role % 8 ∧
    t.get TwPstat.nodeId 0 = h.nodeId % 2 ^ 14 ∧ t.get TwPstat.unfit 0 = h.unfit % 2 ^ 11 ∧ t.dram = s.dram ∧ t.pages = s.pages ∧
    (s.role = roleActive → t.role = roleActive ∧ (h.role = roleStandby → h.cc ≠ 0 → t.pins.fenceN = true ∧ t.flag TwStat.fenceOut 0 = false)) ∧
    (s.role ≠ roleNone → t.role = s.role) ∧
    (s.role = roleNone → s.twin.step8.isSome = true →
      (h.role = roleActive → t.role = roleStandby ∧ t.unfitBit unfitResync = true) ∧
      (h.role ≠ roleActive → startMask (s.get TwStat.unfit 0) = 0 → startMask h.unfit ≠ 0 → t.role = roleActive ∧ t.pins.fenceN = false) ∧
      (h.role ≠ roleActive → startMask (s.get TwStat.unfit 0) ≠ 0 → startMask h.unfit = 0 → t.role = roleNone) ∧
      (h.role ≠ roleActive → startMask (s.get TwStat.unfit 0) ≠ 0 → startMask h.unfit ≠ 0 → t.role = roleNone ∧
        (s.twin.noneFit = false → Recorded s t .twNoneFit 0 [])) ∧
      (∀ o, h.role ≠ roleActive → startMask (s.get TwStat.unfit 0) = 0 → startMask h.unfit = 0 → s.img.ob = some o →
        (o.twinPref = h.pref → o.nodeId < h.nodeId → t.role = roleActive ∧ t.pins.fenceN = false) ∧
        (o.twinPref = h.pref → h.nodeId < o.nodeId → t.role = roleNone) ∧
        (o.twinPref = 1 → h.pref ≠ 1 → t.role = roleActive) ∧ (o.twinPref = 2 → h.pref < 2 → t.role = roleNone) ∧
        (o.twinPref = h.pref → o.nodeId = h.nodeId → t.role = roleNone ∧ (s.twin.clash = false → Recorded s t .twIdClash 0 []))))) ∧
  (∀ (low : Bool) (s : State), ((s.role ≠ roleNone ∨ s.twin.step8 = none ∨ s.solo = true) → exec (.partnerWaitExpiry low) s = .next s) ∧
    (s.role = roleNone → s.twin.step8.isSome = true → s.solo = false → s.negotiating = false → s.rst.psKept = false →
      (tolerable (s.get TwStat.unfit 0) = false → exec (.partnerWaitExpiry low) s = .next s) ∧
      (tolerable (s.get TwStat.unfit 0) = true → (low = true ∨ s.pins.fenceInN = false) → exec (.partnerWaitExpiry low) s = .next
        { s with twin := { s.twin with retryAt := some s.now } }) ∧
      (tolerable (s.get TwStat.unfit 0) = true → low = false → s.pins.fenceInN = true → ∃ t, exec (.partnerWaitExpiry low) s = .next t ∧
        t.role = roleActive ∧ t.pins.fenceN = false ∧ t.flag TwStat.fenceOut 0 = true ∧ t.twin.roleLowAt = some (s.now + 1000))) ∧
    (s.negotiating = true → (s.twin.partner.getD []).getD 0 0 ≠ roleActive → startMask (s.get TwStat.unfit 0) ≠ 0 →
      startMask ((s.twin.partner.getD []).getD 4 0) ≠ 0 → ∃ t, exec (.partnerWaitExpiry low) s = .next t ∧
      (tolerable (s.get TwStat.unfit 0) = false → t = s) ∧
      (tolerable (s.get TwStat.unfit 0) = true → tolerable ((s.twin.partner.getD []).getD 4 0) = false → t.role = roleActive))) ∧
  (∀ s : State, ((s.twin.partner = none ∨ s.solo = true) → exec .heartbeatMiss s = .next s) ∧
    (s.twin.partner.isSome = true → s.solo = false → ∃ t, exec .heartbeatMiss s = .next t ∧
      t.get TwCntHbmiss.count 0 = satAdd TwCntHbmiss.count.width (s.get TwCntHbmiss.count 0) 1 ∧
      (s.twin.misses + 1 < s.missN → t = { s with regs := t.regs, ev := t.ev, twin := { s.twin with misses := s.twin.misses + 1 } } ∧
        FieldsKept (only [TwCntHbmiss.count, TwCntHbmiss.ovf]) s t) ∧
      (s.missN ≤ s.twin.misses + 1 → t.flag TwStat.partnerOk 0 = false ∧
        (s.role = roleStandby → s.flag TwCtrl.auto 0 = true → s.pins.fenceInN = true → TookOver s t 1) ∧
        (s.role = roleStandby → (s.flag TwCtrl.auto 0 = false ∨ s.pins.fenceInN = false) → t.role = roleStandby ∧ t.pins = s.pins) ∧
        (s.role = roleActive → t.role = roleActive ∧ t.pins = s.pins ∧ t.twin.partnerLost = true ∧
          (s.twin.partnerLost = false → s.get TwCntHbmiss.count 0 < 2 ^ 31 - 2 → Recorded s t .twPartnerLost 0 []))))) ∧
  (∀ s : State, ((s.role ≠ roleActive ∨ s.twin.partnerLost = false ∨ s.pins.fenceInN = false) → exec .soloWaitExpiry s = .next s) ∧
    (s.role = roleActive → s.twin.partnerLost = true → s.pins.fenceInN = true → ∃ t, exec .soloWaitExpiry s = .next t ∧
      t.pins.fenceN = false ∧ t.flag TwStat.fenceOut 0 = true ∧ t.twin.alone = true ∧ t.role = roleActive)) ∧
  (∀ (rx : Rx) (q l src : Nat) (s : State), ColTaken s 2 q rx →
    (s.role = roleStandby → s.pins.fenceInN = true → s.get TwStat.unfit 0 = 0 → ∃ t, exec (.fault rx q l src) s = .next t ∧ TookOver s t 2) ∧
    ((s.role ≠ roleStandby ∨ s.pins.fenceInN = false ∨ s.get TwStat.unfit 0 ≠ 0) → exec (.fault rx q l src) s = .next (s.heard 2 q))) ∧
  (∀ s : State, (s.twin.faultHold = none → exec .faultHoldExpiry s = .next s) ∧
    (∀ q l ts, s.twin.faultHold = some (q, l, ts) → s.rst.stretch = false → ∃ t, exec .faultHoldExpiry s = .next t ∧
      t.rst.stretch = true ∧ t.rst.level = l ∧ q ∈ t.rst.sources ∧ t.rst.targets = ts ∧ t.twin.faultHold = none ∧ t.pins.resetN = false)) ∧
  (∀ (v : Word) (s : State), ((keyOk v = false ∨ TwCmd.plan.of v = 0 ∨ s.role ≠ roleActive ∨ s.partnerFit = false ∨
      s.twin.plan.isSome = true ∨ s.twin.handed.isSome = true) → exec (.twCmdPlan v) s = .next s) ∧
    (keyOk v = true → TwCmd.plan.of v = 1 → s.role = roleActive → s.partnerFit = true → s.twin.plan = none → s.twin.handed = none →
      exec (.twCmdPlan v) s = .next { s with twin := { s.twin with plan := some (TwCmd.pageBound.of v == 1, s.now) } })) ∧
  (∀ s : State, ((s.twin.plan = none ∨ s.role ≠ roleActive ∨ (∃ k, s.twin.plan = some (true, k)) ∨
      (∃ k, s.twin.plan = some (false, k) ∧ s.axesWaited k = true)) → exec .planWaitEnd s = .next s) ∧
    (∀ k, s.twin.plan = some (false, k) → s.role = roleActive → s.solo = false →
      (s.flag TwCtrl.planAxwait 0 = false ∨ (∀ x ∈ s.mot.axes, x.v = 0) ∨ k + 50000000 ≤ s.now) → exec .planWaitEnd s = .next
      { s with
        twin := { s.twin with plan := none, handed := some s.now },
        colTx := insertCol ⟨3, [2, s.ft] ++ (List.range 128).map (fun p => (Tab.get 0 s.fpe.stamped p - 1) % 2 ^ 32)⟩ s.colTx })) ∧
  (∀ (rx : Rx) (q th : Nat) (ls : List Nat) (s : State), ColTaken s 3 q rx →
    (s.role = roleStandby → s.pins.fenceInN = true → s.get TwStat.unfit 0 = 0 → ∃ t, exec (.handover rx q th ls) s = .next t ∧
      TookOver s t 3 ∧ t.twin.pacing = none ∧ ∀ p, p < 128 → Tab.get 0 t.fpe.stamped p = ls.getD p 0 + 1) ∧
    ((s.role ≠ roleStandby ∨ s.pins.fenceInN = false ∨ s.get TwStat.unfit 0 ≠ 0) → s.role ≠ roleActive →
      exec (.handover rx q th ls) s = .next (s.heard 3 q))) ∧
  (∀ s : State, ((s.twin.handed = none ∨ s.role ≠ roleActive) → exec .twPlanFail s = .next s) ∧
    (s.twin.handed.isSome = true → s.role = roleActive → ∃ t, exec .twPlanFail s = .next t ∧ t.twin = { s.twin with handed := none } ∧
      Recorded s t .twPlanFail 0 [] ∧ t = { s with regs := t.regs, ev := t.ev, twin := t.twin } ∧ FieldsKept (only []) s t)) ∧
  (∀ (rx : Rx) (q r : Nat) (s : State) (i : Instr), i ∈ [Instr.offer rx q r, .resign rx q r] → ColTaken s 3 q rx →
    (s.negotiating = false → exec i s = .next (s.heard 3 q)) ∧
    (s.negotiating = true → (s.twin.partner.getD []).getD 0 0 = roleActive → ∃ t, exec i s = .next t ∧ t.role = roleStandby))

/-- Shadow operation: journal, cairns, generations, health reports, Summit tests and the lines sent to a twin that rejoins. Choices and readings of the model that it rests on: log 51, 54, 56, 57, 58, 59. -/
def Obligations.TwinShadowWork : Prop :=
  (∀ (rx : Rx) (q : Nat) (j : JournalEntry) (c : Cairn) (g : GenMsg) (b : Bool) (lf : List (Nat × Nat × Nat × List (Nat × Nat)))
      (s : State) (typ : Nat) (i : Instr), s.follows = false → ColTaken s typ q rx →
    (typ, i) ∈ [(4, Instr.journal rx q j), (5, .cairn rx q c), (7, .gen rx q g), (13, .lineFill rx q lf b)] →
    exec i s = .next (s.heard typ q)) ∧
  (∀ (rx : Rx) (q : Nat) (j : JournalEntry) (s : State), s.follows = true → ColTaken s 4 q rx → ∃ t, exec (.journal rx q j) s = .next t ∧
    t.twin.lastLine = some j.line ∧ t.met = s.met ∧
    (∀ x, j.scheds = [x] → s.page x.pseq = none → t.unfitBit unfitPages = true) ∧
    ((∀ e ∈ s.twin.earlyAcks, e.2.1 ≠ j.line) → (∃ p, p < 128 ∧ (j.ports.getD p (0, 0)).1 ≠ 0) →
      t.twin.journal = s.twin.journal ++ [(j.line, ((List.range 128).filter (fun p => (j.ports.getD p (0, 0)).1 != 0)).map
        (fun p => (p, (j.ports.getD p (0, 0)).2)))] ∧ t.get JnlBacklog.v 0 = min 65535 (s.twin.journal.length + 1))) ∧
  (∀ s : State, (s.role ≠ roleActive → exec .cairnTake s = .next s) ∧
    (s.role = roleActive → s.solo = false → ∃ t, exec .cairnTake s = .next t ∧ t.twin.taken = s.twin.taken + 1 ∧ t.twin.healthNew = [] ∧
      t = { s with colTx := insertCol ⟨5, s.cairnArgs⟩ s.colTx, twin := t.twin }) ∧ s.cairnArgs.head? = some (s.ft / 25000 % 2 ^ 32)) ∧
  (∀ (rx : Rx) (q : Nat) (c : Cairn) (s : State), s.follows = true → ColTaken s 5 q rx → exec (.cairn rx q c) s = .next
    { s.heard 5 q with twin := { (s.heard 5 q).twin with cairn := some c } }) ∧
  (∀ s : State, ((s.twin.cairn = none ∨ s.follows = false) → exec .cairnApply s = .next s) ∧
    (∀ c, s.twin.cairn = some c → s.follows = true → ∃ t, exec .cairnApply s = .next t ∧ t.twin.cairn = none ∧
      t.twin.applied = some c.cc ∧ t.twin.appliedAt = s.now ∧ t.twin.rejoin.cairn = true ∧ t.unfitBit unfitCairnStale = false ∧
      (s.solo = false → ∃ m ∈ t.colTx, m.typ = 6 ∧ m.args = [c.cc % 2 ^ 32]) ∧ t.get TwStat.epoch 0 = c.epoch % 256 ∧
      t.get NmGenCur.v 0 = c.nmGen % 2 ^ 32 ∧ t.get ScrGenCur.v 0 = c.ctbGen % 2 ^ 32 ∧ t.get FpeStat.mode 0 = c.fpeMode % 8 ∧
      t.fpe.xAt = s.ft ∧ t.mot.print = c.print ∧ t.met = s.met ∧
      ((c.slots.map (fun x => x.slot)).Nodup → ∀ x ∈ c.slots, x.slot < 176 → t.getInt LeOut.v x.slot = signed 32 (unsign 32 x.u) ∧
        t.get LeStat.seq x.slot = x.seq % 2 ^ 16) ∧
      (s.shaped → ∀ n a, n < 8 → c.axes[n]? = some a → t.axPos n = signed 48 (unsign 48 a.1) ∧ (t.axis n).goal = a.2.1 ∧
        t.flag AxStat.homed n = a.2.2))) ∧
  (∀ (rx : Rx) (q cc : Nat) (s : State), ColTaken s 6 q rx → (s.role ≠ roleActive → exec (.cairnAck rx q cc) s = .next (s.heard 6 q)) ∧
    (s.role = roleActive → ∃ t, exec (.cairnAck rx q cc) s = .next t ∧ t.twin.acked = some cc ∧ (∀ e ∈ t.twin.carried, cc < e.1) ∧
      (∀ e ∈ s.twin.gensCarried, e.1 ≤ cc → e.2.1 ≤ t.twin.nmAcked ∧ e.2.2 ≤ t.twin.ctbAcked))) ∧
  (∀ s : State, ((s.role ≠ roleStandby ∨ (s.twin.applied.isSome = true ∧ s.now < s.twin.appliedAt + 50000)) →
      exec .cairnStale s = .next s) ∧
    (s.role = roleStandby → (s.twin.applied = none ∨ s.twin.appliedAt + 50000 ≤ s.now) → ∃ t, exec .cairnStale s = .next t ∧
      t.unfitBit unfitCairnStale = true ∧ t = { s with regs := t.regs } ∧ FieldsKept (only [TwStat.unfit]) s t)) ∧
  (∀ (rx : Rx) (q : Nat) (g : GenMsg) (s : State), s.follows = true → ColTaken s 7 q rx → ∃ t, exec (.gen rx q g) s = .next t ∧
    t.dram = s.dram ∧ t.pages = s.pages ∧
    (g.ctb = true → (∃ x, t.scr.ctbGens.head? = some x ∧ x.num = g.num) ∧ t.get ScrGenNew.v 0 = g.num % 2 ^ 32 ∧
      t.twin.rejoin.ctbGen = true ∧ t.scr.nmGens = s.scr.nmGens) ∧
    (g.ctb = false → (∃ x, t.scr.nmGens.head? = some x ∧ x.num = g.num) ∧ t.get NmGenNew.v 0 = g.num % 2 ^ 32 ∧
      t.twin.rejoin.nmGen = true ∧ t.scr.ctbGens = s.scr.ctbGens)) ∧
  (∀ s : State, ((s.twin.step8 = none ∨ s.solo = true) → exec .healthSend s = .next s) ∧
    (s.twin.step8.isSome = true → s.solo = false → exec .healthSend s = .next
      { s with colTx := insertCol ⟨8, s.healthArgs⟩ s.colTx }) ∧
    s.healthArgs.take 4 = [s.get TwStat.unfit 0, s.get McStat.degraded 0, s.imageGen, s.img.colProto] ∧
    s.healthArgs.getLast? = some s.cfgCrc) ∧
  (∀ (rx : Rx) (q : Nat) (h : HealthMsg) (s : State), ColTaken s 8 q rx → ∃ t, exec (.health rx q h) s = .next t ∧
    t.get TwPstat.unfit 0 = h.unfit % 2 ^ 11 ∧ t.flag TwPstat.eccDegraded 0 = h.eccDegraded ∧
    t.flag TwStat.compareSuspended 0 = (h.imageGen != s.imageGen) ∧
    t.unfitBit unfitIncompatible = (h.colProto / 256 != s.img.colProto / 256) ∧ t.twin.cfgDiff = decide (h.cfgCrc ≠ s.cfgCrc) ∧
    (h.cfgCrc ≠ s.cfgCrc → s.twin.cfgDiff = false → Recorded s t .twCfgDiff 0 []) ∧
    ((h.cfgCrc = s.cfgCrc ∨ s.twin.cfgDiff = true) → t.ev = s.ev) ∧ t = { s with regs := t.regs, ev := t.ev, twin := t.twin } ∧
    FieldsKept (only [TwPstat.unfit, TwPstat.eccDegraded, TwStat.compareSuspended, TwStat.unfit]) s t) ∧
  (∀ (rx : Rx) (q : Nat) (s : State), ColTaken s 9 q rx → (s.twin.summit.running = true → exec (.summit rx q) s = .next (s.heard 9 q)) ∧
    (s.twin.summit.running = false → ∃ t, exec (.summit rx q) s = .next t ∧ t.twin.summit = { s.twin.summit with
        requested := true, running := true, mine := none, partner := none } ∧
      t.get TwCntSummit.count 0 = satAdd TwCntSummit.count.width (s.get TwCntSummit.count 0) 1 ∧
      t = { s with regs := t.regs, ev := t.ev, twin := t.twin } ∧ FieldsKept (only [TwCntSummit.count, TwCntSummit.ovf]) s t)) ∧
  (∀ (p : Bool) (s : State), (s.twin.summit.running = false → exec (.summitTestDone p) s = .next s) ∧
    (s.twin.summit.running = true → s.solo = false →
      (s.twin.summit.partner = none → exec (.summitTestDone p) s = .next { s with
        colTx := insertCol ⟨9, [1, boolArg p]⟩ s.colTx,
        twin := { s.twin with summit := { s.twin.summit with running := false, mine := some p } } }) ∧
      (s.twin.summit.partner.isSome = true → s.twin.summit.requested = true → ∃ t, exec (.summitTestDone p) s = .next t ∧
        t.unfitBit unfitSummit = !p ∧ t.twin.summit.requested = false ∧ t.twin.summit.mine = some p ∧
        ∃ m ∈ t.colTx, m.typ = 9 ∧ m.args = [1, boolArg p]))) ∧
  (∀ (rx : Rx) (q : Nat) (p : Bool) (s : State), ColTaken s 9 q rx →
    (s.twin.summit.mine = none → exec (.summitResult rx q p) s = .next
      { s.heard 9 q with twin := { (s.heard 9 q).twin with summit := { s.twin.summit with partner := some p } } }) ∧
    (∀ a, s.twin.summit.mine = some a → s.twin.summit.requested = true → ∃ t, exec (.summitResult rx q p) s = .next t ∧
      t.unfitBit unfitSummit = !a ∧ t.twin.summit.requested = false ∧
      (a = true → p = true → t.role = s.role ∧ t.flag TwStat.divergence 0 = true ∧ Recorded s t .divergence 0 [] ∧
        t.twin.summit.holdUntil = s.now + 500000 * s.get TwCtrl.summitHold 0) ∧
      (a = false → p = false → t.role = s.role ∧ Recorded s t .twSummitBoth 0 []) ∧
      (a = true → p = false → s.role = roleActive → t.role = roleActive ∧ ∃ m ∈ t.colTx, m.typ = 9 ∧ m.args = [2]) ∧
      (a = false → p = true → s.role = roleActive → t.role = roleActive ∧ ∃ m ∈ t.colTx, m.typ = 2) ∧
      (a = true → p = false → s.role = roleStandby → s.pins.fenceInN = true → s.get TwStat.unfit 0 = 0 → TookOver s t 2) ∧
      (a = false → p = true → s.role = roleStandby → t.role = roleStandby))) ∧
  (∀ (rx : Rx) (q : Nat) (lf : List (Nat × Nat × Nat × List (Nat × Nat))) (b : Bool) (s : State), s.follows = true → ColTaken s 13 q rx →
    (s.unfitBit unfitResync = false → exec (.lineFill rx q lf b) s = .next (s.heard 13 q)) ∧
    (s.unfitBit unfitResync = true → ∃ t, exec (.lineFill rx q lf b) s = .next t ∧ (b = true → t.twin.rejoin.lines = true) ∧
      (b = false → t.twin.rejoin = s.twin.rejoin) ∧ t.pages = s.pages ∧ t.dram = s.dram ∧
      ((lf.map (fun l => l.1 % s.depth)).Nodup → ∀ l ∈ lf, t.bandLine l.1 = some
        ⟨l.1, l.2.1, l.2.2.1, l.2.2.2.foldl (fun m e => Tab.set 0 m e.1 (e.2 % 8)) [], false⟩)))

/-- Ring ports: links, switch rules, recovery, reset frames, and register requests by source and sequence. Choices and readings of the model that it rests on: log 61, 62, 63. -/
def Obligations.RingSwitchAndRegisterAccess : Prop :=
  (∀ (k prio len : Nat) (o : Out) (s : State), s.shaped → k < 2 → s.portUp k = true → (s.blocked k = true → prio = 1) →
    s.net.egress.getD k [] = [] → s.net.busy.getD k 0 ≤ s.now → (prio = 0 ∨ s.guarded k len = false) → len ≤ 32768 →
    (s.egress k prio len o).sent = o :: s.sent ∧ (s.egress k prio len o).regs = s.regs) ∧
  (∀ (k prio len : Nat) (o : Out) (s : State), (s.portUp k = false ∨ (s.blocked k = true ∧ prio ≠ 1)) → s.egress k prio len o = s) ∧
  (∀ (k : Fin 2) (s : State), (s.portUp k.val = false → exec (.ringPortDown k) s = .next s) ∧
    (s.portUp k.val = true → ∃ t, exec (.ringPortDown k) s = .next t ∧ t.portUp k.val = false ∧
      t.portUp (otherPort k.val) = s.portUp (otherPort k.val) ∧
      (s.shaped → t.net.egress.getD k.val [] = []) ∧ (s.shaped → t.net.wasDown.getD k.val false = true) ∧
      (s.blocked k.val = true → t.get NetCtrl.block 0 = 0 ∧ t.flag NetStat.opened 0 = true) ∧
      (s.blocked k.val = false → t.get NetCtrl.block 0 = s.get NetCtrl.block 0 ∧
        (s.portUp (otherPort k.val) = false → Recorded s t .netLinkDown k.val [])) ∧
      t = { s with regs := t.regs, ev := t.ev, net := t.net, sent := t.sent } ∧
      FieldsKept (only [NetStat.eUp, NetStat.wUp, NetStat.opened, NetCtrl.block, NetCntDrop.count, NetCntDrop.ovf]) s t)) ∧
  (∀ (k : Fin 2) (s : State), ((s.portUp k.val = true ∨ s.flag (if k.val = 0 then NetCtrl.enE else NetCtrl.enW) 0 = false) →
      exec (.ringPortUp k) s = .next s) ∧
    (s.portUp k.val = false → s.flag (if k.val = 0 then NetCtrl.enE else NetCtrl.enW) 0 = true →
      ∃ t, exec (.ringPortUp k) s = .next t ∧ t.portUp k.val = true ∧ t = { s with regs := t.regs, ev := t.ev, net := t.net } ∧
      (s.net.wasDown.getD k.val false = true → s.flag NetCtrl.heal 0 = true → t.blocked k.val = true ∧
        t.flag NetStat.healed 0 = true ∧ Recorded s t .netRingHeal k.val []) ∧
      ((s.net.wasDown.getD k.val false = false ∨ s.flag NetCtrl.heal 0 = false) →
        t.get NetCtrl.block 0 = s.get NetCtrl.block 0 ∧ t.ev = s.ev) ∧
      FieldsKept (only [NetStat.eUp, NetStat.wUp, NetStat.healed, NetCtrl.block]) s t)) ∧
  (∀ (k : Fin 2) (o h : Nat) (s : State),
    (s.blocked 0 = false → s.blocked 1 = false → h ≠ 0 → o ≠ s.mac → exec (.ringLinkDown k o h) s = .next
      (s.egress (otherPort k.val) 1 60 (.ring (otherPort k.val) 3 [0x10, 0, 0, h - 1, o, 0]))) ∧
    (s.blocked 0 = false → s.blocked 1 = false → h ≠ 0 → o = s.mac → exec (.ringLinkDown k o h) s = .next s) ∧
    (h = 0 → ∃ t, exec (.ringLinkDown k o h) s = .next t ∧ t.sent = s.sent ∧
      t.get NetCntHops.count 0 = satAdd NetCntHops.count.width (s.get NetCntHops.count 0) 1) ∧
    (∀ j, j < 2 → s.blocked j = true → ∃ t, exec (.ringLinkDown k o h) s = .next t ∧ t.get NetCtrl.block 0 = 0 ∧
      t.flag NetStat.opened 0 = true ∧ (j = k.val → h ≠ 0 → Recorded s t .netRingOpen j [] ∧ t.sent = s.sent))) ∧
  (∀ (k : Fin 2) (n h : Nat) (b : Bool) (d : Word) (s : State),
    (b = false → n ≠ s.nodeId → h ≠ 0 → s.blocked k.val = false → exec (.ringReset k n b h d) s = .next
      (s.egress (otherPort k.val) 1 60 (.ring (otherPort k.val) 3 [0x11, n, 0, h - 1, 0, d.toNat]))) ∧
    ((b = true ∨ n = s.nodeId) → (d ≠ 0x7128 ∨ s.flag NetCtrl.rstEn 0 = false) → h ≠ 0 → s.blocked k.val = true →
      exec (.ringReset k n b h d) s = .next (s.record .netRstReject k.val [])) ∧
    ((b = true ∨ n = s.nodeId) → d = 0x7128 → s.flag NetCtrl.rstEn 0 = true → s.rst.stretch = false → s.twin.faultHold = none →
      s.role ≠ roleActive → s.operating = true → ∃ t, exec (.ringReset k n b h d) s = .next t ∧ t.rst.stretch = true ∧
      t.rst.sources = [9] ∧ t.rst.level = s.fuseLevel 9 ∧ t.pins.resetN = false)) ∧
  (∀ (k : Fin 2) (f : RingFrame) (s : State),
    (1518 < f.len → ∃ t, exec (.frameForward k f) s = .next t ∧ t = { s with regs := t.regs, ev := t.ev } ∧
      t.get NetCntDrop.count 0 = satAdd NetCntDrop.count.width (s.get NetCntDrop.count 0) 1 ∧
      FieldsKept (only [NetCntDrop.count, NetCntDrop.ovf]) s t) ∧
    (f.len ≤ 1518 → f.pause = true → exec (.frameForward k f) s = .next s) ∧
    (f.len ≤ 1518 → f.pause = false →
      (∀ n b h o d, f.fcsOk = true → f.errorEnd = false → f.body = .ring 0x10 n b h o d →
        exec (.frameForward k f) s = exec (.ringLinkDown k o h) s) ∧
      (∀ n b h d, f.fcsOk = true → f.errorEnd = false → f.body = .ring 0x11 n b h 0 d →
        exec (.frameForward k f) s = exec (.ringReset k n b h d) s) ∧
      (s.blocked k.val = true → (∀ op n b h o d, f.body ≠ .ring op n b h o d) → exec (.frameForward k f) s = .next s) ∧
      (s.blocked k.val = false →
        (f.body = .foreign → f.fcsOk = true → f.errorEnd = false → exec (.frameForward k f) s = .next
          (s.egress (otherPort k.val) 2 f.len (.ring (otherPort k.val) 16 [f.len, f.dst, f.src]))) ∧
        (f.body = .foreign → (f.fcsOk = false ∨ f.errorEnd = true) → s.portUp (otherPort k.val) = false →
          ∃ t, exec (.frameForward k f) s = .next t ∧ t = { s with regs := t.regs, ev := t.ev } ∧
          t.get NetCntFwdErr.count 0 = satAdd NetCntFwdErr.count.width (s.get NetCntFwdErr.count 0) 1) ∧
        (∀ kd h, f.body = .other kd h → f.fcsOk = true → f.errorEnd = false → exec (.frameForward k f) s = .next
          (s.egress (otherPort k.val) 2 f.len (.ring (otherPort k.val) 16 [f.len, f.dst, f.src, h - 1]))) ∧
        (∀ ev kd, f.body = .ptp ev kd → f.fcsOk = true → f.errorEnd = false → exec (.frameForward k f) s = .next
          (s.passPtp k.val ev kd f.len)) ∧
        (∀ n b sy h q ops, f.body = .request n b sy h q ops →
          (b = true → exec (.frameForward k f) s = .next s) ∧
          (b = false → n = s.nodeId → (f.dst = s.mac ∨ f.dst = broadcastMac) → (f.fcsOk = false ∨ f.errorEnd = true) →
            exec (.frameForward k f) s = .next s) ∧
          (b = false → (n ≠ s.nodeId ∨ (f.dst ≠ s.mac ∧ f.dst ≠ broadcastMac)) → h ≠ 0 → f.fcsOk = true → f.errorEnd = false →
            exec (.frameForward k f) s = .next
              (s.egress (otherPort k.val) 2 f.len (.ring (otherPort k.val) 16 [f.len, f.dst, f.src, h - 1]))) ∧
          (b = false → n = s.nodeId → f.dst = s.mac → f.fcsOk = true → f.errorEnd = false → ∃ t, exec (.frameForward k f) s = .next t ∧
            (∀ o os, (sy = true ∨ ∃ x, s.net.sources.find? (fun x => x.mac == f.src) = some x ∧ x.expected = q) →
              ops = o :: os → opOk o = true → responseBytes ops ≤ 1500 → s.net.requests = [] →
              t.net.requests = [⟨f.src, q, 14 + responseBytes ops, ops, []⟩] ∧ t.regs = s.regs ∧ t.sent = s.sent ∧
              ∃ x l, t.net.sources = x :: l ∧ x.mac = f.src ∧ x.expected = (q + 1) % 65536) ∧
            (sy = true → 1500 < responseBytes ops → s.net.requests = [] → t.net.requests = [] ∧
              ∃ x l, t.net.sources = x :: l ∧ x.mac = f.src ∧ x.response = ops.flatMap (fun o => [o.1, 4])) ∧
            (∀ x, sy = false → s.net.sources.find? (fun x => x.mac == f.src) = some x → x.expected ≠ q →
              ((q + 1) % 65536 = x.expected → t.net.requests = s.net.requests ∧
                (s.portUp 0 = false → s.portUp 1 = false → t.regs = s.regs)) ∧
              ((q + 1) % 65536 ≠ x.expected → t = { s with regs := t.regs, ev := t.ev } ∧
                t.get NetCntSeq.count 0 = satAdd NetCntSeq.count.width (s.get NetCntSeq.count 0) 1)) ∧
            (sy = false → s.net.sources.find? (fun x => x.mac == f.src) = none → t = { s with regs := t.regs, ev := t.ev } ∧
              t.get NetCntSeq.count 0 = satAdd NetCntSeq.count.width (s.get NetCntSeq.count 0) 1)))))) ∧
  (∀ (nw a : Nat) (s : State), ∃ t, exec (.regOpRead nw a) s = .next t) ∧
  (∀ (nw a : Nat) (q : ReqSt) (l : List ReqSt) (o : Nat × Nat) (os : List (Nat × Nat)) (u : State) (d : List Nat) (s : State),
    s.net.requests = q :: l → q.left = (1, nw) :: o :: os → opOk o = true → s.opStatus a nw = 0 → s.readWords a nw = (u, d) →
    u.net = s.net → exec (.regOpRead nw a) s = .next { u with
      net := { u.net with requests := { q with left := o :: os, response := q.response ++ [1, 0] ++ d } :: l } }) ∧
  (∀ (a : Nat) (w : Word) (q : ReqSt) (l : List ReqSt) (o : Nat × Nat) (os : List (Nat × Nat)) (u : State) (s : State),
    s.net.requests = q :: l → q.left = (2, 1) :: o :: os → opOk o = true → s.opStatus a 1 = 0 →
    exec (.registerWrite a w) s = .next u → u.net = s.net → exec (.regOpWrite a [w]) s = .next { u with
      net := { u.net with requests := { q with left := o :: os, response := q.response ++ [2, 0] } :: l } }) ∧
  (∀ (a : Nat) (m v : Word) (q : ReqSt) (l : List ReqSt) (o : Nat × Nat) (os : List (Nat × Nat)) (u : State) (old : Nat) (s : State),
    s.net.requests = q :: l → q.left = (3, 1) :: o :: os → opOk o = true → s.opStatus a 1 = 0 → s.readAddr a = (s, old) →
    exec (.registerWrite a (rmwValue (Reg.ofAddr a) old m v)) s = .next u → u.net = s.net →
    exec (.regOpRmw a m v) s = .next { u with
      net := { u.net with requests := { q with left := o :: os, response := q.response ++ [3, 0] ++ [old] } :: l } }) ∧
  (∀ (r : Reg) (f : Fld) (i old : Nat) (m v : Word), f ∈ r.fields → (f.acc = .w1c ∨ f.acc = .wo) → f.of m = 0 →
    f.of (rmwValue (some (r, i)) old m v) = 0) ∧
  (∀ (r : Reg) (f : Fld) (i old : Nat) (m v : Word), f ∈ r.fields → f.of m = 2 ^ f.width - 1 →
    f.of (rmwValue (some (r, i)) old m v) = f.of v) ∧
  (∀ (a : Nat) (d : List Word) (m v : Word) (q : ReqSt) (os : List (Nat × Nat)) (s : State) (opc nw : Nat) (i : Instr),
    (opc, nw, i) ∈ [(1, d.length, Instr.regOpRead d.length a), (2, d.length, .regOpWrite a d), (3, 1, .regOpRmw a m v)] →
    s.net.requests = [q] → q.left = (opc, nw) :: os → s.opStatus a nw ≠ 0 → s.portUp 0 = false → s.portUp 1 = false →
    ∃ t, exec i s = .next t ∧ t = { s with net := t.net } ∧ t.net.requests = [] ∧
      (∀ x ∈ s.net.sources, x.mac = q.mac → { x with len := q.len, seq := q.seq, response :=
        q.response ++ [opc, s.opStatus a nw] ++ os.flatMap (fun o => [o.1, 3]) } ∈ t.net.sources))

/-- PTP clock: increments and steps, messages, clock states; timed launch and cross-stamps. Choices and readings of the model that it rests on: log 10, 64, 65. -/
def Obligations.PtpClockAndTimedLaunch : Prop :=
  (∀ (v : Word) (s : State), (incOk (PtpIncInt.ns.of v) (s.get PtpIncFrac.v 0) = false → exec (.ptpIncInt v) s = .next s) ∧
    (incOk (PtpIncInt.ns.of v) (s.get PtpIncFrac.v 0) = true → ∃ t, exec (.ptpIncInt v) s = .next t ∧
      t.get PtpIncInt.ns 0 = PtpIncInt.ns.of v ∧ FieldsKept (only [PtpIncInt.ns]) s t ∧
      (s.get PtpCtrl.mode 0 = 1 → t = { s with regs := t.regs }) ∧
      (s.get PtpCtrl.mode 0 = 0 → t = { s with regs := t.regs, ptp := { s.ptp with
        incDue := some (PtpIncInt.ns.of v * 2 ^ 32 + s.get PtpIncFrac.v 0) } }))) ∧
  (∀ n f : Nat, incOk n f = true ↔ (n = 7 ∨ n = 8) ∧ 34342558499 ≤ n * 2 ^ 32 + f ∧ n * 2 ^ 32 + f ≤ 34376918237) ∧
  (∀ (v : Word) (s : State), ∃ t, exec (.ptpAdj v) s = .next t ∧ t.flag PtpStat.stepped 0 = true ∧ Recorded s t .ptpStep 0 [] ∧
    t = { s with regs := t.regs, ev := t.ev, ptp := { s.ptp with adjDue := some (s.ptp.adjDue.getD 0 + signed 32 v.toNat), stepped := true } } ∧
    FieldsKept (only [PtpStat.stepped]) s t) ∧
  (∀ (v : Word) (s : State), ∃ t, exec (.ptpSet v) s = .next t ∧ t.flag PtpStat.stepped 0 = true ∧ Recorded s t .ptpStep 0 [] ∧
    t.get PtpSetNs.v 0 = v.toNat ∧ t = { s with regs := t.regs, ev := t.ev, ptp := { s.ptp with
      setDue := some (s.get64 PtpSetSecLo.v PtpSetSecHi.v 0 * 1000000000 + v.toNat), adjDue := none, stepped := true } } ∧
    FieldsKept (only [PtpStat.stepped, PtpSetNs.v]) s t) ∧
  (∀ (v : Word) (s : State), ((s.get PtpCtrl.mode 0 = 0 ∨ PtpHostSeq.seq.of v ≠ s.get PtpMeasSeq.seq 0 ∨ s.ptp.answered = true ∨
      s.role = roleStandby) → exec (.ptpHostSeq v) s = .next s) ∧
    (s.get PtpCtrl.mode 0 = 1 → PtpHostSeq.seq.of v = s.get PtpMeasSeq.seq 0 → s.ptp.answered = false → s.role ≠ roleStandby →
      exec (.ptpHostSeq v) s = .next { s with ptp := { s.ptp with
        answered := true, incDue := some (s.get PtpIncInt.ns 0 * 2 ^ 32 + s.get PtpIncFrac.v 0) } })) ∧
  (∀ (m : PtpMsg) (an : PtpAnnounce) (s : State) (i : Instr), i ∈ [Instr.ptpSync m, .ptpFollowUp m, .ptpDelayReq m, .ptpDelayResp m,
      .ptpPdelayReq m, .ptpPdelayResp m, .ptpPdelayRespFollowUp m, .ptpAnnounce an] → s.blocked m.port.val = true →
    s.blocked an.port.val = true → exec i s = .next s) ∧
  (∀ (k kd len : Nat) (e : Bool) (s : State), s.blocked k = false →
    (s.flag PtpCtrl.tcEn 0 = false → s.passPtp k e kd len = s.egress (otherPort k) 2 len (.ptp (otherPort k) kd [0])) ∧
    (s.flag PtpCtrl.tcEn 0 = true → s.flag PtpCtrl.delayMech 0 = true → (kd = 2 ∨ kd = 3 ∨ kd = 10) → s.passPtp k e kd len = s)) ∧
  (∀ (m : PtpMsg) (s : State), (s.passPtp m.port.val true 0 68).fromMaster m = false → exec (.ptpSync m) s = .next (s.passPtp m.port.val true 0 68)) ∧
  (∀ (m : PtpMsg) (s : State), (s.passPtp m.port.val false 8 68).fromMaster m = false →
    exec (.ptpFollowUp m) s = .next (s.passPtp m.port.val false 8 68)) ∧
  (∀ (m : PtpMsg) (s : State), s.blocked m.port.val = false → s.fromMaster m = true → ∃ t, exec (.ptpSync m) s = .next t ∧
    t.dram = s.dram ∧ t.pages = s.pages ∧
    (m.twoStep = true → ∃ a : Nat, t.ptp.syncWait = some (m.seqId, a, m.correction) ∧
      (2 ≤ (s.ptp.ns : Int) + signed 16 (s.get PtpAsym.ns m.port.val) →
        ((a : Int) - ((s.ptp.ns : Int) + signed 16 (s.get PtpAsym.ns m.port.val))).natAbs ≤ 1)) ∧
    (m.twoStep = false → ∃ e ofs : Int, -1 ≤ e ∧ e ≤ 1 ∧
      ofs = (s.ptp.ns : Int) + signed 16 (s.get PtpAsym.ns m.port.val) + e - m.correction / 65536 - (m.time : Int) -
        (if s.p2p then s.ptp.linkDelay.getD m.port.val 0 else s.ptp.delay) ∧
      t.ptp.syncWait = none ∧
      (s.get PtpCtrl.mode 0 = 1 → s.role ≠ roleStandby → t.getInt PtpMeasOfs.v 0 = signed 32 (unsign 32 ofs) ∧
        t.get PtpMeasSeq.seq 0 = (s.get PtpMeasSeq.seq 0 + 1) % 65536 ∧ t.ptp.answered = false ∧ t.ptp.incDue = s.ptp.incDue) ∧
      (s.get PtpCtrl.mode 0 = 0 → s.spUp 3 = true → s.get PtpStepNs.v 0 < ofs.natAbs → t.flag PtpStat.stepped 0 = true ∧
        t.ptp.adjDue = some (s.ptp.adjDue.getD 0 - ofs)) ∧
      (s.get PtpCtrl.mode 0 = 0 → s.spUp 3 = true → ofs.natAbs ≤ s.get PtpStepNs.v 0 →
        ∃ x, t.ptp.incDue = some x ∧ 34342558499 ≤ x ∧ x ≤ 34376918237))) ∧
  (∀ (m : PtpMsg) (a : Nat) (c : Int) (s : State), s.blocked m.port.val = false → s.fromMaster m = true →
    s.ptp.syncWait = some (m.seqId, a, c) → ∃ t, exec (.ptpFollowUp m) s = .next t ∧ t.ptp.syncWait = none ∧
      t.ptp.sync = some (m.time, (a : Int) - (c + m.correction) / 65536) ∧ t.dram = s.dram ∧ t.pages = s.pages) ∧
  (∀ (o : Int) (s : State), o.natAbs < s.get PtpLockNs.v 0 → s.ptp.lockRun + 1 = 16 → s.clockState = 1 → (s.judgeLock o).clockState = 2) ∧
  (∀ (o : Int) (s : State), s.get PtpLockNs.v 0 ≤ o.natAbs → (s.judgeLock o).ptp.lockRun = 0 ∧ (s.judgeLock o).regs = s.regs) ∧
  (∀ (m : PtpMsg) (s : State),
    (s.blocked m.port.val = false → s.clockState = 4 → s.p2p = false → m.domain = s.get PtpCtrl.domain 0 → ∃ x : Nat,
      exec (.ptpDelayReq m) s = .next (((s.passPtp m.port.val true 1 68).nextOpen).egress m.port.val 3 68
        (.ptp m.port.val 9 [s.mac, s.get PtpCtrl.domain 0, m.seqId, m.source, x, unsign 64 m.correction]))) ∧
    ((s.clockState ≠ 4 ∨ s.p2p = true ∨ m.domain ≠ s.get PtpCtrl.domain 0) →
      exec (.ptpDelayReq m) s = .next (s.passPtp m.port.val true 1 68))) ∧
  (∀ (m : PtpMsg) (t3 t1 : Nat) (t2 : Int) (s : State), s.blocked m.port.val = false →
    (m.mine = false → exec (.ptpDelayResp m) s = .next (s.passPtp m.port.val false 9 68)) ∧
    (s.fromMaster m = true → m.mine = true → s.p2p = false → s.ptp.delayReq = some (m.seqId, t3) → s.ptp.sync = some (t1, t2) →
      exec (.ptpDelayResp m) s = .next { s.passPtp m.port.val false 9 68 with ptp := { s.ptp with
        delayReq := none
        delay := ((t2 - (t3 : Int)) + ((m.time : Int) - m.correction / 65536 - (t1 : Int))) / 2 } })) ∧
  (∀ (m : PtpMsg) (s : State), s.blocked m.port.val = false →
    (s.p2p = true → ∃ x : Nat, exec (.ptpPdelayReq m) s = .next (((s.passPtp m.port.val true 2 68).nextOpen).egress m.port.val 3 68
      (.ptp m.port.val 3 [s.mac, s.get PtpCtrl.domain 0, m.seqId, m.source, x]))) ∧
    (s.p2p = false → exec (.ptpPdelayReq m) s = .next (s.passPtp m.port.val true 2 68))) ∧
  (∀ (m : PtpMsg) (t1 : Nat) (x : Option (Nat × Nat)) (s : State), s.blocked m.port.val = false → s.shaped →
    ((s.p2p = false ∨ m.mine = false) → exec (.ptpPdelayResp m) s = .next (s.passPtp m.port.val true 3 68) ∧
      exec (.ptpPdelayRespFollowUp m) s = .next (s.passPtp m.port.val false 10 68)) ∧
    (s.p2p = true → m.mine = true → m.twoStep = false → s.ptp.pdelay.getD m.port.val (0, 0, none) = (m.seqId, t1, x) →
      ∃ (t : State) (e : Int), exec (.ptpPdelayResp m) s = .next t ∧ -1 ≤ e ∧ e ≤ 1 ∧ t.ptp.linkDelay.getD m.port.val 0 =
        ((s.ptp.ns : Int) + signed 16 (s.get PtpAsym.ns m.port.val) + e - (t1 : Int) - m.correction / 65536) / 2) ∧
    (∀ t2 t4, s.p2p = true → m.mine = true → s.ptp.pdelay.getD m.port.val (0, 0, none) = (m.seqId, t1, some (t2, t4)) →
      ∃ t, exec (.ptpPdelayRespFollowUp m) s = .next t ∧ t.ptp.linkDelay.getD m.port.val 0 =
        ((t4 : Int) - (t1 : Int) - ((m.time : Int) - (t2 : Int)) - m.correction / 65536) / 2)) ∧
  (∀ (a : PtpAnnounce) (s : State), s.blocked a.port.val = false →
    ((a.domain ≠ s.get PtpCtrl.domain 0 ∨ a.source = s.mac ∨ 255 ≤ a.steps) →
      exec (.ptpAnnounce a) s = .next (s.passPtp a.port.val false 11 68)) ∧
    (a.domain = s.get PtpCtrl.domain 0 → a.source ≠ s.mac → a.steps < 255 → ∃ t, exec (.ptpAnnounce a) s = .next t ∧
      (∃ l, t.ptp.foreign = (a.source, s.now) :: l) ∧
      (s.ptp.master = none → (∀ x ∈ s.ptp.foreign, x.1 ≠ a.source) → t.clockState = s.clockState ∧ t.ptp.master = none) ∧
      (s.ptp.master = none → (a.source, s.now) ∈ s.ptp.foreign → (s.flag PtpCtrl.masterEn 0 = false ∨
          betterMaster ⟨s.ownDataset, 0, s.mac, 0⟩ ⟨a.dataset, a.steps, a.source, a.port.val⟩ = false) →
        t.clockState = 1 ∧ t.ptp.master = some ⟨a.dataset, a.steps, a.source, a.port.val⟩) ∧
      (s.ptp.master = none → (a.source, s.now) ∈ s.ptp.foreign → s.flag PtpCtrl.masterEn 0 = true →
        betterMaster ⟨s.ownDataset, 0, s.mac, 0⟩ ⟨a.dataset, a.steps, a.source, a.port.val⟩ = true →
        t.clockState = 4 ∧ t.ptp.master = none))) ∧
  (∀ (s : State) (i : Instr), i ∈ [Instr.ptpAnnounceTimeout, .ptpSyncTimeout] →
    ((s.clockState = 1 ∨ s.clockState = 2) → ∃ t, exec i s = .next t ∧ t.clockState = 3 ∧ t.flag PtpStat.holdSeen 0 = true ∧
      t.ptp.holdAt = some s.now ∧ t.ptp.master = none ∧ t.ptp.inc = s.ptp.inc ∧ Recorded s t .ptpHoldover 0 [] ∧
      t = { s with regs := t.regs, ev := t.ev, ptp := t.ptp } ∧ FieldsKept (only [PtpStat.state, PtpStat.holdSeen]) s t) ∧
    (s.clockState ≠ 1 → s.clockState ≠ 2 → s.flag PtpCtrl.masterEn 0 = false → exec i s = .next s)) ∧
  (∀ s : State, s.clockState ≠ 1 → s.clockState ≠ 2 → exec .ptpSyncTimeout s = .next s ∧
    (s.flag PtpCtrl.masterEn 0 = true → ∃ t, exec .ptpAnnounceTimeout s = .next t ∧ t.clockState = 4)) ∧
  (∀ s : State, (s.clockState ≠ 4 → exec .ptpSyncSend s = .next s) ∧
    (s.clockState = 4 → ∃ t, exec .ptpSyncSend s = .next t ∧ t.clockState = 4 ∧ (s.p2p = false → t.ptp.txSeq = (s.ptp.txSeq + 1) % 65536) ∧
      t = { s with regs := t.regs, ev := t.ev, net := t.net, sent := t.sent, ptp := t.ptp, freeCtr := t.freeCtr } ∧
      (s.shaped → s.portUp 0 = true → s.blocked 0 = false → s.net.egress.getD 0 [] = [] → s.net.busy.getD 0 0 ≤ s.now →
        (∀ e, e < 16 → s.get TlCtrl.state e ≠ 1) → ∃ x : Nat, Out.ptp 0 0 [s.mac, s.get PtpCtrl.domain 0, s.ptp.txSeq, x] ∈ t.sent))) ∧
  (∀ (e : Fin 16) (v : Word) (s : State), TlCtrl.cancel.of v = 0 → ∃ t, exec (.tlArm e v) s = .next t ∧ t = { s with regs := t.regs } ∧
    FieldsKept (onlyAt [TlCtrl.len, TlCtrl.ports, TlCtrl.state] e.val) s t ∧ t.get TlCtrl.len e.val = TlCtrl.len.of v ∧
    t.get TlCtrl.ports e.val = TlCtrl.ports.of v ∧
    (TlCtrl.arm.of v = 1 → 60 ≤ TlCtrl.len.of v → TlCtrl.len.of v ≤ 1514 →
      t.get TlCtrl.state e.val = (if s.launchNs e.val < s.ptp.ns + 13000 then 3 else 1)) ∧
    ((TlCtrl.arm.of v = 0 ∨ TlCtrl.len.of v < 60 ∨ 1514 < TlCtrl.len.of v) → t.get TlCtrl.state e.val = s.get TlCtrl.state e.val)) ∧
  (∀ (e : Fin 16) (v : Word) (s : State), TlCtrl.cancel.of v = 1 → TlCtrl.arm.of v = 0 → ∃ t, exec (.tlCancel e v) s = .next t ∧
    t = { s with regs := t.regs } ∧ t.get TlCtrl.state e.val = (if s.get TlCtrl.state e.val = 1 then 0 else s.get TlCtrl.state e.val)) ∧
  (∀ (e : Fin 16) (s : State), (s.get TlCtrl.state e.val ≠ 1 → exec (.timedLaunch e) s = .next s) ∧
    (∀ k, k < 2 → s.get TlCtrl.state e.val = 1 → s.get TlCtrl.ports e.val = 2 ^ k → ∃ t, exec (.timedLaunch e) s = .next t ∧
      (s.blocked k = true → t = { s with regs := t.regs } ∧ t.get TlCtrl.state e.val = 5) ∧
      (s.blocked k = false → s.portUp k = false → t = { s with regs := t.regs } ∧ t.get TlCtrl.state e.val = 6) ∧
      (s.blocked k = false → s.portUp k = true → s.net.launching.getD k 0 ≤ s.now → s.launchNs e.val + 8 < 2 ^ 48 * 1000000000 →
        t.get TlCtrl.state e.val = 2 ∧
        s.launchNs e.val ≤ t.get64 TlDepSecLo.v TlDepSecHi.v e.val * 1000000000 + t.get TlDepNs.v e.val + 8 ∧
        t.get64 TlDepSecLo.v TlDepSecHi.v e.val * 1000000000 + t.get TlDepNs.v e.val ≤ s.launchNs e.val + 8) ∧
      (s.blocked k = false → s.portUp k = true → s.now < s.net.launching.getD k 0 → t.get TlCtrl.state e.val = 4))) ∧
  (∀ s : State, (s.rst.qualified.getD 0 false = false → exec .crossStamp s = .next s) ∧
    (s.rst.qualified.getD 0 false = true → ∃ t, exec .crossStamp s = .next t ∧ t.ptp.stepped = false ∧
      t.get64 PtpXsFtLo.v PtpXsFtHi.v 0 = s.ft / 500000 * 500000 % 2 ^ 64 ∧ t.flag PtpXsFrac.step 0 = s.ptp.stepped ∧
      t.stampPtp true = s.stampPtp false ∧ t.get64 PtpXs1FtLo.v PtpXs1FtHi.v 0 = s.get64 PtpXsFtLo.v PtpXsFtHi.v 0 ∧
      t.flag PtpXs1Frac.step 0 = s.flag PtpXsFrac.step 0 ∧
      (4 ≤ s.ptp.ns → s.ptp.ns + 8 < 2 ^ 48 * 1000000000 → s.ptp.ns * 65536 + s.ptp.frac / 65536 ≤ t.stampPtp false + 262144 ∧
        t.stampPtp false ≤ s.ptp.ns * 65536 + s.ptp.frac / 65536 + 262144) ∧
      (s.ptp.stepped = true → t.ptp.rate = s.ptp.rate) ∧ t = { s with regs := t.regs, ptp := t.ptp, freeCtr := t.freeCtr }))

/-- Metrology island: quadrature, high-water metering, tally frames, comparison, FRAM, power, seal and mirror. Choices and readings of the model that it rests on: log 10, 66. -/
def Obligations.IslandMetersAndStores : Prop :=
  (∀ s : State, exec .tallySend s = .next { s with
    tally := { s.tally with seq := (s.tally.seq + 1) % 2 ^ 32, drops := List.replicate 7 0 },
    sent := .tally ([s.tally.seq, s.printingJob, s.webUm] ++ s.tally.drops) :: s.sent }) ∧
  (∀ a b : Bool, quadStep a b a b = 0 ∧ quadStep a b (!a) (!b) = 0 ∧ quadStep a b (!b) a = 1 ∧ quadStep a b b (!a) = -1) ∧
  (∀ (a b : Bool) (s : State), (s.counting = false ∨ quadStep s.met.a s.met.b a b = 0) → exec (.metEncoderEdge a b) s = .next
    { s with met := { s.met with a := a, b := b } }) ∧
  (∀ (a b : Bool) (d : Int) (s : State), s.counting = true → d ≠ 0 →
    d = (if s.met.fDir then -(quadStep s.met.a s.met.b a b) else quadStep s.met.a s.met.b a b) →
    ∃ t, exec (.metEncoderEdge a b) s = .next t ∧ t = { s with met := t.met } ∧ t.met.a = a ∧ t.met.b = b ∧ t.met.pos = s.met.pos + d ∧
      t.met.audit = s.met.audit ∧ t.met.eventCtr = s.met.eventCtr ∧ t.met.open_ = s.met.open_ ∧
      (s.met.high < s.met.pos + d → t.met.high = s.met.pos + d ∧ t.met.totalCounts = satAdd 64 s.met.totalCounts 1 ∧
        (s.met.totalUm + (s.met.totalPm + s.met.fScale) / 1000000 < 2 ^ 64 →
          t.met.totalUm * 1000000 + t.met.totalPm = s.met.totalUm * 1000000 + s.met.totalPm + s.met.fScale)) ∧
      (s.met.pos + d ≤ s.met.high → t.met.high = s.met.high ∧ t.met.totalCounts = s.met.totalCounts ∧ t.met.totalUm = s.met.totalUm ∧
        t.met.totalPm = s.met.totalPm) ∧
      (s.openJob = none → t.met.jobs = s.met.jobs) ∧
      (∀ j, s.openJob = some j → ∃ k, t.openJob = some k ∧ k.pos = j.pos + d ∧ k.scale = j.scale ∧ k.recNo = j.recNo ∧
        (j.high < j.pos + d → k.high = j.pos + d ∧ k.counts = satAdd 64 j.counts 1 ∧ k.revCounts = j.revCounts ∧
          k.lengthUm = min (k.counts * k.scale / 1000000) (2 ^ 64 - 1)) ∧
        (j.pos + d ≤ j.high → k.high = j.high ∧ k.counts = j.counts ∧ k.lengthUm = j.lengthUm ∧ k.revCounts = satAdd 64 j.revCounts 1))) ∧
  (∀ (q id um : Nat) (drops : List Nat) (s : State), (s.counting = false → exec (.tallyFrame q id drops um) s = .next s) ∧
    (s.counting = true → s.openJob = none → exec (.tallyFrame q id drops um) s = .next
      { s with met := { s.met with tallySeq := some q, mainNow := um } }) ∧
    (∀ j, s.counting = true → s.openJob = some j → ∃ t, exec (.tallyFrame q id drops um) s = .next t ∧
      t = { s with met := { s.met with tallySeq := some q, mainNow := um, jobs := t.met.jobs } } ∧
      t.openJob = some { j with
        tallyGap := j.tallyGap || (match s.met.tallySeq with | some p => q != (p + 1) % 2 ^ 32 | none => false)
        ink := (j.ink.zipIdx).map (fun x => satAdd 64 x.1 (drops.getD x.2 0))
        mainUm := um - s.met.mainStart.getD 0 } ∧
      (∀ n, n ≠ j.recNo % 8192 → Tab.find t.met.jobs n = Tab.find s.met.jobs n))) ∧
  (∀ s : State, ((s.counting = false ∨ s.openJob = none) → exec .divergenceCheck s = .next s) ∧
    (∀ j, s.counting = true → s.openJob = some j → ∃ t, exec .divergenceCheck s = .next t ∧
      t = { s with met := { s.met with jobs := t.met.jobs } } ∧ t.openJob = some { j with
        diverged := j.diverged || decide (j.lengthUm * j.div + 1000000000 < ((j.lengthUm : Int) - (j.mainUm : Int)).natAbs * 1000000) })) ∧
  (∀ s : State, (s.counting = false → exec .framCommit s = .next s) ∧
    (s.counting = true → s.openJob = none → exec .framCommit s = .next
      { s with met := { s.met with fram := [s.met.totalCounts, s.met.totalUm, 0, 0] } }) ∧
    (∀ j, s.counting = true → s.openJob = some j → exec .framCommit s = .next
      { s with met := { s.met with fram := [s.met.totalCounts, s.met.totalUm, j.counts, j.revCounts] } })) ∧
  (∀ s : State, (s.met.powered = false → exec .metPowerDown s = .next s) ∧
    (s.met.powered = true → ∃ t, exec .metPowerDown s = .next t ∧ t = { s with met := t.met } ∧ t.met.powered = false ∧
      t.met.running = false ∧ t.met.totalCounts = s.met.totalCounts ∧ t.met.totalUm = s.met.totalUm ∧
      t.met.fram.take 2 = [s.met.totalCounts, s.met.totalUm] ∧ t.met.eventCtr = satAdd 64 s.met.eventCtr 1 ∧
      (s.met.freeAudit ≠ 0 → ∃ e, Tab.find t.met.audit (satAdd 64 s.met.eventCtr 1) = some e ∧ e.kind = 6 ∧ e.rtc = s.rtc) ∧
      (s.met.freeAudit = 0 → t.met.auditLost = true ∧ t.met.audit = s.met.audit) ∧
      (∀ j, s.openJob = some j → t.met.open_ = none ∧ ∃ k, t.job j.recNo = some k ∧ k.open_ = false ∧ k.powerLoss = true ∧
        k.tEnd = s.rtc ∧ k.counts = j.counts ∧ k.lengthUm = j.lengthUm))) ∧
  (∀ (ok : Bool) (s : State), (s.met.powered = true → exec (.metPowerUp ok) s = .next s) ∧
    (s.met.powered = false → ∃ t, exec (.metPowerUp ok) s = .next t ∧ t = { s with met := t.met, freeCtr := t.freeCtr } ∧
      t.met.powered = true ∧ t.met.running = true ∧ t.met.romErr = !ok ∧ (ok = true → t.met.romCrc = 0x5A31C7E2) ∧ t.counting = ok ∧
      t.met.totalCounts = s.met.totalCounts ∧ t.met.jobs = s.met.jobs ∧ t.met.open_ = s.met.open_ ∧
      t.met.eventCtr = satAdd 64 s.met.eventCtr 1)) ∧
  (∀ (ok : Bool) (s : State), (s.met.powered = false → exec (.metWatchdogReset ok) s = .next s) ∧
    (s.met.powered = true → ∃ t, exec (.metWatchdogReset ok) s = .next t ∧ t = { s with met := t.met, freeCtr := t.freeCtr } ∧
      t.met.totalCounts = s.met.fram.getD 0 0 ∧ t.met.totalUm = s.met.fram.getD 1 0 ∧ t.met.romErr = !ok ∧ t.met.running = true ∧
      t.met.eventCtr = satAdd 64 (satAdd 64 s.met.eventCtr 1) 1 ∧
      (∀ j, s.openJob = some j → t.met.open_ = none ∧ ∃ k, t.job j.recNo = some k ∧ k.open_ = false ∧ k.powerLoss = true ∧
        k.counts = s.met.fram.getD 2 0))) ∧
  (∀ (o : Bool) (s : State), ((s.met.powered = false ∨ s.met.sealOpen = o) → exec (.sealChange o) s = .next s) ∧
    (s.met.powered = true → s.met.sealOpen = !o → ∃ t, exec (.sealChange o) s = .next t ∧ t = { s with met := t.met } ∧
      t.met.sealOpen = o ∧ t.met.eventCtr = satAdd 64 s.met.eventCtr 1 ∧ t.met.totalCounts = s.met.totalCounts ∧ t.met.jobs = s.met.jobs ∧
      (s.met.freeAudit ≠ 0 → ∃ e, Tab.find t.met.audit (satAdd 64 s.met.eventCtr 1) = some e ∧ e.kind = (if o then 1 else 2) ∧
        e.event = satAdd 64 s.met.eventCtr 1 ∧ e.rtc = s.rtc))) ∧
  (∀ s : State, ((s.met.powered = false ∨ s.met.running = false) → exec .mirrorUpdate s = .next s) ∧
    (s.met.powered = true → s.met.running = true → ∃ t, exec .mirrorUpdate s = .next t ∧
      t = { s with regs := t.regs, met := { s.met with mirrorAt := some s.now } } ∧ t.rawWord .metStat 0 = s.metStatWord ∧
      t.get64 MetTotalUmLo.v MetTotalUmHi.v 0 = s.met.totalUm % 2 ^ 64 ∧ t.get64 MetEvtLo.v MetEvtHi.v 0 = s.met.eventCtr % 2 ^ 64 ∧
      t.get MetSwid.v 0 = 0x0100 ∧ t.get MetSwchk.v 0 = s.met.romCrc % 2 ^ 32 ∧
      (∀ j, s.openJob = some j → s.met.lastRec = s.met.open_ → t.get64 MetJobUmLo.v MetJobUmHi.v 0 = j.lengthUm % 2 ^ 64 ∧
        t.get MetJobRec.v 0 = j.recNo % 2 ^ 32) ∧
      (∀ (r : Reg) (f : Fld) (i : Nat), f ∈ r.fields → r ∉ [.metStat, .metTotalUmLo, .metTotalUmHi, .metJobUmLo, .metJobUmHi, .metJobRec,
        .metEvtLo, .metEvtHi, .metSwid, .metSwchk, .metFree] → t.get f i = s.get f i))) ∧
  (∀ s : State, ∃ t, exec .metStatusChange s = .next t ∧ t = { s with regs := t.regs, ev := t.ev, tally := t.tally } ∧
    FieldsKept (only [MetStat.alive]) s t ∧ t.tally.seen = t.rawWord .metStat 0 ∧
    (∀ a, s.met.mirrorAt = some a → s.now ≤ a + 1000000 → s.tally.seen = s.rawWord .metStat 0 → t = s) ∧
    (∀ a b code, s.met.mirrorAt = some a → s.now ≤ a + 1000000 → (b, code) ∈ [(1, EvCode.metSeal), (3, .metUnmetered), (4, .metDiverge)] →
      (∀ c, c ∈ [0, 1, 3, 4] → (s.rawWord .metStat 0 / 2 ^ c % 2 ≠ s.tally.seen / 2 ^ c % 2 ↔ c = b)) →
      Recorded s t code 0 [a32 (s.rawWord .metStat 0)]) ∧
    ((∀ a, s.met.mirrorAt = some a → a + 1000000 < s.now) → t.flag MetStat.alive 0 = false ∧
      (s.flag MetStat.alive 0 = true → s.tally.seen = s.rawWord .metStat 0 → Recorded s t .metLost 0 [])))

/-- Island commands: identification, records, acknowledgement, jobs, sealed parameters, RESET_MAIN and CAL_LEN. Choices and readings of the model that it rests on: log 10, 67. -/
def Obligations.IslandReadoutCommands : Prop :=
  (∀ (r : MetReq) (n id v d c1 c2 tol : Nat) (s : State) (cmd : Nat) (i : Instr),
    (cmd, i) ∈ [(1, Instr.ident r), (2, .totals r), (3, .readJob r n), (4, .readAudit r n), (5, .ackJobs r n), (6, .ackAudit r n),
      (0x10, .jobStart r n), (0x11, .jobEnd r), (0x20, .setParam r id v), (0x21, .setRtc r v), (0x22, .resetMain r n),
      (0x30, .calLen r d c1 c2 tol)] →
    ((s.met.powered = false ∨ s.met.running = false ∨ r.crcOk = false) → exec i s = .next s) ∧
    (s.met.powered = true → s.met.running = true → r.crcOk = true → s.met.lastSeq = some r.seq → exec i s = .next { s with
      sent := .met (s.met.response.getD 0 0) (s.met.response.getD 1 0) (s.met.response.drop 2) :: s.sent }) ∧
    (s.met.powered = true → s.met.running = true → r.crcOk = true → s.met.lastSeq ≠ some r.seq → s.met.romErr = true → cmd ≠ 1 →
      ∃ st : Nat, exec i s = .next { s with
        freeCtr := s.freeCtr + 1
        met := { s.met with lastSeq := some r.seq, response := [cmd, st] }
        sent := .met cmd st [] :: s.sent })) ∧
  (∀ (r : MetReq) (c st : Nat) (l : List Nat) (s : State), s.metAnswer r c st l = { s with
    met := { s.met with lastSeq := some r.seq, response := [c, st] ++ l }
    sent := .met c st l :: s.sent }) ∧
  (∀ (r : MetReq) (s : State), s.met.powered = true → s.met.running = true → r.crcOk = true → s.met.lastSeq ≠ some r.seq →
    exec (.ident r) s = .next (s.metAnswer r 1 0 [0x4E, 0x5A, 0x4D, 0x45, 0x54, 0x0100, s.met.romCrc])) ∧
  (∀ (r : MetReq) (s : State), s.met.powered = true → s.met.running = true → r.crcOk = true → s.met.lastSeq ≠ some r.seq →
    s.met.romErr = false →
    exec (.totals r) s = .next (s.metAnswer r 2 0 [s.met.totalCounts, s.met.totalUm, s.met.eventCtr, s.rtc, s.metStatWord]) ∧
    (∀ n, (∀ j, Tab.find s.met.jobs (n % 8192) = some j → j.recNo % 2 ^ 32 = n →
        exec (.readJob r n) s = .next (s.metAnswer r 3 0 ((jobBytes j).map (fun b => b.toNat)))) ∧
      ((∀ j, Tab.find s.met.jobs (n % 8192) = some j → j.recNo % 2 ^ 32 ≠ n) →
        exec (.readJob r n) s = .next (s.metAnswer r 3 4 []))) ∧
    (∀ n, (∀ e, Tab.find s.met.audit n = some e → exec (.readAudit r n) s = .next (s.metAnswer r 4 0 ((auditBytes e).map (fun b => b.toNat)))) ∧
      (Tab.find s.met.audit n = none → exec (.readAudit r n) s = .next (s.metAnswer r 4 4 []))) ∧
    (∀ n, ((n + 2 ^ 32 - s.met.ackRec % 2 ^ 32) % 2 ^ 32 < s.met.unackedJobs → exec (.ackJobs r n) s = .next
        ({ s with met := { s.met with ackRec := s.met.ackRec + (n + 2 ^ 32 - s.met.ackRec % 2 ^ 32) % 2 ^ 32 + 1 } }.metAnswer r 5 0 [])) ∧
      (s.met.unackedJobs ≤ (n + 2 ^ 32 - s.met.ackRec % 2 ^ 32) % 2 ^ 32 → ∃ st : Nat, exec (.ackJobs r n) s = .next (s.metAnswer r 5 st []))) ∧
    (∀ n, (n ≤ s.met.eventCtr → exec (.ackAudit r n) s = .next
        ({ s with met := { s.met with ackEvent := max s.met.ackEvent n } }.metAnswer r 6 0 [])) ∧
      (s.met.eventCtr < n → exec (.ackAudit r n) s = .next (s.metAnswer r 6 4 []))) ∧
    (∀ n, s.openJob = none → (8192 ≤ s.met.unackedJobs → exec (.jobStart r n) s = .next
        ({ s with met := { s.met with unmetered := true } }.metAnswer r 0x10 6 [])) ∧
      (s.met.unackedJobs < 8192 → ∃ t j, exec (.jobStart r n) s = .next t ∧ t = { s with met := t.met, sent := .met 0x10 0 [] :: s.sent } ∧
        t.openJob = some j ∧ j.recNo = s.met.nextRec ∧ j.jobId = n ∧ j.open_ = true ∧ j.counts = 0 ∧ j.lengthUm = 0 ∧ j.revCounts = 0 ∧
        j.tStart = s.rtc ∧ j.tEnd = 0 ∧ j.scale = s.met.scale ∧ j.div = s.met.div ∧ j.evtAtStart = s.met.eventCtr % 2 ^ 32 ∧
        t.met.fScale = s.met.scale ∧ t.met.fDir = s.met.dir ∧ t.met.unmetered = false ∧ t.met.nextRec = s.met.nextRec + 1)) ∧
    (∀ n j, s.openJob = some j → j.recNo < s.met.nextRec → s.met.nextRec < j.recNo + 8192 → s.met.unackedJobs < 8192 →
      ∃ t k, exec (.jobStart r n) s = .next t ∧ t.job j.recNo = some k ∧ k.open_ = false ∧ k.powerLoss = false ∧ k.tEnd = s.rtc ∧
        k.counts = j.counts ∧ k.lengthUm = j.lengthUm ∧ t.met.open_ = some s.met.nextRec) ∧
    ((s.openJob = none → exec (.jobEnd r) s = .next (s.metAnswer r 0x11 3 [])) ∧
      (∀ j, s.openJob = some j → ∃ t k, exec (.jobEnd r) s = .next t ∧ t = { s with met := t.met, sent := .met 0x11 0 [] :: s.sent } ∧
        t.met.open_ = none ∧ t.job j.recNo = some k ∧ k.open_ = false ∧ k.powerLoss = false ∧ k.tEnd = s.rtc ∧ k.counts = j.counts ∧
        k.lengthUm = j.lengthUm ∧ k.diverged = (j.diverged || diverges j.lengthUm j.mainUm j.div)))) ∧
  (∀ (r : MetReq) (id v : Nat) (s : State), s.met.powered = true → s.met.running = true → r.crcOk = true → s.met.lastSeq ≠ some r.seq →
    s.met.romErr = false →
    ((id = 0 ∨ 4 < id ∨ (id = 1 ∧ (v = 0 ∨ 2 ^ 32 ≤ v)) ∨ (id = 2 ∧ 1 < v) ∨ (id = 3 ∧ (v < 10 ∨ 100000 < v))) →
      exec (.setParam r id v) s = .next (s.metAnswer r 0x20 4 [])) ∧
    ((id = 4 ∨ (id = 1 ∧ 1 ≤ v ∧ v < 2 ^ 32) ∨ (id = 2 ∧ v ≤ 1) ∨ (id = 3 ∧ 10 ≤ v ∧ v ≤ 100000)) →
      (s.met.freeAudit ≤ 16 → exec (.setParam r id v) s = .next (s.metAnswer r 0x20 2 [])) ∧
      (16 < s.met.freeAudit → s.met.sealOpen = false → exec (.setParam r id v) s = .next (s.metAnswer r 0x20 1 [])) ∧
      (16 < s.met.freeAudit → s.met.sealOpen = true → ∃ t e, exec (.setParam r id v) s = .next t ∧
        t = { s with met := t.met, sent := .met 0x20 0 [] :: s.sent } ∧ t.met.jobs = s.met.jobs ∧ t.met.fScale = s.met.fScale ∧
        t.met.fDir = s.met.fDir ∧ t.met.totalCounts = s.met.totalCounts ∧
        t.met.scale = (if id = 1 then v else s.met.scale) ∧ t.met.dir = (if id = 2 then v == 1 else s.met.dir) ∧
        t.met.div = (if id = 3 then v else s.met.div) ∧ (id = 4 → t.rtc = v % 2 ^ 64) ∧ (id ≠ 4 → t.rtc = s.rtc) ∧
        t.met.eventCtr = satAdd 64 s.met.eventCtr 1 ∧ Tab.find t.met.audit (satAdd 64 s.met.eventCtr 1) = some e ∧
        e.kind = (if id = 4 then 5 else 3) ∧ e.param = id ∧ e.new = v % 2 ^ 32 ∧ (id = 1 → e.old = s.met.scale % 2 ^ 32)))) ∧
  (∀ (r : MetReq) (v : Nat) (s : State), s.met.powered = true → s.met.running = true → r.crcOk = true → s.met.lastSeq ≠ some r.seq →
    s.met.romErr = false → v < 2 ^ 64 →
    (16 < s.met.freeAudit → s.met.sealOpen = false → exec (.setRtc r v) s = .next (s.metAnswer r 0x21 1 [])) ∧
    (s.met.freeAudit ≤ 16 → exec (.setRtc r v) s = .next (s.metAnswer r 0x21 2 [])) ∧
    (16 < s.met.freeAudit → s.met.sealOpen = true → ∃ t e, exec (.setRtc r v) s = .next t ∧ t.rtc = v ∧
      t = { s with met := t.met, sent := .met 0x21 0 [] :: s.sent } ∧ t.met.jobs = s.met.jobs ∧ t.met.scale = s.met.scale ∧
      Tab.find t.met.audit (satAdd 64 s.met.eventCtr 1) = some e ∧ e.kind = 5)) ∧
  (∀ (r : MetReq) (code : Nat) (s : State), s.met.powered = true → s.met.running = true → r.crcOk = true → s.met.lastSeq ≠ some r.seq →
    s.met.romErr = false → (code ≠ 0x7128 → exec (.resetMain r code) s = .next (s.metAnswer r 0x22 4 [])) ∧
    (code = 0x7128 → s.met.freeAudit ≤ 16 → exec (.resetMain r code) s = .next (s.metAnswer r 0x22 2 [])) ∧
    (code = 0x7128 → 16 < s.met.freeAudit → s.met.sealOpen = false → exec (.resetMain r code) s = .next (s.metAnswer r 0x22 1 [])) ∧
    (code = 0x7128 → 16 < s.met.freeAudit → s.met.sealOpen = true → s.rst.stretch = false → s.twin.faultHold = none →
      s.role ≠ roleActive → s.operating = true → ∃ t e, exec (.resetMain r code) s = .next t ∧ t.rst.stretch = true ∧
      t.rst.sources = [15] ∧ t.rst.level = s.fuseLevel 15 ∧ t.pins.resetN = false ∧ t.met.totalCounts = s.met.totalCounts ∧
      t.met.jobs = s.met.jobs ∧ Tab.find t.met.audit (satAdd 64 s.met.eventCtr 1) = some e ∧ e.kind = 8)) ∧
  (∀ (r : MetReq) (d c1 c2 tol r1 r2 : Nat) (s : State), s.met.powered = true → s.met.running = true → r.crcOk = true →
    s.met.lastSeq ≠ some r.seq → s.met.romErr = false →
    ((c1 = 0 ∨ c2 = 0 ∨ tol < 10 ∨ 10000 < tol) → exec (.calLen r d c1 c2 tol) s = .next (s.metAnswer r 0x30 4 [])) ∧
    (0 < c1 → 0 < c2 → 10 ≤ tol → tol ≤ 10000 → r1 = (2 * (d * 1000000) + c1) / (2 * c1) → r2 = (2 * (d * 1000000) + c2) / (2 * c2) →
      1 ≤ (r1 + r2 + 1) / 2 → (r1 + r2 + 1) / 2 < 2 ^ 32 →
      (tol * (r1 + r2) < ((r1 : Int) - (r2 : Int)).natAbs * 2 * 1000000 → exec (.calLen r d c1 c2 tol) s = .next (s.metAnswer r 0x30 4 [])) ∧
      (((r1 : Int) - (r2 : Int)).natAbs * 2 * 1000000 ≤ tol * (r1 + r2) → 16 < s.met.freeAudit → s.met.sealOpen = false →
        exec (.calLen r d c1 c2 tol) s = .next (s.metAnswer r 0x30 1 [])) ∧
      (((r1 : Int) - (r2 : Int)).natAbs * 2 * 1000000 ≤ tol * (r1 + r2) → 16 < s.met.freeAudit → s.met.sealOpen = true →
        ∃ t e, exec (.calLen r d c1 c2 tol) s = .next t ∧ t = { s with met := t.met, sent := .met 0x30 0 [] :: s.sent } ∧
        t.met.scale = (r1 + r2 + 1) / 2 ∧ t.met.fScale = s.met.fScale ∧ t.met.jobs = s.met.jobs ∧
        Tab.find t.met.audit (satAdd 64 s.met.eventCtr 1) = some e ∧ e.kind = 4 ∧ e.param = 1 ∧ e.old = s.met.scale % 2 ^ 32 ∧
        e.new = (r1 + r2 + 1) / 2)))

/-- No command but the island's own changes the island, no reset source of any level does, and only RESET_MAIN raises source 15 -/
def Obligations.MainDieNeverResetsTheIsland : Prop :=
  (∀ (c : Instr) (s t : State), islandCommand c = false → exec c s = .next t → t.met = s.met) ∧
  (∀ (src lvl : Nat) (targets : List (Nat × Nat)) (timeout : Bool) (s : State), (s.raiseAt src lvl targets timeout).met = s.met) ∧
  (∀ (c : Instr) (s t : State), (∀ r code, c ≠ .resetMain r code) → exec c s = .next t → 15 ∉ s.rst.sources →
    (∀ q l ts, s.twin.faultHold = some (q, l, ts) → q ≠ 15) → 15 ∉ t.rst.sources)

/-- Calibration: start, measurement, reference, agreement and application, host results, cancel and a missed deadline. Choices and readings of the model that it rests on: log 10, 12, 68. -/
def Obligations.CalibrationRuns : Prop :=
  (∀ (v : Word) (s : State) (i : Instr), i ∈ [Instr.calStart v, .calEnter v, .calCancel v] →
    ((keyOk v = false ∨ CalCmd.op.of v = 3) → exec i s = .next s)) ∧
  (∀ (v : Word) (s : State), keyOk v = true → CalCmd.op.of v = 0 →
    ((s.get CalStat.state 0 ≠ 0 ∨ 5 ≤ CalCmd.kind.of v ∨ s.calReady (CalCmd.kind.of v) (CalCmd.inst.of v) (CalCmd.code.of v) = false) →
      ∃ t, exec (.calStart v) s = .next t ∧ t.flag CalStat.refused 0 = true ∧ t = { s with regs := t.regs } ∧
        FieldsKept (only [CalStat.refused]) s t) ∧
    (s.get CalStat.state 0 = 0 → CalCmd.kind.of v < 5 → s.calReady (CalCmd.kind.of v) (CalCmd.inst.of v) (CalCmd.code.of v) = true →
      ∃ t, exec (.calStart v) s = .next t ∧ t.get CalStat.state 0 = 1 ∧ t.get CalStat.kind 0 = CalCmd.kind.of v ∧
        t.cal.kind = CalCmd.kind.of v ∧ t.cal.inst = CalCmd.inst.of v ∧ t.cal.code = CalCmd.code.of v ∧ t.cal.raw = [] ∧
        t.cal.edge = none ∧ t.cal.change = none ∧ t.flag CalStat.run_ 0 = t.cal.first.isSome ∧
        ((s.cal.kind = t.cal.kind ∧ s.cal.inst = t.cal.inst ∧ s.cal.code = t.cal.code) → t.cal.first = s.cal.first) ∧
        (¬(s.cal.kind = t.cal.kind ∧ s.cal.inst = t.cal.inst ∧ s.cal.code = t.cal.code) → t.cal.first = none) ∧
        t = { s with regs := t.regs, cal := t.cal } ∧ FieldsKept (only [CalStat.state, CalStat.run_, CalStat.kind]) s t)) ∧
  (∀ (i c : Nat) (s : State), (s.calReady 0 i c = true ↔ i % 16 < 12 ∧ i / 16 < 12 ∧ s.get FpeStat.mode 0 = 1) ∧
    s.calReady 1 i c = true ∧
    (s.calReady 2 i c = true ↔ i < 16 ∧ s.get LmpCfg.type i = 0 ∧ (s.lamp i).engine = none ∧ (s.lamp i).activity = none) ∧
    (s.calReady 3 i c = true ↔ i < 8 ∧ s.flag CamCfg.en (i / 2) = true) ∧
    (s.calReady 4 i c = true ↔ i < 128 ∧ 1 ≤ c ∧ s.get HpStat.state i = 4)) ∧
  (∀ (m : List Nat) (s : State), (s.get CalStat.state 0 ≠ 1 → exec (.calMeasureEnd m) s = .next s) ∧
    (s.get CalStat.state 0 = 1 → s.cal.kind = 0 → (s.cal.change = none → exec (.calMeasureEnd m) s = .next s) ∧
      (∀ c, s.cal.change = some c → ∃ t, exec (.calMeasureEnd m) s = .next t ∧ t = { s with regs := t.regs, cal := t.cal } ∧
        FieldsKept (only [CalStat.state, CalStat.refused, CalRawLo.v, CalRawHi.v]) s t ∧
        (c.natAbs < 10000 → t.flag CalStat.refused 0 = true ∧ t.get CalStat.state 0 = 0 ∧ t.cal.first = none) ∧
        (10000 ≤ c.natAbs → t.get64 CalRawLo.v CalRawHi.v 0 = unsign 64 c ∧ t.cal.first = s.cal.first ∧
          (s.get CalCtrl.mode 0 = 1 → s.acting = true → t.get CalStat.state 0 = 3 ∧ t.cal.postedAt = s.now) ∧
          ((s.get CalCtrl.mode 0 = 0 ∨ s.acting = false) → t.get CalStat.state 0 = 2)))) ∧
    (s.get CalStat.state 0 = 1 → s.cal.kind = 1 → s.get CalCtrl.mode 0 = 0 → s.cal.first = none → ∀ sum g : Nat,
      sum = m.foldl (fun a b => a + b % 4096) 0 → 0 < sum →
      g = (2 * (341333 * 2 ^ 14 * m.length) + 100 * sum) / (2 * (100 * sum)) → g < 2 ^ 16 → ∃ t, exec (.calMeasureEnd m) s = .next t ∧
      t.cal.first = some [(g : Int)] ∧ t.get CalStat.state 0 = 0 ∧ t.get CalVgain.v 0 = s.get CalVgain.v 0) ∧
    (s.get CalStat.state 0 = 1 → s.cal.kind = 2 → s.get CalCtrl.mode 0 = 0 → ∃ t, exec (.calMeasureEnd m) s = .next t ∧
      t.get CalStat.state 0 = 2 ∧ t.cal.raw = [m.foldl (fun a b => a + b % 4096) 0, m.length] ∧ t.cal.first = s.cal.first) ∧
    (s.get CalStat.state 0 = 1 → s.cal.kind = 3 → s.cal.raw = [] → exec (.calMeasureEnd m) s = .next s) ∧
    (s.cal.kind = 4 → exec (.calMeasureEnd m) s = .next s)) ∧
  (∀ (v : Word) (s : State), keyOk v = true → CalCmd.op.of v = 1 →
    ((s.get CalStat.state 0 = 0 ∨ s.get CalStat.state 0 = 3 ∨ (s.get CalStat.state 0 = 1 ∧ s.cal.kind ≠ 4)) → exec (.calEnter v) s = .next s) ∧
    (∀ n sum r, s.get CalStat.state 0 = 2 → s.cal.kind = 2 → s.cal.raw = [sum, n] → 0 < sum →
      r = (2 * (s.get CalRefval.v 0 * 256 * n) + sum) / (2 * sum) → r < 2 ^ 32 →
      (s.cal.first = none → ∃ t, exec (.calEnter v) s = .next t ∧ t.cal.first = some [(r : Int)] ∧ t.get CalStat.state 0 = 0 ∧
        t.get CalLampGain.v s.cal.inst = s.get CalLampGain.v s.cal.inst ∧ t.ev = s.ev) ∧
      (∀ r1 : Nat, s.cal.first = some [(r1 : Int)] → r1 < 2 ^ 32 → s.cal.inst < 16 →
        (((r1 : Int) - (r : Int)).natAbs * 2 * 1000000 ≤ s.get CalRecTol.v 2 * (r1 + r) → ∃ t, exec (.calEnter v) s = .next t ∧
          t.get CalLampGain.v s.cal.inst = (r1 + r + 1) / 2 ∧ t.get CalRecLast.v 2 = (r1 + r + 1) / 2 ∧ t.get CalStat.state 0 = 0 ∧
          t.cal.first = none ∧ t.get CalRecCount.count 2 = satAdd CalRecCount.count.width (s.get CalRecCount.count 2) 1 ∧
          (s.get CalRecCount.count 2 < 2 ^ 31 - 2 → Recorded s t .calAccept 2 [])) ∧
        (s.get CalRecTol.v 2 * (r1 + r) < ((r1 : Int) - (r : Int)).natAbs * 2 * 1000000 → ∃ t, exec (.calEnter v) s = .next t ∧
          t.get CalLampGain.v s.cal.inst = s.get CalLampGain.v s.cal.inst ∧ t.flag CalStat.disagree 0 = true ∧
          t.get CalStat.state 0 = 0 ∧ t.cal.first = none ∧ Recorded s t .calDisagree 2 [a32 r1, a32 r]))) ∧
    (∀ (c : Int) (r1 r q : Nat), s.get CalStat.state 0 = 2 → s.cal.kind = 0 → s.cal.change = some c → 0 < c →
      r = (2 * (s.get CalRefval.v 0 * 1000000) + c.natAbs) / (2 * c.natAbs) → r < 2 ^ 32 → s.cal.first = some [(r1 : Int)] →
      ((r1 : Int) - (r : Int)).natAbs * 2 * 1000000 ≤ s.get CalRecTol.v 0 * (r1 + r) →
      q = (2 * ((r1 + r + 1) / 2 * 256 * s.resLpi * 2 ^ 32) + 25400000000) / 50800000000 → q < 2 ^ 48 →
      ∃ t, exec (.calEnter v) s = .next t ∧ t.get64 FpeScaleALo.v FpeScaleAHi.v 0 = q ∧ t.cal.first = none) ∧
    (s.get CalStat.state 0 = 1 → s.cal.kind = 4 → s.dropsOf s.cal.inst s.cal.code < s.cal.drops + 100000 →
      ∃ t, exec (.calEnter v) s = .next t ∧ t.flag CalStat.refused 0 = true ∧ t.get CalStat.state 0 = 0 ∧ t.cal.first = none) ∧
    (∀ d r : Nat, s.get CalStat.state 0 = 1 → s.cal.kind = 4 → s.get CalCtrl.mode 0 = 0 → s.cal.first = none →
      s.dropsOf s.cal.inst s.cal.code = s.cal.drops + d → 100000 ≤ d → r = (2 * (s.get CalRefval.v 0 * 1000) + d) / (2 * d) →
      ∃ t, exec (.calEnter v) s = .next t ∧ t.cal.first = some [(r : Int)] ∧ t.get CalStat.state 0 = 0)) ∧
  (∀ (v : Word) (s : State), keyOk v = true → CalCmd.op.of v = 2 →
    (s.get CalStat.state 0 = 0 → s.cal.first = none → exec (.calCancel v) s = .next s) ∧
    ((s.get CalStat.state 0 ≠ 0 ∨ s.cal.first.isSome = true) → ∃ t, exec (.calCancel v) s = .next t ∧ t.get CalStat.state 0 = 0 ∧
      t.flag CalStat.abandoned 0 = true ∧ t.cal.first = none ∧ t.cal.raw = [] ∧
      t = { s with regs := t.regs, ev := t.ev, cal := t.cal, aborts := t.aborts } ∧
      FieldsKept (only [CalStat.state, CalStat.abandoned]) s t)) ∧
  (∀ (v : Word) (s : State), ((s.get CalStat.state 0 ≠ 3 ∨ s.acting = false) → exec (.calHres v) s = .next (s.storeWord .calHres 0 v)) ∧
    (s.get CalStat.state 0 = 3 → s.acting = true → s.cal.kind ≠ 3 → s.cal.first = none → ∃ t, exec (.calHres v) s = .next t ∧
      t.cal.first = some [(v.toNat : Int)] ∧ t.get CalStat.state 0 = 0 ∧ t.get CalHres.v 0 = v.toNat ∧
      t = { s with regs := t.regs, cal := t.cal } ∧ FieldsKept (only [CalStat.state, CalHres.v]) s t)) ∧
  (∀ s : State, ((s.get CalStat.state 0 ≠ 3 ∨ s.acting = false) → exec .calHostMiss s = .next s) ∧
    (s.get CalStat.state 0 = 3 → s.acting = true → ∃ t, exec .calHostMiss s = .next t ∧ t.get CalStat.state 0 = 0 ∧
      t.flag CalStat.abandoned 0 = true ∧ t.cal.first = none ∧
      t.ev = ((s.record .calHostMiss s.cal.kind []).record .calAbandon s.cal.kind []).ev ∧
      t = { s with regs := t.regs, ev := t.ev, cal := t.cal } ∧ FieldsKept (only [CalStat.state, CalStat.abandoned]) s t))
end

