-- ==== Sys2Proof/Laws/Table.lean ====
section
/-!
SUPPORT. What reading and writing a sparse table do: read after write, other keys kept, the canonical form kept.
-/
namespace Sys2Proof.Machine

variable {α : Type}

theorem Tab.find_insert (k j : Nat) (v : α) (t : Tab α) :
    Tab.find (Tab.insert k v t) j = if k = j then some v else Tab.find t j := by
  induction t with
  | nil => simp [Tab.insert, Tab.find]
  | cons e t ih =>
    obtain ⟨k', v'⟩ := e
    simp only [Tab.insert]
    split
    · simp [Tab.find]
    · split
      · subst_vars; simp only [Tab.find]; split <;> simp_all
      · simp only [Tab.find, ih]; split <;> split <;> simp_all

theorem Tab.find_erase (k j : Nat) (t : Tab α) :
    Tab.find (Tab.erase k t) j = if k = j then none else Tab.find t j := by
  induction t with
  | nil => simp [Tab.erase, Tab.find]
  | cons e t ih =>
    obtain ⟨k', v'⟩ := e
    simp only [Tab.erase]
    split
    · subst_vars; rw [ih]; simp only [Tab.find]; split <;> simp_all
    · simp only [Tab.find, ih]; split <;> split <;> simp_all

/-- Reading after a write: the written key gives the value, every other key what it gave. -/
@[simp] theorem Tab.get_set [DecidableEq α] (d : α) (t : Tab α) (k j : Nat) (v : α) :
    Tab.get d (Tab.set d t k v) j = if k = j then v else Tab.get d t j := by
  unfold Tab.get Tab.set
  split
  · rename_i h; subst h; rw [Tab.find_erase]; split <;> simp_all
  · rw [Tab.find_insert]; split <;> simp_all

/-- A write leaves every other key alone, whatever the defaults. -/
theorem Tab.get_set_ne [DecidableEq α] (d d' : α) (t : Tab α) {k j : Nat} (v : α) (h : k ≠ j) :
    Tab.get d (Tab.set d' t k v) j = Tab.get d t j := by
  unfold Tab.get Tab.set
  split
  · rw [Tab.find_erase, if_neg h]
  · rw [Tab.find_insert, if_neg h]

theorem Tab.risesFrom_mono {lo lo' : Nat} (h : lo' ≤ lo) {t : Tab α} (ht : Tab.risesFrom lo t = true) :
    Tab.risesFrom lo' t = true := by
  cases t with
  | nil => rfl
  | cons e t =>
    simp only [Tab.risesFrom, Bool.and_eq_true, decide_eq_true_eq] at *
    exact ⟨by omega, ht.2⟩

theorem Tab.risesFrom_insert {lo k : Nat} (v : α) {t : Tab α} (hk : lo ≤ k) (ht : Tab.risesFrom lo t = true) :
    Tab.risesFrom lo (Tab.insert k v t) = true := by
  induction t generalizing lo with
  | nil => simp [Tab.insert, Tab.risesFrom, hk]
  | cons e t ih =>
    obtain ⟨k', v'⟩ := e
    simp only [Tab.risesFrom, Bool.and_eq_true, decide_eq_true_eq] at ht
    simp only [Tab.insert]
    split
    · simp only [Tab.risesFrom, Bool.and_eq_true, decide_eq_true_eq]; exact ⟨hk, by omega, ht.2⟩
    · split
      · subst_vars; simp only [Tab.risesFrom, Bool.and_eq_true, decide_eq_true_eq]; exact ht
      · simp only [Tab.risesFrom, Bool.and_eq_true, decide_eq_true_eq]
        exact ⟨ht.1, ih (by omega) ht.2⟩

theorem Tab.risesFrom_erase {lo k : Nat} {t : Tab α} (ht : Tab.risesFrom lo t = true) :
    Tab.risesFrom lo (Tab.erase k t) = true := by
  induction t generalizing lo with
  | nil => rfl
  | cons e t ih =>
    obtain ⟨k', v'⟩ := e
    simp only [Tab.risesFrom, Bool.and_eq_true, decide_eq_true_eq] at ht
    simp only [Tab.erase]
    split
    · exact Tab.risesFrom_mono (by omega) (ih ht.2)
    · simp only [Tab.risesFrom, Bool.and_eq_true, decide_eq_true_eq]; exact ⟨ht.1, ih ht.2⟩

/-- A write keeps the keys rising. -/
theorem Tab.rising_set [DecidableEq α] (d : α) {t : Tab α} (k : Nat) (v : α) (ht : t.rising = true) :
    (Tab.set d t k v).rising = true := by
  unfold Tab.set
  split
  · exact Tab.risesFrom_erase ht
  · exact Tab.risesFrom_insert v (Nat.zero_le k) ht

theorem Tab.mem_insert {k : Nat} {v : α} {t : Tab α} {e : Nat × α} (h : e ∈ Tab.insert k v t) :
    e = (k, v) ∨ e ∈ t := by
  induction t with
  | nil => simpa [Tab.insert] using h
  | cons a t ih =>
    simp only [Tab.insert] at h
    split at h
    · simpa using h
    · split at h
      · simp at h; rcases h with h | h <;> simp [h]
      · simp at h; rcases h with h | h
        · simp [h]
        · rcases ih h with h | h <;> simp [h]

theorem Tab.mem_erase {k : Nat} {t : Tab α} {e : Nat × α} (h : e ∈ Tab.erase k t) : e ∈ t := by
  induction t with
  | nil => simp [Tab.erase] at h
  | cons a t ih =>
    simp only [Tab.erase] at h
    split at h
    · exact List.mem_cons_of_mem _ (ih h)
    · simp at h; rcases h with h | h
      · simp [h]
      · exact List.mem_cons_of_mem _ (ih h)

/-- A write keeps the canonical form. -/
theorem Tab.wf_set [DecidableEq α] (d : α) {t : Tab α} (k : Nat) (v : α) (ht : t.wf d = true) :
    (Tab.set d t k v).wf d = true := by
  unfold Tab.wf at *
  rw [Bool.and_eq_true] at *
  refine ⟨Tab.rising_set d k v ht.1, ?_⟩
  have h2 := ht.2
  rw [List.all_eq_true] at *
  intro e he
  unfold Tab.set at he
  split at he
  · exact h2 e (Tab.mem_erase he)
  · rcases Tab.mem_insert he with rfl | h
    · simpa using ‹_›
    · exact h2 e h

end Sys2Proof.Machine
end

