-- ==== Sys2Proof/Laws/State.lean ====
section
/-!
SUPPORT. What each update of the state leaves unchanged, field by field, and what reading a register field gives after each update.
-/
namespace Sys2Proof.Machine

/-- `put` changes only `regs`. -/
@[simp] theorem State.put_frame (s : State) (f : Fld) (i v : Nat) :
    (s.put f i v).now = s.now ∧ (s.put f i v).ft = s.ft ∧ (s.put f i v).pins = s.pins ∧ (s.put f i v).force = s.force ∧
    (s.put f i v).snap = s.snap ∧ (s.put f i v).rst = s.rst ∧ (s.put f i v).img = s.img ∧ (s.put f i v).ev = s.ev ∧
    (s.put f i v).sps = s.sps ∧ (s.put f i v).sent = s.sent ∧ (s.put f i v).colTx = s.colTx ∧ (s.put f i v).freeCtr = s.freeCtr ∧
    (s.put f i v).lanes = s.lanes ∧ (s.put f i v).linkUp = s.linkUp ∧ (s.put f i v).ingest = s.ingest ∧ (s.put f i v).pages = s.pages ∧
    (s.put f i v).lastPlan = s.lastPlan ∧ (s.put f i v).digestWait = s.digestWait ∧ (s.put f i v).codec = s.codec ∧
    (s.put f i v).dram = s.dram ∧ (s.put f i v).scr = s.scr ∧ (s.put f i v).ff = s.ff ∧ (s.put f i v).fpe = s.fpe ∧
    (s.put f i v).ports = s.ports ∧ (s.put f i v).posn = s.posn ∧ (s.put f i v).loop = s.loop ∧ (s.put f i v).ins = s.ins ∧
    (s.put f i v).light = s.light ∧ (s.put f i v).mot = s.mot ∧ (s.put f i v).mc = s.mc ∧ (s.put f i v).twin = s.twin ∧
    (s.put f i v).net = s.net ∧ (s.put f i v).ptp = s.ptp ∧ (s.put f i v).met = s.met ∧ (s.put f i v).tally = s.tally ∧
    (s.put f i v).cal = s.cal ∧ (s.put f i v).hmWait = s.hmWait ∧ (s.put f i v).aborts = s.aborts ∧ (s.put f i v).pending = s.pending :=
  ⟨rfl, rfl, rfl, rfl, rfl, rfl, rfl, rfl, rfl, rfl, rfl, rfl, rfl, rfl, rfl, rfl, rfl, rfl, rfl, rfl, rfl, rfl, rfl, rfl, rfl, rfl, rfl, rfl, rfl, rfl, rfl, rfl, rfl, rfl, rfl, rfl, rfl, rfl, rfl⟩

/-- `enforce` changes only `force`. -/
@[simp] theorem State.enforce_frame (s : State) (f : Fld) (i : Nat) :
    (s.enforce f i).now = s.now ∧ (s.enforce f i).ft = s.ft ∧ (s.enforce f i).pins = s.pins ∧ (s.enforce f i).regs = s.regs ∧
    (s.enforce f i).snap = s.snap ∧ (s.enforce f i).rst = s.rst ∧ (s.enforce f i).img = s.img ∧ (s.enforce f i).ev = s.ev ∧
    (s.enforce f i).sps = s.sps ∧ (s.enforce f i).sent = s.sent ∧ (s.enforce f i).colTx = s.colTx ∧ (s.enforce f i).freeCtr = s.freeCtr ∧
    (s.enforce f i).lanes = s.lanes ∧ (s.enforce f i).linkUp = s.linkUp ∧ (s.enforce f i).ingest = s.ingest ∧
    (s.enforce f i).pages = s.pages ∧ (s.enforce f i).lastPlan = s.lastPlan ∧ (s.enforce f i).digestWait = s.digestWait ∧
    (s.enforce f i).codec = s.codec ∧ (s.enforce f i).dram = s.dram ∧ (s.enforce f i).scr = s.scr ∧ (s.enforce f i).ff = s.ff ∧
    (s.enforce f i).fpe = s.fpe ∧ (s.enforce f i).ports = s.ports ∧ (s.enforce f i).posn = s.posn ∧ (s.enforce f i).loop = s.loop ∧
    (s.enforce f i).ins = s.ins ∧ (s.enforce f i).light = s.light ∧ (s.enforce f i).mot = s.mot ∧ (s.enforce f i).mc = s.mc ∧
    (s.enforce f i).twin = s.twin ∧ (s.enforce f i).net = s.net ∧ (s.enforce f i).ptp = s.ptp ∧ (s.enforce f i).met = s.met ∧
    (s.enforce f i).tally = s.tally ∧ (s.enforce f i).cal = s.cal ∧ (s.enforce f i).hmWait = s.hmWait ∧
    (s.enforce f i).aborts = s.aborts ∧ (s.enforce f i).pending = s.pending :=
  ⟨rfl, rfl, rfl, rfl, rfl, rfl, rfl, rfl, rfl, rfl, rfl, rfl, rfl, rfl, rfl, rfl, rfl, rfl, rfl, rfl, rfl, rfl, rfl, rfl, rfl, rfl, rfl, rfl, rfl, rfl, rfl, rfl, rfl, rfl, rfl, rfl, rfl, rfl, rfl⟩

@[simp] theorem State.get_enforce (s : State) (f : Fld) (i : Nat) (g : Fld) (j : Nat) : (s.enforce f i).get g j = s.get g j := by
  unfold State.get; simp

/-- `putInt` changes only `regs`. -/
@[simp] theorem State.putInt_frame (s : State) (f : Fld) (i : Nat) (v : Int) :
    (s.putInt f i v).now = s.now ∧ (s.putInt f i v).ft = s.ft ∧ (s.putInt f i v).pins = s.pins ∧ (s.putInt f i v).force = s.force ∧
    (s.putInt f i v).snap = s.snap ∧ (s.putInt f i v).rst = s.rst ∧ (s.putInt f i v).img = s.img ∧ (s.putInt f i v).ev = s.ev ∧
    (s.putInt f i v).sps = s.sps ∧ (s.putInt f i v).sent = s.sent ∧ (s.putInt f i v).colTx = s.colTx ∧
    (s.putInt f i v).freeCtr = s.freeCtr ∧ (s.putInt f i v).lanes = s.lanes ∧ (s.putInt f i v).linkUp = s.linkUp ∧
    (s.putInt f i v).ingest = s.ingest ∧ (s.putInt f i v).pages = s.pages ∧ (s.putInt f i v).lastPlan = s.lastPlan ∧
    (s.putInt f i v).digestWait = s.digestWait ∧ (s.putInt f i v).codec = s.codec ∧ (s.putInt f i v).dram = s.dram ∧
    (s.putInt f i v).scr = s.scr ∧ (s.putInt f i v).ff = s.ff ∧ (s.putInt f i v).fpe = s.fpe ∧ (s.putInt f i v).ports = s.ports ∧
    (s.putInt f i v).posn = s.posn ∧ (s.putInt f i v).loop = s.loop ∧ (s.putInt f i v).ins = s.ins ∧ (s.putInt f i v).light = s.light ∧
    (s.putInt f i v).mot = s.mot ∧ (s.putInt f i v).mc = s.mc ∧ (s.putInt f i v).twin = s.twin ∧ (s.putInt f i v).net = s.net ∧
    (s.putInt f i v).ptp = s.ptp ∧ (s.putInt f i v).met = s.met ∧ (s.putInt f i v).tally = s.tally ∧ (s.putInt f i v).cal = s.cal ∧
    (s.putInt f i v).hmWait = s.hmWait ∧ (s.putInt f i v).aborts = s.aborts ∧ (s.putInt f i v).pending = s.pending :=
  ⟨rfl, rfl, rfl, rfl, rfl, rfl, rfl, rfl, rfl, rfl, rfl, rfl, rfl, rfl, rfl, rfl, rfl, rfl, rfl, rfl, rfl, rfl, rfl, rfl, rfl, rfl, rfl, rfl, rfl, rfl, rfl, rfl, rfl, rfl, rfl, rfl, rfl, rfl, rfl⟩

/-- `put64` changes only `regs`. -/
@[simp] theorem State.put64_frame (s : State) (f g : Fld) (i v : Nat) :
    (s.put64 f g i v).now = s.now ∧ (s.put64 f g i v).ft = s.ft ∧ (s.put64 f g i v).pins = s.pins ∧ (s.put64 f g i v).force = s.force ∧
    (s.put64 f g i v).snap = s.snap ∧ (s.put64 f g i v).rst = s.rst ∧ (s.put64 f g i v).img = s.img ∧ (s.put64 f g i v).ev = s.ev ∧
    (s.put64 f g i v).sps = s.sps ∧ (s.put64 f g i v).sent = s.sent ∧ (s.put64 f g i v).colTx = s.colTx ∧
    (s.put64 f g i v).freeCtr = s.freeCtr ∧ (s.put64 f g i v).lanes = s.lanes ∧ (s.put64 f g i v).linkUp = s.linkUp ∧
    (s.put64 f g i v).ingest = s.ingest ∧ (s.put64 f g i v).pages = s.pages ∧ (s.put64 f g i v).lastPlan = s.lastPlan ∧
    (s.put64 f g i v).digestWait = s.digestWait ∧ (s.put64 f g i v).codec = s.codec ∧ (s.put64 f g i v).dram = s.dram ∧
    (s.put64 f g i v).scr = s.scr ∧ (s.put64 f g i v).ff = s.ff ∧ (s.put64 f g i v).fpe = s.fpe ∧ (s.put64 f g i v).ports = s.ports ∧
    (s.put64 f g i v).posn = s.posn ∧ (s.put64 f g i v).loop = s.loop ∧ (s.put64 f g i v).ins = s.ins ∧
    (s.put64 f g i v).light = s.light ∧ (s.put64 f g i v).mot = s.mot ∧ (s.put64 f g i v).mc = s.mc ∧ (s.put64 f g i v).twin = s.twin ∧
    (s.put64 f g i v).net = s.net ∧ (s.put64 f g i v).ptp = s.ptp ∧ (s.put64 f g i v).met = s.met ∧ (s.put64 f g i v).tally = s.tally ∧
    (s.put64 f g i v).cal = s.cal ∧ (s.put64 f g i v).hmWait = s.hmWait ∧ (s.put64 f g i v).aborts = s.aborts ∧
    (s.put64 f g i v).pending = s.pending :=
  ⟨rfl, rfl, rfl, rfl, rfl, rfl, rfl, rfl, rfl, rfl, rfl, rfl, rfl, rfl, rfl, rfl, rfl, rfl, rfl, rfl, rfl, rfl, rfl, rfl, rfl, rfl, rfl, rfl, rfl, rfl, rfl, rfl, rfl, rfl, rfl, rfl, rfl, rfl, rfl⟩

/-- `clear` changes only `regs`. -/
@[simp] theorem State.clear_frame (s : State) (f : Fld) (i : Nat) :
    (s.clear f i).now = s.now ∧ (s.clear f i).ft = s.ft ∧ (s.clear f i).pins = s.pins ∧ (s.clear f i).force = s.force ∧
    (s.clear f i).snap = s.snap ∧ (s.clear f i).rst = s.rst ∧ (s.clear f i).img = s.img ∧ (s.clear f i).ev = s.ev ∧
    (s.clear f i).sps = s.sps ∧ (s.clear f i).sent = s.sent ∧ (s.clear f i).colTx = s.colTx ∧ (s.clear f i).freeCtr = s.freeCtr ∧
    (s.clear f i).lanes = s.lanes ∧ (s.clear f i).linkUp = s.linkUp ∧ (s.clear f i).ingest = s.ingest ∧ (s.clear f i).pages = s.pages ∧
    (s.clear f i).lastPlan = s.lastPlan ∧ (s.clear f i).digestWait = s.digestWait ∧ (s.clear f i).codec = s.codec ∧
    (s.clear f i).dram = s.dram ∧ (s.clear f i).scr = s.scr ∧ (s.clear f i).ff = s.ff ∧ (s.clear f i).fpe = s.fpe ∧
    (s.clear f i).ports = s.ports ∧ (s.clear f i).posn = s.posn ∧ (s.clear f i).loop = s.loop ∧ (s.clear f i).ins = s.ins ∧
    (s.clear f i).light = s.light ∧ (s.clear f i).mot = s.mot ∧ (s.clear f i).mc = s.mc ∧ (s.clear f i).twin = s.twin ∧
    (s.clear f i).net = s.net ∧ (s.clear f i).ptp = s.ptp ∧ (s.clear f i).met = s.met ∧ (s.clear f i).tally = s.tally ∧
    (s.clear f i).cal = s.cal ∧ (s.clear f i).hmWait = s.hmWait ∧ (s.clear f i).aborts = s.aborts ∧ (s.clear f i).pending = s.pending :=
  ⟨rfl, rfl, rfl, rfl, rfl, rfl, rfl, rfl, rfl, rfl, rfl, rfl, rfl, rfl, rfl, rfl, rfl, rfl, rfl, rfl, rfl, rfl, rfl, rfl, rfl, rfl, rfl, rfl, rfl, rfl, rfl, rfl, rfl, rfl, rfl, rfl, rfl, rfl, rfl⟩

/-- `bump` changes only `regs`. -/
@[simp] theorem State.bump_frame (s : State) (f : Fld) (i : Nat) :
    (s.bump f i).now = s.now ∧ (s.bump f i).ft = s.ft ∧ (s.bump f i).pins = s.pins ∧ (s.bump f i).force = s.force ∧
    (s.bump f i).snap = s.snap ∧ (s.bump f i).rst = s.rst ∧ (s.bump f i).img = s.img ∧ (s.bump f i).ev = s.ev ∧ (s.bump f i).sps = s.sps ∧
    (s.bump f i).sent = s.sent ∧ (s.bump f i).colTx = s.colTx ∧ (s.bump f i).freeCtr = s.freeCtr ∧ (s.bump f i).lanes = s.lanes ∧
    (s.bump f i).linkUp = s.linkUp ∧ (s.bump f i).ingest = s.ingest ∧ (s.bump f i).pages = s.pages ∧ (s.bump f i).lastPlan = s.lastPlan ∧
    (s.bump f i).digestWait = s.digestWait ∧ (s.bump f i).codec = s.codec ∧ (s.bump f i).dram = s.dram ∧ (s.bump f i).scr = s.scr ∧
    (s.bump f i).ff = s.ff ∧ (s.bump f i).fpe = s.fpe ∧ (s.bump f i).ports = s.ports ∧ (s.bump f i).posn = s.posn ∧
    (s.bump f i).loop = s.loop ∧ (s.bump f i).ins = s.ins ∧ (s.bump f i).light = s.light ∧ (s.bump f i).mot = s.mot ∧
    (s.bump f i).mc = s.mc ∧ (s.bump f i).twin = s.twin ∧ (s.bump f i).net = s.net ∧ (s.bump f i).ptp = s.ptp ∧ (s.bump f i).met = s.met ∧
    (s.bump f i).tally = s.tally ∧ (s.bump f i).cal = s.cal ∧ (s.bump f i).hmWait = s.hmWait ∧ (s.bump f i).aborts = s.aborts ∧
    (s.bump f i).pending = s.pending :=
  ⟨rfl, rfl, rfl, rfl, rfl, rfl, rfl, rfl, rfl, rfl, rfl, rfl, rfl, rfl, rfl, rfl, rfl, rfl, rfl, rfl, rfl, rfl, rfl, rfl, rfl, rfl, rfl, rfl, rfl, rfl, rfl, rfl, rfl, rfl, rfl, rfl, rfl, rfl, rfl⟩

/-- `setUnfit` changes only `regs`. -/
@[simp] theorem State.setUnfit_frame (s : State) (b : Nat) (on : Bool) :
    (s.setUnfit b on).now = s.now ∧ (s.setUnfit b on).ft = s.ft ∧ (s.setUnfit b on).pins = s.pins ∧ (s.setUnfit b on).force = s.force ∧
    (s.setUnfit b on).snap = s.snap ∧ (s.setUnfit b on).rst = s.rst ∧ (s.setUnfit b on).img = s.img ∧ (s.setUnfit b on).ev = s.ev ∧
    (s.setUnfit b on).sps = s.sps ∧ (s.setUnfit b on).sent = s.sent ∧ (s.setUnfit b on).colTx = s.colTx ∧
    (s.setUnfit b on).freeCtr = s.freeCtr ∧ (s.setUnfit b on).lanes = s.lanes ∧ (s.setUnfit b on).linkUp = s.linkUp ∧
    (s.setUnfit b on).ingest = s.ingest ∧ (s.setUnfit b on).pages = s.pages ∧ (s.setUnfit b on).lastPlan = s.lastPlan ∧
    (s.setUnfit b on).digestWait = s.digestWait ∧ (s.setUnfit b on).codec = s.codec ∧ (s.setUnfit b on).dram = s.dram ∧
    (s.setUnfit b on).scr = s.scr ∧ (s.setUnfit b on).ff = s.ff ∧ (s.setUnfit b on).fpe = s.fpe ∧ (s.setUnfit b on).ports = s.ports ∧
    (s.setUnfit b on).posn = s.posn ∧ (s.setUnfit b on).loop = s.loop ∧ (s.setUnfit b on).ins = s.ins ∧
    (s.setUnfit b on).light = s.light ∧ (s.setUnfit b on).mot = s.mot ∧ (s.setUnfit b on).mc = s.mc ∧ (s.setUnfit b on).twin = s.twin ∧
    (s.setUnfit b on).net = s.net ∧ (s.setUnfit b on).ptp = s.ptp ∧ (s.setUnfit b on).met = s.met ∧ (s.setUnfit b on).tally = s.tally ∧
    (s.setUnfit b on).cal = s.cal ∧ (s.setUnfit b on).hmWait = s.hmWait ∧ (s.setUnfit b on).aborts = s.aborts ∧
    (s.setUnfit b on).pending = s.pending :=
  ⟨rfl, rfl, rfl, rfl, rfl, rfl, rfl, rfl, rfl, rfl, rfl, rfl, rfl, rfl, rfl, rfl, rfl, rfl, rfl, rfl, rfl, rfl, rfl, rfl, rfl, rfl, rfl, rfl, rfl, rfl, rfl, rfl, rfl, rfl, rfl, rfl, rfl, rfl, rfl⟩

/-- `setDevState` changes only `regs`. -/
@[simp] theorem State.setDevState_frame (s : State) (v : Nat) :
    (s.setDevState v).now = s.now ∧ (s.setDevState v).ft = s.ft ∧ (s.setDevState v).pins = s.pins ∧ (s.setDevState v).force = s.force ∧
    (s.setDevState v).snap = s.snap ∧ (s.setDevState v).rst = s.rst ∧ (s.setDevState v).img = s.img ∧ (s.setDevState v).ev = s.ev ∧
    (s.setDevState v).sps = s.sps ∧ (s.setDevState v).sent = s.sent ∧ (s.setDevState v).colTx = s.colTx ∧
    (s.setDevState v).freeCtr = s.freeCtr ∧ (s.setDevState v).lanes = s.lanes ∧ (s.setDevState v).linkUp = s.linkUp ∧
    (s.setDevState v).ingest = s.ingest ∧ (s.setDevState v).pages = s.pages ∧ (s.setDevState v).lastPlan = s.lastPlan ∧
    (s.setDevState v).digestWait = s.digestWait ∧ (s.setDevState v).codec = s.codec ∧ (s.setDevState v).dram = s.dram ∧
    (s.setDevState v).scr = s.scr ∧ (s.setDevState v).ff = s.ff ∧ (s.setDevState v).fpe = s.fpe ∧ (s.setDevState v).ports = s.ports ∧
    (s.setDevState v).posn = s.posn ∧ (s.setDevState v).loop = s.loop ∧ (s.setDevState v).ins = s.ins ∧
    (s.setDevState v).light = s.light ∧ (s.setDevState v).mot = s.mot ∧ (s.setDevState v).mc = s.mc ∧ (s.setDevState v).twin = s.twin ∧
    (s.setDevState v).net = s.net ∧ (s.setDevState v).ptp = s.ptp ∧ (s.setDevState v).met = s.met ∧ (s.setDevState v).tally = s.tally ∧
    (s.setDevState v).cal = s.cal ∧ (s.setDevState v).hmWait = s.hmWait ∧ (s.setDevState v).aborts = s.aborts ∧
    (s.setDevState v).pending = s.pending :=
  ⟨rfl, rfl, rfl, rfl, rfl, rfl, rfl, rfl, rfl, rfl, rfl, rfl, rfl, rfl, rfl, rfl, rfl, rfl, rfl, rfl, rfl, rfl, rfl, rfl, rfl, rfl, rfl, rfl, rfl, rfl, rfl, rfl, rfl, rfl, rfl, rfl, rfl, rfl, rfl⟩

/-- `nextOpen` changes only `freeCtr`. -/
@[simp] theorem State.nextOpen_frame (s : State)  :
    (s.nextOpen).now = s.now ∧ (s.nextOpen).ft = s.ft ∧ (s.nextOpen).pins = s.pins ∧ (s.nextOpen).regs = s.regs ∧
    (s.nextOpen).force = s.force ∧ (s.nextOpen).snap = s.snap ∧ (s.nextOpen).rst = s.rst ∧ (s.nextOpen).img = s.img ∧
    (s.nextOpen).ev = s.ev ∧ (s.nextOpen).sps = s.sps ∧ (s.nextOpen).sent = s.sent ∧ (s.nextOpen).colTx = s.colTx ∧
    (s.nextOpen).lanes = s.lanes ∧ (s.nextOpen).linkUp = s.linkUp ∧ (s.nextOpen).ingest = s.ingest ∧ (s.nextOpen).pages = s.pages ∧
    (s.nextOpen).lastPlan = s.lastPlan ∧ (s.nextOpen).digestWait = s.digestWait ∧ (s.nextOpen).codec = s.codec ∧
    (s.nextOpen).dram = s.dram ∧ (s.nextOpen).scr = s.scr ∧ (s.nextOpen).ff = s.ff ∧ (s.nextOpen).fpe = s.fpe ∧
    (s.nextOpen).ports = s.ports ∧ (s.nextOpen).posn = s.posn ∧ (s.nextOpen).loop = s.loop ∧ (s.nextOpen).ins = s.ins ∧
    (s.nextOpen).light = s.light ∧ (s.nextOpen).mot = s.mot ∧ (s.nextOpen).mc = s.mc ∧ (s.nextOpen).twin = s.twin ∧
    (s.nextOpen).net = s.net ∧ (s.nextOpen).ptp = s.ptp ∧ (s.nextOpen).met = s.met ∧ (s.nextOpen).tally = s.tally ∧
    (s.nextOpen).cal = s.cal ∧ (s.nextOpen).hmWait = s.hmWait ∧ (s.nextOpen).aborts = s.aborts ∧ (s.nextOpen).pending = s.pending :=
  ⟨rfl, rfl, rfl, rfl, rfl, rfl, rfl, rfl, rfl, rfl, rfl, rfl, rfl, rfl, rfl, rfl, rfl, rfl, rfl, rfl, rfl, rfl, rfl, rfl, rfl, rfl, rfl, rfl, rfl, rfl, rfl, rfl, rfl, rfl, rfl, rfl, rfl, rfl, rfl⟩

@[simp] theorem State.get_nextOpen (s : State)  (g : Fld) (j : Nat) : (s.nextOpen).get g j = s.get g j := by
  unfold State.get; simp

/-- `dramWrite` changes only `dram`. -/
@[simp] theorem State.dramWrite_frame (s : State) (a : Nat) (b : List Byte) :
    (s.dramWrite a b).now = s.now ∧ (s.dramWrite a b).ft = s.ft ∧ (s.dramWrite a b).pins = s.pins ∧ (s.dramWrite a b).regs = s.regs ∧
    (s.dramWrite a b).force = s.force ∧ (s.dramWrite a b).snap = s.snap ∧ (s.dramWrite a b).rst = s.rst ∧ (s.dramWrite a b).img = s.img ∧
    (s.dramWrite a b).ev = s.ev ∧ (s.dramWrite a b).sps = s.sps ∧ (s.dramWrite a b).sent = s.sent ∧ (s.dramWrite a b).colTx = s.colTx ∧
    (s.dramWrite a b).freeCtr = s.freeCtr ∧ (s.dramWrite a b).lanes = s.lanes ∧ (s.dramWrite a b).linkUp = s.linkUp ∧
    (s.dramWrite a b).ingest = s.ingest ∧ (s.dramWrite a b).pages = s.pages ∧ (s.dramWrite a b).lastPlan = s.lastPlan ∧
    (s.dramWrite a b).digestWait = s.digestWait ∧ (s.dramWrite a b).codec = s.codec ∧ (s.dramWrite a b).scr = s.scr ∧
    (s.dramWrite a b).ff = s.ff ∧ (s.dramWrite a b).fpe = s.fpe ∧ (s.dramWrite a b).ports = s.ports ∧ (s.dramWrite a b).posn = s.posn ∧
    (s.dramWrite a b).loop = s.loop ∧ (s.dramWrite a b).ins = s.ins ∧ (s.dramWrite a b).light = s.light ∧ (s.dramWrite a b).mot = s.mot ∧
    (s.dramWrite a b).mc = s.mc ∧ (s.dramWrite a b).twin = s.twin ∧ (s.dramWrite a b).net = s.net ∧ (s.dramWrite a b).ptp = s.ptp ∧
    (s.dramWrite a b).met = s.met ∧ (s.dramWrite a b).tally = s.tally ∧ (s.dramWrite a b).cal = s.cal ∧
    (s.dramWrite a b).hmWait = s.hmWait ∧ (s.dramWrite a b).aborts = s.aborts ∧ (s.dramWrite a b).pending = s.pending :=
  ⟨rfl, rfl, rfl, rfl, rfl, rfl, rfl, rfl, rfl, rfl, rfl, rfl, rfl, rfl, rfl, rfl, rfl, rfl, rfl, rfl, rfl, rfl, rfl, rfl, rfl, rfl, rfl, rfl, rfl, rfl, rfl, rfl, rfl, rfl, rfl, rfl, rfl, rfl, rfl⟩

@[simp] theorem State.get_dramWrite (s : State) (a : Nat) (b : List Byte) (g : Fld) (j : Nat) : (s.dramWrite a b).get g j = s.get g j := by
  unfold State.get; simp

/-- `send` changes only `sent`. -/
@[simp] theorem State.send_frame (s : State) (o : Out) :
    (s.send o).now = s.now ∧ (s.send o).ft = s.ft ∧ (s.send o).pins = s.pins ∧ (s.send o).regs = s.regs ∧ (s.send o).force = s.force ∧
    (s.send o).snap = s.snap ∧ (s.send o).rst = s.rst ∧ (s.send o).img = s.img ∧ (s.send o).ev = s.ev ∧ (s.send o).sps = s.sps ∧
    (s.send o).colTx = s.colTx ∧ (s.send o).freeCtr = s.freeCtr ∧ (s.send o).lanes = s.lanes ∧ (s.send o).linkUp = s.linkUp ∧
    (s.send o).ingest = s.ingest ∧ (s.send o).pages = s.pages ∧ (s.send o).lastPlan = s.lastPlan ∧ (s.send o).digestWait = s.digestWait ∧
    (s.send o).codec = s.codec ∧ (s.send o).dram = s.dram ∧ (s.send o).scr = s.scr ∧ (s.send o).ff = s.ff ∧ (s.send o).fpe = s.fpe ∧
    (s.send o).ports = s.ports ∧ (s.send o).posn = s.posn ∧ (s.send o).loop = s.loop ∧ (s.send o).ins = s.ins ∧
    (s.send o).light = s.light ∧ (s.send o).mot = s.mot ∧ (s.send o).mc = s.mc ∧ (s.send o).twin = s.twin ∧ (s.send o).net = s.net ∧
    (s.send o).ptp = s.ptp ∧ (s.send o).met = s.met ∧ (s.send o).tally = s.tally ∧ (s.send o).cal = s.cal ∧ (s.send o).hmWait = s.hmWait ∧
    (s.send o).aborts = s.aborts ∧ (s.send o).pending = s.pending :=
  ⟨rfl, rfl, rfl, rfl, rfl, rfl, rfl, rfl, rfl, rfl, rfl, rfl, rfl, rfl, rfl, rfl, rfl, rfl, rfl, rfl, rfl, rfl, rfl, rfl, rfl, rfl, rfl, rfl, rfl, rfl, rfl, rfl, rfl, rfl, rfl, rfl, rfl, rfl, rfl⟩

@[simp] theorem State.get_send (s : State) (o : Out) (g : Fld) (j : Nat) : (s.send o).get g j = s.get g j := by
  unfold State.get; simp

/-- What `sendCol` may change. -/
theorem State.sendCol_eq (s : State) (n : Nat) (l : List Nat) :
    ∃ x0, s.sendCol n l = { s with colTx := x0 } := by
  unfold State.sendCol; split
  · exact ⟨_, rfl⟩
  · exact ⟨_, rfl⟩

/-- `sendCol` changes only `colTx`. -/
@[simp] theorem State.sendCol_frame (s : State) (n : Nat) (l : List Nat) :
    (s.sendCol n l).now = s.now ∧ (s.sendCol n l).ft = s.ft ∧ (s.sendCol n l).pins = s.pins ∧ (s.sendCol n l).regs = s.regs ∧
    (s.sendCol n l).force = s.force ∧ (s.sendCol n l).snap = s.snap ∧ (s.sendCol n l).rst = s.rst ∧ (s.sendCol n l).img = s.img ∧
    (s.sendCol n l).ev = s.ev ∧ (s.sendCol n l).sps = s.sps ∧ (s.sendCol n l).sent = s.sent ∧ (s.sendCol n l).freeCtr = s.freeCtr ∧
    (s.sendCol n l).lanes = s.lanes ∧ (s.sendCol n l).linkUp = s.linkUp ∧ (s.sendCol n l).ingest = s.ingest ∧
    (s.sendCol n l).pages = s.pages ∧ (s.sendCol n l).lastPlan = s.lastPlan ∧ (s.sendCol n l).digestWait = s.digestWait ∧
    (s.sendCol n l).codec = s.codec ∧ (s.sendCol n l).dram = s.dram ∧ (s.sendCol n l).scr = s.scr ∧ (s.sendCol n l).ff = s.ff ∧
    (s.sendCol n l).fpe = s.fpe ∧ (s.sendCol n l).ports = s.ports ∧ (s.sendCol n l).posn = s.posn ∧ (s.sendCol n l).loop = s.loop ∧
    (s.sendCol n l).ins = s.ins ∧ (s.sendCol n l).light = s.light ∧ (s.sendCol n l).mot = s.mot ∧ (s.sendCol n l).mc = s.mc ∧
    (s.sendCol n l).twin = s.twin ∧ (s.sendCol n l).net = s.net ∧ (s.sendCol n l).ptp = s.ptp ∧ (s.sendCol n l).met = s.met ∧
    (s.sendCol n l).tally = s.tally ∧ (s.sendCol n l).cal = s.cal ∧ (s.sendCol n l).hmWait = s.hmWait ∧
    (s.sendCol n l).aborts = s.aborts ∧ (s.sendCol n l).pending = s.pending :=
  by
  obtain ⟨x0, h⟩ := s.sendCol_eq n l
  rw [h]
  exact ⟨rfl, rfl, rfl, rfl, rfl, rfl, rfl, rfl, rfl, rfl, rfl, rfl, rfl, rfl, rfl, rfl, rfl, rfl, rfl, rfl, rfl, rfl, rfl, rfl, rfl, rfl, rfl, rfl, rfl, rfl, rfl, rfl, rfl, rfl, rfl, rfl, rfl, rfl, rfl⟩

@[simp] theorem State.get_sendCol (s : State) (n : Nat) (l : List Nat) (g : Fld) (j : Nat) : (s.sendCol n l).get g j = s.get g j := by
  unfold State.get; simp

/-- What `safeOutputs` may change. -/
theorem State.safeOutputs_eq (s : State)  :
    ∃ x0, s.safeOutputs = { s with pins := x0 } := by
  unfold State.safeOutputs; split
  · exact ⟨_, rfl⟩
  · exact ⟨_, rfl⟩

/-- `safeOutputs` changes only `pins`. -/
@[simp] theorem State.safeOutputs_frame (s : State)  :
    (s.safeOutputs).now = s.now ∧ (s.safeOutputs).ft = s.ft ∧ (s.safeOutputs).regs = s.regs ∧ (s.safeOutputs).force = s.force ∧
    (s.safeOutputs).snap = s.snap ∧ (s.safeOutputs).rst = s.rst ∧ (s.safeOutputs).img = s.img ∧ (s.safeOutputs).ev = s.ev ∧
    (s.safeOutputs).sps = s.sps ∧ (s.safeOutputs).sent = s.sent ∧ (s.safeOutputs).colTx = s.colTx ∧ (s.safeOutputs).freeCtr = s.freeCtr ∧
    (s.safeOutputs).lanes = s.lanes ∧ (s.safeOutputs).linkUp = s.linkUp ∧ (s.safeOutputs).ingest = s.ingest ∧
    (s.safeOutputs).pages = s.pages ∧ (s.safeOutputs).lastPlan = s.lastPlan ∧ (s.safeOutputs).digestWait = s.digestWait ∧
    (s.safeOutputs).codec = s.codec ∧ (s.safeOutputs).dram = s.dram ∧ (s.safeOutputs).scr = s.scr ∧ (s.safeOutputs).ff = s.ff ∧
    (s.safeOutputs).fpe = s.fpe ∧ (s.safeOutputs).ports = s.ports ∧ (s.safeOutputs).posn = s.posn ∧ (s.safeOutputs).loop = s.loop ∧
    (s.safeOutputs).ins = s.ins ∧ (s.safeOutputs).light = s.light ∧ (s.safeOutputs).mot = s.mot ∧ (s.safeOutputs).mc = s.mc ∧
    (s.safeOutputs).twin = s.twin ∧ (s.safeOutputs).net = s.net ∧ (s.safeOutputs).ptp = s.ptp ∧ (s.safeOutputs).met = s.met ∧
    (s.safeOutputs).tally = s.tally ∧ (s.safeOutputs).cal = s.cal ∧ (s.safeOutputs).hmWait = s.hmWait ∧
    (s.safeOutputs).aborts = s.aborts ∧ (s.safeOutputs).pending = s.pending :=
  by
  obtain ⟨x0, h⟩ := s.safeOutputs_eq 
  rw [h]
  exact ⟨rfl, rfl, rfl, rfl, rfl, rfl, rfl, rfl, rfl, rfl, rfl, rfl, rfl, rfl, rfl, rfl, rfl, rfl, rfl, rfl, rfl, rfl, rfl, rfl, rfl, rfl, rfl, rfl, rfl, rfl, rfl, rfl, rfl, rfl, rfl, rfl, rfl, rfl, rfl⟩

@[simp] theorem State.get_safeOutputs (s : State)  (g : Fld) (j : Nat) : (s.safeOutputs).get g j = s.get g j := by
  unfold State.get; simp

/-- `safeLamp` changes only `pins`. -/
@[simp] theorem State.safeLamp_frame (s : State) (n : Nat) :
    (s.safeLamp n).now = s.now ∧ (s.safeLamp n).ft = s.ft ∧ (s.safeLamp n).regs = s.regs ∧ (s.safeLamp n).force = s.force ∧
    (s.safeLamp n).snap = s.snap ∧ (s.safeLamp n).rst = s.rst ∧ (s.safeLamp n).img = s.img ∧ (s.safeLamp n).ev = s.ev ∧
    (s.safeLamp n).sps = s.sps ∧ (s.safeLamp n).sent = s.sent ∧ (s.safeLamp n).colTx = s.colTx ∧ (s.safeLamp n).freeCtr = s.freeCtr ∧
    (s.safeLamp n).lanes = s.lanes ∧ (s.safeLamp n).linkUp = s.linkUp ∧ (s.safeLamp n).ingest = s.ingest ∧
    (s.safeLamp n).pages = s.pages ∧ (s.safeLamp n).lastPlan = s.lastPlan ∧ (s.safeLamp n).digestWait = s.digestWait ∧
    (s.safeLamp n).codec = s.codec ∧ (s.safeLamp n).dram = s.dram ∧ (s.safeLamp n).scr = s.scr ∧ (s.safeLamp n).ff = s.ff ∧
    (s.safeLamp n).fpe = s.fpe ∧ (s.safeLamp n).ports = s.ports ∧ (s.safeLamp n).posn = s.posn ∧ (s.safeLamp n).loop = s.loop ∧
    (s.safeLamp n).ins = s.ins ∧ (s.safeLamp n).light = s.light ∧ (s.safeLamp n).mot = s.mot ∧ (s.safeLamp n).mc = s.mc ∧
    (s.safeLamp n).twin = s.twin ∧ (s.safeLamp n).net = s.net ∧ (s.safeLamp n).ptp = s.ptp ∧ (s.safeLamp n).met = s.met ∧
    (s.safeLamp n).tally = s.tally ∧ (s.safeLamp n).cal = s.cal ∧ (s.safeLamp n).hmWait = s.hmWait ∧ (s.safeLamp n).aborts = s.aborts ∧
    (s.safeLamp n).pending = s.pending :=
  ⟨rfl, rfl, rfl, rfl, rfl, rfl, rfl, rfl, rfl, rfl, rfl, rfl, rfl, rfl, rfl, rfl, rfl, rfl, rfl, rfl, rfl, rfl, rfl, rfl, rfl, rfl, rfl, rfl, rfl, rfl, rfl, rfl, rfl, rfl, rfl, rfl, rfl, rfl, rfl⟩

@[simp] theorem State.get_safeLamp (s : State) (n : Nat) (g : Fld) (j : Nat) : (s.safeLamp n).get g j = s.get g j := by
  unfold State.get; simp

/-- `safeAxis` changes only `pins`. -/
@[simp] theorem State.safeAxis_frame (s : State) (n : Nat) :
    (s.safeAxis n).now = s.now ∧ (s.safeAxis n).ft = s.ft ∧ (s.safeAxis n).regs = s.regs ∧ (s.safeAxis n).force = s.force ∧
    (s.safeAxis n).snap = s.snap ∧ (s.safeAxis n).rst = s.rst ∧ (s.safeAxis n).img = s.img ∧ (s.safeAxis n).ev = s.ev ∧
    (s.safeAxis n).sps = s.sps ∧ (s.safeAxis n).sent = s.sent ∧ (s.safeAxis n).colTx = s.colTx ∧ (s.safeAxis n).freeCtr = s.freeCtr ∧
    (s.safeAxis n).lanes = s.lanes ∧ (s.safeAxis n).linkUp = s.linkUp ∧ (s.safeAxis n).ingest = s.ingest ∧
    (s.safeAxis n).pages = s.pages ∧ (s.safeAxis n).lastPlan = s.lastPlan ∧ (s.safeAxis n).digestWait = s.digestWait ∧
    (s.safeAxis n).codec = s.codec ∧ (s.safeAxis n).dram = s.dram ∧ (s.safeAxis n).scr = s.scr ∧ (s.safeAxis n).ff = s.ff ∧
    (s.safeAxis n).fpe = s.fpe ∧ (s.safeAxis n).ports = s.ports ∧ (s.safeAxis n).posn = s.posn ∧ (s.safeAxis n).loop = s.loop ∧
    (s.safeAxis n).ins = s.ins ∧ (s.safeAxis n).light = s.light ∧ (s.safeAxis n).mot = s.mot ∧ (s.safeAxis n).mc = s.mc ∧
    (s.safeAxis n).twin = s.twin ∧ (s.safeAxis n).net = s.net ∧ (s.safeAxis n).ptp = s.ptp ∧ (s.safeAxis n).met = s.met ∧
    (s.safeAxis n).tally = s.tally ∧ (s.safeAxis n).cal = s.cal ∧ (s.safeAxis n).hmWait = s.hmWait ∧ (s.safeAxis n).aborts = s.aborts ∧
    (s.safeAxis n).pending = s.pending :=
  ⟨rfl, rfl, rfl, rfl, rfl, rfl, rfl, rfl, rfl, rfl, rfl, rfl, rfl, rfl, rfl, rfl, rfl, rfl, rfl, rfl, rfl, rfl, rfl, rfl, rfl, rfl, rfl, rfl, rfl, rfl, rfl, rfl, rfl, rfl, rfl, rfl, rfl, rfl, rfl⟩

@[simp] theorem State.get_safeAxis (s : State) (n : Nat) (g : Fld) (j : Nat) : (s.safeAxis n).get g j = s.get g j := by
  unfold State.get; simp

/-- `safeCam` changes only `pins`. -/
@[simp] theorem State.safeCam_frame (s : State) (n : Nat) :
    (s.safeCam n).now = s.now ∧ (s.safeCam n).ft = s.ft ∧ (s.safeCam n).regs = s.regs ∧ (s.safeCam n).force = s.force ∧
    (s.safeCam n).snap = s.snap ∧ (s.safeCam n).rst = s.rst ∧ (s.safeCam n).img = s.img ∧ (s.safeCam n).ev = s.ev ∧
    (s.safeCam n).sps = s.sps ∧ (s.safeCam n).sent = s.sent ∧ (s.safeCam n).colTx = s.colTx ∧ (s.safeCam n).freeCtr = s.freeCtr ∧
    (s.safeCam n).lanes = s.lanes ∧ (s.safeCam n).linkUp = s.linkUp ∧ (s.safeCam n).ingest = s.ingest ∧ (s.safeCam n).pages = s.pages ∧
    (s.safeCam n).lastPlan = s.lastPlan ∧ (s.safeCam n).digestWait = s.digestWait ∧ (s.safeCam n).codec = s.codec ∧
    (s.safeCam n).dram = s.dram ∧ (s.safeCam n).scr = s.scr ∧ (s.safeCam n).ff = s.ff ∧ (s.safeCam n).fpe = s.fpe ∧
    (s.safeCam n).ports = s.ports ∧ (s.safeCam n).posn = s.posn ∧ (s.safeCam n).loop = s.loop ∧ (s.safeCam n).ins = s.ins ∧
    (s.safeCam n).light = s.light ∧ (s.safeCam n).mot = s.mot ∧ (s.safeCam n).mc = s.mc ∧ (s.safeCam n).twin = s.twin ∧
    (s.safeCam n).net = s.net ∧ (s.safeCam n).ptp = s.ptp ∧ (s.safeCam n).met = s.met ∧ (s.safeCam n).tally = s.tally ∧
    (s.safeCam n).cal = s.cal ∧ (s.safeCam n).hmWait = s.hmWait ∧ (s.safeCam n).aborts = s.aborts ∧ (s.safeCam n).pending = s.pending :=
  ⟨rfl, rfl, rfl, rfl, rfl, rfl, rfl, rfl, rfl, rfl, rfl, rfl, rfl, rfl, rfl, rfl, rfl, rfl, rfl, rfl, rfl, rfl, rfl, rfl, rfl, rfl, rfl, rfl, rfl, rfl, rfl, rfl, rfl, rfl, rfl, rfl, rfl, rfl, rfl⟩

@[simp] theorem State.get_safeCam (s : State) (n : Nat) (g : Fld) (j : Nat) : (s.safeCam n).get g j = s.get g j := by
  unfold State.get; simp

/-- What `loseRecord` may change. -/
theorem State.loseRecord_eq (s : State) (n : Nat) :
    ∃ x0 x1, s.loseRecord n = { s with regs := x0, ev := x1 } := by
  unfold State.loseRecord; dsimp only; split
  · exact ⟨_, _, rfl⟩
  · exact ⟨_, _, rfl⟩

/-- `loseRecord` changes only `ev`, `regs`. -/
@[simp] theorem State.loseRecord_frame (s : State) (n : Nat) :
    (s.loseRecord n).now = s.now ∧ (s.loseRecord n).ft = s.ft ∧ (s.loseRecord n).pins = s.pins ∧ (s.loseRecord n).force = s.force ∧
    (s.loseRecord n).snap = s.snap ∧ (s.loseRecord n).rst = s.rst ∧ (s.loseRecord n).img = s.img ∧ (s.loseRecord n).sps = s.sps ∧
    (s.loseRecord n).sent = s.sent ∧ (s.loseRecord n).colTx = s.colTx ∧ (s.loseRecord n).freeCtr = s.freeCtr ∧
    (s.loseRecord n).lanes = s.lanes ∧ (s.loseRecord n).linkUp = s.linkUp ∧ (s.loseRecord n).ingest = s.ingest ∧
    (s.loseRecord n).pages = s.pages ∧ (s.loseRecord n).lastPlan = s.lastPlan ∧ (s.loseRecord n).digestWait = s.digestWait ∧
    (s.loseRecord n).codec = s.codec ∧ (s.loseRecord n).dram = s.dram ∧ (s.loseRecord n).scr = s.scr ∧ (s.loseRecord n).ff = s.ff ∧
    (s.loseRecord n).fpe = s.fpe ∧ (s.loseRecord n).ports = s.ports ∧ (s.loseRecord n).posn = s.posn ∧ (s.loseRecord n).loop = s.loop ∧
    (s.loseRecord n).ins = s.ins ∧ (s.loseRecord n).light = s.light ∧ (s.loseRecord n).mot = s.mot ∧ (s.loseRecord n).mc = s.mc ∧
    (s.loseRecord n).twin = s.twin ∧ (s.loseRecord n).net = s.net ∧ (s.loseRecord n).ptp = s.ptp ∧ (s.loseRecord n).met = s.met ∧
    (s.loseRecord n).tally = s.tally ∧ (s.loseRecord n).cal = s.cal ∧ (s.loseRecord n).hmWait = s.hmWait ∧
    (s.loseRecord n).aborts = s.aborts ∧ (s.loseRecord n).pending = s.pending :=
  by
  obtain ⟨x0, x1, h⟩ := s.loseRecord_eq n
  rw [h]
  exact ⟨rfl, rfl, rfl, rfl, rfl, rfl, rfl, rfl, rfl, rfl, rfl, rfl, rfl, rfl, rfl, rfl, rfl, rfl, rfl, rfl, rfl, rfl, rfl, rfl, rfl, rfl, rfl, rfl, rfl, rfl, rfl, rfl, rfl, rfl, rfl, rfl, rfl, rfl⟩

/-- What `spill` may change. -/
theorem State.spill_eq (s : State) (r : EvRec) :
    ∃ x0 x1, s.spill r = { s with regs := x0, ev := x1 } := by
  unfold State.spill; dsimp only; split
  · exact ⟨_, _, rfl⟩
  · exact s.loseRecord_eq _

/-- `spill` changes only `ev`, `regs`. -/
@[simp] theorem State.spill_frame (s : State) (r : EvRec) :
    (s.spill r).now = s.now ∧ (s.spill r).ft = s.ft ∧ (s.spill r).pins = s.pins ∧ (s.spill r).force = s.force ∧
    (s.spill r).snap = s.snap ∧ (s.spill r).rst = s.rst ∧ (s.spill r).img = s.img ∧ (s.spill r).sps = s.sps ∧ (s.spill r).sent = s.sent ∧
    (s.spill r).colTx = s.colTx ∧ (s.spill r).freeCtr = s.freeCtr ∧ (s.spill r).lanes = s.lanes ∧ (s.spill r).linkUp = s.linkUp ∧
    (s.spill r).ingest = s.ingest ∧ (s.spill r).pages = s.pages ∧ (s.spill r).lastPlan = s.lastPlan ∧
    (s.spill r).digestWait = s.digestWait ∧ (s.spill r).codec = s.codec ∧ (s.spill r).dram = s.dram ∧ (s.spill r).scr = s.scr ∧
    (s.spill r).ff = s.ff ∧ (s.spill r).fpe = s.fpe ∧ (s.spill r).ports = s.ports ∧ (s.spill r).posn = s.posn ∧
    (s.spill r).loop = s.loop ∧ (s.spill r).ins = s.ins ∧ (s.spill r).light = s.light ∧ (s.spill r).mot = s.mot ∧ (s.spill r).mc = s.mc ∧
    (s.spill r).twin = s.twin ∧ (s.spill r).net = s.net ∧ (s.spill r).ptp = s.ptp ∧ (s.spill r).met = s.met ∧
    (s.spill r).tally = s.tally ∧ (s.spill r).cal = s.cal ∧ (s.spill r).hmWait = s.hmWait ∧ (s.spill r).aborts = s.aborts ∧
    (s.spill r).pending = s.pending :=
  by
  obtain ⟨x0, x1, h⟩ := s.spill_eq r
  rw [h]
  exact ⟨rfl, rfl, rfl, rfl, rfl, rfl, rfl, rfl, rfl, rfl, rfl, rfl, rfl, rfl, rfl, rfl, rfl, rfl, rfl, rfl, rfl, rfl, rfl, rfl, rfl, rfl, rfl, rfl, rfl, rfl, rfl, rfl, rfl, rfl, rfl, rfl, rfl, rfl⟩

/-- What `record` may change. -/
theorem State.record_eq (s : State) (c : EvCode) (i : Nat) (l : List EvArg) :
    ∃ x0 x1, s.record c i l = { s with regs := x0, ev := x1 } := by
  unfold State.record; dsimp only; split
  · exact s.loseRecord_eq _
  · split
    · obtain ⟨x, y, h⟩ := (s.toTail (s.evRec c i l)).spill_eq (s.evRec c i l)
      exact ⟨x, y, h.trans rfl⟩
    · exact ⟨_, _, rfl⟩

/-- `record` changes only `ev`, `regs`. -/
@[simp] theorem State.record_frame (s : State) (c : EvCode) (i : Nat) (l : List EvArg) :
    (s.record c i l).now = s.now ∧ (s.record c i l).ft = s.ft ∧ (s.record c i l).pins = s.pins ∧ (s.record c i l).force = s.force ∧
    (s.record c i l).snap = s.snap ∧ (s.record c i l).rst = s.rst ∧ (s.record c i l).img = s.img ∧ (s.record c i l).sps = s.sps ∧
    (s.record c i l).sent = s.sent ∧ (s.record c i l).colTx = s.colTx ∧ (s.record c i l).freeCtr = s.freeCtr ∧
    (s.record c i l).lanes = s.lanes ∧ (s.record c i l).linkUp = s.linkUp ∧ (s.record c i l).ingest = s.ingest ∧
    (s.record c i l).pages = s.pages ∧ (s.record c i l).lastPlan = s.lastPlan ∧ (s.record c i l).digestWait = s.digestWait ∧
    (s.record c i l).codec = s.codec ∧ (s.record c i l).dram = s.dram ∧ (s.record c i l).scr = s.scr ∧ (s.record c i l).ff = s.ff ∧
    (s.record c i l).fpe = s.fpe ∧ (s.record c i l).ports = s.ports ∧ (s.record c i l).posn = s.posn ∧ (s.record c i l).loop = s.loop ∧
    (s.record c i l).ins = s.ins ∧ (s.record c i l).light = s.light ∧ (s.record c i l).mot = s.mot ∧ (s.record c i l).mc = s.mc ∧
    (s.record c i l).twin = s.twin ∧ (s.record c i l).net = s.net ∧ (s.record c i l).ptp = s.ptp ∧ (s.record c i l).met = s.met ∧
    (s.record c i l).tally = s.tally ∧ (s.record c i l).cal = s.cal ∧ (s.record c i l).hmWait = s.hmWait ∧
    (s.record c i l).aborts = s.aborts ∧ (s.record c i l).pending = s.pending :=
  by
  obtain ⟨x0, x1, h⟩ := s.record_eq c i l
  rw [h]
  exact ⟨rfl, rfl, rfl, rfl, rfl, rfl, rfl, rfl, rfl, rfl, rfl, rfl, rfl, rfl, rfl, rfl, rfl, rfl, rfl, rfl, rfl, rfl, rfl, rfl, rfl, rfl, rfl, rfl, rfl, rfl, rfl, rfl, rfl, rfl, rfl, rfl, rfl, rfl⟩

/-- What `countBy` may change. -/
theorem State.countBy_eq (s : State) (c o : Fld) (i k : Nat) :
    ∃ x0 x1, s.countBy c o i k = { s with regs := x0, ev := x1 } := by
  unfold State.countBy; dsimp only; split
  · obtain ⟨x, y, h⟩ := State.record_eq _ _ _ _
    exact ⟨x, y, h.trans rfl⟩
  · exact ⟨_, _, rfl⟩

/-- `countBy` changes only `ev`, `regs`. -/
@[simp] theorem State.countBy_frame (s : State) (c o : Fld) (i k : Nat) :
    (s.countBy c o i k).now = s.now ∧ (s.countBy c o i k).ft = s.ft ∧ (s.countBy c o i k).pins = s.pins ∧
    (s.countBy c o i k).force = s.force ∧ (s.countBy c o i k).snap = s.snap ∧ (s.countBy c o i k).rst = s.rst ∧
    (s.countBy c o i k).img = s.img ∧ (s.countBy c o i k).sps = s.sps ∧ (s.countBy c o i k).sent = s.sent ∧
    (s.countBy c o i k).colTx = s.colTx ∧ (s.countBy c o i k).freeCtr = s.freeCtr ∧ (s.countBy c o i k).lanes = s.lanes ∧
    (s.countBy c o i k).linkUp = s.linkUp ∧ (s.countBy c o i k).ingest = s.ingest ∧ (s.countBy c o i k).pages = s.pages ∧
    (s.countBy c o i k).lastPlan = s.lastPlan ∧ (s.countBy c o i k).digestWait = s.digestWait ∧ (s.countBy c o i k).codec = s.codec ∧
    (s.countBy c o i k).dram = s.dram ∧ (s.countBy c o i k).scr = s.scr ∧ (s.countBy c o i k).ff = s.ff ∧
    (s.countBy c o i k).fpe = s.fpe ∧ (s.countBy c o i k).ports = s.ports ∧ (s.countBy c o i k).posn = s.posn ∧
    (s.countBy c o i k).loop = s.loop ∧ (s.countBy c o i k).ins = s.ins ∧ (s.countBy c o i k).light = s.light ∧
    (s.countBy c o i k).mot = s.mot ∧ (s.countBy c o i k).mc = s.mc ∧ (s.countBy c o i k).twin = s.twin ∧
    (s.countBy c o i k).net = s.net ∧ (s.countBy c o i k).ptp = s.ptp ∧ (s.countBy c o i k).met = s.met ∧
    (s.countBy c o i k).tally = s.tally ∧ (s.countBy c o i k).cal = s.cal ∧ (s.countBy c o i k).hmWait = s.hmWait ∧
    (s.countBy c o i k).aborts = s.aborts ∧ (s.countBy c o i k).pending = s.pending :=
  by
  obtain ⟨x0, x1, h⟩ := s.countBy_eq c o i k
  rw [h]
  exact ⟨rfl, rfl, rfl, rfl, rfl, rfl, rfl, rfl, rfl, rfl, rfl, rfl, rfl, rfl, rfl, rfl, rfl, rfl, rfl, rfl, rfl, rfl, rfl, rfl, rfl, rfl, rfl, rfl, rfl, rfl, rfl, rfl, rfl, rfl, rfl, rfl, rfl, rfl⟩

/-- What `count` may change. -/
theorem State.count_eq (s : State) (c o : Fld) (i : Nat) :
    ∃ x0 x1, s.count c o i = { s with regs := x0, ev := x1 } := by
  exact s.countBy_eq c o i 1

/-- `count` changes only `ev`, `regs`. -/
@[simp] theorem State.count_frame (s : State) (c o : Fld) (i : Nat) :
    (s.count c o i).now = s.now ∧ (s.count c o i).ft = s.ft ∧ (s.count c o i).pins = s.pins ∧ (s.count c o i).force = s.force ∧
    (s.count c o i).snap = s.snap ∧ (s.count c o i).rst = s.rst ∧ (s.count c o i).img = s.img ∧ (s.count c o i).sps = s.sps ∧
    (s.count c o i).sent = s.sent ∧ (s.count c o i).colTx = s.colTx ∧ (s.count c o i).freeCtr = s.freeCtr ∧
    (s.count c o i).lanes = s.lanes ∧ (s.count c o i).linkUp = s.linkUp ∧ (s.count c o i).ingest = s.ingest ∧
    (s.count c o i).pages = s.pages ∧ (s.count c o i).lastPlan = s.lastPlan ∧ (s.count c o i).digestWait = s.digestWait ∧
    (s.count c o i).codec = s.codec ∧ (s.count c o i).dram = s.dram ∧ (s.count c o i).scr = s.scr ∧ (s.count c o i).ff = s.ff ∧
    (s.count c o i).fpe = s.fpe ∧ (s.count c o i).ports = s.ports ∧ (s.count c o i).posn = s.posn ∧ (s.count c o i).loop = s.loop ∧
    (s.count c o i).ins = s.ins ∧ (s.count c o i).light = s.light ∧ (s.count c o i).mot = s.mot ∧ (s.count c o i).mc = s.mc ∧
    (s.count c o i).twin = s.twin ∧ (s.count c o i).net = s.net ∧ (s.count c o i).ptp = s.ptp ∧ (s.count c o i).met = s.met ∧
    (s.count c o i).tally = s.tally ∧ (s.count c o i).cal = s.cal ∧ (s.count c o i).hmWait = s.hmWait ∧
    (s.count c o i).aborts = s.aborts ∧ (s.count c o i).pending = s.pending :=
  by
  obtain ⟨x0, x1, h⟩ := s.count_eq c o i
  rw [h]
  exact ⟨rfl, rfl, rfl, rfl, rfl, rfl, rfl, rfl, rfl, rfl, rfl, rfl, rfl, rfl, rfl, rfl, rfl, rfl, rfl, rfl, rfl, rfl, rfl, rfl, rfl, rfl, rfl, rfl, rfl, rfl, rfl, rfl, rfl, rfl, rfl, rfl, rfl, rfl⟩

/-- What `countPlain` may change. -/
theorem State.countPlain_eq (s : State) (c : Fld) (i : Nat) :
    ∃ x0 x1, s.countPlain c i = { s with regs := x0, ev := x1 } := by
  unfold State.countPlain; dsimp only; split
  · obtain ⟨x, y, h⟩ := State.record_eq _ _ _ _
    exact ⟨x, y, h.trans rfl⟩
  · exact ⟨_, _, rfl⟩

/-- `countPlain` changes only `ev`, `regs`. -/
@[simp] theorem State.countPlain_frame (s : State) (c : Fld) (i : Nat) :
    (s.countPlain c i).now = s.now ∧ (s.countPlain c i).ft = s.ft ∧ (s.countPlain c i).pins = s.pins ∧
    (s.countPlain c i).force = s.force ∧ (s.countPlain c i).snap = s.snap ∧ (s.countPlain c i).rst = s.rst ∧
    (s.countPlain c i).img = s.img ∧ (s.countPlain c i).sps = s.sps ∧ (s.countPlain c i).sent = s.sent ∧
    (s.countPlain c i).colTx = s.colTx ∧ (s.countPlain c i).freeCtr = s.freeCtr ∧ (s.countPlain c i).lanes = s.lanes ∧
    (s.countPlain c i).linkUp = s.linkUp ∧ (s.countPlain c i).ingest = s.ingest ∧ (s.countPlain c i).pages = s.pages ∧
    (s.countPlain c i).lastPlan = s.lastPlan ∧ (s.countPlain c i).digestWait = s.digestWait ∧ (s.countPlain c i).codec = s.codec ∧
    (s.countPlain c i).dram = s.dram ∧ (s.countPlain c i).scr = s.scr ∧ (s.countPlain c i).ff = s.ff ∧ (s.countPlain c i).fpe = s.fpe ∧
    (s.countPlain c i).ports = s.ports ∧ (s.countPlain c i).posn = s.posn ∧ (s.countPlain c i).loop = s.loop ∧
    (s.countPlain c i).ins = s.ins ∧ (s.countPlain c i).light = s.light ∧ (s.countPlain c i).mot = s.mot ∧ (s.countPlain c i).mc = s.mc ∧
    (s.countPlain c i).twin = s.twin ∧ (s.countPlain c i).net = s.net ∧ (s.countPlain c i).ptp = s.ptp ∧ (s.countPlain c i).met = s.met ∧
    (s.countPlain c i).tally = s.tally ∧ (s.countPlain c i).cal = s.cal ∧ (s.countPlain c i).hmWait = s.hmWait ∧
    (s.countPlain c i).aborts = s.aborts ∧ (s.countPlain c i).pending = s.pending :=
  by
  obtain ⟨x0, x1, h⟩ := s.countPlain_eq c i
  rw [h]
  exact ⟨rfl, rfl, rfl, rfl, rfl, rfl, rfl, rfl, rfl, rfl, rfl, rfl, rfl, rfl, rfl, rfl, rfl, rfl, rfl, rfl, rfl, rfl, rfl, rfl, rfl, rfl, rfl, rfl, rfl, rfl, rfl, rfl, rfl, rfl, rfl, rfl, rfl, rfl⟩

/-- What `count64` may change. -/
theorem State.count64_eq (s : State) (f g : Fld) (i k : Nat) :
    ∃ x0 x1, s.count64 f g i k = { s with regs := x0, ev := x1 } := by
  unfold State.count64; dsimp only; split
  · obtain ⟨x, y, h⟩ := State.record_eq _ _ _ _
    exact ⟨x, y, h.trans rfl⟩
  · exact ⟨_, _, rfl⟩

/-- `count64` changes only `ev`, `regs`. -/
@[simp] theorem State.count64_frame (s : State) (f g : Fld) (i k : Nat) :
    (s.count64 f g i k).now = s.now ∧ (s.count64 f g i k).ft = s.ft ∧ (s.count64 f g i k).pins = s.pins ∧
    (s.count64 f g i k).force = s.force ∧ (s.count64 f g i k).snap = s.snap ∧ (s.count64 f g i k).rst = s.rst ∧
    (s.count64 f g i k).img = s.img ∧ (s.count64 f g i k).sps = s.sps ∧ (s.count64 f g i k).sent = s.sent ∧
    (s.count64 f g i k).colTx = s.colTx ∧ (s.count64 f g i k).freeCtr = s.freeCtr ∧ (s.count64 f g i k).lanes = s.lanes ∧
    (s.count64 f g i k).linkUp = s.linkUp ∧ (s.count64 f g i k).ingest = s.ingest ∧ (s.count64 f g i k).pages = s.pages ∧
    (s.count64 f g i k).lastPlan = s.lastPlan ∧ (s.count64 f g i k).digestWait = s.digestWait ∧ (s.count64 f g i k).codec = s.codec ∧
    (s.count64 f g i k).dram = s.dram ∧ (s.count64 f g i k).scr = s.scr ∧ (s.count64 f g i k).ff = s.ff ∧
    (s.count64 f g i k).fpe = s.fpe ∧ (s.count64 f g i k).ports = s.ports ∧ (s.count64 f g i k).posn = s.posn ∧
    (s.count64 f g i k).loop = s.loop ∧ (s.count64 f g i k).ins = s.ins ∧ (s.count64 f g i k).light = s.light ∧
    (s.count64 f g i k).mot = s.mot ∧ (s.count64 f g i k).mc = s.mc ∧ (s.count64 f g i k).twin = s.twin ∧
    (s.count64 f g i k).net = s.net ∧ (s.count64 f g i k).ptp = s.ptp ∧ (s.count64 f g i k).met = s.met ∧
    (s.count64 f g i k).tally = s.tally ∧ (s.count64 f g i k).cal = s.cal ∧ (s.count64 f g i k).hmWait = s.hmWait ∧
    (s.count64 f g i k).aborts = s.aborts ∧ (s.count64 f g i k).pending = s.pending :=
  by
  obtain ⟨x0, x1, h⟩ := s.count64_eq f g i k
  rw [h]
  exact ⟨rfl, rfl, rfl, rfl, rfl, rfl, rfl, rfl, rfl, rfl, rfl, rfl, rfl, rfl, rfl, rfl, rfl, rfl, rfl, rfl, rfl, rfl, rfl, rfl, rfl, rfl, rfl, rfl, rfl, rfl, rfl, rfl, rfl, rfl, rfl, rfl, rfl, rfl⟩

/-- What `abortStart` may change. -/
theorem State.abortStart_eq (s : State) (n i : Nat) :
    ∃ x0 x1 x2, s.abortStart n i = { s with regs := x0, ev := x1, aborts := x2 } := by
  unfold State.abortStart; split
  · exact ⟨_, _, _, rfl⟩
  · obtain ⟨x, y, h⟩ := State.record_eq _ _ _ _
    exact ⟨x, y, _, h.trans rfl⟩

/-- `abortStart` changes only `aborts`, `ev`, `regs`. -/
@[simp] theorem State.abortStart_frame (s : State) (n i : Nat) :
    (s.abortStart n i).now = s.now ∧ (s.abortStart n i).ft = s.ft ∧ (s.abortStart n i).pins = s.pins ∧
    (s.abortStart n i).force = s.force ∧ (s.abortStart n i).snap = s.snap ∧ (s.abortStart n i).rst = s.rst ∧
    (s.abortStart n i).img = s.img ∧ (s.abortStart n i).sps = s.sps ∧ (s.abortStart n i).sent = s.sent ∧
    (s.abortStart n i).colTx = s.colTx ∧ (s.abortStart n i).freeCtr = s.freeCtr ∧ (s.abortStart n i).lanes = s.lanes ∧
    (s.abortStart n i).linkUp = s.linkUp ∧ (s.abortStart n i).ingest = s.ingest ∧ (s.abortStart n i).pages = s.pages ∧
    (s.abortStart n i).lastPlan = s.lastPlan ∧ (s.abortStart n i).digestWait = s.digestWait ∧ (s.abortStart n i).codec = s.codec ∧
    (s.abortStart n i).dram = s.dram ∧ (s.abortStart n i).scr = s.scr ∧ (s.abortStart n i).ff = s.ff ∧ (s.abortStart n i).fpe = s.fpe ∧
    (s.abortStart n i).ports = s.ports ∧ (s.abortStart n i).posn = s.posn ∧ (s.abortStart n i).loop = s.loop ∧
    (s.abortStart n i).ins = s.ins ∧ (s.abortStart n i).light = s.light ∧ (s.abortStart n i).mot = s.mot ∧ (s.abortStart n i).mc = s.mc ∧
    (s.abortStart n i).twin = s.twin ∧ (s.abortStart n i).net = s.net ∧ (s.abortStart n i).ptp = s.ptp ∧ (s.abortStart n i).met = s.met ∧
    (s.abortStart n i).tally = s.tally ∧ (s.abortStart n i).cal = s.cal ∧ (s.abortStart n i).hmWait = s.hmWait ∧
    (s.abortStart n i).pending = s.pending :=
  by
  obtain ⟨x0, x1, x2, h⟩ := s.abortStart_eq n i
  rw [h]
  exact ⟨rfl, rfl, rfl, rfl, rfl, rfl, rfl, rfl, rfl, rfl, rfl, rfl, rfl, rfl, rfl, rfl, rfl, rfl, rfl, rfl, rfl, rfl, rfl, rfl, rfl, rfl, rfl, rfl, rfl, rfl, rfl, rfl, rfl, rfl, rfl, rfl, rfl⟩

/-- What `abortEnd` may change. -/
theorem State.abortEnd_eq (s : State) (n i : Nat) :
    ∃ x0 x1 x2, s.abortEnd n i = { s with regs := x0, ev := x1, aborts := x2 } := by
  unfold State.abortEnd; split
  · exact ⟨_, _, _, rfl⟩
  · obtain ⟨x, y, h⟩ := State.record_eq _ _ _ _
    exact ⟨x, y, _, h.trans rfl⟩

/-- `abortEnd` changes only `aborts`, `ev`, `regs`. -/
@[simp] theorem State.abortEnd_frame (s : State) (n i : Nat) :
    (s.abortEnd n i).now = s.now ∧ (s.abortEnd n i).ft = s.ft ∧ (s.abortEnd n i).pins = s.pins ∧ (s.abortEnd n i).force = s.force ∧
    (s.abortEnd n i).snap = s.snap ∧ (s.abortEnd n i).rst = s.rst ∧ (s.abortEnd n i).img = s.img ∧ (s.abortEnd n i).sps = s.sps ∧
    (s.abortEnd n i).sent = s.sent ∧ (s.abortEnd n i).colTx = s.colTx ∧ (s.abortEnd n i).freeCtr = s.freeCtr ∧
    (s.abortEnd n i).lanes = s.lanes ∧ (s.abortEnd n i).linkUp = s.linkUp ∧ (s.abortEnd n i).ingest = s.ingest ∧
    (s.abortEnd n i).pages = s.pages ∧ (s.abortEnd n i).lastPlan = s.lastPlan ∧ (s.abortEnd n i).digestWait = s.digestWait ∧
    (s.abortEnd n i).codec = s.codec ∧ (s.abortEnd n i).dram = s.dram ∧ (s.abortEnd n i).scr = s.scr ∧ (s.abortEnd n i).ff = s.ff ∧
    (s.abortEnd n i).fpe = s.fpe ∧ (s.abortEnd n i).ports = s.ports ∧ (s.abortEnd n i).posn = s.posn ∧ (s.abortEnd n i).loop = s.loop ∧
    (s.abortEnd n i).ins = s.ins ∧ (s.abortEnd n i).light = s.light ∧ (s.abortEnd n i).mot = s.mot ∧ (s.abortEnd n i).mc = s.mc ∧
    (s.abortEnd n i).twin = s.twin ∧ (s.abortEnd n i).net = s.net ∧ (s.abortEnd n i).ptp = s.ptp ∧ (s.abortEnd n i).met = s.met ∧
    (s.abortEnd n i).tally = s.tally ∧ (s.abortEnd n i).cal = s.cal ∧ (s.abortEnd n i).hmWait = s.hmWait ∧
    (s.abortEnd n i).pending = s.pending :=
  by
  obtain ⟨x0, x1, x2, h⟩ := s.abortEnd_eq n i
  rw [h]
  exact ⟨rfl, rfl, rfl, rfl, rfl, rfl, rfl, rfl, rfl, rfl, rfl, rfl, rfl, rfl, rfl, rfl, rfl, rfl, rfl, rfl, rfl, rfl, rfl, rfl, rfl, rfl, rfl, rfl, rfl, rfl, rfl, rfl, rfl, rfl, rfl, rfl, rfl⟩

/-- `setLane` changes only `lanes`. -/
@[simp] theorem State.setLane_frame (s : State) (n : Nat) (l : Lane) :
    (s.setLane n l).now = s.now ∧ (s.setLane n l).ft = s.ft ∧ (s.setLane n l).pins = s.pins ∧ (s.setLane n l).regs = s.regs ∧
    (s.setLane n l).force = s.force ∧ (s.setLane n l).snap = s.snap ∧ (s.setLane n l).rst = s.rst ∧ (s.setLane n l).img = s.img ∧
    (s.setLane n l).ev = s.ev ∧ (s.setLane n l).sps = s.sps ∧ (s.setLane n l).sent = s.sent ∧ (s.setLane n l).colTx = s.colTx ∧
    (s.setLane n l).freeCtr = s.freeCtr ∧ (s.setLane n l).linkUp = s.linkUp ∧ (s.setLane n l).ingest = s.ingest ∧
    (s.setLane n l).pages = s.pages ∧ (s.setLane n l).lastPlan = s.lastPlan ∧ (s.setLane n l).digestWait = s.digestWait ∧
    (s.setLane n l).codec = s.codec ∧ (s.setLane n l).dram = s.dram ∧ (s.setLane n l).scr = s.scr ∧ (s.setLane n l).ff = s.ff ∧
    (s.setLane n l).fpe = s.fpe ∧ (s.setLane n l).ports = s.ports ∧ (s.setLane n l).posn = s.posn ∧ (s.setLane n l).loop = s.loop ∧
    (s.setLane n l).ins = s.ins ∧ (s.setLane n l).light = s.light ∧ (s.setLane n l).mot = s.mot ∧ (s.setLane n l).mc = s.mc ∧
    (s.setLane n l).twin = s.twin ∧ (s.setLane n l).net = s.net ∧ (s.setLane n l).ptp = s.ptp ∧ (s.setLane n l).met = s.met ∧
    (s.setLane n l).tally = s.tally ∧ (s.setLane n l).cal = s.cal ∧ (s.setLane n l).hmWait = s.hmWait ∧
    (s.setLane n l).aborts = s.aborts ∧ (s.setLane n l).pending = s.pending :=
  ⟨rfl, rfl, rfl, rfl, rfl, rfl, rfl, rfl, rfl, rfl, rfl, rfl, rfl, rfl, rfl, rfl, rfl, rfl, rfl, rfl, rfl, rfl, rfl, rfl, rfl, rfl, rfl, rfl, rfl, rfl, rfl, rfl, rfl, rfl, rfl, rfl, rfl, rfl, rfl⟩

@[simp] theorem State.get_setLane (s : State) (n : Nat) (l : Lane) (g : Fld) (j : Nat) : (s.setLane n l).get g j = s.get g j := by
  unfold State.get; simp

/-- `mapNet` changes only `net`. -/
@[simp] theorem State.mapNet_frame (s : State) (f : NetSt → NetSt) :
    (s.mapNet f).now = s.now ∧ (s.mapNet f).ft = s.ft ∧ (s.mapNet f).pins = s.pins ∧ (s.mapNet f).regs = s.regs ∧
    (s.mapNet f).force = s.force ∧ (s.mapNet f).snap = s.snap ∧ (s.mapNet f).rst = s.rst ∧ (s.mapNet f).img = s.img ∧
    (s.mapNet f).ev = s.ev ∧ (s.mapNet f).sps = s.sps ∧ (s.mapNet f).sent = s.sent ∧ (s.mapNet f).colTx = s.colTx ∧
    (s.mapNet f).freeCtr = s.freeCtr ∧ (s.mapNet f).lanes = s.lanes ∧ (s.mapNet f).linkUp = s.linkUp ∧ (s.mapNet f).ingest = s.ingest ∧
    (s.mapNet f).pages = s.pages ∧ (s.mapNet f).lastPlan = s.lastPlan ∧ (s.mapNet f).digestWait = s.digestWait ∧
    (s.mapNet f).codec = s.codec ∧ (s.mapNet f).dram = s.dram ∧ (s.mapNet f).scr = s.scr ∧ (s.mapNet f).ff = s.ff ∧
    (s.mapNet f).fpe = s.fpe ∧ (s.mapNet f).ports = s.ports ∧ (s.mapNet f).posn = s.posn ∧ (s.mapNet f).loop = s.loop ∧
    (s.mapNet f).ins = s.ins ∧ (s.mapNet f).light = s.light ∧ (s.mapNet f).mot = s.mot ∧ (s.mapNet f).mc = s.mc ∧
    (s.mapNet f).twin = s.twin ∧ (s.mapNet f).ptp = s.ptp ∧ (s.mapNet f).met = s.met ∧ (s.mapNet f).tally = s.tally ∧
    (s.mapNet f).cal = s.cal ∧ (s.mapNet f).hmWait = s.hmWait ∧ (s.mapNet f).aborts = s.aborts ∧ (s.mapNet f).pending = s.pending :=
  ⟨rfl, rfl, rfl, rfl, rfl, rfl, rfl, rfl, rfl, rfl, rfl, rfl, rfl, rfl, rfl, rfl, rfl, rfl, rfl, rfl, rfl, rfl, rfl, rfl, rfl, rfl, rfl, rfl, rfl, rfl, rfl, rfl, rfl, rfl, rfl, rfl, rfl, rfl, rfl⟩

@[simp] theorem State.get_mapNet (s : State) (f : NetSt → NetSt) (g : Fld) (j : Nat) : (s.mapNet f).get g j = s.get g j := by
  unfold State.get; simp

/-- `mapFpe` changes only `fpe`. -/
@[simp] theorem State.mapFpe_frame (s : State) (f : FpeSt → FpeSt) :
    (s.mapFpe f).now = s.now ∧ (s.mapFpe f).ft = s.ft ∧ (s.mapFpe f).pins = s.pins ∧ (s.mapFpe f).regs = s.regs ∧
    (s.mapFpe f).force = s.force ∧ (s.mapFpe f).snap = s.snap ∧ (s.mapFpe f).rst = s.rst ∧ (s.mapFpe f).img = s.img ∧
    (s.mapFpe f).ev = s.ev ∧ (s.mapFpe f).sps = s.sps ∧ (s.mapFpe f).sent = s.sent ∧ (s.mapFpe f).colTx = s.colTx ∧
    (s.mapFpe f).freeCtr = s.freeCtr ∧ (s.mapFpe f).lanes = s.lanes ∧ (s.mapFpe f).linkUp = s.linkUp ∧ (s.mapFpe f).ingest = s.ingest ∧
    (s.mapFpe f).pages = s.pages ∧ (s.mapFpe f).lastPlan = s.lastPlan ∧ (s.mapFpe f).digestWait = s.digestWait ∧
    (s.mapFpe f).codec = s.codec ∧ (s.mapFpe f).dram = s.dram ∧ (s.mapFpe f).scr = s.scr ∧ (s.mapFpe f).ff = s.ff ∧
    (s.mapFpe f).ports = s.ports ∧ (s.mapFpe f).posn = s.posn ∧ (s.mapFpe f).loop = s.loop ∧ (s.mapFpe f).ins = s.ins ∧
    (s.mapFpe f).light = s.light ∧ (s.mapFpe f).mot = s.mot ∧ (s.mapFpe f).mc = s.mc ∧ (s.mapFpe f).twin = s.twin ∧
    (s.mapFpe f).net = s.net ∧ (s.mapFpe f).ptp = s.ptp ∧ (s.mapFpe f).met = s.met ∧ (s.mapFpe f).tally = s.tally ∧
    (s.mapFpe f).cal = s.cal ∧ (s.mapFpe f).hmWait = s.hmWait ∧ (s.mapFpe f).aborts = s.aborts ∧ (s.mapFpe f).pending = s.pending :=
  ⟨rfl, rfl, rfl, rfl, rfl, rfl, rfl, rfl, rfl, rfl, rfl, rfl, rfl, rfl, rfl, rfl, rfl, rfl, rfl, rfl, rfl, rfl, rfl, rfl, rfl, rfl, rfl, rfl, rfl, rfl, rfl, rfl, rfl, rfl, rfl, rfl, rfl, rfl, rfl⟩

@[simp] theorem State.get_mapFpe (s : State) (f : FpeSt → FpeSt) (g : Fld) (j : Nat) : (s.mapFpe f).get g j = s.get g j := by
  unfold State.get; simp

/-- `setPort` changes only `ports`. -/
@[simp] theorem State.setPort_frame (s : State) (p : Nat) (x : Port) :
    (s.setPort p x).now = s.now ∧ (s.setPort p x).ft = s.ft ∧ (s.setPort p x).pins = s.pins ∧ (s.setPort p x).regs = s.regs ∧
    (s.setPort p x).force = s.force ∧ (s.setPort p x).snap = s.snap ∧ (s.setPort p x).rst = s.rst ∧ (s.setPort p x).img = s.img ∧
    (s.setPort p x).ev = s.ev ∧ (s.setPort p x).sps = s.sps ∧ (s.setPort p x).sent = s.sent ∧ (s.setPort p x).colTx = s.colTx ∧
    (s.setPort p x).freeCtr = s.freeCtr ∧ (s.setPort p x).lanes = s.lanes ∧ (s.setPort p x).linkUp = s.linkUp ∧
    (s.setPort p x).ingest = s.ingest ∧ (s.setPort p x).pages = s.pages ∧ (s.setPort p x).lastPlan = s.lastPlan ∧
    (s.setPort p x).digestWait = s.digestWait ∧ (s.setPort p x).codec = s.codec ∧ (s.setPort p x).dram = s.dram ∧
    (s.setPort p x).scr = s.scr ∧ (s.setPort p x).ff = s.ff ∧ (s.setPort p x).fpe = s.fpe ∧ (s.setPort p x).posn = s.posn ∧
    (s.setPort p x).loop = s.loop ∧ (s.setPort p x).ins = s.ins ∧ (s.setPort p x).light = s.light ∧ (s.setPort p x).mot = s.mot ∧
    (s.setPort p x).mc = s.mc ∧ (s.setPort p x).twin = s.twin ∧ (s.setPort p x).net = s.net ∧ (s.setPort p x).ptp = s.ptp ∧
    (s.setPort p x).met = s.met ∧ (s.setPort p x).tally = s.tally ∧ (s.setPort p x).cal = s.cal ∧ (s.setPort p x).hmWait = s.hmWait ∧
    (s.setPort p x).aborts = s.aborts ∧ (s.setPort p x).pending = s.pending :=
  ⟨rfl, rfl, rfl, rfl, rfl, rfl, rfl, rfl, rfl, rfl, rfl, rfl, rfl, rfl, rfl, rfl, rfl, rfl, rfl, rfl, rfl, rfl, rfl, rfl, rfl, rfl, rfl, rfl, rfl, rfl, rfl, rfl, rfl, rfl, rfl, rfl, rfl, rfl, rfl⟩

@[simp] theorem State.get_setPort (s : State) (p : Nat) (x : Port) (g : Fld) (j : Nat) : (s.setPort p x).get g j = s.get g j := by
  unfold State.get; simp

/-- `mapPort` changes only `ports`. -/
@[simp] theorem State.mapPort_frame (s : State) (p : Nat) (f : Port → Port) :
    (s.mapPort p f).now = s.now ∧ (s.mapPort p f).ft = s.ft ∧ (s.mapPort p f).pins = s.pins ∧ (s.mapPort p f).regs = s.regs ∧
    (s.mapPort p f).force = s.force ∧ (s.mapPort p f).snap = s.snap ∧ (s.mapPort p f).rst = s.rst ∧ (s.mapPort p f).img = s.img ∧
    (s.mapPort p f).ev = s.ev ∧ (s.mapPort p f).sps = s.sps ∧ (s.mapPort p f).sent = s.sent ∧ (s.mapPort p f).colTx = s.colTx ∧
    (s.mapPort p f).freeCtr = s.freeCtr ∧ (s.mapPort p f).lanes = s.lanes ∧ (s.mapPort p f).linkUp = s.linkUp ∧
    (s.mapPort p f).ingest = s.ingest ∧ (s.mapPort p f).pages = s.pages ∧ (s.mapPort p f).lastPlan = s.lastPlan ∧
    (s.mapPort p f).digestWait = s.digestWait ∧ (s.mapPort p f).codec = s.codec ∧ (s.mapPort p f).dram = s.dram ∧
    (s.mapPort p f).scr = s.scr ∧ (s.mapPort p f).ff = s.ff ∧ (s.mapPort p f).fpe = s.fpe ∧ (s.mapPort p f).posn = s.posn ∧
    (s.mapPort p f).loop = s.loop ∧ (s.mapPort p f).ins = s.ins ∧ (s.mapPort p f).light = s.light ∧ (s.mapPort p f).mot = s.mot ∧
    (s.mapPort p f).mc = s.mc ∧ (s.mapPort p f).twin = s.twin ∧ (s.mapPort p f).net = s.net ∧ (s.mapPort p f).ptp = s.ptp ∧
    (s.mapPort p f).met = s.met ∧ (s.mapPort p f).tally = s.tally ∧ (s.mapPort p f).cal = s.cal ∧ (s.mapPort p f).hmWait = s.hmWait ∧
    (s.mapPort p f).aborts = s.aborts ∧ (s.mapPort p f).pending = s.pending :=
  ⟨rfl, rfl, rfl, rfl, rfl, rfl, rfl, rfl, rfl, rfl, rfl, rfl, rfl, rfl, rfl, rfl, rfl, rfl, rfl, rfl, rfl, rfl, rfl, rfl, rfl, rfl, rfl, rfl, rfl, rfl, rfl, rfl, rfl, rfl, rfl, rfl, rfl, rfl, rfl⟩

@[simp] theorem State.get_mapPort (s : State) (p : Nat) (f : Port → Port) (g : Fld) (j : Nat) : (s.mapPort p f).get g j = s.get g j := by
  unfold State.get; simp

/-- `setWd` changes only `ff`. -/
@[simp] theorem State.setWd_frame (s : State) (p : Nat) (l : List Withdrawal) :
    (s.setWd p l).now = s.now ∧ (s.setWd p l).ft = s.ft ∧ (s.setWd p l).pins = s.pins ∧ (s.setWd p l).regs = s.regs ∧
    (s.setWd p l).force = s.force ∧ (s.setWd p l).snap = s.snap ∧ (s.setWd p l).rst = s.rst ∧ (s.setWd p l).img = s.img ∧
    (s.setWd p l).ev = s.ev ∧ (s.setWd p l).sps = s.sps ∧ (s.setWd p l).sent = s.sent ∧ (s.setWd p l).colTx = s.colTx ∧
    (s.setWd p l).freeCtr = s.freeCtr ∧ (s.setWd p l).lanes = s.lanes ∧ (s.setWd p l).linkUp = s.linkUp ∧
    (s.setWd p l).ingest = s.ingest ∧ (s.setWd p l).pages = s.pages ∧ (s.setWd p l).lastPlan = s.lastPlan ∧
    (s.setWd p l).digestWait = s.digestWait ∧ (s.setWd p l).codec = s.codec ∧ (s.setWd p l).dram = s.dram ∧ (s.setWd p l).scr = s.scr ∧
    (s.setWd p l).fpe = s.fpe ∧ (s.setWd p l).ports = s.ports ∧ (s.setWd p l).posn = s.posn ∧ (s.setWd p l).loop = s.loop ∧
    (s.setWd p l).ins = s.ins ∧ (s.setWd p l).light = s.light ∧ (s.setWd p l).mot = s.mot ∧ (s.setWd p l).mc = s.mc ∧
    (s.setWd p l).twin = s.twin ∧ (s.setWd p l).net = s.net ∧ (s.setWd p l).ptp = s.ptp ∧ (s.setWd p l).met = s.met ∧
    (s.setWd p l).tally = s.tally ∧ (s.setWd p l).cal = s.cal ∧ (s.setWd p l).hmWait = s.hmWait ∧ (s.setWd p l).aborts = s.aborts ∧
    (s.setWd p l).pending = s.pending :=
  ⟨rfl, rfl, rfl, rfl, rfl, rfl, rfl, rfl, rfl, rfl, rfl, rfl, rfl, rfl, rfl, rfl, rfl, rfl, rfl, rfl, rfl, rfl, rfl, rfl, rfl, rfl, rfl, rfl, rfl, rfl, rfl, rfl, rfl, rfl, rfl, rfl, rfl, rfl, rfl⟩

@[simp] theorem State.get_setWd (s : State) (p : Nat) (l : List Withdrawal) (g : Fld) (j : Nat) : (s.setWd p l).get g j = s.get g j := by
  unfold State.get; simp

/-- `mapPage` changes only `pages`. -/
@[simp] theorem State.mapPage_frame (s : State) (q : Nat) (f : Page → Page) :
    (s.mapPage q f).now = s.now ∧ (s.mapPage q f).ft = s.ft ∧ (s.mapPage q f).pins = s.pins ∧ (s.mapPage q f).regs = s.regs ∧
    (s.mapPage q f).force = s.force ∧ (s.mapPage q f).snap = s.snap ∧ (s.mapPage q f).rst = s.rst ∧ (s.mapPage q f).img = s.img ∧
    (s.mapPage q f).ev = s.ev ∧ (s.mapPage q f).sps = s.sps ∧ (s.mapPage q f).sent = s.sent ∧ (s.mapPage q f).colTx = s.colTx ∧
    (s.mapPage q f).freeCtr = s.freeCtr ∧ (s.mapPage q f).lanes = s.lanes ∧ (s.mapPage q f).linkUp = s.linkUp ∧
    (s.mapPage q f).ingest = s.ingest ∧ (s.mapPage q f).lastPlan = s.lastPlan ∧ (s.mapPage q f).digestWait = s.digestWait ∧
    (s.mapPage q f).codec = s.codec ∧ (s.mapPage q f).dram = s.dram ∧ (s.mapPage q f).scr = s.scr ∧ (s.mapPage q f).ff = s.ff ∧
    (s.mapPage q f).fpe = s.fpe ∧ (s.mapPage q f).ports = s.ports ∧ (s.mapPage q f).posn = s.posn ∧ (s.mapPage q f).loop = s.loop ∧
    (s.mapPage q f).ins = s.ins ∧ (s.mapPage q f).light = s.light ∧ (s.mapPage q f).mot = s.mot ∧ (s.mapPage q f).mc = s.mc ∧
    (s.mapPage q f).twin = s.twin ∧ (s.mapPage q f).net = s.net ∧ (s.mapPage q f).ptp = s.ptp ∧ (s.mapPage q f).met = s.met ∧
    (s.mapPage q f).tally = s.tally ∧ (s.mapPage q f).cal = s.cal ∧ (s.mapPage q f).hmWait = s.hmWait ∧
    (s.mapPage q f).aborts = s.aborts ∧ (s.mapPage q f).pending = s.pending :=
  ⟨rfl, rfl, rfl, rfl, rfl, rfl, rfl, rfl, rfl, rfl, rfl, rfl, rfl, rfl, rfl, rfl, rfl, rfl, rfl, rfl, rfl, rfl, rfl, rfl, rfl, rfl, rfl, rfl, rfl, rfl, rfl, rfl, rfl, rfl, rfl, rfl, rfl, rfl, rfl⟩

@[simp] theorem State.get_mapPage (s : State) (q : Nat) (f : Page → Page) (g : Fld) (j : Nat) : (s.mapPage q f).get g j = s.get g j := by
  unfold State.get; simp

/-- `mapTwin` changes only `twin`. -/
@[simp] theorem State.mapTwin_frame (s : State) (f : TwinSt → TwinSt) :
    (s.mapTwin f).now = s.now ∧ (s.mapTwin f).ft = s.ft ∧ (s.mapTwin f).pins = s.pins ∧ (s.mapTwin f).regs = s.regs ∧
    (s.mapTwin f).force = s.force ∧ (s.mapTwin f).snap = s.snap ∧ (s.mapTwin f).rst = s.rst ∧ (s.mapTwin f).img = s.img ∧
    (s.mapTwin f).ev = s.ev ∧ (s.mapTwin f).sps = s.sps ∧ (s.mapTwin f).sent = s.sent ∧ (s.mapTwin f).colTx = s.colTx ∧
    (s.mapTwin f).freeCtr = s.freeCtr ∧ (s.mapTwin f).lanes = s.lanes ∧ (s.mapTwin f).linkUp = s.linkUp ∧
    (s.mapTwin f).ingest = s.ingest ∧ (s.mapTwin f).pages = s.pages ∧ (s.mapTwin f).lastPlan = s.lastPlan ∧
    (s.mapTwin f).digestWait = s.digestWait ∧ (s.mapTwin f).codec = s.codec ∧ (s.mapTwin f).dram = s.dram ∧ (s.mapTwin f).scr = s.scr ∧
    (s.mapTwin f).ff = s.ff ∧ (s.mapTwin f).fpe = s.fpe ∧ (s.mapTwin f).ports = s.ports ∧ (s.mapTwin f).posn = s.posn ∧
    (s.mapTwin f).loop = s.loop ∧ (s.mapTwin f).ins = s.ins ∧ (s.mapTwin f).light = s.light ∧ (s.mapTwin f).mot = s.mot ∧
    (s.mapTwin f).mc = s.mc ∧ (s.mapTwin f).net = s.net ∧ (s.mapTwin f).ptp = s.ptp ∧ (s.mapTwin f).met = s.met ∧
    (s.mapTwin f).tally = s.tally ∧ (s.mapTwin f).cal = s.cal ∧ (s.mapTwin f).hmWait = s.hmWait ∧ (s.mapTwin f).aborts = s.aborts ∧
    (s.mapTwin f).pending = s.pending :=
  ⟨rfl, rfl, rfl, rfl, rfl, rfl, rfl, rfl, rfl, rfl, rfl, rfl, rfl, rfl, rfl, rfl, rfl, rfl, rfl, rfl, rfl, rfl, rfl, rfl, rfl, rfl, rfl, rfl, rfl, rfl, rfl, rfl, rfl, rfl, rfl, rfl, rfl, rfl, rfl⟩

@[simp] theorem State.get_mapTwin (s : State) (f : TwinSt → TwinSt) (g : Fld) (j : Nat) : (s.mapTwin f).get g j = s.get g j := by
  unfold State.get; simp

/-- `mapPtp` changes only `ptp`. -/
@[simp] theorem State.mapPtp_frame (s : State) (f : PtpSt → PtpSt) :
    (s.mapPtp f).now = s.now ∧ (s.mapPtp f).ft = s.ft ∧ (s.mapPtp f).pins = s.pins ∧ (s.mapPtp f).regs = s.regs ∧
    (s.mapPtp f).force = s.force ∧ (s.mapPtp f).snap = s.snap ∧ (s.mapPtp f).rst = s.rst ∧ (s.mapPtp f).img = s.img ∧
    (s.mapPtp f).ev = s.ev ∧ (s.mapPtp f).sps = s.sps ∧ (s.mapPtp f).sent = s.sent ∧ (s.mapPtp f).colTx = s.colTx ∧
    (s.mapPtp f).freeCtr = s.freeCtr ∧ (s.mapPtp f).lanes = s.lanes ∧ (s.mapPtp f).linkUp = s.linkUp ∧ (s.mapPtp f).ingest = s.ingest ∧
    (s.mapPtp f).pages = s.pages ∧ (s.mapPtp f).lastPlan = s.lastPlan ∧ (s.mapPtp f).digestWait = s.digestWait ∧
    (s.mapPtp f).codec = s.codec ∧ (s.mapPtp f).dram = s.dram ∧ (s.mapPtp f).scr = s.scr ∧ (s.mapPtp f).ff = s.ff ∧
    (s.mapPtp f).fpe = s.fpe ∧ (s.mapPtp f).ports = s.ports ∧ (s.mapPtp f).posn = s.posn ∧ (s.mapPtp f).loop = s.loop ∧
    (s.mapPtp f).ins = s.ins ∧ (s.mapPtp f).light = s.light ∧ (s.mapPtp f).mot = s.mot ∧ (s.mapPtp f).mc = s.mc ∧
    (s.mapPtp f).twin = s.twin ∧ (s.mapPtp f).net = s.net ∧ (s.mapPtp f).met = s.met ∧ (s.mapPtp f).tally = s.tally ∧
    (s.mapPtp f).cal = s.cal ∧ (s.mapPtp f).hmWait = s.hmWait ∧ (s.mapPtp f).aborts = s.aborts ∧ (s.mapPtp f).pending = s.pending :=
  ⟨rfl, rfl, rfl, rfl, rfl, rfl, rfl, rfl, rfl, rfl, rfl, rfl, rfl, rfl, rfl, rfl, rfl, rfl, rfl, rfl, rfl, rfl, rfl, rfl, rfl, rfl, rfl, rfl, rfl, rfl, rfl, rfl, rfl, rfl, rfl, rfl, rfl, rfl, rfl⟩

@[simp] theorem State.get_mapPtp (s : State) (f : PtpSt → PtpSt) (g : Fld) (j : Nat) : (s.mapPtp f).get g j = s.get g j := by
  unfold State.get; simp

/-- `mapIsl` changes only `met`. -/
@[simp] theorem State.mapIsl_frame (s : State) (f : IslandSt → IslandSt) :
    (s.mapIsl f).now = s.now ∧ (s.mapIsl f).ft = s.ft ∧ (s.mapIsl f).pins = s.pins ∧ (s.mapIsl f).regs = s.regs ∧
    (s.mapIsl f).force = s.force ∧ (s.mapIsl f).snap = s.snap ∧ (s.mapIsl f).rst = s.rst ∧ (s.mapIsl f).img = s.img ∧
    (s.mapIsl f).ev = s.ev ∧ (s.mapIsl f).sps = s.sps ∧ (s.mapIsl f).sent = s.sent ∧ (s.mapIsl f).colTx = s.colTx ∧
    (s.mapIsl f).freeCtr = s.freeCtr ∧ (s.mapIsl f).lanes = s.lanes ∧ (s.mapIsl f).linkUp = s.linkUp ∧ (s.mapIsl f).ingest = s.ingest ∧
    (s.mapIsl f).pages = s.pages ∧ (s.mapIsl f).lastPlan = s.lastPlan ∧ (s.mapIsl f).digestWait = s.digestWait ∧
    (s.mapIsl f).codec = s.codec ∧ (s.mapIsl f).dram = s.dram ∧ (s.mapIsl f).scr = s.scr ∧ (s.mapIsl f).ff = s.ff ∧
    (s.mapIsl f).fpe = s.fpe ∧ (s.mapIsl f).ports = s.ports ∧ (s.mapIsl f).posn = s.posn ∧ (s.mapIsl f).loop = s.loop ∧
    (s.mapIsl f).ins = s.ins ∧ (s.mapIsl f).light = s.light ∧ (s.mapIsl f).mot = s.mot ∧ (s.mapIsl f).mc = s.mc ∧
    (s.mapIsl f).twin = s.twin ∧ (s.mapIsl f).net = s.net ∧ (s.mapIsl f).ptp = s.ptp ∧ (s.mapIsl f).tally = s.tally ∧
    (s.mapIsl f).cal = s.cal ∧ (s.mapIsl f).hmWait = s.hmWait ∧ (s.mapIsl f).aborts = s.aborts ∧ (s.mapIsl f).pending = s.pending :=
  ⟨rfl, rfl, rfl, rfl, rfl, rfl, rfl, rfl, rfl, rfl, rfl, rfl, rfl, rfl, rfl, rfl, rfl, rfl, rfl, rfl, rfl, rfl, rfl, rfl, rfl, rfl, rfl, rfl, rfl, rfl, rfl, rfl, rfl, rfl, rfl, rfl, rfl, rfl, rfl⟩

@[simp] theorem State.get_mapIsl (s : State) (f : IslandSt → IslandSt) (g : Fld) (j : Nat) : (s.mapIsl f).get g j = s.get g j := by
  unfold State.get; simp

/-- `mapMc` changes only `mc`. -/
@[simp] theorem State.mapMc_frame (s : State) (f : MemCtlSt → MemCtlSt) :
    (s.mapMc f).now = s.now ∧ (s.mapMc f).ft = s.ft ∧ (s.mapMc f).pins = s.pins ∧ (s.mapMc f).regs = s.regs ∧
    (s.mapMc f).force = s.force ∧ (s.mapMc f).snap = s.snap ∧ (s.mapMc f).rst = s.rst ∧ (s.mapMc f).img = s.img ∧ (s.mapMc f).ev = s.ev ∧
    (s.mapMc f).sps = s.sps ∧ (s.mapMc f).sent = s.sent ∧ (s.mapMc f).colTx = s.colTx ∧ (s.mapMc f).freeCtr = s.freeCtr ∧
    (s.mapMc f).lanes = s.lanes ∧ (s.mapMc f).linkUp = s.linkUp ∧ (s.mapMc f).ingest = s.ingest ∧ (s.mapMc f).pages = s.pages ∧
    (s.mapMc f).lastPlan = s.lastPlan ∧ (s.mapMc f).digestWait = s.digestWait ∧ (s.mapMc f).codec = s.codec ∧ (s.mapMc f).dram = s.dram ∧
    (s.mapMc f).scr = s.scr ∧ (s.mapMc f).ff = s.ff ∧ (s.mapMc f).fpe = s.fpe ∧ (s.mapMc f).ports = s.ports ∧ (s.mapMc f).posn = s.posn ∧
    (s.mapMc f).loop = s.loop ∧ (s.mapMc f).ins = s.ins ∧ (s.mapMc f).light = s.light ∧ (s.mapMc f).mot = s.mot ∧
    (s.mapMc f).twin = s.twin ∧ (s.mapMc f).net = s.net ∧ (s.mapMc f).ptp = s.ptp ∧ (s.mapMc f).met = s.met ∧
    (s.mapMc f).tally = s.tally ∧ (s.mapMc f).cal = s.cal ∧ (s.mapMc f).hmWait = s.hmWait ∧ (s.mapMc f).aborts = s.aborts ∧
    (s.mapMc f).pending = s.pending :=
  ⟨rfl, rfl, rfl, rfl, rfl, rfl, rfl, rfl, rfl, rfl, rfl, rfl, rfl, rfl, rfl, rfl, rfl, rfl, rfl, rfl, rfl, rfl, rfl, rfl, rfl, rfl, rfl, rfl, rfl, rfl, rfl, rfl, rfl, rfl, rfl, rfl, rfl, rfl, rfl⟩

@[simp] theorem State.get_mapMc (s : State) (f : MemCtlSt → MemCtlSt) (g : Fld) (j : Nat) : (s.mapMc f).get g j = s.get g j := by
  unfold State.get; simp

/-- `mapLamp` changes only `light`. -/
@[simp] theorem State.mapLamp_frame (s : State) (n : Nat) (f : Lamp → Lamp) :
    (s.mapLamp n f).now = s.now ∧ (s.mapLamp n f).ft = s.ft ∧ (s.mapLamp n f).pins = s.pins ∧ (s.mapLamp n f).regs = s.regs ∧
    (s.mapLamp n f).force = s.force ∧ (s.mapLamp n f).snap = s.snap ∧ (s.mapLamp n f).rst = s.rst ∧ (s.mapLamp n f).img = s.img ∧
    (s.mapLamp n f).ev = s.ev ∧ (s.mapLamp n f).sps = s.sps ∧ (s.mapLamp n f).sent = s.sent ∧ (s.mapLamp n f).colTx = s.colTx ∧
    (s.mapLamp n f).freeCtr = s.freeCtr ∧ (s.mapLamp n f).lanes = s.lanes ∧ (s.mapLamp n f).linkUp = s.linkUp ∧
    (s.mapLamp n f).ingest = s.ingest ∧ (s.mapLamp n f).pages = s.pages ∧ (s.mapLamp n f).lastPlan = s.lastPlan ∧
    (s.mapLamp n f).digestWait = s.digestWait ∧ (s.mapLamp n f).codec = s.codec ∧ (s.mapLamp n f).dram = s.dram ∧
    (s.mapLamp n f).scr = s.scr ∧ (s.mapLamp n f).ff = s.ff ∧ (s.mapLamp n f).fpe = s.fpe ∧ (s.mapLamp n f).ports = s.ports ∧
    (s.mapLamp n f).posn = s.posn ∧ (s.mapLamp n f).loop = s.loop ∧ (s.mapLamp n f).ins = s.ins ∧ (s.mapLamp n f).mot = s.mot ∧
    (s.mapLamp n f).mc = s.mc ∧ (s.mapLamp n f).twin = s.twin ∧ (s.mapLamp n f).net = s.net ∧ (s.mapLamp n f).ptp = s.ptp ∧
    (s.mapLamp n f).met = s.met ∧ (s.mapLamp n f).tally = s.tally ∧ (s.mapLamp n f).cal = s.cal ∧ (s.mapLamp n f).hmWait = s.hmWait ∧
    (s.mapLamp n f).aborts = s.aborts ∧ (s.mapLamp n f).pending = s.pending :=
  ⟨rfl, rfl, rfl, rfl, rfl, rfl, rfl, rfl, rfl, rfl, rfl, rfl, rfl, rfl, rfl, rfl, rfl, rfl, rfl, rfl, rfl, rfl, rfl, rfl, rfl, rfl, rfl, rfl, rfl, rfl, rfl, rfl, rfl, rfl, rfl, rfl, rfl, rfl, rfl⟩

@[simp] theorem State.get_mapLamp (s : State) (n : Nat) (f : Lamp → Lamp) (g : Fld) (j : Nat) : (s.mapLamp n f).get g j = s.get g j := by
  unfold State.get; simp

/-- `setPattern` changes only `light`. -/
@[simp] theorem State.setPattern_frame (s : State) (e : Nat) (x : Pattern) :
    (s.setPattern e x).now = s.now ∧ (s.setPattern e x).ft = s.ft ∧ (s.setPattern e x).pins = s.pins ∧ (s.setPattern e x).regs = s.regs ∧
    (s.setPattern e x).force = s.force ∧ (s.setPattern e x).snap = s.snap ∧ (s.setPattern e x).rst = s.rst ∧
    (s.setPattern e x).img = s.img ∧ (s.setPattern e x).ev = s.ev ∧ (s.setPattern e x).sps = s.sps ∧ (s.setPattern e x).sent = s.sent ∧
    (s.setPattern e x).colTx = s.colTx ∧ (s.setPattern e x).freeCtr = s.freeCtr ∧ (s.setPattern e x).lanes = s.lanes ∧
    (s.setPattern e x).linkUp = s.linkUp ∧ (s.setPattern e x).ingest = s.ingest ∧ (s.setPattern e x).pages = s.pages ∧
    (s.setPattern e x).lastPlan = s.lastPlan ∧ (s.setPattern e x).digestWait = s.digestWait ∧ (s.setPattern e x).codec = s.codec ∧
    (s.setPattern e x).dram = s.dram ∧ (s.setPattern e x).scr = s.scr ∧ (s.setPattern e x).ff = s.ff ∧ (s.setPattern e x).fpe = s.fpe ∧
    (s.setPattern e x).ports = s.ports ∧ (s.setPattern e x).posn = s.posn ∧ (s.setPattern e x).loop = s.loop ∧
    (s.setPattern e x).ins = s.ins ∧ (s.setPattern e x).mot = s.mot ∧ (s.setPattern e x).mc = s.mc ∧ (s.setPattern e x).twin = s.twin ∧
    (s.setPattern e x).net = s.net ∧ (s.setPattern e x).ptp = s.ptp ∧ (s.setPattern e x).met = s.met ∧
    (s.setPattern e x).tally = s.tally ∧ (s.setPattern e x).cal = s.cal ∧ (s.setPattern e x).hmWait = s.hmWait ∧
    (s.setPattern e x).aborts = s.aborts ∧ (s.setPattern e x).pending = s.pending :=
  ⟨rfl, rfl, rfl, rfl, rfl, rfl, rfl, rfl, rfl, rfl, rfl, rfl, rfl, rfl, rfl, rfl, rfl, rfl, rfl, rfl, rfl, rfl, rfl, rfl, rfl, rfl, rfl, rfl, rfl, rfl, rfl, rfl, rfl, rfl, rfl, rfl, rfl, rfl, rfl⟩

@[simp] theorem State.get_setPattern (s : State) (e : Nat) (x : Pattern) (g : Fld) (j : Nat) : (s.setPattern e x).get g j = s.get g j := by
  unfold State.get; simp

/-- `mapPattern` changes only `light`. -/
@[simp] theorem State.mapPattern_frame (s : State) (e : Nat) (f : Pattern → Pattern) :
    (s.mapPattern e f).now = s.now ∧ (s.mapPattern e f).ft = s.ft ∧ (s.mapPattern e f).pins = s.pins ∧ (s.mapPattern e f).regs = s.regs ∧
    (s.mapPattern e f).force = s.force ∧ (s.mapPattern e f).snap = s.snap ∧ (s.mapPattern e f).rst = s.rst ∧
    (s.mapPattern e f).img = s.img ∧ (s.mapPattern e f).ev = s.ev ∧ (s.mapPattern e f).sps = s.sps ∧ (s.mapPattern e f).sent = s.sent ∧
    (s.mapPattern e f).colTx = s.colTx ∧ (s.mapPattern e f).freeCtr = s.freeCtr ∧ (s.mapPattern e f).lanes = s.lanes ∧
    (s.mapPattern e f).linkUp = s.linkUp ∧ (s.mapPattern e f).ingest = s.ingest ∧ (s.mapPattern e f).pages = s.pages ∧
    (s.mapPattern e f).lastPlan = s.lastPlan ∧ (s.mapPattern e f).digestWait = s.digestWait ∧ (s.mapPattern e f).codec = s.codec ∧
    (s.mapPattern e f).dram = s.dram ∧ (s.mapPattern e f).scr = s.scr ∧ (s.mapPattern e f).ff = s.ff ∧ (s.mapPattern e f).fpe = s.fpe ∧
    (s.mapPattern e f).ports = s.ports ∧ (s.mapPattern e f).posn = s.posn ∧ (s.mapPattern e f).loop = s.loop ∧
    (s.mapPattern e f).ins = s.ins ∧ (s.mapPattern e f).mot = s.mot ∧ (s.mapPattern e f).mc = s.mc ∧ (s.mapPattern e f).twin = s.twin ∧
    (s.mapPattern e f).net = s.net ∧ (s.mapPattern e f).ptp = s.ptp ∧ (s.mapPattern e f).met = s.met ∧
    (s.mapPattern e f).tally = s.tally ∧ (s.mapPattern e f).cal = s.cal ∧ (s.mapPattern e f).hmWait = s.hmWait ∧
    (s.mapPattern e f).aborts = s.aborts ∧ (s.mapPattern e f).pending = s.pending :=
  ⟨rfl, rfl, rfl, rfl, rfl, rfl, rfl, rfl, rfl, rfl, rfl, rfl, rfl, rfl, rfl, rfl, rfl, rfl, rfl, rfl, rfl, rfl, rfl, rfl, rfl, rfl, rfl, rfl, rfl, rfl, rfl, rfl, rfl, rfl, rfl, rfl, rfl, rfl, rfl⟩

@[simp] theorem State.get_mapPattern (s : State) (e : Nat) (f : Pattern → Pattern) (g : Fld) (j : Nat) : (s.mapPattern e f).get g j = s.get g j := by
  unfold State.get; simp

/-- `setSlot` changes only `loop`. -/
@[simp] theorem State.setSlot_frame (s : State) (n : Nat) (x : Slot) :
    (s.setSlot n x).now = s.now ∧ (s.setSlot n x).ft = s.ft ∧ (s.setSlot n x).pins = s.pins ∧ (s.setSlot n x).regs = s.regs ∧
    (s.setSlot n x).force = s.force ∧ (s.setSlot n x).snap = s.snap ∧ (s.setSlot n x).rst = s.rst ∧ (s.setSlot n x).img = s.img ∧
    (s.setSlot n x).ev = s.ev ∧ (s.setSlot n x).sps = s.sps ∧ (s.setSlot n x).sent = s.sent ∧ (s.setSlot n x).colTx = s.colTx ∧
    (s.setSlot n x).freeCtr = s.freeCtr ∧ (s.setSlot n x).lanes = s.lanes ∧ (s.setSlot n x).linkUp = s.linkUp ∧
    (s.setSlot n x).ingest = s.ingest ∧ (s.setSlot n x).pages = s.pages ∧ (s.setSlot n x).lastPlan = s.lastPlan ∧
    (s.setSlot n x).digestWait = s.digestWait ∧ (s.setSlot n x).codec = s.codec ∧ (s.setSlot n x).dram = s.dram ∧
    (s.setSlot n x).scr = s.scr ∧ (s.setSlot n x).ff = s.ff ∧ (s.setSlot n x).fpe = s.fpe ∧ (s.setSlot n x).ports = s.ports ∧
    (s.setSlot n x).posn = s.posn ∧ (s.setSlot n x).ins = s.ins ∧ (s.setSlot n x).light = s.light ∧ (s.setSlot n x).mot = s.mot ∧
    (s.setSlot n x).mc = s.mc ∧ (s.setSlot n x).twin = s.twin ∧ (s.setSlot n x).net = s.net ∧ (s.setSlot n x).ptp = s.ptp ∧
    (s.setSlot n x).met = s.met ∧ (s.setSlot n x).tally = s.tally ∧ (s.setSlot n x).cal = s.cal ∧ (s.setSlot n x).hmWait = s.hmWait ∧
    (s.setSlot n x).aborts = s.aborts ∧ (s.setSlot n x).pending = s.pending :=
  ⟨rfl, rfl, rfl, rfl, rfl, rfl, rfl, rfl, rfl, rfl, rfl, rfl, rfl, rfl, rfl, rfl, rfl, rfl, rfl, rfl, rfl, rfl, rfl, rfl, rfl, rfl, rfl, rfl, rfl, rfl, rfl, rfl, rfl, rfl, rfl, rfl, rfl, rfl, rfl⟩

@[simp] theorem State.get_setSlot (s : State) (n : Nat) (x : Slot) (g : Fld) (j : Nat) : (s.setSlot n x).get g j = s.get g j := by
  unfold State.get; simp

/-- `mapSlot` changes only `loop`. -/
@[simp] theorem State.mapSlot_frame (s : State) (n : Nat) (f : Slot → Slot) :
    (s.mapSlot n f).now = s.now ∧ (s.mapSlot n f).ft = s.ft ∧ (s.mapSlot n f).pins = s.pins ∧ (s.mapSlot n f).regs = s.regs ∧
    (s.mapSlot n f).force = s.force ∧ (s.mapSlot n f).snap = s.snap ∧ (s.mapSlot n f).rst = s.rst ∧ (s.mapSlot n f).img = s.img ∧
    (s.mapSlot n f).ev = s.ev ∧ (s.mapSlot n f).sps = s.sps ∧ (s.mapSlot n f).sent = s.sent ∧ (s.mapSlot n f).colTx = s.colTx ∧
    (s.mapSlot n f).freeCtr = s.freeCtr ∧ (s.mapSlot n f).lanes = s.lanes ∧ (s.mapSlot n f).linkUp = s.linkUp ∧
    (s.mapSlot n f).ingest = s.ingest ∧ (s.mapSlot n f).pages = s.pages ∧ (s.mapSlot n f).lastPlan = s.lastPlan ∧
    (s.mapSlot n f).digestWait = s.digestWait ∧ (s.mapSlot n f).codec = s.codec ∧ (s.mapSlot n f).dram = s.dram ∧
    (s.mapSlot n f).scr = s.scr ∧ (s.mapSlot n f).ff = s.ff ∧ (s.mapSlot n f).fpe = s.fpe ∧ (s.mapSlot n f).ports = s.ports ∧
    (s.mapSlot n f).posn = s.posn ∧ (s.mapSlot n f).ins = s.ins ∧ (s.mapSlot n f).light = s.light ∧ (s.mapSlot n f).mot = s.mot ∧
    (s.mapSlot n f).mc = s.mc ∧ (s.mapSlot n f).twin = s.twin ∧ (s.mapSlot n f).net = s.net ∧ (s.mapSlot n f).ptp = s.ptp ∧
    (s.mapSlot n f).met = s.met ∧ (s.mapSlot n f).tally = s.tally ∧ (s.mapSlot n f).cal = s.cal ∧ (s.mapSlot n f).hmWait = s.hmWait ∧
    (s.mapSlot n f).aborts = s.aborts ∧ (s.mapSlot n f).pending = s.pending :=
  ⟨rfl, rfl, rfl, rfl, rfl, rfl, rfl, rfl, rfl, rfl, rfl, rfl, rfl, rfl, rfl, rfl, rfl, rfl, rfl, rfl, rfl, rfl, rfl, rfl, rfl, rfl, rfl, rfl, rfl, rfl, rfl, rfl, rfl, rfl, rfl, rfl, rfl, rfl, rfl⟩

@[simp] theorem State.get_mapSlot (s : State) (n : Nat) (f : Slot → Slot) (g : Fld) (j : Nat) : (s.mapSlot n f).get g j = s.get g j := by
  unfold State.get; simp

/-- `setTrace` changes only `loop`. -/
@[simp] theorem State.setTrace_frame (s : State) (b : Nat) (x : TraceBuf) :
    (s.setTrace b x).now = s.now ∧ (s.setTrace b x).ft = s.ft ∧ (s.setTrace b x).pins = s.pins ∧ (s.setTrace b x).regs = s.regs ∧
    (s.setTrace b x).force = s.force ∧ (s.setTrace b x).snap = s.snap ∧ (s.setTrace b x).rst = s.rst ∧ (s.setTrace b x).img = s.img ∧
    (s.setTrace b x).ev = s.ev ∧ (s.setTrace b x).sps = s.sps ∧ (s.setTrace b x).sent = s.sent ∧ (s.setTrace b x).colTx = s.colTx ∧
    (s.setTrace b x).freeCtr = s.freeCtr ∧ (s.setTrace b x).lanes = s.lanes ∧ (s.setTrace b x).linkUp = s.linkUp ∧
    (s.setTrace b x).ingest = s.ingest ∧ (s.setTrace b x).pages = s.pages ∧ (s.setTrace b x).lastPlan = s.lastPlan ∧
    (s.setTrace b x).digestWait = s.digestWait ∧ (s.setTrace b x).codec = s.codec ∧ (s.setTrace b x).dram = s.dram ∧
    (s.setTrace b x).scr = s.scr ∧ (s.setTrace b x).ff = s.ff ∧ (s.setTrace b x).fpe = s.fpe ∧ (s.setTrace b x).ports = s.ports ∧
    (s.setTrace b x).posn = s.posn ∧ (s.setTrace b x).ins = s.ins ∧ (s.setTrace b x).light = s.light ∧ (s.setTrace b x).mot = s.mot ∧
    (s.setTrace b x).mc = s.mc ∧ (s.setTrace b x).twin = s.twin ∧ (s.setTrace b x).net = s.net ∧ (s.setTrace b x).ptp = s.ptp ∧
    (s.setTrace b x).met = s.met ∧ (s.setTrace b x).tally = s.tally ∧ (s.setTrace b x).cal = s.cal ∧ (s.setTrace b x).hmWait = s.hmWait ∧
    (s.setTrace b x).aborts = s.aborts ∧ (s.setTrace b x).pending = s.pending :=
  ⟨rfl, rfl, rfl, rfl, rfl, rfl, rfl, rfl, rfl, rfl, rfl, rfl, rfl, rfl, rfl, rfl, rfl, rfl, rfl, rfl, rfl, rfl, rfl, rfl, rfl, rfl, rfl, rfl, rfl, rfl, rfl, rfl, rfl, rfl, rfl, rfl, rfl, rfl, rfl⟩

@[simp] theorem State.get_setTrace (s : State) (b : Nat) (x : TraceBuf) (g : Fld) (j : Nat) : (s.setTrace b x).get g j = s.get g j := by
  unfold State.get; simp

/-- `setAxis` changes only `mot`. -/
@[simp] theorem State.setAxis_frame (s : State) (n : Nat) (x : Axis) :
    (s.setAxis n x).now = s.now ∧ (s.setAxis n x).ft = s.ft ∧ (s.setAxis n x).pins = s.pins ∧ (s.setAxis n x).regs = s.regs ∧
    (s.setAxis n x).force = s.force ∧ (s.setAxis n x).snap = s.snap ∧ (s.setAxis n x).rst = s.rst ∧ (s.setAxis n x).img = s.img ∧
    (s.setAxis n x).ev = s.ev ∧ (s.setAxis n x).sps = s.sps ∧ (s.setAxis n x).sent = s.sent ∧ (s.setAxis n x).colTx = s.colTx ∧
    (s.setAxis n x).freeCtr = s.freeCtr ∧ (s.setAxis n x).lanes = s.lanes ∧ (s.setAxis n x).linkUp = s.linkUp ∧
    (s.setAxis n x).ingest = s.ingest ∧ (s.setAxis n x).pages = s.pages ∧ (s.setAxis n x).lastPlan = s.lastPlan ∧
    (s.setAxis n x).digestWait = s.digestWait ∧ (s.setAxis n x).codec = s.codec ∧ (s.setAxis n x).dram = s.dram ∧
    (s.setAxis n x).scr = s.scr ∧ (s.setAxis n x).ff = s.ff ∧ (s.setAxis n x).fpe = s.fpe ∧ (s.setAxis n x).ports = s.ports ∧
    (s.setAxis n x).posn = s.posn ∧ (s.setAxis n x).loop = s.loop ∧ (s.setAxis n x).ins = s.ins ∧ (s.setAxis n x).light = s.light ∧
    (s.setAxis n x).mc = s.mc ∧ (s.setAxis n x).twin = s.twin ∧ (s.setAxis n x).net = s.net ∧ (s.setAxis n x).ptp = s.ptp ∧
    (s.setAxis n x).met = s.met ∧ (s.setAxis n x).tally = s.tally ∧ (s.setAxis n x).cal = s.cal ∧ (s.setAxis n x).hmWait = s.hmWait ∧
    (s.setAxis n x).aborts = s.aborts ∧ (s.setAxis n x).pending = s.pending :=
  ⟨rfl, rfl, rfl, rfl, rfl, rfl, rfl, rfl, rfl, rfl, rfl, rfl, rfl, rfl, rfl, rfl, rfl, rfl, rfl, rfl, rfl, rfl, rfl, rfl, rfl, rfl, rfl, rfl, rfl, rfl, rfl, rfl, rfl, rfl, rfl, rfl, rfl, rfl, rfl⟩

@[simp] theorem State.get_setAxis (s : State) (n : Nat) (x : Axis) (g : Fld) (j : Nat) : (s.setAxis n x).get g j = s.get g j := by
  unfold State.get; simp

/-- `mapAxis` changes only `mot`. -/
@[simp] theorem State.mapAxis_frame (s : State) (n : Nat) (f : Axis → Axis) :
    (s.mapAxis n f).now = s.now ∧ (s.mapAxis n f).ft = s.ft ∧ (s.mapAxis n f).pins = s.pins ∧ (s.mapAxis n f).regs = s.regs ∧
    (s.mapAxis n f).force = s.force ∧ (s.mapAxis n f).snap = s.snap ∧ (s.mapAxis n f).rst = s.rst ∧ (s.mapAxis n f).img = s.img ∧
    (s.mapAxis n f).ev = s.ev ∧ (s.mapAxis n f).sps = s.sps ∧ (s.mapAxis n f).sent = s.sent ∧ (s.mapAxis n f).colTx = s.colTx ∧
    (s.mapAxis n f).freeCtr = s.freeCtr ∧ (s.mapAxis n f).lanes = s.lanes ∧ (s.mapAxis n f).linkUp = s.linkUp ∧
    (s.mapAxis n f).ingest = s.ingest ∧ (s.mapAxis n f).pages = s.pages ∧ (s.mapAxis n f).lastPlan = s.lastPlan ∧
    (s.mapAxis n f).digestWait = s.digestWait ∧ (s.mapAxis n f).codec = s.codec ∧ (s.mapAxis n f).dram = s.dram ∧
    (s.mapAxis n f).scr = s.scr ∧ (s.mapAxis n f).ff = s.ff ∧ (s.mapAxis n f).fpe = s.fpe ∧ (s.mapAxis n f).ports = s.ports ∧
    (s.mapAxis n f).posn = s.posn ∧ (s.mapAxis n f).loop = s.loop ∧ (s.mapAxis n f).ins = s.ins ∧ (s.mapAxis n f).light = s.light ∧
    (s.mapAxis n f).mc = s.mc ∧ (s.mapAxis n f).twin = s.twin ∧ (s.mapAxis n f).net = s.net ∧ (s.mapAxis n f).ptp = s.ptp ∧
    (s.mapAxis n f).met = s.met ∧ (s.mapAxis n f).tally = s.tally ∧ (s.mapAxis n f).cal = s.cal ∧ (s.mapAxis n f).hmWait = s.hmWait ∧
    (s.mapAxis n f).aborts = s.aborts ∧ (s.mapAxis n f).pending = s.pending :=
  ⟨rfl, rfl, rfl, rfl, rfl, rfl, rfl, rfl, rfl, rfl, rfl, rfl, rfl, rfl, rfl, rfl, rfl, rfl, rfl, rfl, rfl, rfl, rfl, rfl, rfl, rfl, rfl, rfl, rfl, rfl, rfl, rfl, rfl, rfl, rfl, rfl, rfl, rfl, rfl⟩

@[simp] theorem State.get_mapAxis (s : State) (n : Nat) (f : Axis → Axis) (g : Fld) (j : Nat) : (s.mapAxis n f).get g j = s.get g j := by
  unfold State.get; simp

/-- `setAct` changes only `mot`. -/
@[simp] theorem State.setAct_frame (s : State) (x : Activity) :
    (s.setAct x).now = s.now ∧ (s.setAct x).ft = s.ft ∧ (s.setAct x).pins = s.pins ∧ (s.setAct x).regs = s.regs ∧
    (s.setAct x).force = s.force ∧ (s.setAct x).snap = s.snap ∧ (s.setAct x).rst = s.rst ∧ (s.setAct x).img = s.img ∧
    (s.setAct x).ev = s.ev ∧ (s.setAct x).sps = s.sps ∧ (s.setAct x).sent = s.sent ∧ (s.setAct x).colTx = s.colTx ∧
    (s.setAct x).freeCtr = s.freeCtr ∧ (s.setAct x).lanes = s.lanes ∧ (s.setAct x).linkUp = s.linkUp ∧ (s.setAct x).ingest = s.ingest ∧
    (s.setAct x).pages = s.pages ∧ (s.setAct x).lastPlan = s.lastPlan ∧ (s.setAct x).digestWait = s.digestWait ∧
    (s.setAct x).codec = s.codec ∧ (s.setAct x).dram = s.dram ∧ (s.setAct x).scr = s.scr ∧ (s.setAct x).ff = s.ff ∧
    (s.setAct x).fpe = s.fpe ∧ (s.setAct x).ports = s.ports ∧ (s.setAct x).posn = s.posn ∧ (s.setAct x).loop = s.loop ∧
    (s.setAct x).ins = s.ins ∧ (s.setAct x).light = s.light ∧ (s.setAct x).mc = s.mc ∧ (s.setAct x).twin = s.twin ∧
    (s.setAct x).net = s.net ∧ (s.setAct x).ptp = s.ptp ∧ (s.setAct x).met = s.met ∧ (s.setAct x).tally = s.tally ∧
    (s.setAct x).cal = s.cal ∧ (s.setAct x).hmWait = s.hmWait ∧ (s.setAct x).aborts = s.aborts ∧ (s.setAct x).pending = s.pending :=
  ⟨rfl, rfl, rfl, rfl, rfl, rfl, rfl, rfl, rfl, rfl, rfl, rfl, rfl, rfl, rfl, rfl, rfl, rfl, rfl, rfl, rfl, rfl, rfl, rfl, rfl, rfl, rfl, rfl, rfl, rfl, rfl, rfl, rfl, rfl, rfl, rfl, rfl, rfl, rfl⟩

@[simp] theorem State.get_setAct (s : State) (x : Activity) (g : Fld) (j : Nat) : (s.setAct x).get g j = s.get g j := by
  unfold State.get; simp

/-- `mapCtx` changes only `ins`. -/
@[simp] theorem State.mapCtx_frame (s : State) (c : Nat) (f : Ctx → Ctx) :
    (s.mapCtx c f).now = s.now ∧ (s.mapCtx c f).ft = s.ft ∧ (s.mapCtx c f).pins = s.pins ∧ (s.mapCtx c f).regs = s.regs ∧
    (s.mapCtx c f).force = s.force ∧ (s.mapCtx c f).snap = s.snap ∧ (s.mapCtx c f).rst = s.rst ∧ (s.mapCtx c f).img = s.img ∧
    (s.mapCtx c f).ev = s.ev ∧ (s.mapCtx c f).sps = s.sps ∧ (s.mapCtx c f).sent = s.sent ∧ (s.mapCtx c f).colTx = s.colTx ∧
    (s.mapCtx c f).freeCtr = s.freeCtr ∧ (s.mapCtx c f).lanes = s.lanes ∧ (s.mapCtx c f).linkUp = s.linkUp ∧
    (s.mapCtx c f).ingest = s.ingest ∧ (s.mapCtx c f).pages = s.pages ∧ (s.mapCtx c f).lastPlan = s.lastPlan ∧
    (s.mapCtx c f).digestWait = s.digestWait ∧ (s.mapCtx c f).codec = s.codec ∧ (s.mapCtx c f).dram = s.dram ∧
    (s.mapCtx c f).scr = s.scr ∧ (s.mapCtx c f).ff = s.ff ∧ (s.mapCtx c f).fpe = s.fpe ∧ (s.mapCtx c f).ports = s.ports ∧
    (s.mapCtx c f).posn = s.posn ∧ (s.mapCtx c f).loop = s.loop ∧ (s.mapCtx c f).light = s.light ∧ (s.mapCtx c f).mot = s.mot ∧
    (s.mapCtx c f).mc = s.mc ∧ (s.mapCtx c f).twin = s.twin ∧ (s.mapCtx c f).net = s.net ∧ (s.mapCtx c f).ptp = s.ptp ∧
    (s.mapCtx c f).met = s.met ∧ (s.mapCtx c f).tally = s.tally ∧ (s.mapCtx c f).cal = s.cal ∧ (s.mapCtx c f).hmWait = s.hmWait ∧
    (s.mapCtx c f).aborts = s.aborts ∧ (s.mapCtx c f).pending = s.pending :=
  ⟨rfl, rfl, rfl, rfl, rfl, rfl, rfl, rfl, rfl, rfl, rfl, rfl, rfl, rfl, rfl, rfl, rfl, rfl, rfl, rfl, rfl, rfl, rfl, rfl, rfl, rfl, rfl, rfl, rfl, rfl, rfl, rfl, rfl, rfl, rfl, rfl, rfl, rfl, rfl⟩

@[simp] theorem State.get_mapCtx (s : State) (c : Nat) (f : Ctx → Ctx) (g : Fld) (j : Nat) : (s.mapCtx c f).get g j = s.get g j := by
  unfold State.get; simp

/-- `mapCam` changes only `ins`. -/
@[simp] theorem State.mapCam_frame (s : State) (n : Nat) (f : CamPort → CamPort) :
    (s.mapCam n f).now = s.now ∧ (s.mapCam n f).ft = s.ft ∧ (s.mapCam n f).pins = s.pins ∧ (s.mapCam n f).regs = s.regs ∧
    (s.mapCam n f).force = s.force ∧ (s.mapCam n f).snap = s.snap ∧ (s.mapCam n f).rst = s.rst ∧ (s.mapCam n f).img = s.img ∧
    (s.mapCam n f).ev = s.ev ∧ (s.mapCam n f).sps = s.sps ∧ (s.mapCam n f).sent = s.sent ∧ (s.mapCam n f).colTx = s.colTx ∧
    (s.mapCam n f).freeCtr = s.freeCtr ∧ (s.mapCam n f).lanes = s.lanes ∧ (s.mapCam n f).linkUp = s.linkUp ∧
    (s.mapCam n f).ingest = s.ingest ∧ (s.mapCam n f).pages = s.pages ∧ (s.mapCam n f).lastPlan = s.lastPlan ∧
    (s.mapCam n f).digestWait = s.digestWait ∧ (s.mapCam n f).codec = s.codec ∧ (s.mapCam n f).dram = s.dram ∧
    (s.mapCam n f).scr = s.scr ∧ (s.mapCam n f).ff = s.ff ∧ (s.mapCam n f).fpe = s.fpe ∧ (s.mapCam n f).ports = s.ports ∧
    (s.mapCam n f).posn = s.posn ∧ (s.mapCam n f).loop = s.loop ∧ (s.mapCam n f).light = s.light ∧ (s.mapCam n f).mot = s.mot ∧
    (s.mapCam n f).mc = s.mc ∧ (s.mapCam n f).twin = s.twin ∧ (s.mapCam n f).net = s.net ∧ (s.mapCam n f).ptp = s.ptp ∧
    (s.mapCam n f).met = s.met ∧ (s.mapCam n f).tally = s.tally ∧ (s.mapCam n f).cal = s.cal ∧ (s.mapCam n f).hmWait = s.hmWait ∧
    (s.mapCam n f).aborts = s.aborts ∧ (s.mapCam n f).pending = s.pending :=
  ⟨rfl, rfl, rfl, rfl, rfl, rfl, rfl, rfl, rfl, rfl, rfl, rfl, rfl, rfl, rfl, rfl, rfl, rfl, rfl, rfl, rfl, rfl, rfl, rfl, rfl, rfl, rfl, rfl, rfl, rfl, rfl, rfl, rfl, rfl, rfl, rfl, rfl, rfl, rfl⟩

@[simp] theorem State.get_mapCam (s : State) (n : Nat) (f : CamPort → CamPort) (g : Fld) (j : Nat) : (s.mapCam n f).get g j = s.get g j := by
  unfold State.get; simp

/-- `mapEnc` changes only `posn`. -/
@[simp] theorem State.mapEnc_frame (s : State) (n : Nat) (f : Encoder → Encoder) :
    (s.mapEnc n f).now = s.now ∧ (s.mapEnc n f).ft = s.ft ∧ (s.mapEnc n f).pins = s.pins ∧ (s.mapEnc n f).regs = s.regs ∧
    (s.mapEnc n f).force = s.force ∧ (s.mapEnc n f).snap = s.snap ∧ (s.mapEnc n f).rst = s.rst ∧ (s.mapEnc n f).img = s.img ∧
    (s.mapEnc n f).ev = s.ev ∧ (s.mapEnc n f).sps = s.sps ∧ (s.mapEnc n f).sent = s.sent ∧ (s.mapEnc n f).colTx = s.colTx ∧
    (s.mapEnc n f).freeCtr = s.freeCtr ∧ (s.mapEnc n f).lanes = s.lanes ∧ (s.mapEnc n f).linkUp = s.linkUp ∧
    (s.mapEnc n f).ingest = s.ingest ∧ (s.mapEnc n f).pages = s.pages ∧ (s.mapEnc n f).lastPlan = s.lastPlan ∧
    (s.mapEnc n f).digestWait = s.digestWait ∧ (s.mapEnc n f).codec = s.codec ∧ (s.mapEnc n f).dram = s.dram ∧
    (s.mapEnc n f).scr = s.scr ∧ (s.mapEnc n f).ff = s.ff ∧ (s.mapEnc n f).fpe = s.fpe ∧ (s.mapEnc n f).ports = s.ports ∧
    (s.mapEnc n f).loop = s.loop ∧ (s.mapEnc n f).ins = s.ins ∧ (s.mapEnc n f).light = s.light ∧ (s.mapEnc n f).mot = s.mot ∧
    (s.mapEnc n f).mc = s.mc ∧ (s.mapEnc n f).twin = s.twin ∧ (s.mapEnc n f).net = s.net ∧ (s.mapEnc n f).ptp = s.ptp ∧
    (s.mapEnc n f).met = s.met ∧ (s.mapEnc n f).tally = s.tally ∧ (s.mapEnc n f).cal = s.cal ∧ (s.mapEnc n f).hmWait = s.hmWait ∧
    (s.mapEnc n f).aborts = s.aborts ∧ (s.mapEnc n f).pending = s.pending :=
  ⟨rfl, rfl, rfl, rfl, rfl, rfl, rfl, rfl, rfl, rfl, rfl, rfl, rfl, rfl, rfl, rfl, rfl, rfl, rfl, rfl, rfl, rfl, rfl, rfl, rfl, rfl, rfl, rfl, rfl, rfl, rfl, rfl, rfl, rfl, rfl, rfl, rfl, rfl, rfl⟩

@[simp] theorem State.get_mapEnc (s : State) (n : Nat) (f : Encoder → Encoder) (g : Fld) (j : Nat) : (s.mapEnc n f).get g j = s.get g j := by
  unfold State.get; simp

/-- `mapLatch` changes only `posn`. -/
@[simp] theorem State.mapLatch_frame (s : State) (m : Nat) (f : LatchIn → LatchIn) :
    (s.mapLatch m f).now = s.now ∧ (s.mapLatch m f).ft = s.ft ∧ (s.mapLatch m f).pins = s.pins ∧ (s.mapLatch m f).regs = s.regs ∧
    (s.mapLatch m f).force = s.force ∧ (s.mapLatch m f).snap = s.snap ∧ (s.mapLatch m f).rst = s.rst ∧ (s.mapLatch m f).img = s.img ∧
    (s.mapLatch m f).ev = s.ev ∧ (s.mapLatch m f).sps = s.sps ∧ (s.mapLatch m f).sent = s.sent ∧ (s.mapLatch m f).colTx = s.colTx ∧
    (s.mapLatch m f).freeCtr = s.freeCtr ∧ (s.mapLatch m f).lanes = s.lanes ∧ (s.mapLatch m f).linkUp = s.linkUp ∧
    (s.mapLatch m f).ingest = s.ingest ∧ (s.mapLatch m f).pages = s.pages ∧ (s.mapLatch m f).lastPlan = s.lastPlan ∧
    (s.mapLatch m f).digestWait = s.digestWait ∧ (s.mapLatch m f).codec = s.codec ∧ (s.mapLatch m f).dram = s.dram ∧
    (s.mapLatch m f).scr = s.scr ∧ (s.mapLatch m f).ff = s.ff ∧ (s.mapLatch m f).fpe = s.fpe ∧ (s.mapLatch m f).ports = s.ports ∧
    (s.mapLatch m f).loop = s.loop ∧ (s.mapLatch m f).ins = s.ins ∧ (s.mapLatch m f).light = s.light ∧ (s.mapLatch m f).mot = s.mot ∧
    (s.mapLatch m f).mc = s.mc ∧ (s.mapLatch m f).twin = s.twin ∧ (s.mapLatch m f).net = s.net ∧ (s.mapLatch m f).ptp = s.ptp ∧
    (s.mapLatch m f).met = s.met ∧ (s.mapLatch m f).tally = s.tally ∧ (s.mapLatch m f).cal = s.cal ∧ (s.mapLatch m f).hmWait = s.hmWait ∧
    (s.mapLatch m f).aborts = s.aborts ∧ (s.mapLatch m f).pending = s.pending :=
  ⟨rfl, rfl, rfl, rfl, rfl, rfl, rfl, rfl, rfl, rfl, rfl, rfl, rfl, rfl, rfl, rfl, rfl, rfl, rfl, rfl, rfl, rfl, rfl, rfl, rfl, rfl, rfl, rfl, rfl, rfl, rfl, rfl, rfl, rfl, rfl, rfl, rfl, rfl, rfl⟩

@[simp] theorem State.get_mapLatch (s : State) (m : Nat) (f : LatchIn → LatchIn) (g : Fld) (j : Nat) : (s.mapLatch m f).get g j = s.get g j := by
  unfold State.get; simp

/-- `mapSsi` changes only `posn`. -/
@[simp] theorem State.mapSsi_frame (s : State) (n : Nat) (f : SsiPort → SsiPort) :
    (s.mapSsi n f).now = s.now ∧ (s.mapSsi n f).ft = s.ft ∧ (s.mapSsi n f).pins = s.pins ∧ (s.mapSsi n f).regs = s.regs ∧
    (s.mapSsi n f).force = s.force ∧ (s.mapSsi n f).snap = s.snap ∧ (s.mapSsi n f).rst = s.rst ∧ (s.mapSsi n f).img = s.img ∧
    (s.mapSsi n f).ev = s.ev ∧ (s.mapSsi n f).sps = s.sps ∧ (s.mapSsi n f).sent = s.sent ∧ (s.mapSsi n f).colTx = s.colTx ∧
    (s.mapSsi n f).freeCtr = s.freeCtr ∧ (s.mapSsi n f).lanes = s.lanes ∧ (s.mapSsi n f).linkUp = s.linkUp ∧
    (s.mapSsi n f).ingest = s.ingest ∧ (s.mapSsi n f).pages = s.pages ∧ (s.mapSsi n f).lastPlan = s.lastPlan ∧
    (s.mapSsi n f).digestWait = s.digestWait ∧ (s.mapSsi n f).codec = s.codec ∧ (s.mapSsi n f).dram = s.dram ∧
    (s.mapSsi n f).scr = s.scr ∧ (s.mapSsi n f).ff = s.ff ∧ (s.mapSsi n f).fpe = s.fpe ∧ (s.mapSsi n f).ports = s.ports ∧
    (s.mapSsi n f).loop = s.loop ∧ (s.mapSsi n f).ins = s.ins ∧ (s.mapSsi n f).light = s.light ∧ (s.mapSsi n f).mot = s.mot ∧
    (s.mapSsi n f).mc = s.mc ∧ (s.mapSsi n f).twin = s.twin ∧ (s.mapSsi n f).net = s.net ∧ (s.mapSsi n f).ptp = s.ptp ∧
    (s.mapSsi n f).met = s.met ∧ (s.mapSsi n f).tally = s.tally ∧ (s.mapSsi n f).cal = s.cal ∧ (s.mapSsi n f).hmWait = s.hmWait ∧
    (s.mapSsi n f).aborts = s.aborts ∧ (s.mapSsi n f).pending = s.pending :=
  ⟨rfl, rfl, rfl, rfl, rfl, rfl, rfl, rfl, rfl, rfl, rfl, rfl, rfl, rfl, rfl, rfl, rfl, rfl, rfl, rfl, rfl, rfl, rfl, rfl, rfl, rfl, rfl, rfl, rfl, rfl, rfl, rfl, rfl, rfl, rfl, rfl, rfl, rfl, rfl⟩

@[simp] theorem State.get_mapSsi (s : State) (n : Nat) (f : SsiPort → SsiPort) (g : Fld) (j : Nat) : (s.mapSsi n f).get g j = s.get g j := by
  unfold State.get; simp

/-- `setFlash` changes only `img`. -/
@[simp] theorem State.setFlash_frame (s : State) (d : Nat) (f : Tab Byte → Tab Byte) :
    (s.setFlash d f).now = s.now ∧ (s.setFlash d f).ft = s.ft ∧ (s.setFlash d f).pins = s.pins ∧ (s.setFlash d f).regs = s.regs ∧
    (s.setFlash d f).force = s.force ∧ (s.setFlash d f).snap = s.snap ∧ (s.setFlash d f).rst = s.rst ∧ (s.setFlash d f).ev = s.ev ∧
    (s.setFlash d f).sps = s.sps ∧ (s.setFlash d f).sent = s.sent ∧ (s.setFlash d f).colTx = s.colTx ∧
    (s.setFlash d f).freeCtr = s.freeCtr ∧ (s.setFlash d f).lanes = s.lanes ∧ (s.setFlash d f).linkUp = s.linkUp ∧
    (s.setFlash d f).ingest = s.ingest ∧ (s.setFlash d f).pages = s.pages ∧ (s.setFlash d f).lastPlan = s.lastPlan ∧
    (s.setFlash d f).digestWait = s.digestWait ∧ (s.setFlash d f).codec = s.codec ∧ (s.setFlash d f).dram = s.dram ∧
    (s.setFlash d f).scr = s.scr ∧ (s.setFlash d f).ff = s.ff ∧ (s.setFlash d f).fpe = s.fpe ∧ (s.setFlash d f).ports = s.ports ∧
    (s.setFlash d f).posn = s.posn ∧ (s.setFlash d f).loop = s.loop ∧ (s.setFlash d f).ins = s.ins ∧ (s.setFlash d f).light = s.light ∧
    (s.setFlash d f).mot = s.mot ∧ (s.setFlash d f).mc = s.mc ∧ (s.setFlash d f).twin = s.twin ∧ (s.setFlash d f).net = s.net ∧
    (s.setFlash d f).ptp = s.ptp ∧ (s.setFlash d f).met = s.met ∧ (s.setFlash d f).tally = s.tally ∧ (s.setFlash d f).cal = s.cal ∧
    (s.setFlash d f).hmWait = s.hmWait ∧ (s.setFlash d f).aborts = s.aborts ∧ (s.setFlash d f).pending = s.pending :=
  ⟨rfl, rfl, rfl, rfl, rfl, rfl, rfl, rfl, rfl, rfl, rfl, rfl, rfl, rfl, rfl, rfl, rfl, rfl, rfl, rfl, rfl, rfl, rfl, rfl, rfl, rfl, rfl, rfl, rfl, rfl, rfl, rfl, rfl, rfl, rfl, rfl, rfl, rfl, rfl⟩

@[simp] theorem State.get_setFlash (s : State) (d : Nat) (f : Tab Byte → Tab Byte) (g : Fld) (j : Nat) : (s.setFlash d f).get g j = s.get g j := by
  unfold State.get; simp

/-- `hold` changes only `rst`. -/
@[simp] theorem State.hold_frame (s : State) (q : Nat) :
    (s.hold q).now = s.now ∧ (s.hold q).ft = s.ft ∧ (s.hold q).pins = s.pins ∧ (s.hold q).regs = s.regs ∧ (s.hold q).force = s.force ∧
    (s.hold q).snap = s.snap ∧ (s.hold q).img = s.img ∧ (s.hold q).ev = s.ev ∧ (s.hold q).sps = s.sps ∧ (s.hold q).sent = s.sent ∧
    (s.hold q).colTx = s.colTx ∧ (s.hold q).freeCtr = s.freeCtr ∧ (s.hold q).lanes = s.lanes ∧ (s.hold q).linkUp = s.linkUp ∧
    (s.hold q).ingest = s.ingest ∧ (s.hold q).pages = s.pages ∧ (s.hold q).lastPlan = s.lastPlan ∧ (s.hold q).digestWait = s.digestWait ∧
    (s.hold q).codec = s.codec ∧ (s.hold q).dram = s.dram ∧ (s.hold q).scr = s.scr ∧ (s.hold q).ff = s.ff ∧ (s.hold q).fpe = s.fpe ∧
    (s.hold q).ports = s.ports ∧ (s.hold q).posn = s.posn ∧ (s.hold q).loop = s.loop ∧ (s.hold q).ins = s.ins ∧
    (s.hold q).light = s.light ∧ (s.hold q).mot = s.mot ∧ (s.hold q).mc = s.mc ∧ (s.hold q).twin = s.twin ∧ (s.hold q).net = s.net ∧
    (s.hold q).ptp = s.ptp ∧ (s.hold q).met = s.met ∧ (s.hold q).tally = s.tally ∧ (s.hold q).cal = s.cal ∧ (s.hold q).hmWait = s.hmWait ∧
    (s.hold q).aborts = s.aborts ∧ (s.hold q).pending = s.pending :=
  ⟨rfl, rfl, rfl, rfl, rfl, rfl, rfl, rfl, rfl, rfl, rfl, rfl, rfl, rfl, rfl, rfl, rfl, rfl, rfl, rfl, rfl, rfl, rfl, rfl, rfl, rfl, rfl, rfl, rfl, rfl, rfl, rfl, rfl, rfl, rfl, rfl, rfl, rfl, rfl⟩

@[simp] theorem State.get_hold (s : State) (q : Nat) (g : Fld) (j : Nat) : (s.hold q).get g j = s.get g j := by
  unfold State.get; simp

/-- `releaseSource` changes only `rst`. -/
@[simp] theorem State.releaseSource_frame (s : State) (q : Nat) :
    (s.releaseSource q).now = s.now ∧ (s.releaseSource q).ft = s.ft ∧ (s.releaseSource q).pins = s.pins ∧
    (s.releaseSource q).regs = s.regs ∧ (s.releaseSource q).force = s.force ∧ (s.releaseSource q).snap = s.snap ∧
    (s.releaseSource q).img = s.img ∧ (s.releaseSource q).ev = s.ev ∧ (s.releaseSource q).sps = s.sps ∧
    (s.releaseSource q).sent = s.sent ∧ (s.releaseSource q).colTx = s.colTx ∧ (s.releaseSource q).freeCtr = s.freeCtr ∧
    (s.releaseSource q).lanes = s.lanes ∧ (s.releaseSource q).linkUp = s.linkUp ∧ (s.releaseSource q).ingest = s.ingest ∧
    (s.releaseSource q).pages = s.pages ∧ (s.releaseSource q).lastPlan = s.lastPlan ∧ (s.releaseSource q).digestWait = s.digestWait ∧
    (s.releaseSource q).codec = s.codec ∧ (s.releaseSource q).dram = s.dram ∧ (s.releaseSource q).scr = s.scr ∧
    (s.releaseSource q).ff = s.ff ∧ (s.releaseSource q).fpe = s.fpe ∧ (s.releaseSource q).ports = s.ports ∧
    (s.releaseSource q).posn = s.posn ∧ (s.releaseSource q).loop = s.loop ∧ (s.releaseSource q).ins = s.ins ∧
    (s.releaseSource q).light = s.light ∧ (s.releaseSource q).mot = s.mot ∧ (s.releaseSource q).mc = s.mc ∧
    (s.releaseSource q).twin = s.twin ∧ (s.releaseSource q).net = s.net ∧ (s.releaseSource q).ptp = s.ptp ∧
    (s.releaseSource q).met = s.met ∧ (s.releaseSource q).tally = s.tally ∧ (s.releaseSource q).cal = s.cal ∧
    (s.releaseSource q).hmWait = s.hmWait ∧ (s.releaseSource q).aborts = s.aborts ∧ (s.releaseSource q).pending = s.pending :=
  ⟨rfl, rfl, rfl, rfl, rfl, rfl, rfl, rfl, rfl, rfl, rfl, rfl, rfl, rfl, rfl, rfl, rfl, rfl, rfl, rfl, rfl, rfl, rfl, rfl, rfl, rfl, rfl, rfl, rfl, rfl, rfl, rfl, rfl, rfl, rfl, rfl, rfl, rfl, rfl⟩

@[simp] theorem State.get_releaseSource (s : State) (q : Nat) (g : Fld) (j : Nat) : (s.releaseSource q).get g j = s.get g j := by
  unfold State.get; simp

/-- `setStage` changes only `rst`. -/
@[simp] theorem State.setStage_frame (s : State) (n : Nat) :
    (s.setStage n).now = s.now ∧ (s.setStage n).ft = s.ft ∧ (s.setStage n).pins = s.pins ∧ (s.setStage n).regs = s.regs ∧
    (s.setStage n).force = s.force ∧ (s.setStage n).snap = s.snap ∧ (s.setStage n).img = s.img ∧ (s.setStage n).ev = s.ev ∧
    (s.setStage n).sps = s.sps ∧ (s.setStage n).sent = s.sent ∧ (s.setStage n).colTx = s.colTx ∧ (s.setStage n).freeCtr = s.freeCtr ∧
    (s.setStage n).lanes = s.lanes ∧ (s.setStage n).linkUp = s.linkUp ∧ (s.setStage n).ingest = s.ingest ∧
    (s.setStage n).pages = s.pages ∧ (s.setStage n).lastPlan = s.lastPlan ∧ (s.setStage n).digestWait = s.digestWait ∧
    (s.setStage n).codec = s.codec ∧ (s.setStage n).dram = s.dram ∧ (s.setStage n).scr = s.scr ∧ (s.setStage n).ff = s.ff ∧
    (s.setStage n).fpe = s.fpe ∧ (s.setStage n).ports = s.ports ∧ (s.setStage n).posn = s.posn ∧ (s.setStage n).loop = s.loop ∧
    (s.setStage n).ins = s.ins ∧ (s.setStage n).light = s.light ∧ (s.setStage n).mot = s.mot ∧ (s.setStage n).mc = s.mc ∧
    (s.setStage n).twin = s.twin ∧ (s.setStage n).net = s.net ∧ (s.setStage n).ptp = s.ptp ∧ (s.setStage n).met = s.met ∧
    (s.setStage n).tally = s.tally ∧ (s.setStage n).cal = s.cal ∧ (s.setStage n).hmWait = s.hmWait ∧ (s.setStage n).aborts = s.aborts ∧
    (s.setStage n).pending = s.pending :=
  ⟨rfl, rfl, rfl, rfl, rfl, rfl, rfl, rfl, rfl, rfl, rfl, rfl, rfl, rfl, rfl, rfl, rfl, rfl, rfl, rfl, rfl, rfl, rfl, rfl, rfl, rfl, rfl, rfl, rfl, rfl, rfl, rfl, rfl, rfl, rfl, rfl, rfl, rfl, rfl⟩

@[simp] theorem State.get_setStage (s : State) (n : Nat) (g : Fld) (j : Nat) : (s.setStage n).get g j = s.get g j := by
  unfold State.get; simp

/-- `setQualified` changes only `rst`. -/
@[simp] theorem State.setQualified_frame (s : State) (d : Nat) (on : Bool) :
    (s.setQualified d on).now = s.now ∧ (s.setQualified d on).ft = s.ft ∧ (s.setQualified d on).pins = s.pins ∧
    (s.setQualified d on).regs = s.regs ∧ (s.setQualified d on).force = s.force ∧ (s.setQualified d on).snap = s.snap ∧
    (s.setQualified d on).img = s.img ∧ (s.setQualified d on).ev = s.ev ∧ (s.setQualified d on).sps = s.sps ∧
    (s.setQualified d on).sent = s.sent ∧ (s.setQualified d on).colTx = s.colTx ∧ (s.setQualified d on).freeCtr = s.freeCtr ∧
    (s.setQualified d on).lanes = s.lanes ∧ (s.setQualified d on).linkUp = s.linkUp ∧ (s.setQualified d on).ingest = s.ingest ∧
    (s.setQualified d on).pages = s.pages ∧ (s.setQualified d on).lastPlan = s.lastPlan ∧
    (s.setQualified d on).digestWait = s.digestWait ∧ (s.setQualified d on).codec = s.codec ∧ (s.setQualified d on).dram = s.dram ∧
    (s.setQualified d on).scr = s.scr ∧ (s.setQualified d on).ff = s.ff ∧ (s.setQualified d on).fpe = s.fpe ∧
    (s.setQualified d on).ports = s.ports ∧ (s.setQualified d on).posn = s.posn ∧ (s.setQualified d on).loop = s.loop ∧
    (s.setQualified d on).ins = s.ins ∧ (s.setQualified d on).light = s.light ∧ (s.setQualified d on).mot = s.mot ∧
    (s.setQualified d on).mc = s.mc ∧ (s.setQualified d on).twin = s.twin ∧ (s.setQualified d on).net = s.net ∧
    (s.setQualified d on).ptp = s.ptp ∧ (s.setQualified d on).met = s.met ∧ (s.setQualified d on).tally = s.tally ∧
    (s.setQualified d on).cal = s.cal ∧ (s.setQualified d on).hmWait = s.hmWait ∧ (s.setQualified d on).aborts = s.aborts ∧
    (s.setQualified d on).pending = s.pending :=
  ⟨rfl, rfl, rfl, rfl, rfl, rfl, rfl, rfl, rfl, rfl, rfl, rfl, rfl, rfl, rfl, rfl, rfl, rfl, rfl, rfl, rfl, rfl, rfl, rfl, rfl, rfl, rfl, rfl, rfl, rfl, rfl, rfl, rfl, rfl, rfl, rfl, rfl, rfl, rfl⟩

@[simp] theorem State.get_setQualified (s : State) (d : Nat) (on : Bool) (g : Fld) (j : Nat) : (s.setQualified d on).get g j = s.get g j := by
  unfold State.get; simp

end Sys2Proof.Machine
end

