-- ==== Sys2Proof/Laws/Fields.lean ====
section
/-!
SUPPORT. What reading a register field gives after each update, and how the canonical forms and the kept registers pass through
the shared operations.
-/
namespace Sys2Proof.Machine

/-- Two fields of the map that are not the same: neither's key is ever the other's. -/
def Fld.apart (f g : Fld) : Bool :=
  decide (f.lo < 32) && decide (g.lo < 32) && (f.reg.ctorIdx != g.reg.ctorIdx || f.lo != g.lo)

theorem Reg.ctorIdx_lt (r : Reg) : r.ctorIdx < 512 := by cases r <;> decide

theorem Fld.key_ne {f g : Fld} (h : f.apart g = true) (i j : Nat) : f.key i ≠ g.key j := by
  have h1 := f.reg.ctorIdx_lt
  have h2 := g.reg.ctorIdx_lt
  simp only [Fld.apart, Bool.and_eq_true, Bool.or_eq_true, decide_eq_true_eq, bne_iff_ne, ne_eq] at h
  unfold Fld.key
  omega

theorem Fld.key_idx {f : Fld} {i j : Nat} (h : i ≠ j) : f.key i ≠ f.key j := by
  unfold Fld.key
  omega

/-- A field reads as written, within its bits. -/
@[simp] theorem State.get_put_self (s : State) (f : Fld) (i v : Nat) : (s.put f i v).get f i = v % 2 ^ f.width := by
  simp [State.get, State.put]

/-- A write leaves every other field alone. -/
@[simp] theorem State.get_put_ne (s : State) {f g : Fld} (h : f.apart g = true) (i j v : Nat) :
    (s.put f i v).get g j = s.get g j := by
  unfold State.get State.put
  rw [Tab.get_set_ne _ _ _ _ (Fld.key_ne h i j)]

/-- A write leaves every other element alone. -/
theorem State.get_put_idx (s : State) (f : Fld) {i j : Nat} (h : i ≠ j) (v : Nat) :
    (s.put f i v).get f j = s.get f j := by
  unfold State.get State.put
  rw [Tab.get_set_ne _ _ _ _ (Fld.key_idx (f := f) h)]

@[simp] theorem State.get_lt (s : State) (f : Fld) (i : Nat) : s.get f i < 2 ^ f.width :=
  Nat.mod_lt _ (Nat.two_pow_pos _)

/-- Losing a record changes EVT_LOST alone. -/
theorem State.get_loseRecord (s : State) (n : Nat) (g : Fld) (j : Nat)
    (h : EvtLost.count.apart g = true) (h' : EvtLost.ovf.apart g = true) : (s.loseRecord n).get g j = s.get g j := by
  have e : ∀ (t : State) (x : EventSt), State.get { t with ev := x } g j = t.get g j := fun _ _ => rfl
  unfold State.loseRecord
  dsimp only
  rw [e]
  split <;> simp [h, h']

/-- Recording an event changes EVT_LOST and EVT_WR alone. -/
@[simp] theorem State.get_record (s : State) (c : EvCode) (i : Nat) (l : List EvArg) (g : Fld) (j : Nat)
    (h : (EvtLost.count.apart g && EvtLost.ovf.apart g && EvtWr.v.apart g) = true) : (s.record c i l).get g j = s.get g j := by
  simp only [Bool.and_eq_true] at h
  have e : ∀ (t : State) (x : EventSt), State.get { t with ev := x } g j = t.get g j := fun _ _ => rfl
  unfold State.record
  dsimp only
  split
  · exact s.get_loseRecord _ g j h.1.1 h.1.2
  · split
    · unfold State.spill
      dsimp only
      split
      · rw [State.get_put_ne _ h.2, e]; rfl
      · rw [State.get_loseRecord _ _ g j h.1.1 h.1.2]; rfl
    · rfl

/-! ### Kept fields -/

/-- The fields of a register lie within its word, each names its register, and no two begin at the same bit. -/
theorem Reg.fields_ok (r : Reg) :
    (r.fields.all (fun f => f.reg == r && decide (f.lo < 32)) && decide ((r.fields.map (fun f => f.lo)).Nodup)) = true := by
  cases r <;> decide

theorem Reg.mem_fields {r : Reg} {f : Fld} (h : f ∈ r.fields) : f.reg = r ∧ f.lo < 32 := by
  have h2 := r.fields_ok
  rw [Bool.and_eq_true] at h2
  simpa using (List.all_eq_true.mp h2.1) f h

theorem Reg.fields_inj {r : Reg} {f g : Fld} (hf : f ∈ r.fields) (hg : g ∈ r.fields) (h : f.lo = g.lo) : f = g := by
  have h2 := r.fields_ok
  rw [Bool.and_eq_true] at h2
  have h3 : (r.fields.map (fun f => f.lo)).Nodup := by simpa using h2.2
  exact List.inj_on_of_nodup_map h3 hf hg h

theorem Reg.ctorIdx_inj {r q : Reg} (h : r.ctorIdx = q.ctorIdx) : r = q := by
  have h1 := Reg.ofNat_ctorIdx r
  have h2 := Reg.ofNat_ctorIdx q
  rw [h] at h1
  exact h1.symm.trans h2

theorem FieldsKept.refl (p : Fld → Nat → Bool) (s : State) : FieldsKept p s s := fun _ _ _ _ _ => rfl

theorem FieldsKept.trans {p : Fld → Nat → Bool} {s t u : State} (h : FieldsKept p s t) (h' : FieldsKept p t u) :
    FieldsKept p s u :=
  fun r f i hf hp => (h' r f i hf hp).trans (h r f i hf hp)

/-- An update of another part of the state keeps every field. -/
theorem FieldsKept.of_regs (p : Fld → Nat → Bool) {s t : State} (h : t.regs = s.regs) : FieldsKept p s t := by
  intro r f i _ _
  unfold State.get
  rw [h]

/-- A write keeps every field but its own. -/
theorem FieldsKept.put {p : Fld → Nat → Bool} (s : State) {f : Fld} (i v : Nat) (hf : f ∈ f.reg.fields) (hp : p f i = true) :
    FieldsKept p s (s.put f i v) := by
  intro r g j hg hq
  have h1 := Reg.mem_fields hg
  have h2 := Reg.mem_fields hf
  by_cases e : f.key i = g.key j
  · exfalso
    have c1 := f.reg.ctorIdx_lt
    have c2 := g.reg.ctorIdx_lt
    have hl : f.lo = g.lo ∧ f.reg.ctorIdx = g.reg.ctorIdx ∧ i = j := by
      unfold Fld.key at e
      have := h1.2
      have := h2.2
      omega
    have hr := Reg.ctorIdx_inj hl.2.1
    rw [← h1.1, ← hr] at hg
    have hfg := Reg.fields_inj hf hg hl.1
    rw [← hfg, ← hl.2.2, hp] at hq
    exact absurd hq (by decide)
  · unfold State.get State.put
    rw [Tab.get_set_ne _ _ _ _ e]

/-- Recording an event keeps every field but those of EVT_LOST and EVT_WR. -/
theorem FieldsKept.record {p : Fld → Nat → Bool} (s : State) (c : EvCode) (n : Nat) (l : List EvArg)
    (hp : ∀ f i, evtField f = true → p f i = true) : FieldsKept p s (s.record c n l) := by
  have h1 : ∀ (s : State) (k : Nat), FieldsKept p s (s.loseRecord k) := by
    intro s k
    have a : FieldsKept p s (s.put EvtLost.count 0 (satAdd 31 (s.get EvtLost.count 0) k)) :=
      FieldsKept.put s _ _ (by decide) (hp _ _ (by decide))
    unfold State.loseRecord
    dsimp only
    split
    · exact (a.trans (FieldsKept.put _ 0 1 (f := EvtLost.ovf) (by decide) (hp _ _ (by decide)))).trans (FieldsKept.of_regs p rfl)
    · exact a.trans (FieldsKept.of_regs p rfl)
  have h0 : FieldsKept p s (s.toTail (s.evRec c n l)) := FieldsKept.of_regs p rfl
  unfold State.record
  dsimp only
  split
  · exact h1 s _
  · split
    · refine h0.trans ?_
      unfold State.spill
      dsimp only
      split
      · exact (FieldsKept.of_regs p rfl).trans (FieldsKept.put _ 0 _ (f := EvtWr.v) (by decide) (hp _ _ (by decide)))
      · exact h1 _ _
    · exact h0.trans (FieldsKept.of_regs p rfl)

end Sys2Proof.Machine
end

