-- ==== Sys2Proof/Tests/Slice0.lean ====
section
/-!
SUPPORT. Tests of the model: worked examples of the spec, ill-formed commands, and witnesses of the statements' hypotheses.
-/
open Sys2Proof.Machine
namespace Sys2Proof.Tests
set_option Elab.async false

/-! ### Small states -/

/-- Register fields of a state, by field, element and value. -/
def setAll (l : List (Fld × Nat × Nat)) (s : State) : State := l.foldl (fun u x => u.put x.1 x.2.1 x.2.2) s

/-- An option block: node ID 5, TWIN_PREF as given. -/
def optBlock (pref : Nat) : OptionBlock :=
  { slotSel := 0, forcedFoothill := false, fallback := false, dpRate := 0, spiClk := 0, nodeId := 5, twinPref := pref, spiDummy := 0,
    etherType := 0x88B5, density := 0, ranks := 0, speed := 2, imageGen := 1 }

/-- A device that has been configured, in RUN, in a role: every domain qualified, one second after power-up. -/
def dev (role pref : Nat) : State :=
  setAll [(RstStatus.state, 0, 1), (TwStat.role, 0, role), (McStat.state, 0, 2)]
    { State.reset with
      now := 500000000
      ft := 400000000
      pins := { State.reset.pins with phase := .configured, resetN := true, ddrResetN := true }
      rst := { State.reset.rst with stretch := false, sources := [], level := 3, stage := 0, pathDown := false,
                                    qualified := List.replicate 9 true, endAt := 1000 }
      img := { State.reset.img with ob := some (optBlock pref) } }

def soloDev : State := dev roleSolo 3
def activeDev : State := dev roleActive 1
def standbyDev : State := dev roleStandby 0

/-- A device that applies records, before pin commit. -/
def applyDev (pref : Nat) : State :=
  { State.reset with
    pins := { State.reset.pins with phase := .imageLoad, resetN := true }
    rst := { State.reset.rst with stretch := false, level := 0, stage := 5, qualified := List.replicate 9 true, starting := true }
    img := { State.reset.img with ob := some (optBlock pref), applying := true } }

/-! ### The machine, start and reset -/

theorem test_reset_wf : State.reset.wf := by decide
theorem test_reset_shaped : State.reset.shaped := by decide

theorem wit_dev_wf : soloDev.wf ∧ activeDev.wf ∧ standbyDev.wf ∧ (applyDev 3).wf := by decide
theorem wit_soloDev : soloDev.shaped := by decide
theorem wit_activeDev : activeDev.shaped := by decide
theorem wit_standbyDev : standbyDev.shaped := by decide
theorem wit_applyDev : (applyDev 3).shaped := by decide

theorem wit_StepKeeps : step State.reset = .next State.reset.tick ∧ State.reset.pending = [] := ⟨rfl, rfl⟩

theorem wit_ResetSources : soloDev.rst.stretch = false ∧ soloDev.twin.faultHold = none ∧ soloDev.role ≠ roleActive ∧
    soloDev.operating = true ∧ 400 ≤ 400 ∧ soloDev.pins.resetN = true ∧ soloDev.rst.endAt + us 2 ≤ soloDev.now ∧
    2000 < signed 12 (((2001 : BitVec 32)).toNat % 4096) ∧ standbyDev.solo = false ∧ standbyDev.role ≠ roleActive ∧
    standbyDev.operating = true ∧ standbyDev.rst.stretch = false ∧ standbyDev.twin.faultHold = none ∧
    soloDev.rst.qualified.getD 0 false = true ∧ (619 < 620 ∧ 739 < 740 ∧ 2849 < 2850) := by decide

/-- As the fuses stand at reset, a service processor's watchdog resets that processor alone. -/
theorem wit_ResetSources_l3 : soloDev.fuseLevel 4 = 3 ∧ soloDev.shaped := by decide

theorem wit_FenceInput : soloDev.committed = true ∧ soloDev.twin.faultHold = none ∧ soloDev.role ≠ roleActive ∧
    activeDev.committed = true ∧ activeDev.twin.faultHold = none ∧ activeDev.role = roleActive := by decide

/-- KEY 0x7129; CLASS 6; head port 128; axis 8. -/
theorem wit_RejectedResetCommand :
    (0x71290000 : BitVec 32).toNat / 65536 ≠ 0x7128 ∧ 6 ≤ (0x71280018 : BitVec 32).toNat / 4 % 8 ∧
    [128, 8, 4, 16, 176, 4].getD ((0x71281000 : BitVec 32).toNat / 4 % 8) 0 ≤ (0x71281000 : BitVec 32).toNat / 32 % 256 ∧
    [128, 8, 4, 16, 176, 4].getD ((0x71280104 : BitVec 32).toNat / 4 % 8) 0 ≤ (0x71280104 : BitVec 32).toNat / 32 % 256 := by decide

/-- An L3 reset of head port 127; FOOTHILL_CLR in Foothill mode. -/
theorem wit_ResetCommandRaisesSource : keyOk (0x71280FE3 : BitVec 32) = true ∧ soloDev.img.applying = false ∧
    RstCmd.inst.of (0x71280FE3 : BitVec 32) < classSize (RstCmd.class_.of (0x71280FE3 : BitVec 32)) ∧
    RstCmd.level.of (0x71280FE3 : BitVec 32) = 3 := by decide

def foothillDev : State :=
  setAll [(RstStatus.state, 0, 3)] { soloDev with pins := { soloDev.pins with phase := .foothill } }

theorem wit_FoothillClr : foothillDev.rst.stretch = false ∧ foothillDev.twin.faultHold = none ∧ foothillDev.get RstStatus.state 0 = 3 ∧
    keyOk (0x7128E000 : BitVec 32) = true ∧ RstCmd.inst.of (0x7128E000 : BitVec 32) < classSize (RstCmd.class_.of (0x7128E000 : BitVec 32)) ∧
    RstCmd.foothillClr.of (0x7128E000 : BitVec 32) = 1 := by decide

theorem wit_StretchEnd : State.reset.rst.stretch = true ∧ State.reset.rst.active = [] ∧ State.reset.rst.level ≤ 3 := by decide

def stage (n : Nat) (ph : PinPhase) (s : State) : State :=
  { s with rst := { s.rst with stretch := false, stage := n }, pins := { s.pins with phase := ph } }

def unqualified (s : State) : State := { s with rst := { s.rst with qualified := List.replicate 9 false } }

theorem wit_ClockQualification : (unqualified (stage 3 .imageLoad State.reset)).shaped ∧
    (unqualified (stage 3 .imageLoad State.reset)).rst.stage ≠ 1 ∧
    (unqualified (stage 3 .imageLoad State.reset)).rst.qualified.getD 8 true = false ∧
    (unqualified (stage 3 .imageLoad State.reset)).rst.qualified.getD 0 true = false ∧
    soloDev.rst.qualified.getD 8 false = true ∧ soloDev.rst.qualified.getD 1 false = true := by decide

/-! ### Start-up, supplies, registers, records, flash, events -/

/-- Bytes from an address on. -/
def bytesAt (a : Nat) (b : List Byte) : Tab Byte := (List.range b.length).map (fun i => (a + i, b.getD i 0))

/-- A check word after its bytes. -/
def sealed32 (b : List Byte) : List Byte := b ++ leBytes 4 (crc32c b)

/-- The option block of Table 04-2 with slot 0, node ID 5, TWIN_PREF 3, SPI_DUMMY 8 and generation 1. -/
def optBytes : List Byte :=
  sealed32 (leBytes 4 0x424F5A4E ++ leBytes 2 1 ++ [0, 0, 0, 0] ++ leBytes 2 5 ++ [3, 8] ++ leBytes 2 0 ++ leBytes 4 0x20 ++ leBytes 8 1 ++
    List.replicate 32 0)

def optionDev : State :=
  { stage 1 .optionRead State.reset with img := { State.reset.img with flash := [bytesAt 0 optBytes, []] } }

theorem wit_OptionRead : optionDev.rst.stretch = false ∧ optionDev.rst.stage = 1 ∧ optionDev.pins.phase = .optionRead ∧
    (parseOption (optionDev.flashBytes optionDev.img.bootDev 0 64)).map (fun o => (o.nodeId, o.twinPref, o.forcedFoothill)) =
      some (5, 3, false) := by decide +kernel

theorem wit_OptionRead_none : parseOption ((stage 1 .optionRead State.reset).flashBytes 0 0 64) = none ∧
    parseOption ((stage 1 .optionRead State.reset).flashBytes 1 0 64) = none := by decide +kernel

/-- An image with a firmware section and a configuration section without a body, signed with a key of zeros (Tables 04-3 to 04-5). -/
def imgHeader : List Byte :=
  sealed32 (leBytes 4 0x4D495A4E ++ leBytes 2 1 ++ leBytes 2 128 ++ leBytes 4 0x4E5A7128 ++ leBytes 4 0 ++ leBytes 8 1 ++
    leBytes 4 128 ++ leBytes 4 160 ++ leBytes 4 288 ++ leBytes 4 160 ++ leBytes 4 448 ++ leBytes 4 464 ++ List.replicate 76 0)

def imgBody : List Byte := imgHeader ++ List.replicate 320 0

def imgBytes : List Byte := imgBody ++ leBytes 4 0x52545A4E ++ leBytes 4 464 ++ leBytes 4 (crc32c imgBody) ++ leBytes 4 0

def imageDev : State :=
  let s := stage 3 .imageLoad State.reset
  { s with
    rst := { s.rst with qualified := List.replicate 9 true }
    img := { s.img with ob := some (optBlock 3), flash := [bytesAt imageBase imgBytes, []] } }

theorem test_imageDev_fields : imageDev.rst.stretch = false ∧ imageDev.rst.stage = 3 ∧ imageDev.pins.phase = .imageLoad ∧
    imageDev.rst.qualified.getD 1 false = true ∧ imageDev.img.ob = some (optBlock 3) ∧ imageDev.firstSlot (optBlock 3) = 0 := by decide

set_option maxRecDepth 20000 in
/-- Every check of Table 04-6 but the two signatures. -/
theorem test_imageDev_checks :
    let h := imageDev.header 0
    let t := imageDev.flashBytes 0 (imageBase + 448) 16
    (leField h 0 4 = 0x4D495A4E ∧ leField h 4 2 = 1 ∧ leField h 6 2 = 128 ∧ leField h 124 4 = crc32c (h.take 124)) ∧
    (leField h 8 4 = imageDev.get SysId.id 0 ∧ leField h 12 4 ≤ (imageDev.rawWord .sysStep 0) ∧ layoutOk h = true ∧ leField h 44 4 ≤ 2 ^ 26) ∧
    (leField t 0 4 = 0x52545A4E ∧ leField t 4 4 = leField h 44 4 ∧ leField t 8 4 = crc32c (imageDev.flashBytes 0 imageBase 448)) ∧
    leField h 40 4 = 448 ∧ leField h 24 4 = 128 ∧ imageDev.signedLen 0 128 12 = 64 ∧
    imageDev.sigBlock 0 128 64 = (List.replicate 32 0, List.replicate 64 0) ∧ imageDev.configOk 0 = true := by decide +kernel

/-- A device whose ROM key and signature check accept this image meets the premise of the load. -/
theorem wit_ImageReadDone (hk : Config.romKeyHash = sha256 (List.replicate 32 0))
    (hs : ∀ m, Config.ed25519 (List.replicate 32 0) m (List.replicate 64 0) = true) :
    imageDev.slotFail (imageDev.firstSlot (optBlock 3)) = 0 := by
  obtain ⟨h1, h2, h3, h4, h5, h6, h7, h8⟩ := test_imageDev_checks
  have hf : imageDev.firmwareOk 0 = true := by
    simp only [State.firmwareOk, h5, h6, h7, hk, hs, beq_self_eq_true, Bool.and_self]
  show imageDev.slotFail 0 = 0
  simp only [State.slotFail, h4]
  rw [if_neg (not_not.mpr h1), if_neg (not_not.mpr h2), if_neg (not_not.mpr h3), if_neg (not_not.mpr hf), if_neg (not_not.mpr h8)]

def trainDev : State := { stage 4 .imageLoad State.reset with img := { State.reset.img with ob := some (optBlock 3) } }

theorem wit_Training : trainDev.img.ob = some (optBlock 3) ∧ trainDev.rst.stretch = false ∧ trainDev.rst.stage = 4 ∧ 2 ≤ (optBlock 3).speed ∧
    (optBlock 3).speed ≤ 2 := by decide

def pathDown : State := { soloDev with rst := { soloDev.rst with pathDown := true } }
def spDown : State := { soloDev with sps := [true, true, true, false] }

theorem wit_Resume : pathDown.rst.pathDown = true ∧ pathDown.rst.stretch = false ∧ pathDown.pins.phase = .configured ∧
    spDown.spUp 3 = false := by decide
theorem wit_SpRestart : spDown.shaped := by decide

theorem wit_FailedStarts : (applyDev 3).rst.starting = true ∧ (applyDev 3).rst.stretch = false ∧ soloDev.running = true := by decide

theorem wit_RailWarnEnter : 739 < railWarnMv.getD 5 0 ∧ 679 < railWarnMv.getD 0 0 ∧ soloDev.flag MonRail.warn 5 = false ∧
    soloDev.flag MonRail.warn 0 = false := by decide

def warnDev : State :=
  setAll [(MonRail.warn, 0, 1), (MonRail.warn, 5, 1), (MonTemp.tw, 0, 1), (TwStat.partnerOk, 0, 1)] activeDev

theorem wit_RailWarn : warnDev.flag MonRail.warn 5 = true ∧ warnDev.flag MonRail.warn 0 = true ∧ warnDev.rst.low.contains 5 = false ∧
    warnDev.flag MonCtrl.takeoverEn 0 = true ∧ warnDev.role = roleActive ∧ warnDev.partnerFit = true ∧ warnDev.twin.plan = none ∧
    warnDev.twin.handed = none ∧ warnDev.flag MonTemp.tw 0 = true := by decide

/-- TWARN is 112 °C at reset: 112 1/16 °C begins the warning, 109 °C ends it. -/
theorem wit_TempWarn : 16 * (soloDev.get MonTemp.twarn 0 : Int) < signed 12 ((1793 : BitVec 32).toNat % 4096) ∧ soloDev.get MonTemp.tw 0 = 0 ∧
    signed 12 ((1744 : BitVec 32).toNat % 4096) ≤ 16 * (soloDev.get MonTemp.twarn 0 : Int) - 48 ∧ soloDev.role ≠ roleActive ∧
    soloDev.rst.qualified.getD 1 false = true := by decide

/-- SYS_SCRATCH, in RUN and in Foothill mode; an address outside the map, one that holds no register, and MON_CTRL in Foothill mode. -/
theorem wit_PlainWrite : ruledRegs.contains .sysScratch = false ∧ counterLayout .sysScratch = false ∧ inMap (Reg.sysScratch.addr 0) = true ∧
    Reg.ofAddr (Reg.sysScratch.addr 0) = some (.sysScratch, 0) ∧ soloDev.get RstStatus.state 0 ≠ 3 ∧ Reg.sysScratch.addr 0 < 0x30000 ∧
    inMap 3 = false ∧ Reg.ofAddr 0xFFF = none ∧ foothillDev.get RstStatus.state 0 = 3 ∧ 0x30000 ≤ Reg.monCtrl.addr 0 := by decide +kernel

/-- SYS_SCRATCH may be written by a record; SYS_ID, which is RO, may not. -/
theorem wit_Records : (applyDev 3).img.applying = true ∧ recordOk (Reg.sysScratch.addr 0) 1 = true ∧ recordOk (Reg.sysId.addr 0) 1 = false ∧
    (applyDev 3).img.ob = some (optBlock 3) ∧ (optBlock 3).fallback = false ∧ (applyDev 3).rst.stretch = false ∧
    (applyDev 3).twin.faultHold = none ∧ (applyDev 3).role ≠ roleActive ∧ (applyDev 3).get RstStatus.state 0 = 0 ∧
    recordOk (Reg.sysScratch.addr 0) (rmwValue (Reg.ofAddr (Reg.sysScratch.addr 0)) ((applyDev 3).readAddr (Reg.sysScratch.addr 0)).2 1 1) = true ∧
    soloDev.img.applying = false := by decide +kernel

theorem wit_Wait : BitVec.ofNat 32 ((applyDev 3).readAddr (Reg.sysScratch.addr 0)).2 &&& 1 = (0 : BitVec 32) &&& 1 ∧
    BitVec.ofNat 32 ((applyDev 3).readAddr (Reg.sysScratch.addr 0)).2 &&& 1 ≠ (1 : BitVec 32) &&& 1 := by decide +kernel

/-- A slot of one cell whose thresholds rise, and one whose thresholds do not. -/
theorem wit_ThrArray : [[(1 : BitVec 32), 2, 3, 4]].length = 1 * 1 ∧ (∀ c ∈ [[(1 : BitVec 32), 2, 3, 4]], c.length = 4) ∧
    cellMono (2 + 1 * 2 ^ 12) = false ∧ cellMono (1 + 2 * 2 ^ 12 + 3 * 2 ^ 24 + 4 * 2 ^ 36 + 5 * 2 ^ 48 + 6 * 2 ^ 60 + 7 * 2 ^ 72) = true := by
  decide +kernel

def lockedFuses : State := setAll [(CfgStatus.fuseLock, 0, 1)] (applyDev 3)

theorem wit_FuseProgram : (List.replicate 32 (0 : Byte)).length = 32 ∧ lockedFuses.flag CfgStatus.fuseLock 0 = true ∧ lockedFuses.img.applying = true ∧
    (applyDev 3).flag CfgStatus.fuseLock 0 = false ∧ (1 : BitVec 32).toNat % 2 = 1 ∧ (0 : BitVec 32).toNat % 2 = 0 ∧
    List.replicate 32 (1 : Byte) ≠ List.replicate 32 0 ∧ (applyDev 3).solo = true ∧ (applyDev 1).solo = false := by decide

/-- A read of device 0 and a program of 256 bytes of device 1; a program of the last sector before the image and of its first byte. -/
theorem wit_FlashStart : keyOk (0x7128FF10 : BitVec 32) = true ∧ CfgFlCtrl.go.of (0x7128FF10 : BitVec 32) = 1 ∧
    CfgFlCtrl.op.of (0x7128FF10 : BitVec 32) = 0 ∧ CfgFlCtrl.op.of (0x7128FF13 : BitVec 32) = 1 ∧ soloDev.get CfgFlCtrl.busy 0 = 0 ∧
    CfgFlCtrl.cs.of (0x7128FF13 : BitVec 32) ≠ soloDev.get CfgStatus.slot 0 ∧ keyOk (0x7127FF13 : BitVec 32) = false ∧
    foothillDev.get RstStatus.state 0 = 3 ∧
    (flashRange 1 0xF00 256).1 + (flashRange 1 0xF00 256).2 ≤ 0x1000 ∧
    CfgFlCtrl.cs.of (0x71280012 : BitVec 32) = soloDev.get CfgStatus.slot 0 ∧
    0x1000 < (flashRange 1 0x1000 1).1 + (flashRange 1 0x1000 1).2 ∧ soloDev.get RstStatus.state 0 ≠ 3 := by decide

def flashBusy (op : Nat) : State := { soloDev with img := { soloDev.img with flOp := some (1, op, 0xFFFF00, 256) } }

theorem wit_FlashDone : (flashBusy 3).img.flOp = some (1, 3, 0xFFFF00, 256) ∧ (flashBusy 0).img.flash.length = 2 ∧ (1 < 2 ∧ 256 ≤ 256 ∧ 3 ≤ 3) := by
  decide

def anEvent (et : Nat) : EvRec := { code := .hostMiss, inst := 0, args := [], et := et, coarse := false, loss := false, late := false }

def withQueue (n : Nat) (s : State) : State := { s with ev := { s.ev with queue := List.replicate n (anEvent 5) } }

/-- An empty queue, a full one, and one with a single record to release; a ring with room and a full ring of 65,536 records. -/
theorem wit_Events : soloDev.noRoom (soloDev.evRec .hostMiss 0 []) = false ∧ soloDev.etReleased = false ∧
    (withQueue 1024 soloDev).noRoom (soloDev.evRec .hostMiss 0 []) = true ∧
    (withQueue 1 soloDev).ev.queue.filter (fun r => decide (r.et ≤ 5)) = [anEvent 5] ∧ (anEvent 5).more = 0 ∧
    (soloDev.get EvtWr.v 0 + 2 ^ 32 - soloDev.get EvtRd.v 0) % 2 ^ 32 + 1 ≤ soloDev.ringSize ∧
    (let s := setAll [(EvtWr.v, 0, 65536)] soloDev
     s.ringSize < (s.get EvtWr.v 0 + 2 ^ 32 - s.get EvtRd.v 0) % 2 ^ 32 + 1) := by decide +kernel

def parked : State := setAll [(RstStatus.state, 0, 2)] soloDev
def hmDev : State := { setAll [(ScrCtrl.compMode, 0, 1)] soloDev with hmWait := some 5 }
def printing : State := setAll [(MntStat.running, 0, 1)] soloDev

theorem wit_Park : keyOk (0x71280001 : BitVec 32) = true ∧ RstPark.req.of (0x71280001 : BitVec 32) = 1 ∧
    RstPark.run_.of (0x71280001 : BitVec 32) = 0 ∧ soloDev.get RstStatus.state 0 = 1 ∧ soloDev.pages = [] ∧
    soloDev.runningActs.contains 0 = false ∧ printing.runningActs.contains 0 = true ∧ RstPark.req.of (0x71280002 : BitVec 32) = 0 ∧
    RstPark.run_.of (0x71280002 : BitVec 32) = 1 ∧ parked.get RstStatus.state 0 = 2 ∧ keyOk (0x00000001 : BitVec 32) = false ∧
    hmDev.hmWait.isSome = true ∧ hmDev.get ScrCtrl.compMode 0 = 1 ∧ hmDev.acting = true := by decide

/-! ### Lanes -/

def laneSt (tx : TxMode) : Lane := { Lane.reset with tx := tx, idleAt := 499999750, farLock := true, farDeskewed := true, wakeDue := true, offset := some 3 }

/-- Head lane 5 and data-port lane 128 locked and deskewed, their transmitters as given. -/
def laneDev (tx : TxMode) : State :=
  setAll [(LnStat.lock, 5, 1), (LnStat.deskewed, 5, 1), (LnStat.lock, 128, 1), (LnStat.deskewed, 128, 1), (LnStat.rxAsleep, 139, 1),
      (LnStat.rxAsleep, 141, 1), (LnCtrl.test, 141, 1), (LnMargin.busy, 0, 1)]
    { soloDev with lanes := [(5, laneSt tx), (128, laneSt tx)] }

theorem wit_LaneLock : soloDev.flag LnStat.lock 141 = false ∧ soloDev.flag LnStat.lock 0 = false ∧ (laneDev .off).flag LnStat.lock 128 = true ∧
    (laneDev .off).flag LnStat.rxAsleep 128 = false ∧ (laneDev .off).flag LnStat.rxAsleep 139 = true ∧ 128 < 140 ∧
    (laneDev .off).flag LnStat.rxAsleep 141 = true := by decide

/-- STATUS 0x68 of head lane 5: LANE 0, KIND 1 does not match; CHK as R94 computes it, and another. -/
theorem wit_LaneTraining : crc8 [0x68, 1] = crc8 [0x68, 1] ∧ crc8 [0x68, 1] ≠ crc8 [0x68, 1] + 1 ∧ 0x68 / 8 % 4 ≠ 0 ∧
    (laneDev .training).flag LnStat.deskewed 128 = true ∧ ((laneDev .training).lane 128).offset = some 3 ∧ 3 ≠ 4 ∧
    ((laneDev .training).lane 5).tx = .training ∧ (laneDev .training).flag LnStat.lock 5 = true ∧
    ((laneDev .training).lane 5).farLock = true ∧ ((laneDev .training).lane 5).farDeskewed = true := by decide

def sleepPort : State := { laneDev .traffic with ports := [(5, { Port.reset with sleepReq := true })] }

theorem wit_LaneSleep : (Tab.get Port.reset sleepPort.ports 5).sleepReq = true ∧ (Tab.get Port.reset (laneDev .asleep).ports 5).sleepReq = false ∧
    250 ≤ (laneDev .asleep).now - ((laneDev .asleep).lane 128).idleAt ∧ ((laneDev .asleep).lane 128).tx = .asleep ∧
    ((laneDev .asleep).lane 128).wakeDue = true ∧ ((laneDev .waking).lane 5).tx = .waking ∧ ((laneDev .traffic).lane 5).tx = .traffic := by decide

theorem wit_LaneRate : 1 ≤ 5 ∧ 16 ≤ 16 ∧ (laneDev .traffic).flag LnStat.lock 128 = true ∧ (laneDev .traffic).get LnStat.lane 128 = 0 ∧
    ((laneDev .traffic).lane 5).lastEvent.getD 4 none = none := by decide

theorem wit_LaneTest : (laneDev .prbs).get LnCtrl.test 141 = 1 ∧ (laneDev .prbs).flag LnMargin.busy 0 = true ∧
    LnMargin.go.of (0xFFFFFFFF : BitVec 32) = 1 ∧ LnMargin.go.of (0 : BitVec 32) = 0 := by decide

/-! ### Pages: a raster page of eight columns and one line -/

def rasDesc : Desc :=
  { length := 1, widthM1 := 7, firstCol := 0, format := 4, screenSet := 0, toneSet := 0, overspeed := 0, flags := 0, rasMap := 24,
    startMode := 0, tofSel := 0, genPolicy := 0, nmGen := 0, startPos := 0, jobId := 7, plan := List.replicate 1024 0 }

/-- Its descriptor (Table 06-3). -/
def rasBytes : List Byte :=
  leBytes 4 1 ++ leBytes 2 7 ++ leBytes 2 0 ++ [4, 0, 0, 0] ++ leBytes 2 0 ++ leBytes 2 24 ++ List.replicate 16 0 ++ leBytes 4 7 ++
    List.replicate 284 0

/-- A GSC-2 stream of one literal byte (Table 07-1). -/
def rasStream (b : Byte) : List Byte := [0x00, b, 0x80] ++ leBytes 4 (crc32c [b]) ++ leBytes 4 1

/-- A packet of the data port with its PCRC. -/
def packet (typ pseq arg : Nat) (payload : List Byte) : Faong :=
  let k : Faong := { error := false, cls := 0x46, typ := typ, flags := 0, len := payload.length, pseq := pseq, arg := arg,
                     payload := payload, pcrc := 0 }
  { k with pcrc := crc32c (faongHeader k ++ payload) }

def rasStripe : Stripe :=
  { idx := 0, data := rasStream 0xAA, clen := 11, lines := 1, stored := true, verified := true, retries := 0, filled := false, lost := false,
    partner := none, assigned := false }

/-- Page 3, described. -/
def rasPage : Page := Page.fresh 3 rasBytes rasDesc

def storedPage : Page := { rasPage with stripes := [rasStripe], admitted := true }

/-- A solo device whose data port is UP and that expects page 3. -/
def portDev : State :=
  { setAll [(PgNextLo.v, 0, 3)] soloDev with
    linkUp := [128]
    ingest := { IngestSt.reset with up := true, nextSet := true, limit := 2048, sentLimit := 2048 } }

def recvDev (c : Nat) (l : List Stripe) : State :=
  { setAll [(PgNextLo.v, 0, 4)] portDev with
    ingest := { portDev.ingest with receiving := some (3, 0, c) }
    pages := [{ rasPage with stripes := l }] }

set_option maxRecDepth 20000 in
/-- A descriptor that passes every check of R129, one with another PSEQ, and a STREAM page that the device refuses. -/
theorem wit_PageDesc : faongCheck (packet 1 3 0 rasBytes) = .good ∧ portDev.ingest.buffer = [] ∧ portDev.ingest.rewind = none ∧
    portDev.ingest.waitNext = false ∧ portDev.ingest.receiving = none ∧ portDev.ingest.nextSet = true ∧ portDev.pages.length < 512 ∧
    portDev.refuseReason false (packet 1 3 0 rasBytes) (descOf (packet 1 3 0 rasBytes).payload) = 0 ∧
    portDev.refuseReason false (packet 1 4 0 rasBytes) (descOf (packet 1 4 0 rasBytes).payload) = 1 ∧
    faongCheck (packet 1 3 0 (List.replicate 320 0)) = .good ∧
    1 < portDev.refuseReason false (packet 1 3 0 (List.replicate 320 0)) (descOf (packet 1 3 0 (List.replicate 320 0)).payload) := by decide +kernel

/-- Packets in error: CLASS, a length that is no multiple of 4, TYPE 5, a wrong PCRC. -/
theorem wit_FaongErrors : ({ packet 4 3 1 [] with cls := 0x47 } : Faong).cls ≠ 0x46 ∧ (packet 4 3 1 [1]).len % 4 ≠ 0 ∧
    crc32c (faongHeader (packet 5 3 1 []) ++ []) = (packet 5 3 1 []).pcrc ∧ 4 < (packet 5 3 1 []).typ ∧
    crc32c (faongHeader { packet 4 3 1 [] with pcrc := 1 } ++ []) ≠ 1 := by decide +kernel

/-- Chunk 0 of stripe 0, its STRIPE_END, and the same out of order; a pending REWIND. -/
theorem wit_StripeData :
    let s := recvDev 0 []
    faongCheck (packet 2 3 0 [1, 2, 3, 4]) = .good ∧ s.ingest.receiving = some (3, 0, 0) ∧ s.page 3 = some rasPage ∧ rasPage.dropsStripe 0 = false ∧
    s.freeBlocks ≠ 0 ∧ s.ingest.buffer = [] ∧ s.ingest.rewind = none ∧ s.ingest.up = true ∧ faongCheck (packet 2 3 65536 [1, 2, 3, 4]) = .good ∧
    (packet 2 3 65536 [1, 2, 3, 4]).arg / 65536 ≠ 0 ∧ faongCheck (packet 3 3 1 (List.replicate 8 0)) = .good ∧ (packet 3 3 1 []).arg ≠ 0 := by
  decide +kernel

def endPayload : List Byte := leBytes 4 11 ++ leBytes 2 1 ++ leBytes 2 0
def partStripe : Stripe := { rasStripe with data := rasStream 0xAA ++ [0], stored := false, verified := false }

theorem wit_StripeEnd :
    let s := recvDev 1 [partStripe]
    faongCheck (packet 3 3 0 endPayload) = .good ∧ s.ingest.receiving = some (3, 0, 1) ∧
    s.page 3 = some { rasPage with stripes := [partStripe] } ∧ ({ rasPage with stripes := [partStripe] } : Page).dropsStripe 0 = false ∧
    ({ rasPage with stripes := [partStripe] } : Page).stripe 0 = some partStripe ∧ endPayload.length = 8 ∧ 1 ≤ leField endPayload 4 2 ∧
    leField endPayload 4 2 ≤ 256 ∧ leField endPayload 6 2 = 0 ∧ partStripe.data.length = (leField endPayload 0 4 + 3) / 4 * 4 := by
  decide +kernel

theorem wit_DataPort : portDev.ingest.up = true ∧ faongCheck (packet 4 0 3 []) = .good ∧ portDev.isUp 128 = true ∧
    ({ portDev with ingest := IngestSt.reset } : State).ingest.up = false ∧ ({ portDev with ingest := IngestSt.reset } : State).isUp 128 = true ∧
    (recvDev 1 [partStripe]).ingest.receiving = some (3, 0, 1) ∧
    ({ portDev with ingest := { portDev.ingest with rewind := some (3, 0) } } : State).ingest.rewind = some (3, 0) := by decide +kernel

/-- A device whose web is LOCKED_A, with the page ready to be placed at line 0, one nozzle of port 0 in its map. -/
def nmOne : TableGen :=
  { num := 1, tab := Tab.insert (NmStage.state.key 0) 0 (Tab.insert (NmStage.cap.key 0) 5 (Tab.insert (NmStage.column.key 0) 0 [])) }

def readyDev : State :=
  { setAll [(FpeStat.mode, 0, 1), (NmGenNew.v, 0, 1)] portDev with
    pages := [storedPage]
    scr := { ScreenSt.reset with nmGens := [nmOne] } }

theorem wit_PageSchedule : readyDev.acting = true ∧ readyDev.running = true ∧ readyDev.rst.pathDown = false ∧ readyDev.mc.resumeDue = false ∧
    readyDev.mode ≠ 0 ∧ readyDev.nextPage = some storedPage ∧ readyDev.page storedPage.pseq = some storedPage ∧
    readyDev.startLine { storedPage with absorbed := readyDev.flag FpeStat.absorb 0 && storedPage.desc.flag 5 } = some 0 ∧
    readyDev.adjusted { storedPage with absorbed := readyDev.flag FpeStat.absorb 0 && storedPage.desc.flag 5 } 0 = 0 ∧ 0 < readyDev.writerReach ∧
    standbyDev.acting = false ∧ parked.running = false ∧ soloDev.nextPage = none := by decide +kernel

theorem wit_Cancel : faongCheck (packet 4 3 1 []) = .good ∧ readyDev.ingest.buffer = [] ∧ soloDev.page 3 = none ∧ storedPage.scheduled = false ∧
    storedPage.closed = false ∧ ({ readyDev with pages := [{ storedPage with scheduled := true }] } : State).page 3 =
      some { storedPage with scheduled := true } := by decide +kernel

def abortingDev : State := { recvDev 0 [] with aborts := [(1, 0, 0)] }

theorem wit_IngestAbort : readyDev.aborting 1 0 = false ∧ DpCtrl.abort.of (0xFFFFFFFF : BitVec 32) = 1 ∧ faongCheck (packet 4 0 2 []) = .good ∧
    abortingDev.aborting 1 0 = true ∧ (abortingDev.pages.map (fun p => p.pseq)).Nodup ∧ rasPage.admitted = false ∧ rasPage.closed = false ∧
    rasPage.scheduled = false := by decide +kernel

def waitingPage : Page := { rasPage with desc := { rasDesc with startMode := 2 } }

theorem wit_StartDefer : ({ readyDev with pages := [waitingPage] } : State).acting = true ∧
    ({ readyDev with pages := [waitingPage] } : State).page 3 = some waitingPage ∧ waitingPage.desc.startMode ≠ 0 ∧ waitingPage.admitted = false ∧
    waitingPage.scheduled = false ∧ waitingPage.closed = false := by decide +kernel

/-- The page placed at line 0 under map 1, with the web line 0 decided. -/
def placedPage : Page := { storedPage with scheduled := true, first := 0, lines := 1, nmGen := 1 }

def printDev : State :=
  { setAll [(NmGenCur.v, 0, 1)] readyDev with
    pages := [placedPage]
    fpe := { FpeSt.reset with decided := 1, decisions := [(0, .fire 0)], locked := true }
    linkUp := [128, 0]
    ports := [(0, { Port.reset with depth := 3 })] }

theorem wit_PgAbort : keyOk (0x71280001 : BitVec 32) = true ∧ PgAbort.go.of (0x71280001 : BitVec 32) = 1 ∧ standbyDev.role = roleStandby ∧
    printDev.role ≠ roleStandby ∧ PgAbort.held.of (0x71280001 : BitVec 32) = 0 ∧ printDev.aborting 0 0 = false ∧
    (printDev.pages.map (fun p => p.pseq)).Nodup ∧ placedPage.scheduled = true ∧ placedPage.closed = false ∧ placedPage.blankFrom = none ∧
    printDev.firstBlanked placedPage = some 0 ∧ storedPage.scheduled = false := by decide +kernel

def donePage : Page := { storedPage with closed := true }

theorem wit_Completion : ({ readyDev with pages := [donePage] } : State).recordReady donePage = true ∧
    ({ readyDev with pages := [donePage] } : State).acting = true ∧ ({ readyDev with pages := [donePage] } : State).ingest.up = true := by decide +kernel

/-! ### Decodes, the band ring, digests -/

def withEngine (j : DcxJob) (p : Page) : State :=
  { printDev with pages := [p], codec := { CodecSt.reset with engines := (List.replicate 8 none).set 7 (some j) } }

def badStripe : Stripe := { rasStripe with data := [0xE0] }

/-- A stream that decodes, one that does not, with retries left and without. -/
theorem wit_Verify : (withEngine ⟨false, 3, 0⟩ storedPage).codec.engines.getD 7 none = some ⟨false, 3, 0⟩ ∧
    (withEngine ⟨false, 3, 0⟩ storedPage).page 3 = some storedPage ∧ storedPage.stripe 0 = some rasStripe ∧
    (gscDecode (storedPage.shape rasStripe) rasStripe.data).cause = .pass ∧ storedPage.linesOk rasStripe = true ∧
    (gscDecode (storedPage.shape badStripe) badStripe.data).cause ≠ .pass ∧ badStripe.retries < soloDev.get PgCtrl.retry 0 ∧
    soloDev.get PgCtrl.retry 0 ≤ ({ badStripe with retries := 15 } : Stripe).retries := by decide +kernel

theorem wit_Verify_shaped : (withEngine ⟨false, 3, 0⟩ storedPage).shaped := by decide

def decodeDev (p : Page) : State := setAll [(DcxCtrl.printMax, 0, 8)] { printDev with pages := [p] }

theorem wit_DecodeAssign : (decodeDev placedPage).nextDue = some (placedPage, 0) ∧ (decodeDev placedPage).page 3 = some placedPage ∧
    placedPage.first + 256 * 0 * (decodeDev placedPage).ratio placedPage < (decodeDev placedPage).writerReach ∧
    (decodeDev placedPage).printEngines < (decodeDev placedPage).printMax ∧ (decodeDev placedPage).idleEngines ≠ [] ∧
    (decodeDev placedPage).role ≠ roleActive ∧ placedPage.stripe 0 = some rasStripe ∧ rasStripe.partner = none ∧
    (decodeDev { placedPage with stripes := [] }).nextDue = some ({ placedPage with stripes := [] }, 0) := by decide +kernel

theorem wit_PrintDecode : (withEngine ⟨true, 3, 0⟩ placedPage).codec.engines.getD 7 none = some ⟨true, 3, 0⟩ ∧
    (gscDecode (placedPage.shape rasStripe) rasStripe.data).out = [0xAA] ∧ placedPage.record.status = 0 := by decide +kernel

def decodedRas : Decoded := ⟨3, 0, 1, 1, [0xAA], 1⟩
def writerDev : State := { printDev with codec := { CodecSt.reset with decoded := [decodedRas] } }

theorem wit_ScreenLine : 0 < writerDev.writerReach ∧ writerDev.bandLine 0 = none ∧ writerDev.pageOfLine 0 = some (placedPage, 0) ∧
    ¬(placedPage.record.status = 1 ∧ placedPage.record.reason = 4) ∧
    writerDev.codec.decoded.find? (fun d => d.pseq == placedPage.pseq && d.stripe == 0 / writerDev.ratio placedPage / 256) = some decodedRas ∧
    ({ placedPage with blankFrom := some 0 } : Page).blankFrom.isSome = true ∧
    ({ writerDev with pages := [{ placedPage with blankFrom := some 0 }] } : State).pageOfLine 0 = some ({ placedPage with blankFrom := some 0 }, 0) ∧
    writerDev.writerReach ≤ 16385 := by decide +kernel

/-- The raster byte 0xAA prints its four bits under RAS_MAP as code 3 in columns 1, 3, 5 and 7. -/
theorem test_screenLine : (List.range 8).map (fun k => rasterCode placedPage decodedRas 0 k) = [0, 3, 0, 3, 0, 3, 0, 3] := by decide +kernel

def aJob (owner : Nat) : CmxJob := { owner := owner, level := 1, lb := 1, perStripe := 256, input := [1], dest := 0x1000, tag := 0 }

theorem wit_Cmx : ({ soloDev with codec := { CodecSt.reset with waiting := [aJob 2] } } : State).codec.waiting = [aJob 2] ∧
    soloDev.codec.cmx.getD 0 none = none ∧ ({ soloDev with codec := { CodecSt.reset with cmx := [none, some (aJob 2)] } } : State).codec.cmx.getD 1 none =
      some (aJob 2) ∧ (aJob 2).owner = 2 ∧ (aJob 2).dest + (aJob 2).region ≤ soloDev.managedBytes ∧
    soloDev.managedBytes < ({ aJob 2 with dest := 2 ^ 40 } : CmxJob).dest + (aJob 2).region ∧ (aJob 1).owner = 1 := by decide +kernel

theorem wit_Cmx_shaped : ({ soloDev with codec := { CodecSt.reset with waiting := [aJob 2], cmx := [none, some (aJob 2)] } } : State).shaped := by decide

def goodRx : Rx := { error := false, crcOk := true }
def aDigest (stripe : Option Nat) : Digest := { pseq := 3, stripe := stripe, lacks := false, clen := 12, crc := 0 }

def twinPage (t : Stripe) : State := { setAll [(PgCtrl.fillinEn, 0, 1)] standbyDev with pages := [{ storedPage with stripes := [t] }] }

def lackStripe : Stripe := { rasStripe with stored := false, data := [], partner := some (aDigest (some 0)) }

/-- A digest of an unknown page, of a stripe that is missing, and of one that differs. -/
theorem wit_Digest : standbyDev.solo = false ∧ goodRx.error = false ∧ goodRx.crcOk = true ∧ Tab.find standbyDev.twin.rxSeq 0x0A = none ∧
    standbyDev.page 3 = none ∧ (twinPage lackStripe).page 3 = some { storedPage with stripes := [lackStripe] } ∧ lackStripe.stored = false ∧
    (aDigest (some 0)).lacks = false ∧ rasStripe.stored = true ∧ (aDigest (some 0)).clen ≠ rasStripe.clen ∧
    (twinPage rasStripe).role = roleStandby ∧ ({ standbyDev with twin := { standbyDev.twin with rxSeq := [(0x0A, 2 ^ 32 - 1)] } } : State).solo = false ∧
    Tab.find ({ standbyDev with twin := { standbyDev.twin with rxSeq := [(0x0A, 2 ^ 32 - 1)] } } : State).twin.rxSeq 0x0A = some (2 ^ 32 - 1) ∧
    0 = (2 ^ 32 - 1 + 1) % 2 ^ 32 := by decide +kernel

theorem wit_FillIn : (twinPage lackStripe).get PgCtrl.fillinEn 0 = 1 ∧ lackStripe.partner = some (aDigest (some 0)) ∧
    ({ storedPage with stripes := [lackStripe] } : Page).stripe 0 = some lackStripe ∧ ({ storedPage with stripes := [lackStripe] } : Page).dropsStripe 0 = false ∧
    rasStripe.lost = false ∧ Tab.find (twinPage lackStripe).twin.rxSeq 0x0B = none ∧ Tab.find (twinPage lackStripe).twin.rxSeq 0x0C = none ∧
    ({ goodRx with crcOk := false } : Rx).crcOk = false ∧ soloDev.solo = true := by decide +kernel

/-! ### Tables, fire fetch -/

def commitBusy : State := setAll [(ScrCommit.busy, 0, 1), (NmCommit.busy, 0, 1), (NmStage.state, 0, 0), (NmStage.cap, 0, 5)] soloDev

theorem wit_Commits : standbyDev.role = roleStandby ∧ soloDev.role ≠ roleStandby ∧ soloDev.get ScrCommit.busy 0 = 0 ∧
    soloDev.get NmCommit.busy 0 = 0 ∧ commitBusy.get ScrCommit.busy 0 = 1 ∧ commitBusy.get NmCommit.busy 0 = 1 ∧ commitBusy.scr.ctbHeld = [] ∧
    commitBusy.scr.nmHeld = [] ∧ commitBusy.ins.retry = false ∧
    commitBusy.nmRefusal ⟨commitBusy.get NmGenNew.v 0 + 1, copyRegs nmRegs commitBusy.regs⟩ = 0 := by decide +kernel

/-- Two usable nozzles in one column and coverage set. -/
def commitTwice : State := setAll [(NmStage.state, 1, 0), (NmStage.cap, 1, 5)] commitBusy

theorem wit_CommitRefused :
    commitTwice.nmRefusal ⟨commitTwice.get NmGenNew.v 0 + 1, copyRegs nmRegs commitTwice.regs⟩ ≠ 0 := by decide +kernel

def thrDev : State :=
  { setAll [(ScrThrCtl.state, 7, 1), (ScrThrCtl.width, 7, 1), (ScrThrCtl.height, 7, 1)] soloDev with
    scr := { ScreenSt.reset with thrChecks := [7] } }

def thrBadDev : State := setAll [(ThrWin.v, 4 * 65536 * 7, 2 + 1 * 2 ^ 12)] thrDev

/-- A slot that the staged screen set 0 names, and one that nothing names; OPEN with sizes 256 by 1; CLOSE with a width of 0 and of 257;
a window of zeros, and one with T1 above T2, which breaks R174. -/
theorem wit_Thr : ScrThrCtl.refused.of (0x3 : BitVec 32) = 0 ∧ ScrThrCtl.open_.of (0 : BitVec 32) = 0 ∧ ScrThrCtl.close.of (0 : BitVec 32) = 0 ∧
    (setAll [(ScrSset.valid, 0, 1), (ScrSset.array, 0, 7)] soloDev).slotNamed 7 = true ∧ soloDev.slotNamed 7 = false ∧
    thrDev.get ScrThrCtl.state 7 = 1 ∧ 7 ∈ thrDev.scr.thrChecks ∧ 6 ∉ thrDev.scr.thrChecks ∧ thrDev.thrBad 7 = none ∧
    thrBadDev.thrBad 7 = some (0, 0) := by decide +kernel

/-- The device drives port 0, READY and UP, with the gate open. -/
def fireDev : State :=
  setAll [(HpStat.state, 0, hpReady), (MntStat.gate, 0, 1), (HpIdInfo.nozzles, 0, 2048)]
    { printDev with
      scr := { printDev.scr with ring := [(0, ⟨0, 3, 0, [(0, 3)], false⟩)] }
      fpe := { printDev.fpe with vel := 1048576 } }

theorem wit_Fetch_none : standbyDev.acting = false ∧ soloDev.fpe.decided ≤ 0 ∧ fireDev.acting = true ∧ 0 < fireDev.fpe.decided ∧
    fireDev.nextLine 0 ≤ 0 ∧ fireDev.sites 127 0 = [] ∧
    Tab.find ({ fireDev with fpe := { fireDev.fpe with decisions := [(0, .skip)] } } : State).fpe.decisions 0 = some .skip := by decide +kernel

theorem wit_Fetch_complete : Tab.find fireDev.fpe.decisions 0 ≠ some .skip ∧ fireDev.sites 0 0 ≠ [] ∧ (fireDev.syncWd 0).blankCause 0 = 0 ∧
    (fireDev.syncWd 0).frameComplete 0 0 (fireDev.sites 0 0) = true ∧ (fireDev.syncWd 0).mayDrive = true ∧ (fireDev.syncWd 0).hpState 0 ≠ hpDown ∧
    (fireDev.syncWd 0).isUp 0 = true ∧ ((fireDev.syncWd 0).port 0).staleEpoch = false := by decide +kernel

def fireLate : State := { fireDev with scr := { fireDev.scr with ring := [] } }

theorem wit_Fetch_late : Tab.find fireLate.fpe.decisions 0 ≠ some .skip ∧ fireLate.sites 0 0 ≠ [] ∧ (fireLate.syncWd 0).blankCause 0 = 0 ∧
    (fireLate.syncWd 0).frameComplete 0 0 (fireLate.sites 0 0) = false ∧ (fireLate.syncWd 0).mayDrive = true ∧
    (fireLate.syncWd 0).hpState 0 ≠ hpDown ∧ (fireLate.syncWd 0).isUp 0 = true ∧ ((fireLate.syncWd 0).port 0).staleEpoch = false ∧
    fireLate.acting = true ∧ 0 < fireLate.fpe.decided ∧ fireLate.nextLine 0 ≤ 0 := by decide +kernel

def fireShut : State := setAll [(MntStat.gate, 0, 0)] fireDev

theorem wit_Fetch_blank : Tab.find fireShut.fpe.decisions 0 ≠ some .skip ∧ fireShut.sites 0 0 ≠ [] ∧ (fireShut.syncWd 0).blankCause 0 ≠ 0 ∧
    (fireShut.syncWd 0).mayDrive = true ∧ (fireShut.syncWd 0).hpState 0 ≠ hpDown ∧ (fireShut.syncWd 0).isUp 0 = true := by decide +kernel

def anEntry (kind quiet : Nat) : ScreeEntry :=
  { pseq := 3, kind := kind, port := 0, cs := 0, nozFirst := 0, nozLast := 0, first := 0, last := 0, changed := 1, removed := 1, quiet := quiet }

def screeDev (e : ScreeEntry) : State := { fireDev with ff := { fireDev.ff with scree := [e] } }

/-- An entry of a page that is gone, one that has been quiet for 256 frames, a ring with room and a full one. -/
theorem wit_Scree : (screeDev (anEntry 5 256)).ff.scree.find? (sameEntry 3 5 0 0) = some (anEntry 5 256) ∧ 256 ≤ (anEntry 5 256).quiet ∧
    nozzleKind 5 = false ∧ ({ screeDev (anEntry 3 0) with pages := [] } : State).portPassed 0 3 = true ∧
    (soloDev.get FfScreeWr.v 0 + 2 ^ 32 - soloDev.get FfScreeRd.v 0) % 2 ^ 32 < soloDev.screeSize ∧
    (let s := setAll [(FfScreeWr.v, 0, 65536)] soloDev
     s.screeSize ≤ (s.get FfScreeWr.v 0 + 2 ^ 32 - s.get FfScreeRd.v 0) % 2 ^ 32) ∧
    soloDev.ff.scree.find? (sameEntry 3 5 0 0) = none := by decide +kernel

/-- Weights in order, and weights that fall. -/
theorem wit_Duty : FfDutyW0.w1.of (0 : BitVec 32) ≤ FfDutyW0.w2.of (0 : BitVec 32) ∧
    (FfDutyW0.w2.of (0xFF : BitVec 32) < FfDutyW0.w1.of (0xFF : BitVec 32)) ∧
    FfDutyW0.w4.of (0 : BitVec 32) ≤ soloDev.get FfDutyW1.w5 0 ∧ soloDev.get FfDutyW1.w5 0 ≤ soloDev.get FfDutyW1.w6 0 ∧
    soloDev.get FfDutyW1.w6 0 ≤ soloDev.get FfDutyW1.w7 0 ∧ FfDutyW1.w6.of (0xFF : BitVec 32) < FfDutyW1.w5.of (0xFF : BitVec 32) ∧
    soloDev.get FfDutyW0.w4 0 ≤ FfDutyW1.w5.of (0xFFFFFFFF : BitVec 32) := by decide +kernel

/-! ### The fire position engine -/

/-- The web in a mode, source A (encoder 0) and source B (encoder 1) healthy or not, with 16 edges counted by each. -/
def web (mode a b : Nat) : State :=
  setAll [(FpeStat.mode, 0, mode), (EncStat.healthy, 0, a), (EncStat.healthy, 1, b)]
    { soloDev with fpe := { FpeSt.reset with edges := [16, 16], vel := 1048576, x := 2 ^ 24, xhw := 2 ^ 27, xAt := 399999400 } }

theorem wit_Fpe : (web 0 1 0).srcOk 0 = true ∧ 16 ≤ (web 0 1 0).fpe.edges.getD 0 0 ∧ (web 0 0 1).srcOk 0 = false ∧ (web 0 0 1).srcOk 1 = true ∧
    (web 0 0 1).flag FpeCtrl.autoB 0 = true ∧ (web 0 0 0).srcOk 1 = false ∧ (web 1 0 1).mode = 1 ∧ (web 1 0 0).srcOk 1 = false ∧ (web 2 0 1).mode = 2 ∧
    (web 3 1 0).mode = 3 ∧ (web 4 0 1).mode = 4 ∧ (web 1 1 1).fpe.x + (web 1 1 1).fpe.vel < (web 1 1 1).fpe.xhw - 2 ^ 24 ∧
    ({ web 1 1 1 with fpe := { (web 1 1 1).fpe with xhw := 0 } } : State).fpe.xhw ≤ (web 1 1 1).fpe.x + (web 1 1 1).fpe.vel ∧
    (web 3 1 0).mode ≠ 0 ∧ (web 4 0 0).mode ≠ 3 := by decide +kernel

theorem wit_FpeSel : FpeCtrl.selA.of (0x400 : BitVec 32) = 1 ∧ FpeCtrl.selB.of (0x400 : BitVec 32) = 0 ∧ FpeCtrl.selB.of (0x200 : BitVec 32) = 1 ∧
    FpeCtrl.selA.of (0x200 : BitVec 32) = 0 ∧ ((web 1 1 1).storeWord .fpeCtrl 0 0x408).srcOk 0 = true ∧
    ((web 1 0 0).storeWord .fpeCtrl 0 0x408).srcOk 0 = false ∧ ((web 1 1 1).storeWord .fpeCtrl 0 0x208).srcOk 1 = true ∧
    ((web 1 0 0).storeWord .fpeCtrl 0 0x208).srcOk 1 = false := by decide +kernel

def aFrame (line : Nat) : HeadFrame :=
  { line := line, rowMask := 1, wscale := 0x4000, heater := 0, epoch := 0, flags := 0, csMask := 1, depth := 3, codes := [(0, 3)], crc := 7,
    acked := false, ended := false, lost := false, pages := [(3, 0)] }

/-- Port 0 has been sent the frame of a line that lies `ahead` PU in front of the web. -/
def stampDev (line : Nat) : State :=
  setAll [(FpeStat.mode, 0, 1)]
    { fireDev with
      ports := [(0, { Port.reset with frames := [aFrame line] })]
      fpe := { fireDev.fpe with vel := 1048576, x := 0, xAt := fireDev.ft } }

/-- A line 100 lines ahead meets the bound of R227, the next line does not. -/
theorem wit_Stamp : (stampDev 100).mayDrive = true ∧ (stampDev 100).mode ≠ 0 ∧ 0 < (stampDev 100).fpe.vel ∧
    (stampDev 100).get FpeStat.behind 0 = 0 ∧ (stampDev 100).isUp 0 = true ∧ ((stampDev 100).port 0).staleEpoch = false ∧
    (stampDev 100).stampDue 0 100 = true ∧ (stampDev 100).twin.pacing = none ∧ Tab.find (stampDev 100).fpe.decisions 100 = none ∧
    (∃ t0, (stampDev 100).predict (256 * 100 + (stampDev 100).slewOfs 0) = some t0 ∧ (stampDev 100).earliestStamp ≤ t0) ∧
    (∃ t0, (stampDev 0).predict (256 * 0 + (stampDev 0).slewOfs 0) = some t0 ∧ t0 < (stampDev 0).earliestStamp) ∧ (stampDev 0).stampDue 0 0 = true ∧
    Tab.find (stampDev 0).fpe.decisions 0 = some (.fire 0) :=
  ⟨by decide +kernel, by decide +kernel, by decide +kernel, by decide +kernel, by decide +kernel, by decide +kernel, by decide +kernel,
    by decide +kernel, by decide +kernel, ⟨_, rfl, by decide +kernel⟩, ⟨_, rfl, by decide +kernel⟩, by decide +kernel, by decide +kernel⟩

theorem wit_Slew : Tab.find soloDev.fpe.applied 0 = none ∧ 1 ≤ (setAll [(FpeOfsSlew.pu, 0, 1)] soloDev).get FpeOfsSlew.pu 0 ∧
    Tab.find ({ soloDev with fpe := { FpeSt.reset with applied := [(0, -5)] } } : State).fpe.applied 0 = some (-5) ∧
    0 < Tab.get 0 ({ soloDev with fpe := { FpeSt.reset with stamped := [(0, 1)] } } : State).fpe.stamped 0 := by decide +kernel

/-- Line 0 is to be decided for port 0, under a policy; the port last fired at `t`. -/
def decideDev (policy : Nat) (last : Tab Nat) : State :=
  let p : Page := { placedPage with desc := { rasDesc with overspeed := policy } }
  setAll [(FpeStat.mode, 0, 1), (HpRate.maxRate, 0, 1000)]
    { fireDev with
      pages := [p]
      fpe := { fireDev.fpe with decided := 0, decisions := [], vel := 1048576, x := 0, xAt := fireDev.ft, last := last } }

theorem wit_LineDecision : (decideDev 0 []).acting = true ∧ (decideDev 0 []).mode ≠ 0 ∧ (decideDev 0 []).fpe.decided ≤ 0 ∧
    (decideDev 0 []).portsInUse.filter (fun p => (decideDev 0 []).sites p 0 != []) = [0] ∧
    ([0].filter (fun p => !(decideDev 0 []).wdOpen p)) = [0] ∧ (decideDev 0 []).fpe.skipUntil = none ∧ (decideDev 0 []).fpe.fallen = none ∧
    (decideDev 0 []).fpe.blankPage = none ∧ (decideDev 0 []).twin.pacing = none := by decide +kernel

/-- The web instant lies before LAST plus the gap; the policies are those of the page; STRETCH within its bound and beyond it. -/
theorem wit_LineDecision_fast :
    let tw := ((decideDev 1 []).predict 0).getD ((decideDev 1 []).ft * 256)
    let s := decideDev 1 [(0, tw)]
    tw < tw + s.gap 0 ∧ s.policyOf 0 = 1 ∧ Tab.find s.fpe.last 0 = some tw ∧ (decideDev 0 []).policyOf 0 = 0 ∧ (decideDev 2 []).policyOf 0 = 2 ∧
    (decideDev 3 []).policyOf 0 = 3 ∧ s.mayAssert = true ∧ s.gap 0 ≤ 100000000 * s.period ∧
    (decideDev 2 []).pageOfLine 0 ≠ none := by decide +kernel

def advDev : State := setAll [(FpeStat.adv, 0, 1), (FpeAllowed.v, 0, 1000), (NetStat.eUp, 0, 1)] soloDev

theorem wit_Advisory : advDev.get FpeStat.adv 0 = 1 ∧ 100 * advDev.lineRate < advDev.get FpeAdv.offPct 0 * advDev.get FpeAllowed.v 0 ∧
    soloDev.get FpeStat.adv 0 = 0 ∧ advDev.portUp 0 = true ∧ advDev.blocked 0 = false ∧ advDev.net.egress.getD 0 [] = [] ∧
    advDev.net.busy.getD 0 0 ≤ advDev.now ∧ advDev.guarded 0 60 = false ∧ advDev.portUp 1 = false := by decide +kernel

theorem wit_Advisory_shaped : advDev.shaped := by decide

/-! ### Heads -/

/-- Port 0 UP in a state of its bring-up, its port record as given. -/
def headDev (st : Nat) (q : Port) : State := setAll [(HpStat.state, 0, st), (HpTherm.htLimit, 0, 100), (HpTherm.htHyst, 0, 10)]
    { soloDev with linkUp := [0], ports := [(0, q)] }

def aTelem (temp status : Nat) : Telem :=
  { rx := goodRx, portB := false, temp := temp, vdrive := 0, status := status, fired := 0, eHi := 0, crcErr := 0, missed := 0, lFired := 0 }

/-- A port down and one UP; a CRC error; a head too hot by its temperature and by its status, cool, and in between; drive and no drive. -/
theorem wit_HeadTelemetry : soloDev.isUp 0 = false ∧ (headDev hpReady Port.reset).isUp 0 = true ∧ Rx.good ⟨false, false⟩ = false ∧
    Rx.good (aTelem 0 0).rx = true ∧ (aTelem 0 32).status / 32 % 2 = 1 ∧
    ((headDev hpReady Port.reset).get HpTherm.htLimit 0 : Int) < signed 16 (aTelem 101 0).temp ∧ (aTelem 101 0).status / 32 % 2 = 0 ∧
    signed 16 (aTelem 89 0).temp < ((headDev hpReady Port.reset).get HpTherm.htLimit 0 : Int) - (headDev hpReady Port.reset).get HpTherm.htHyst 0 ∧
    ((headDev hpReady Port.reset).get HpTherm.htLimit 0 : Int) - (headDev hpReady Port.reset).get HpTherm.htHyst 0 ≤ signed 16 (aTelem 90 0).temp ∧
    signed 16 (aTelem 90 0).temp ≤ ((headDev hpReady Port.reset).get HpTherm.htLimit 0 : Int) ∧
    (headDev hpReady Port.reset).hpState 0 ≠ hpDown ∧ (headDev hpReady Port.reset).flag HpTstat.stale 0 = false ∧
    soloDev.hpState 0 = hpDown ∧ (headDev hpReady Port.reset).mayDrive = true ∧ (headDev hpReady Port.reset).hpState 0 ≠ hpAsleep ∧
    standbyDev.mayDrive = false ∧ (setAll [(HpTstat.hold, 0, 1)] soloDev).flag HpTstat.hold 0 = true ∧
    (headDev hpReady Port.reset).awake 0 = true ∧ (headDev hpReady Port.reset).headTable 0 2 = none ∧
    ({ soloDev with img := { soloDev.img with headTables := [⟨1, 2, [1]⟩] } } : State).headTable 0 2 = some [1] := by decide +kernel

def setDev (n bad : Nat) : State := headDev hpSync { Port.reset with echoOut := [(7, 100)], echoes := List.replicate n 50, badSets := bad }

theorem wit_HeadDelay : (setDev 3 0).awake 0 = true ∧ ((setDev 3 0).port 0).retryWait = false ∧
    ((setDev 3 0).port 0).echoOut.length + ((setDev 3 0).port 0).echoes.length < 16 ∧
    16 ≤ ((setDev 15 0).port 0).echoOut.length + ((setDev 15 0).port 0).echoes.length ∧ Tab.find ((setDev 3 0).port 0).echoOut 7 = some 100 ∧
    ((setDev 3 0).port 0).echoes.length ≠ 15 ∧ ((setDev 15 0).port 0).echoes.length = 15 ∧ ((setDev 15 0).port 0).badSets ≠ 7 ∧
    ((setDev 15 7).port 0).badSets = 7 ∧ Tab.find ((setDev 3 0).port 0).echoOut 6 = none ∧
    ((headDev hpSync { Port.reset with retryWait := true }).port 0).retryWait = true ∧ ((150 - 100 - 0 : Nat) = 50) ∧
    (256 < (600 - 100 - 0) - 50) := by decide +kernel

/-- The greatest and the least of the sixteen delays of a set: all equal, and one far off. -/
theorem wit_HeadDelay_set (d : Nat) (h : 50 ≤ d) : IsGreatest {x | x ∈ d :: List.replicate 15 50} d ∧ IsLeast {x | x ∈ d :: List.replicate 15 50} 50 := by
  constructor
  · refine ⟨by simp, ?_⟩
    intro x hx
    simp only [List.replicate, Set.mem_ofPred_eq, List.mem_cons, List.not_mem_nil, or_false] at hx
    omega
  · refine ⟨by simp, ?_⟩
    intro x hx
    simp only [List.replicate, Set.mem_ofPred_eq, List.mem_cons, List.not_mem_nil, or_false] at hx
    omega

def ackDev (f : HeadFrame) : State := headDev hpReady { Port.reset with frames := [f] }
def anAck (result : Nat) : AckMsg := { rx := goodRx, line := 900, crc := 7, epoch := 0, result := result, free := 0 }

theorem wit_HeadAcks : (ackDev (aFrame 900)).role ≠ roleStandby ∧
    ((ackDev (aFrame 900)).port 0).frames.find? (fun f => f.line % 2 ^ 32 == (anAck 4).line && f.crc == (anAck 4).crc) = some (aFrame 900) ∧
    ((ackDev (aFrame 900)).port 0).frames.find? (fun f => f.line == 900) = some (aFrame 900) ∧ (ackDev (aFrame 900)).acting = true ∧
    (ackDev (aFrame 900)).mayDrive = true ∧ (aFrame 900).acked = false ∧ (aFrame 900).ended = false ∧ (aFrame 900).lost = false ∧
    (ackDev (aFrame 900)).beforeDeadline 900 = true ∧ ((ackDev (aFrame 900)).port 0).staleEpoch = false ∧
    activeDev.role = roleActive ∧ (aFrame 900).pages = [(3, 0)] ∧ rasPage.record.status = 0 ∧
    (ackDev { aFrame 900 with acked := true }).isUp 0 = true := by decide +kernel

def aHello (serial rate proto : Nat) : Hello :=
  { rx := goodRx, proto := proto, family := 2, serial := serial, nozzles := 1024, rows := 4, caps := 0xFF, maxRate := rate, hfw := 1 }

def aReq (op resends : Nat) : MgmtReq := ⟨op, [5], resends⟩
def askDev (st op resends : Nat) : State := headDev st { Port.reset with request := some (aReq op resends), nonce := [1, 2] }

theorem wit_HeadHello : (headDev hpSync Port.reset).hpState 0 = hpSync ∧ ((headDev hpSync Port.reset).port 0).lastSerial = none ∧
    ((headDev hpSync Port.reset).port 0).request = none ∧ ((headDev hpSync Port.reset).port 0).waiting = [] ∧
    ((headDev hpSync Port.reset).port 0).sleepReq = false ∧ (headDev hpSync Port.reset).helloValid 0 (aHello 1 5 0x100) = true ∧
    (headDev hpSync Port.reset).helloValid 0 (aHello 1 5 0x200) = false ∧ (headDev hpSync Port.reset).calState = calIdle ∧
    (aHello 1 5 0x100).maxRate < (setAll [(HpRate.maxRate, 0, 9)] (headDev hpSync Port.reset)).get HpRate.maxRate 0 ∧
    ((headDev hpReady { Port.reset with lastSerial := some 8 }).port 0).lastSerial = some 8 ∧ 8 ≠ (aHello 1 5 0x100).serial := by decide +kernel

theorem wit_HeadRequests : (askDev hpAuth 8 0).hpState 0 = hpAuth ∧ (askDev hpAuth 8 0).answered 0 [8] = true ∧
    (askDev hpReady 8 0).hpState 0 ≠ hpAuth ∧ (askDev hpReady 10 0).answered 0 [0x0A] = true ∧ (askDev hpReady 8 0).answered 0 [0x0A] = false ∧
    ((askDev hpReady opUsageWr 0).port 0).request = some (aReq opUsageWr 0) ∧ (aReq opUsageWr 0).op = opUsageWr ∧ (aReq 3 0).op ≠ opUsageWr ∧
    (aReq 3 0).op ≠ 0x0F ∧ ((askDev hpReady 3 0).port 0).waiting = [] ∧ ((headDev hpReady Port.reset).port 0).request = none ∧
    (aReq 3 2).resends < 3 ∧ 3 ≤ (aReq 3 3).resends ∧ (askDev hpReady 3 3).isUp 0 = true ∧ (askDev hpReady 3 3).calState = calIdle := by decide +kernel

def sleepDev (st : Nat) (asked : Bool) : State := setAll [(HpCtrl.sleepEn, 0, 1)] (headDev st { Port.reset with sleepReq := asked })

theorem wit_HeadSleep : (sleepDev hpReady false).maySleep 0 = true ∧ (sleepDev hpReady false).hpState 0 = hpReady ∧
    ((sleepDev hpReady false).port 0).sleepReq = false ∧ (sleepDev hpSync true).maySleep 0 = false ∧
    ((sleepDev hpSync true).port 0).sleepReq = true ∧ (sleepDev hpSync false).maySleep 0 = false := by decide +kernel

/-- Link n with every lane locked, deskewed and good at the far end, UP or not. -/
def readyLink (n : Nat) (up : List Nat) : State :=
  setAll ((linkLanes n).flatMap (fun m => [(LnStat.lock, m, 1), (LnStat.deskewed, m, 1)]))
    { soloDev with lanes := (linkLanes n).map (fun m => (m, { laneSt .traffic with statusSeen := true })), linkUp := up }

theorem wit_Links : (readyLink 0 []).isUp 0 = false ∧ (readyLink 0 []).linkReady 0 = true ∧ (readyLink 0 [0]).isUp 0 = true ∧
    (headDev hpSync Port.reset).linkReady 0 = false ∧ linkNumber (.head 0) = 0 ∧ linkNumber .dataPort = 128 ∧ linkNumber .col = 136 ∧
    ({ soloDev with linkUp := [136] } : State).isUp 136 = true ∧ soloDev.linkReady 136 = false ∧ soloDev.isUp 128 = false := by decide +kernel

/-! ### Position feedback, the loop engine -/

def encDev (e : Encoder) (idxMode : Nat) : State :=
  setAll [(EncCfg.en, 1, 1), (EncCfg.diagEn, 1, 1), (EncCfg.idxMode, 1, idxMode), (EncCfg.idxState, 1, 1)]
    { soloDev with posn := { PositionSt.reset with enc := PositionSt.reset.enc.set 1 e } }

/-- From 00, A rising counts up and B rising counts down; from 11 both falling is a double transition; the index gate state. -/
theorem wit_Encoders : (encDev Encoder.reset 0).flag EncCfg.en 0 = false ∧ (encDev Encoder.reset 0).flag EncCfg.en 1 = true ∧
    true ≠ ((encDev Encoder.reset 0).enc 1).a ∧ true ≠ ((encDev Encoder.reset 0).enc 1).b ∧
    (quadrant true false + 4 - quadrant ((encDev Encoder.reset 0).enc 1).a ((encDev Encoder.reset 0).enc 1).b) % 4 =
      (if true = (encDev Encoder.reset 0).flag EncCfg.dir 1 then 3 else 1) ∧
    (quadrant false true + 4 - quadrant ((encDev Encoder.reset 0).enc 1).a ((encDev Encoder.reset 0).enc 1).b) % 4 =
      (if false = (encDev Encoder.reset 0).flag EncCfg.dir 1 then 3 else 1) ∧
    ((encDev Encoder.reset 0).enc 1).edges = [] ∧ ((encDev { Encoder.reset with edges := [(1, 1, false)] } 0).enc 1).edges ≠ [] ∧
    (∀ c, c < 3 → ((encDev Encoder.reset 1).enc 1).wireLive 2 c = false) ∧
    (encDev Encoder.reset 1).get EncCfg.idxState 1 = (if false = true then 2 else 0) + (if true = true then 1 else 0) ∧
    (encDev Encoder.reset 1).get EncCfg.idxMode 1 = 1 ∧ (encDev Encoder.reset 0).get EncCfg.idxMode 1 = 0 ∧
    (setAll [(EncStat.armed, 1, 1)] (encDev Encoder.reset 2)).flag EncStat.armed 1 = true ∧ (encDev Encoder.reset 2).get EncCfg.idxMode 1 = 2 ∧
    (encDev Encoder.reset 2).flag EncStat.armed 1 = false ∧ (encDev Encoder.reset 0).flag EncCfg.diagEn 1 = true ∧
    ((encDev Encoder.reset 0).enc 1).wire.length = 9 ∧ (encDev Encoder.reset 0).flag EncStat.fault 1 = false ∧
    (setAll [(EncStat.fault, 1, 1)] (encDev Encoder.reset 0)).flag EncStat.fault 1 = true ∧ (encDev Encoder.reset 0).encFaults 1 = [] ∧
    (encDev Encoder.reset 0).flag EncStat.healthy 1 = false ∧ (encDev { Encoder.reset with wire := [true] } 0).encFaults 1 ≠ [] ∧
    (setAll [(EncStat.healthy, 1, 1)] (encDev Encoder.reset 0)).flag EncStat.healthy 1 = true := by decide +kernel

theorem wit_Encoders_shaped : (encDev Encoder.reset 1).shaped := by decide

/-- R289: 00, 01, 11, 10 of (B, A) counts up in four steps and down in the other order. -/
theorem test_quadrant : [(false, false), (true, false), (true, true), (false, true)].map (fun x => quadrant x.1 x.2) = [0, 1, 2, 3] := by decide

def latchDev (edge k : Nat) : State :=
  setAll [(PrbCfg.edge, 9, edge), (PrbCfg.diagEn, 9, 1), (PrbCfg.actMax, 9, 1)]
    { soloDev with posn := { PositionSt.reset with latch := PositionSt.reset.latch.set 9 { LatchIn.reset with queue := List.replicate k (List.replicate 8 0) } } }

def ssiDev (busy : Option Nat) (gray : Nat) : State :=
  setAll [(SsiCfg.en, 1, 1), (SsiCfg.gray, 1, gray), (SsiTrig.periodLq, 1, 5)]
    { soloDev with posn := { PositionSt.reset with ssi := PositionSt.reset.ssi.set 1 { SsiPort.reset with busy := busy } } }

theorem wit_Latches : (latchDev 0 0).get PrbCfg.edge 9 = 0 ∧ (latchDev 1 0).get PrbCfg.edge 9 = 1 ∧ (latchDev 2 0).get PrbCfg.edge 9 = 2 ∧
    (latchDev 3 0).get PrbCfg.edge 9 = 3 ∧ 4 ≤ ((latchDev 3 4).latchIn 9).queue.length ∧ ((latchDev 3 3).latchIn 9).queue.length < 4 ∧
    (latchDev 3 0).mode = 0 ∧ (web 1 1 1).mode ≠ 0 ∧ (setAll [(PrbStat.ovf, 9, 1)] (latchDev 3 4)).flag PrbStat.ovf 9 = true ∧
    (latchDev 3 4).flag PrbStat.ovf 9 = false ∧ (latchDev 3 0).flag PrbCfg.diagEn 9 = true ∧ (latchDev 3 0).get PrbCfg.actMax 9 ≠ 0 ∧
    (setAll [(PrbCfg.diagEn, 9, 0)] soloDev).flag PrbCfg.diagEn 9 = false ∧ (latchDev 3 0).flag PrbStat.stuck 9 = false ∧ (ssiDev none 0).get SsiTrig.periodLq 1 ≠ 0 ∧
    (ssiDev none 0).flag SsiCfg.en 1 = true ∧ ((ssiDev none 0).ssi 1).busy = none ∧ ((ssiDev (some 77) 0).ssi 1).busy = some 77 ∧
    (ssiDev none 0).flag SsiCfg.double 1 = false ∧ (ssiDev none 0).flag SsiCfg.gray 1 = false ∧ (ssiDev none 1).flag SsiCfg.gray 1 = true := by
  decide +kernel

theorem wit_Latches_shaped : (latchDev 3 3).shaped := by decide

theorem wit_Ssi_shaped : (ssiDev (some 77) 1).shaped := by decide

/-- Gray 110 is 4, 111 is 5 and 101 is 6. -/
theorem test_gray : [6, 7, 5].map (grayToBinary 32) = [4, 5, 6] := by decide +kernel

/-- Slot n enabled, in a mode, its slot record as given. -/
def slotDev (n : Nat) (x : Slot) : State := setAll [(LeCfg.en, n, 1)] { soloDev with loop := { LoopSt.reset with slots := [(n, x)] } }

def runSlot (mode : Nat) (request : Option Nat) : Slot := { Slot.reset with started := true, mode := mode, request := request }

theorem wit_LoopSamples : soloDev.flag LeCfg.en 144 = false ∧ (slotDev 144 (runSlot 0 none)).flag LeCfg.en 144 = true ∧
    ((slotDev 144 (runSlot 0 none)).slot 144).started = true ∧ ((slotDev 144 Slot.reset).slot 144).started = false ∧
    (slotDev 162 (runSlot 0 none)).flag FpeCtrl.xchkEn 0 = false ∧
    (setAll [(FpeCtrl.xchkEn, 0, 1)] (slotDev 162 (runSlot 0 none))).flag FpeCtrl.xchkEn 0 = true ∧
    ((slotDev 144 { runSlot 0 none with abortDue := true }).slot 144).abortDue = true ∧
    (setAll [(HpTstat.hold, 3, 1)] (slotDev 3 (runSlot 0 none))).thermalHold 3 = true ∧ (slotDev 144 (runSlot 0 none)).thermalHold 144 = false ∧
    ((slotDev 144 (runSlot 3 none)).slot 144).mode = 3 ∧ ((slotDev 144 (runSlot 3 none)).slot 144).cause ≠ 1 ∧
    ((slotDev 144 (runSlot 0 (some 1))).slot 144).request = some 1 ∧
    (let s := setAll [(LeCfg.newOnly, 1, 1), (LeSrc.src, 1, 1)] (slotDev 1 (runSlot 0 none))
     s.flag LeCfg.newOnly 1 = true ∧ (s.leSource 1).2 = some (s.slot 1).srcSeq) ∧
    (slotDev 144 (runSlot 0 none)).flag LeStat.swapPend 144 = false ∧ (slotDev 144 (runSlot 0 none)).flag LeStat.saddle 144 = false ∧
    (setAll [(LeStat.swapPend, 144, 1)] (slotDev 144 (runSlot 0 none))).flag LeStat.swapPend 144 = true ∧
    ((slotDev 144 (runSlot 2 none)).slot 144).committed = none ∧
    ((slotDev 144 { runSlot 2 none with committed := some 9 }).slot 144).committed = some 9 ∧
    ((slotDev 144 (runSlot 0 (some 1))).slot 144).enabled = false ∧
    (setAll [(LeSlew.v, 144, 4)] (slotDev 144 (runSlot 0 (some 1)))).leMag LeSlew.v 144 ≠ 0 := by decide +kernel

/-- R309, law 2 at short grade: the products B0 e[k] + B1 e[k-1] - A1 y[k-1], here 0.5 * 1000 + 0.25 * 400 - 0.5 * 200 = 500. -/
theorem test_law2 : lawRaw true false [0x4000, 0x2000, 0, 0, 0x4000, 0, 0, 0, 0] 1000 [400, 0, 0] [200, 0, 0] = 500 := by decide +kernel

/-- The clamp saturates before the clamp's limits do. -/
theorem test_lawSat : lawRaw true false [0x7FFF, 0x7FFF, 0x7FFF, 0, 0, 0, 0, 0, 0] 32767 [32767, 32767, 0] [0, 0, 0] = 32767 := by decide +kernel

def fullSchedule : State := setAll ((List.range 81).map (fun m => (LeCfg.en, m, 1)) ++ (List.range 176).map (fun m => (LeSched.period, m, 1))) soloDev

theorem wit_LoopSchedule : LeSched.period.of (0 : BitVec 32) = 0 ∧ LeSched.period.of (5 : BitVec 32) ≠ 0 ∧
    80 < fullSchedule.leLoad 144 true 1 0 ∧ soloDev.leLoad 144 false 5 0 ≤ 80 ∧
    fullSchedule.flag LeCfg.en 144 = false ∧ 80 < fullSchedule.leLoad 144 true (fullSchedule.get LeSched.period 144) (fullSchedule.get LeSched.phase 144) ∧
    soloDev.leLoad 144 true (soloDev.get LeSched.period 144) (soloDev.get LeSched.phase 144) ≤ 80 ∧ soloDev.operating = true := by decide +kernel

theorem wit_LoopWrites : LeCfg.en.of (0x1 : BitVec 32) = 1 ∧ LeCfg.abort.of (0x1 : BitVec 32) = 0 ∧
    LeCfg.en.of (0 : BitVec 32) = soloDev.get LeCfg.en 144 ∧ LeCfg.mode.of (0 : BitVec 32) ≠ 3 ∧
    (∃ v : BitVec 32, LeCfg.abort.of v = 1 ∧ LeCfg.en.of v = 0) ∧ (∃ v : BitVec 32, LeCfg.mode.of v = 3) ∧
    soloDev.aborting 3 144 = false ∧ (web 1 1 1).mode ≠ 0 ∧ (soloDev.slot 144).cause ≠ 1 ∧ (soloDev.slot 144).cause ≠ 3 ∧
    ((slotDev 144 { runSlot 3 none with cause := 3 }).slot 144).cause = 3 ∧ soloDev.leInt LeOmin.v 144 ≤ soloDev.leInt LeOmax.v 144 ∧
    (5 : Int) = signed (slotWidth 144) ((5 : BitVec 32).toNat % 2 ^ slotWidth 144) ∧
    (setAll [(LeOmin.v, 144, 9)] soloDev).leInt LeOmin.v 144 = 9 ∧ (setAll [(LeOmax.v, 144, 3)] soloDev).leInt LeOmax.v 144 = 3 ∧
    ((slotDev 144 (runSlot 2 none)).slot 144).mode = 2 ∧ LeHostSeq.seq.of (0 : BitVec 32) = (slotDev 144 (runSlot 2 none)).get LeStat.seq 144 ∧
    LeHostSeq.seq.of (3 : BitVec 32) ≠ (slotDev 144 (runSlot 2 none)).get LeStat.seq 144 :=
  ⟨by decide +kernel, by decide +kernel, by decide +kernel, by decide +kernel, ⟨BitVec.ofNat 32 (2 ^ LeCfg.abort.lo), by decide +kernel⟩,
    ⟨0xFFFFFFFF, by decide +kernel⟩, by decide +kernel, by decide +kernel, by decide +kernel, by decide +kernel, by decide +kernel,
    by decide +kernel, by decide +kernel, by decide +kernel, by decide +kernel, by decide +kernel, by decide +kernel, by decide +kernel⟩

def hostDev : State :=
  setAll [(ScrCtrl.compMode, 0, 1), (ScrCtrl.hostFallback, 0, 1), (LeCfg.mode, 144, 2), (LeCfg.hostFb, 144, 1)] soloDev

theorem wit_HostSilence : standbyDev.acting = false ∧ hostDev.acting = true ∧ hostDev.get ScrCtrl.compMode 0 = 1 ∧
    hostDev.flag ScrCtrl.hostFallback 0 = true ∧ soloDev.get ScrCtrl.compMode 0 = 0 ∧ hostDev.get LeCfg.mode 144 = 2 ∧
    hostDev.flag LeCfg.hostFb 144 = true ∧ soloDev.get LeCfg.mode 144 ≠ 2 := by decide +kernel

def trcDev (st : Nat) : State := setAll [(TrcStat.state, 2, st)] soloDev

theorem wit_Traces : (∃ v : BitVec 32, TrcCfg.en.of v = 1 ∧ TrcCfg.arm.of v = 1) ∧
    (∃ v : BitVec 32, TrcCfg.force.of v = 1 ∧ TrcCfg.arm.of v = 0 ∧ TrcCfg.trig.of v = 0) ∧ (trcDev 1).get TrcStat.state 2 = 1 ∧
    TrcCfg.arm.of (0 : BitVec 32) = 0 ∧ TrcCfg.force.of (0 : BitVec 32) = 0 ∧ TrcDumpCtl.go.of (0 : BitVec 32) = 0 ∧
    TrcDumpCtl.go.of (1 : BitVec 32) = 1 ∧ (trcDev 3).get TrcStat.state 2 = 3 ∧ (trcDev 2).get TrcStat.state 2 = 2 ∧
    standbyDev.role = roleStandby ∧ soloDev.role ≠ roleStandby :=
  ⟨⟨0xFFFFFFFF, by decide +kernel⟩, ⟨BitVec.ofNat 32 (2 ^ TrcCfg.force.lo), by decide +kernel⟩, by decide +kernel, by decide +kernel,
    by decide +kernel, by decide +kernel, by decide +kernel, by decide +kernel, by decide +kernel, by decide +kernel, by decide +kernel⟩

/-! ### Cameras, contexts, health map, lamps, patterns -/

def aTrigger (q : Nat) (closed : Option (Nat × Nat)) : Trigger :=
  { tseq := q, gen := 0, tab := [(2 ^ 0, 0)], ft := 5, x := 0, xfrac := 0, pseq := 3, trailer := false, conflict := false, strobeSkip := false,
    closed := closed, rows := [] }

/-- Port 1 enabled with context 2, its triggers and the frame in progress as given. -/
def camDev (src : Nat) (trigs : List Trigger) (port : CamPort) : State :=
  setAll [(CamCfg.en, 1, 1), (CamTrig.src, 1, src), (CamTrig.periodLq, 1, 4)]
    { soloDev with
      ins := { InspectSt.reset with
        ports := InspectSt.reset.ports.set 1 port
        ctxs := InspectSt.reset.ctxs.set 2 { Ctx.reset with trigs := trigs }
        trailers := [⟨3, 0, [0], false, 0, 8, []⟩] } }

theorem wit_CamTrigger : CamTrig.go.of (BitVec.ofNat 32 (2 ^ CamTrig.go.lo)) = 1 ∧ CamTrig.abort.of (BitVec.ofNat 32 (2 ^ CamTrig.go.lo)) = 0 ∧
    CamTrig.src.of (BitVec.ofNat 32 (2 ^ CamTrig.go.lo)) = 0 ∧ CamTrig.abort.of (0xFFFFFFFF : BitVec 32) = 1 ∧
    (camDev 2 [] CamPort.reset).get CamTrig.src 1 = 2 ∧ (camDev 2 [] CamPort.reset).get CamTrig.periodLq 1 ≠ 0 ∧
    (camDev 1 [] CamPort.reset).get CamTrig.src 1 = 1 ∧ (camDev 1 [] CamPort.reset).dueTrailer 1 = some ⟨3, 0, [0], false, 0, 8, []⟩ ∧
    soloDev.flag CamCfg.en 1 = false ∧ (camDev 2 [] CamPort.reset).flag CamCfg.en 1 = true ∧ (camDev 2 [] CamPort.reset).operating = true ∧
    4 ≤ ((camDev 2 (List.replicate 4 (aTrigger 1 none)) CamPort.reset).outstanding 2).length ∧ 2 ∈ (camDev 2 [] CamPort.reset).served 1 ∧
    (∀ k ∈ (camDev 2 [] CamPort.reset).served 1, ((camDev 2 [] CamPort.reset).outstanding k).length < 4) ∧
    (camDev 2 [] CamPort.reset).rst.qualified.getD (5 + 1) false = true ∧ (camDev 2 [] CamPort.reset).mayAssert = true ∧
    soloDev.dueTrailer 1 = none := by decide +kernel

theorem wit_CamTrigger_shaped : (camDev 2 [aTrigger 1 none] CamPort.reset).shaped := by decide

theorem wit_CamFrame : (camDev 2 [aTrigger 1 none] CamPort.reset).outstanding 2 = [aTrigger 1 none] ∧
    ((camDev 2 [] CamPort.reset).camPort 1).frame = none ∧ (camDev 2 [] CamPort.reset).outstanding 2 = [] ∧
    (2 : Nat) = (if (camDev 2 [] CamPort.reset).flag CamCfg.shared 1 = true ∧ (camDev 2 [] CamPort.reset).flag CamStat.sel 1 = true
      then 2 * 1 + 1 else 2 * 1) ∧
    ((camDev 2 [aTrigger 1 none] ⟨some (2, some 1), false, true, none⟩).camPort 1).frame = some (2, some 1) ∧
    ((camDev 2 [aTrigger 1 none] ⟨some (2, some 1), false, true, none⟩).camPort 1).aborting = true ∧
    ((camDev 2 [aTrigger 1 none] ⟨some (2, some 1), false, true, none⟩).ctx 2).trigs.find? (fun x => x.tseq == 1) = some (aTrigger 1 none) ∧
    ((camDev 2 [] ⟨some (2, none), false, false, none⟩).camPort 1).frame = some (2, none) ∧
    ((camDev 2 [] ⟨none, true, false, none⟩).camPort 1).selWait = true ∧ ((camDev 2 [] CamPort.reset).camPort 1).selWait = false := by
  decide +kernel

/-- Context 2 with a copy that a trigger still uses; TSEQ 5 with TARGET 4, which has passed, and 9, which has not. -/
def ctxDev (older : Option CtxGen) (tseq target : Nat) (trigs : List Trigger) : State :=
  setAll [(IspTseq.v, 2, tseq), (IspTarget.v, 2, target)]
    { soloDev with ins := { InspectSt.reset with ctxs := InspectSt.reset.ctxs.set 2 { Ctx.reset with trigs := trigs, older := older } } }

theorem wit_IspCommit : IspCommit.commit.of (BitVec.ofNat 32 (2 ^ IspCommit.commit.lo)) = 1 ∧ IspCommit.commit.of (0 : BitVec 32) = 0 ∧
    ((ctxDev (some ⟨0, []⟩) 0 0 [aTrigger 1 none]).ctx 2).olderUsed = true ∧ ((ctxDev none 0 0 []).ctx 2).olderUsed = false ∧
    (ctxDev none 0 0 []).get IspTseq.v 2 = 0 ∧
    2 ^ 31 ≤ ((ctxDev none 5 9 []).get IspTseq.v 2 + 2 ^ 32 - (ctxDev none 5 9 []).get IspTarget.v 2) % 2 ^ 32 ∧
    ((ctxDev none 5 4 []).get IspTseq.v 2 + 2 ^ 32 - (ctxDev none 5 4 []).get IspTarget.v 2) % 2 ^ 32 < 2 ^ 31 ∧
    (ctxDev none 5 4 []).get IspTseq.v 2 ≠ 0 := by decide +kernel

theorem wit_IspCommit_shaped : (ctxDev none 5 4 [aTrigger 1 (some (1, 0))]).shaped := by decide

theorem wit_Results : ((ctxDev none 0 0 []).ctx 2).trigs = [] ∧ ((ctxDev none 0 0 [aTrigger 1 none]).ctx 2).trigs = [aTrigger 1 none] ∧
    (aTrigger 1 none).closed = none ∧ (aTrigger 1 (some (1, 0))).closed.isSome = true ∧ (aTrigger 1 (some (1, 0))).invalid = true ∧
    (soloDev.get InsResWr.v 0 + 2 ^ 32 - soloDev.get InsResRd.v 0) % 2 ^ 32 < soloDev.resUnits ∧
    (let s := setAll [(InsResWr.v, 0, 65536)] soloDev
     s.resUnits ≤ (s.get InsResWr.v 0 + 2 ^ 32 - s.get InsResRd.v 0) % 2 ^ 32) := by decide +kernel

def aStrip (done : List Nat) : Strip := { pseq := 3, ctxs := [0, 1], done := done, results := [(7, (0, 1, 0, 0, 0)), (8, (0, 4, 0, 0, 0))] }
def stripDev (done : List Nat) (clr : Bool) : State := { soloDev with ins := { InspectSt.reset with strips := [aStrip done], clrDue := clr } }

theorem wit_HealthMap : (stripDev [1] false).ins.strips.find? (fun q => q.ctxs.all (fun c => q.done.contains c)) = none ∧
    (stripDev [1, 0] false).ins.strips.find? (fun q => q.ctxs.all (fun c => q.done.contains c)) = some (aStrip [1, 0]) ∧
    ((aStrip [1, 0]).results.map (fun e => e.1)).Nodup ∧ (stripDev [1, 0] false).ins.clrDue = false ∧
    InsCtrl.hmClr.of (0 : BitVec 32) = 0 ∧ InsCtrl.hmClr.of (0xFFFFFFFF : BitVec 32) = 1 ∧ InsCap.go.of (0 : BitVec 32) = 0 ∧
    InsCap.go.of (0xFFFFFFFF : BitVec 32) = 1 ∧ ((5 : Int).natAbs ≤ 5) ∧ (1 ≤ 3) := by decide +kernel

/-- R357 with MISS_N 3 and GOOD_N 2: three misses in a row make a nozzle dead, two good results make it good again. -/
theorem test_healthStep :
    let miss := fun h => healthStep 3 2 5 0 h 1 0 0 0
    let good := fun h => healthStep 3 2 5 0 h 4 0 0 0
    (miss (miss Health.reset)).state = 0 ∧ (miss (miss (miss Health.reset))).state = 3 ∧ (good (miss (miss (miss Health.reset)))).state = 3 ∧
    (good (good (miss (miss (miss Health.reset))))).state = 0 := by decide +kernel

/-- String 3 on, of a type, at a level, with the pulse as given; the chain has an image shifted or none. -/
def lampDev (type t0 : Nat) (pulse : Option (Nat × Nat × Nat)) (shifted : Option Nat) : State :=
  setAll [(LmpCfg.type, 3, type), (LmpCfg.en, 3, 1), (LmpCfg.diagEn, 3, 1), (LmpCfg.prbEn, 3, 1), (LmpStat.on, 3, 1), (LmpLevel.t0, 3, t0),
      (LmpDiagmin.v, 3, 10)]
    { soloDev with light := { LightSt.reset with lamps := LightSt.reset.lamps.set 3 { Lamp.reset with pulse := pulse }, shifted := shifted } }

theorem wit_Lamps : standbyDev.mayAssert = false ∧ (lampDev 0 0 none none).mayAssert = true ∧ (lampDev 0 0 none none).light.shifted = none ∧
    (lampDev 0 2000 none none).isPulse 3 = false ∧ (lampDev 0 2000 none none).lampLit 3 = true ∧ (lampDev 0 0 none none).light.latched < 2 ^ 256 ∧
    (lampDev 0 0 none none).get LmpGstat.count 0 ≠ 254 ∧ (lampDev 0 0 none (some 5)).light.shifted = some 5 ∧
    (lampDev 1 0 (some (0, 400000001, 50)) (some 5)).inPulse 3 = true ∧
    toggled (lampDev 1 0 (some (0, 400000001, 50)) (some 5)).light.latched 5 3 ≠ [] ∧
    (lampDev 1 0 (some (0, 300000000, 50)) (some 5)).inPulse 3 = false ∧ (lampDev 0 0 none (some 5)).light.clean = true ∧
    (setAll [(LmpCfg.diagEn, 3, 0)] soloDev).flag LmpCfg.diagEn 3 = false ∧ (lampDev 0 2000 none none).flag LmpCfg.diagEn 3 = true ∧
    (lampDev 0 2000 none none).flag LmpStat.on 3 = true ∧ (lampDev 0 0 none none).lampTarget 3 < (lampDev 0 0 none none).get LmpDiagmin.v 3 ∧
    (lampDev 0 2000 none none).get LmpDiagmin.v 3 ≤ (lampDev 0 2000 none none).lampTarget 3 ∧ (lampDev 0 2000 none none).lampTarget 3 = 2000 ∧
    ((lampDev 1 0 (some (1000, 3000, 50)) none).lamp 3).pulse = some (1000, 3000, 50) ∧ (lampDev 1 0 none none).isPulse 3 = true ∧
    (lampDev 0 0 none none).flag LmpCfg.prbEn 3 = true ∧ (setAll [(LmpStat.on, 3, 0)] soloDev).flag LmpStat.on 3 = false := by decide +kernel

theorem wit_Lamps_shaped : (lampDev 1 0 (some (1000, 3000, 50)) (some 5)).shaped := by decide

/-- R373: OPEN at the limit of the sink with a low current; SHORT by the lit segments' lowest drop; neither. -/
theorem wit_LampChecks :
    let s := setAll [(LeOut.v, 131, soloDev.get LeOmax.v 131)] (lampDev 0 2000 none none)
    let w := setAll [(LmpVfmin.v, 3, 3000), (LmpVdiv.v, 3, 12288)] { lampDev 0 2000 none none with light := { LightSt.reset with latched := 0 } }
    s.get LeOut.v (128 + 3) = s.get LeOmax.v (128 + 3) ∧ 2 * (999 % 4096) < s.lampTarget 3 ∧ w.lampTarget 3 ≤ 2 * (1000 % 4096) ∧
    w.stringUv 3 (10 % 4096) < 1000 * w.litCount 3 * w.get LmpVfmin.v 3 ∧ 1000 * w.litCount 3 * w.get LmpVfmin.v 3 ≤ w.stringUv 3 (4000 % 4096) := by
  decide +kernel

theorem wit_LampStale : (setAll [(LmpStat.stale, 3, 0)] (lampDev 0 0 none none)).flag LmpStat.stale 3 = false ∧
    (lampDev 0 0 none none).flag LmpCfg.en 3 = true ∧ (setAll [(LmpStat.stale, 3, 1)] soloDev).flag LmpStat.stale 3 = true ∧
    LmpCtrl.clr.of (0 : BitVec 32) = 0 ∧ LmpCtrl.clr.of (0xFFFFFFFF : BitVec 32) = 1 ∧
    (setAll [(LmpCfg.en, 3, 0)] soloDev).flag LmpCfg.en 3 = false := by decide +kernel

def patV (strings start bits : Nat) : Word := BitVec.ofNat 32 (strings * 2 ^ PatCtrl.strings.lo + start * 2 ^ PatCtrl.start.lo + bits)

/-- Engine 1 owns strings 3 and 4 and stands at step 5 in state `st`; the words of steps 5 and 6 as given. -/
def patDev (st w0 w1 nxt : Nat) : State :=
  setAll [(PatStat.state, 1, st), (PatStat.step, 1, 5), (PatStep.v, 128 + 10, w0), (PatStep.v, 128 + 11, w1), (PatStep.v, 128 + 12, nxt)]
    { soloDev with light := { LightSt.reset with engines := LightSt.reset.engines.set 1 { Pattern.reset with strings := 24 } } }

theorem wit_Patterns : PatCtrl.stop.of (patV 24 5 (2 ^ PatCtrl.run_.lo)) = 0 ∧ PatCtrl.run_.of (patV 24 5 (2 ^ PatCtrl.run_.lo)) = 1 ∧
    PatCtrl.strings.of (patV 24 5 (2 ^ PatCtrl.run_.lo)) = 24 ∧ (lampDev 1 0 none none).patRefused 1 24 = true ∧
    (patDev 0 2 0 0).patRefused 1 24 = false ∧ PatCtrl.start.of (patV 24 5 (2 ^ PatCtrl.run_.lo)) = 5 ∧
    2 ≤ (patDev 0 2 0 0).patWord 1 5 0 % 16 ∧ PatCtrl.stop.of (patV 0 0 (2 ^ PatCtrl.stop.lo)) = 1 ∧ PatCtrl.run_.of (patV 0 0 (2 ^ PatCtrl.stop.lo)) = 0 ∧
    ((patDev 1 2 0 0).pattern 1).list = [3, 4] ∧ (patDev 0 2 0 0).get PatStat.state 1 = 0 ∧ (patDev 1 3 0 4).get PatStat.state 1 = 1 ∧
    (5 : Nat) = (patDev 1 3 0 4).get PatStat.step 1 ∧ (3 : Nat) = (patDev 1 3 0 4).patWord 1 5 0 % 16 ∧
    (4 : Nat) = (patDev 1 3 0 4).patWord 1 (5 + 1) 0 % 16 ∧ (2 : Nat) = (patDev 1 2 0 4).patWord 1 5 0 % 16 ∧
    (patDev 1 5 0 0).patWord 1 5 0 / 2 ^ 16 % 2 ^ 12 = 0 ∧ (patDev 1 6 0 0).patWord 1 5 1 = 0 := by decide +kernel

theorem wit_Patterns_shaped : (patDev 1 3 0 4).shaped := by decide

/-! ### Axes, maintenance, the memory controller -/

/-- Axis 2 enabled, its record as given; speed limits as after reset. -/
def axDev (x : Axis) : State :=
  setAll [(AxCfg.en, 2, 1), (AxVmax.v, 2, 1000), (AxDec.v, 2, 640000), (AxAcc.v, 2, 640000), (AxDecEmerg.v, 2, 1280000), (AxCfg.limEn, 2, 1)]
    { soloDev with mot := { MotionSt.reset with axes := MotionSt.reset.axes.set 2 x } }

def lowLimit (s : State) : State := { s with pins := { s.pins with limP := s.pins.limP.set 2 false } }

/-- At rest, at speed, stopping in an emergency, with a target due or in force, homing. -/
theorem wit_Axes : (stage 3 .imageLoad State.reset).operating = false ∧ (axDev Axis.reset).operating = true ∧ (axDev Axis.reset).get AxCfg.en 2 = 1 ∧
    ((axDev { Axis.reset with stop := 2, v := 5000000 }).axis 2).stop = 2 ∧
    (axDev { Axis.reset with stop := 2, v := 5000000 }).get AxDecEmerg.v 2 < ((axDev { Axis.reset with stop := 2, v := 5000000 }).axis 2).v.natAbs ∧
    ((axDev { Axis.reset with stop := 2, v := 500 }).axis 2).v.natAbs ≤ (axDev { Axis.reset with stop := 2, v := 500 }).get AxDecEmerg.v 2 ∧
    ((axDev { Axis.reset with due := some 100 }).axis 2).due = some 100 ∧
    ((lowLimit (axDev Axis.reset)).limitLow 2 true = true ∧ (lowLimit (axDev Axis.reset)).axPos 2 < 100) ∧
    (axDev Axis.reset).limitLow 2 true = false ∧ (axDev Axis.reset).limitLow 2 false = false ∧ (axDev Axis.reset).flag AxStat.drvFault 2 = false ∧
    (setAll [(AxStat.drvFault, 2, 1)] (axDev Axis.reset)).flag AxStat.drvFault 2 = true ∧ (axDev Axis.reset).flag AxStat.safeStop 2 = false ∧
    (axDev Axis.reset).flag AxStat.hold 2 = false ∧ (axDev Axis.reset).flag AxCfg.profile 2 = false ∧
    ((axDev { Axis.reset with due := some 100 }).axis 2).stepFrom ≤ (axDev Axis.reset).ft ∧
    ((axDev { Axis.reset with due := some 100 }).axis 2).negative = decide ((100 : Int) < (axDev Axis.reset).axPos 2) ∧
    (100 : Int) ≠ (axDev Axis.reset).axPos 2 ∧ 1 ≤ (axDev Axis.reset).axDec 2 := by decide +kernel

theorem wit_Axes_shaped : (axDev { Axis.reset with due := some 100 }).shaped := by decide

/-- The axis at 8,000,000 units (10 microsteps per second) towards a goal: one behind, one for which DEC is too little and DEC_EMERG enough. -/
def cruising (v g : Int) : State := axDev { Axis.reset with v := v, goal := some g }

theorem wit_AxisBrake : 0 < ((cruising 8000000 (-5)).axis 2).v ∧ (-5 : Int) < ((cruising 8000000 (-5)).advanceAxis 2).axPos 2 ∧
    (let s := cruising (2 ^ 30) 1
     let d := ((1 - (s.advanceAxis 2).axPos 2) * 2 ^ 32 - ((s.advanceAxis 2).axis 2).phase).toNat
     0 < d ∧ (d : Int) = (1 - (s.advanceAxis 2).axPos 2) * 2 ^ 32 - ((s.advanceAxis 2).axis 2).phase ∧
     s.axDec 2 * (640000000000 * d) < (s.axis 2).v.natAbs * (s.axis 2).v.natAbs * 2 ^ 31 ∧
     (s.axis 2).v.natAbs * (s.axis 2).v.natAbs * 2 ^ 31 ≤ s.get AxDecEmerg.v 2 * (640000000000 * d)) := by decide +kernel

theorem wit_AxisHoming : ((axDev { Axis.reset with homing := some (1, 1, 2 ^ 32) }).axis 2).homing = some (1, 1, 2 ^ 32) ∧
    (axDev Axis.reset).aborting 4 2 = false ∧ (axDev Axis.reset).gateOpen = (axDev Axis.reset).flag MntStat.gate 0 ∧
    (setAll [(AxStat.owned, 2, 1)] (axDev Axis.reset)).flag AxStat.owned 2 = true ∧ (axDev Axis.reset).flag AxStat.owned 2 = false ∧
    (setAll [(AxHome.seq, 2, 6)] (axDev Axis.reset)).get AxHome.seq 2 = 6 ∧ (setAll [(AxHome.seq, 2, 5)] (axDev Axis.reset)).get AxHome.seq 2 = 5 ∧
    ((axDev { Axis.reset with homing := some (4, 1, 0), v := 1 }).axis 2).latch = none ∧
    ((axDev { Axis.reset with homing := some (3, 2, 0) }).axis 2).homing = some (3, 2, 0) ∧ (3 : Nat) = (if false then 4 else 3) ∧
    (4 : Nat) = (if true then 4 else 3) ∧ (axDev Axis.reset).pins.limN.getD 2 true = true ∧
    (axDev Axis.reset).flag AxCfg.limEn 2 = true ∧ soloDev.flag AxCfg.en 2 = false ∧
    (∀ k, k < 4 → (axDev Axis.reset).pins.safeInN.getD k true = true) ∧ (axDev Axis.reset).mayAssert = true ∧
    (∃ j, j < 4 ∧ (setAll [(AxCfg.safeMask, 2, 1)] (axDev Axis.reset)).get AxCfg.safeMask 2 / 2 ^ j % 2 = 1 ∧ j = 0) := by decide +kernel

def axCmd (f : Fld) : Word := BitVec.ofNat 32 (2 ^ f.lo)

theorem wit_AxCmd : AxCmd.stop.of (axCmd AxCmd.stop) = 1 ∧ AxCmd.abort.of (axCmd AxCmd.stop) = 0 ∧ AxCmd.clr.of (axCmd AxCmd.stop) = 0 ∧
    AxCmd.abort.of (axCmd AxCmd.abort) = 1 ∧ AxCmd.clr.of (axCmd AxCmd.abort) = 0 ∧ AxCmd.home.of (axCmd AxCmd.home) = 1 ∧
    AxCmd.stop.of (axCmd AxCmd.home) = 0 ∧ AxCmd.abort.of (axCmd AxCmd.home) = 0 ∧ AxCmd.clr.of (axCmd AxCmd.clr) = 1 ∧
    AxCmd.home.of (axCmd AxCmd.clr) = 0 ∧ AxCmd.stop.of (axCmd AxCmd.clr) = 0 ∧ AxCmd.abort.of (axCmd AxCmd.clr) = 0 ∧
    AxCmd.clr.of (axCmd AxCmd.home) = 0 ∧ (∀ k, k < 4 → [true, true, true, true].getD k true = true) := by decide

def anActivity (begun stopping : Bool) (aborting : Option Nat) : Activity :=
  { num := 3, step := 5, begun := begun, since := 0, stopping := stopping, aborting := aborting, replies := [], failed := false, loops := [],
    posted := none, released := false }

/-- Activity 3 runs at step 5, whose words are given; it is valid and starts at step 4. -/
def mntDev (x : Activity) (w0 w1 : Nat) : State :=
  setAll [(MntStat.running, 0, 8), (MntAct.valid, 2, 1), (MntAct.start, 2, 4), (MntAct.valid, 4, 1), (MntStep.v, 128 * 2 + 10, w0), (MntStep.v, 128 * 2 + 11, w1)]
    { soloDev with mot := { MotionSt.reset with acts := [x] } }

def mntCmd (op act : Nat) : Word := BitVec.ofNat 32 (op * 2 ^ MntCmd.op.lo + act * 2 ^ MntCmd.act.lo)

theorem wit_MntCmd : MntCmd.op.of (mntCmd 2 16) = 2 ∧ MntCmd.act.of (mntCmd 2 16) = 16 ∧ MntCmd.act.of (mntCmd 0 17) = 17 ∧ MntCmd.op.of (mntCmd 3 1) = 3 ∧
    MntCmd.op.of (mntCmd 0 3) = 0 ∧ MntCmd.act.of (mntCmd 0 3) ∈ (mntDev (anActivity false false none) 0 0).runningActs ∧
    MntCmd.act.of (mntCmd 0 5) ∉ (mntDev (anActivity false false none) 0 0).runningActs ∧ soloDev.act 3 = none ∧ soloDev.mot.print = false ∧
    soloDev.calState = calIdle ∧ soloDev.get MntAct.valid 2 = 0 ∧ (mntDev (anActivity false false none) 0 0).get MntAct.valid 4 = 1 ∧
    (setAll [(MntExcl.v, 4, 4)] (mntDev (anActivity false false none) 0 0)).runningActs.find?
      (fun b => (setAll [(MntExcl.v, 4, 4)] (mntDev (anActivity false false none) 0 0)).excludes 5 b) = some 3 ∧
    (∀ b ∈ (mntDev (anActivity false false none) 0 0).runningActs, (mntDev (anActivity false false none) 0 0).excludes 5 b = false) ∧
    (∀ b ∈ (setAll [(MntPrintExcl.v, 0, 0)] (mntDev (anActivity false false none) 0 0)).runningActs,
      (setAll [(MntPrintExcl.v, 0, 0)] (mntDev (anActivity false false none) 0 0)).excludes 0 b = false) ∧
    (mntDev (anActivity false false none) 0 0).badStrings 5 = false ∧
    (setAll [(LmpCfg.type, 0, 1), (MntActLamp.v, 4, 1)] soloDev).badStrings 5 = true ∧ soloDev.get RstStatus.state 0 ≠ 2 ∧
    (setAll [(RstStatus.state, 0, 2)] soloDev).get RstStatus.state 0 = 2 ∧
    (mntDev (anActivity false false (some 7)) 0 0).act 3 = some (anActivity false false (some 7)) ∧
    (mntDev (anActivity false false none) 0 0).aborting 5 3 = false := by decide +kernel

/-- A step DONE, one that waits, one that failed and the step words of every operation. -/
theorem wit_MntSteps : standbyDev.operating = true ∧ (mntDev (anActivity false false none) 0 0).spUp 3 = true ∧
    (mntDev (anActivity false false none) 0 0).get MntCtrl.mode 0 = 0 ∧ (mntDev (anActivity false false none) 1 9).stepWord 3 5 0 % 16 = 1 ∧
    (mntDev (anActivity true false none) 5 1000000).stepDone (anActivity true false none) = false ∧
    (mntDev (anActivity true false none) 5 1000000).stepFailed (anActivity true false none) = false ∧
    (mntDev (anActivity true true none) 5 0).stepDone (anActivity true true none) = true ∧
    (mntDev (anActivity true false none) (1 + 0x80) 9).stepFailed (anActivity true false none) = true ∧ soloDev.ownedBy 3 = [] ∧
    (mntDev (anActivity true false none) (7 + 0x10) 0).stepWord 3 5 0 / 2 ^ 12 % 2 ^ 16 = 0 ∧
    0 < (mntDev (anActivity true false none) (7 + 0x1010) 0).stepWord 3 5 0 / 2 ^ 12 % 2 ^ 16 ∧
    ({ soloDev with sps := [true, true, true, false] } : State).spUp 3 = false ∧
    (setAll [(LmpCfg.type, 0, 0)] { mntDev (anActivity false false none) 3 5 with
      light := { LightSt.reset with lamps := LightSt.reset.lamps.set 0 { Lamp.reset with activity := some 3 } } }).stepWord 3 5 0 % 16 = 3 ∧
    (mntDev (anActivity false false none) 6 0).stepWord 3 5 0 % 16 = 6 ∧ 8 ≤ (mntDev (anActivity false false none) 9 0).stepWord 3 5 0 % 16 := by
  decide +kernel

theorem wit_Mnt_shaped : (mntDev (anActivity false false none) 1 9).shaped := by decide

def mntHost : State := setAll [(MntCtrl.mode, 0, 1)] (mntDev { anActivity false false none with posted := some 6 } 5 0)

theorem wit_MntHost : mntHost.acting = true ∧ mntHost.get MntCtrl.mode 0 = 1 ∧ soloDev.get MntCtrl.mode 0 = 0 ∧
    mntHost.mot.acts.find? (fun x => x.posted == some (MntHgo.seq.of (6 : BitVec 32)) && !x.released && x.aborting.isNone) =
      some { anActivity false false none with posted := some 6 } ∧
    mntHost.mot.acts.find? (fun x => x.posted == some (MntHgo.seq.of (7 : BitVec 32)) && !x.released && x.aborting.isNone) = none := by decide +kernel

/-- Axis 0 homed in the print window with PRINT running, the gate register open or shut. -/
def gateDev (gate pos : Nat) : State :=
  setAll [(AxStat.homed, 0, 1), (MntPwinMax.v, 0, 50), (MntStat.gate, 0, gate), (AxPosLo.v, 0, pos)]
    { soloDev with mot := { MotionSt.reset with print := true } }

theorem wit_Gate : (gateDev 0 50).gateOpen = true ∧ (gateDev 1 51).gateOpen = false ∧ (gateDev 1 51).flag MntStat.gate 0 = true ∧
    (gateDev 0 50).flag MntStat.gate 0 = false ∧ (gateDev 1 50).flag MntStat.gate 0 = (gateDev 1 50).gateOpen := by decide +kernel

def mcDev (writes : List (Nat × Nat)) : State :=
  { soloDev with mc := { MemCtlSt.reset with writes := MemCtlSt.reset.writes.set 3 writes, banks := [(5, { Bank.reset with rows := [(77, 4)] })] } }

theorem wit_McWrites : ((mcDev [(3, 499999999)]).mc.writes.getD 3 []).length < 48 ∧
    (∀ e ∈ (mcDev [(3, 499999999)]).mc.writes.getD 3 [], (mcDev []).now - e.2 ≤ 500 * (mcDev []).orReset McCtrl.wage) ∧
    48 ≤ ((mcDev (List.replicate 48 (3, 499999999))).mc.writes.getD 3 []).length ∧
    (∃ e ∈ (mcDev [(3, 0)]).mc.writes.getD 3 [], 500 * (mcDev []).orReset McCtrl.wage < (mcDev []).now - e.2) := by decide +kernel

theorem wit_Mc_shaped : (mcDev [(3, 0)]).shaped := by decide

theorem wit_McSpare : McSpare.mark.of (0 : BitVec 32) = 0 ∧ McSpare.mark.of (BitVec.ofNat 32 (2 ^ McSpare.mark.lo)) = 1 ∧
    McSpare.dev.of (BitVec.ofNat 32 (2 ^ McSpare.mark.lo)) ≤ 4 ∧ 4 < McSpare.dev.of (0xFFFFFFFF : BitVec 32) ∧ soloDev.erased 3 0 = false ∧
    (setAll [(McSpare.erased0, 3, 1)] soloDev).erased 3 0 = true ∧ Tab.get 0 soloDev.mc.pass 33 + 1 < max 1 (soloDev.get McSpareCfg.thresh 0) ∧
    max 1 ((setAll [(McSpareCfg.thresh, 0, 0)] soloDev).get McSpareCfg.thresh 0) ≤ Tab.get 0 soloDev.mc.pass 33 + 1 := by decide +kernel

theorem wit_McUe : soloDev.page 3 = none ∧ soloDev.bandLine 0 = none ∧ soloDev.get McCntUe.count 0 < 2 ^ 31 - 2 ∧ soloDev.rst.stretch = false ∧
    soloDev.twin.faultHold = none ∧ soloDev.role ≠ roleActive ∧ soloDev.operating = true ∧
    ({ soloDev with pages := [storedPage] } : State).page 3 = some storedPage ∧ storedPage.stripe 0 = some rasStripe ∧
    ({ soloDev with pages := [storedPage], scr := { ScreenSt.reset with ring := [(0, ⟨0, 3, 0, [(0, 3)], false⟩)] } } : State).bandLine 0 =
      some ⟨0, 3, 0, [(0, 3)], false⟩ := by decide +kernel

theorem wit_McScrub : (setAll [(McCtrl.scrubEn, 0, 0)] soloDev).flag McCtrl.scrubEn 0 = false ∧ soloDev.get McStat.state 0 = 2 ∧
    (setAll [(McCtrl.scrubEn, 0, 1)] soloDev).flag McCtrl.scrubEn 0 = true ∧
    soloDev.get64 McScrubPosLo.v McScrubPosHi.v 0 + 64 < soloDev.managedBytes ∧
    (let s := setAll [(McScrubPosHi.v, 0, 15), (McScrubPosLo.v, 0, 2 ^ 32 - 64)] soloDev
     s.managedBytes ≤ s.get64 McScrubPosLo.v McScrubPosHi.v 0 + 64) := by decide +kernel

theorem wit_McRows : (Tab.get Bank.reset (mcDev []).mc.banks 5).entries.findIdx? (fun e => e.1 == 77 && e.2 != 0) = some 0 ∧
    ((Tab.get Bank.reset (mcDev []).mc.banks 5).entries.getD 0 (0, 0)).2 + 1 < (mcDev []).orReset McHammer.actThresh ∧
    (let s := setAll [(McHammer.actThresh, 0, 5)] (mcDev [])
     s.orReset McHammer.actThresh ≤ ((Tab.get Bank.reset s.mc.banks 5).entries.getD 0 (0, 0)).2 + 1) ∧
    Tab.rising (mcDev []).mc.banks = true ∧ (Tab.get Bank.reset ({ soloDev with mc := { MemCtlSt.reset with banks :=
      [(5, { Bank.reset with fallback := true })] } } : State).mc.banks 5).fallback = true := by decide +kernel

theorem wit_McStates : (setAll [(RstStatus.state, 0, 2)] soloDev).get RstStatus.state 0 = 2 ∧ (∀ q ∈ soloDev.mc.writes, q = []) ∧
    (∃ q ∈ (mcDev [(3, 0)]).mc.writes, q ≠ []) ∧ (setAll [(McStat.state, 0, 3)] soloDev).get McStat.state 0 = 3 ∧
    (setAll [(McStat.state, 0, 4)] soloDev).get McStat.state 0 = 4 ∧ ((1 : Int).natAbs ≤ 1) ∧ (1 < (-2 : Int).natAbs) ∧
    McCtrl.retrain.of (0 : BitVec 32) = 0 ∧ McCtrl.retrain.of (0xFFFFFFFF : BitVec 32) = 1 ∧ soloDev.solo = true ∧ standbyDev.solo = false := by
  decide +kernel

/-! ### Twins -/

/-- A twin in a role, UNFIT as given, whose partner sent this heartbeat. -/
def twinDev (role unfit : Nat) (partner : Option (List Nat)) : State :=
  setAll [(TwStat.unfit, 0, unfit), (TwStat.partnerOk, 0, if partner.isSome then 1 else 0), (TwPstat.unfit, 0, 0)]
    { dev role 1 with twin := { TwinSt.reset with partner := partner, step8 := some 400000000 } }

def heardBeat (role unfit : Nat) : List Nat := [role, 0, 1, 6, unfit, 0, 0, 0]

theorem wit_TwinFrames : soloDev.solo = true ∧ (twinDev 1 0 none).solo = false ∧ Rx.error ⟨true, true⟩ = true ∧ Rx.crcOk ⟨false, false⟩ = false ∧
    Tab.find ({ standbyDev with twin := { TwinSt.reset with rxSeq := [(4, 9)] } } : State).twin.rxSeq 4 = some 9 ∧ 12 ≠ (9 + 1) % 2 ^ 32 ∧
    (twinDev 0 0 none).twin.step8.isSome = true ∧ (twinDev 1 0 none).negotiating = false ∧ standbyDev.twin.step8 = none := by decide +kernel

/-- The first message of a TYPE is taken, and so is the next in sequence. -/
theorem wit_ColTaken : ColTaken standbyDev 4 7 goodRx ∧ ColTaken ({ standbyDev with twin := { TwinSt.reset with rxSeq := [(4, 9)] } } : State) 4 10 goodRx := by
  refine ⟨⟨by decide +kernel, rfl, rfl, fun q h => ?_⟩, ⟨by decide +kernel, rfl, rfl, fun q h => ?_⟩⟩
  · cases h
  · have : q = 9 := (Option.some.inj h).symm
    subst this; rfl

def beat (role unfit pref node cc : Nat) : Heartbeat := { role := role, epoch := 0, pref := pref, nodeId := node, unfit := unfit, ft := 0, cc := cc, line := 0 }

/-- SUMMIT unfits a start; NOT_RUN does not. Equal preferences are decided by the node IDs 5 and 6; equal IDs clash. -/
theorem wit_Negotiate : (twinDev 0 1 none).role = roleNone ∧ startMask ((twinDev 0 1 none).get TwStat.unfit 0) = 0 ∧
    startMask ((twinDev 0 64 none).get TwStat.unfit 0) ≠ 0 ∧ startMask (beat 0 64 1 6 0).unfit ≠ 0 ∧ startMask (beat 0 0 1 6 0).unfit = 0 ∧
    (beat 0 0 1 6 0).role ≠ roleActive ∧ (beat 1 0 1 6 0).role = roleActive ∧ (beat 2 0 1 6 4).role = roleStandby ∧ (beat 2 0 1 6 4).cc ≠ 0 ∧
    (twinDev 0 1 none).img.ob = some (optBlock 1) ∧ (optBlock 1).twinPref = (beat 0 0 1 6 0).pref ∧ (optBlock 1).nodeId < (beat 0 0 1 6 0).nodeId ∧
    (beat 0 0 1 4 0).nodeId < (optBlock 1).nodeId ∧ (optBlock 1).nodeId = (beat 0 0 1 5 0).nodeId ∧ (optBlock 1).twinPref = 1 ∧ (beat 0 0 0 6 0).pref ≠ 1 ∧
    (dev 0 2).img.ob = some (optBlock 2) ∧ (optBlock 2).twinPref = 2 ∧ (beat 0 0 1 6 0).pref < 2 ∧ (twinDev 0 64 none).twin.noneFit = false ∧
    (twinDev 0 0 none).twin.clash = false := by decide +kernel

/-- PAGES is tolerable alone and SUMMIT is not. -/
theorem wit_PartnerWait : (twinDev 0 0 none).role = roleNone ∧ (twinDev 0 0 none).negotiating = false ∧ (twinDev 0 0 none).rst.psKept = false ∧
    tolerable ((twinDev 0 64 none).get TwStat.unfit 0) = false ∧ tolerable ((twinDev 0 8 none).get TwStat.unfit 0) = true ∧
    (twinDev 0 8 none).pins.fenceInN = true ∧ (twinDev 0 8 (some (heardBeat 0 64))).negotiating = true ∧
    ((twinDev 0 8 (some (heardBeat 0 64))).twin.partner.getD []).getD 0 0 ≠ roleActive ∧
    startMask ((twinDev 0 8 (some (heardBeat 0 64))).get TwStat.unfit 0) ≠ 0 ∧
    startMask (((twinDev 0 8 (some (heardBeat 0 64))).twin.partner.getD []).getD 4 0) ≠ 0 ∧
    tolerable (((twinDev 0 8 (some (heardBeat 0 64))).twin.partner.getD []).getD 4 0) = false ∧
    ((twinDev 0 8 (some (heardBeat 1 0))).twin.partner.getD []).getD 0 0 = roleActive ∧
    (twinDev 0 8 (some (heardBeat 1 0))).negotiating = true := by decide +kernel

/-- The partner heard, one or two heartbeats missing (the register's own count acts as 2), and lost. -/
def missDev (role misses : Nat) : State :=
  let s := twinDev role 0 (some (heardBeat 1 0))
  { s with twin := { s.twin with misses := misses, partnerLost := true } }

theorem wit_Miss : (twinDev 2 0 none).twin.partner = none ∧ (missDev 2 0).twin.partner.isSome = true ∧ (missDev 2 0).solo = false ∧
    (missDev 2 0).twin.misses + 1 < (missDev 2 0).missN ∧ (missDev 2 3).missN ≤ (missDev 2 3).twin.misses + 1 ∧
    (missDev 2 3).role = roleStandby ∧ (setAll [(TwCtrl.auto, 0, 1)] (missDev 2 3)).flag TwCtrl.auto 0 = true ∧ (missDev 2 3).pins.fenceInN = true ∧
    (setAll [(TwCtrl.auto, 0, 0)] (missDev 2 3)).flag TwCtrl.auto 0 = false ∧ (missDev 1 3).role = roleActive ∧ (missDev 1 3).twin.partnerLost = true ∧
    (twinDev 1 0 (some (heardBeat 2 0))).twin.partnerLost = false ∧ (missDev 1 3).get TwCntHbmiss.count 0 < 2 ^ 31 - 2 ∧
    (missDev 2 3).get TwStat.unfit 0 = 0 ∧ (twinDev 2 1 none).get TwStat.unfit 0 ≠ 0 := by decide +kernel

def heldFault : State := { activeDev with twin := { TwinSt.reset with faultHold := some (14, 1, []) } }
def planned (b : Bool) : State := { activeDev with twin := { TwinSt.reset with plan := some (b, 100) } }

theorem wit_Plan : heldFault.twin.faultHold = some (14, 1, []) ∧ heldFault.rst.stretch = false ∧ keyOk (0x71280000 : BitVec 32) = true ∧
    keyOk (0 : BitVec 32) = false ∧ TwCmd.plan.of (BitVec.ofNat 32 (0x71280000 + 2 ^ TwCmd.plan.lo)) = 1 ∧
    keyOk (BitVec.ofNat 32 (0x71280000 + 2 ^ TwCmd.plan.lo)) = true ∧ TwCmd.plan.of (0x71280000 : BitVec 32) = 0 ∧
    (twinDev 1 0 (some (heardBeat 2 0))).partnerFit = true ∧ (twinDev 1 0 none).partnerFit = false ∧ (twinDev 1 0 none).twin.plan = none ∧
    (planned false).twin.plan = some (false, 100) ∧ (planned false).role = roleActive ∧ (planned false).solo = false ∧
    (∀ x ∈ (planned false).mot.axes, x.v = 0) ∧ (planned true).twin.plan = some (true, 100) ∧
    ({ activeDev with twin := { TwinSt.reset with handed := some 5 } } : State).twin.handed.isSome = true ∧ 100 + 50000000 ≤ (planned false).now := by
  decide +kernel

theorem wit_Shadow : standbyDev.follows = true ∧ activeDev.follows = false ∧ (dev 4 1).follows = true ∧ standbyDev.twin.earlyAcks = [] ∧
    standbyDev.page 3 = none ∧ activeDev.solo = false ∧ standbyDev.role ≠ roleActive ∧ standbyDev.twin.applied = none ∧
    (let s : State := { standbyDev with twin := { TwinSt.reset with applied := some 1, appliedAt := 499950001 } }
     s.twin.applied.isSome = true ∧ s.now < s.twin.appliedAt + 50000) ∧
    (let s : State := { standbyDev with twin := { TwinSt.reset with summit := { TwinSt.reset.summit with running := true, requested := true, partner := some true } } }
     s.twin.summit.running = true ∧ s.twin.summit.partner.isSome = true ∧ s.twin.summit.requested = true) ∧
    (let s : State := { standbyDev with twin := { TwinSt.reset with summit := { TwinSt.reset.summit with requested := true, mine := some true } } }
     s.twin.summit.mine = some true ∧ s.twin.summit.requested = true ∧ s.get TwStat.unfit 0 = 0 ∧ s.pins.fenceInN = true) ∧
    standbyDev.twin.summit.mine = none ∧ (twinDev 2 512 none).unfitBit unfitResync = true ∧ standbyDev.unfitBit unfitResync = false := by decide +kernel

def aCairn : Cairn :=
  { cc := 5, slots := [⟨144, [0, 0, 0], [0, 0, 0], 9, false, 2⟩], x := 0, hwm := none, fpeMode := 1, vel := 0, encoder := 0, axes := [(7, none, true)], acts := [],
    print := false, lamps := [], patterns := [], pgNext := 0, pages := [], record := none, nmGen := 1, ctbGen := 0, insGens := [], tseqs := [],
    health := [], usage := [], epoch := 3, hpStates := [], modes := [] }

theorem wit_Cairn : ({ standbyDev with twin := { TwinSt.reset with cairn := some aCairn } } : State).twin.cairn = some aCairn ∧
    (aCairn.slots.map (fun x => x.slot)).Nodup ∧ (∀ x ∈ aCairn.slots, x.slot < 176) ∧ aCairn.axes[0]? = some (7, none, true) ∧
    (2, 1, 1) ∈ ({ activeDev with twin := { TwinSt.reset with gensCarried := [(2, 1, 1)] } } : State).twin.gensCarried := by decide +kernel

theorem wit_Health : (∃ h : HealthMsg, h.cfgCrc ≠ standbyDev.cfgCrc) ∧ (∃ h : HealthMsg, h.cfgCrc = standbyDev.cfgCrc) ∧ standbyDev.twin.cfgDiff = false :=
  ⟨⟨⟨0, false, 1, 0x100, none, standbyDev.cfgCrc + 1⟩, by simp⟩, ⟨⟨0, false, 1, 0x100, none, standbyDev.cfgCrc⟩, rfl⟩, by decide +kernel⟩

def aJournal (scheds : List JournalSched) : JournalEntry :=
  { line := 3, dec := .fired, scheds := scheds, ports := [(1, 77)], withdrawals := [], coast := false, gate := false, abort := none }

theorem wit_Journal : (aJournal [⟨3, 0, 1, 1, [0]⟩]).scheds = [⟨3, 0, 1, 1, [0]⟩] ∧ standbyDev.page 3 = none ∧
    (∃ p, p < 128 ∧ ((aJournal []).ports.getD p (0, 0)).1 ≠ 0) := by decide +kernel

/-! ### The ring and register access -/

def ringDev (block : Nat) (q : List ReqSt) (src : List ReqSource) : State :=
  setAll [(NetStat.eUp, 0, 1), (NetCtrl.block, 0, block), (NetCtrl.enW, 0, 1), (NetCtrl.heal, 0, 1), (NetCtrl.rstEn, 0, 1), (SysNode.nodeId, 0, 5)]
    { soloDev with net := { NetSt.reset with requests := q, sources := src, wasDown := [false, true] } }

def aRequest (ops : List (Nat × Nat)) : ReqSt := ⟨9, 1, 100, ops, []⟩
def aSource : ReqSource := ⟨9, 1, 60, 0, []⟩

theorem wit_Ring : (ringDev 0 [] []).portUp 0 = true ∧ (ringDev 0 [] []).portUp 1 = false ∧ (ringDev 1 [] []).blocked 0 = true ∧ (ringDev 0 [] []).blocked 0 = false ∧
    (ringDev 0 [] []).blocked 1 = false ∧ (ringDev 0 [] []).net.egress.getD 0 [] = [] ∧ (ringDev 0 [] []).net.busy.getD 0 0 ≤ (ringDev 0 [] []).now ∧
    (ringDev 0 [] []).guarded 0 60 = false ∧ (ringDev 0 [] []).flag NetCtrl.enW 0 = true ∧ (ringDev 0 [] []).net.wasDown.getD 1 false = true ∧
    (ringDev 0 [] []).flag NetCtrl.heal 0 = true ∧ (ringDev 0 [] []).net.wasDown.getD 0 false = false ∧ 7 ≠ (ringDev 0 [] []).mac ∧
    (ringDev 0 [] []).mac = 0x024E5A000005 ∧ 6 ≠ (ringDev 0 [] []).nodeId ∧ 5 = (ringDev 0 [] []).nodeId ∧ (1 : Word) ≠ 0x7128 ∧
    (ringDev 0 [] []).flag NetCtrl.rstEn 0 = true ∧ (ringDev 0 [] []).rst.stretch = false ∧ (ringDev 0 [] []).twin.faultHold = none ∧
    (ringDev 0 [] []).role ≠ roleActive ∧ (ringDev 0 [] []).operating = true := by decide +kernel

theorem wit_Ring_shaped : (ringDev 0 [aRequest [(1, 1)]] []).shaped := by decide

def aRingFrame (body : RingBody) (len : Nat) (ok : Bool) : RingFrame :=
  { fcsOk := ok, errorEnd := false, pause := false, len := len, dst := 0x024E5A000005, src := 9, body := body }

theorem wit_RingFrames : 1518 < (aRingFrame .foreign 1519 true).len ∧ (aRingFrame .foreign 1518 true).len ≤ 1518 ∧ (aRingFrame .foreign 60 false).fcsOk = false ∧
    (aRingFrame (.request 5 false false 9 1 [(1, 1)]) 60 true).dst = (ringDev 0 [] []).mac ∧
    (ringDev 0 [] [aSource]).net.sources.find? (fun x => x.mac == 9) = some aSource ∧ aSource.expected = 1 ∧ opOk (1, 1) = true ∧ opOk (3, 2) = false ∧
    responseBytes [(1, 64)] ≤ 1500 ∧ 1500 < responseBytes (List.replicate 6 (1, 64)) ∧ (ringDev 0 [] []).net.requests = [] ∧ (0 + 1) % 65536 = aSource.expected ∧
    (7 + 1) % 65536 ≠ aSource.expected ∧ (ringDev 0 [] []).net.sources.find? (fun x => x.mac == 9) = none ∧ soloDev.portUp 0 = false ∧
    soloDev.portUp 1 = false := by decide +kernel

/-- SYS_SCRATCH is read and written without any other effect; 2 is no address of the map. -/
theorem wit_RegOps : (ringDev 0 [aRequest [(1, 1), (2, 1)]] []).opStatus 0x14 1 = 0 ∧ (ringDev 0 [aRequest [(1, 1)]] []).opStatus 2 1 ≠ 0 ∧
    (ringDev 0 [aRequest [(1, 1), (2, 1)]] []).net.requests = [aRequest [(1, 1), (2, 1)]] ∧ (aRequest [(1, 1), (2, 1)]).left = (1, 1) :: (2, 1) :: [] ∧
    opOk (2, 1) = true ∧ soloDev.portUp 0 = false ∧ ({ soloDev with net := { NetSt.reset with requests := [aRequest [(3, 1)]], sources := [aSource] } } :
      State).net.requests = [aRequest [(3, 1)]] := by decide +kernel

theorem wit_RegOps_read (s : State) (h : s = ringDev 0 [aRequest [(1, 1), (2, 1)]] []) :
    (s.readWords 0x14 1).1.net = s.net ∧ s.readAddr 0x14 = (s, 0) := by subst h; exact ⟨rfl, rfl⟩

theorem wit_RegOps_write (s : State) (h : s = ringDev 0 [aRequest [(2, 1), (2, 1)]] []) :
    ∃ u, exec (.registerWrite 0x14 5) s = .next u ∧ u.net = s.net := by subst h; exact ⟨_, rfl, rfl⟩

/-- A masked write leaves a write-one-to-clear field alone where the mask has none of it, and writes a field the mask covers. -/
theorem wit_Rmw : TwStat.fenceOut ∈ Reg.twStat.fields ∧ LmpVdiv.v ∈ Reg.lmpVdiv.fields ∧ LmpVdiv.v.of (0xFFFF : BitVec 32) = 2 ^ LmpVdiv.v.width - 1 ∧
    (∃ r : Reg, ∃ f : Fld, f ∈ r.fields ∧ f.acc = .w1c ∧ f.of (0 : BitVec 32) = 0) :=
  ⟨by decide +kernel, by decide +kernel, by decide +kernel, ⟨.prbStat, PrbStat.ovf, by decide +kernel⟩⟩

/-! ### The PTP clock and timed launch -/

def gm : PtpMaster := { data := [128, 6, 0x21, 0x4E5D, 128, 77], steps := 1, source := 77, port := 0 }

/-- The clock in a state, in HOST mode or not, end to end or peer to peer, following `gm` or nothing. -/
def ptpDev (st mode p2p : Nat) (m : Option PtpMaster) : State :=
  setAll [(PtpStat.state, 0, st), (PtpCtrl.mode, 0, mode), (PtpCtrl.delayMech, 0, p2p), (PtpStepNs.v, 0, 1000), (PtpLockNs.v, 0, 100),
      (NetStat.eUp, 0, 1)]
    { soloDev with ptp := { PtpSt.reset with ns := 1000000, master := m, lockRun := 15, answered := false } }

def ptpMsg (two : Bool) (t : Nat) : PtpMsg :=
  { port := 0, domain := soloDev.get PtpCtrl.domain 0, seqId := 4, source := 77, twoStep := two, correction := 0, time := t, mine := true }

/-- An increment of 8 ns, and 9 ns, which is out of range; the host's answer to the measurement posted. -/
theorem wit_PtpInc : incOk (PtpIncInt.ns.of (8 : BitVec 32)) (soloDev.get PtpIncFrac.v 0) = true ∧
    incOk (PtpIncInt.ns.of (9 : BitVec 32)) (soloDev.get PtpIncFrac.v 0) = false ∧ (ptpDev 1 1 0 none).get PtpCtrl.mode 0 = 1 ∧
    (ptpDev 1 0 0 none).get PtpCtrl.mode 0 = 0 ∧ PtpHostSeq.seq.of (0 : BitVec 32) = (ptpDev 1 1 0 none).get PtpMeasSeq.seq 0 ∧
    PtpHostSeq.seq.of (1 : BitVec 32) ≠ (ptpDev 1 1 0 none).get PtpMeasSeq.seq 0 ∧ (ptpDev 1 1 0 none).ptp.answered = false ∧
    soloDev.ptp.answered = true ∧ (ptpDev 1 1 0 none).role ≠ roleStandby := by decide +kernel

/-- The increment's bounds: 500 ppm either side of 8 ns. -/
theorem test_incOk : incOk 7 (34342558499 - 7 * 2 ^ 32) = true ∧ incOk 7 (34342558498 - 7 * 2 ^ 32) = false ∧ incOk 8 (34376918237 - 8 * 2 ^ 32) = true ∧
    incOk 8 (34376918238 - 8 * 2 ^ 32) = false := by decide +kernel

theorem wit_PtpSync : (setAll [(NetCtrl.block, 0, 1)] (ptpDev 1 0 0 (some gm))).blocked 0 = true ∧ (ptpDev 1 0 0 (some gm)).blocked 0 = false ∧
    (setAll [(PtpCtrl.tcEn, 0, 0)] soloDev).flag PtpCtrl.tcEn 0 = false ∧ (setAll [(PtpCtrl.tcEn, 0, 1)] soloDev).flag PtpCtrl.tcEn 0 = true ∧
    (ptpDev 1 0 1 none).flag PtpCtrl.delayMech 0 = true ∧ ((ptpDev 1 0 0 none).passPtp 0 true 0 68).fromMaster (ptpMsg false 0) = false ∧
    (ptpDev 1 0 0 (some gm)).fromMaster (ptpMsg true 0) = true ∧
    2 ≤ ((ptpDev 1 0 0 (some gm)).ptp.ns : Int) + signed 16 ((ptpDev 1 0 0 (some gm)).get PtpAsym.ns 0) ∧
    (ptpDev 1 0 0 (some gm)).spUp 3 = true ∧ (ptpDev 1 0 0 (some gm)).get PtpStepNs.v 0 = 1000 ∧
    ({ ptpDev 1 0 0 (some gm) with ptp := { (ptpDev 1 0 0 (some gm)).ptp with syncWait := some (4, 5, 6) } } : State).ptp.syncWait = some (4, 5, 6) ∧
    (99 : Int).natAbs < (ptpDev 1 0 0 none).get PtpLockNs.v 0 ∧ (ptpDev 1 0 0 none).ptp.lockRun + 1 = 16 ∧ (ptpDev 1 0 0 none).clockState = 1 ∧
    (ptpDev 1 0 0 none).get PtpLockNs.v 0 ≤ (100 : Int).natAbs := by decide +kernel

/-- The offset lies on either side of STEP_NS whatever the stamp's uncertainty of one nanosecond is. -/
theorem wit_PtpSync_step (e : Int) (h : -1 ≤ e ∧ e ≤ 1) :
    1000 < ((1000000 : Int) + e - 0 / 65536 - ((0 : Nat) : Int) - 0).natAbs ∧ ((1000000 : Int) + e - 0 / 65536 - ((1000000 : Nat) : Int) - 0).natAbs ≤ 1000 := by
  obtain ⟨h1, h2⟩ := h
  constructor <;> omega

theorem wit_PtpDelay : (ptpDev 4 0 0 none).clockState = 4 ∧ (ptpDev 4 0 0 none).p2p = false ∧ (ptpMsg false 0).domain = (ptpDev 4 0 0 none).get PtpCtrl.domain 0 ∧
    (ptpDev 1 0 1 none).p2p = true ∧ (ptpMsg false 0).mine = true ∧
    (let s := ptpDev 1 0 0 (some gm)
     let u : State := { s with ptp := { s.ptp with delayReq := some (4, 999000), sync := some (999500, 999600) } }
     u.fromMaster (ptpMsg false 0) = true ∧ u.ptp.delayReq = some ((ptpMsg false 0).seqId, 999000) ∧ u.ptp.sync = some (999500, 999600)) ∧
    (let s := ptpDev 1 0 1 none
     let u : State := { s with ptp := { s.ptp with pdelay := [(4, 999000, some (999100, 999200)), (0, 0, none)] } }
     u.ptp.pdelay.getD 0 (0, 0, none) = ((ptpMsg false 0).seqId, 999000, some (999100, 999200))) := by decide +kernel

theorem wit_Ptp_shaped : (ptpDev 1 0 1 none).shaped := by decide

def anAnnounce (steps : Nat) : PtpAnnounce :=
  { port := 0, domain := soloDev.get PtpCtrl.domain 0, dataset := [0, 6, 0x21, 0x4E5D, 128, 77], steps := steps, source := 77 }

def foreignDev (en : Nat) : State :=
  setAll [(PtpCtrl.masterEn, 0, en)] { ptpDev 0 0 0 none with ptp := { PtpSt.reset with foreign := [(77, soloDev.now)] } }

theorem wit_Announce : (anAnnounce 255).steps ≥ 255 ∧ (anAnnounce 1).steps < 255 ∧ (anAnnounce 1).domain = (ptpDev 0 0 0 none).get PtpCtrl.domain 0 ∧
    (anAnnounce 1).source ≠ (ptpDev 0 0 0 none).mac ∧ (ptpDev 0 0 0 none).ptp.master = none ∧ (∀ x ∈ (ptpDev 0 0 0 none).ptp.foreign, x.1 ≠ 77) ∧
    (77, (foreignDev 1).now) ∈ (foreignDev 1).ptp.foreign ∧ (foreignDev 0).flag PtpCtrl.masterEn 0 = false ∧ (foreignDev 1).flag PtpCtrl.masterEn 0 = true ∧
    (ptpDev 2 0 0 (some gm)).clockState = 2 ∧ (ptpDev 0 0 0 none).clockState ≠ 1 ∧ (ptpDev 0 0 0 none).clockState ≠ 2 := by decide +kernel

/-- priority1 0 of another clock beats this clock's, and this clock's beats 255, whatever the accuracy and the variance of this clock are. -/
theorem wit_Announce_better : betterMaster ⟨(setAll [(PtpPrio.prio1, 0, 9)] (foreignDev 1)).ownDataset, 0, 5, 0⟩ ⟨[0, 6, 0x21, 0x4E5D, 128, 77], 1, 77, 0⟩ = false ∧
    betterMaster ⟨(setAll [(PtpPrio.prio1, 0, 9)] (foreignDev 1)).ownDataset, 0, 5, 0⟩ ⟨[255, 6, 0x21, 0x4E5D, 128, 77], 1, 77, 0⟩ = true :=
  ⟨rfl, rfl⟩

/-- Entry 3 armed for port 0 or 1, to launch 20 microseconds or 12 microseconds from now. -/
def launchDev (st ports ns : Nat) : State :=
  setAll [(TlCtrl.state, 3, st), (TlCtrl.ports, 3, ports), (TlNs.v, 3, ns), (TlCtrl.len, 3, 60)] (ptpDev 1 0 0 none)

theorem wit_Launch : TlCtrl.cancel.of (0 : BitVec 32) = 0 ∧ TlCtrl.cancel.of (BitVec.ofNat 32 (2 ^ TlCtrl.cancel.lo)) = 1 ∧
    TlCtrl.arm.of (BitVec.ofNat 32 (2 ^ TlCtrl.cancel.lo)) = 0 ∧ TlCtrl.arm.of (BitVec.ofNat 32 (2 ^ TlCtrl.arm.lo + 60 * 2 ^ TlCtrl.len.lo)) = 1 ∧
    TlCtrl.len.of (BitVec.ofNat 32 (2 ^ TlCtrl.arm.lo + 60 * 2 ^ TlCtrl.len.lo)) = 60 ∧ TlCtrl.len.of (0 : BitVec 32) < 60 ∧
    1514 < TlCtrl.len.of (BitVec.ofNat 32 (1515 * 2 ^ TlCtrl.len.lo)) ∧ (launchDev 1 1 1020000).get TlCtrl.state 3 = 1 ∧
    (launchDev 0 1 0).get TlCtrl.state 3 ≠ 1 ∧ (launchDev 1 1 1020000).get TlCtrl.ports 3 = 2 ^ 0 ∧ (launchDev 1 2 1020000).get TlCtrl.ports 3 = 2 ^ 1 ∧
    (setAll [(NetCtrl.block, 0, 1)] (launchDev 1 1 0)).blocked 0 = true ∧ (launchDev 1 2 0).blocked 1 = false ∧ (launchDev 1 2 0).portUp 1 = false ∧
    (launchDev 1 1 0).portUp 0 = true ∧ (launchDev 1 1 0).net.launching.getD 0 0 ≤ (launchDev 1 1 0).now ∧
    (launchDev 1 1 1020000).launchNs 3 + 8 < 2 ^ 48 * 1000000000 ∧
    (launchDev 1 1 0).now < ({ launchDev 1 1 0 with net := { NetSt.reset with launching := [500000001, 0] } } : State).net.launching.getD 0 0 := by
  decide +kernel

theorem wit_CrossStamp : (ptpDev 1 0 0 none).rst.qualified.getD 0 false = true ∧ (stage 3 .imageLoad State.reset).rst.qualified.getD 0 false = false ∧
    4 ≤ (ptpDev 1 0 0 none).ptp.ns ∧ (ptpDev 1 0 0 none).ptp.ns + 8 < 2 ^ 48 * 1000000000 ∧
    ({ ptpDev 1 0 0 none with ptp := { PtpSt.reset with stepped := true } } : State).ptp.stepped = true ∧
    (∀ e, e < 16 → (ptpDev 4 0 0 none).get TlCtrl.state e ≠ 1) ∧ (ptpDev 4 0 0 none).net.egress.getD 0 [] = [] ∧
    (ptpDev 4 0 0 none).net.busy.getD 0 0 ≤ (ptpDev 4 0 0 none).now ∧ (ptpDev 4 0 0 none).blocked 0 = false := by decide +kernel

/-! ### The metrology island, calibration -/

def aJob20 (counts high : Nat) : JobRec :=
  { recNo := 3, jobId := 8, open_ := true, powerLoss := false, diverged := false, tallyGap := false, evtAtStart := 0, tStart := 0, tEnd := 0, counts := counts,
    lengthUm := counts * 10, mainUm := 0, revCounts := 0, ink := List.replicate 7 0, scale := 10000000, div := 1000, pos := counts, high := high, dir := false }

/-- The island with its seal open or shut and job 3 open. -/
def metDev (lid : Bool) (j : Option JobRec) : State :=
  { soloDev with met := { IslandSt.reset with
    sealOpen := lid, nextRec := 4, ackRec := 3, open_ := j.map (fun x => x.recNo), lastRec := some 3, jobs := j.elim [] (fun x => [(3, x)]) } }

def metOff : State := { soloDev with met := { IslandSt.reset with powered := false, running := false } }
def metBad : State := { soloDev with met := { IslandSt.reset with romErr := true } }

/-- R289 and R482: an edge forward and one back, at the high-water mark and below it. -/
theorem wit_Meter : metOff.counting = false ∧ (metDev true none).counting = true ∧ quadStep (metDev true none).met.a (metDev true none).met.b false false = 0 ∧
    (1 : Int) ≠ 0 ∧ (1 : Int) = (if (metDev true none).met.fDir then -(quadStep (metDev true none).met.a (metDev true none).met.b true false)
      else quadStep (metDev true none).met.a (metDev true none).met.b true false) ∧
    (-1 : Int) = (if (metDev true none).met.fDir then -(quadStep (metDev true none).met.a (metDev true none).met.b false true)
      else quadStep (metDev true none).met.a (metDev true none).met.b false true) ∧
    (metDev true none).met.high < (metDev true none).met.pos + 1 ∧ (metDev true none).met.pos + -1 ≤ (metDev true none).met.high ∧
    (metDev true none).met.totalUm + ((metDev true none).met.totalPm + (metDev true none).met.fScale) / 1000000 < 2 ^ 64 ∧
    (metDev true none).openJob = none ∧ (metDev true (some (aJob20 5 5))).openJob = some (aJob20 5 5) ∧
    (aJob20 5 5).high < (aJob20 5 5).pos + 1 ∧ (aJob20 5 9).pos + 1 ≤ (aJob20 5 9).high := by decide +kernel

/-- R487 with 1,000 ppm: a job of 10 m may differ by 11 mm and no more. -/
theorem test_diverges : diverges 10000000 10011000 1000 = false ∧ diverges 10000000 10011001 1000 = true ∧ diverges 10000000 9988999 1000 = true := by
  decide +kernel

theorem wit_IslandPower : metOff.met.powered = false ∧ (metDev true none).met.powered = true ∧ (metDev true none).met.freeAudit ≠ 0 ∧
    (metDev true none).met.sealOpen = true ∧ (metDev false none).met.sealOpen = false ∧ (metDev true none).met.running = true ∧ metOff.met.running = false ∧
    (metDev true (some (aJob20 5 5))).met.lastRec = (metDev true (some (aJob20 5 5))).met.open_ := by decide +kernel

/-- MET_STAT with ALIVE and the seal as given, the mirror one tick old, and MET_STAT as last looked at. -/
def mirrored (lid seen : Nat) : State :=
  { setAll [(MetStat.alive, 0, 1), (MetStat.sealOpen, 0, lid)] soloDev with
    met := { IslandSt.reset with mirrorAt := some 499999999 }, tally := { TallySt.reset with seen := seen } }

theorem wit_MetStatus : (mirrored 0 1).met.mirrorAt = some 499999999 ∧ (mirrored 0 1).now ≤ 499999999 + 1000000 ∧ 498999999 + 1000000 < (mirrored 0 1).now ∧
    (mirrored 0 1).tally.seen = (mirrored 0 1).rawWord .metStat 0 ∧ (mirrored 0 1).flag MetStat.alive 0 = true ∧
    (∀ c ∈ [0, 1, 3, 4], ((mirrored 1 1).rawWord .metStat 0 / 2 ^ c % 2 ≠ (mirrored 1 1).tally.seen / 2 ^ c % 2 ↔ c = 1)) := by decide +kernel

def aReq20 (crc : Bool) (seq : Nat) : MetReq := { crcOk := crc, seq := seq }

theorem wit_MetRequests : (aReq20 false 1).crcOk = false ∧ (aReq20 true 1).crcOk = true ∧ (metDev true none).met.lastSeq ≠ some (aReq20 true 1).seq ∧
    ({ soloDev with met := { IslandSt.reset with lastSeq := some 1 } } : State).met.lastSeq = some (aReq20 true 1).seq ∧ metBad.met.romErr = true ∧
    (metDev true none).met.romErr = false ∧ (metDev true (some (aJob20 5 5))).job 3 = some (aJob20 5 5) ∧ (metDev true none).job 3 = none ∧
    (3 + 2 ^ 32 - (metDev true none).met.ackRec % 2 ^ 32) % 2 ^ 32 < (metDev true none).met.unackedJobs ∧
    (metDev true none).met.unackedJobs ≤ (4 + 2 ^ 32 - (metDev true none).met.ackRec % 2 ^ 32) % 2 ^ 32 ∧ 0 ≤ (metDev true none).met.eventCtr ∧
    (metDev true none).met.eventCtr < 1 ∧ (metDev true none).met.unackedJobs < 8192 ∧
    8192 ≤ ({ soloDev with met := { IslandSt.reset with nextRec := 8192 } } : State).met.unackedJobs ∧
    (aJob20 5 5).recNo < (metDev true (some (aJob20 5 5))).met.nextRec ∧ (metDev true (some (aJob20 5 5))).met.nextRec < (aJob20 5 5).recNo + 8192 := by decide +kernel

/-- A full audit store in which 4,080 entries are not acknowledged. -/
def fullAudit : State :=
  { soloDev with met := { IslandSt.reset with sealOpen := true, audit := (List.range 4080).map (fun k => (k + 1, ⟨k + 1, 0, 1, 0, 0, 0⟩)) } }

theorem wit_MetParams : 16 < (metDev true none).met.freeAudit ∧ (5 = 0 ∨ 4 < 5) ∧ (2 ^ 32 ≤ 2 ^ 32) ∧ (1 ≤ 10000000 ∧ 10000000 < 2 ^ 32) ∧
    (10 ≤ 1000 ∧ 1000 ≤ 100000) ∧ (5 : Nat) < 2 ^ 64 ∧ (0x7128 : Nat) = 0x7128 ∧ (metDev true none).rst.stretch = false ∧
    (metDev true none).twin.faultHold = none ∧ (metDev true none).role ≠ roleActive ∧ (metDev true none).operating = true := by decide +kernel

set_option maxRecDepth 100000 in
theorem wit_MetParams_full : fullAudit.met.freeAudit ≤ 16 := by decide +kernel

/-- R490: 10 m in 1,000,000 counts twice gives 10,000,000 pm a count; runs that differ by more than the tolerance are refused. -/
theorem wit_CalLen : (10000000 : Nat) = (2 * (10000000 * 1000000) + 1000000) / (2 * 1000000) ∧
    ((10000000 : Int) - (10000000 : Int)).natAbs * 2 * 1000000 ≤ 100 * (10000000 + 10000000) ∧ 1 ≤ (10000000 + 10000000 + 1) / 2 ∧
    (10000000 + 10000000 + 1) / 2 < 2 ^ 32 ∧ (10101010 : Nat) = (2 * (10000000 * 1000000) + 990000) / (2 * 990000) ∧
    100 * (10000000 + 10101010) < ((10000000 : Int) - (10101010 : Int)).natAbs * 2 * 1000000 ∧ 10 ≤ 100 ∧ 100 ≤ 10000 := by decide +kernel

theorem wit_Islands : islandCommand (.tallySend) = false ∧ 15 ∉ soloDev.rst.sources ∧ soloDev.twin.faultHold = none := by decide +kernel

def calCmd (op kind inst code : Nat) : Word :=
  BitVec.ofNat 32 (0x71280000 + op * 2 ^ CalCmd.op.lo + kind * 2 ^ CalCmd.kind.lo + inst * 2 ^ CalCmd.inst.lo + code * 2 ^ CalCmd.code.lo)

def calDev (st kind mode : Nat) (first : Option (List Int)) (raw : List Nat) : State :=
  setAll [(CalStat.state, 0, st), (CalCtrl.mode, 0, mode), (CalRefval.v, 0, 1000), (CalRecTol.v, 2, 20000), (CalRecTol.v, 0, 20000), (FpeStat.mode, 0, 1)]
    { soloDev with cal := { CalSt.reset with kind := kind, inst := 1, code := 1, first := first, raw := raw, change := some 2000000 } }

theorem wit_CalCmd : keyOk (calCmd 0 0 0x10 0) = true ∧ keyOk (0 : BitVec 32) = false ∧ CalCmd.op.of (calCmd 3 0 0 0) = 3 ∧ CalCmd.op.of (calCmd 0 1 0 0) = 0 ∧
    CalCmd.op.of (calCmd 1 0 0 0) = 1 ∧ CalCmd.op.of (calCmd 2 0 0 0) = 2 ∧ CalCmd.kind.of (calCmd 0 1 0 0) < 5 ∧ 5 ≤ CalCmd.kind.of (calCmd 0 5 0 0) ∧
    soloDev.get CalStat.state 0 = 0 ∧ soloDev.calReady 1 0 0 = true ∧ soloDev.calReady 0 0 0 = false ∧ (calDev 0 0 0 none []).calReady 0 0x10 0 = true ∧
    (calDev 1 0 0 none []).get CalStat.state 0 ≠ 0 := by decide +kernel

theorem wit_CalMeasure : (calDev 1 0 0 none []).get CalStat.state 0 = 1 ∧ (calDev 1 0 0 none []).cal.kind = 0 ∧ (calDev 1 0 0 none []).cal.change = some 2000000 ∧
    10000 ≤ (2000000 : Int).natAbs ∧ (9999 : Int).natAbs < 10000 ∧ (calDev 1 0 1 none []).get CalCtrl.mode 0 = 1 ∧ (calDev 1 0 1 none []).acting = true ∧
    (calDev 1 1 0 none []).cal.kind = 1 ∧ (calDev 1 1 0 none []).cal.first = none ∧
    (3413 : Nat) = [3413].foldl (fun a b => a + b % 4096) 0 ∧ 0 < 3413 ∧
    (16386 : Nat) = (2 * (341333 * 2 ^ 14 * [3413].length) + 100 * 3413) / (2 * (100 * 3413)) ∧ (16386 : Nat) < 2 ^ 16 ∧
    (calDev 1 2 0 none []).cal.kind = 2 ∧ (calDev 1 3 0 none []).cal.kind = 3 ∧ (calDev 1 3 0 none []).cal.raw = [] ∧ (calDev 1 4 0 none []).cal.kind = 4 ∧
    soloDev.cal.change = none := by decide +kernel

/-- A lamp: reference 1,000 (in the unit of the reference), codes 2,000 in two measurements: both runs give 256,000 over 2,000 = 128; a second
run of 140 disagrees. -/
theorem wit_CalEnter : (calDev 2 2 0 none [4000, 2]).get CalStat.state 0 = 2 ∧ (calDev 2 2 0 none [4000, 2]).cal.raw = [4000, 2] ∧
    (128 : Nat) = (2 * ((calDev 2 2 0 none [4000, 2]).get CalRefval.v 0 * 256 * 2) + 4000) / (2 * 4000) ∧
    (calDev 2 2 0 (some [((128 : Nat) : Int)]) [4000, 2]).cal.first = some [((128 : Nat) : Int)] ∧ (calDev 2 2 0 none []).cal.inst < 16 ∧
    (((128 : Nat) : Int) - ((128 : Nat) : Int)).natAbs * 2 * 1000000 ≤ (calDev 2 2 0 none []).get CalRecTol.v 2 * (128 + 128) ∧
    (calDev 2 2 0 none []).get CalRecTol.v 2 * (140 + 128) < (((140 : Nat) : Int) - ((128 : Nat) : Int)).natAbs * 2 * 1000000 ∧
    (calDev 2 2 0 none []).get CalRecCount.count 2 < 2 ^ 31 - 2 := by decide +kernel

theorem wit_CalEncoder : (calDev 2 0 0 (some [((500 : Nat) : Int)]) []).cal.change = some 2000000 ∧ (0 : Int) < 2000000 ∧
    (500 : Nat) = (2 * ((calDev 2 0 0 none []).get CalRefval.v 0 * 1000000) + (2000000 : Int).natAbs) / (2 * (2000000 : Int).natAbs) ∧
    (((500 : Nat) : Int) - ((500 : Nat) : Int)).natAbs * 2 * 1000000 ≤ (calDev 2 0 0 none []).get CalRecTol.v 0 * (500 + 500) ∧
    (2 * ((500 + 500 + 1) / 2 * 256 * (calDev 2 0 0 none []).resLpi * 2 ^ 32) + 25400000000) / 50800000000 < 2 ^ 48 ∧
    (calDev 1 4 0 none []).dropsOf 1 1 < (calDev 1 4 0 none []).cal.drops + 100000 ∧
    (setAll [(HpUsageLo.v, 7, 100000)] (calDev 1 4 0 none [])).dropsOf 1 1 = (calDev 1 4 0 none []).cal.drops + 100000 := by decide +kernel

theorem wit_CalEnd : soloDev.cal.first = none ∧ (calDev 3 1 1 none []).get CalStat.state 0 = 3 ∧ (calDev 3 1 1 none []).cal.kind ≠ 3 ∧
    (calDev 3 1 1 none []).acting = true ∧ standbyDev.acting = false ∧ (calDev 0 0 0 (some [5]) []).cal.first.isSome = true := by decide +kernel

/-! ### Ill-formed commands: one for each check, and a well-formed one of each shape -/

def allIll (l : List Instr) : Bool := l.all (fun c => !c.wellFormed)

theorem test_ill_records : allIll [.paceCcUpdate [1], .regWrite [(2 ^ 32, 0)], .regRmw [(2 ^ 32, 0, 0)], .tableLoad (2 ^ 32) [], .thrArray 0 257 1 [],
    .thrArray 0 1 0 [], .thrArray 0 1 1 [[0, 0, 0]], .thrArray 0 1 1 [], .headTable (2 ^ 128) 0 [], .headTable 1 3 [], .wait (2 ^ 32) 0 0 false,
    .fuseProgram (List.replicate 31 0) 0 0, .railWarnEnter 0 (2 ^ 16), .railWarnClear 0 (2 ^ 16), .railResetLevel 0 (2 ^ 16)] = true := by decide +kernel

theorem test_ill_lanes : allIll [.laneLockLoss 0 (2 ^ 16), .tsReceive 0 256 0 0 0, .tsReceive 0 0 256 0 0, .tsReceive 0 0 0 256 0, .lmkReceive 0 256 0] = true := by
  decide +kernel

set_option maxRecDepth 100000 in
/-- LEN of 3, LEN without its payload, LEN above 8,192, and a TYPE of nine bits. -/
theorem test_ill_pages : allIll [.pageDesc { packet 0 3 0 [1, 2, 3] with len := 3 }, .stripeData { packet 0 3 0 [] with len := 4 },
    .stripeEnd { packet 0 3 0 [] with len := 8196 }, .sync (packet 256 3 0 []), .cancel (packet 0 (2 ^ 64) 0 []),
    .abortIngest { packet 0 3 0 [] with arg := 2 ^ 32 }, .pageSchedule (2 ^ 32), .screenLine (2 ^ 32), .frameAssemble 0 (2 ^ 32), .fetchDeadline 0 (2 ^ 32),
    .stampIssue 0 (2 ^ 32), .lineDecision (2 ^ 32), .ackTimeout 0 (2 ^ 32), .hpLineLost 0 (2 ^ 32), .startDeferTimeout (2 ^ 64),
    .digestReceive goodRx (2 ^ 32) (aDigest none), .digestReceive goodRx 0 (aDigest (some 65536)), .fillinTimer 0 65536, .fillReq goodRx (2 ^ 32) 0 0,
    .fillData goodRx 0 0 65536 0 [], .screeEntryClose 3 256 0 0] = true := by decide +kernel

theorem test_ill_heads : allIll [.echoReq 0 (2 ^ 56), .echoRsp 0 goodRx 65536 0 0, .telem 0 { aTelem 0 0 with eHi := 256 }, .ack 0 { anAck 0 with result := 256 },
    .hello 0 { aHello 1 5 0x100 with rows := 256 }, .response 0 goodRx 0 0 [], .usage 0 goodRx 0 [1] (List.replicate 32 0), .mack 0 goodRx 256 0] = true := by
  decide +kernel

theorem test_ill_units : allIll [.mcUe ⟨2 ^ 40, 0, 0, 0, 0, 0⟩, .mcCe ⟨2 ^ 40, 0, 0, none⟩, .camFrameEnd 0 [[1], [1, 2]], .segChainShift (2 ^ 256), .segLatch [] [],
    .lampDiagCheck 0 4096 0, .lampTempComp [], .axCmdClr 0 0 [] true, .rowActivate 0 (2 ^ 17) 0 false] = true := by decide +kernel

theorem test_ill_twin : allIll [.heartbeat goodRx (2 ^ 32) (beat 0 0 0 0 0), .heartbeat goodRx 0 (beat 256 0 0 0 0), .fault goodRx 0 4 0, .handover goodRx 0 0 [],
    .offer goodRx 0 5, .resign goodRx 0 256, .journal goodRx 0 (aJournal []), .cairn goodRx 0 aCairn, .cairnAck goodRx 0 (2 ^ 32),
    .gen goodRx 0 ⟨true, 1, [(2 ^ 32, 0)]⟩, .health goodRx 0 ⟨2 ^ 16, false, 0, 0, none, 0⟩, .summit goodRx (2 ^ 32), .summitResult goodRx (2 ^ 32) true,
    .lineFill goodRx 0 [(2 ^ 32, 0, 0, [])] true] = true := by decide +kernel

theorem test_ill_ring : allIll [.frameForward 0 { aRingFrame .foreign 60 true with dst := 2 ^ 48 }, .frameForward 0 (aRingFrame (.request (2 ^ 14) false false 0 0 []) 60 true),
    .frameForward 0 (aRingFrame (.ring 256 0 false 0 0 0) 60 true), .frameForward 0 (aRingFrame (.other 0 256) 60 true), .frameForward 0 (aRingFrame (.ptp true 16) 60 true),
    .regOpRead 65536 0, .regOpWrite (2 ^ 32) [], .regOpRmw (2 ^ 32) 0 0, .registerWrite (2 ^ 32) 0, .ringLinkDown 0 0 256, .ringReset 0 (2 ^ 14) false 0 0,
    .ptpSync { ptpMsg false 0 with time := 2 ^ 48 * 1000000000 }, .ptpAnnounce { anAnnounce 1 with dataset := [] }] = true := by decide +kernel

theorem test_ill_island : allIll [.tallyFrame 0 0 [] 0, .ident ⟨true, 256⟩, .totals ⟨true, 256⟩, .jobEnd ⟨true, 256⟩, .readJob ⟨true, 0⟩ (2 ^ 32), .ackJobs ⟨true, 0⟩ (2 ^ 32),
    .jobStart ⟨true, 0⟩ (2 ^ 32), .readAudit ⟨true, 0⟩ (2 ^ 64), .ackAudit ⟨true, 0⟩ (2 ^ 64), .setRtc ⟨true, 0⟩ (2 ^ 64), .setParam ⟨true, 0⟩ 256 0,
    .resetMain ⟨true, 0⟩ 65536, .calLen ⟨true, 0⟩ 0 0 0 (2 ^ 32), .eventRelease (2 ^ 48)] = true := by decide +kernel

set_option maxRecDepth 100000 in
theorem test_wellFormed : [Instr.paceCcUpdate (List.replicate 16 0), .thrArray 0 1 1 [[0, 0, 0, 0]], .pageDesc (packet 0 3 0 rasBytes), .telem 0 (aTelem 0 0), .ack 0 (anAck 4),
    .hello 0 (aHello 1 5 0x100), .digestReceive goodRx 0 (aDigest (some 0)), .heartbeat goodRx 0 (beat 1 0 1 6 0), .frameForward 0 (aRingFrame .foreign 60 true),
    .ptpSync (ptpMsg false 0), .ptpAnnounce (anAnnounce 1), .ident ⟨true, 0⟩, .mcUe ⟨0, 0, 0, 0, 0, 0⟩, .camFrameEnd 0 [[1], [2]], .patternTimer 0].all Instr.wellFormed = true := by
  decide +kernel

/-! ### Values the spec works out or other standards fix -/

/-- CRC-32C of "123456789". -/
theorem test_crc32c : crc32c [0x31, 0x32, 0x33, 0x34, 0x35, 0x36, 0x37, 0x38, 0x39] = 0xE3069283 := by decide +kernel

/-- CRC-8 with polynomial 0x07 of "123456789". -/
theorem test_crc8 : [0x31, 0x32, 0x33, 0x34, 0x35, 0x36, 0x37, 0x38, 0x39].foldl crc8Byte 0 = 0xF4 := by decide +kernel

/-- SHA-256 of "abc" (FIPS 180-4). -/
theorem test_sha256 : (sha256 [0x61, 0x62, 0x63]).take 4 = [0xBA, 0x78, 0x16, 0xBF] ∧ (sha256 [0x61, 0x62, 0x63]).drop 28 = [0xF2, 0x00, 0x15, 0xAD] := by decide +kernel

/-! ### Worked examples of the spec -/

/-- spec/07_compression.md: LIT, ROW(+1, 4), RUN and END give the three lines of its table, and the CRC of the 12 bytes ends the stream. -/
def exampleBytes : List Byte := [0x00, 0x1B, 0xE4, 0x00, 0xC0, 0x06, 0x39, 0x00, 0, 0, 0, 0]
def exampleStream (run : List Byte) : List Byte := [0x03, 0x00, 0x1B, 0xE4, 0x00, 0x60, 0x02] ++ run ++ [0x80] ++ leBytes 4 (crc32c exampleBytes) ++ leBytes 4 12

def exampleShape : GscShape := { width := 16, bits := 2, lb := 4, lines := 3 }

theorem test_gscExample : (gscDecode exampleShape (exampleStream [0x21, 0x00])).out = exampleBytes ∧
    (gscDecode exampleShape (exampleStream [0x21, 0x00])).cause = .pass ∧ (exampleStream [0x21, 0x00]).length = 18 := by decide +kernel

/-- The RUN of 63 at offset 7 overruns E: cause OVERRUN at offset 7, and bytes 8 to 11 are void. -/
theorem test_gscOverrun : (gscDecode exampleShape (exampleStream [0x3F, 0x1D, 0x00])).cause = .overrun ∧
    (gscDecode exampleShape (exampleStream [0x3F, 0x1D, 0x00])).offset = 7 ∧ (gscDecode exampleShape (exampleStream [0x3F, 0x1D, 0x00])).voidFrom = 8 ∧
    ((gscDecode exampleShape (exampleStream [0x3F, 0x1D, 0x00])).out.length = 12) := by decide +kernel

/-- spec/13_loop_engine.md: LE164 with its default coefficients; the law output of the four samples. -/
theorem test_le164 : lawRaw false false (resetCoef 164) (-304) [-304, -304, 0] [1200, 1200, 0] = 1162 ∧
    lawRaw false false (resetCoef 164) (-272) [-304, -304, 0] [1162, 1200, 0] = 1140 ∧
    lawRaw false false (resetCoef 164) (-240) [-272, -304, 0] [1140, 1162, 0] = 1122 ∧
    lawRaw false false (resetCoef 164) (-200) [-240, -272, 0] [1122, 1140, 0] = 1112 := by decide +kernel

/-- spec/15_lighting.md: 753 ms into a ramp of 1,500 ms to 255 the level is 128, PTAB[128] is 899, and T0 is 439 of 2,000. -/
theorem test_ramp : rampLevel 0 255 753 1500 = 128 ∧ soloDev.get Ptab.v 128 = 899 ∧ (899 * 2000 + 2048) / 4096 = 439 := by decide +kernel

/-- spec/16_motion_and_maintenance.md: 80,000 microsteps/s with 3,200 left at 1,000,000; with DEC at half; with DEC doubled; with 600 left. -/
theorem test_brake : brakeCase (80000 * 800000) 1000000 4000000 (3200 * 2 ^ 32) false = .dec ∧
    brakeCase (80000 * 800000) 500000 4000000 (3200 * 2 ^ 32) true = .need 1000000 ∧
    brakeCase (80000 * 800000) 2000000 4000000 (3200 * 2 ^ 32) true = .hold ∧
    brakeCase (80000 * 800000) 1000000 4000000 (600 * 2 ^ 32) true = .back 4000000 := by decide +kernel

/-- spec/20_metrology_island.md: 102,400,000 counts of 9,765,625 pm are 1,000 m; with 100 ppm the record diverges from 1,000.18 m. -/
theorem test_islandExample : 102400000 * 9765625 / 1000000 = 1000000000 ∧ diverges 1000000000 1000180000 100 = true ∧
    diverges 1000000000 1000101000 100 = false := by decide +kernel

/-- spec/21_calibration.md: the two runs of source A agree within 100 ppm, and their mean is 9,765,697 pm per count. -/
def calExample (first : Option (List Int)) (c : Int) : State :=
  setAll [(CalStat.state, 0, 2), (CalRefval.v, 0, 2000000), (CalRecTol.v, 0, 100), (FpeCtrl.res, 0, 1)]
    { soloDev with force := [(FpeCtrl.res.key 0, 1)], cal := { CalSt.reset with kind := 0, inst := 0x10, first := first, change := some c } }

def stateOf (a : Host.Outcome State Fault Refusal) : State := match a with
  | .next t => t
  | _ => State.reset

theorem test_calExample : (stateOf (exec (.calEnter (calCmd 1 0 0 0)) (calExample none 204796))).cal.first = some [9765816] ∧
    (stateOf (exec (.calEnter (calCmd 1 0 0 0)) (calExample (some [9765816]) 204801))).get CalRecLast.v 0 = 9765697 := by decide +kernel

/-- FPE_SCALE_A becomes 118.11111 PU per count (U16.32). -/
theorem test_calScale : (stateOf (exec (.calEnter (calCmd 1 0 0 0)) (calExample (some [9765816]) 204801))).get64 FpeScaleALo.v FpeScaleAHi.v 0 =
    (2 * (9765697 * 307200 * 2 ^ 32) + 25400000000) / 50800000000 := by decide +kernel

/-- spec/23_register_map.md: the addresses of the code-5 usage count of HP9 and of the thermal limit of HP40. -/
theorem test_addresses : HpUsageLo.v.reg.addr (7 * 9 + 4) = 0x01202460 ∧ HpUsageHi.v.reg.addr (7 * 9 + 4) = 0x01202464 ∧
    HpTherm.htLimit.reg.addr 40 = 0x0120A0C4 ∧ Reg.ofAddr 0x0120A0C8 = some (.hpTstat, 40) := by decide +kernel

/-- spec/11_head_link.md, step 5: DLY 2,355 puts 9 into TIME and 51 into FRAC of the TSYNC of port 9. -/
theorem test_tsync : Out.head 9 1 [7000509, 51] ∈
    (stateOf (exec .tsync (setAll [(HpLdly.dly, 9, 2355)] { soloDev with ft := 7000500, linkUp := [9] }))).sent := by decide +kernel

/-- spec/08_screening.md: 2,450 and 2,571 give code 4, and the corrected tone 1,800 code 3. -/
def exampleCell : Nat := [300, 900, 1500, 2100, 2700, 3300, 3900].foldr (fun t c => t + 4096 * c) 0

theorem test_cell : cellCount exampleCell 2450 = 4 ∧ cellCount exampleCell 2571 = 4 ∧ cellCount exampleCell 1800 = 3 := by decide +kernel

/-- Gain 0x88 and offset -4 (column 20,001) turn 2,450 into 2,571. -/
theorem test_tone : toneOf ⟨205, [(CurveStage.v.key 128, 2450), (CtbStage.gain.key 7, 0x88), (CtbStage.offset.key 7, 0xFC)]⟩ 0 7 0 128 = 2571 := by
  decide +kernel

/-- spec/12_position_feedback.md: the edges of ENC2 at 0, 200, 300, 340 and 420 microseconds, the last two in reverse. -/
def edgeAt (us : Nat) (a b : Bool) (s : State) : State := stateOf (exec (.encoderEdge 2 a b false) { s with ft := 1000000 + 500 * us })

def wiper : State := setAll [(EncCfg.en, 2, 1), (EncSpdCtrl.avg, 2, 4)] soloDev
def wiper2 : State := edgeAt 200 true true (edgeAt 0 true false wiper)
def wiper3 : State := edgeAt 300 false true wiper2
def wiper4 : State := edgeAt 340 true true wiper3

theorem test_encSpeed : (edgeAt 0 true false wiper).flag EncStat.speedInvalid 2 = true ∧ (wiper2.enc 2).sample = 5000 ∧ wiper2.encPos 2 = 2 ∧
    (wiper3.enc 2).sample = 10000 ∧ wiper3.encPos 2 = 3 ∧ (wiper4.enc 2).sample = -25000 ∧ wiper4.flag EncStat.rev 2 = true ∧
    ((edgeAt 420 true false wiper4).enc 2).sample = -12500 ∧ (edgeAt 420 true false wiper4).flag EncStat.rev 2 = false ∧
    (edgeAt 420 true false wiper4).encPos 2 = 1 := by decide +kernel

end Sys2Proof.Tests
end

section
/-!
What the shared operations that this file's statements reach leave as it was, and what holds over a fold of updates.
-/
namespace Sys2Proof.Machine

/-- A preorder that every round of a fold respects holds from its start to its end. -/
theorem foldl_rel {α β : Type} {R : β → β → Prop} (refl : ∀ s, R s s) (trans : ∀ {s t u}, R s t → R t u → R s u)
    {f : β → α → β} (h : ∀ t x, R t (f t x)) (l : List α) (s : β) : R s (l.foldl f s) := by
  induction l generalizing s with
  | nil => exact refl s
  | cons x l ih => exact trans (h s x) (ih (f s x))

/-- A reading that every round of a fold keeps is kept by the fold. -/
theorem foldl_keeps {α β γ : Type} (g : β → γ) {f : β → α → β} (h : ∀ t x, g (f t x) = g t) (l : List α) (s : β) :
    g (l.foldl f s) = g s :=
  foldl_rel (R := fun s t => g t = g s) (fun _ => rfl) (fun h h' => h'.trans h) h l s

end Sys2Proof.Machine
end

section
/-!
One FT tick (log 3): what passes in it beside the timebases reaches none of the blocks that print, move, measure or store.
-/
namespace Sys2Proof.Machine

/-- The timebases, the queue and the blocks that a tick does not reach are the same. -/
def TickKept (s t : State) : Prop :=
  t.now = s.now ∧ t.ft = s.ft ∧ t.pending = s.pending ∧ t.pages = s.pages ∧ t.loop = s.loop ∧ t.scr = s.scr ∧ t.mot = s.mot ∧
    t.met = s.met ∧ t.dram = s.dram ∧ t.img = s.img

theorem TickKept.refl (s : State) : TickKept s s := ⟨rfl, rfl, rfl, rfl, rfl, rfl, rfl, rfl, rfl, rfl⟩

theorem TickKept.trans {s t u : State} (h : TickKept s t) (h' : TickKept t u) : TickKept s u := by
  unfold TickKept at *
  grind

theorem TickKept.foldl {α : Type} {f : State → α → State} (h : ∀ t x, TickKept t (f t x)) (l : List α) (s : State) :
    TickKept s (l.foldl f s) :=
  foldl_rel .refl .trans h l s

theorem TickKept.drainCol (s : State) : TickKept s s.drainCol := by
  unfold State.drainCol
  split
  · exact .refl s
  · split <;> simp [TickKept]

theorem TickKept.startEgress (s : State) (k : Nat) : TickKept s (s.startEgress k) := by
  unfold State.startEgress
  split
  · exact .refl s
  · split
    · simp [TickKept]
    · exact .refl s

theorem TickKept.dropRoleN (s : State) : TickKept s s.dropRoleN := by
  unfold State.dropRoleN
  split
  · split
    · simp [TickKept]
    · exact .refl s
  · exact .refl s

theorem TickKept.countHold (s : State) : TickKept s s.countHold := by
  unfold State.countHold
  split
  · split
    · simp [TickKept]
    · exact .refl s
  · exact .refl s

theorem TickKept.checkAlive (s : State) : TickKept s s.checkAlive := by
  unfold State.checkAlive
  split
  · split
    · simp [TickKept]
    · exact .refl s
  · simp [TickKept]

theorem TickKept.pulsePins (s : State) : TickKept s s.pulsePins := by
  unfold State.pulsePins
  split
  · exact .refl s
  · refine .foldl (fun t n => ?_) _ s
    split
    · simp [TickKept]
    · exact .refl t

theorem TickKept.trigPins (s : State) : TickKept s s.trigPins := by
  refine .foldl (fun t n => ?_) _ s
  split
  · split
    · simp [TickKept]
    · exact .refl t
  · exact .refl t

/-- After the timebases have passed, a tick sends what waits and ends pulses, and no more. -/
theorem State.tick_keeps (s : State) : TickKept s.passTime s.tick := by
  have sent : TickKept s.passTime ((s.passTime.drainCol.startEgress 0).startEgress 1) :=
    ((TickKept.drainCol _).trans (.startEgress _ 0)).trans (.startEgress _ 1)
  have held := (sent.trans (.dropRoleN _)).trans (.countHold _)
  unfold State.tick
  dsimp only
  split
  · exact ((held.trans (.checkAlive _)).trans (.pulsePins _)).trans (.trigPins _)
  · exact (held.trans (.pulsePins _)).trans (.trigPins _)

/-- The timebases advance: the PTP clock is the only block that moves with them (R18, R468). -/
theorem State.passTime_eq (s : State) :
    ∃ p, s.passTime = { s with now := s.now + 1, ft := if s.rst.qualified.getD 0 false then s.ft + 1 else s.ft, ptp := p } := by
  unfold State.passTime
  dsimp only
  split
  · exact ⟨_, rfl⟩
  · exact ⟨_, rfl⟩

/-- Settles O3: the timebases pass first, and nothing that follows in the tick reaches the blocks named. -/
theorem idleStepPassesOneTick : Obligations.IdleStepPassesOneTick := by
  intro s idle
  obtain ⟨p, passed⟩ := s.passTime_eq
  have kept := s.tick_keeps
  rw [passed] at kept
  obtain ⟨hnow, hft, hpending, hpages, hloop, hscr, hmot, hmet, hdram, himg⟩ := kept
  have stepped : step s = .next s.tick := by
    unfold step
    rw [idle]
  exact ⟨s.tick, stepped, hnow, hft, hpending.trans idle, hpages, hloop, hscr, hmot, hmet, hdram, himg⟩

end Sys2Proof.Machine
end

section
/-!
The pace monitors of R10: what one stage's USED does to its element of MON_PACE, and a CC over the sixteen stages.
-/
namespace Sys2Proof.Machine

/-- A value that fits its field reads back as written. -/
theorem State.get_put_of_lt (s : State) (f : Fld) (i : Nat) {v : Nat} (h : v < 2 ^ f.width) : (s.put f i v).get f i = v := by
  rw [State.get_put_self, Nat.mod_eq_of_lt h]

/-- A wider permission is weaker. -/
theorem FieldsKept.mono {p q : Fld → Nat → Bool} {s t : State} (h : FieldsKept p s t)
    (hpq : ∀ f i, p f i = true → q f i = true) : FieldsKept q s t := by
  intro r f i hf hq
  refine h r f i hf ?_
  by_contra hp
  rw [hpq f i (by simpa using hp)] at hq
  exact absurd hq (by decide)

/-- A step changes registers and the event queue at most. -/
def OnlyRegsEv (s t : State) : Prop := t = { s with regs := t.regs, ev := t.ev }

theorem OnlyRegsEv.refl (s : State) : OnlyRegsEv s s := rfl

theorem OnlyRegsEv.trans {s t u : State} (h : OnlyRegsEv s t) (h' : OnlyRegsEv t u) : OnlyRegsEv s u := by
  unfold OnlyRegsEv at *
  rw [h] at h'
  exact h'

theorem OnlyRegsEv.put (s : State) (f : Fld) (i v : Nat) : OnlyRegsEv s (s.put f i v) := rfl

theorem OnlyRegsEv.record (s : State) (c : EvCode) (i : Nat) (l : List EvArg) : OnlyRegsEv s (s.record c i l) := by
  obtain ⟨x, y, h⟩ := s.record_eq c i l
  unfold OnlyRegsEv
  rw [h]

theorem OnlyRegsEv.foldl {α : Type} {f : State → α → State} (h : ∀ t x, OnlyRegsEv t (f t x)) (l : List α) (s : State) :
    OnlyRegsEv s (l.foldl f s) :=
  foldl_rel .refl .trans h l s

/-- The fields of MON_PACE that a CC writes. -/
abbrev paceFields : List Fld := [MonPace.used, MonPace.usedMax, MonPace.warn, MonPace.over]

/-- USED and USED_MAX of a stage, before its flags are looked at. -/
def State.paceTake (s : State) (n u : Nat) : State :=
  (s.put MonPace.used n u).put MonPace.usedMax n (max u (s.get MonPace.usedMax n))

/-- A sticky flag of a stage with the event of its rise. -/
def State.paceFlag (s : State) (f : Fld) (n : Nat) (c : EvCode) (l : List EvArg) (on : Prop) [Decidable on] : State :=
  if on ∧ s.get f n = 0 then (s.put f n 1).record c n l else s

theorem State.paceUsed_eq (s : State) (n used : Nat) :
    s.paceUsed n used =
      ((s.paceTake n (min 255 used)).paceFlag MonPace.warn n .paceWarn [a8 (min 255 used)]
        ((s.paceTake n (min 255 used)).get MonPace.warnPct n < min 255 used)).paceFlag MonPace.over n .paceOver []
        (100 < min 255 used) := rfl

section
variable {f : Fld} (s : State) (n : Nat) (c : EvCode) (l : List EvArg) (on : Prop) [Decidable on]

theorem State.get_paceFlag_ne {g : Fld} (hg : (f.apart g && (EvtLost.count.apart g && EvtLost.ovf.apart g && EvtWr.v.apart g)) = true)
    (j : Nat) : (s.paceFlag f n c l on).get g j = s.get g j := by
  rw [Bool.and_eq_true] at hg
  unfold State.paceFlag
  split
  · rw [State.get_record _ c n l g j hg.2, State.get_put_ne s hg.1]
  · rfl

/-- A one-bit flag rises where its condition holds, and stays where it is set. -/
theorem State.flag_paceFlag (hw : f.width = 1) (he : (EvtLost.count.apart f && EvtLost.ovf.apart f && EvtWr.v.apart f) = true) :
    (s.paceFlag f n c l on).flag f n = (s.flag f n || decide on) := by
  have bit : s.get f n < 2 := by simpa [hw] using s.get_lt f n
  unfold State.paceFlag State.flag
  split
  next h => rw [State.get_record _ c n l f n he, State.get_put_of_lt s f n (by rw [hw]; decide)]; simp [h.1]
  next h =>
    by_cases hon : on
    · have unset : s.get f n ≠ 0 := fun h0 => h ⟨hon, h0⟩
      have set : s.get f n = 1 := by omega
      simp [set]
    · simp [hon]

/-- A flag that did not rise has recorded nothing. -/
theorem State.paceFlag_of_flag_same (hw : f.width = 1) (he : (EvtLost.count.apart f && EvtLost.ovf.apart f && EvtWr.v.apart f) = true)
    (same : (s.paceFlag f n c l on).flag f n = s.flag f n) : s.paceFlag f n c l on = s := by
  rw [State.flag_paceFlag s n c l on hw he] at same
  unfold State.paceFlag
  refine if_neg fun h => ?_
  simp [State.flag, h.1, h.2] at same

theorem FieldsKept.paceFlag (hf : f ∈ f.reg.fields) (hp : f ∈ paceFields) :
    FieldsKept (onlyAt paceFields n) s (s.paceFlag f n c l on) := by
  unfold State.paceFlag
  split
  · exact (FieldsKept.put s n 1 hf (by unfold onlyAt; simp [hp])).trans (.record _ c n l (fun f i h => by simp [onlyAt, h]))
  · exact .refl _ s

theorem OnlyRegsEv.paceFlag : OnlyRegsEv s (s.paceFlag f n c l on) := by
  unfold State.paceFlag
  split
  · exact (OnlyRegsEv.put s f n 1).trans (.record _ c n l)
  · exact .refl s

end

theorem FieldsKept.paceTake (s : State) (n u : Nat) : FieldsKept (onlyAt paceFields n) s (s.paceTake n u) :=
  (FieldsKept.put s n u (by decide) (by simp [onlyAt])).trans (.put _ n _ (by decide) (by simp [onlyAt]))

/-- What R10 says of one stage at a CC. -/
def PaceTaken (n used : Nat) (s t : State) : Prop :=
  t.get MonPace.used n = min 255 used ∧ t.get MonPace.usedMax n = max (min 255 used) (s.get MonPace.usedMax n) ∧
  t.flag MonPace.warn n = (s.flag MonPace.warn n || decide (s.get MonPace.warnPct n < min 255 used)) ∧
  t.flag MonPace.over n = (s.flag MonPace.over n || decide (100 < used))

theorem State.paceUsed_taken (s : State) (n used : Nat) : PaceTaken n used s (s.paceUsed n used) := by
  have fits : min 255 used < 2 ^ MonPace.used.width := by show _ < 256; omega
  have most : max (min 255 used) (s.get MonPace.usedMax n) < 2 ^ MonPace.usedMax.width :=
    Nat.max_lt.mpr ⟨fits, s.get_lt _ _⟩
  rw [s.paceUsed_eq]
  refine ⟨?_, ?_, ?_, ?_⟩
  · rw [State.get_paceFlag_ne _ _ _ _ _ (by decide), State.get_paceFlag_ne _ _ _ _ _ (by decide), State.paceTake,
      State.get_put_ne _ (by decide), State.get_put_of_lt _ _ _ fits]
  · rw [State.get_paceFlag_ne _ _ _ _ _ (by decide), State.get_paceFlag_ne _ _ _ _ _ (by decide), State.paceTake,
      State.get_put_of_lt _ _ _ most]
  · unfold State.flag
    rw [State.get_paceFlag_ne _ _ _ _ _ (by decide)]
    change State.flag _ _ _ = _
    rw [State.flag_paceFlag _ _ _ _ _ rfl (by decide)]
    simp (disch := decide) [State.paceTake, State.flag]
  · rw [State.flag_paceFlag _ _ _ _ _ rfl (by decide)]
    have hundred : (100 < min 255 used) ↔ 100 < used := by omega
    unfold State.flag
    rw [State.get_paceFlag_ne _ _ _ _ _ (by decide)]
    simp (disch := decide) [State.paceTake]

theorem State.paceUsed_kept (s : State) (n used : Nat) : FieldsKept (onlyAt paceFields n) s (s.paceUsed n used) :=
  ((FieldsKept.paceTake s n _).trans (.paceFlag _ n _ _ _ (by decide) (by decide))).trans
    (.paceFlag _ n _ _ _ (by decide) (by decide))

theorem OnlyRegsEv.paceUsed (s : State) (n used : Nat) : OnlyRegsEv s (s.paceUsed n used) :=
  (OnlyRegsEv.paceFlag (s.paceTake n (min 255 used)) n _ _ _).trans (.paceFlag _ n _ _ _)

/-- A stage with no flag newly set records nothing. -/
theorem State.paceUsed_ev (s : State) (n used : Nat) (hwarn : (s.paceUsed n used).flag MonPace.warn n = s.flag MonPace.warn n)
    (hover : (s.paceUsed n used).flag MonPace.over n = s.flag MonPace.over n) : (s.paceUsed n used).ev = s.ev := by
  rw [s.paceUsed_eq] at *
  set t := s.paceTake n (min 255 used)
  set u := t.paceFlag MonPace.warn n .paceWarn [a8 (min 255 used)] (t.get MonPace.warnPct n < min 255 used) with hu
  have warnTaken : t.flag MonPace.warn n = s.flag MonPace.warn n := by simp (disch := decide) [t, State.paceTake, State.flag]
  have overTaken : u.flag MonPace.over n = s.flag MonPace.over n := by
    unfold State.flag
    rw [hu, State.get_paceFlag_ne _ _ _ _ _ (by decide)]
    simp (disch := decide) [t, State.paceTake]
  have quiet : u.paceFlag MonPace.over n .paceOver [] (100 < min 255 used) = u :=
    State.paceFlag_of_flag_same _ _ _ _ _ rfl (by decide) (hover.trans overTaken.symm)
  rw [quiet] at hwarn ⊢
  rw [hu, State.paceFlag_of_flag_same _ _ _ _ _ rfl (by decide) (hwarn.trans warnTaken.symm)]
  simp [t, State.paceTake]

/-- The stages below `k` at a CC. -/
def State.paceUpTo (s : State) (used : List Nat) (k : Nat) : State :=
  (List.range k).foldl (fun t n => t.paceUsed n (used.getD n 0)) s

theorem State.paceUpTo_succ (s : State) (used : List Nat) (k : Nat) :
    s.paceUpTo used (k + 1) = (s.paceUpTo used k).paceUsed k (used.getD k 0) := by
  simp [State.paceUpTo, List.range_succ]

/-- What the stages below `k` may write. -/
def paceBelow (k : Nat) (f : Fld) (i : Nat) : Bool := evtField f || (paceFields.contains f && decide (i < k))

theorem State.paceUpTo_kept (s : State) (used : List Nat) (k : Nat) : FieldsKept (paceBelow k) s (s.paceUpTo used k) := by
  induction k with
  | zero => exact .refl _ s
  | succ k ih =>
    rw [State.paceUpTo_succ]
    refine (ih.mono fun f i h => ?_).trans ((State.paceUsed_kept _ k _).mono fun f i h => ?_)
    · unfold paceBelow at *; grind
    · unfold paceBelow onlyAt at *; grind

/-- The fields of a stage that the later stages do not write. -/
theorem State.get_paceUsed_other (s : State) {k n : Nat} (used : Nat) (h : n ≠ k) {f : Fld} (hf : f ∈ Reg.monPace.fields) :
    (s.paceUsed k used).get f n = s.get f n := by
  refine s.paceUsed_kept k used _ f n hf ?_
  have plain : ∀ g ∈ Reg.monPace.fields, evtField g = false := by decide
  unfold onlyAt
  simp [h, plain f hf]

theorem State.get_paceUpTo_later (s : State) (used : List Nat) {k n : Nat} (h : k ≤ n) {f : Fld} (hf : f ∈ Reg.monPace.fields) :
    (s.paceUpTo used k).get f n = s.get f n := by
  induction k with
  | zero => rfl
  | succ k ih => rw [State.paceUpTo_succ, State.get_paceUsed_other _ _ (by omega) hf, ih (by omega)]

theorem PaceTaken.congr {n used : Nat} {s s' t t' : State} (h : PaceTaken n used s t)
    (hs : ∀ f ∈ Reg.monPace.fields, s'.get f n = s.get f n) (ht : ∀ f ∈ Reg.monPace.fields, t'.get f n = t.get f n) :
    PaceTaken n used s' t' := by
  unfold PaceTaken State.flag at *
  rw [hs MonPace.usedMax (by decide), hs MonPace.warnPct (by decide), hs MonPace.warn (by decide), hs MonPace.over (by decide),
    ht MonPace.used (by decide), ht MonPace.usedMax (by decide), ht MonPace.warn (by decide), ht MonPace.over (by decide)]
  exact h

theorem State.paceUpTo_taken (s : State) (used : List Nat) {k n : Nat} (h : n < k) :
    PaceTaken n (used.getD n 0) s (s.paceUpTo used k) := by
  induction k with
  | zero => omega
  | succ k ih =>
    rw [State.paceUpTo_succ]
    by_cases last : n = k
    · subst last
      exact ((s.paceUpTo used n).paceUsed_taken n _).congr (fun f hf => (s.get_paceUpTo_later used (Nat.le_refl n) hf).symm)
        (fun _ _ => rfl)
    · exact (ih (by omega)).congr (fun _ _ => rfl) (fun f hf => State.get_paceUsed_other _ _ last hf)

theorem State.paceUpTo_ev (s : State) (used : List Nat) (k : Nat)
    (quiet : ∀ n, n < k → (s.paceUpTo used k).flag MonPace.warn n = s.flag MonPace.warn n ∧
      (s.paceUpTo used k).flag MonPace.over n = s.flag MonPace.over n) : (s.paceUpTo used k).ev = s.ev := by
  induction k with
  | zero => rfl
  | succ k ih =>
    rw [State.paceUpTo_succ] at *
    unfold State.flag at quiet
    have earlier : (s.paceUpTo used k).ev = s.ev := by
      refine ih fun n hn => ?_
      have same := quiet n (by omega)
      rw [State.get_paceUsed_other _ _ (by omega) (by decide), State.get_paceUsed_other _ _ (by omega) (by decide)] at same
      exact same
    have last := quiet k (by omega)
    rw [← s.get_paceUpTo_later used (Nat.le_refl k) (f := MonPace.warn) (by decide),
      ← s.get_paceUpTo_later used (Nat.le_refl k) (f := MonPace.over) (by decide)] at last
    exact (State.paceUsed_ev _ k _ last.1 last.2).trans earlier

/-- Settles O7: stage by stage, since a stage writes only its own element. -/
theorem paceMonitors : Obligations.PaceMonitors := by
  refine ⟨fun used s => ⟨s.paceUpTo used 16, rfl, ?_, ?_, ?_, ?_⟩, fun n s => ⟨s.clearPaceMax n, rfl, rfl, ?_, ?_⟩⟩
  · exact OnlyRegsEv.foldl (fun t n => .paceUsed t n _) _ s
  · exact (s.paceUpTo_kept used 16).mono fun f i h => by unfold paceBelow only at *; grind
  · exact fun n hn => s.paceUpTo_taken used hn
  · exact s.paceUpTo_ev used 16
  · exact FieldsKept.put s n 0 (by decide) (by simp [onlyAt])
  · exact s.get_put_of_lt _ _ (by decide)

end Sys2Proof.Machine
end

section
/-!
The operations that a lost clock, an L2 reset and a requalified domain carry out leave the reset sequencing as it was.
-/
namespace Sys2Proof.Machine

/-! ### Axes, activities and calibration -/

@[simp] theorem State.axState_rst (s : State) (n : Nat) : (s.axState n).rst = s.rst := by
  simp [State.axState]

@[simp] theorem State.haltAxis_rst (s : State) (n : Nat) : (s.haltAxis n).rst = s.rst := by
  simp [State.haltAxis]

@[simp] theorem State.stopped_rst (s : State) (n : Nat) : (s.stopped n).rst = s.rst := by
  unfold State.stopped
  extract_lets x halted released safe homed
  have hsafe : safe.rst = s.rst := by simp [safe, released, halted, apply_ite State.rst]
  have hhomed : homed.rst = safe.rst := by
    dsimp only [homed]
    split
    · split <;> simp
    · simp
    · rfl
  simp [hhomed, hsafe]

@[simp] theorem State.beginStop_rst (s : State) (n how : Nat) : (s.beginStop n how).rst = s.rst := by
  unfold State.beginStop
  dsimp only
  split <;> simp

@[simp] theorem State.calEnd_rst (s : State) : s.calEnd.rst = s.rst := by
  simp [State.calEnd]

@[simp] theorem State.calAbandon_rst (s : State) : s.calAbandon.rst = s.rst := by
  unfold State.calAbandon
  split <;> simp

@[simp] theorem State.calWatch_rst (s : State) : s.calWatch.rst = s.rst := by
  unfold State.calWatch
  split <;> simp

@[simp] theorem State.startAbortSeq_rst (s : State) (a : Nat) : (s.startAbortSeq a).rst = s.rst := by
  unfold State.startAbortSeq
  split
  · rfl
  · split
    · rfl
    · exact (State.setAct_frame _ _).2.2.2.2.2.2.1.trans (foldl_keeps State.rst (by simp) _ s)

@[simp] theorem State.failStep_rst (s : State) (a : Nat) : (s.failStep a).rst = s.rst := by
  unfold State.failStep
  split
  · rfl
  · split <;> simp

/-! ### Page ingest -/

@[simp] theorem State.sendControl_rst (s : State) (q c a : Nat) : (s.sendControl q c a).rst = s.rst := by
  unfold State.sendControl
  split <;> simp

@[simp] theorem State.countRewind_rst (s : State) : s.countRewind.rst = s.rst := by simp [State.countRewind]

@[simp] theorem State.countProto_rst (s : State) : s.countProto.rst = s.rst := by simp [State.countProto]

@[simp] theorem State.rewind_rst (s : State) (q i : Nat) : (s.rewind q i).rst = s.rst := by
  unfold State.rewind
  dsimp only
  split <;> simp

@[simp] theorem State.setPgNext_rst (s : State) (v : Nat) : (s.setPgNext v).rst = s.rst := by simp [State.setPgNext]

@[simp] theorem State.admitPage_rst (s : State) (q : Nat) : (s.admitPage q).rst = s.rst := by simp [State.admitPage]

@[simp] theorem State.tryAdmit_rst (s : State) (q : Nat) : (s.tryAdmit q).rst = s.rst := by
  unfold State.tryAdmit
  split
  · rfl
  · split <;> simp

@[simp] theorem State.makeTrailer_rst (s : State) (p : Page) : (s.makeTrailer p).rst = s.rst := by
  unfold State.makeTrailer
  split <;> rfl

@[simp] theorem State.setLines_rst (s : State) (q : Nat) : (s.setLines q).rst = s.rst := by
  unfold State.setLines
  dsimp only
  split
  · simp
  · split <;> simp

@[simp] theorem State.advance_rst (s : State) (k : Faong) : (s.advance k).rst = s.rst := rfl

@[simp] theorem State.sendDigest_rst (s : State) (q : Nat) (i : Option Nat) (n c : Nat) (l : Bool) :
    (s.sendDigest q i n c l).rst = s.rst := by
  simp [State.sendDigest]

@[simp] theorem State.sendStripeDigest_rst (s : State) (q i : Nat) : (s.sendStripeDigest q i).rst = s.rst := by
  unfold State.sendStripeDigest
  split
  · rfl
  · split <;> simp

@[simp] theorem State.beginResend_rst (s : State) (p : Page) (k : Faong) : (s.beginResend p k).rst = s.rst := by
  unfold State.beginResend
  split <;> simp

@[simp] theorem State.enterPage_rst (s : State) (k : Faong) (d : Desc) : (s.enterPage k d).rst = s.rst := by
  unfold State.enterPage
  dsimp only
  split <;> simp

@[simp] theorem State.refusePage_rst (s : State) (k : Faong) (d : Desc) (r : Nat) : (s.refusePage k d r).rst = s.rst := by
  simp [State.refusePage]

@[simp] theorem State.strayStripe_rst (s : State) (k : Faong) : (s.strayStripe k).rst = s.rst := by
  unfold State.strayStripe
  split <;> simp

@[simp] theorem State.nextStripe_rst (s : State) (q i : Nat) : (s.nextStripe q i).rst = s.rst := by
  unfold State.nextStripe
  dsimp only
  split <;> split <;> rfl

@[simp] theorem State.endStripe_rst (s : State) (q i : Nat) (k : Faong) : (s.endStripe q i k).rst = s.rst := by
  unfold State.endStripe
  extract_lets clen lines close resent
  split
  · simp
  · split
    · simp
    · extract_lets held stored digested counted
      have hcounted : counted.rst = s.rst := by simp [counted, digested, stored, apply_ite State.rst]
      split <;> simp [hcounted]

@[simp] theorem State.takeEnd_rst (s : State) (k : Faong) : (s.takeEnd k).rst = s.rst := by
  unfold State.takeEnd
  split
  · rfl
  · split
    · simp
    · split <;> simp

theorem State.storeChunk_rst {s t : State} {q i ch : Nat} {k : Faong} (h : s.storeChunk q i ch k = some t) : t.rst = s.rst := by
  unfold State.storeChunk at h
  extract_lets ingest next at h
  have hnext : next.rst = s.rst := rfl
  split at h
  · rw [← Option.some.inj h, hnext]
  · split at h
    · rw [← Option.some.inj h, hnext]
    · extract_lets held at h
      split at h
      · rw [← Option.some.inj h, State.rewind_rst]
      · split at h
        · cases h
        · rw [← Option.some.inj h]
          simp [hnext]

theorem State.takeData_rst {s t : State} {k : Faong} (h : s.takeData k = some t) : t.rst = s.rst := by
  unfold State.takeData at h
  dsimp only at h
  split at h
  · split at h
    · exact State.storeChunk_rst h
    · cases h; rfl
  · split at h
    · cases h; simp
    · split at h
      · exact State.storeChunk_rst h
      · cases h; simp

theorem State.takeDesc_rst {s t : State} {k : Faong} (h : s.takeDesc k = some t) : t.rst = s.rst := by
  unfold State.takeDesc at h
  split at h
  · cases h; rfl
  · split at h
    · cases h; rfl
    · split at h
      · cases h; simp
      · split at h
        · cases h; simp
        · extract_lets first begun ingest entered d r ingest' waits at h
          have hwaits : waits.rst = s.rst := by simp [waits, entered, begun, apply_ite State.rst]
          split at h
          · cases h; simp [hwaits]
          · split at h
            · cases h
            · split at h <;> cases h <;> simp [hwaits]

theorem State.takePacket_rst {s t : State} {k : Faong} (h : s.takePacket k = some t) : t.rst = s.rst := by
  unfold State.takePacket at h
  obtain ⟨u, taken, rfl⟩ := Option.map_eq_some_iff.mp h
  rw [State.advance_rst]
  split at taken
  · exact State.takeDesc_rst taken
  · split at taken
    · exact State.takeData_rst taken
    · cases taken; simp

@[simp] theorem drainPackets_rst (l : List Faong) (s : State) : (drainPackets l s).rst = s.rst := by
  induction l generalizing s with
  | nil => rfl
  | cons k l ih =>
    unfold drainPackets
    split
    next t taken => exact (ih t).trans (State.takePacket_rst taken)
    next => rfl

@[simp] theorem State.dataDown_rst (s : State) : s.dataDown.rst = s.rst := by
  unfold State.dataDown
  extract_lets drained ingest closed
  have hclosed : closed.rst = s.rst := drainPackets_rst _ s
  split
  · split <;> simp [hclosed]
  · exact hclosed

@[simp] theorem State.ingestL2_rst (s : State) : s.ingestL2.rst = s.rst := by
  unfold State.ingestL2
  dsimp only
  split
  · split <;> simp
  · rfl

@[simp] theorem State.loseStripe_rst (s : State) (q i : Nat) : (s.loseStripe q i).rst = s.rst := by
  unfold State.loseStripe
  split
  · rfl
  · split <;> simp [apply_ite State.rst]

/-! ### Decoders -/

@[simp] theorem State.setEngine_rst (s : State) (e : Nat) (j : Option DcxJob) : (s.setEngine e j).rst = s.rst := by
  simp [State.setEngine]

@[simp] theorem State.codecL2_rst (s : State) : s.codecL2.rst = s.rst := by
  unfold State.codecL2
  dsimp only
  rw [foldl_keeps State.rst (by simp), foldl_keeps State.rst (by simp)]

/-! ### Head ports -/

@[simp] theorem State.driveHeads_rst (s : State) (k : Nat) : (s.driveHeads k).rst = s.rst := by
  unfold State.driveHeads
  dsimp only
  split <;> rfl

@[simp] theorem State.beginWd_rst (s : State) (p c : Nat) : (s.beginWd p c).rst = s.rst := by
  unfold State.beginWd
  split <;> simp

@[simp] theorem State.endWd_rst (s : State) (p : Nat) : (s.endWd p).rst = s.rst := by
  unfold State.endWd
  split
  · split <;> simp
  · rfl

@[simp] theorem State.syncWd_rst (s : State) (p : Nat) : (s.syncWd p).rst = s.rst := by
  simp [State.syncWd, apply_ite State.rst]

@[simp] theorem State.paramLost_rst (s : State) (p : Nat) : (s.paramLost p).rst = s.rst :=
  foldl_keeps State.rst (by simp) _ s

@[simp] theorem State.portDown_rst (s : State) (p : Nat) : (s.portDown p).rst = s.rst := by
  simp [State.portDown]

@[simp] theorem State.loseLine_rst (s : State) (p n : Nat) : (s.loseLine p n).rst = s.rst := by
  unfold State.loseLine
  split
  · rfl
  · split
    · rfl
    · dsimp only
      rw [foldl_keeps State.rst (by simp)]
      simp [State.mapFrame]

@[simp] theorem State.resetPort_rst (s : State) (p : Nat) : (s.resetPort p).rst = s.rst := by
  unfold State.resetPort
  simp [foldl_keeps State.rst (fun t n => t.loseLine_rst p n)]

/-! ### Cameras -/

@[simp] theorem State.syncCam_rst (s : State) (n : Nat) : (s.syncCam n).rst = s.rst := by simp [State.syncCam]

@[simp] theorem State.makeCtxGen_rst (s : State) (c t : Nat) : (s.makeCtxGen c t).rst = s.rst := by
  simp [State.makeCtxGen, apply_ite State.rst]

@[simp] theorem State.releaseHeld_rst (s : State) (c : Nat) : (s.releaseHeld c).rst = s.rst := by
  unfold State.releaseHeld
  split
  · split <;> simp
  · rfl

@[simp] theorem State.calFrame_rst (s : State) (c q f : Nat) (rows : Plane) : (s.calFrame c q f rows).rst = s.rst := by
  unfold State.calFrame
  split
  · split <;> rfl
  · rfl

@[simp] theorem State.closeTrigger_rst (s : State) (c q f n : Nat) (rows : Plane) : (s.closeTrigger c q f n rows).rst = s.rst := by
  simp [State.closeTrigger]

@[simp] theorem State.closeAll_rst (s : State) (n f : Nat) : (s.closeAll n f).rst = s.rst :=
  foldl_keeps State.rst (fun t c => foldl_keeps State.rst (by simp) _ t) _ s

@[simp] theorem State.cutFrame_rst (s : State) (n f : Nat) : (s.cutFrame n f).rst = s.rst := by
  unfold State.cutFrame
  split <;> simp

@[simp] theorem State.resetCam_rst (s : State) (n : Nat) : (s.resetCam n).rst = s.rst := by
  simp [State.resetCam, State.camLost]

/-! ### The resets of functions, and the loss of a clock -/

@[simp] theorem State.resetStatus_rst (s : State) (r : Reg) (i : Nat) : (s.resetStatus r i).rst = s.rst :=
  foldl_keeps State.rst (by simp [apply_ite State.rst]) _ s

@[simp] theorem State.resetAxis_rst (s : State) (n : Nat) : (s.resetAxis n).rst = s.rst := by simp [State.resetAxis]

@[simp] theorem State.resetLamp_rst (s : State) (n : Nat) : (s.resetLamp n).rst = s.rst := by
  simp [State.resetLamp, State.darkLamp]

@[simp] theorem State.resetSlot_rst (s : State) (n : Nat) : (s.resetSlot n).rst = s.rst := by simp [State.resetSlot]

@[simp] theorem State.stopActivities_rst (s : State) : s.stopActivities.rst = s.rst := by
  unfold State.stopActivities
  simp only [State.put_frame]
  rw [foldl_keeps State.rst (by simp), foldl_keeps State.rst (by simp)]

@[simp] theorem State.enforceL2_rst (s : State) : s.enforceL2.rst = s.rst := foldl_keeps State.rst (by simp) _ s

@[simp] theorem State.resetFpe_rst (s : State) : s.resetFpe.rst = s.rst := by simp [State.resetFpe]

@[simp] theorem State.outputsSafe_rst (s : State) : s.outputsSafe.rst = s.rst := by
  unfold State.outputsSafe
  rw [(State.safeOutputs_frame _).2.2.2.2.2.1]
  exact foldl_keeps State.rst (by simp [apply_ite State.rst]) _ s

@[simp] theorem State.lanesLost_rst (s : State) (a n : Nat) : (s.lanesLost a n).rst = s.rst :=
  foldl_keeps State.rst (by simp [State.dropLock, apply_ite State.rst]) _ s

/-- What the loss of a clock stops is no part of the reset sequencing. -/
@[simp] theorem State.loseDomain_rst (s : State) (d : Nat) : (s.loseDomain d).rst = s.rst := by
  unfold State.loseDomain
  split
  · simp
  · rfl
  · simp
  · dsimp only
    rw [foldl_keeps State.rst (fun t p => t.portDown_rst p)]
    simp
  · simp
  · simp

/-- An L2 reset stops the print path and leaves the rest of the reset sequencing as it was. -/
theorem State.resetPath_rst (s : State) (ft : Bool) : (s.resetPath ft).rst = { s.rst with pathDown := true } := by
  unfold State.resetPath
  extract_lets idle ports axes cams lamps slots traces stopped _ _ _ _ _ emptied fpe ended role safe _ rst down
  have hports : ports.rst = s.rst := by
    rw [← s.calAbandon_rst]
    exact foldl_keeps State.rst (by simp [apply_ite State.rst]) _ _
  have haxes : axes.rst = ports.rst := foldl_keeps State.rst (by simp) _ _
  have hcams : cams.rst = axes.rst := foldl_keeps State.rst (by simp) _ _
  have hlamps : lamps.rst = cams.rst := foldl_keeps State.rst (by simp) _ _
  have hslots : slots.rst = lamps.rst := foldl_keeps State.rst (by simp) _ _
  have htraces : traces.rst = slots.rst := foldl_keeps State.rst (by simp) _ _
  have hstopped : stopped.rst = traces.rst := by simp [stopped]
  have hfpe : fpe.rst = stopped.rst := by simp [fpe, emptied, apply_ite State.rst]
  have hended : ended.rst = fpe.rst := foldl_keeps State.rst (by simp) _ _
  have hdown : (down.enforceL2.setDevState 0).rst = { ended.rst with pathDown := true } := by simp [down, rst, safe]
  rw [hdown, hended, hfpe, hstopped, htraces, hslots, hlamps, hcams, haxes, hports]

end Sys2Proof.Machine
end

section
/-!
Clock domains (R53 to R56): what a domain gains when it qualifies and what it loses with its clock.
-/
namespace Sys2Proof.Machine

/-- A bit that was 0 reads 1 after its weight is added, in a field wide enough to hold it. -/
theorem bit_add_weight {m d w : Nat} (hd : d < w) (unset : m / 2 ^ d % 2 ≠ 1) : (m + 2 ^ d) % 2 ^ w / 2 ^ d % 2 = 1 := by
  have set : (m + 2 ^ d).testBit d = true := by
    rw [Nat.testBit_eq_decide_div_mod_eq, Nat.add_div_right m (Nat.two_pow_pos d)]
    simp only [decide_eq_true_eq]
    omega
  have kept : ((m + 2 ^ d) % 2 ^ w).testBit d = true := by simp [Nat.testBit_mod_two_pow, hd, set]
  simpa [Nat.testBit_eq_decide_div_mod_eq] using kept

/-- A reason of unfitness that is set reads as set. -/
theorem State.unfitBit_setUnfit (s : State) {b : Nat} (hb : b < 11) : (s.setUnfit b true).unfitBit b = true := by
  unfold State.unfitBit State.setUnfit
  dsimp only
  rw [State.get_put_self]
  by_cases set : s.get TwStat.unfit 0 / 2 ^ b % 2 = 1
  · rw [if_pos rfl, if_pos set, Nat.mod_eq_of_lt (s.get_lt _ _), set]
    rfl
  · rw [if_pos rfl, if_neg set, beq_iff_eq]
    exact bit_add_weight hb set

theorem State.get_setUnfit_ne (s : State) (b : Nat) (on : Bool) {g : Fld} (h : TwStat.unfit.apart g = true) (j : Nat) :
    (s.setUnfit b on).get g j = s.get g j :=
  s.get_put_ne h 0 j _

/-- A domain of the nine reads as it was last set. -/
theorem State.qualified_setQualified (s : State) {d : Nat} (hd : d < s.rst.qualified.length) (on : Bool) :
    (s.setQualified d on).rst.qualified.getD d false = on := by
  simp [State.setQualified, hd]

theorem State.lt_of_qualified {s : State} {d : Nat} (h : s.rst.qualified.getD d false = true) : d < s.rst.qualified.length := by
  by_contra out
  rw [List.getD_eq_default _ _ (by omega)] at h
  exact absurd h (by decide)

/-- The start's next step moves the stage alone. -/
theorem State.clockStep_frame (s : State) : s.clockStep.rst.qualified = s.rst.qualified ∧ s.clockStep.ft = s.ft ∧
    s.clockStep.regs = s.regs ∧ s.clockStep.pins = s.pins ∧ s.clockStep.pages = s.pages := by
  unfold State.clockStep
  split
  · exact ⟨rfl, rfl, rfl, rfl, rfl⟩
  · exact ⟨rfl, rfl, rfl, rfl, rfl⟩

theorem State.get_clockStep (s : State) (g : Fld) (j : Nat) : s.clockStep.get g j = s.get g j := by
  obtain ⟨-, -, hregs, -, -⟩ := s.clockStep_frame
  unfold State.get
  rw [hregs]

@[simp] theorem State.loseStripe_ft (s : State) (q i : Nat) : (s.loseStripe q i).ft = s.ft := by
  unfold State.loseStripe
  split
  · rfl
  · split
    · rfl
    · simp [State.sendControl, apply_ite State.ft]

@[simp] theorem State.gainDomain_rst (s : State) (d : Nat) : (s.gainDomain d).rst = s.rst := by
  unfold State.gainDomain
  split
  · rfl
  · exact foldl_keeps State.rst (by simp) _ s
  · rfl

/-- FT time begins at 0 where FT itself qualifies, and is untouched otherwise (R18). -/
theorem State.gainDomain_ft (s : State) (d : Nat) : (s.gainDomain d).ft = if d = 0 then 0 else s.ft := by
  unfold State.gainDomain
  split
  · rfl
  · exact foldl_keeps State.ft (by simp) _ s
  · next h0 _ => rw [if_neg h0]

/-- A domain becomes qualified at its CLOCK_QUALIFIED, FT time beginning at 0 with FT (R18, R53). -/
theorem clockQualified_qualifies (d : Fin 9) (s : State) (shaped : s.shaped) (idle : s.rst.stretch = false)
    (read : s.rst.stage ≠ 1 ∨ s.get RstStatus.state 0 ≠ 0) (unqualified : s.rst.qualified.getD d.val true = false) :
    ∃ t, exec (.clockQualified d) s = .next t ∧ t.rst.qualified.getD d.val false = true ∧
      (d.val = 0 → t.ft = 0) ∧ (d.val ≠ 0 → t.ft = s.ft) := by
  obtain ⟨-, -, nine, -⟩ := shaped
  have waiting : ¬(s.rst.stretch = true ∨ (s.rst.stage = 1 ∧ s.get RstStatus.state 0 = 0) ∨ s.rst.qualified.getD d.val true = true) := by
    rw [idle, unqualified]
    simpa [imp_iff_not_or] using read
  have set := s.qualified_setQualified (d := d.val) (by omega) true
  let gained := if s.pins.phase = .configured ∨ d.val = 0 then (s.setQualified d true).gainDomain d else s.setQualified d true
  have hrst : gained.rst = (s.setQualified d true).rst := by simp [gained, apply_ite State.rst]
  have hft : gained.ft = if d.val = 0 then 0 else s.ft := by
    by_cases ft : d.val = 0 <;> simp [gained, ft, State.gainDomain_ft, apply_ite State.ft]
  obtain ⟨hqualified, hstepped, -⟩ := gained.clockStep_frame
  refine ⟨gained.clockStep, congrArg _ (if_neg waiting), ?_, ?_, ?_⟩
  · rw [hqualified, hrst, set]
  · intro h
    rw [hstepped, hft, if_pos h]
  · intro h
    rw [hstepped, hft, if_neg h]

/-- DOMAIN_CLK_FAIL is recorded and the domain's bit of CLK_FAIL set. -/
def State.noteClkFail (s : State) (d : Nat) : State :=
  let t := s.record .domainClkFail d []
  if s.get RstStatus.clkFail 0 / 2 ^ d % 2 = 1 then t else t.put RstStatus.clkFail 0 (s.get RstStatus.clkFail 0 + 2 ^ d)

theorem State.noteClkFail_frame (s : State) (d : Nat) : (s.noteClkFail d).rst = s.rst ∧ (s.noteClkFail d).pins = s.pins ∧
    (s.noteClkFail d).pages = s.pages := by
  unfold State.noteClkFail
  dsimp only
  split <;> simp

theorem State.clkFail_noteClkFail (s : State) {d : Nat} (hd : d < 9) :
    (s.noteClkFail d).get RstStatus.clkFail 0 / 2 ^ d % 2 = 1 := by
  unfold State.noteClkFail
  dsimp only
  split
  next set => rw [State.get_record _ _ _ _ _ _ (by decide), set]
  next unset => rw [State.get_put_self]; exact bit_add_weight hd unset

/-- A qualification that does not come in time leaves the domain as it is and marks the device degraded (R54). -/
theorem clockQualTimeout_degrades (d : Fin 9) (s : State) (idle : s.rst.stretch = false)
    (unqualified : s.rst.qualified.getD d.val true = false) :
    ∃ t, exec (.clockQualTimeout d) s = .next t ∧ t.rst.qualified = s.rst.qualified ∧ t.flag RstStatus.degraded 0 = true ∧
      t.get RstStatus.clkFail 0 / 2 ^ d.val % 2 = 1 ∧ t.unfitBit unfitDegraded = true ∧ t.pins = s.pins ∧ t.pages = s.pages := by
  have waiting : ¬(s.rst.stretch = true ∨ s.rst.qualified.getD d.val true = true) := by
    rw [idle, unqualified]
    decide
  obtain ⟨hrst, hpins, hpages⟩ := s.noteClkFail_frame d
  let degraded := ((s.noteClkFail d).put RstStatus.degraded 0 1).setUnfit unfitDegraded true
  obtain ⟨hqualified, -, -, hpins', hpages'⟩ := degraded.clockStep_frame
  refine ⟨degraded.clockStep, congrArg _ (if_neg waiting), ?_, ?_, ?_, ?_, ?_, ?_⟩
  · simp [hqualified, degraded, hrst]
  · rw [State.flag, State.get_clockStep, State.get_setUnfit_ne _ _ _ (by decide), State.get_put_self]
    rfl
  · rw [State.get_clockStep, State.get_setUnfit_ne _ _ _ (by decide), State.get_put_ne _ (by decide)]
    exact s.clkFail_noteClkFail d.isLt
  · unfold State.unfitBit
    rw [State.get_clockStep]
    exact State.unfitBit_setUnfit _ (by decide)
  · simp [hpins', degraded, hpins]
  · simp [hpages', degraded, hpages]

/-- A clock that is lost takes its domain's functions with it and starts no reset, FT apart (R56). -/
theorem domainClkLost_stops (d : Fin 9) (s : State) (other : d.val ≠ 0) (qualified : s.rst.qualified.getD d.val false = true) :
    ∃ t, exec (.domainClkLost d) s = .next t ∧ t.rst.qualified.getD d.val false = false ∧ t.rst.stretch = s.rst.stretch ∧
      (d.val = 1 → t.scr.ring = []) ∧ (d.val = 2 → t.isUp 128 = false ∧ t.isUp 136 = false) ∧
      (d.val = 3 → ∀ p, p < 128 → t.isUp p = false) ∧ (d.val = 4 → t.flag NetStat.eUp 0 = false ∧ t.flag NetStat.wUp 0 = false) := by
  let lost := (s.setQualified d false).record .domainClkLost d []
  have hlost : s.clockLost d = lost.loseDomain d := by
    unfold State.clockLost
    rw [if_neg (not_not.mpr qualified), if_neg other]
  have hrst : (lost.loseDomain d).rst = (s.setQualified d false).rst := by simp [lost]
  refine ⟨lost.loseDomain d, congrArg _ hlost, ?_, ?_, ?_, ?_, ?_, ?_⟩
  · rw [hrst]
    exact s.qualified_setQualified (State.lt_of_qualified qualified) false
  · rw [hrst]
    rfl
  · intro h
    rw [h]
    rfl
  · intro h
    rw [h]
    simp [State.loseDomain, State.isUp]
  · intro h p hp
    rw [h]
    simp [State.loseDomain, State.isUp, hp]
  · intro h
    rw [h]
    simp (disch := decide) [State.loseDomain, State.flag]

/-- Settles O14. -/
theorem clockQualification : Obligations.ClockQualification :=
  ⟨clockQualified_qualifies, clockQualTimeout_degrades, domainClkLost_stops⟩

end Sys2Proof.Machine
end

section
/-!
Reset sources (R41, R46, R47, R50): what raising one does in a device that is in RUN or PARK and holds no reset back.
-/
namespace Sys2Proof.Machine

/-! ### What the raising of a source looks at -/

/-- The device is in RUN or PARK, in no stretch, holds no reset back and is not the active twin. -/
def ResetReady (s : State) : Prop :=
  s.rst.stretch = false ∧ s.twin.faultHold = none ∧ s.role ≠ roleActive ∧ s.operating = true

/-- The register fields that decide how a source is raised. -/
abbrev resetFields : List Fld := TwStat.role :: RstStatus.state :: Reg.rstFuseMap.fields

theorem FieldsKept.resetField {p : Fld → Nat → Bool} {s t : State} (h : FieldsKept p s t) (hp : ∀ f ∈ resetFields, p f 0 = false)
    {f : Fld} (hf : f ∈ resetFields) : t.get f 0 = s.get f 0 := by
  have mapped : ∀ f ∈ resetFields, f ∈ f.reg.fields := by decide
  exact h f.reg f 0 (mapped f hf) (hp f hf)

theorem ResetReady.of_kept {p : Fld → Nat → Bool} {s t : State} (h : ResetReady s) (kept : FieldsKept p s t)
    (hp : ∀ f ∈ resetFields, p f 0 = false) (hstretch : t.rst.stretch = s.rst.stretch) (htwin : t.twin = s.twin) : ResetReady t := by
  unfold ResetReady State.role State.operating at *
  rw [hstretch, htwin, kept.resetField hp (f := TwStat.role) (by decide), kept.resetField hp (f := RstStatus.state) (by decide)]
  exact h

theorem wordOf_congr {g g' : Fld → Nat} {l : List Fld} (h : ∀ f ∈ l, g f = g' f) : wordOf g l = wordOf g' l := by
  induction l with
  | nil => rfl
  | cons f l ih =>
    unfold wordOf
    rw [h f List.mem_cons_self, ih fun f hf => h f (List.mem_cons_of_mem _ hf)]

theorem FieldsKept.fuseLevel {p : Fld → Nat → Bool} {s t : State} (h : FieldsKept p s t) (hp : ∀ f ∈ resetFields, p f 0 = false)
    (src : Nat) : t.fuseLevel src = s.fuseLevel src := by
  have word : t.rawWord .rstFuseMap 0 = s.rawWord .rstFuseMap 0 :=
    wordOf_congr fun f hf => by rw [h.resetField hp (List.mem_cons_of_mem _ (List.mem_cons_of_mem _ hf))]
  unfold State.fuseLevel
  rw [word]

/-! ### What it does -/

/-- The stretch of a reset of a level with one source runs, RESET_N low. -/
def ResetBy (src lvl : Nat) (t : State) : Prop :=
  t.rst.stretch = true ∧ t.pins.resetN = false ∧ t.rst.sources = [src] ∧ t.rst.level = lvl

/-- The state in which the reset of a source is carried out: a start in progress has failed, no source is recorded yet. -/
def State.beforeReset (s : State) (src lvl : Nat) : State :=
  let t := if lvl < 3 then s.failStart src else s
  { t with rst := { t.rst with sources := [], timeout := false } }

theorem State.failStart_frame (s : State) (src : Nat) : (s.failStart src).rst.stretch = s.rst.stretch ∧
    (s.failStart src).rst.qualified = s.rst.qualified ∧ (s.failStart src).sps = s.sps ∧ (s.failStart src).twin = s.twin := by
  unfold State.failStart
  split <;> exact ⟨rfl, rfl, rfl, rfl⟩

theorem State.failStart_kept (s : State) (src : Nat) : FieldsKept (onlyAt [RstStart.failcnt] 0) s (s.failStart src) := by
  unfold State.failStart
  split
  · exact (FieldsKept.put s 0 _ (f := RstStart.failcnt) (by decide) (by decide)).trans (.of_regs _ rfl)
  · exact .of_regs _ rfl

theorem State.beforeReset_frame (s : State) (src lvl : Nat) : (s.beforeReset src lvl).rst.stretch = s.rst.stretch ∧
    (s.beforeReset src lvl).rst.qualified = s.rst.qualified ∧ (s.beforeReset src lvl).sps = s.sps ∧
    (s.beforeReset src lvl).rst.sources = [] := by
  obtain ⟨hstretch, hqualified, hsps, -⟩ := s.failStart_frame src
  unfold State.beforeReset
  dsimp only
  split
  · exact ⟨hstretch, hqualified, hsps, rfl⟩
  · exact ⟨rfl, rfl, rfl, rfl⟩

theorem State.operating_beforeReset (s : State) (src lvl : Nat) : (s.beforeReset src lvl).operating = s.operating := by
  have state : (s.failStart src).get RstStatus.state 0 = s.get RstStatus.state 0 :=
    s.failStart_kept src _ _ 0 (by decide : RstStatus.state ∈ Reg.rstStatus.fields) (by decide)
  unfold State.beforeReset State.operating
  dsimp only
  split
  · change ((s.failStart src).get RstStatus.state 0 == 1 || (s.failStart src).get RstStatus.state 0 == 2) = _
    rw [state]
  · rfl

/-- Raising a source in a device that is ready for it carries its reset out at once (R46). -/
theorem ResetReady.raiseAt_eq {s : State} (h : ResetReady s) (src lvl : Nat) (targets : List (Nat × Nat)) (timeout : Bool) :
    s.raiseAt src lvl targets timeout = (s.beforeReset src lvl).applyReset lvl [src] targets timeout := by
  obtain ⟨hstretch, hhold, hrole, hrun⟩ := h
  have started : s.get RstStatus.state 0 ≠ 0 := by
    intro h0
    simp [State.operating, h0] at hrun
  let failed := if lvl < 3 then s.failStart src else s
  have hfailed : failed.role = s.role ∧ failed.twin.faultHold = none := by
    obtain ⟨-, -, -, htwin⟩ := s.failStart_frame src
    have role : (s.failStart src).role = s.role :=
      s.failStart_kept src _ _ 0 (by decide : TwStat.role ∈ Reg.twStat.fields) (by decide)
    dsimp only [failed]
    split
    · exact ⟨role, htwin ▸ hhold⟩
    · exact ⟨rfl, hhold⟩
  obtain ⟨hrole', hhold'⟩ := hfailed
  unfold State.raiseAt
  dsimp only
  rw [if_neg (by simp [hstretch]), if_neg (fun h => started h.1), if_neg started, if_neg (fun h => hrole (hrole' ▸ h.1)), hhold']
  rfl

/-- The reset of a level outside a stretch begins one. -/
theorem State.applyReset_resetBy (s : State) (hstretch : s.rst.stretch = false) (hsources : s.rst.sources = []) (src lvl : Nat)
    (targets : List (Nat × Nat)) (timeout : Bool) : ResetBy src lvl (s.applyReset lvl [src] targets timeout) := by
  simp [State.applyReset, ResetBy, hstretch, hsources]
  rfl

theorem State.applyReset_targets (s : State) (hstretch : s.rst.stretch = false) (srcs : List Nat) (lvl : Nat)
    (targets : List (Nat × Nat)) (timeout : Bool) : (s.applyReset lvl srcs targets timeout).rst.targets = targets := by
  simp [State.applyReset, hstretch]

/-- An L1 reset leaves no domain qualified. -/
theorem State.warm_qualified (s : State) : s.warm.rst.qualified = ResetSt.reset.qualified := by
  unfold State.warm
  dsimp only
  split
  · rfl
  · rfl

/-- FT does not qualify by a reset. -/
theorem State.applyReset_unqualified (s : State) (h : s.rst.qualified.getD 0 false = false) (lvl : Nat) (srcs : List Nat)
    (timeout : Bool) : (s.applyReset lvl srcs [] timeout).rst.qualified.getD 0 false = false := by
  unfold State.applyReset
  dsimp only
  split
  · exact h
  · split
    · rfl
    · rw [State.warm_qualified]
      rfl
    · split
      · exact h
      · rw [State.resetPath_rst]
        exact h
    · exact h

theorem State.calAbandon_sps (s : State) : s.calAbandon.sps = s.sps := by
  unfold State.calAbandon
  split <;> simp [State.calEnd]

/-- An L3 reset of a service processor stops it, whatever else it ends (R61). -/
theorem State.resetTarget_sps (s : State) (p : Nat) : (s.resetTarget (5, p)).sps = s.sps.set p false := by
  simp only [State.resetTarget]
  split
  · rw [State.calAbandon_sps]
  · rfl

/-- An L3 reset carries out its one target in a device that operates. -/
theorem State.applyReset_l3_sps (s : State) (hstretch : s.rst.stretch = false) (run : s.operating = true) (srcs : List Nat) (p : Nat)
    (timeout : Bool) : (s.applyReset 3 srcs [(5, p)] timeout).sps = s.sps.set p false := by
  simp [State.applyReset, hstretch, run, State.resetTarget_sps]

section
variable {s : State} (ready : ResetReady s)
include ready

theorem ResetReady.raiseAt_resetBy (src lvl : Nat) (targets : List (Nat × Nat)) (timeout : Bool) :
    ResetBy src lvl (s.raiseAt src lvl targets timeout) ∧ (s.raiseAt src lvl targets timeout).rst.targets = targets := by
  obtain ⟨hstretch, -, -, hsources⟩ := s.beforeReset_frame src lvl
  rw [ready.1] at hstretch
  rw [ready.raiseAt_eq]
  exact ⟨State.applyReset_resetBy _ hstretch hsources src lvl targets timeout, State.applyReset_targets _ hstretch _ _ _ _⟩

/-- A source starts a stretch at the level that its fuse names (R41, R46). -/
theorem ResetReady.raiseSource_resetBy (src : Nat) (targets : List (Nat × Nat)) :
    ResetBy src (s.fuseLevel src) (s.raiseSource src targets) :=
  (ready.raiseAt_resetBy src _ targets false).1

theorem ResetReady.raiseSource_unqualified (h : s.rst.qualified.getD 0 false = false) (src : Nat) :
    (s.raiseSource src []).rst.qualified.getD 0 false = false := by
  obtain ⟨-, hqualified, -, -⟩ := s.beforeReset_frame src (s.fuseLevel src)
  unfold State.raiseSource
  rw [ready.raiseAt_eq]
  exact State.applyReset_unqualified _ (hqualified ▸ h) _ _ _

/-- A service processor that is the target of an L3 reset stops (R20, R61). -/
theorem ResetReady.raiseSource_stopsSp (shaped : s.shaped) {src p : Nat} (hp : p < 4) (l3 : s.fuseLevel src = 3) :
    (s.raiseSource src [(5, p)]).spUp p = false := by
  obtain ⟨hstretch, -, hsps, -⟩ := s.beforeReset_frame src 3
  obtain ⟨idle, -, -, run⟩ := id ready
  obtain ⟨-, four, -⟩ := shaped
  unfold State.raiseSource State.spUp
  rw [ready.raiseAt_eq, l3, State.applyReset_l3_sps _ (hstretch.trans idle) ((s.operating_beforeReset src 3).trans run), hsps]
  simp [four, hp]

end

/-- A source that stays active is still the source of its stretch. -/
theorem ResetBy.hold {src lvl q : Nat} {t : State} (h : ResetBy src lvl t) : ResetBy src lvl (t.hold q) := h

theorem State.active_hold (s : State) (q : Nat) : (s.hold q).rst.active.contains q = true := by
  unfold State.hold
  dsimp only
  split
  · assumption
  · simp

/-! ### What the sources do before they are raised -/

@[simp] theorem State.haltAxis_twin (s : State) (n : Nat) : (s.haltAxis n).twin = s.twin := by
  simp [State.haltAxis, State.axState]

theorem State.outputsSafe_twin (s : State) : s.outputsSafe.twin = s.twin := by
  unfold State.outputsSafe
  simp only [State.safeOutputs_frame]
  exact foldl_keeps State.twin (by simp [apply_ite State.twin]) _ s

/-- What shows the motion of an axis. -/
abbrev axisShown : List Fld := [AxStat.state, AxVnow.v, AxStat.qsTime]

theorem State.axState_kept (s : State) (n : Nat) : FieldsKept (only axisShown) s (s.axState n) :=
  ((FieldsKept.put s n _ (f := AxStat.state) (by decide) rfl).trans (.put _ n _ (f := AxVnow.v) (by decide) rfl)).trans
    (.put _ n _ (f := AxStat.qsTime) (by decide) rfl)

theorem State.haltAxis_kept (s : State) (n : Nat) : FieldsKept (only axisShown) s (s.haltAxis n) :=
  FieldsKept.trans (.of_regs _ (by simp)) (State.axState_kept _ n)

/-- Outputs at their safe levels: of the registers only what shows an axis standing still has changed. -/
theorem State.outputsSafe_kept (s : State) :
    FieldsKept (only axisShown) s s.outputsSafe := by
  unfold State.outputsSafe
  have halted : FieldsKept (only axisShown) s
      ((List.range 8).foldl (fun t n => if (t.axis n).v = 0 then t else t.haltAxis n) s) := by
    refine foldl_rel (.refl _) .trans (fun t n => ?_) _ s
    split
    · exact .refl _ t
    · exact t.haltAxis_kept n
  exact halted.trans (.of_regs _ (by simp))

/-- TJ is taken: MON_TEMP shows it. -/
theorem State.takeTj_kept (s : State) (tj : Word) : FieldsKept (only [MonTemp.tj]) s (s.takeTj tj) := by
  have taken : FieldsKept (only [MonTemp.tj]) s (s.put MonTemp.tj 0 (tj.toNat % 4096)) := .put s 0 _ (by decide) (by decide)
  unfold State.takeTj
  dsimp only
  split
  · exact taken.trans (.of_regs _ (by simp))
  · exact taken

/-- A rail at its reset level: VMIN and RSEEN of the rail. -/
def State.railLow (s : State) (r mv : Nat) : State :=
  let t := (s.trackMin r mv).put MonRail.rseen r 1
  { t with rst := { t.rst with low := if t.rst.low.contains r then t.rst.low else r :: t.rst.low } }

theorem State.railLow_kept (s : State) (r mv : Nat) : FieldsKept (only [MonRail.vmin, MonRail.rseen]) s (s.railLow r mv) :=
  ((FieldsKept.put s r _ (f := MonRail.vmin) (by decide) rfl).trans (.put _ r 1 (f := MonRail.rseen) (by decide) rfl)).trans
    (.of_regs _ rfl)

theorem ResetReady.takeTj {s : State} (ready : ResetReady s) (tj : Word) : ResetReady (s.takeTj tj) := by
  refine ready.of_kept (s.takeTj_kept tj) (by decide) ?_ ?_
  · unfold State.takeTj
    dsimp only
    split <;> rfl
  · unfold State.takeTj
    dsimp only
    split <;> rfl

theorem ResetReady.railLow {s : State} (ready : ResetReady s) (r mv : Nat) : ResetReady (s.railLow r mv) :=
  ready.of_kept (s.railLow_kept r mv) (by decide) rfl rfl

theorem ResetReady.outputsSafe {s : State} (ready : ResetReady s) : ResetReady s.outputsSafe :=
  ready.of_kept s.outputsSafe_kept (by decide) (by rw [s.outputsSafe_rst]) s.outputsSafe_twin

/-- A rail below its reset level, but for the rails of the clocks and of the island: its source, held until the rail settles. -/
theorem execRailResetLevel_core (s : State) {mv : Nat} (h : mv < 620) :
    exec (.railResetLevel 0 mv) s = .next (((s.railLow 0 mv).raiseSource 1 []).hold 1) := by
  have low : ¬railResetMv.getD (0 : Fin 6).val 0 ≤ mv := Nat.not_le.mpr h
  change execRailResetLevel 0 mv s = _
  unfold execRailResetLevel
  dsimp only
  rw [if_neg low]
  rfl

theorem execRailResetLevel_ft (s : State) {mv : Nat} (h : mv < 740) :
    exec (.railResetLevel 1 mv) s = .next (((s.railLow 1 mv).outputsSafe.raiseSource 10 []).hold 10) := by
  have low : ¬railResetMv.getD (1 : Fin 6).val 0 ≤ mv := Nat.not_le.mpr h
  change execRailResetLevel 1 mv s = _
  unfold execRailResetLevel
  dsimp only
  rw [if_neg low]
  rfl

theorem execRailResetLevel_io (s : State) {mv : Nat} (h : mv < 2850) :
    exec (.railResetLevel 2 mv) s = .next (((s.railLow 2 mv).raiseSource 2 []).hold 2) := by
  have low : ¬railResetMv.getD (2 : Fin 6).val 0 ≤ mv := Nat.not_le.mpr h
  change execRailResetLevel 2 mv s = _
  unfold execRailResetLevel
  dsimp only
  rw [if_neg low]
  rfl

/-- The loss of FT, before its source is raised. -/
def State.ftLost (s : State) : State := ((s.setQualified 0 false).record .domainClkLost 0 []).outputsSafe

theorem execDomainClkLost_ft (s : State) (h : s.rst.qualified.getD 0 false = true) :
    exec (.domainClkLost 0) s = .next (s.ftLost.raiseSource 10 []) := by
  change Host.Outcome.next (s.clockLost 0) = _
  unfold State.clockLost
  rw [if_neg (not_not.mpr h), if_pos rfl]
  rfl

theorem State.ftLost_kept (s : State) : FieldsKept (only axisShown) s s.ftLost :=
  ((FieldsKept.of_regs _ rfl).trans (.record (s.setQualified 0 false) _ 0 [] fun f _ h => by unfold only; rw [h]; rfl)).trans
    (State.outputsSafe_kept _)

theorem State.ftLost_rst (s : State) : s.ftLost.rst = (s.setQualified 0 false).rst := by
  simp [State.ftLost]

theorem ResetReady.ftLost {s : State} (ready : ResetReady s) : ResetReady s.ftLost :=
  ready.of_kept s.ftLost_kept (by decide) (by rw [s.ftLost_rst]; rfl) (by simp [State.ftLost, State.outputsSafe_twin])

theorem only_mono {l l' : List Fld} (h : l ⊆ l') (f : Fld) (i : Nat) (hf : only l f i = true) : only l' f i = true := by
  unfold only at *
  simp only [Bool.or_eq_true, List.contains_iff_mem] at *
  exact hf.imp_right fun m => h m

/-- The stretch of a source begins at the level of its fuse, and the source is active until it is released. -/
def HeldResetBy (src lvl : Nat) (t : State) : Prop :=
  t.rst.stretch = true ∧ t.pins.resetN = false ∧ t.rst.sources = [src] ∧ t.rst.level = lvl ∧ t.rst.active.contains src = true

/-- A source that is raised and held, where what came before it has left the fuses as they were. -/
theorem ResetReady.raise_held {p : Fld → Nat → Bool} {s t : State} (ready : ResetReady t) (kept : FieldsKept p s t)
    (hp : ∀ f ∈ resetFields, p f 0 = false) (src : Nat) : HeldResetBy src (s.fuseLevel src) ((t.raiseSource src []).hold src) := by
  obtain ⟨hstretch, hpin, hsources, hlevel⟩ := ready.raiseSource_resetBy src []
  exact ⟨hstretch, hpin, hsources, hlevel.trans (kept.fuseLevel hp src), State.active_hold _ src⟩

/-- Settles O8: each source leaves what raising looks at as it was, and raising it begins the stretch. -/
theorem resetSourcesStartStretch : Obligations.ResetSourcesStartStretch := by
  intro s idle unheld passive run
  have ready : ResetReady s := ⟨idle, unheld, passive, run⟩
  refine ⟨fun n => ⟨_, rfl, ready.raiseSource_resetBy 5 []⟩, fun p => ?_, fun ns long high settled => ?_, fun tj hot => ?_,
    fun partner => ?_, ?_, fun mv low => ?_, fun mv low => ?_, fun mv low => ?_, fun qualified => ?_⟩
  · obtain ⟨hstretch, hpin, hsources, hlevel⟩ := ready.raiseSource_resetBy 4 [(5, p.val)]
    exact ⟨_, rfl, hstretch, hpin, hsources, hlevel, fun l3 =>
      ⟨(ready.raiseAt_resetBy 4 _ _ _).2, fun shaped => ready.raiseSource_stopsSp shaped p.isLt l3⟩⟩
  · have heard : ¬(ns < 200 ∨ ¬s.pins.resetN = true ∨ s.now < s.rst.endAt + us 2) := by
      simp only [high, not_true_eq_false, false_or, not_or]
      omega
    exact ⟨s.raiseSource 3 [], congrArg _ ((if_neg heard).trans (if_pos long)), ready.raiseSource_resetBy 3 []⟩
  · exact ⟨_, congrArg Host.Outcome.next (if_pos hot), (ready.takeTj tj).raise_held (s.takeTj_kept tj) (by decide) 6⟩
  · have paired : ¬s.solo = true := by simp [partner]
    exact ⟨_, congrArg Host.Outcome.next (if_neg paired), ready.raiseSource_resetBy 7 []⟩
  · obtain ⟨hstretch, hpin, hsources, hlevel⟩ := ready.raiseSource_resetBy 13 []
    have l0 : s.fuseLevel 13 = 0 := by
      simp [State.fuseLevel, permitted]
    exact ⟨_, rfl, hstretch, hpin, hsources, hlevel.trans l0⟩
  · exact ⟨_, execRailResetLevel_core s low, (ready.railLow 0 mv).raise_held (s.railLow_kept 0 mv) (by decide) 1⟩
  · have kept : FieldsKept (only ([MonRail.vmin, MonRail.rseen] ++ axisShown)) s (s.railLow 1 mv).outputsSafe :=
      ((s.railLow_kept 1 mv).mono (only_mono (by simp))).trans ((State.outputsSafe_kept _).mono (only_mono (by simp)))
    exact ⟨_, execRailResetLevel_ft s low, (ready.railLow 1 mv).outputsSafe.raise_held kept (by decide) 10⟩
  · exact ⟨_, execRailResetLevel_io s low, (ready.railLow 2 mv).raise_held (s.railLow_kept 2 mv) (by decide) 2⟩
  · obtain ⟨hstretch, hpin, hsources, hlevel⟩ := ready.ftLost.raiseSource_resetBy 10 []
    have unqualified : s.ftLost.rst.qualified.getD 0 false = false := by
      rw [s.ftLost_rst]
      exact s.qualified_setQualified (State.lt_of_qualified qualified) false
    exact ⟨_, execDomainClkLost_ft s qualified, hstretch, hpin, hsources, hlevel.trans (s.ftLost_kept.fuseLevel (by decide) 10),
      ready.ftLost.raiseSource_unqualified unqualified 10⟩

end Sys2Proof.Machine
end

section
/-!
The fence input (R34, R35, R429): what the safe outputs are, what giving up the role leaves of them, and the input's two edges.
-/
namespace Sys2Proof.Machine

/-! ### The outputs at their safe levels -/

theorem State.committed_congr {s t : State} (h : t.pins = s.pins) : t.committed = s.committed := by
  unfold State.committed
  rw [h]

/-- From pin commit onward the outputs take the levels of Table 02-4 (R34). -/
theorem State.safeOutputs_atSafe (s : State) (h : s.committed = true) : s.safeOutputs.pins.atSafe := by
  unfold State.safeOutputs
  rw [if_pos h]
  simp [Pins.atSafe]

/-- Making the outputs safe leaves AXn_DIR, the fence input and the phase of the pins as they were. -/
theorem State.safeOutputs_pins (s : State) : s.safeOutputs.pins.axDir = s.pins.axDir ∧
    s.safeOutputs.pins.fenceInN = s.pins.fenceInN ∧ s.safeOutputs.committed = s.committed := by
  unfold State.safeOutputs
  split
  · exact ⟨rfl, rfl, rfl⟩
  · exact ⟨rfl, rfl, rfl⟩

/-- The axes that move are halted. -/
def State.haltAxes (s : State) : State := (List.range 8).foldl (fun t n => if (t.axis n).v = 0 then t else t.haltAxis n) s

theorem State.outputsSafe_eq (s : State) : s.outputsSafe = s.haltAxes.safeOutputs := rfl

@[simp] theorem State.haltAxis_frame (s : State) (n : Nat) :
    (s.haltAxis n).pins = s.pins ∧ (s.haltAxis n).pages = s.pages ∧ (s.haltAxis n).dram = s.dram := ⟨rfl, rfl, rfl⟩

theorem State.haltAxes_frame (s : State) :
    s.haltAxes.pins = s.pins ∧ s.haltAxes.pages = s.pages ∧ s.haltAxes.dram = s.dram :=
  ⟨foldl_keeps State.pins (by simp [apply_ite State.pins]) _ s, foldl_keeps State.pages (by simp [apply_ite State.pages]) _ s,
    foldl_keeps State.dram (by simp [apply_ite State.dram]) _ s⟩

theorem State.outputsSafe_atSafe (s : State) (h : s.committed = true) : s.outputsSafe.pins.atSafe :=
  s.haltAxes.safeOutputs_atSafe ((State.committed_congr s.haltAxes_frame.1).trans h)

theorem State.outputsSafe_frame (s : State) : s.outputsSafe.pins.axDir = s.pins.axDir ∧
    s.outputsSafe.pins.fenceInN = s.pins.fenceInN ∧ s.outputsSafe.committed = s.committed ∧
    s.outputsSafe.pages = s.pages ∧ s.outputsSafe.dram = s.dram := by
  obtain ⟨hpins, hpages, hdram⟩ := s.haltAxes_frame
  obtain ⟨hdir, hfence, hcommitted⟩ := s.haltAxes.safeOutputs_pins
  rw [s.outputsSafe_eq]
  refine ⟨hdir.trans (by rw [hpins]), hfence.trans (by rw [hpins]), hcommitted.trans (State.committed_congr hpins), ?_, ?_⟩
  · simpa using hpages
  · simpa using hdram

/-! ### The ports of a device that may not drive -/

/-- The registers of a calibration that is abandoned. -/
abbrev calFields : List Fld := [CalStat.state, CalStat.abandoned]

theorem State.calWatch_only (s : State) :
    s.calWatch = { s with regs := s.calWatch.regs, ev := s.calWatch.ev, cal := s.calWatch.cal } := by
  unfold State.calWatch State.calAbandon
  split
  · split
    · rfl
    · obtain ⟨x, y, h⟩ := (s.calEnd.put CalStat.abandoned 0 1).record_eq .calAbandon s.cal.kind []
      rw [h]
      rfl
  · rfl

theorem State.calWatch_kept (s : State) : FieldsKept (only calFields) s s.calWatch := by
  have ended : FieldsKept (only calFields) s s.calEnd :=
    .trans (.of_regs _ rfl) (.put _ 0 calIdle (f := CalStat.state) (by decide) rfl)
  unfold State.calWatch State.calAbandon
  split
  · split
    · exact .refl _ s
    · exact (ended.trans (.put _ 0 1 (f := CalStat.abandoned) (by decide) rfl)).trans
        (.record _ _ _ _ fun f _ h => by unfold only; rw [h]; rfl)
  · exact .refl _ s

/-- A device that does not act, its fence input low and every port without drive power. -/
def State.undriven (s : State) : Prop :=
  s.acting = false ∧ s.pins.fenceInN = false ∧ ∀ b ∈ s.pins.hdenN, b = true

/-- A port gets no drive power while the fence input is low (R35). -/
theorem State.driveHeads_of_fenceLow {s : State} (low : s.pins.fenceInN = false) (off : ∀ b ∈ s.pins.hdenN, b = true) (k : Nat) :
    s.driveHeads k = s := by
  have unasserted : s.mayAssert = false := by simp [State.mayAssert, low]
  have same : s.pins.hdenN.set k true = s.pins.hdenN := by
    refine List.ext_getElem (by simp) fun i hi hi' => ?_
    rw [List.getElem_set]
    split
    · exact (off _ (List.getElem_mem hi')).symm
    · rfl
  unfold State.driveHeads
  rw [unasserted]
  dsimp only
  split
  · rw [Bool.false_and, Bool.not_false, same]
  · rfl

/-- What bringing the ports into line with the role changes in a device that may not drive: the requests that wait, and a
calibration that has lost its source. -/
def PortsKept (s t : State) : Prop :=
  t = { s with regs := t.regs, ev := t.ev, cal := t.cal, ports := t.ports } ∧ FieldsKept (only calFields) s t

theorem PortsKept.refl (s : State) : PortsKept s s := ⟨rfl, .refl _ s⟩

theorem PortsKept.trans {s t u : State} (h : PortsKept s t) (h' : PortsKept t u) : PortsKept s u := by
  obtain ⟨hrest, hregs⟩ := h
  obtain ⟨hrest', hregs'⟩ := h'
  rw [hrest] at hrest'
  exact ⟨hrest', hregs.trans hregs'⟩

theorem PortsKept.pins {s t : State} (h : PortsKept s t) : t.pins = s.pins := by
  rw [h.1]

theorem PortsKept.acting {s t : State} (h : PortsKept s t) : t.acting = s.acting := by
  have role : t.role = s.role := h.2 _ _ 0 (by decide : TwStat.role ∈ Reg.twStat.fields) (by decide)
  unfold State.acting
  rw [role]

theorem PortsKept.undriven {s t : State} (h : PortsKept s t) (hs : s.undriven) : t.undriven := by
  unfold State.undriven
  rw [h.acting, h.pins]
  exact hs

theorem PortsKept.calWatch (s : State) : PortsKept s s.calWatch :=
  ⟨by rw [s.calWatch_only], s.calWatch_kept⟩

/-- A device that may not drive begins and ends no withdrawal and drives no port. -/
theorem State.undriven.syncWd {s : State} (h : s.undriven) (p : Nat) : s.syncWd p = s.calWatch := by
  obtain ⟨idle, low, off⟩ := (PortsKept.calWatch s).undriven h
  unfold State.syncWd
  rw [State.driveHeads_of_fenceLow low off]
  dsimp only
  rw [idle]
  rfl

theorem State.undriven.syncPorts {s : State} (h : s.undriven) : PortsKept s s.syncPorts := by
  refine foldl_rel (R := fun s t => s.undriven → PortsKept s t) (fun s _ => .refl s)
    (fun h h' hs => (h hs).trans (h' ((h hs).undriven hs))) (fun t e ht => ?_) _ s h
  have withdrawn : PortsKept t (t.mapPort e.1 fun x => { x with waiting := x.waiting.filter (fun r => t.opAllowed e.1 r.op) }) :=
    ⟨rfl, .of_regs _ rfl⟩
  rw [(withdrawn.undriven ht).syncWd]
  exact withdrawn.trans (.calWatch _)

/-! ### Giving up the role (R429) -/

/-- A bit above one that was 0 is not touched when that one's weight is added. -/
theorem bit_add_lower {m b c w : Nat} (lower : b < c) (hc : c < w) (unset : m / 2 ^ b % 2 ≠ 1) :
    (m + 2 ^ b) % 2 ^ w / 2 ^ c % 2 = m / 2 ^ c % 2 := by
  obtain ⟨d, rfl⟩ := Nat.exists_eq_add_of_lt lower
  have nocarry : (m / 2 ^ b + 1) / 2 = m / 2 ^ b / 2 := by omega
  have halved (x : Nat) : x.testBit (b + d + 1) = (x / 2 ^ b / 2).testBit d := by
    rw [Nat.div_div_eq_div_mul, ← Nat.pow_succ, Nat.testBit_div_two_pow, show d + (b + 1) = b + d + 1 by omega]
  have above : (m + 2 ^ b).testBit (b + d + 1) = m.testBit (b + d + 1) := by
    rw [halved, halved, Nat.add_div_right m (Nat.two_pow_pos b), nocarry]
  rw [← Nat.toNat_testBit, ← Nat.toNat_testBit, Nat.testBit_mod_two_pow, decide_eq_true hc, Bool.true_and, above]

/-- A reason of unfitness stays as it was when another before it in Table 18-2 is set. -/
theorem State.unfitBit_setUnfit_lower (s : State) {b c : Nat} (lower : b < c) (hc : c < 11) :
    (s.setUnfit b true).unfitBit c = s.unfitBit c := by
  unfold State.unfitBit State.setUnfit
  dsimp only
  rw [State.get_put_self]
  by_cases set : s.get TwStat.unfit 0 / 2 ^ b % 2 = 1
  · rw [if_pos rfl, if_pos set, Nat.mod_eq_of_lt (s.get_lt _ _)]
  · rw [if_pos rfl, if_neg set]
    exact congrArg (· == 1) (bit_add_lower lower hc set)

/-- FENCED, with the reasons that lead out of it by rejoining alone. -/
def State.enterFenced (s : State) : State :=
  ((s.put TwStat.role 0 roleFenced).setUnfit unfitFenced true).setUnfit unfitResync true

/-- The role is given up but for the ports: the outputs safe, the fence output released, the plans of the twin block and the advance
of the fire pulses dropped. -/
def State.yielded (s : State) : State :=
  (s.enterFenced.safeOutputs.releaseFence.mapTwin (fun t => { t with
    roleLowAt := none, plan := none, handed := none, pacing := none, alone := false, rejoin := TwinSt.reset.rejoin })).put FpeStat.adv 0 0

theorem State.giveUp_eq (s : State) (code : EvCode) : s.giveUp code = s.yielded.syncPorts.record code 0 [] := rfl

theorem State.enterFenced_twStat (s : State) : s.enterFenced.role = roleFenced ∧ s.enterFenced.unfitBit unfitFenced = true ∧
    s.enterFenced.get TwStat.fenceIn 0 = s.get TwStat.fenceIn 0 := by
  unfold State.enterFenced
  refine ⟨?_, ?_, ?_⟩
  · unfold State.role
    rw [State.get_setUnfit_ne _ _ _ (by decide), State.get_setUnfit_ne _ _ _ (by decide), State.get_put_self]
    rfl
  · rw [State.unfitBit_setUnfit_lower _ (by decide) (by decide), State.unfitBit_setUnfit _ (by decide)]
  · rw [State.get_setUnfit_ne _ _ _ (by decide), State.get_setUnfit_ne _ _ _ (by decide), State.get_put_ne _ (by decide)]

theorem State.yielded_frame (s : State) : s.yielded.pages = s.pages ∧ s.yielded.dram = s.dram ∧ s.yielded.rst = s.rst ∧
    s.yielded.twin.faultHold = s.twin.faultHold := by
  simp [State.yielded, State.enterFenced, State.releaseFence, State.mapTwin]

theorem State.yielded_kept (s : State) : FieldsKept (only [TwStat.fenceOut, FpeStat.adv]) s.enterFenced s.yielded := by
  have safe : FieldsKept (only [TwStat.fenceOut, FpeStat.adv]) s.enterFenced s.enterFenced.safeOutputs := .of_regs _ (by simp)
  have released : FieldsKept (only [TwStat.fenceOut, FpeStat.adv]) s.enterFenced.safeOutputs s.enterFenced.safeOutputs.releaseFence :=
    .trans (.of_regs _ rfl) (.put _ 0 0 (f := TwStat.fenceOut) (by decide) rfl)
  exact (safe.trans released).trans (.trans (.of_regs _ rfl) (.put _ 0 0 (f := FpeStat.adv) (by decide) rfl))

/-- What giving up the role writes after the role and the reasons of Table 18-2. -/
abbrev yieldFields : List Fld := [TwStat.fenceOut, FpeStat.adv] ++ calFields

section
variable {s : State} (committed : s.committed = true) (low : s.pins.fenceInN = false)
include committed low

theorem State.yielded_pins : s.yielded.pins.atSafe ∧ s.yielded.pins.fenceN = true ∧ s.yielded.pins.fenceInN = false :=
  ⟨s.enterFenced.safeOutputs_atSafe committed, rfl, s.enterFenced.safeOutputs_pins.2.1.trans low⟩

theorem State.yielded_undriven : s.yielded.undriven := by
  obtain ⟨⟨off, -⟩, -, hlow⟩ := State.yielded_pins committed low
  have role : s.yielded.role = roleFenced :=
    (s.yielded_kept _ _ 0 (by decide : TwStat.role ∈ Reg.twStat.fields) (by decide)).trans s.enterFenced_twStat.1
  refine ⟨?_, hlow, off⟩
  unfold State.acting
  rw [role]
  rfl

/-- Giving up the role with the fence input low leaves the outputs safe and the fence output released, and no page, reset or reset
held back is touched. -/
theorem State.giveUp_frame (code : EvCode) : (s.giveUp code).pins.atSafe ∧ (s.giveUp code).pins.fenceN = true ∧
    (s.giveUp code).pins.fenceInN = false ∧ (s.giveUp code).pages = s.pages ∧ (s.giveUp code).dram = s.dram ∧
    (s.giveUp code).rst = s.rst ∧ (s.giveUp code).twin.faultHold = s.twin.faultHold := by
  obtain ⟨hports, -⟩ := (State.yielded_undriven committed low).syncPorts
  obtain ⟨hsafe, hfence, hlow⟩ := State.yielded_pins committed low
  rw [s.giveUp_eq, hports]
  simp [s.yielded_frame, hsafe, hfence, hlow]

/-- What TW_STAT shows of it. -/
theorem State.giveUp_twStat (code : EvCode) : (s.giveUp code).role = roleFenced ∧ (s.giveUp code).unfitBit unfitFenced = true ∧
    (s.giveUp code).flag TwStat.fenceIn 0 = s.flag TwStat.fenceIn 0 := by
  obtain ⟨-, hports⟩ := (State.yielded_undriven committed low).syncPorts
  have kept : FieldsKept (only yieldFields) s.enterFenced (s.giveUp code) :=
    ((s.yielded_kept.mono (only_mono (by simp))).trans (hports.mono (only_mono (by simp)))).trans
      (.record _ _ _ _ fun f _ h => by unfold only; rw [h]; rfl)
  obtain ⟨hrole, hunfit, hfenceIn⟩ := s.enterFenced_twStat
  refine ⟨(kept .twStat TwStat.role 0 (by decide) (by decide)).trans hrole, ?_, ?_⟩
  · unfold State.unfitBit
    rw [kept .twStat TwStat.unfit 0 (by decide) (by decide)]
    exact hunfit
  · unfold State.flag
    rw [kept .twStat TwStat.fenceIn 0 (by decide) (by decide), hfenceIn]

end

/-! ### The input's two edges (R35) -/

/-- The fence input low, as TW_STAT shows it. -/
def State.fenceLow (s : State) : State := ({ s with pins := { s.pins with fenceInN := false } }).put TwStat.fenceIn 0 1

theorem State.fenceLow_pins (s : State) : s.fenceLow.pins = { s.pins with fenceInN := false } := rfl

theorem State.fenceLow_frame (s : State) : s.fenceLow.committed = s.committed ∧ s.fenceLow.pages = s.pages ∧
    s.fenceLow.dram = s.dram ∧ s.fenceLow.rst = s.rst ∧ s.fenceLow.twin = s.twin := by
  simp [State.fenceLow, State.committed]

/-- The fence input low, every output at its safe level. -/
def State.fenceFallen (s : State) : State := s.fenceLow.outputsSafe

theorem execFenceInAssert_eq (s : State) : exec .fenceInAssert s =
    .next (if s.fenceFallen.role = roleActive then s.fenceFallen.giveUp .twFenced else s.fenceFallen).faultDue := rfl

/-- With no reset held back, none is carried out. -/
theorem State.faultDue_of_unheld {s : State} (h : s.twin.faultHold = none) : s.faultDue = s := by
  unfold State.faultDue
  rw [h]

theorem State.fenceFallen_pins (s : State) : s.fenceFallen.pins.axDir = s.pins.axDir ∧ s.fenceFallen.pins.fenceInN = false ∧
    s.fenceFallen.committed = s.committed := by
  obtain ⟨hcommitted, -⟩ := s.fenceLow_frame
  obtain ⟨hdir, hlow, hcommitted', -⟩ := s.fenceLow.outputsSafe_frame
  rw [s.fenceLow_pins] at hdir hlow
  unfold State.fenceFallen
  exact ⟨hdir, hlow, hcommitted'.trans hcommitted⟩

theorem State.fenceFallen_frame (s : State) : s.fenceFallen.pages = s.pages ∧ s.fenceFallen.dram = s.dram ∧
    s.fenceFallen.rst = s.rst ∧ s.fenceFallen.twin = s.twin := by
  obtain ⟨-, hpages, hdram, hrst, htwin⟩ := s.fenceLow_frame
  obtain ⟨-, -, -, hpages', hdram'⟩ := s.fenceLow.outputsSafe_frame
  exact ⟨hpages'.trans hpages, hdram'.trans hdram, s.fenceLow.outputsSafe_rst.trans hrst, s.fenceLow.outputsSafe_twin.trans htwin⟩

theorem State.fenceFallen_twStat (s : State) : s.fenceFallen.flag TwStat.fenceIn 0 = true ∧ s.fenceFallen.role = s.role := by
  have shown := s.fenceLow.outputsSafe_kept .twStat
  unfold State.flag State.role State.fenceFallen
  rw [shown TwStat.fenceIn 0 (by decide) (by decide), shown TwStat.role 0 (by decide) (by decide)]
  unfold State.fenceLow
  rw [State.get_put_self, State.get_put_ne _ (by decide)]
  exact ⟨rfl, rfl⟩

theorem State.fenceFallen_atSafe (s : State) (committed : s.committed = true) : s.fenceFallen.pins.atSafe :=
  s.fenceLow.outputsSafe_atSafe (s.fenceLow_frame.1.trans committed)

/-- A device that is not the active twin keeps its role. -/
theorem execFenceInAssert_passive (s : State) (unheld : s.twin.faultHold = none) (passive : s.role ≠ roleActive) :
    exec .fenceInAssert s = .next s.fenceFallen := by
  obtain ⟨-, -, -, htwin⟩ := s.fenceFallen_frame
  obtain ⟨-, hrole⟩ := s.fenceFallen_twStat
  have still : s.fenceFallen.twin.faultHold = none := by rw [htwin, unheld]
  rw [execFenceInAssert_eq, hrole, if_neg passive, State.faultDue_of_unheld still]

/-- An active twin gives up its role (R429). -/
theorem execFenceInAssert_active (s : State) (committed : s.committed = true) (unheld : s.twin.faultHold = none)
    (active : s.role = roleActive) : exec .fenceInAssert s = .next (s.fenceFallen.giveUp .twFenced) := by
  obtain ⟨-, hlow, hcommitted⟩ := s.fenceFallen_pins
  obtain ⟨-, -, -, htwin⟩ := s.fenceFallen_frame
  obtain ⟨-, hrole⟩ := s.fenceFallen_twStat
  obtain ⟨-, -, -, -, -, -, hhold⟩ := State.giveUp_frame (hcommitted.trans committed) hlow .twFenced
  have still : (s.fenceFallen.giveUp .twFenced).twin.faultHold = none := by rw [hhold, htwin, unheld]
  rw [execFenceInAssert_eq, hrole, if_pos active, State.faultDue_of_unheld still]

/-- Settles O9: the outputs are made safe first, and neither the new role nor the ports that follow it move them again. -/
theorem fenceInputForcesSafeOutputs : Obligations.FenceInputForcesSafeOutputs := by
  refine ⟨fun s committed unheld passive => ?_, fun s committed unheld active => ?_, fun s => ?_⟩
  · obtain ⟨hdir, hlow, -⟩ := s.fenceFallen_pins
    obtain ⟨hpages, hdram, hrst, -⟩ := s.fenceFallen_frame
    obtain ⟨hshown, hrole⟩ := s.fenceFallen_twStat
    exact ⟨_, execFenceInAssert_passive s unheld passive, hlow, hshown, s.fenceFallen_atSafe committed, hdir, hrole, hpages, hdram,
      hrst⟩
  · obtain ⟨-, hlow, hcommitted⟩ := s.fenceFallen_pins
    obtain ⟨hpages, hdram, hrst, -⟩ := s.fenceFallen_frame
    obtain ⟨hshown, -⟩ := s.fenceFallen_twStat
    obtain ⟨hsafe, hfence, hlow', hpages', hdram', hrst', -⟩ := State.giveUp_frame (hcommitted.trans committed) hlow .twFenced
    obtain ⟨hrole, hunfit, hfenceIn⟩ := State.giveUp_twStat (hcommitted.trans committed) hlow .twFenced
    exact ⟨_, execFenceInAssert_active s committed unheld active, hlow', hfenceIn.trans hshown, hrole, hunfit, hsafe, hfence,
      hpages'.trans hpages, hdram'.trans hdram, hrst'.trans hrst⟩
  · have kept : FieldsKept (only [TwStat.fenceIn]) s
        (({ s with pins := { s.pins with fenceInN := true } }).put TwStat.fenceIn 0 0) :=
      .trans (.of_regs _ rfl) (.put _ 0 0 (by decide) (by decide))
    refine ⟨_, rfl, rfl, ?_, kept⟩
    rw [State.flag, State.get_put_self]
    rfl

end Sys2Proof.Machine
end

section
/-! ## O59: the operations and commands that reach neither the island nor the reset unit

`State.aside` holds the island, the sources of the stretch and the reset that is held back. Every operation below leaves it as it
is, which is stated once per operation, in the order of the model's files, so that `simp` goes through a composed operation or a
command without its case analysis. -/
namespace Sys2Proof.Machine

/-- What of the state the metrology island, and what of it a request for a reset, is. -/
structure Aside where
  /-- the island -/
  island : IslandSt
  /-- the sources of the stretch, and the reset that is held back for the partner (R46) -/
  asked : List Nat × Option (Nat × Nat × List (Nat × Nat))

/-- The part of the state that O59 speaks of. -/
def State.aside (s : State) : Aside := ⟨s.met, s.rst.sources, s.twin.faultHold⟩

/-- Read off a state whose fields are written out, which is what an update `{ s with … }` of other fields is; `aside_fold` then folds
what is read off an updated state back into its `aside`. -/
theorem State.aside_mk (now ft pins regs force snap rst img ev sps sent colTx freeCtr lanes linkUp ingest pages lastPlan digestWait
    codec dram scr ff fpe ports posn loop ins light mot mc twin net ptp met tally cal hmWait aborts pending) :
    State.aside ⟨now, ft, pins, regs, force, snap, rst, img, ev, sps, sent, colTx, freeCtr, lanes, linkUp, ingest, pages, lastPlan,
      digestWait, codec, dram, scr, ff, fpe, ports, posn, loop, ins, light, mot, mc, twin, net, ptp, met, tally, cal, hmWait, aborts,
      pending⟩ = ⟨met, rst.sources, twin.faultHold⟩ := by
  simp only [State.aside]

theorem State.aside_fold (s : State) : Aside.mk s.met (s.rst.sources, s.twin.faultHold) = s.aside := by
  simp only [State.aside]

@[simp] theorem foldl_aside {α : Type} {f : State → α → State} (h : ∀ t x, (f t x).aside = t.aside) (l : List α) (s : State) :
    (l.foldl f s).aside = s.aside :=
  foldl_keeps State.aside h l s

@[simp] theorem State.aside_ite (c : Prop) [Decidable c] (s t : State) :
    (if c then s else t).aside = if c then s.aside else t.aside :=
  apply_ite State.aside c s t

@[simp] theorem State.after_next (s t : State) : s.after (.next t) = t := rfl

@[simp] theorem State.after_ite (s : State) (c : Prop) [Decidable c] (a b : Ans) :
    s.after (if c then a else b) = if c then s.after a else s.after b :=
  apply_ite s.after c a b

@[simp] theorem State.put_aside (s : State) (f : Fld) (i v : Nat) : (s.put f i v).aside = s.aside := by
  simp [State.aside]

@[simp] theorem State.record_aside (s : State) (c : EvCode) (i : Nat) (l : List EvArg) : (s.record c i l).aside = s.aside := by
  simp [State.aside]

/-! ### `Machine/Ops` -/

@[simp] theorem State.enforce_aside (s : State) (f : Fld) (i : Nat) : (s.enforce f i).aside = s.aside := by
  simp [State.enforce, ↓State.aside_mk, ↓State.aside_fold]

@[simp] theorem State.storeWord_aside (s : State) (r : Reg) (i : Nat) (w : Word) : (s.storeWord r i w).aside = s.aside := by
  refine foldl_aside (fun t f => ?_) _ s
  split
  · simp
  · simp
  · simp
  · rfl
  · rfl

@[simp] theorem State.put64_aside (s : State) (lo hi : Fld) (i v : Nat) : (s.put64 lo hi i v).aside = s.aside := by
  simp [State.put64]

@[simp] theorem State.putInt_aside (s : State) (f : Fld) (i : Nat) (v : Int) : (s.putInt f i v).aside = s.aside := by
  simp [State.putInt]

@[simp] theorem State.clear_aside (s : State) (f : Fld) (i : Nat) : (s.clear f i).aside = s.aside := by
  simp [State.clear]

@[simp] theorem State.nextOpen_aside (s : State) : s.nextOpen.aside = s.aside := by
  simp [State.nextOpen, ↓State.aside_mk, ↓State.aside_fold]

@[simp] theorem State.loseRecord_aside (s : State) (n : Nat) : (s.loseRecord n).aside = s.aside := by
  simp [State.loseRecord, ↓State.aside_mk, ↓State.aside_fold]

@[simp] theorem State.spill_aside (s : State) (r : EvRec) : (s.spill r).aside = s.aside := by
  simp [State.spill, ↓State.aside_mk, ↓State.aside_fold]

@[simp] theorem State.toTail_aside (s : State) (r : EvRec) : (s.toTail r).aside = s.aside := by
  simp [State.toTail, ↓State.aside_mk, ↓State.aside_fold]

@[simp] theorem State.enqueue_aside (s : State) (r : EvRec) : (s.enqueue r).aside = s.aside := by
  simp [State.enqueue, ↓State.aside_mk, ↓State.aside_fold]

@[simp] theorem State.countBy_aside (s : State) (c ovf : Fld) (i k : Nat) : (s.countBy c ovf i k).aside = s.aside := by
  simp [State.countBy]

@[simp] theorem State.count_aside (s : State) (c ovf : Fld) (i : Nat) : (s.count c ovf i).aside = s.aside := by
  simp [State.count]

@[simp] theorem State.bump_aside (s : State) (c : Fld) (i : Nat) : (s.bump c i).aside = s.aside := by
  simp [State.bump]

@[simp] theorem State.count64_aside (s : State) (lo hi : Fld) (i k : Nat) : (s.count64 lo hi i k).aside = s.aside := by
  simp [State.count64]

@[simp] theorem State.abortStart_aside (s : State) (fn inst : Nat) : (s.abortStart fn inst).aside = s.aside := by
  simp [State.abortStart, ↓State.aside_mk, ↓State.aside_fold]

@[simp] theorem State.abortEnd_aside (s : State) (fn inst : Nat) : (s.abortEnd fn inst).aside = s.aside := by
  unfold State.abortEnd
  repeat' split
  all_goals simp [↓State.aside_mk, ↓State.aside_fold]

@[simp] theorem State.dramWrite_aside (s : State) (addr : Nat) (bytes : List Byte) : (s.dramWrite addr bytes).aside = s.aside := by
  simp [State.dramWrite, ↓State.aside_mk, ↓State.aside_fold]

@[simp] theorem State.send_aside (s : State) (o : Out) : (s.send o).aside = s.aside := by
  simp [State.send, ↓State.aside_mk, ↓State.aside_fold]

@[simp] theorem State.sendCol_aside (s : State) (typ : Nat) (args : List Nat) : (s.sendCol typ args).aside = s.aside := by
  simp [State.sendCol, ↓State.aside_mk, ↓State.aside_fold]

@[simp] theorem State.setUnfit_aside (s : State) (bit : Nat) (on : Bool) : (s.setUnfit bit on).aside = s.aside := by
  simp [State.setUnfit]

@[simp] theorem State.setDevState_aside (s : State) (v : Nat) : (s.setDevState v).aside = s.aside := by
  simp [State.setDevState]

@[simp] theorem State.safeOutputs_aside (s : State) : s.safeOutputs.aside = s.aside := by
  simp [State.safeOutputs, ↓State.aside_mk, ↓State.aside_fold]

@[simp] theorem State.safeLamp_aside (s : State) (n : Nat) : (s.safeLamp n).aside = s.aside := by
  simp [State.safeLamp, ↓State.aside_mk, ↓State.aside_fold]

@[simp] theorem State.safeAxis_aside (s : State) (n : Nat) : (s.safeAxis n).aside = s.aside := by
  simp [State.safeAxis, ↓State.aside_mk, ↓State.aside_fold]

@[simp] theorem State.safeCam_aside (s : State) (n : Nat) : (s.safeCam n).aside = s.aside := by
  simp [State.safeCam, ↓State.aside_mk, ↓State.aside_fold]

/-! ### `Machine/AxisOps` -/

@[simp] theorem State.setAxis_aside (s : State) (n : Nat) (x : Axis) : (s.setAxis n x).aside = s.aside := by
  simp [State.setAxis, ↓State.aside_mk, ↓State.aside_fold]

@[simp] theorem State.mapAxis_aside (s : State) (n : Nat) (f : Axis → Axis) : (s.mapAxis n f).aside = s.aside := by
  simp [State.mapAxis]

@[simp] theorem State.setAxPos_aside (s : State) (n : Nat) (p : Int) : (s.setAxPos n p).aside = s.aside := by
  simp [State.setAxPos]

@[simp] theorem State.axState_aside (s : State) (n : Nat) : (s.axState n).aside = s.aside := by
  simp [State.axState]

@[simp] theorem State.driveAxis_aside (s : State) (n : Nat) : (s.driveAxis n).aside = s.aside := by
  simp [State.driveAxis, ↓State.aside_mk, ↓State.aside_fold]

@[simp] theorem State.setDir_aside (s : State) (n : Nat) (negative : Bool) : (s.setDir n negative).aside = s.aside := by
  simp [State.setDir, ↓State.aside_mk, ↓State.aside_fold]

@[simp] theorem State.haltAxis_aside (s : State) (n : Nat) : (s.haltAxis n).aside = s.aside := by
  simp [State.haltAxis]

@[simp] theorem State.commitTarget_aside (s : State) (n : Nat) (g : Int) (activity : Bool) :
    (s.commitTarget n g activity).aside = s.aside := by
  simp [State.commitTarget]

@[simp] theorem State.takeGoal_aside (s : State) (n : Nat) : (s.takeGoal n).aside = s.aside := by
  unfold State.takeGoal
  split <;> simp

@[simp] theorem State.evalGate_aside (s : State) : s.evalGate.aside = s.aside := by
  simp [State.evalGate]

@[simp] theorem State.stopped_aside (s : State) (n : Nat) : (s.stopped n).aside = s.aside := by
  unfold State.stopped
  dsimp only
  split <;> simp

@[simp] theorem State.beginStop_aside (s : State) (n how : Nat) : (s.beginStop n how).aside = s.aside := by
  simp [State.beginStop]

@[simp] theorem State.homeDone_aside (s : State) (n : Nat) (ref : Int) : (s.homeDone n ref).aside = s.aside := by
  simp [State.homeDone]

@[simp] theorem State.homeEdge_aside (s : State) (n : Nat) : (s.homeEdge n).aside = s.aside := by
  unfold State.homeEdge
  dsimp only
  split <;> simp

@[simp] theorem State.homeIndex_aside (s : State) (enc : Nat) : (s.homeIndex enc).aside = s.aside := by
  refine foldl_aside (fun t n => ?_) _ s
  dsimp only
  repeat' split
  all_goals simp

@[simp] theorem State.homeFail_aside (s : State) (n : Nat) : (s.homeFail n).aside = s.aside := by
  simp [State.homeFail]

@[simp] theorem State.startHoming_aside (s : State) (n : Nat) : (s.startHoming n).aside = s.aside := by
  simp [State.startHoming]

@[simp] theorem State.advanceAxis_aside (s : State) (n : Nat) : (s.advanceAxis n).aside = s.aside := by
  simp [State.advanceAxis]

@[simp] theorem State.arrive_aside (s : State) (n : Nat) (g : Int) : (s.arrive n g).aside = s.aside := by
  simp [State.arrive]

@[simp] theorem State.leaveRest_aside (s : State) (n : Nat) (negative : Bool) : (s.leaveRest n negative).aside = s.aside := by
  simp [State.leaveRest]

@[simp] theorem State.profile_aside (s : State) (n : Nat) (g : Int) : (s.profile n g).aside = s.aside := by
  unfold State.profile
  extract_lets x d0 neg left x' sgn d u dec emerg want top clamped brake
  have hleft : left.aside = s.aside := by simp [left]
  have hclamped : clamped.aside = s.aside := by simp [clamped, hleft]
  have hbrake (t : State) (r : Nat) : (brake t r).aside = t.aside := by simp [brake]
  clear_value clamped brake left
  split
  · rfl
  split
  · simp
  split
  · exact hleft
  split
  · simp [hclamped]
  · simp [hclamped, hbrake]
  · split
    · split <;> simp [hclamped]
    · split <;> simp [hclamped, hbrake]

@[simp] theorem State.homePass_aside (s : State) (n q pass : Nat) : (s.homePass n q pass).aside = s.aside := by
  simp [State.homePass]

@[simp] theorem State.axisLq_aside (s : State) (n : Nat) : (s.axisLq n).aside = s.aside := by
  unfold State.axisLq
  dsimp only
  repeat' split
  all_goals simp

/-! ### `Machine/Axis` -/

@[simp] theorem State.dropRun_aside (s : State) (n : Nat) : (s.dropRun n).aside = s.aside := by
  simp [State.dropRun]

@[simp] theorem State.safetyStop_aside (s : State) (n : Nat) : (s.safetyStop n).aside = s.aside := by
  simp [State.safetyStop]

@[simp] theorem State.axisOn_aside (s : State) (n : Nat) : (s.axisOn n).aside = s.aside := by
  simp [State.axisOn]

@[simp] theorem State.axisOff_aside (s : State) (n : Nat) : (s.axisOff n).aside = s.aside := by
  simp [State.axisOff]

@[simp] theorem State.writeAxCfg_aside (s : State) (n : Nat) (value : Word) : (s.writeAxCfg n value).aside = s.aside := by
  simp [State.writeAxCfg]

@[simp] theorem State.cmdStop_aside (s : State) (n how : Nat) : (s.cmdStop n how).aside = s.aside := by
  simp [State.cmdStop]

@[simp] theorem State.writeAxCmd_aside (s : State) (n : Nat) (value : Word) : (s.writeAxCmd n value).aside = s.aside := by
  simp [State.writeAxCmd]

@[simp] theorem execAxisLqUpdate_aside (n : Fin 8) (s : State) : (s.after (execAxisLqUpdate n s)).aside = s.aside := by
  simp [execAxisLqUpdate]

@[simp] theorem State.writeAxTgtHi_aside (s : State) (n : Nat) (value : Word) : (s.writeAxTgtHi n value).aside = s.aside := by
  simp [State.writeAxTgtHi]

@[simp] theorem execAxTgtCommit_aside (n : Fin 8) (value : Word) (s : State) : (s.after (execAxTgtCommit n value s)).aside = s.aside := by
  simp [execAxTgtCommit]

@[simp] theorem execAxisEnable_aside (n : Fin 8) (value : Word) (s : State) : (s.after (execAxisEnable n value s)).aside = s.aside := by
  simp [execAxisEnable]

@[simp] theorem execAxisHoldTimer_aside (n : Fin 8) (s : State) : (s.after (execAxisHoldTimer n s)).aside = s.aside := by
  simp [execAxisHoldTimer]

@[simp] theorem execAxCmdStop_aside (n : Fin 8) (value : Word) (s : State) : (s.after (execAxCmdStop n value s)).aside = s.aside := by
  simp [execAxCmdStop]

@[simp] theorem execAxCmdAbort_aside (n : Fin 8) (value : Word) (s : State) : (s.after (execAxCmdAbort n value s)).aside = s.aside := by
  simp [execAxCmdAbort]

@[simp] theorem execAxCmdHome_aside (n : Fin 8) (value : Word) (s : State) : (s.after (execAxCmdHome n value s)).aside = s.aside := by
  simp [execAxCmdHome]

@[simp] theorem execAxCmdClr_aside (n : Fin 8) (value : Word) (safeN : List Bool) (fltN : Bool) (s : State) :
    (s.after (execAxCmdClr n value safeN fltN s)).aside = s.aside := by
  simp [execAxCmdClr, ↓State.aside_mk, ↓State.aside_fold]

@[simp] theorem execSafeInputAssert_aside (k : Fin 4) (s : State) : (s.after (execSafeInputAssert k s)).aside = s.aside := by
  simp [execSafeInputAssert, ↓State.aside_mk, ↓State.aside_fold]

@[simp] theorem execDriverFault_aside (n : Fin 8) (s : State) : (s.after (execDriverFault n s)).aside = s.aside := by
  simp [execDriverFault, ↓State.aside_mk, ↓State.aside_fold]

@[simp] theorem execAxLimit_aside (n : Fin 8) (positive : Bool) (s : State) : (s.after (execAxLimit n positive s)).aside = s.aside := by
  unfold execAxLimit
  dsimp only
  split <;> simp [↓State.aside_mk, ↓State.aside_fold]

@[simp] theorem execLimitRelease_aside (n : Fin 8) (positive : Bool) (s : State) :
    (s.after (execLimitRelease n positive s)).aside = s.aside := by
  unfold execLimitRelease
  dsimp only
  split <;> simp [↓State.aside_mk, ↓State.aside_fold]

@[simp] theorem execHomeEdge_aside (n : Fin 8) (active : Bool) (s : State) : (s.after (execHomeEdge n active s)).aside = s.aside := by
  unfold execHomeEdge
  dsimp only
  split <;> simp [↓State.aside_mk, ↓State.aside_fold]

/-! ### `Machine/NetOps` -/

@[simp] theorem State.mapNet_aside (s : State) (f : NetSt → NetSt) : (s.mapNet f).aside = s.aside := by
  simp [State.mapNet, ↓State.aside_mk, ↓State.aside_fold]

@[simp] theorem State.startEgress_aside (s : State) (k : Nat) : (s.startEgress k).aside = s.aside := by
  unfold State.startEgress
  dsimp only
  split <;> simp [↓State.aside_mk, ↓State.aside_fold]

@[simp] theorem State.egress_aside (s : State) (k prio len : Nat) (o : Out) : (s.egress k prio len o).aside = s.aside := by
  simp [State.egress, ↓State.aside_mk, ↓State.aside_fold]

@[simp] theorem State.sendLocal_aside (s : State) (len kind : Nat) (args : List Nat) : (s.sendLocal len kind args).aside = s.aside := by
  simp [State.sendLocal]

@[simp] theorem State.advisory_aside (s : State) : s.advisory.aside = s.aside := by
  simp [State.advisory, ↓State.aside_mk, ↓State.aside_fold]

/-! ### `Machine/LaneOps` -/

@[simp] theorem State.setLane_aside (s : State) (n : Nat) (l : Lane) : (s.setLane n l).aside = s.aside := by
  simp [State.setLane, ↓State.aside_mk, ↓State.aside_fold]

@[simp] theorem State.laneEvent_aside (s : State) (n slot : Nat) (code : EvCode) : (s.laneEvent n slot code).aside = s.aside := by
  simp [State.laneEvent]

@[simp] theorem State.laneCount_aside (s : State) (n : Nat) (c : Fld) (k : Nat) : (s.laneCount n c k).aside = s.aside := by
  simp [State.laneCount]

@[simp] theorem State.dropLock_aside (s : State) (n : Nat) : (s.dropLock n).aside = s.aside := by
  simp [State.dropLock]

@[simp] theorem State.deskew_aside (s : State) (n : Nat) : (s.deskew n).aside = s.aside := by
  unfold State.deskew
  exact foldl_keeps State.aside (by simp) _ _

/-! ### `Machine/PageOps` -/

@[simp] theorem State.mapPage_aside (s : State) (pseq : Nat) (f : Page → Page) : (s.mapPage pseq f).aside = s.aside := by
  simp [State.mapPage, ↓State.aside_mk, ↓State.aside_fold]

@[simp] theorem State.setPgNext_aside (s : State) (v : Nat) : (s.setPgNext v).aside = s.aside := by
  simp [State.setPgNext]

@[simp] theorem State.admitPage_aside (s : State) (pseq : Nat) : (s.admitPage pseq).aside = s.aside := by
  simp [State.admitPage]

@[simp] theorem State.tryAdmit_aside (s : State) (pseq : Nat) : (s.tryAdmit pseq).aside = s.aside := by
  unfold State.tryAdmit
  split <;> simp

@[simp] theorem State.makeTrailer_aside (s : State) (p : Page) : (s.makeTrailer p).aside = s.aside := by
  simp [State.makeTrailer, ↓State.aside_mk, ↓State.aside_fold]

@[simp] theorem State.stopDecodes_aside (s : State) (pseq : Nat) : (s.stopDecodes pseq).aside = s.aside := by
  unfold State.stopDecodes
  exact foldl_keeps State.aside (by simp) _ _

@[simp] theorem State.queueCmx_aside (s : State) (j : CmxJob) : (s.queueCmx j).aside = s.aside := by
  simp [State.queueCmx, ↓State.aside_mk, ↓State.aside_fold]

@[simp] theorem State.colError_aside (s : State) : s.colError.aside = s.aside := by
  simp [State.colError]

@[simp] theorem State.colAccept_aside (s : State) (typ seq : Nat) (rx : Rx) : (s.colAccept typ seq rx).2.aside = s.aside := by
  unfold State.colAccept
  dsimp only
  repeat' split
  all_goals simp [↓State.aside_mk, ↓State.aside_fold]

/-! ### `Machine/CalOps` -/

@[simp] theorem State.calEnd_aside (s : State) : s.calEnd.aside = s.aside := by
  simp [State.calEnd, ↓State.aside_mk, ↓State.aside_fold]

@[simp] theorem State.calAbandon_aside (s : State) : s.calAbandon.aside = s.aside := by
  simp [State.calAbandon]

@[simp] theorem State.calWatch_aside (s : State) : s.calWatch.aside = s.aside := by
  simp [State.calWatch]

@[simp] theorem State.calEdge_aside (s : State) (m count : Nat) : (s.calEdge m count).aside = s.aside := by
  unfold State.calEdge
  dsimp only
  repeat' split
  all_goals simp [↓State.aside_mk, ↓State.aside_fold]

/-! ### `Machine/Lanes` -/

@[simp] theorem State.sendLane_aside (s : State) (n kind : Nat) : (s.sendLane n kind).aside = s.aside := by
  simp [State.sendLane]

@[simp] theorem State.sleepLane_aside (s : State) (n : Nat) : (s.sleepLane n).aside = s.aside := by
  unfold State.sleepLane
  dsimp only
  split <;> simp

@[simp] theorem State.requestSleep_aside (s : State) (n : Nat) : (s.requestSleep n).aside = s.aside := by
  simp [State.requestSleep]

@[simp] theorem State.wakeLane_aside (s : State) (n : Nat) : (s.wakeLane n).aside = s.aside := by
  simp [State.wakeLane]

@[simp] theorem State.wakeOrWait_aside (s : State) (n : Nat) : (s.wakeOrWait n).aside = s.aside := by
  unfold State.wakeOrWait
  dsimp only
  split <;> simp

@[simp] theorem State.requestWake_aside (s : State) (n : Nat) : (s.requestWake n).aside = s.aside := by
  simp [State.requestWake]

@[simp] theorem State.align_aside (s : State) (n offset : Nat) : (s.align n offset).aside = s.aside := by
  simp [State.align]

@[simp] theorem State.takeStatus_aside (s : State) (n status : Nat) : (s.takeStatus n status).aside = s.aside := by
  simp [State.takeStatus]

@[simp] theorem execLaneLockAcquire_aside (n : Fin 142) (s : State) : (s.after (execLaneLockAcquire n s)).aside = s.aside := by
  simp [execLaneLockAcquire]

@[simp] theorem execLaneLockLoss_aside (n : Fin 142) (cv : Nat) (s : State) : (s.after (execLaneLockLoss n cv s)).aside = s.aside := by
  simp [execLaneLockLoss]

@[simp] theorem execTsReceive_aside (n : Fin 140) (status seq chk offset : Nat) (s : State) :
    (s.after (execTsReceive n status seq chk offset s)).aside = s.aside := by
  simp [execTsReceive]

@[simp] theorem execTsComplete_aside (n : Fin 140) (s : State) : (s.after (execTsComplete n s)).aside = s.aside := by
  simp [execTsComplete]

@[simp] theorem execSkpSend_aside (n : Fin 140) (s : State) : (s.after (execSkpSend n s)).aside = s.aside := by
  unfold execSkpSend
  dsimp only
  split <;> simp

@[simp] theorem State.skpApply_aside (s : State) (n fill d : Nat) : (s.skpApply n fill d).aside = s.aside := by
  simp [State.skpApply]

@[simp] theorem execSkpReceive_aside (n : Fin 140) (k fill : Nat) (s : State) :
    (s.after (execSkpReceive n k fill s)).aside = s.aside := by
  simp [execSkpReceive]

@[simp] theorem execElasticBufferError_aside (n : Fin 140) (s : State) : (s.after (execElasticBufferError n s)).aside = s.aside := by
  simp [execElasticBufferError]

@[simp] theorem execLmkReceive_aside (n : Fin 140) (status offset : Nat) (s : State) :
    (s.after (execLmkReceive n status offset s)).aside = s.aside := by
  simp [execLmkReceive]

@[simp] theorem execTxSleepRequest_aside (n : Fin 142) (s : State) : (s.after (execTxSleepRequest n s)).aside = s.aside := by
  simp [execTxSleepRequest]

@[simp] theorem execSlpReceive_aside (n : Fin 140) (s : State) : (s.after (execSlpReceive n s)).aside = s.aside := by
  simp [execSlpReceive]

@[simp] theorem execTxWakeRequest_aside (n : Fin 142) (s : State) : (s.after (execTxWakeRequest n s)).aside = s.aside := by
  simp [execTxWakeRequest]

@[simp] theorem execWakeSequenceEnd_aside (n : Fin 140) (s : State) : (s.after (execWakeSequenceEnd n s)).aside = s.aside := by
  simp [execWakeSequenceEnd]

@[simp] theorem execIdleMinimumExpiry_aside (n : Fin 140) (s : State) : (s.after (execIdleMinimumExpiry n s)).aside = s.aside := by
  simp [execIdleMinimumExpiry]

@[simp] theorem execRxWakeTimeout_aside (n : Fin 140) (s : State) : (s.after (execRxWakeTimeout n s)).aside = s.aside := by
  simp [execRxWakeTimeout]

@[simp] theorem execLnLos_aside (n : Fin 142) (s : State) : (s.after (execLnLos n s)).aside = s.aside := by
  simp [execLnLos]

@[simp] theorem execLaneTestModeSet_aside (n : Fin 142) (test : Fin 4) (s : State) :
    (s.after (execLaneTestModeSet n test s)).aside = s.aside := by
  unfold execLaneTestModeSet
  split <;> simp

@[simp] theorem execPrbsSyncChange_aside (n : Fin 142) (sync : Bool) (errors : Nat) (s : State) :
    (s.after (execPrbsSyncChange n sync errors s)).aside = s.aside := by
  simp [execPrbsSyncChange]

@[simp] theorem execLnCntClr_aside (n : Fin 142) (s : State) : (s.after (execLnCntClr n s)).aside = s.aside := by
  simp [execLnCntClr]

@[simp] theorem execMarginGo_aside (n : Fin 142) (value : Word) (s : State) : (s.after (execMarginGo n value s)).aside = s.aside := by
  simp [execMarginGo]

@[simp] theorem execMarginDwellDone_aside (n : Fin 142) (mismatch : Nat) (s : State) :
    (s.after (execMarginDwellDone n mismatch s)).aside = s.aside := by
  simp [execMarginDwellDone]

/-! ### `Machine/MaintOps` -/

@[simp] theorem State.setAct_aside (s : State) (x : Activity) : (s.setAct x).aside = s.aside := by
  simp [State.setAct, ↓State.aside_mk, ↓State.aside_fold]

@[simp] theorem State.setRunning_aside (s : State) (a : Nat) (on : Bool) : (s.setRunning a on).aside = s.aside := by
  simp [State.setRunning]

@[simp] theorem State.endAct_aside (s : State) (a : Nat) : (s.endAct a).aside = s.aside := by
  simp [State.endAct, ↓State.aside_mk, ↓State.aside_fold]

@[simp] theorem State.startAbortSeq_aside (s : State) (a : Nat) : (s.startAbortSeq a).aside = s.aside := by
  unfold State.startAbortSeq
  split <;> simp

@[simp] theorem State.failStep_aside (s : State) (a : Nat) : (s.failStep a).aside = s.aside := by
  unfold State.failStep
  split <;> simp

/-! ### `Machine/Ingest` -/

@[simp] theorem State.sendControl_aside (s : State) (pseq code arg : Nat) : (s.sendControl pseq code arg).aside = s.aside := by
  simp [State.sendControl]

@[simp] theorem State.sendCredit_aside (s : State) : s.sendCredit.aside = s.aside := by
  simp [State.sendCredit, ↓State.aside_mk, ↓State.aside_fold]

@[simp] theorem State.advance_aside (s : State) (k : Faong) : (s.advance k).aside = s.aside := by
  simp [State.advance, ↓State.aside_mk, ↓State.aside_fold]

@[simp] theorem State.countRewind_aside (s : State) : s.countRewind.aside = s.aside := by
  simp [State.countRewind]

@[simp] theorem State.countProto_aside (s : State) : s.countProto.aside = s.aside := by
  simp [State.countProto]

@[simp] theorem State.countCrc_aside (s : State) : s.countCrc.aside = s.aside := by
  simp [State.countCrc]

@[simp] theorem State.sendDigest_aside (s : State) (pseq : Nat) (stripe : Option Nat) (clen crc : Nat) (lacks : Bool) :
    (s.sendDigest pseq stripe clen crc lacks).aside = s.aside := by
  simp [State.sendDigest]

@[simp] theorem State.sendStripeDigest_aside (s : State) (pseq i : Nat) : (s.sendStripeDigest pseq i).aside = s.aside := by
  unfold State.sendStripeDigest
  repeat' split
  all_goals simp

@[simp] theorem State.rewind_aside (s : State) (pseq i : Nat) : (s.rewind pseq i).aside = s.aside := by
  simp [State.rewind, ↓State.aside_mk, ↓State.aside_fold]

@[simp] theorem State.beginResend_aside (s : State) (p : Page) (k : Faong) : (s.beginResend p k).aside = s.aside := by
  simp [State.beginResend, ↓State.aside_mk, ↓State.aside_fold]

@[simp] theorem State.enterPage_aside (s : State) (k : Faong) (d : Desc) : (s.enterPage k d).aside = s.aside := by
  simp [State.enterPage, ↓State.aside_mk, ↓State.aside_fold]

@[simp] theorem State.refusePage_aside (s : State) (k : Faong) (d : Desc) (reason : Nat) : (s.refusePage k d reason).aside = s.aside := by
  simp [State.refusePage, ↓State.aside_mk, ↓State.aside_fold]

theorem State.takeDesc_aside {s u : State} {k : Faong} (h : s.takeDesc k = some u) : u.aside = s.aside := by
  unfold State.takeDesc at h
  dsimp only at h
  repeat' split at h
  all_goals (cases h <;> simp [↓State.aside_mk, ↓State.aside_fold, -State.setPgNext_rst])

@[simp] theorem State.strayStripe_aside (s : State) (k : Faong) : (s.strayStripe k).aside = s.aside := by
  simp [State.strayStripe]

theorem State.storeChunk_aside {s u : State} {q i ch : Nat} {k : Faong} (h : s.storeChunk q i ch k = some u) : u.aside = s.aside := by
  unfold State.storeChunk at h
  dsimp only at h
  repeat' split at h
  all_goals (cases h <;> simp [↓State.aside_mk, ↓State.aside_fold])

theorem State.takeData_aside {s u : State} {k : Faong} (h : s.takeData k = some u) : u.aside = s.aside := by
  unfold State.takeData at h
  dsimp only at h
  split at h
  · split at h
    · exact State.storeChunk_aside h
    · cases h; rfl
  · split at h
    · cases h; simp
    · split at h
      · exact State.storeChunk_aside h
      · cases h; simp

@[simp] theorem State.nextStripe_aside (s : State) (q i : Nat) : (s.nextStripe q i).aside = s.aside := by
  simp [State.nextStripe, ↓State.aside_mk, ↓State.aside_fold]

@[simp] theorem State.setLines_aside (s : State) (q : Nat) : (s.setLines q).aside = s.aside := by
  unfold State.setLines
  dsimp only
  repeat' split
  all_goals simp [↓State.aside_mk, ↓State.aside_fold]

@[simp] theorem State.endStripe_aside (s : State) (q i : Nat) (k : Faong) : (s.endStripe q i k).aside = s.aside := by
  unfold State.endStripe
  split <;> simp

@[simp] theorem State.takeEnd_aside (s : State) (k : Faong) : (s.takeEnd k).aside = s.aside := by
  unfold State.takeEnd
  repeat' split
  all_goals simp

theorem State.takePacket_aside {s u : State} {k : Faong} (h : s.takePacket k = some u) : u.aside = s.aside := by
  unfold State.takePacket at h
  obtain ⟨t, taken, rfl⟩ := Option.map_eq_some_iff.mp h
  rw [State.advance_aside]
  split at taken
  · exact State.takeDesc_aside taken
  · split at taken
    · exact State.takeData_aside taken
    · cases taken; simp

@[simp] theorem drainPackets_aside (l : List Faong) (s : State) : (drainPackets l s).aside = s.aside := by
  induction l generalizing s with
  | nil => rfl
  | cons k l ih =>
    unfold drainPackets
    split
    next t taken => exact (ih t).trans (State.takePacket_aside taken)
    next => rfl

@[simp] theorem State.drainIngest_aside (s : State) : s.drainIngest.aside = s.aside := by
  simp [State.drainIngest]

@[simp] theorem State.requestIngestAbort_aside (s : State) : s.requestIngestAbort.aside = s.aside := by
  simp [State.requestIngestAbort]

@[simp] theorem State.cancelPage_aside (s : State) (pseq : Nat) : (s.cancelPage pseq).aside = s.aside := by
  simp [State.cancelPage, ↓State.aside_mk, ↓State.aside_fold]

@[simp] theorem State.takeCancel_aside (s : State) (pseq : Nat) : (s.takeCancel pseq).aside = s.aside := by
  unfold State.takeCancel
  split <;> simp

@[simp] theorem State.packet_aside (s : State) (k : Faong) : (s.packet k).aside = s.aside := by
  unfold State.packet
  dsimp only
  split <;> simp [↓State.aside_mk, ↓State.aside_fold]

@[simp] theorem State.dataUp_aside (s : State) : s.dataUp.aside = s.aside := by
  unfold State.dataUp
  dsimp only
  split <;> simp [↓State.aside_mk, ↓State.aside_fold]

@[simp] theorem State.dataDown_aside (s : State) : s.dataDown.aside = s.aside := by
  unfold State.dataDown
  dsimp only
  split <;> simp [↓State.aside_mk, ↓State.aside_fold]

@[simp] theorem State.ingestL2_aside (s : State) : s.ingestL2.aside = s.aside := by
  unfold State.ingestL2
  dsimp only
  split <;> simp [↓State.aside_mk, ↓State.aside_fold]

@[simp] theorem State.complete_aside (s : State) (p : Page) : (s.complete p).aside = s.aside := by
  simp [State.complete, ↓State.aside_mk, ↓State.aside_fold]

@[simp] theorem State.completion_aside (s : State) : s.completion.aside = s.aside := by
  unfold State.completion
  split <;> simp

/-! ### `Machine/Codec` -/

@[simp] theorem State.setEngine_aside (s : State) (e : Nat) (j : Option DcxJob) : (s.setEngine e j).aside = s.aside := by
  simp [State.setEngine, ↓State.aside_mk, ↓State.aside_fold]

@[simp] theorem assignVerify_aside (l : List Nat) (s : State) : (assignVerify l s).aside = s.aside := by
  induction l generalizing s with
  | nil => rfl
  | cons e l ih =>
    unfold assignVerify
    split
    · rfl
    · simp [ih]

@[simp] theorem State.startVerify_aside (s : State) : s.startVerify.aside = s.aside := by
  simp [State.startVerify]

@[simp] theorem State.dcxFailure_aside (s : State) (e : Nat) (verify : Bool) (q i : Nat) (r : GscResult) :
    (s.dcxFailure e verify q i r).aside = s.aside := by
  simp [State.dcxFailure]

@[simp] theorem State.rewindStored_aside (s : State) (q i : Nat) : (s.rewindStored q i).aside = s.aside := by
  unfold State.rewindStored
  dsimp only
  split <;> simp [↓State.aside_mk, ↓State.aside_fold]

@[simp] theorem State.verifyFailed_aside (s : State) (q : Nat) (t : Stripe) : (s.verifyFailed q t).aside = s.aside := by
  unfold State.verifyFailed
  dsimp only
  repeat' split
  all_goals simp [↓State.aside_mk, ↓State.aside_fold]

@[simp] theorem State.verifyDone_aside (s : State) (e : Nat) : (s.verifyDone e).aside = s.aside := by
  unfold State.verifyDone
  dsimp only
  repeat' split
  all_goals simp

@[simp] theorem State.digestDiff_aside (s : State) (q i : Nat) : (s.digestDiff q i).aside = s.aside := by
  unfold State.digestDiff
  dsimp only
  repeat' split
  all_goals simp

@[simp] theorem State.assignPrint_aside (s : State) (q i : Nat) : (s.assignPrint q i).aside = s.aside := by
  unfold State.assignPrint
  dsimp only
  repeat' split
  all_goals simp

@[simp] theorem State.passOver_aside (s : State) (p : Page) (i : Nat) : (s.passOver p i).aside = s.aside := by
  simp [State.passOver]

@[simp] theorem State.decodeAssign_aside (s : State) : s.decodeAssign.aside = s.aside := by
  unfold State.decodeAssign
  dsimp only
  repeat' split
  all_goals simp

@[simp] theorem State.printDone_aside (s : State) (e : Nat) : (s.printDone e).aside = s.aside := by
  unfold State.printDone
  split
  · rfl
  · split
    · rfl
    · dsimp only
      split
      · simp
      · split
        · simp
        · simp [↓State.aside_mk, ↓State.aside_fold, -State.setEngine_rst]

@[simp] theorem State.codecL2_aside (s : State) : s.codecL2.aside = s.aside := by
  simp [State.codecL2, ↓State.aside_mk, ↓State.aside_fold]

@[simp] theorem State.loseStripe_aside (s : State) (q i : Nat) : (s.loseStripe q i).aside = s.aside := by
  unfold State.loseStripe
  split <;> simp

@[simp] theorem State.fillStripe_aside (s : State) (q i lines : Nat) (data : List Byte) :
    (s.fillStripe q i lines data).aside = s.aside := by
  unfold State.fillStripe
  split <;> simp

@[simp] theorem State.takeDigest_aside (s : State) (g : Digest) : (s.takeDigest g).aside = s.aside := by
  unfold State.takeDigest
  dsimp only
  repeat' split
  all_goals simp [↓State.aside_mk, ↓State.aside_fold]

@[simp] theorem State.fillTimer_aside (s : State) (q i : Nat) : (s.fillTimer q i).aside = s.aside := by
  unfold State.fillTimer
  dsimp only
  repeat' split
  all_goals simp

@[simp] theorem State.fillAnswer_aside (s : State) (q i : Nat) : (s.fillAnswer q i).aside = s.aside := by
  unfold State.fillAnswer
  repeat' split
  all_goals simp

@[simp] theorem State.ingestAbort_aside (s : State) : s.ingestAbort.aside = s.aside := by
  simp [State.ingestAbort, ↓State.aside_mk, ↓State.aside_fold]

@[simp] theorem State.setCmx_aside (s : State) (m : Nat) (j : Option CmxJob) : (s.setCmx m j).aside = s.aside := by
  unfold State.setCmx
  dsimp only
  split <;> simp [↓State.aside_mk, ↓State.aside_fold]

@[simp] theorem State.cmxStart_aside (s : State) : s.cmxStart.aside = s.aside := by
  unfold State.cmxStart
  dsimp only
  repeat' split
  all_goals simp [↓State.aside_mk, ↓State.aside_fold]

@[simp] theorem State.cmxDone_aside (s : State) (m : Nat) : (s.cmxDone m).aside = s.aside := by
  unfold State.cmxDone
  split <;> simp

@[simp] theorem execPageDesc_aside (k : Faong) (s : State) : (s.after (execPageDesc k s)).aside = s.aside := by
  simp [execPageDesc]

@[simp] theorem execStripeData_aside (k : Faong) (s : State) : (s.after (execStripeData k s)).aside = s.aside := by
  simp [execStripeData]

@[simp] theorem execStripeEnd_aside (k : Faong) (s : State) : (s.after (execStripeEnd k s)).aside = s.aside := by
  simp [execStripeEnd]

@[simp] theorem execCancel_aside (k : Faong) (s : State) : (s.after (execCancel k s)).aside = s.aside := by
  simp [execCancel]

@[simp] theorem execAbortIngest_aside (k : Faong) (s : State) : (s.after (execAbortIngest k s)).aside = s.aside := by
  simp [execAbortIngest]

@[simp] theorem execSync_aside (k : Faong) (s : State) : (s.after (execSync k s)).aside = s.aside := by
  simp [execSync]

@[simp] theorem execDpCtrlAbort_aside (value : Word) (s : State) : (s.after (execDpCtrlAbort value s)).aside = s.aside := by
  simp [execDpCtrlAbort]

@[simp] theorem execIngestAbortEffect_aside (s : State) : (s.after (execIngestAbortEffect s)).aside = s.aside := by
  simp [execIngestAbortEffect]

@[simp] theorem execCredit_aside (s : State) : (s.after (execCredit s)).aside = s.aside := by
  simp [execCredit]

@[simp] theorem execDataPortUp_aside (s : State) : (s.after (execDataPortUp s)).aside = s.aside := by
  simp [execDataPortUp]

@[simp] theorem execDataPortDown_aside (s : State) : (s.after (execDataPortDown s)).aside = s.aside := by
  simp [execDataPortDown]

@[simp] theorem execStripeVerifyDone_aside (e : Fin 8) (s : State) : (s.after (execStripeVerifyDone e s)).aside = s.aside := by
  simp [execStripeVerifyDone]

@[simp] theorem execDecodeAssign_aside (s : State) : (s.after (execDecodeAssign s)).aside = s.aside := by
  simp [execDecodeAssign]

@[simp] theorem execPrintDecodeDone_aside (e : Fin 8) (s : State) : (s.after (execPrintDecodeDone e s)).aside = s.aside := by
  simp [execPrintDecodeDone]

@[simp] theorem execCompletion_aside (s : State) : (s.after (execCompletion s)).aside = s.aside := by
  simp [execCompletion]

@[simp] theorem execDigestReceive_aside (rx : Rx) (seq : Nat) (d : Digest) (s : State) :
    (s.after (execDigestReceive rx seq d s)).aside = s.aside := by
  simp [execDigestReceive]

@[simp] theorem execFillinTimer_aside (pseq stripe : Nat) (s : State) : (s.after (execFillinTimer pseq stripe s)).aside = s.aside := by
  simp [execFillinTimer]

@[simp] theorem execFillReq_aside (rx : Rx) (seq pseq stripe : Nat) (s : State) :
    (s.after (execFillReq rx seq pseq stripe s)).aside = s.aside := by
  simp [execFillReq]

@[simp] theorem execFillData_aside (rx : Rx) (seq pseq stripe lines : Nat) (data : List Byte) (s : State) :
    (s.after (execFillData rx seq pseq stripe lines data s)).aside = s.aside := by
  simp [execFillData]

@[simp] theorem execCmxJobStart_aside (s : State) : (s.after (execCmxJobStart s)).aside = s.aside := by
  simp [execCmxJobStart]

@[simp] theorem execCmxJobDone_aside (m : Fin 2) (s : State) : (s.after (execCmxJobDone m s)).aside = s.aside := by
  simp [execCmxJobDone]

/-! ### `Machine/Screen` -/

@[simp] theorem State.trimGens_aside (s : State) : s.trimGens.aside = s.aside := by
  simp [State.trimGens, ↓State.aside_mk, ↓State.aside_fold]

@[simp] theorem State.sendGen_aside (s : State) (kind : Nat) (g : TableGen) : (s.sendGen kind g).aside = s.aside := by
  simp [State.sendGen]

@[simp] theorem State.commitCtb_aside (s : State) : s.commitCtb.aside = s.aside := by
  simp [State.commitCtb, ↓State.aside_mk, ↓State.aside_fold]

@[simp] theorem State.syncStaged_aside (s : State) (g : TableGen) : (s.syncStaged g).aside = s.aside := by
  simp [State.syncStaged]

@[simp] theorem State.commitNm_aside (s : State) (tab : Tab Nat) (analyser : Bool) : (s.commitNm tab analyser).aside = s.aside := by
  simp [State.commitNm, ↓State.aside_mk, ↓State.aside_fold]

@[simp] theorem State.analyserCommit_aside (s : State) : s.analyserCommit.aside = s.aside := by
  simp [State.analyserCommit, ↓State.aside_mk, ↓State.aside_fold]

@[simp] theorem State.standbyCommit_aside (s : State) : s.standbyCommit.aside = s.aside := by
  simp [State.standbyCommit]

@[simp] theorem State.writeLine_aside (s : State) (b : BandLine) : (s.writeLine b).aside = s.aside := by
  simp [State.writeLine, ↓State.aside_mk, ↓State.aside_fold]

@[simp] theorem State.loadCtb_aside (s : State) (gen : Nat) : (s.loadCtb gen).aside = s.aside := by
  simp [State.loadCtb, ↓State.aside_mk, ↓State.aside_fold]

@[simp] theorem State.screenPageLine_aside (s : State) (p : Page) (line y : Nat) : (s.screenPageLine p line y).aside = s.aside := by
  unfold State.screenPageLine
  dsimp only
  repeat' split
  all_goals simp [↓State.aside_mk, ↓State.aside_fold]

@[simp] theorem State.screenLine_aside (s : State) (line : Nat) : (s.screenLine line).aside = s.aside := by
  unfold State.screenLine
  repeat' split
  all_goals simp

@[simp] theorem State.thrOpen_aside (s : State) (k : Nat) : (s.thrOpen k).aside = s.aside := by
  simp [State.thrOpen]

@[simp] theorem State.thrClear_aside (s : State) (k : Nat) (value : Word) : (s.thrClear k value).aside = s.aside := by
  simp [State.thrClear]

@[simp] theorem State.thrSize_aside (s : State) (k : Nat) (value : Word) : (s.thrSize k value).aside = s.aside := by
  simp [State.thrSize]

@[simp] theorem State.thrClose_aside (s : State) (k : Nat) : (s.thrClose k).aside = s.aside := by
  simp [State.thrClose, ↓State.aside_mk, ↓State.aside_fold]

@[simp] theorem State.thrCheck_aside (s : State) (k : Nat) : (s.thrCheck k).aside = s.aside := by
  unfold State.thrCheck
  dsimp only
  repeat' split
  all_goals simp [↓State.aside_mk, ↓State.aside_fold]

@[simp] theorem execScreenLine_aside (line : Nat) (s : State) : (s.after (execScreenLine line s)).aside = s.aside := by
  simp [execScreenLine]

@[simp] theorem execScrCommit_aside (s : State) : (s.after (execScrCommit s)).aside = s.aside := by
  simp [execScrCommit, ↓State.aside_mk, ↓State.aside_fold]

@[simp] theorem execNmCommit_aside (s : State) : (s.after (execNmCommit s)).aside = s.aside := by
  simp [execNmCommit, ↓State.aside_mk, ↓State.aside_fold]

@[simp] theorem State.thrWrite_aside (s : State) (k : Nat) (opens : Bool) (value : Word) :
    (s.thrWrite k opens value).aside = s.aside := by
  simp [State.thrWrite]

@[simp] theorem execScrThrOpen_aside (k : Fin 8) (value : Word) (s : State) : (s.after (execScrThrOpen k value s)).aside = s.aside := by
  simp [execScrThrOpen]

@[simp] theorem execScrThrClose_aside (k : Fin 8) (value : Word) (s : State) : (s.after (execScrThrClose k value s)).aside = s.aside := by
  simp [execScrThrClose]

@[simp] theorem execScrThrCheckDone_aside (k : Fin 8) (s : State) : (s.after (execScrThrCheckDone k s)).aside = s.aside := by
  simp [execScrThrCheckDone]

/-! ### `Machine/HeadOps` -/

@[simp] theorem State.setPort_aside (s : State) (p : Nat) (x : Port) : (s.setPort p x).aside = s.aside := by
  simp [State.setPort, ↓State.aside_mk, ↓State.aside_fold]

@[simp] theorem State.mapPort_aside (s : State) (p : Nat) (f : Port → Port) : (s.mapPort p f).aside = s.aside := by
  simp [State.mapPort]

@[simp] theorem State.sendHead_aside (s : State) (p kind : Nat) (args : List Nat) : (s.sendHead p kind args).aside = s.aside := by
  simp [State.sendHead]

@[simp] theorem State.wakePort_aside (s : State) (p : Nat) : (s.wakePort p).aside = s.aside := by
  simp [State.wakePort]

@[simp] theorem State.startReq_aside (s : State) (p : Nat) (r : MgmtReq) : (s.startReq p r).aside = s.aside := by
  simp [State.startReq]

@[simp] theorem State.queueReq_aside (s : State) (p op : Nat) (args : List Nat) : (s.queueReq p op args).aside = s.aside := by
  unfold State.queueReq
  dsimp only
  repeat' split
  all_goals simp

@[simp] theorem State.nextReq_aside (s : State) (p : Nat) : (s.nextReq p).aside = s.aside := by
  unfold State.nextReq
  dsimp only
  split <;> simp

@[simp] theorem State.setWd_aside (s : State) (p : Nat) (l : List Withdrawal) : (s.setWd p l).aside = s.aside := by
  simp [State.setWd, ↓State.aside_mk, ↓State.aside_fold]

@[simp] theorem State.beginWd_aside (s : State) (p cause : Nat) : (s.beginWd p cause).aside = s.aside := by
  simp [State.beginWd, ↓State.aside_mk, ↓State.aside_fold]

@[simp] theorem State.endWd_aside (s : State) (p : Nat) : (s.endWd p).aside = s.aside := by
  unfold State.endWd
  dsimp only
  split <;> simp [↓State.aside_mk, ↓State.aside_fold]

@[simp] theorem State.driveHeads_aside (s : State) (k : Nat) : (s.driveHeads k).aside = s.aside := by
  simp [State.driveHeads, ↓State.aside_mk, ↓State.aside_fold]

@[simp] theorem State.syncWd_aside (s : State) (p : Nat) : (s.syncWd p).aside = s.aside := by
  simp [State.syncWd]

@[simp] theorem State.noteSubst_aside (s : State) (p r n : Nat) : (s.noteSubst p r n).aside = s.aside := by
  simp [State.noteSubst]

@[simp] theorem State.startBringUp_aside (s : State) (p : Nat) : (s.startBringUp p).aside = s.aside := by
  simp [State.startBringUp]

@[simp] theorem State.paramLost_aside (s : State) (p : Nat) : (s.paramLost p).aside = s.aside := by
  simp [State.paramLost]

@[simp] theorem State.paramReplied_aside (s : State) (p : Nat) : (s.paramReplied p).aside = s.aside := by
  simp [State.paramReplied, ↓State.aside_mk, ↓State.aside_fold]

@[simp] theorem State.restartBringUp_aside (s : State) (p : Nat) : (s.restartBringUp p).aside = s.aside := by
  simp [State.restartBringUp]

@[simp] theorem State.portDown_aside (s : State) (p : Nat) : (s.portDown p).aside = s.aside := by
  simp [State.portDown]

@[simp] theorem State.sendTable_aside (s : State) (p kind : Nat) (data : List Byte) : (s.sendTable p kind data).aside = s.aside := by
  simp [State.sendTable]

@[simp] theorem State.sendTrims_aside (s : State) (p : Nat) (g : TableGen) (first : Nat) : (s.sendTrims p g first).aside = s.aside := by
  simp [State.sendTrims]

@[simp] theorem State.sendRowFractions_aside (s : State) (p : Nat) (g : TableGen) (first : Nat) :
    (s.sendRowFractions p g first).aside = s.aside := by
  simp [State.sendRowFractions]

@[simp] theorem State.sendTables_aside (s : State) (p : Nat) : (s.sendTables p).aside = s.aside := by
  unfold State.sendTables
  dsimp only
  rw [State.sendTrims_aside, State.mapPort_aside, State.sendTable_aside]
  refine foldl_aside (fun t k => ?_) _ s
  split <;> simp

@[simp] theorem State.tryReady_aside (s : State) (p : Nat) : (s.tryReady p).aside = s.aside := by
  unfold State.tryReady
  dsimp only
  split <;> simp [↓State.aside_mk, ↓State.aside_fold]

/-! ### `Machine/Fetch` -/

@[simp] theorem State.writeScree_aside (s : State) (e : ScreeEntry) : (s.writeScree e).aside = s.aside := by
  simp [State.writeScree, ↓State.aside_mk, ↓State.aside_fold]

@[simp] theorem State.closeScree_aside (s : State) (e : ScreeEntry) : (s.closeScree e).aside = s.aside := by
  simp [State.closeScree, ↓State.aside_mk, ↓State.aside_fold]

@[simp] theorem State.openScree_aside (s : State) (e : ScreeEntry) : (s.openScree e).aside = s.aside := by
  simp [State.openScree, ↓State.aside_mk, ↓State.aside_fold]

@[simp] theorem State.scree_aside (s : State) (pseq kind port cs noz lo hi changed removed : Nat) :
    (s.scree pseq kind port cs noz lo hi changed removed).aside = s.aside := by
  unfold State.scree
  dsimp only
  split <;> simp [↓State.aside_mk, ↓State.aside_fold]

@[simp] theorem State.screeQuiet_aside (s : State) (port : Nat) : (s.screeQuiet port).aside = s.aside := by
  simp [State.screeQuiet, ↓State.aside_mk, ↓State.aside_fold]

@[simp] theorem State.screeClose_aside (s : State) (pseq kind port noz : Nat) : (s.screeClose pseq kind port noz).aside = s.aside := by
  unfold State.screeClose
  split <;> simp

theorem dutyDrop_aside (p N : Nat) (h : List DutyLine) (sites : List Site) (a : DutyAcc) (i : Nat) :
    (dutyDrop p N h sites a i).s.aside = a.s.aside := by
  unfold dutyDrop
  dsimp only
  split
  · rfl
  · split
    · split <;> simp [↓State.aside_mk, ↓State.aside_fold]
    · rfl

@[simp] theorem State.dutyLimit_aside (s : State) (p N : Nat) (sites : List Site) (codes : Tab Nat) :
    (s.dutyLimit p N sites codes).1.aside = s.aside := by
  unfold State.dutyLimit
  dsimp only
  simp only [↓State.aside_mk, ↓State.aside_fold]
  split
  · rfl
  · exact foldl_keeps (fun a : DutyAcc => a.s.aside) (dutyDrop_aside p N _ sites) _ _

@[simp] theorem siteDrop_aside (p : Nat) (a : State × Tab Nat) (t : Site) : (siteDrop p a t).1.aside = a.1.aside := by
  unfold siteDrop
  extract_lets s g k i _ mark subs sub w fired noted cap k1 d lim k2 capped _ listed
  have hmark : mark.aside = s.aside := by simp [mark, ↓State.aside_mk, ↓State.aside_fold]
  have hnoted : noted.aside = s.aside := by
    dsimp only [noted]
    split
    · rfl
    · split
      · simp
      · split <;> simp
  have hlisted : listed.aside = s.aside := by simp [listed, capped, hnoted, ↓State.aside_mk, ↓State.aside_fold]
  clear_value mark listed
  split
  · rfl
  split
  · split
    · split <;> simp [s]
    · rfl
  split
  · split
    · exact hmark
    · split <;> simp [s]
  split
  · split
    · exact hmark
    · split <;> simp [s]
  split
  · rfl
  · exact hlisted

@[simp] theorem State.wholeScree_aside (s : State) (kind N : Nat) (l : List Site) (removed : Nat) :
    (s.wholeScree kind N l removed).aside = s.aside := by
  simp [State.wholeScree, ↓State.aside_mk, ↓State.aside_fold]

@[simp] theorem State.lateFrame_aside (s : State) (p : Nat) (l : List Site) : (s.lateFrame p l).aside = s.aside := by
  simp [State.lateFrame, ↓State.aside_mk, ↓State.aside_fold]

@[simp] theorem State.dispatch_aside (s : State) (p N : Nat) (l : List Site) (late replay : Bool) (codes : Tab Nat) :
    (s.dispatch p N l late replay codes).aside = s.aside := by
  simp [State.dispatch]

@[simp] theorem State.noteFired_aside (s : State) (N : Nat) (l : List Site) (codes : Tab Nat) :
    (s.noteFired N l codes).aside = s.aside := by
  simp [State.noteFired, ↓State.aside_mk, ↓State.aside_fold]

@[simp] theorem State.noteUnverified_aside (s : State) (p : Nat) (l : List Site) (codes : Tab Nat) :
    (s.noteUnverified p l codes).aside = s.aside := by
  simp [State.noteUnverified]

@[simp] theorem State.build_aside (s : State) (p N cause : Nat) (late replay : Bool) (l : List Site) :
    (s.build p N cause late replay l).aside = s.aside := by
  unfold State.build
  extract_lets quiet lost hidden dropped r strips taken _ unfired fired sent _
  have hquiet : quiet.aside = s.aside := by simp [quiet]
  have hhidden : hidden.aside = s.aside := by simp [hidden, hquiet]
  have hr : r.1.aside = s.aside := by
    dsimp only [r]
    split
    · simp [hquiet]
    · split
      · simp [hquiet]
      · rw [State.dutyLimit_aside]
        exact (foldl_keeps (fun a : State × Tab Nat => a.1.aside) (siteDrop_aside p) l (hidden, [])).trans hhidden
  simp [sent, fired, unfired, taken, hr, ↓State.aside_mk, ↓State.aside_fold]

@[simp] theorem State.sendJournal_aside (s : State) (N : Nat) : (s.sendJournal N).aside = s.aside := by
  simp [State.sendJournal, ↓State.aside_mk, ↓State.aside_fold]

@[simp] theorem flushLines_aside (k : Nat) (s : State) : (flushLines k s).aside = s.aside := by
  induction k generalizing s with
  | zero => rfl
  | succ k ih => simp [flushLines, ih, apply_ite State.aside]

@[simp] theorem State.flushJournal_aside (s : State) : s.flushJournal.aside = s.aside := by
  simp [State.flushJournal]

@[simp] theorem State.assemble_aside (s : State) (p N : Nat) (deadline : Bool) : (s.assemble p N deadline).aside = s.aside := by
  simp [State.assemble, ↓State.aside_mk, ↓State.aside_fold]

@[simp] theorem State.noteLead_aside (s : State) : s.noteLead.aside = s.aside := by
  simp [State.noteLead]

@[simp] theorem execFrameAssemble_aside (p : Fin 128) (line : Nat) (s : State) :
    (s.after (execFrameAssemble p line s)).aside = s.aside := by
  simp [execFrameAssemble]

@[simp] theorem execFetchDeadline_aside (p : Fin 128) (line : Nat) (s : State) :
    (s.after (execFetchDeadline p line s)).aside = s.aside := by
  simp [execFetchDeadline]

@[simp] theorem execScreeEntryClose_aside (pseq kind port noz : Nat) (s : State) :
    (s.after (execScreeEntryClose pseq kind port noz s)).aside = s.aside := by
  simp [execScreeEntryClose]

@[simp] theorem execFfDutyWeightWrite_aside (hi : Bool) (value : Word) (s : State) :
    (s.after (execFfDutyWeightWrite hi value s)).aside = s.aside := by
  simp [execFfDutyWeightWrite]

/-! ### `Machine/LoopOps` -/

@[simp] theorem State.setSlot_aside (s : State) (n : Nat) (x : Slot) : (s.setSlot n x).aside = s.aside := by
  simp [State.setSlot, ↓State.aside_mk, ↓State.aside_fold]

@[simp] theorem State.mapSlot_aside (s : State) (n : Nat) (f : Slot → Slot) : (s.mapSlot n f).aside = s.aside := by
  simp [State.mapSlot]

@[simp] theorem State.requestMode_aside (s : State) (n m : Nat) : (s.requestMode n m).aside = s.aside := by
  simp [State.requestMode]

@[simp] theorem State.forceSlot_aside (s : State) (n cause : Nat) : (s.forceSlot n cause).aside = s.aside := by
  simp [State.forceSlot]

@[simp] theorem State.releaseSlot_aside (s : State) (n : Nat) : (s.releaseSlot n).aside = s.aside := by
  simp [State.releaseSlot]

/-! ### `Machine/Fpe` -/

@[simp] theorem State.mapFpe_aside (s : State) (f : FpeSt → FpeSt) : (s.mapFpe f).aside = s.aside := by
  simp [State.mapFpe, ↓State.aside_mk, ↓State.aside_fold]

@[simp] theorem State.takeScales_aside (s : State) : s.takeScales.aside = s.aside := by
  simp [State.takeScales]

@[simp] theorem State.takeCounts_aside (s : State) : s.takeCounts.aside = s.aside := by
  simp [State.takeCounts]

@[simp] theorem State.alignSrc_aside (s : State) (k : Nat) : (s.alignSrc k).aside = s.aside := by
  simp [State.alignSrc]

@[simp] theorem State.enterMode_aside (s : State) (m : Nat) : (s.enterMode m).aside = s.aside := by
  simp [State.enterMode]

@[simp] theorem State.alignAll_aside (s : State) : s.alignAll.aside = s.aside := by
  simp [State.alignAll]

@[simp] theorem State.crossCheck_aside (s : State) : s.crossCheck.aside = s.aside := by
  simp [State.crossCheck]

@[simp] theorem State.reversal_aside (s : State) : s.reversal.aside = s.aside := by
  simp [State.reversal]

@[simp] theorem State.advAssert_aside (s : State) : s.advAssert.aside = s.aside := by
  simp [State.advAssert, ↓State.aside_mk, ↓State.aside_fold]

@[simp] theorem State.checkRate_aside (s : State) : s.checkRate.aside = s.aside := by
  simp [State.checkRate]

@[simp] theorem State.lqUpdate_aside (s : State) : s.lqUpdate.aside = s.aside := by
  simp [State.lqUpdate]

@[simp] theorem execFpeLqUpdate_aside (s : State) : (s.after (execFpeLqUpdate s)).aside = s.aside := by
  simp [execFpeLqUpdate]

@[simp] theorem State.selSource_aside (s : State) (k : Nat) : (s.selSource k).aside = s.aside := by
  simp [State.selSource]

@[simp] theorem State.writeFpeCtrl_aside (s : State) (value : Word) : (s.writeFpeCtrl value).aside = s.aside := by
  simp [State.writeFpeCtrl]

@[simp] theorem execFpeSelA_aside (value : Word) (s : State) : (s.after (execFpeSelA value s)).aside = s.aside := by
  simp [execFpeSelA]

@[simp] theorem execFpeSelB_aside (value : Word) (s : State) : (s.after (execFpeSelB value s)).aside = s.aside := by
  simp [execFpeSelB]

@[simp] theorem execFpeCoastExpired_aside (s : State) : (s.after (execFpeCoastExpired s)).aside = s.aside := by
  simp [execFpeCoastExpired]

@[simp] theorem State.setLag_aside (s : State) (lag : Nat) : (s.setLag lag).aside = s.aside := by
  simp [State.setLag]

@[simp] theorem State.setDecision_aside (s : State) (N : Nat) (d : LineDec) : (s.setDecision N d).aside = s.aside := by
  simp [State.setDecision]

@[simp] theorem State.setLast_aside (s : State) (ds : List Nat) (t : Nat) : (s.setLast ds t).aside = s.aside := by
  simp [State.setLast]

@[simp] theorem State.skipLine_aside (s : State) (N : Nat) (sites : List Site) : (s.skipLine N sites).aside = s.aside := by
  simp [State.skipLine]

@[simp] theorem State.blankForSpeed_aside (s : State) (q : Page) (sites : List Site) : (s.blankForSpeed q sites).aside = s.aside := by
  simp [State.blankForSpeed]

@[simp] theorem State.decideLine_aside (s : State) (N tw : Nat) (ds : List Nat) (sites : List Site) :
    (s.decideLine N tw ds sites).aside = s.aside := by
  unfold State.decideLine
  extract_lets gmax due fast pg pol noted fallen risen still paced inBlank freed tf fired key fall plain blanked absorbed
  have hfreed : freed.aside = s.aside := by simp [freed, risen, noted]
  have hfired : fired.aside = s.aside := by simp [fired, hfreed]
  have hfall : fall.aside = s.aside := by simp [fall, hfreed]
  have hplain : plain.aside = s.aside := by simp [plain, hfreed]
  have hblanked : blanked.aside = s.aside := by
    dsimp only [blanked]
    split <;> simp [hplain]
  have habsorbed : absorbed.aside = s.aside := by simp [absorbed, hplain]
  clear_value freed fired fall plain blanked absorbed
  simp [hfreed, hfired, hfall, hplain, hblanked, habsorbed]

@[simp] theorem State.dateRecord_aside (s : State) (N t256 : Nat) : (s.dateRecord N t256).aside = s.aside := by
  simp [State.dateRecord, ↓State.aside_mk, ↓State.aside_fold]

@[simp] theorem State.passTo_aside (s : State) (N : Nat) : (s.passTo N).aside = s.aside := by
  simp [State.passTo, ↓State.aside_mk, ↓State.aside_fold]

@[simp] theorem State.lineDecision_aside (s : State) (N : Nat) : (s.lineDecision N).aside = s.aside := by
  simp [State.lineDecision]

@[simp] theorem execLineDecision_aside (line : Nat) (s : State) : (s.after (execLineDecision line s)).aside = s.aside := by
  simp [execLineDecision]

@[simp] theorem execAbsHoldExpiry_aside (s : State) : (s.after (execAbsHoldExpiry s)).aside = s.aside := by
  simp [execAbsHoldExpiry]

@[simp] theorem execSpdAdvRelease_aside (s : State) : (s.after (execSpdAdvRelease s)).aside = s.aside := by
  simp [execSpdAdvRelease, ↓State.aside_mk, ↓State.aside_fold]

@[simp] theorem execSpeedAdvisory_aside (s : State) : (s.after (execSpeedAdvisory s)).aside = s.aside := by
  simp [execSpeedAdvisory]

@[simp] theorem State.paceStamp_aside (s : State) (p N t : Nat) : (s.paceStamp p N t).2.aside = s.aside := by
  unfold State.paceStamp
  dsimp only
  repeat' split
  all_goals simp [↓State.aside_mk, ↓State.aside_fold]

@[simp] theorem State.dateStamp_aside (s : State) (p N t : Nat) : (s.dateStamp p N t).aside = s.aside := by
  simp [State.dateStamp]

@[simp] theorem State.issueStamp_aside (s : State) (p N : Nat) : (s.issueStamp p N).aside = s.aside := by
  unfold State.issueStamp
  dsimp only
  split <;> simp

@[simp] theorem execStampIssue_aside (p : Fin 128) (line : Nat) (s : State) : (s.after (execStampIssue p line s)).aside = s.aside := by
  simp [execStampIssue]

/-! ### `Machine/LampOps` -/

@[simp] theorem State.mapLamp_aside (s : State) (n : Nat) (f : Lamp → Lamp) : (s.mapLamp n f).aside = s.aside := by
  simp [State.mapLamp, ↓State.aside_mk, ↓State.aside_fold]

@[simp] theorem State.driveLamp_aside (s : State) (n : Nat) : (s.driveLamp n).aside = s.aside := by
  simp [State.driveLamp, ↓State.aside_mk, ↓State.aside_fold]

@[simp] theorem State.darkLamp_aside (s : State) (n : Nat) : (s.darkLamp n).aside = s.aside := by
  simp [State.darkLamp]

@[simp] theorem State.writeLmpCfg_aside (s : State) (n : Nat) (value : Word) : (s.writeLmpCfg n value).aside = s.aside := by
  simp [State.writeLmpCfg]

@[simp] theorem State.strobe_aside (s : State) (n code delay width : Nat) : (s.strobe n code delay width).2.aside = s.aside := by
  unfold State.strobe
  dsimp only
  repeat' split
  all_goals simp [↓State.aside_mk, ↓State.aside_fold]

@[simp] theorem State.lampFault_aside (s : State) (n : Nat) (isOpen : Bool) : (s.lampFault n isOpen).aside = s.aside := by
  simp [State.lampFault]

@[simp] theorem State.setPattern_aside (s : State) (e : Nat) (x : Pattern) : (s.setPattern e x).aside = s.aside := by
  simp [State.setPattern, ↓State.aside_mk, ↓State.aside_fold]

@[simp] theorem State.mapPattern_aside (s : State) (e : Nat) (f : Pattern → Pattern) : (s.mapPattern e f).aside = s.aside := by
  simp [State.mapPattern]

@[simp] theorem State.setLevel_aside (s : State) (e level : Nat) : (s.setLevel e level).aside = s.aside := by
  unfold State.setLevel
  exact foldl_keeps State.aside (by simp) _ _

@[simp] theorem State.setMask_aside (s : State) (e mask : Nat) : (s.setMask e mask).aside = s.aside := by
  unfold State.setMask
  exact foldl_keeps State.aside (by simp) _ _

@[simp] theorem State.stopEngine_aside (s : State) (e : Nat) : (s.stopEngine e).aside = s.aside := by
  simp [State.stopEngine]

@[simp] theorem runSteps_aside (fuel : Nat) (s : State) (e step : Nat) : (runSteps fuel s e step).aside = s.aside := by
  induction fuel generalizing s step with
  | zero => simp [runSteps]
  | succ fuel ih =>
    unfold runSteps
    dsimp only
    repeat' split
    all_goals simp [ih]

@[simp] theorem State.nextStep_aside (s : State) (e : Nat) : (s.nextStep e).aside = s.aside := by
  simp [State.nextStep]

@[simp] theorem State.ramps_aside (s : State) : s.ramps.aside = s.aside := by
  simp [State.ramps]

/-! ### `Machine/Loop` -/

@[simp] theorem State.driveSink_aside (s : State) (n : Nat) (u : Int) : (s.driveSink n u).aside = s.aside := by
  unfold State.driveSink
  dsimp only
  split <;> simp [↓State.aside_mk, ↓State.aside_fold]

@[simp] theorem State.setTrace_aside (s : State) (b : Nat) (x : TraceBuf) : (s.setTrace b x).aside = s.aside := by
  simp [State.setTrace, ↓State.aside_mk, ↓State.aside_fold]

@[simp] theorem State.traceSample_aside (s : State) (b : Nat) (causes : List Nat) : (s.traceSample b causes).aside = s.aside := by
  simp [State.traceSample]

@[simp] theorem State.traceAll_aside (s : State) (n : Nat) (causes : List Nat) : (s.traceAll n causes).aside = s.aside := by
  simp [State.traceAll]

@[simp] theorem State.applyHeld_aside (s : State) (n : Nat) (l : List (Nat × Nat)) : (s.applyHeld n l).aside = s.aside := by
  simp [State.applyHeld]

@[simp] theorem State.swapCoef_aside (s : State) (n : Nat) : (s.swapCoef n).aside = s.aside := by
  simp [State.swapCoef]

@[simp] theorem State.applyOut_aside (s : State) (n : Nat) (u : Int) : (s.applyOut n u).aside = s.aside := by
  simp [State.applyOut]

@[simp] theorem State.forcedSample_aside (s : State) (n : Nat) : (s.forcedSample n).aside = s.aside := by
  simp [State.forcedSample]

@[simp] theorem State.evalSample_aside (s : State) (n : Nat) : (s.evalSample n).aside = s.aside := by
  simp [State.evalSample]

@[simp] theorem State.loopSample_aside (s : State) (n : Nat) (late : Bool) : (s.loopSample n late).aside = s.aside := by
  simp [State.loopSample]

@[simp] theorem execLoopSample_aside (n : Fin 176) (late : Bool) (adc : Nat) (s : State) :
    (s.after (execLoopSample n late adc s)).aside = s.aside := by
  simp [execLoopSample, ↓State.aside_mk, ↓State.aside_fold]

@[simp] theorem State.refuseSched_aside (s : State) (n : Nat) : (s.refuseSched n).aside = s.aside := by
  simp [State.refuseSched]

@[simp] theorem State.writeLeSched_aside (s : State) (n : Nat) (value : Word) : (s.writeLeSched n value).aside = s.aside := by
  simp [State.writeLeSched]

@[simp] theorem execLeSchedWrite_aside (n : Fin 176) (value : Word) (s : State) :
    (s.after (execLeSchedWrite n value s)).aside = s.aside := by
  simp [execLeSchedWrite]

@[simp] theorem State.askMode_aside (s : State) (n m : Nat) : (s.askMode n m).aside = s.aside := by
  simp [State.askMode]

@[simp] theorem State.writeLeCfg_aside (s : State) (n : Nat) (value : Word) : (s.writeLeCfg n value).aside = s.aside := by
  simp [State.writeLeCfg]

@[simp] theorem execLeCfgSwap_aside (n : Fin 176) (value : Word) (s : State) : (s.after (execLeCfgSwap n value s)).aside = s.aside := by
  simp [execLeCfgSwap]

@[simp] theorem execLeCfgAbort_aside (n : Fin 176) (value : Word) (s : State) : (s.after (execLeCfgAbort n value s)).aside = s.aside := by
  simp [execLeCfgAbort]

@[simp] theorem execLeModeWrite_aside (n : Fin 176) (value : Word) (s : State) :
    (s.after (execLeModeWrite n value s)).aside = s.aside := by
  simp [execLeModeWrite]

@[simp] theorem execLeEnable_aside (n : Fin 176) (value : Word) (s : State) : (s.after (execLeEnable n value s)).aside = s.aside := by
  simp [execLeEnable]

@[simp] theorem State.writeLimit_aside (s : State) (n : Nat) (hi : Bool) (value : Word) : (s.writeLimit n hi value).aside = s.aside := by
  simp [State.writeLimit]

@[simp] theorem execLeLimitWrite_aside (n : Fin 176) (hi : Bool) (value : Word) (s : State) :
    (s.after (execLeLimitWrite n hi value s)).aside = s.aside := by
  simp [execLeLimitWrite]

@[simp] theorem State.writeHostSeq_aside (s : State) (n : Nat) (value : Word) : (s.writeHostSeq n value).aside = s.aside := by
  simp [State.writeHostSeq]

@[simp] theorem execLeHostSeq_aside (n : Fin 176) (value : Word) (s : State) : (s.after (execLeHostSeq n value s)).aside = s.aside := by
  simp [execLeHostSeq]

@[simp] theorem State.writeLeGctrl_aside (s : State) (value : Word) : (s.writeLeGctrl value).aside = s.aside := by
  simp [State.writeLeGctrl]

@[simp] theorem State.fellBack_aside (s : State) (fn : Nat) : (s.fellBack fn).aside = s.aside := by
  simp [State.fellBack]

@[simp] theorem State.hostSilence_aside (s : State) (f : HostFn) : (s.hostSilence f).aside = s.aside := by
  unfold State.hostSilence
  repeat' split
  all_goals simp [↓State.aside_mk, ↓State.aside_fold]

@[simp] theorem execHostSilenceExpiry_aside (f : HostFn) (s : State) : (s.after (execHostSilenceExpiry f s)).aside = s.aside := by
  simp [execHostSilenceExpiry]

@[simp] theorem State.writeTrcCfg_aside (s : State) (b : Nat) (value : Word) : (s.writeTrcCfg b value).aside = s.aside := by
  simp [State.writeTrcCfg]

@[simp] theorem execTrcArm_aside (b : Fin 4) (value : Word) (s : State) : (s.after (execTrcArm b value s)).aside = s.aside := by
  simp [execTrcArm]

@[simp] theorem execTrcForce_aside (b : Fin 4) (value : Word) (s : State) : (s.after (execTrcForce b value s)).aside = s.aside := by
  simp [execTrcForce]

@[simp] theorem State.writeTrcDump_aside (s : State) (b : Nat) (value : Word) : (s.writeTrcDump b value).aside = s.aside := by
  simp [State.writeTrcDump]

@[simp] theorem execTrcDumpGo_aside (b : Fin 4) (value : Word) (s : State) : (s.after (execTrcDumpGo b value s)).aside = s.aside := by
  simp [execTrcDumpGo]

@[simp] theorem execKnownAnswerTest_aside (pass : Bool) (s : State) : (s.after (execKnownAnswerTest pass s)).aside = s.aside := by
  simp [execKnownAnswerTest]

/-! ### `Machine/Inspect` -/

@[simp] theorem State.mapCtx_aside (s : State) (c : Nat) (f : Ctx → Ctx) : (s.mapCtx c f).aside = s.aside := by
  simp [State.mapCtx, ↓State.aside_mk, ↓State.aside_fold]

@[simp] theorem State.mapCam_aside (s : State) (n : Nat) (f : CamPort → CamPort) : (s.mapCam n f).aside = s.aside := by
  simp [State.mapCam, ↓State.aside_mk, ↓State.aside_fold]

@[simp] theorem State.syncCam_aside (s : State) (n : Nat) : (s.syncCam n).aside = s.aside := by
  simp [State.syncCam]

@[simp] theorem State.setSel_aside (s : State) (n : Nat) (high : Bool) : (s.setSel n high).aside = s.aside := by
  simp [State.setSel, ↓State.aside_mk, ↓State.aside_fold]

@[simp] theorem State.makeCtxGen_aside (s : State) (c target : Nat) : (s.makeCtxGen c target).aside = s.aside := by
  simp [State.makeCtxGen]

@[simp] theorem State.writeIspCommit_aside (s : State) (c : Nat) (value : Word) : (s.writeIspCommit c value).aside = s.aside := by
  simp [State.writeIspCommit]

@[simp] theorem State.releaseHeld_aside (s : State) (c : Nat) : (s.releaseHeld c).aside = s.aside := by
  unfold State.releaseHeld
  split <;> simp

@[simp] theorem State.bindGen_aside (s : State) (c tseq : Nat) : (s.bindGen c tseq).aside = s.aside := by
  unfold State.bindGen
  split <;> simp

@[simp] theorem State.fireStrobes_aside (s : State) (cs : List Nat) : (s.fireStrobes cs).1.aside = s.aside := by
  refine foldl_keeps (fun a : State × List Nat => a.1.aside) (fun a c => ?_) cs (s, [])
  dsimp only
  repeat' split
  all_goals simp

@[simp] theorem State.ditherAxis_aside (s : State) : s.ditherAxis.aside = s.aside := by
  simp [State.ditherAxis]

@[simp] theorem State.issueTrigger_aside (s : State) (n pseq : Nat) (trailer strip : Bool) :
    (s.issueTrigger n pseq trailer strip).aside = s.aside := by
  simp [State.issueTrigger, ↓State.aside_mk, ↓State.aside_fold]

@[simp] theorem State.trailerTrigger_aside (s : State) (n : Nat) : (s.trailerTrigger n).aside = s.aside := by
  unfold State.trailerTrigger
  dsimp only
  repeat' split
  all_goals simp [↓State.aside_mk, ↓State.aside_fold]

@[simp] theorem State.calFrame_aside (s : State) (c tseq flags : Nat) (rows : Plane) :
    (s.calFrame c tseq flags rows).aside = s.aside := by
  unfold State.calFrame
  dsimp only
  split <;> simp [↓State.aside_mk, ↓State.aside_fold]

@[simp] theorem State.closeTrigger_aside (s : State) (c tseq flags lines : Nat) (rows : Plane) :
    (s.closeTrigger c tseq flags lines rows).aside = s.aside := by
  simp [State.closeTrigger]

@[simp] theorem State.afterFrame_aside (s : State) (c : Nat) : (s.afterFrame c).aside = s.aside := by
  simp [State.afterFrame]

@[simp] theorem State.abortedCam_aside (s : State) (n : Nat) : (s.abortedCam n).aside = s.aside := by
  simp [State.abortedCam]

@[simp] theorem State.frameStart_aside (s : State) (n : Nat) : (s.frameStart n).aside = s.aside := by
  unfold State.frameStart
  dsimp only
  repeat' split
  all_goals simp

@[simp] theorem State.frameEnd_aside (s : State) (n : Nat) (rows : Plane) : (s.frameEnd n rows).aside = s.aside := by
  unfold State.frameEnd
  dsimp only
  repeat' split
  all_goals simp

@[simp] theorem State.frameTimeout_aside (s : State) (c : Nat) : (s.frameTimeout c).aside = s.aside := by
  unfold State.frameTimeout
  split <;> simp

@[simp] theorem State.closeAll_aside (s : State) (n flags : Nat) : (s.closeAll n flags).aside = s.aside := by
  simp [State.closeAll]

@[simp] theorem State.cutFrame_aside (s : State) (n flags : Nat) : (s.cutFrame n flags).aside = s.aside := by
  unfold State.cutFrame
  split <;> simp

@[simp] theorem State.camLost_aside (s : State) (n : Nat) : (s.camLost n).aside = s.aside := by
  simp [State.camLost]

@[simp] theorem State.writeCamTrig_aside (s : State) (n : Nat) (value : Word) : (s.writeCamTrig n value).aside = s.aside := by
  unfold State.writeCamTrig
  dsimp only
  repeat' split
  all_goals simp

@[simp] theorem State.abortTimeout_aside (s : State) (n : Nat) : (s.abortTimeout n).aside = s.aside := by
  simp [State.abortTimeout]

@[simp] theorem State.setSource_aside (s : State) (k : Nat) (v : Int) : (s.setSource k v).aside = s.aside := by
  simp [State.setSource, ↓State.aside_mk, ↓State.aside_fold]

@[simp] theorem State.sharpSources_aside (s : State) (c : Nat) (t : Trigger) (zones : List (Nat × Nat)) :
    (s.sharpSources c t zones).aside = s.aside := by
  unfold State.sharpSources
  dsimp only
  repeat' split
  all_goals simp [↓State.aside_mk, ↓State.aside_fold]

@[simp] theorem State.markSources_aside (s : State) (c : Nat) (g : Settings) (marks : List (Option MarkMeas)) :
    (s.markSources c g marks).aside = s.aside := by
  unfold State.markSources
  split <;> simp

@[simp] theorem State.setHealth_aside (s : State) (i : Nat) (h : Health) : (s.setHealth i h).aside = s.aside := by
  simp [State.setHealth, ↓State.aside_mk, ↓State.aside_fold]

@[simp] theorem State.healthResult_aside (s : State) (i cls density : Nat) (xerr yerr : Int) :
    (s.healthResult i cls density xerr yerr).aside = s.aside := by
  simp [State.healthResult, ↓State.aside_mk, ↓State.aside_fold]

@[simp] theorem State.clearHealth_aside (s : State) : s.clearHealth.aside = s.aside := by
  simp [State.clearHealth, ↓State.aside_mk, ↓State.aside_fold]

@[simp] theorem State.stripEnd_aside (s : State) : s.stripEnd.aside = s.aside := by
  unfold State.stripEnd
  dsimp only
  split <;> simp [↓State.aside_mk, ↓State.aside_fold]

@[simp] theorem State.putResult_aside (s : State) (bytes : List Byte) : (s.putResult bytes).aside = s.aside := by
  simp [State.putResult, ↓State.aside_mk, ↓State.aside_fold]

@[simp] theorem State.stripResults_aside (s : State) (c pseq : Nat) (dashes : List DashMeas) :
    (s.stripResults c pseq dashes).aside = s.aside := by
  simp [State.stripResults, ↓State.aside_mk, ↓State.aside_fold]

@[simp] theorem State.takeCapture_aside (s : State) (c : Nat) (t : Trigger) (g : Settings) : (s.takeCapture c t g).aside = s.aside := by
  unfold State.takeCapture
  dsimp only
  split <;> simp [↓State.aside_mk, ↓State.aside_fold]

@[simp] theorem State.resultRecord_aside (s : State) (c : Nat) (marks : List (Option MarkMeas)) (dashes : List DashMeas) :
    (s.resultRecord c marks dashes).aside = s.aside := by
  unfold State.resultRecord
  dsimp only
  split <;> simp [↓State.aside_mk, ↓State.aside_fold]

/-! ### `Machine/Cal` -/

@[simp] theorem State.quotient_aside (s : State) (w num den : Nat) : (s.quotient w num den).1.aside = s.aside := by
  unfold State.quotient
  dsimp only
  split <;> simp

@[simp] theorem State.photoGain_aside (s : State) (ch : Nat) : (s.photoGain ch).1.aside = s.aside := by
  simp [State.photoGain]

@[simp] theorem State.runResults_aside (s : State) : s.runResults.1.aside = s.aside := by
  unfold State.runResults
  split <;> simp

@[simp] theorem State.applyScale_aside (s : State) (v : Int) : (s.applyScale v).aside = s.aside := by
  unfold State.applyScale
  dsimp only
  split <;> simp [↓State.aside_mk, ↓State.aside_fold]

@[simp] theorem State.applyPhoto_aside (s : State) (c : Nat) (v : List Int) : (s.applyPhoto c v).aside = s.aside := by
  simp [State.applyPhoto]

@[simp] theorem State.applyCal_aside (s : State) (v : List Int) : (s.applyCal v).aside = s.aside := by
  unfold State.applyCal
  split <;> simp

@[simp] theorem State.recordCal_aside (s : State) (v : List Int) : (s.recordCal v).aside = s.aside := by
  simp [State.recordCal]

@[simp] theorem State.finishRun_aside (s : State) (r : List Int) : (s.finishRun r).aside = s.aside := by
  unfold State.finishRun
  dsimp only
  split <;> simp [↓State.aside_mk, ↓State.aside_fold]

@[simp] theorem State.calTooSmall_aside (s : State) : s.calTooSmall.aside = s.aside := by
  simp [State.calTooSmall]

@[simp] theorem State.postRaw_aside (s : State) : s.postRaw.aside = s.aside := by
  unfold State.postRaw
  split <;> simp

@[simp] theorem State.measured_aside (s : State) (needsRef : Bool) : (s.measured needsRef).aside = s.aside := by
  simp [State.measured, ↓State.aside_mk, ↓State.aside_fold]

@[simp] theorem State.calStart_aside (s : State) (value : Word) : (s.calStart value).aside = s.aside := by
  simp [State.calStart, ↓State.aside_mk, ↓State.aside_fold]

@[simp] theorem State.calEnter_aside (s : State) : s.calEnter.aside = s.aside := by
  simp [State.calEnter, ↓State.aside_mk, ↓State.aside_fold]

@[simp] theorem State.calCancel_aside (s : State) : s.calCancel.aside = s.aside := by
  simp [State.calCancel]

@[simp] theorem State.writeCalCmd_aside (s : State) (value : Word) : (s.writeCalCmd value).aside = s.aside := by
  unfold State.writeCalCmd
  repeat' split
  all_goals simp

@[simp] theorem execCalStart_aside (value : Word) (s : State) : (s.after (execCalStart value s)).aside = s.aside := by
  simp [execCalStart]

@[simp] theorem execCalEnter_aside (value : Word) (s : State) : (s.after (execCalEnter value s)).aside = s.aside := by
  simp [execCalEnter]

@[simp] theorem execCalCancel_aside (value : Word) (s : State) : (s.after (execCalCancel value s)).aside = s.aside := by
  simp [execCalCancel]

@[simp] theorem execCalMeasureEnd_aside (m : List Nat) (s : State) : (s.after (execCalMeasureEnd m s)).aside = s.aside := by
  unfold execCalMeasureEnd
  dsimp only
  repeat' split
  all_goals simp [↓State.aside_mk, ↓State.aside_fold]

@[simp] theorem State.writeCalHres_aside (s : State) (value : Word) : (s.writeCalHres value).aside = s.aside := by
  simp [State.writeCalHres]

@[simp] theorem execCalHres_aside (value : Word) (s : State) : (s.after (execCalHres value s)).aside = s.aside := by
  simp [execCalHres]

@[simp] theorem execCalHostMiss_aside (s : State) : (s.after (execCalHostMiss s)).aside = s.aside := by
  simp [execCalHostMiss]

/-! ### `Machine/Camera` -/

@[simp] theorem execCamTrigGo_aside (n : Fin 4) (value : Word) (s : State) : (s.after (execCamTrigGo n value s)).aside = s.aside := by
  simp [execCamTrigGo]

@[simp] theorem execCamTrailerTrigger_aside (n : Fin 4) (s : State) : (s.after (execCamTrailerTrigger n s)).aside = s.aside := by
  simp [execCamTrailerTrigger]

@[simp] theorem execCamPeriodicTrigger_aside (n : Fin 4) (s : State) : (s.after (execCamPeriodicTrigger n s)).aside = s.aside := by
  simp [execCamPeriodicTrigger]

@[simp] theorem execCamFrameStart_aside (n : Fin 4) (s : State) : (s.after (execCamFrameStart n s)).aside = s.aside := by
  simp [execCamFrameStart]

@[simp] theorem execCamFrameEnd_aside (n : Fin 4) (rows : List (List Nat)) (s : State) :
    (s.after (execCamFrameEnd n rows s)).aside = s.aside := by
  simp [execCamFrameEnd]

@[simp] theorem execCamFrameTimeout_aside (c : Fin 8) (s : State) : (s.after (execCamFrameTimeout c s)).aside = s.aside := by
  simp [execCamFrameTimeout]

@[simp] theorem execCamSelGapExpiry_aside (n : Fin 4) (s : State) : (s.after (execCamSelGapExpiry n s)).aside = s.aside := by
  simp [execCamSelGapExpiry]

@[simp] theorem execCamTrigAbort_aside (n : Fin 4) (value : Word) (s : State) :
    (s.after (execCamTrigAbort n value s)).aside = s.aside := by
  simp [execCamTrigAbort]

@[simp] theorem execCamAbortTimeout_aside (n : Fin 4) (s : State) : (s.after (execCamAbortTimeout n s)).aside = s.aside := by
  simp [execCamAbortTimeout]

@[simp] theorem execIspCommit_aside (c : Fin 8) (value : Word) (s : State) : (s.after (execIspCommit c value s)).aside = s.aside := by
  simp [execIspCommit]

@[simp] theorem execResultRecord_aside (c : Fin 8) (marks : List (Option MarkMeas)) (dashes : List DashMeas) (s : State) :
    (s.after (execResultRecord c marks dashes s)).aside = s.aside := by
  simp [execResultRecord]

@[simp] theorem execHealthMapUpdate_aside (s : State) : (s.after (execHealthMapUpdate s)).aside = s.aside := by
  simp [execHealthMapUpdate]

@[simp] theorem State.writeInsCtrl_aside (s : State) (value : Word) : (s.writeInsCtrl value).aside = s.aside := by
  simp [State.writeInsCtrl, ↓State.aside_mk, ↓State.aside_fold]

@[simp] theorem execHmClr_aside (value : Word) (s : State) : (s.after (execHmClr value s)).aside = s.aside := by
  simp [execHmClr]

@[simp] theorem State.writeInsCap_aside (s : State) (value : Word) : (s.writeInsCap value).aside = s.aside := by
  simp [State.writeInsCap, ↓State.aside_mk, ↓State.aside_fold]

@[simp] theorem execInsCapGo_aside (value : Word) (s : State) : (s.after (execInsCapGo value s)).aside = s.aside := by
  simp [execInsCapGo]

/-! ### `Machine/TwinOps` -/

@[simp] theorem State.mapTwin_aside (s : State) {f : TwinSt → TwinSt} (h : (f s.twin).faultHold = s.twin.faultHold) :
    (s.mapTwin f).aside = s.aside := by
  simp [State.mapTwin, ↓State.aside_mk, ↓State.aside_fold, h]

@[simp] theorem State.pullFence_aside (s : State) : s.pullFence.aside = s.aside := by
  simp [State.pullFence, ↓State.aside_mk, ↓State.aside_fold]

@[simp] theorem State.releaseFence_aside (s : State) : s.releaseFence.aside = s.aside := by
  simp [State.releaseFence, ↓State.aside_mk, ↓State.aside_fold]

@[simp] theorem State.syncPorts_aside (s : State) : s.syncPorts.aside = s.aside := by
  simp [State.syncPorts]

@[simp] theorem State.giveUp_aside (s : State) (code : EvCode) : (s.giveUp code).aside = s.aside := by
  simp [State.giveUp]

@[simp] theorem State.takeActive_aside (s : State) : s.takeActive.aside = s.aside := by
  simp [State.takeActive]

@[simp] theorem State.requestPlan_aside (s : State) (pageBound : Bool) : (s.requestPlan pageBound).aside = s.aside := by
  simp [State.requestPlan]

@[simp] theorem State.startSummit_aside (s : State) : s.startSummit.aside = s.aside := by
  simp [State.startSummit]

@[simp] theorem State.mismatch_aside (s : State) (p line : Nat) : (s.mismatch p line).aside = s.aside := by
  simp [State.mismatch]

@[simp] theorem State.startRejoin_aside (s : State) : s.startRejoin.aside = s.aside := by
  simp [State.startRejoin]

@[simp] theorem State.tryRejoined_aside (s : State) : s.tryRejoined.aside = s.aside := by
  simp [State.tryRejoined]

@[simp] theorem State.dropCompared_aside (s : State) (p line : Nat) : (s.dropCompared p line).aside = s.aside := by
  simp [State.dropCompared]

@[simp] theorem State.compareFrame_aside (s : State) (p line : Nat) (k : Option Nat) : (s.compareFrame p line k).aside = s.aside := by
  unfold State.compareFrame
  dsimp only
  repeat' split
  all_goals simp

@[simp] theorem State.replayPort_aside (s : State) (p : Nat) : (s.replayPort p).aside = s.aside := by
  simp [State.replayPort]

@[simp] theorem State.axesUncertain_aside (s : State) : s.axesUncertain.aside = s.aside := by
  simp [State.axesUncertain]

@[simp] theorem State.takeover_aside (s : State) (cause : Nat) : (s.takeover cause).aside = s.aside := by
  simp [State.takeover]

/-! ### `Machine/Head` -/

@[simp] theorem State.upError_aside (s : State) (p : Nat) : (s.upError p).aside = s.aside := by
  simp [State.upError]

@[simp] theorem State.thermal_aside (s : State) (p : Nat) (temp : Int) (trip : Bool) : (s.thermal p temp trip).aside = s.aside := by
  simp [State.thermal]

@[simp] theorem State.fireMissed_aside (s : State) (p missed : Nat) (timeOk : Bool) : (s.fireMissed p missed timeOk).aside = s.aside := by
  simp [State.fireMissed]

@[simp] theorem State.telemetry_aside (s : State) (p : Nat) (m : Telem) : (s.telemetry p m).aside = s.aside := by
  simp [State.telemetry]

@[simp] theorem execTelem_aside (p : Fin 128) (m : Telem) (s : State) : (s.after (execTelem p m s)).aside = s.aside := by
  simp [execTelem]

@[simp] theorem execHtTelemLost_aside (p : Fin 128) (s : State) : (s.after (execHtTelemLost p s)).aside = s.aside := by
  simp [execHtTelemLost]

@[simp] theorem execHeat_aside (p : Fin 128) (s : State) : (s.after (execHeat p s)).aside = s.aside := by
  simp [execHeat]

@[simp] theorem State.tsyncPort_aside (s : State) (p : Nat) : (s.tsyncPort p).aside = s.aside := by
  simp [State.tsyncPort]

@[simp] theorem execTsync_aside (s : State) : (s.after (execTsync s)).aside = s.aside := by
  simp [execTsync]

@[simp] theorem execEchoReq_aside (p : Fin 128) (t0 : Nat) (s : State) : (s.after (execEchoReq p t0 s)).aside = s.aside := by
  simp [execEchoReq]

@[simp] theorem State.echoSet_aside (s : State) (p : Nat) : (s.echoSet p).aside = s.aside := by
  simp [State.echoSet]

@[simp] theorem execEchoRsp_aside (p : Fin 128) (rx : Rx) (id hold t3 : Nat) (s : State) :
    (s.after (execEchoRsp p rx id hold t3 s)).aside = s.aside := by
  unfold execEchoRsp
  dsimp only
  repeat' split
  all_goals simp

@[simp] theorem execLdlyRetry_aside (p : Fin 128) (s : State) : (s.after (execLdlyRetry p s)).aside = s.aside := by
  simp [execLdlyRetry]

@[simp] theorem execEchoPeriodExpiry_aside (p : Fin 128) (s : State) : (s.after (execEchoPeriodExpiry p s)).aside = s.aside := by
  simp [execEchoPeriodExpiry]

@[simp] theorem State.setUsage_aside (s : State) (p k v : Nat) : (s.setUsage p k v).aside = s.aside := by
  simp [State.setUsage]

@[simp] theorem State.writeUsage_aside (s : State) (p : Nat) : (s.writeUsage p).aside = s.aside := by
  simp [State.writeUsage]

@[simp] theorem State.addUsage_aside (s : State) (p : Nat) (codes : Tab Nat) : (s.addUsage p codes).aside = s.aside := by
  simp [State.addUsage, ↓State.aside_mk, ↓State.aside_fold]

@[simp] theorem State.drawNonce_aside (s : State) (p : Nat) : (s.drawNonce p).aside = s.aside := by
  simp [State.drawNonce]

@[simp] theorem State.nonceReq_aside (s : State) (p op : Nat) : (s.nonceReq p op).aside = s.aside := by
  simp [State.nonceReq]

@[simp] theorem State.resend_aside (s : State) (p : Nat) (f : HeadFrame) : (s.resend p f).aside = s.aside := by
  simp [State.resend]

@[simp] theorem State.mapFrame_aside (s : State) (p line : Nat) (g : HeadFrame → HeadFrame) : (s.mapFrame p line g).aside = s.aside := by
  simp [State.mapFrame]

@[simp] theorem State.ackFrame_aside (s : State) (p : Nat) (f : HeadFrame) (accepted : Bool) :
    (s.ackFrame p f accepted).aside = s.aside := by
  simp [State.ackFrame]

@[simp] theorem State.oldEpoch_aside (s : State) (p : Nat) : (s.oldEpoch p).aside = s.aside := by
  simp [State.oldEpoch]

@[simp] theorem State.takeAck_aside (s : State) (p : Nat) (a : AckMsg) : (s.takeAck p a).aside = s.aside := by
  unfold State.takeAck
  dsimp only
  repeat' split
  all_goals simp

@[simp] theorem execAck_aside (p : Fin 128) (a : AckMsg) (s : State) : (s.after (execAck p a s)).aside = s.aside := by
  simp [execAck]

@[simp] theorem execAckTimeout_aside (p : Fin 128) (line : Nat) (s : State) : (s.after (execAckTimeout p line s)).aside = s.aside := by
  unfold execAckTimeout
  repeat' split
  all_goals simp

@[simp] theorem State.loseLine_aside (s : State) (p line : Nat) : (s.loseLine p line).aside = s.aside := by
  unfold State.loseLine
  split <;> simp

@[simp] theorem execHpLineLost_aside (p : Fin 128) (line : Nat) (s : State) : (s.after (execHpLineLost p line s)).aside = s.aside := by
  simp [execHpLineLost]

@[simp] theorem State.endReq_aside (s : State) (p : Nat) (ops : List Nat) : (s.endReq p ops).aside = s.aside := by
  simp [State.endReq]

@[simp] theorem State.setIdentity_aside (s : State) (p : Nat) (h : Hello) : (s.setIdentity p h).aside = s.aside := by
  simp [State.setIdentity]

@[simp] theorem State.hello_aside (s : State) (p : Nat) (h : Hello) : (s.hello p h).aside = s.aside := by
  simp [State.hello]

@[simp] theorem execHello_aside (p : Fin 128) (h : Hello) (s : State) : (s.after (execHello p h s)).aside = s.aside := by
  simp [execHello]

@[simp] theorem State.authenticated_aside (s : State) (p : Nat) (ok : Bool) : (s.authenticated p ok).aside = s.aside := by
  simp [State.authenticated]

@[simp] theorem execResponse_aside (p : Fin 128) (rx : Rx) (serial family : Nat) (tag : List Byte) (s : State) :
    (s.after (execResponse p rx serial family tag s)).aside = s.aside := by
  simp [execResponse]

@[simp] theorem State.takeUsage_aside (s : State) (p seq : Nat) (counts : List Nat) (tag : List Byte) :
    (s.takeUsage p seq counts tag).aside = s.aside := by
  simp [State.takeUsage]

@[simp] theorem execUsage_aside (p : Fin 128) (rx : Rx) (seq : Nat) (counts : List Nat) (tag : List Byte) (s : State) :
    (s.after (execUsage p rx seq counts tag s)).aside = s.aside := by
  simp [execUsage]

@[simp] theorem State.mgmtFail_aside (s : State) (p : Nat) : (s.mgmtFail p).aside = s.aside := by
  simp [State.mgmtFail]

@[simp] theorem State.mack_aside (s : State) (p : Nat) (r : MgmtReq) (status : Nat) : (s.mack p r status).aside = s.aside := by
  simp [State.mack]

@[simp] theorem execMack_aside (p : Fin 128) (rx : Rx) (op status : Nat) (s : State) :
    (s.after (execMack p rx op status s)).aside = s.aside := by
  unfold execMack
  repeat' split
  all_goals simp

@[simp] theorem execMgmtTimeout_aside (p : Fin 128) (s : State) : (s.after (execMgmtTimeout p s)).aside = s.aside := by
  unfold execMgmtTimeout
  split <;> simp

@[simp] theorem State.wakeIfDue_aside (s : State) (p : Nat) : (s.wakeIfDue p).aside = s.aside := by
  simp [State.wakeIfDue]

@[simp] theorem execHeadSleepTimer_aside (p : Fin 128) (s : State) : (s.after (execHeadSleepTimer p s)).aside = s.aside := by
  simp [execHeadSleepTimer]

@[simp] theorem execHeadParamReply_aside (p : Fin 128) (rx : Rx) (data : List Byte) (s : State) :
    (s.after (execHeadParamReply p rx data s)).aside = s.aside := by
  simp [execHeadParamReply]

@[simp] theorem execLinkUp_aside (l : Link) (s : State) : (s.after (execLinkUp l s)).aside = s.aside := by
  unfold execLinkUp
  dsimp only
  repeat' split
  all_goals simp [↓State.aside_mk, ↓State.aside_fold]

@[simp] theorem execLinkDown_aside (l : Link) (s : State) : (s.after (execLinkDown l s)).aside = s.aside := by
  unfold execLinkDown
  dsimp only
  repeat' split
  all_goals simp [↓State.aside_mk, ↓State.aside_fold]

/-! ### `Machine/Lamp` -/

@[simp] theorem State.pwmPeriod_aside (s : State) : s.pwmPeriod.aside = s.aside := by
  simp [State.pwmPeriod, ↓State.aside_mk, ↓State.aside_fold]

@[simp] theorem execLampPwmPeriod_aside (s : State) : (s.after (execLampPwmPeriod s)).aside = s.aside := by
  simp [execLampPwmPeriod]

@[simp] theorem State.chainShift_aside (s : State) (readback : Nat) : (s.chainShift readback).aside = s.aside := by
  simp [State.chainShift, ↓State.aside_mk, ↓State.aside_fold]

@[simp] theorem execSegChainShift_aside (readback : Nat) (s : State) : (s.after (execSegChainShift readback s)).aside = s.aside := by
  simp [execSegChainShift]

@[simp] theorem State.segCheck_aside (s : State) (n : Nat) (segs : List Nat) (before after : Nat) :
    (s.segCheck n segs before after).aside = s.aside := by
  simp [State.segCheck]

@[simp] theorem State.chainLatch_aside (s : State) (before after : List Nat) : (s.chainLatch before after).aside = s.aside := by
  unfold State.chainLatch
  dsimp only
  split <;> simp [↓State.aside_mk, ↓State.aside_fold]

@[simp] theorem execSegLatch_aside (before after : List Nat) (s : State) : (s.after (execSegLatch before after s)).aside = s.aside := by
  simp [execSegLatch]

@[simp] theorem State.checked_aside (s : State) (n isense vsense : Nat) : (s.checked n isense vsense).aside = s.aside := by
  simp [State.checked]

@[simp] theorem State.diagCheck_aside (s : State) (n isense vsense : Nat) : (s.diagCheck n isense vsense).aside = s.aside := by
  unfold State.diagCheck
  dsimp only
  repeat' split
  all_goals simp

@[simp] theorem execLampDiagCheck_aside (n : Fin 16) (isense vsense : Nat) (s : State) :
    (s.after (execLampDiagCheck n isense vsense s)).aside = s.aside := by
  simp [execLampDiagCheck]

@[simp] theorem State.lampProbe_aside (s : State) (n mv : Nat) : (s.lampProbe n mv).aside = s.aside := by
  simp [State.lampProbe]

@[simp] theorem execLampProbe_aside (n : Fin 16) (mv : Nat) (s : State) : (s.after (execLampProbe n mv s)).aside = s.aside := by
  simp [execLampProbe]

@[simp] theorem execLmpDiagStale_aside (n : Fin 16) (s : State) : (s.after (execLmpDiagStale n s)).aside = s.aside := by
  simp [execLmpDiagStale]

@[simp] theorem State.writeLmpCtrl_aside (s : State) (n : Nat) (value : Word) : (s.writeLmpCtrl n value).aside = s.aside := by
  simp [State.writeLmpCtrl]

@[simp] theorem execLmpCtrlClr_aside (n : Fin 16) (value : Word) (s : State) : (s.after (execLmpCtrlClr n value s)).aside = s.aside := by
  simp [execLmpCtrlClr]

@[simp] theorem execLampTempComp_aside (ntc : List Nat) (s : State) : (s.after (execLampTempComp ntc s)).aside = s.aside := by
  simp [execLampTempComp, ↓State.aside_mk, ↓State.aside_fold]

@[simp] theorem State.startEngine_aside (s : State) (e : Nat) : (s.startEngine e).aside = s.aside := by
  simp [State.startEngine]

@[simp] theorem State.writePatCtrl_aside (s : State) (e : Nat) (value : Word) : (s.writePatCtrl e value).aside = s.aside := by
  simp [State.writePatCtrl]

@[simp] theorem execPatRun_aside (e : Fin 8) (value : Word) (s : State) : (s.after (execPatRun e value s)).aside = s.aside := by
  simp [execPatRun]

@[simp] theorem execPatStop_aside (e : Fin 8) (value : Word) (s : State) : (s.after (execPatStop e value s)).aside = s.aside := by
  simp [execPatStop]

@[simp] theorem State.patternTimer_aside (s : State) (e : Nat) : (s.patternTimer e).aside = s.aside := by
  unfold State.patternTimer
  dsimp only
  repeat' split
  all_goals simp

@[simp] theorem execPatternTimer_aside (e : Fin 8) (s : State) : (s.after (execPatternTimer e s)).aside = s.aside := by
  simp [execPatternTimer]

/-! ### `Machine/Maint` -/

@[simp] theorem State.postStep_aside (s : State) (a : Nat) : (s.postStep a).aside = s.aside := by
  unfold State.postStep
  split <;> simp

@[simp] theorem State.refuseAct_aside (s : State) (a : Nat) : (s.refuseAct a).aside = s.aside := by
  simp [State.refuseAct]

@[simp] theorem State.startActivity_aside (s : State) (a : Nat) : (s.startActivity a).aside = s.aside := by
  unfold State.startActivity
  dsimp only
  repeat' split
  all_goals simp [↓State.aside_mk, ↓State.aside_fold]

@[simp] theorem State.sendParam_aside (s : State) (a k p : Nat) : (s.sendParam a k p).aside = s.aside := by
  unfold State.sendParam
  repeat' split
  all_goals simp

@[simp] theorem State.runStep_aside (s : State) (a : Nat) : (s.runStep a).aside = s.aside := by
  unfold State.runStep
  dsimp only
  repeat' split
  all_goals simp

@[simp] theorem State.tryStep_aside (s : State) (a : Nat) : (s.tryStep a).aside = s.aside := by
  unfold State.tryStep
  split <;> simp

@[simp] theorem State.activityStep_aside (s : State) (a : Nat) : (s.activityStep a).aside = s.aside := by
  unfold State.activityStep
  split <;> simp

@[simp] theorem State.writeMntCmd_aside (s : State) (value : Word) : (s.writeMntCmd value).aside = s.aside := by
  unfold State.writeMntCmd
  dsimp only
  repeat' split
  all_goals simp [↓State.aside_mk, ↓State.aside_fold]

@[simp] theorem execMntStart_aside (value : Word) (s : State) : (s.after (execMntStart value s)).aside = s.aside := by
  simp [execMntStart]

@[simp] theorem execMntStop_aside (value : Word) (s : State) : (s.after (execMntStop value s)).aside = s.aside := by
  simp [execMntStop]

@[simp] theorem execMntAbort_aside (value : Word) (s : State) : (s.after (execMntAbort value s)).aside = s.aside := by
  simp [execMntAbort]

@[simp] theorem execActivityStep_aside (a : Fin 16) (s : State) : (s.after (execActivityStep a s)).aside = s.aside := by
  simp [execActivityStep]

@[simp] theorem execMntAbortTimeout_aside (a : Fin 16) (s : State) : (s.after (execMntAbortTimeout a s)).aside = s.aside := by
  unfold execMntAbortTimeout
  split <;> simp

@[simp] theorem execMntHostTimeout_aside (s : State) : (s.after (execMntHostTimeout s)).aside = s.aside := by
  simp [execMntHostTimeout]

@[simp] theorem State.writeMntHgo_aside (s : State) (value : Word) : (s.writeMntHgo value).aside = s.aside := by
  unfold State.writeMntHgo
  dsimp only
  repeat' split
  all_goals simp [↓State.aside_mk, ↓State.aside_fold]

@[simp] theorem execMntHgo_aside (value : Word) (s : State) : (s.after (execMntHgo value s)).aside = s.aside := by
  simp [execMntHgo]

@[simp] theorem execPrintGateChange_aside (s : State) : (s.after (execPrintGateChange s)).aside = s.aside := by
  simp [execPrintGateChange]

/-! ### `Machine/Position` -/

@[simp] theorem State.mapEnc_aside (s : State) (n : Nat) (f : Encoder → Encoder) : (s.mapEnc n f).aside = s.aside := by
  simp [State.mapEnc, ↓State.aside_mk, ↓State.aside_fold]

@[simp] theorem State.setEncPos_aside (s : State) (n v : Nat) : (s.setEncPos n v).aside = s.aside := by
  simp [State.setEncPos]

@[simp] theorem State.evalEnc_aside (s : State) (n : Nat) : (s.evalEnc n).aside = s.aside := by
  unfold State.evalEnc
  dsimp only
  split <;> simp

@[simp] theorem State.encWell_aside (s : State) (n : Nat) : (s.encWell n).aside = s.aside := by
  simp [State.encWell]

@[simp] theorem State.estimate_aside (s : State) (n : Nat) (c : Int) (reverse : Bool) : (s.estimate n c reverse).aside = s.aside := by
  unfold State.estimate
  extract_lets e t turned rate valid
  have hturned : turned.aside = s.aside := by simp [turned]
  split
  · simp [hturned]
  · split <;> simp [valid, hturned]

@[simp] theorem State.addUnc_aside (s : State) (n k : Nat) : (s.addUnc n k).aside = s.aside := by
  simp [State.addUnc]

@[simp] theorem State.gateEvent_aside (s : State) (n before : Nat) : (s.gateEvent n before).aside = s.aside := by
  simp [State.gateEvent]

@[simp] theorem State.countEdge_aside (s : State) (n : Nat) (up z : Bool) : (s.countEdge n up z).aside = s.aside := by
  simp [State.countEdge]

@[simp] theorem State.encEdge_aside (s : State) (n : Nat) (a b z : Bool) : (s.encEdge n a b z).aside = s.aside := by
  simp [State.encEdge]

@[simp] theorem execEncoderEdge_aside (n : Fin 6) (a b z : Bool) (s : State) : (s.after (execEncoderEdge n a b z s)).aside = s.aside := by
  simp [execEncoderEdge]

@[simp] theorem State.writeEncCfg_aside (s : State) (n : Nat) (value : Word) : (s.writeEncCfg n value).aside = s.aside := by
  simp [State.writeEncCfg]

@[simp] theorem execEncCfgArm_aside (n : Fin 6) (value : Word) (s : State) : (s.after (execEncCfgArm n value s)).aside = s.aside := by
  simp [execEncCfgArm]

@[simp] theorem execEncCfgUncClr_aside (n : Fin 6) (value : Word) (s : State) :
    (s.after (execEncCfgUncClr n value s)).aside = s.aside := by
  simp [execEncCfgUncClr]

@[simp] theorem execEncHealthy_aside (n : Fin 6) (s : State) : (s.after (execEncHealthy n s)).aside = s.aside := by
  simp [execEncHealthy]

@[simp] theorem execEncStill_aside (n : Fin 6) (s : State) : (s.after (execEncStill n s)).aside = s.aside := by
  simp [execEncStill]

@[simp] theorem State.mapLatch_aside (s : State) (m : Nat) (f : LatchIn → LatchIn) : (s.mapLatch m f).aside = s.aside := by
  simp [State.mapLatch, ↓State.aside_mk, ↓State.aside_fold]

@[simp] theorem State.syncLatch_aside (s : State) (m : Nat) : (s.syncLatch m).aside = s.aside := by
  unfold State.syncLatch
  dsimp only
  rw [foldl_aside (by simp)]
  split <;> simp

@[simp] theorem State.takeTof_aside (s : State) (k at_ : Nat) (x : Int) : (s.takeTof k at_ x).aside = s.aside := by
  unfold State.takeTof
  dsimp only
  split <;> simp [↓State.aside_mk, ↓State.aside_fold]

@[simp] theorem State.latchEdge_aside (s : State) (m : Nat) (falling : Bool) : (s.latchEdge m falling).aside = s.aside := by
  simp [State.latchEdge]

@[simp] theorem execLatchEdge_aside (m : Fin 12) (falling : Bool) (s : State) :
    (s.after (execLatchEdge m falling s)).aside = s.aside := by
  simp [execLatchEdge]

@[simp] theorem State.writePrbStat_aside (s : State) (m : Nat) (value : Word) : (s.writePrbStat m value).aside = s.aside := by
  simp [State.writePrbStat]

@[simp] theorem execPrbPop_aside (m : Fin 12) (value : Word) (s : State) : (s.after (execPrbPop m value s)).aside = s.aside := by
  simp [execPrbPop]

@[simp] theorem execStuckInput_aside (m : Fin 12) (live : Bool) (s : State) : (s.after (execStuckInput m live s)).aside = s.aside := by
  simp [execStuckInput]

@[simp] theorem State.mapSsi_aside (s : State) (n : Nat) (f : SsiPort → SsiPort) : (s.mapSsi n f).aside = s.aside := by
  simp [State.mapSsi, ↓State.aside_mk, ↓State.aside_fold]

@[simp] theorem State.ssiStart_aside (s : State) (n : Nat) : (s.ssiStart n).aside = s.aside := by
  simp [State.ssiStart]

@[simp] theorem State.writeSsiTrig_aside (s : State) (n : Nat) (value : Word) : (s.writeSsiTrig n value).aside = s.aside := by
  simp [State.writeSsiTrig]

@[simp] theorem execSsiGo_aside (n : Fin 2) (value : Word) (s : State) : (s.after (execSsiGo n value s)).aside = s.aside := by
  simp [execSsiGo]

@[simp] theorem execSsiPeriodTrigger_aside (n : Fin 2) (s : State) : (s.after (execSsiPeriodTrigger n s)).aside = s.aside := by
  simp [execSsiPeriodTrigger]

@[simp] theorem State.ssiDone_aside (s : State) (n : Nat) (f : SsiFrame) : (s.ssiDone n f).aside = s.aside := by
  unfold State.ssiDone
  dsimp only
  repeat' split
  all_goals simp

@[simp] theorem execSsiFrameDone_aside (n : Fin 2) (f : SsiFrame) (s : State) : (s.after (execSsiFrameDone n f s)).aside = s.aside := by
  simp [execSsiFrameDone]

@[simp] theorem State.wireChange_aside (s : State) (w : WireIn) (c : Nat) (live : Bool) : (s.wireChange w c live).aside = s.aside := by
  unfold State.wireChange
  split <;> simp

@[simp] theorem execWireConditionChange_aside (w : WireIn) (c : WireCond) (live : Bool) (s : State) :
    (s.after (execWireConditionChange w c live s)).aside = s.aside := by
  simp [execWireConditionChange]

/-! ### `Machine/Schedule` -/

@[simp] theorem State.place_aside (s : State) (q f nm ctb : Nat) (absorbed : Bool) : (s.place q f nm ctb absorbed).aside = s.aside := by
  unfold State.place
  dsimp only
  split <;> simp [↓State.aside_mk, ↓State.aside_fold]

@[simp] theorem State.afterPlace_aside (s : State) (f nm : Nat) : (s.afterPlace f nm).aside = s.aside := by
  simp [State.afterPlace]

@[simp] theorem State.pageSchedule_aside (s : State) (line : Nat) : (s.pageSchedule line).aside = s.aside := by
  unfold State.pageSchedule
  dsimp only
  repeat' split
  all_goals simp [↓State.aside_mk, ↓State.aside_fold]

@[simp] theorem execPageSchedule_aside (line : Nat) (s : State) : (s.after (execPageSchedule line s)).aside = s.aside := by
  simp [execPageSchedule]

@[simp] theorem execStartDeferTimeout_aside (pseq : Nat) (s : State) : (s.after (execStartDeferTimeout pseq s)).aside = s.aside := by
  unfold execStartDeferTimeout
  split <;> simp

@[simp] theorem State.abortPage_aside (s : State) (q : Nat) : (s.abortPage q).aside = s.aside := by
  unfold State.abortPage
  split <;> simp

@[simp] theorem State.abortPages_aside (s : State) (held : Bool) : (s.abortPages held).aside = s.aside := by
  simp [State.abortPages]

@[simp] theorem State.writePgAbort_aside (s : State) (value : Word) : (s.writePgAbort value).aside = s.aside := by
  simp [State.writePgAbort, ↓State.aside_mk, ↓State.aside_fold]

@[simp] theorem execPgAbort_aside (value : Word) (s : State) : (s.after (execPgAbort value s)).aside = s.aside := by
  simp [execPgAbort]

/-! ### `Machine/ResetOps` -/

@[simp] theorem State.resetStatus_aside (s : State) (r : Reg) (i : Nat) : (s.resetStatus r i).aside = s.aside := by
  simp [State.resetStatus]

@[simp] theorem State.resetPort_aside (s : State) (p : Nat) : (s.resetPort p).aside = s.aside := by
  unfold State.resetPort
  simp [↓State.aside_mk, ↓State.aside_fold]

@[simp] theorem State.resetAxis_aside (s : State) (n : Nat) : (s.resetAxis n).aside = s.aside := by
  simp [State.resetAxis]

@[simp] theorem State.resetCam_aside (s : State) (n : Nat) : (s.resetCam n).aside = s.aside := by
  simp [State.resetCam]

@[simp] theorem State.resetLamp_aside (s : State) (n : Nat) : (s.resetLamp n).aside = s.aside := by
  simp [State.resetLamp]

@[simp] theorem State.resetSlot_aside (s : State) (n : Nat) : (s.resetSlot n).aside = s.aside := by
  simp [State.resetSlot]

@[simp] theorem State.resetTarget_aside (s : State) (t : Nat × Nat) : (s.resetTarget t).aside = s.aside := by
  unfold State.resetTarget
  dsimp only
  split <;> simp [↓State.aside_mk, ↓State.aside_fold]

@[simp] theorem State.restartSlot_aside (s : State) (n : Nat) : (s.restartSlot n).aside = s.aside := by
  simp [State.restartSlot]

@[simp] theorem State.restartTarget_aside (s : State) (t : Nat × Nat) : (s.restartTarget t).aside = s.aside := by
  unfold State.restartTarget
  split <;> simp

@[simp] theorem State.stopActivities_aside (s : State) : s.stopActivities.aside = s.aside := by
  simp [State.stopActivities, ↓State.aside_mk, ↓State.aside_fold]

@[simp] theorem State.enforceL2_aside (s : State) : s.enforceL2.aside = s.aside := by
  simp [State.enforceL2]

@[simp] theorem State.resetFpe_aside (s : State) : s.resetFpe.aside = s.aside := by
  simp [State.resetFpe, ↓State.aside_mk, ↓State.aside_fold]

@[simp] theorem State.resetPath_aside (s : State) (ftFail : Bool) : (s.resetPath ftFail).aside = s.aside := by
  unfold State.resetPath
  extract_lets idle ports axes cams lamps slots traces stopped _ _ _ _ twin emptied fpe ended role safe _ rst down
  have hports : ports.aside = idle.aside := foldl_aside (fun t p => by simp) _ _
  have hslots : slots.aside = ports.aside := by simp [slots, lamps, cams, axes]
  have htraces : traces.aside = slots.aside := by simp [traces]
  have hemptied : emptied.aside = stopped.aside := by simp [emptied, twin, ↓State.aside_mk, ↓State.aside_fold]
  have hfpe : fpe.aside = emptied.aside := by simp [fpe]
  have hended : ended.aside = fpe.aside := foldl_aside (fun t a => by simp) _ _
  have hdown : down.aside = ended.aside := by simp [down, rst, safe, ↓State.aside_mk, ↓State.aside_fold]
  simp [hdown, hended, hfpe, hemptied, stopped, htraces, hslots, hports, idle]

@[simp] theorem State.pushHist_aside (s : State) (cause level stage : Nat) (timeout : Bool) :
    (s.pushHist cause level stage timeout).aside = s.aside := by
  simp only [State.pushHist, ↓State.aside_mk, ↓State.aside_fold, State.put_aside]
  exact foldl_aside (by simp) _ _

@[simp] theorem State.failStart_aside (s : State) (src : Nat) : (s.failStart src).aside = s.aside := by
  simp [State.failStart, ↓State.aside_mk, ↓State.aside_fold]

@[simp] theorem State.hold_aside (s : State) (src : Nat) : (s.hold src).aside = s.aside := by
  simp [State.hold, ↓State.aside_mk, ↓State.aside_fold]

@[simp] theorem State.releaseSource_aside (s : State) (src : Nat) : (s.releaseSource src).aside = s.aside := by
  simp [State.releaseSource, ↓State.aside_mk, ↓State.aside_fold]

/-! ### `Machine/StartOps` -/

@[simp] theorem State.driveAll_aside (s : State) : s.driveAll.aside = s.aside := by
  simp [State.driveAll]

@[simp] theorem State.enterRun_aside (s : State) : s.enterRun.aside = s.aside := by
  simp [State.enterRun, ↓State.aside_mk, ↓State.aside_fold]

@[simp] theorem State.roleDecided_aside (s : State) : s.roleDecided.aside = s.aside := by
  simp [State.roleDecided]

@[simp] theorem State.enterFoothill_aside (s : State) : s.enterFoothill.aside = s.aside := by
  simp [State.enterFoothill, ↓State.aside_mk, ↓State.aside_fold]

@[simp] theorem State.setStage_aside (s : State) (n : Nat) : (s.setStage n).aside = s.aside := by
  simp [State.setStage, ↓State.aside_mk, ↓State.aside_fold]

@[simp] theorem State.clockStep_aside (s : State) : s.clockStep.aside = s.aside := by
  simp [State.clockStep]

@[simp] theorem State.syncWarn_aside (s : State) : s.syncWarn.aside = s.aside := by
  simp [State.syncWarn]

/-! ### `Machine/Reset` -/

@[simp] theorem State.paceUsed_aside (s : State) (n used : Nat) : (s.paceUsed n used).aside = s.aside := by
  simp [State.paceUsed]

@[simp] theorem execPaceCcUpdate_aside (used : List Nat) (s : State) : (s.after (execPaceCcUpdate used s)).aside = s.aside := by
  simp [execPaceCcUpdate]

@[simp] theorem State.clearPaceMax_aside (s : State) (n : Nat) : (s.clearPaceMax n).aside = s.aside := by
  simp [State.clearPaceMax]

@[simp] theorem execMonPaceMaxClr_aside (n : Fin 16) (s : State) : (s.after (execMonPaceMaxClr n s)).aside = s.aside := by
  simp [execMonPaceMaxClr]

@[simp] theorem execSpRestart_aside (p : Fin 4) (s : State) : (s.after (execSpRestart p s)).aside = s.aside := by
  simp [execSpRestart, ↓State.aside_mk, ↓State.aside_fold]

@[simp] theorem State.outputsSafe_aside (s : State) : s.outputsSafe.aside = s.aside := by
  simp [State.outputsSafe]

@[simp] theorem execFenceInRelease_aside (s : State) : (s.after (execFenceInRelease s)).aside = s.aside := by
  simp [execFenceInRelease, ↓State.aside_mk, ↓State.aside_fold]

@[simp] theorem State.setQualified_aside (s : State) (d : Nat) (on : Bool) : (s.setQualified d on).aside = s.aside := by
  simp [State.setQualified, ↓State.aside_mk, ↓State.aside_fold]

@[simp] theorem State.lanesLost_aside (s : State) (from_ n : Nat) : (s.lanesLost from_ n).aside = s.aside := by
  simp [State.lanesLost]

@[simp] theorem State.loseDomain_aside (s : State) (d : Nat) : (s.loseDomain d).aside = s.aside := by
  unfold State.loseDomain
  dsimp only
  split <;> simp [↓State.aside_mk, ↓State.aside_fold]

@[simp] theorem State.gainDomain_aside (s : State) (d : Nat) : (s.gainDomain d).aside = s.aside := by
  unfold State.gainDomain
  dsimp only
  split <;> simp [↓State.aside_mk, ↓State.aside_fold]

@[simp] theorem execClockQualified_aside (d : Fin 9) (s : State) : (s.after (execClockQualified d s)).aside = s.aside := by
  simp [execClockQualified]

@[simp] theorem execClockQualTimeout_aside (d : Fin 9) (s : State) : (s.after (execClockQualTimeout d s)).aside = s.aside := by
  simp [execClockQualTimeout]

@[simp] theorem State.porUp_aside (s : State) : s.porUp.aside = s.aside := by
  unfold State.porUp
  dsimp only
  split <;> simp [↓State.aside_mk, ↓State.aside_fold]

@[simp] theorem State.takeTj_aside (s : State) (tj : Word) : (s.takeTj tj).aside = s.aside := by
  simp [State.takeTj]

@[simp] theorem execTempWarnEnter_aside (tj : Word) (s : State) : (s.after (execTempWarnEnter tj s)).aside = s.aside := by
  simp [execTempWarnEnter, ↓State.aside_mk, ↓State.aside_fold]

@[simp] theorem execTempWarnEnd_aside (tj : Word) (s : State) : (s.after (execTempWarnEnd tj s)).aside = s.aside := by
  simp [execTempWarnEnd]

@[simp] theorem State.warnHeld_aside (s : State) (live : Bool) : (s.warnHeld live).aside = s.aside := by
  simp [State.warnHeld]

@[simp] theorem execTempWarnHoldExpiry_aside (s : State) : (s.after (execTempWarnHoldExpiry s)).aside = s.aside := by
  simp [execTempWarnHoldExpiry]

@[simp] theorem State.trackMin_aside (s : State) (r mv : Nat) : (s.trackMin r mv).aside = s.aside := by
  simp [State.trackMin]

@[simp] theorem execRailWarnEnter_aside (rail : Fin 6) (mv : Nat) (s : State) :
    (s.after (execRailWarnEnter rail mv s)).aside = s.aside := by
  simp [execRailWarnEnter, ↓State.aside_mk, ↓State.aside_fold]

@[simp] theorem State.setDur_aside (s : State) (r : Nat) : (s.setDur r).aside = s.aside := by
  simp [State.setDur]

@[simp] theorem execRailWarnClear_aside (rail : Fin 6) (mv : Nat) (s : State) :
    (s.after (execRailWarnClear rail mv s)).aside = s.aside := by
  unfold execRailWarnClear
  dsimp only
  repeat' split
  all_goals simp [↓State.aside_mk, ↓State.aside_fold]

@[simp] theorem execVwarnHoldExpiry_aside (rail : Fin 6) (s : State) : (s.after (execVwarnHoldExpiry rail s)).aside = s.aside := by
  simp [execVwarnHoldExpiry]

@[simp] theorem State.clearTracker_aside (s : State) (r : Nat) : (s.clearTracker r).aside = s.aside := by
  simp [State.clearTracker]

@[simp] theorem execMonRailTrkClr_aside (rail : Fin 6) (s : State) : (s.after (execMonRailTrkClr rail s)).aside = s.aside := by
  simp [execMonRailTrkClr]

@[simp] theorem State.rewriteStatus_aside (s : State) : s.rewriteStatus.aside = s.aside := by
  simp [State.rewriteStatus]

@[simp] theorem State.beginStart_aside (s : State) (bootPin : Bool) : (s.beginStart bootPin).aside = s.aside := by
  simp [State.beginStart, ↓State.aside_mk, ↓State.aside_fold]

@[simp] theorem execFailedStartClear_aside (s : State) : (s.after (execFailedStartClear s)).aside = s.aside := by
  simp [execFailedStartClear]

@[simp] theorem State.resumePath_aside (s : State) : s.resumePath.aside = s.aside := by
  simp [State.resumePath, ↓State.aside_mk, ↓State.aside_fold]

@[simp] theorem execPrintPathResume_aside (s : State) : (s.after (execPrintPathResume s)).aside = s.aside := by
  simp [execPrintPathResume]

/-! ### `Machine/Image` -/

@[simp] theorem State.setFlash_aside (s : State) (dev : Nat) (f : Tab Byte → Tab Byte) : (s.setFlash dev f).aside = s.aside := by
  simp [State.setFlash, ↓State.aside_mk, ↓State.aside_fold]

@[simp] theorem State.setNode_aside (s : State) : s.setNode.aside = s.aside := by
  unfold State.setNode
  split <;> simp

@[simp] theorem State.readOption_aside (s : State) : s.readOption.aside = s.aside := by
  simp [State.readOption, ↓State.aside_mk, ↓State.aside_fold]

@[simp] theorem execOptionBlockReadDone_aside (s : State) : (s.after (execOptionBlockReadDone s)).aside = s.aside := by
  unfold execOptionBlockReadDone
  dsimp only
  repeat' split
  all_goals simp [↓State.aside_mk, ↓State.aside_fold]

@[simp] theorem State.openRecords_aside (s : State) : s.openRecords.aside = s.aside := by
  simp [State.openRecords, ↓State.aside_mk, ↓State.aside_fold]

@[simp] theorem State.loadSlot_aside (s : State) (o : OptionBlock) (dev : Nat) : (s.loadSlot o dev).aside = s.aside := by
  unfold State.loadSlot
  extract_lets gen fw placed noted loaded _ versioned matched training _ up
  have hmatched : matched.aside = s.aside := by
    simp [matched, versioned, loaded, noted, placed, ↓State.aside_mk, ↓State.aside_fold]
  have hup : up.aside = matched.aside := by simp [up, training, ↓State.aside_mk, ↓State.aside_fold]
  split
  · simp [hmatched]
  · split <;> simp [hup, hmatched]

@[simp] theorem State.nextRecord_aside (s : State) : s.nextRecord.aside = s.aside := by
  simp [State.nextRecord, ↓State.aside_mk, ↓State.aside_fold]

@[simp] theorem State.recheckStore_aside (s : State) : s.recheckStore.aside = s.aside := by
  simp [State.recheckStore, ↓State.aside_mk, ↓State.aside_fold]

@[simp] theorem execHeadTable_aside (mask kind : Nat) (data : List Byte) (s : State) :
    (s.after (execHeadTable mask kind data s)).aside = s.aside := by
  simp [execHeadTable, ↓State.aside_mk, ↓State.aside_fold]

@[simp] theorem execFuseProgram_aside (hash : List Byte) (map flags : Word) (s : State) :
    (s.after (execFuseProgram hash map flags s)).aside = s.aside := by
  simp [execFuseProgram, ↓State.aside_mk, ↓State.aside_fold]

@[simp] theorem State.enforceAll_aside (s : State) : s.enforceAll.aside = s.aside := by
  simp [State.enforceAll, ↓State.aside_mk, ↓State.aside_fold]

@[simp] theorem State.commitTables_aside (s : State) : s.commitTables.aside = s.aside := by
  simp [State.commitTables]

@[simp] theorem State.startLanes_aside (s : State) : s.startLanes.aside = s.aside := by
  simp [State.startLanes]

@[simp] theorem State.pinCommit_aside (s : State) : s.pinCommit.aside = s.aside := by
  simp [State.pinCommit, ↓State.aside_mk, ↓State.aside_fold]

@[simp] theorem execCfgRecordEnd_aside (s : State) : (s.after (execCfgRecordEnd s)).aside = s.aside := by
  simp [execCfgRecordEnd]

@[simp] theorem State.writeFlCtrl_aside (s : State) (value : Word) : (s.writeFlCtrl value).aside = s.aside := by
  simp [State.writeFlCtrl, ↓State.aside_mk, ↓State.aside_fold]

@[simp] theorem execCfgFlRead_aside (value : Word) (s : State) : (s.after (execCfgFlRead value s)).aside = s.aside := by
  simp [execCfgFlRead]

@[simp] theorem execCfgFlProgram_aside (value : Word) (s : State) : (s.after (execCfgFlProgram value s)).aside = s.aside := by
  simp [execCfgFlProgram]

@[simp] theorem execCfgFlErase4k_aside (value : Word) (s : State) : (s.after (execCfgFlErase4k value s)).aside = s.aside := by
  simp [execCfgFlErase4k]

@[simp] theorem execCfgFlErase64k_aside (value : Word) (s : State) : (s.after (execCfgFlErase64k value s)).aside = s.aside := by
  simp [execCfgFlErase64k]

@[simp] theorem State.setBufByte_aside (s : State) (i : Nat) (b : Byte) : (s.setBufByte i b).aside = s.aside := by
  simp [State.setBufByte]

@[simp] theorem State.flashDone_aside (s : State) : s.flashDone.aside = s.aside := by
  unfold State.flashDone
  dsimp only
  repeat' split
  all_goals simp [↓State.aside_mk, ↓State.aside_fold]

@[simp] theorem execCfgFlOpDone_aside (s : State) : (s.after (execCfgFlOpDone s)).aside = s.aside := by
  simp [execCfgFlOpDone]

/-! ### `Machine/Mc` -/

@[simp] theorem State.mapMc_aside (s : State) (f : MemCtlSt → MemCtlSt) : (s.mapMc f).aside = s.aside := by
  simp [State.mapMc, ↓State.aside_mk, ↓State.aside_fold]

@[simp] theorem State.queueWrite_aside (s : State) (addr : Nat) : (s.queueWrite addr).aside = s.aside := by
  simp [State.queueWrite]

@[simp] theorem State.drain_aside (s : State) (k urgent : Nat) : (s.drain k urgent).aside = s.aside := by
  simp [State.drain]

@[simp] theorem execWriteDrain_aside (sub : Fin 8) (urgent : Nat) (s : State) :
    (s.after (execWriteDrain sub urgent s)).aside = s.aside := by
  simp [execWriteDrain]

@[simp] theorem execRefresh_aside (sub : Fin 8) (urgent hot : Bool) (s : State) :
    (s.after (execRefresh sub urgent hot s)).aside = s.aside := by
  simp [execRefresh]

@[simp] theorem State.markSpare_aside (s : State) (sub rank dev : Nat) : (s.markSpare sub rank dev).aside = s.aside := by
  simp [State.markSpare]

@[simp] theorem execMcCe_aside (h : CeHit) (s : State) : (s.after (execMcCe h s)).aside = s.aside := by
  unfold execMcCe
  extract_lets counted noted due
  have hcounted : counted.aside = s.aside := by simp [counted]
  have hnoted : noted.aside = s.aside := by
    dsimp only [noted]
    split
    next d _ =>
      refine (State.aside_ite ..).trans ?_
      simp [hcounted]
    next => exact hcounted
  simp [hnoted]

@[simp] theorem State.writeMcSpare_aside (s : State) (sub : Nat) (value : Word) : (s.writeMcSpare sub value).aside = s.aside := by
  simp [State.writeMcSpare]

@[simp] theorem execMcSpareMark_aside (sub : Fin 8) (value : Word) (s : State) :
    (s.after (execMcSpareMark sub value s)).aside = s.aside := by
  simp [execMcSpareMark]

@[simp] theorem State.strikeLine_aside (s : State) (line : Nat) : (s.strikeLine line).aside = s.aside := by
  unfold State.strikeLine
  split <;> simp

@[simp] theorem execPatrolScrub_aside (s : State) : (s.after (execPatrolScrub s)).aside = s.aside := by
  simp [execPatrolScrub]

@[simp] theorem State.limitClass_aside (s : State) (cls : Nat) (b : Bank) : (s.limitClass cls b).1.aside = s.aside := by
  unfold State.limitClass
  dsimp only
  repeat' split
  all_goals simp

@[simp] theorem State.rowActivate_aside (s : State) (n row cls : Nat) (rfm : Bool) : (s.rowActivate n row cls rfm).aside = s.aside := by
  simp [State.rowActivate]

@[simp] theorem execRowActivate_aside (bank : Fin 512) (row : Nat) (cls : Fin 8) (rfm : Bool) (s : State) :
    (s.after (execRowActivate bank row cls rfm s)).aside = s.aside := by
  simp [execRowActivate]

@[simp] theorem execHammerWindowEnd_aside (s : State) : (s.after (execHammerWindowEnd s)).aside = s.aside := by
  simp [execHammerWindowEnd]

@[simp] theorem execSelfRefreshEntry_aside (s : State) : (s.after (execSelfRefreshEntry s)).aside = s.aside := by
  simp [execSelfRefreshEntry]

@[simp] theorem execSelfRefreshExit_aside (s : State) : (s.after (execSelfRefreshExit s)).aside = s.aside := by
  simp [execSelfRefreshExit]

@[simp] theorem execZqCalibration_aside (rank : Fin 2) (s : State) : (s.after (execZqCalibration rank s)).aside = s.aside := by
  simp [execZqCalibration]

@[simp] theorem execDqsOscCheck_aside (rank : Fin 2) (drift : Int) (s : State) :
    (s.after (execDqsOscCheck rank drift s)).aside = s.aside := by
  simp [execDqsOscCheck]

@[simp] theorem State.writeMcCtrl_aside (s : State) (value : Word) : (s.writeMcCtrl value).aside = s.aside := by
  simp [State.writeMcCtrl]

@[simp] theorem execMcRetrain_aside (value : Word) (s : State) : (s.after (execMcRetrain value s)).aside = s.aside := by
  simp [execMcRetrain]

@[simp] theorem execRetrainDone_aside (s : State) : (s.after (execRetrainDone s)).aside = s.aside := by
  simp [execRetrainDone]

/-! ### `Machine/Events` -/

@[simp] theorem State.releaseEvents_aside (s : State) (et : Nat) : (s.releaseEvents et).aside = s.aside := by
  simp [State.releaseEvents, ↓State.aside_mk, ↓State.aside_fold]

@[simp] theorem execEventRelease_aside (et : Nat) (s : State) : (s.after (execEventRelease et s)).aside = s.aside := by
  simp [execEventRelease]

@[simp] theorem State.park_aside (s : State) : s.park.aside = s.aside := by
  simp [State.park]

@[simp] theorem State.unpark_aside (s : State) : s.unpark.aside = s.aside := by
  simp [State.unpark, ↓State.aside_mk, ↓State.aside_fold]

@[simp] theorem State.writeRstPark_aside (s : State) (value : Word) : (s.writeRstPark value).aside = s.aside := by
  simp [State.writeRstPark]

@[simp] theorem execRstParkReq_aside (value : Word) (s : State) : (s.after (execRstParkReq value s)).aside = s.aside := by
  simp [execRstParkReq]

@[simp] theorem execRstParkRun_aside (value : Word) (s : State) : (s.after (execRstParkRun value s)).aside = s.aside := by
  simp [execRstParkRun]

@[simp] theorem State.compMiss_aside (s : State) : s.compMiss.aside = s.aside := by
  simp [State.compMiss, ↓State.aside_mk, ↓State.aside_fold]

@[simp] theorem execHostMiss_aside (s : State) : (s.after (execHostMiss s)).aside = s.aside := by
  simp [execHostMiss]

/-! ### `Machine/Island` -/

@[simp] theorem execTallySend_aside (s : State) : (s.after (execTallySend s)).aside = s.aside := by
  simp [execTallySend, ↓State.aside_mk, ↓State.aside_fold]

@[simp] theorem State.putWord_aside (s : State) (r : Reg) (i w : Nat) : (s.putWord r i w).aside = s.aside := by
  unfold State.putWord
  exact foldl_keeps State.aside (by simp) _ _

@[simp] theorem State.checkAlive_aside (s : State) : s.checkAlive.aside = s.aside := by
  unfold State.checkAlive
  split <;> simp

@[simp] theorem State.lookAtMirror_aside (s : State) : s.lookAtMirror.aside = s.aside := by
  simp [State.lookAtMirror, ↓State.aside_mk, ↓State.aside_fold]

@[simp] theorem execMetStatusChange_aside (s : State) : (s.after (execMetStatusChange s)).aside = s.aside := by
  simp [execMetStatusChange]

/-! ### `Machine/Ring` -/

@[simp] theorem State.openRing_aside (s : State) (port : Nat) : (s.openRing port).aside = s.aside := by
  simp [State.openRing]

@[simp] theorem State.putUp_aside (s : State) (k v : Nat) : (s.putUp k v).aside = s.aside := by
  simp [State.putUp]

@[simp] theorem State.sendLinkDown_aside (s : State) (k : Nat) : (s.sendLinkDown k).aside = s.aside := by
  simp [State.sendLinkDown]

@[simp] theorem State.ringDown_aside (s : State) (k : Nat) : (s.ringDown k).aside = s.aside := by
  simp [State.ringDown]

@[simp] theorem execRingPortDown_aside (port : Fin 2) (s : State) : (s.after (execRingPortDown port s)).aside = s.aside := by
  simp [execRingPortDown]

@[simp] theorem State.ringUp_aside (s : State) (k : Nat) : (s.ringUp k).aside = s.aside := by
  simp [State.ringUp]

@[simp] theorem execRingPortUp_aside (port : Fin 2) (s : State) : (s.after (execRingPortUp port s)).aside = s.aside := by
  simp [execRingPortUp]

@[simp] theorem State.passRing_aside (s : State) (k opc node : Nat) (bcast : Bool) (hops origin data : Nat) :
    (s.passRing k opc node bcast hops origin data).aside = s.aside := by
  simp [State.passRing]

@[simp] theorem State.ringLinkDown_aside (s : State) (k hops origin : Nat) : (s.ringLinkDown k hops origin).aside = s.aside := by
  simp [State.ringLinkDown]

@[simp] theorem execRingLinkDown_aside (port : Fin 2) (origin hops : Nat) (s : State) :
    (s.after (execRingLinkDown port origin hops s)).aside = s.aside := by
  simp [execRingLinkDown]

@[simp] theorem State.respond_aside (s : State) (mac seq len : Nat) (r : List Nat) : (s.respond mac seq len r).aside = s.aside := by
  simp [State.respond]

@[simp] theorem State.storeResponse_aside (s : State) (q : ReqSt) : (s.storeResponse q).aside = s.aside := by
  simp [State.storeResponse]

@[simp] theorem State.settleRequest_aside (s : State) : s.settleRequest.aside = s.aside := by
  unfold State.settleRequest
  dsimp only
  repeat' split
  all_goals simp

@[simp] theorem State.settleRequests_aside (s : State) : s.settleRequests.aside = s.aside := by
  simp [State.settleRequests]

@[simp] theorem State.opDone_aside (s : State) (opc status : Nat) (data : List Nat) : (s.opDone opc status data).aside = s.aside := by
  unfold State.opDone
  split <;> simp

@[simp] theorem State.request_aside (s : State) (src : Nat) (sync : Bool) (seq : Nat) (ops : List (Nat × Nat)) :
    (s.request src sync seq ops).aside = s.aside := by
  unfold State.request
  dsimp only
  split <;> simp

@[simp] theorem State.passFrame_aside (s : State) (k : Nat) (f : RingFrame) (hops : List Nat) :
    (s.passFrame k f hops).aside = s.aside := by
  simp [State.passFrame]

@[simp] theorem State.passPtp_aside (s : State) (k : Nat) (event : Bool) (kind len : Nat) :
    (s.passPtp k event kind len).aside = s.aside := by
  simp [State.passPtp]

/-! ### `Machine/Ptp` -/

@[simp] theorem State.mapPtp_aside (s : State) (f : PtpSt → PtpSt) : (s.mapPtp f).aside = s.aside := by
  simp [State.mapPtp, ↓State.aside_mk, ↓State.aside_fold]

@[simp] theorem State.commitInc_aside (s : State) : s.commitInc.aside = s.aside := by
  simp [State.commitInc]

@[simp] theorem State.writePtpInc_aside (s : State) (value : Word) : (s.writePtpInc value).aside = s.aside := by
  simp [State.writePtpInc]

@[simp] theorem execPtpIncInt_aside (value : Word) (s : State) : (s.after (execPtpIncInt value s)).aside = s.aside := by
  simp [execPtpIncInt]

@[simp] theorem State.ptpStepped_aside (s : State) : s.ptpStepped.aside = s.aside := by
  simp [State.ptpStepped]

@[simp] theorem State.stepBy_aside (s : State) (d : Int) : (s.stepBy d).aside = s.aside := by
  simp [State.stepBy]

@[simp] theorem execPtpAdj_aside (value : Word) (s : State) : (s.after (execPtpAdj value s)).aside = s.aside := by
  simp [execPtpAdj]

@[simp] theorem State.writePtpSet_aside (s : State) (value : Word) : (s.writePtpSet value).aside = s.aside := by
  simp [State.writePtpSet]

@[simp] theorem execPtpSet_aside (value : Word) (s : State) : (s.after (execPtpSet value s)).aside = s.aside := by
  simp [execPtpSet]

@[simp] theorem State.servoInc_aside (s : State) : s.servoInc.aside = s.aside := by
  simp [State.servoInc]

@[simp] theorem State.judgeLock_aside (s : State) (ofs : Int) : (s.judgeLock ofs).aside = s.aside := by
  simp [State.judgeLock]

@[simp] theorem State.measure_aside (s : State) (port t1 : Nat) (t2 : Int) : (s.measure port t1 t2).aside = s.aside := by
  simp [State.measure]

@[simp] theorem State.writePtpHostSeq_aside (s : State) (value : Word) : (s.writePtpHostSeq value).aside = s.aside := by
  simp [State.writePtpHostSeq]

@[simp] theorem execPtpHostSeq_aside (value : Word) (s : State) : (s.after (execPtpHostSeq value s)).aside = s.aside := by
  simp [execPtpHostSeq]

@[simp] theorem State.hostDeadline_aside (s : State) : s.hostDeadline.aside = s.aside := by
  simp [State.hostDeadline]

@[simp] theorem State.sendPtp_aside (s : State) (port kind : Nat) (args : List Nat) : (s.sendPtp port kind args).aside = s.aside := by
  simp [State.sendPtp]

@[simp] theorem State.askPeers_aside (s : State) : s.askPeers.aside = s.aside := by
  simp [State.askPeers]

@[simp] theorem State.askDelay_aside (s : State) (port : Nat) : (s.askDelay port).aside = s.aside := by
  simp [State.askDelay]

@[simp] theorem State.ptpSync_aside (s : State) (m : PtpMsg) : (s.ptpSync m).aside = s.aside := by
  simp [State.ptpSync]

@[simp] theorem execPtpSync_aside (m : PtpMsg) (s : State) : (s.after (execPtpSync m s)).aside = s.aside := by
  simp [execPtpSync]

@[simp] theorem State.ptpFollowUp_aside (s : State) (m : PtpMsg) : (s.ptpFollowUp m).aside = s.aside := by
  unfold State.ptpFollowUp
  dsimp only
  repeat' split
  all_goals simp

@[simp] theorem execPtpFollowUp_aside (m : PtpMsg) (s : State) : (s.after (execPtpFollowUp m s)).aside = s.aside := by
  simp [execPtpFollowUp]

@[simp] theorem State.ptpDelayReq_aside (s : State) (m : PtpMsg) : (s.ptpDelayReq m).aside = s.aside := by
  simp [State.ptpDelayReq]

@[simp] theorem execPtpDelayReq_aside (m : PtpMsg) (s : State) : (s.after (execPtpDelayReq m s)).aside = s.aside := by
  simp [execPtpDelayReq]

@[simp] theorem State.ptpDelayResp_aside (s : State) (m : PtpMsg) : (s.ptpDelayResp m).aside = s.aside := by
  unfold State.ptpDelayResp
  dsimp only
  repeat' split
  all_goals simp

@[simp] theorem execPtpDelayResp_aside (m : PtpMsg) (s : State) : (s.after (execPtpDelayResp m s)).aside = s.aside := by
  simp [execPtpDelayResp]

@[simp] theorem State.ptpPdelayReq_aside (s : State) (m : PtpMsg) : (s.ptpPdelayReq m).aside = s.aside := by
  simp [State.ptpPdelayReq]

@[simp] theorem execPtpPdelayReq_aside (m : PtpMsg) (s : State) : (s.after (execPtpPdelayReq m s)).aside = s.aside := by
  simp [execPtpPdelayReq]

@[simp] theorem State.setLinkDelay_aside (s : State) (k : Nat) (d : Int) : (s.setLinkDelay k d).aside = s.aside := by
  simp [State.setLinkDelay]

@[simp] theorem State.ptpPdelayResp_aside (s : State) (m : PtpMsg) : (s.ptpPdelayResp m).aside = s.aside := by
  simp [State.ptpPdelayResp]

@[simp] theorem execPtpPdelayResp_aside (m : PtpMsg) (s : State) : (s.after (execPtpPdelayResp m s)).aside = s.aside := by
  simp [execPtpPdelayResp]

@[simp] theorem State.ptpPdelayFollowUp_aside (s : State) (m : PtpMsg) : (s.ptpPdelayFollowUp m).aside = s.aside := by
  unfold State.ptpPdelayFollowUp
  dsimp only
  split <;> simp

@[simp] theorem execPtpPdelayRespFollowUp_aside (m : PtpMsg) (s : State) : (s.after (execPtpPdelayRespFollowUp m s)).aside = s.aside := by
  simp [execPtpPdelayRespFollowUp]

@[simp] theorem State.follow_aside (s : State) (m : PtpMaster) : (s.follow m).aside = s.aside := by
  simp [State.follow]

@[simp] theorem State.beMaster_aside (s : State) : s.beMaster.aside = s.aside := by
  simp [State.beMaster]

@[simp] theorem State.ptpAnnounce_aside (s : State) (m : PtpAnnounce) : (s.ptpAnnounce m).aside = s.aside := by
  simp [State.ptpAnnounce]

@[simp] theorem execPtpAnnounce_aside (m : PtpAnnounce) (s : State) : (s.after (execPtpAnnounce m s)).aside = s.aside := by
  simp [execPtpAnnounce]

@[simp] theorem State.holdover_aside (s : State) : s.holdover.aside = s.aside := by
  simp [State.holdover]

@[simp] theorem State.announceTimeout_aside (s : State) : s.announceTimeout.aside = s.aside := by
  simp [State.announceTimeout]

@[simp] theorem execPtpAnnounceTimeout_aside (s : State) : (s.after (execPtpAnnounceTimeout s)).aside = s.aside := by
  simp [execPtpAnnounceTimeout]

@[simp] theorem execPtpSyncTimeout_aside (s : State) : (s.after (execPtpSyncTimeout s)).aside = s.aside := by
  simp [execPtpSyncTimeout]

@[simp] theorem State.ptpSyncSend_aside (s : State) : s.ptpSyncSend.aside = s.aside := by
  simp [State.ptpSyncSend]

@[simp] theorem execPtpSyncSend_aside (s : State) : (s.after (execPtpSyncSend s)).aside = s.aside := by
  simp [execPtpSyncSend]

@[simp] theorem State.writeTlCtrl_aside (s : State) (t : Nat) (value : Word) : (s.writeTlCtrl t value).aside = s.aside := by
  simp [State.writeTlCtrl]

@[simp] theorem execTlArm_aside (t : Fin 16) (value : Word) (s : State) : (s.after (execTlArm t value s)).aside = s.aside := by
  simp [execTlArm]

@[simp] theorem execTlCancel_aside (t : Fin 16) (value : Word) (s : State) : (s.after (execTlCancel t value s)).aside = s.aside := by
  simp [execTlCancel]

@[simp] theorem State.launchOn_aside (s : State) (t k : Nat) : (s.launchOn t k).aside = s.aside := by
  simp [State.launchOn]

@[simp] theorem execTimedLaunch_aside (t : Fin 16) (s : State) : (s.after (execTimedLaunch t s)).aside = s.aside := by
  simp [execTimedLaunch]

@[simp] theorem State.crossStamp_aside (s : State) : s.crossStamp.aside = s.aside := by
  simp [State.crossStamp]

@[simp] theorem execCrossStamp_aside (s : State) : (s.after (execCrossStamp s)).aside = s.aside := by
  simp [execCrossStamp]

/-! ### `Machine/Twin` -/

@[simp] theorem State.becomeActive_aside (s : State) (unfit : Bool) : (s.becomeActive unfit).aside = s.aside := by
  simp [State.becomeActive]

@[simp] theorem State.becomeStandby_aside (s : State) : s.becomeStandby.aside = s.aside := by
  simp [State.becomeStandby]

@[simp] theorem State.decideRole_aside (s : State) : s.decideRole.aside = s.aside := by
  unfold State.decideRole
  dsimp only
  repeat' split
  all_goals simp

@[simp] theorem State.decideUnfit_aside (s : State) : s.decideUnfit.aside = s.aside := by
  unfold State.decideUnfit
  dsimp only
  repeat' split
  all_goals simp

@[simp] theorem State.closeOpen_aside (s : State) : s.closeOpen.aside = s.aside := by
  simp [State.closeOpen, ↓State.aside_mk, ↓State.aside_fold]

@[simp] theorem State.partnerWait_aside (s : State) (fenceLow : Bool) : (s.partnerWait fenceLow).aside = s.aside := by
  simp [State.partnerWait]

@[simp] theorem execPartnerWaitExpiry_aside (fenceLow : Bool) (s : State) :
    (s.after (execPartnerWaitExpiry fenceLow s)).aside = s.aside := by
  simp [execPartnerWaitExpiry]

@[simp] theorem execHeartbeatSend_aside (s : State) : (s.after (execHeartbeatSend s)).aside = s.aside := by
  simp [execHeartbeatSend]

@[simp] theorem State.feedRejoin_aside (s : State) : s.feedRejoin.aside = s.aside := by
  simp [State.feedRejoin]

@[simp] theorem State.partnerStands_aside (s : State) (h : Heartbeat) : (s.partnerStands h).aside = s.aside := by
  simp [State.partnerStands]

@[simp] theorem State.heartbeat_aside (s : State) (h : Heartbeat) : (s.heartbeat h).aside = s.aside := by
  simp [State.heartbeat]

@[simp] theorem execHeartbeat_aside (rx : Rx) (seq : Nat) (h : Heartbeat) (s : State) :
    (s.after (execHeartbeat rx seq h s)).aside = s.aside := by
  simp [execHeartbeat]

@[simp] theorem State.takeRole_aside (s : State) (cause : Nat) : (s.takeRole cause).aside = s.aside := by
  simp [State.takeRole]

@[simp] theorem State.heartbeatMiss_aside (s : State) : s.heartbeatMiss.aside = s.aside := by
  simp [State.heartbeatMiss]

@[simp] theorem execHeartbeatMiss_aside (s : State) : (s.after (execHeartbeatMiss s)).aside = s.aside := by
  simp [execHeartbeatMiss]

@[simp] theorem execSoloWaitExpiry_aside (s : State) : (s.after (execSoloWaitExpiry s)).aside = s.aside := by
  simp [execSoloWaitExpiry, ↓State.aside_mk, ↓State.aside_fold]

@[simp] theorem execFault_aside (rx : Rx) (seq level source : Nat) (s : State) :
    (s.after (execFault rx seq level source s)).aside = s.aside := by
  simp [execFault]

@[simp] theorem State.writeTwCmd_aside (s : State) (value : Word) : (s.writeTwCmd value).aside = s.aside := by
  simp [State.writeTwCmd]

@[simp] theorem execTwCmdPlan_aside (value : Word) (s : State) : (s.after (execTwCmdPlan value s)).aside = s.aside := by
  simp [execTwCmdPlan]

@[simp] theorem State.handover_aside (s : State) : s.handover.aside = s.aside := by
  simp [State.handover]

@[simp] theorem execPlanWaitEnd_aside (s : State) : (s.after (execPlanWaitEnd s)).aside = s.aside := by
  unfold execPlanWaitEnd
  split <;> simp

@[simp] theorem execHandover_aside (rx : Rx) (seq th : Nat) (lines : List Nat) (s : State) :
    (s.after (execHandover rx seq th lines s)).aside = s.aside := by
  simp [execHandover]

@[simp] theorem execTwPlanFail_aside (s : State) : (s.after (execTwPlanFail s)).aside = s.aside := by
  simp [execTwPlanFail]

@[simp] theorem execOffer_aside (rx : Rx) (seq role : Nat) (s : State) : (s.after (execOffer rx seq role s)).aside = s.aside := by
  simp [execOffer]

@[simp] theorem execResign_aside (rx : Rx) (seq reason : Nat) (s : State) : (s.after (execResign rx seq reason s)).aside = s.aside := by
  simp [execResign]

@[simp] theorem State.copySched_aside (s : State) (j : JournalSched) : (s.copySched j).aside = s.aside := by
  unfold State.copySched
  split <;> simp

@[simp] theorem State.copyWd_aside (s : State) (N : Nat) (w : Nat × Bool × Nat) : (s.copyWd N w).aside = s.aside := by
  unfold State.copyWd
  dsimp only
  repeat' split
  all_goals simp

@[simp] theorem State.copyDecision_aside (s : State) (N : Nat) (d : JournalDec) : (s.copyDecision N d).aside = s.aside := by
  unfold State.copyDecision
  dsimp only
  repeat' split
  all_goals simp

@[simp] theorem State.shadowFrame_aside (s : State) (j : JournalEntry) (p : Nat) : (s.shadowFrame j p).aside = s.aside := by
  simp [State.shadowFrame, ↓State.aside_mk, ↓State.aside_fold]

@[simp] theorem State.awaitCompare_aside (s : State) (j : JournalEntry) : (s.awaitCompare j).aside = s.aside := by
  simp [State.awaitCompare]

@[simp] theorem State.applyJournal_aside (s : State) (j : JournalEntry) : (s.applyJournal j).aside = s.aside := by
  unfold State.applyJournal
  split <;> simp

@[simp] theorem execJournal_aside (rx : Rx) (seq : Nat) (j : JournalEntry) (s : State) :
    (s.after (execJournal rx seq j s)).aside = s.aside := by
  simp [execJournal]

@[simp] theorem State.takeCairn_aside (s : State) : s.takeCairn.aside = s.aside := by
  simp [State.takeCairn]

@[simp] theorem execCairnTake_aside (s : State) : (s.after (execCairnTake s)).aside = s.aside := by
  simp [execCairnTake]

@[simp] theorem execCairn_aside (rx : Rx) (seq : Nat) (c : Cairn) (s : State) : (s.after (execCairn rx seq c s)).aside = s.aside := by
  simp [execCairn]

@[simp] theorem State.applySlot_aside (s : State) (c : CairnSlot) : (s.applySlot c).aside = s.aside := by
  simp [State.applySlot]

@[simp] theorem State.applyFpe_aside (s : State) (c : Cairn) : (s.applyFpe c).aside = s.aside := by
  simp [State.applyFpe]

@[simp] theorem State.applyAxis_aside (s : State) (n : Nat) (a : Int × Option Int × Bool) : (s.applyAxis n a).aside = s.aside := by
  simp [State.applyAxis]

@[simp] theorem State.applyActs_aside (s : State) (c : Cairn) : (s.applyActs c).aside = s.aside := by
  simp [State.applyActs, ↓State.aside_mk, ↓State.aside_fold]

@[simp] theorem State.applyLamp_aside (s : State) (n : Nat) (l : Nat × Nat × Option Nat) : (s.applyLamp n l).aside = s.aside := by
  simp [State.applyLamp]

@[simp] theorem State.applyPattern_aside (s : State) (e : Nat) (p : Option Nat) : (s.applyPattern e p).aside = s.aside := by
  unfold State.applyPattern
  split <;> simp

@[simp] theorem State.applyHealth_aside (s : State) (h : HealthEntry) : (s.applyHealth h).aside = s.aside := by
  simp [State.applyHealth, ↓State.aside_mk, ↓State.aside_fold]

@[simp] theorem State.dropPrinted_aside (s : State) (c : Cairn) : (s.dropPrinted c).aside = s.aside := by
  simp [State.dropPrinted, ↓State.aside_mk, ↓State.aside_fold]

@[simp] theorem State.applyPages_aside (s : State) (c : Cairn) : (s.applyPages c).aside = s.aside := by
  unfold State.applyPages
  extract_lets dropped _ next done missing flagged asked
  have hnext : next.aside = s.aside := by simp [next, dropped, ↓State.aside_mk, ↓State.aside_fold, -State.setPgNext_rst]
  have hdone : done.aside = s.aside := by
    dsimp only [done]
    split <;> simp [hnext, ↓State.aside_mk, ↓State.aside_fold]
  simp [asked, flagged, hdone]

@[simp] theorem State.applyGens_aside (s : State) (c : Cairn) : (s.applyGens c).aside = s.aside := by
  unfold State.applyGens
  exact foldl_keeps State.aside (by simp) _ _

@[simp] theorem State.applyModes_aside (s : State) (c : Cairn) : (s.applyModes c).aside = s.aside := by
  unfold State.applyModes
  exact foldl_keeps State.aside (by simp) _ _

@[simp] theorem State.applyCairn_aside (s : State) (c : Cairn) : (s.applyCairn c).aside = s.aside := by
  simp [State.applyCairn]

@[simp] theorem State.cairnApply_aside (s : State) : s.cairnApply.aside = s.aside := by
  unfold State.cairnApply
  split <;> simp

@[simp] theorem execCairnApply_aside (s : State) : (s.after (execCairnApply s)).aside = s.aside := by
  simp [execCairnApply]

@[simp] theorem State.cairnAck_aside (s : State) (cc : Nat) : (s.cairnAck cc).aside = s.aside := by
  simp [State.cairnAck]

@[simp] theorem execCairnAck_aside (rx : Rx) (seq cc : Nat) (s : State) : (s.after (execCairnAck rx seq cc s)).aside = s.aside := by
  simp [execCairnAck]

@[simp] theorem execCairnStale_aside (s : State) : (s.after (execCairnStale s)).aside = s.aside := by
  simp [execCairnStale]

@[simp] theorem State.takeGen_aside (s : State) (g : GenMsg) : (s.takeGen g).aside = s.aside := by
  simp [State.takeGen, ↓State.aside_mk, ↓State.aside_fold]

@[simp] theorem execGen_aside (rx : Rx) (seq : Nat) (g : GenMsg) (s : State) : (s.after (execGen rx seq g s)).aside = s.aside := by
  simp [execGen]

@[simp] theorem execHealthSend_aside (s : State) : (s.after (execHealthSend s)).aside = s.aside := by
  simp [execHealthSend]

@[simp] theorem State.takeHealth_aside (s : State) (h : HealthMsg) : (s.takeHealth h).aside = s.aside := by
  simp [State.takeHealth]

@[simp] theorem execHealth_aside (rx : Rx) (seq : Nat) (h : HealthMsg) (s : State) :
    (s.after (execHealth rx seq h s)).aside = s.aside := by
  simp [execHealth]

@[simp] theorem execSummit_aside (rx : Rx) (seq : Nat) (s : State) : (s.after (execSummit rx seq s)).aside = s.aside := by
  simp [execSummit]

@[simp] theorem State.summitOutcome_aside (s : State) (mine theirs : Bool) : (s.summitOutcome mine theirs).aside = s.aside := by
  simp [State.summitOutcome]

@[simp] theorem State.summitDecide_aside (s : State) : s.summitDecide.aside = s.aside := by
  unfold State.summitDecide
  split <;> simp

@[simp] theorem execSummitTestDone_aside (pass : Bool) (s : State) : (s.after (execSummitTestDone pass s)).aside = s.aside := by
  simp [execSummitTestDone]

@[simp] theorem execSummitResult_aside (rx : Rx) (seq : Nat) (pass : Bool) (s : State) :
    (s.after (execSummitResult rx seq pass s)).aside = s.aside := by
  simp [execSummitResult]

@[simp] theorem execLineFill_aside (rx : Rx) (seq : Nat) (lines : List (Nat × Nat × Nat × List (Nat × Nat))) (last : Bool) (s : State) :
    (s.after (execLineFill rx seq lines last s)).aside = s.aside := by
  simp [execLineFill]

/-! ### `Machine/RegRead` -/

@[simp] theorem State.readReg_aside (s : State) (r : Reg) (i : Nat) : (s.readReg r i).1.aside = s.aside := by
  unfold State.readReg
  repeat' split
  all_goals simp [↓State.aside_mk, ↓State.aside_fold]

@[simp] theorem State.readAddr_aside (s : State) (a : Nat) : (s.readAddr a).1.aside = s.aside := by
  unfold State.readAddr
  split <;> simp

@[simp] theorem State.readWords_aside (s : State) (a n : Nat) : (s.readWords a n).1.aside = s.aside := by
  induction n generalizing s a with
  | zero => rfl
  | succ n ih => simp [State.readWords, ih]

/-! ### `Machine/RegWrite` -/

@[simp] theorem State.writeCounter_aside (s : State) (r : Reg) (i : Nat) (w : Word) : (s.writeCounter r i w).aside = s.aside := by
  unfold State.writeCounter
  split
  · dsimp only
    split <;> simp
  · rfl

@[simp] theorem State.writeRd_aside (s : State) (rd wr : Fld) (w : Word) : (s.writeRd rd wr w).aside = s.aside := by
  simp [State.writeRd]

@[simp] theorem State.writeLnCtrl_aside (s : State) (n : Nat) (w : Word) : (s.writeLnCtrl n w).aside = s.aside := by
  simp [State.writeLnCtrl]

@[simp] theorem State.writeNozzle_aside (s : State) (i : Nat) (w : Word) : (s.writeNozzle i w).aside = s.aside := by
  simp [State.writeNozzle]

@[simp] theorem State.writeLeSrc_aside (s : State) (n : Nat) (w : Word) : (s.writeLeSrc n w).aside = s.aside := by
  simp [State.writeLeSrc]

@[simp] theorem State.writeCoef_aside (s : State) (r : Reg) (n : Nat) (w : Word) : (s.writeCoef r n w).aside = s.aside := by
  simp [State.writeCoef]

@[simp] theorem State.writeCalTol_aside (s : State) (k : Nat) (w : Word) : (s.writeCalTol k w).aside = s.aside := by
  simp [State.writeCalTol]

@[simp] theorem State.writeLampValue_aside (s : State) (r : Reg) (n : Nat) (w : Word) : (s.writeLampValue r n w).aside = s.aside := by
  simp [State.writeLampValue]

@[simp] theorem State.writeCamCfg_aside (s : State) (n : Nat) (w : Word) : (s.writeCamCfg n w).aside = s.aside := by
  simp [State.writeCamCfg]

@[simp] theorem State.writeAxRate_aside (s : State) (f : Fld) (n : Nat) (w : Word) : (s.writeAxRate f n w).aside = s.aside := by
  simp [State.writeAxRate]

@[simp] theorem State.writeDuty_aside (s : State) (hi : Bool) (w : Word) : (s.writeDuty hi w).aside = s.aside := by
  simp [State.writeDuty]

@[simp] theorem State.writeImageReg_aside (s : State) (r : Reg) (i : Nat) (w : Word) : (s.writeImageReg r i w).aside = s.aside := by
  unfold State.writeImageReg
  split <;> simp

@[simp] theorem State.writeMotionReg_aside (s : State) (r : Reg) (i : Nat) (w : Word) : (s.writeMotionReg r i w).aside = s.aside := by
  unfold State.writeMotionReg
  dsimp only
  split <;> simp [↓State.aside_mk, ↓State.aside_fold]

@[simp] theorem execRegOpRead_aside (nw addr : Nat) (s : State) : (s.after (execRegOpRead nw addr s)).aside = s.aside := by
  simp [execRegOpRead]

@[simp] theorem State.loadThreshold_aside (s : State) (k width height : Nat) (cells : List (List Word)) :
    (s.loadThreshold k width height cells).aside = s.aside := by
  unfold State.loadThreshold
  dsimp only
  repeat' split
  all_goals simp

@[simp] theorem execThrArray_aside (slot : Fin 8) (width height : Nat) (cells : List (List Word)) (s : State) :
    (s.after (execThrArray slot width height cells s)).aside = s.aside := by
  simp [execThrArray]

end Sys2Proof.Machine
end

section
/-! ## O59: what carries out, holds back or ends a reset

These operations change what is asked of the reset unit. `AsksFor` says that one source is added at most, `Spares` that the island
and source 15 are left alone; both compose along the model's operations. -/
namespace Sys2Proof.Machine

theorem State.aside_eq_iff {s : State} {m : IslandSt} {l : List Nat} {x : Option (Nat × Nat × List (Nat × Nat))} :
    s.aside = ⟨m, l, x⟩ ↔ s.met = m ∧ s.rst.sources = l ∧ s.twin.faultHold = x := by
  simp [State.aside]

theorem State.aside_inj {s t : State} (h : t.aside = s.aside) :
    t.met = s.met ∧ t.rst.sources = s.rst.sources ∧ t.twin.faultHold = s.twin.faultHold :=
  State.aside_eq_iff.mp h

theorem State.cold_aside (s : State) : s.cold.aside = ⟨s.met, [], none⟩ := by
  simp [State.cold, ↓State.aside_mk]
  rfl

theorem State.warm_aside (s : State) : s.warm.aside = ⟨s.met, [], none⟩ := by
  unfold State.warm
  extract_lets cold _ _ loaded marked
  have hmarked : marked.aside = ⟨s.met, [], none⟩ := (loaded.put_aside _ _ _).trans s.cold_aside
  split
  · exact hmarked
  · exact hmarked

/-- What a reset leaves of the sources and of what is held back; the island stays. -/
theorem State.applyReset_aside (s : State) (lvl : Nat) (srcs : List Nat) (targets : List (Nat × Nat)) (timeout : Bool) :
    (s.applyReset lvl srcs targets timeout).aside = ⟨s.met, (s.rst.sources ++ srcs).eraseDups, none⟩ := by
  unfold State.applyReset
  extract_lets was stage done
  have hdone : done.aside.island = s.met := by
    dsimp only [done]
    split
    · rfl
    · split
      · rw [State.cold_aside]
      · rw [State.warm_aside]
      · split
        · rfl
        · rw [State.resetPath_aside]
          rfl
      · rw [foldl_aside (fun t x => by split <;> simp)]
        rfl
  simp only [↓State.aside_mk]
  exact congrArg (Aside.mk · _) hdone

/-- Beside what was asked for before, only the reset of one source is: in its stretch, or held back. -/
def AsksFor (src : Nat) (s t : State) : Prop :=
  t.met = s.met ∧ (∀ n ∈ t.rst.sources, n ∈ s.rst.sources ∨ n = src) ∧
  ∀ q l ts, t.twin.faultHold = some (q, l, ts) → q = src ∨ ∃ l' ts', s.twin.faultHold = some (q, l', ts')

theorem AsksFor.of_aside {src : Nat} {s t : State} (h : t.aside = s.aside) : AsksFor src s t := by
  obtain ⟨hmet, hsources, hhold⟩ := State.aside_inj h
  exact ⟨hmet, fun n hn => .inl (hsources ▸ hn), fun q l ts hq => .inr ⟨l, ts, hhold ▸ hq⟩⟩

/-- A reset that is carried out leaves none held back. -/
theorem AsksFor.applyReset {src : Nat} {s t : State} (hmet : t.met = s.met) (hsources : ∀ n ∈ t.rst.sources, n ∈ s.rst.sources)
    (lvl : Nat) (targets : List (Nat × Nat)) (timeout : Bool) : AsksFor src s (t.applyReset lvl [src] targets timeout) := by
  obtain ⟨hmet', hsources', hhold⟩ := State.aside_eq_iff.mp (t.applyReset_aside lvl [src] targets timeout)
  refine ⟨hmet'.trans hmet, fun n hn => ?_, fun q l ts hq => ?_⟩
  · rw [hsources', List.mem_eraseDups, List.mem_append, List.mem_singleton] at hn
    exact hn.imp_left (hsources n)
  · rw [hhold] at hq
    exact absurd hq (by simp)

/-- Whatever its level, a source that is raised asks for its own reset and for no other, and leaves the island alone (R43, R46). -/
theorem State.raiseAt_asksFor (s : State) (src lvl : Nat) (targets : List (Nat × Nat)) (timeout : Bool) :
    AsksFor src s (s.raiseAt src lvl targets timeout) := by
  unfold State.raiseAt
  extract_lets st _ failed lvl' _ _ reported
  have hfailed : failed.aside = s.aside := by simp [failed]
  obtain ⟨hmet, hsources, hhold⟩ := State.aside_inj hfailed
  clear_value failed
  split
  · exact .applyReset rfl (fun n hn => hn) _ _ _
  split
  · exact .of_aside (by simp)
  split
  · split
    next q l ts hq =>
      refine ⟨hmet, fun n hn => ?_, fun q' l' ts' h => ?_⟩
      · rw [List.mem_eraseDups, List.mem_append, List.mem_singleton, hsources] at hn
        exact hn
      · cases h
        exact .inr ⟨l, ts, hhold ▸ hq⟩
    next hq =>
      have hreported : reported.met = failed.met := by simp [reported]
      refine ⟨hreported.trans hmet, fun n hn => ?_, fun q' l' ts' h => ?_⟩
      · exact .inr (List.mem_singleton.mp hn)
      · cases h
        exact .inl rfl
  · split
    · exact .applyReset hmet (fun n hn => hsources ▸ hn) _ _ _
    · refine .applyReset ?_ (fun n hn => ?_) _ _ _
      · exact hmet
      · exact absurd hn List.not_mem_nil

/-- The island is left alone, and source 15 is asked for only where it was asked for before. -/
def Spares (s t : State) : Prop :=
  t.met = s.met ∧ (15 ∉ s.rst.sources → (∀ q l ts, s.twin.faultHold = some (q, l, ts) → q ≠ 15) →
    15 ∉ t.rst.sources ∧ ∀ q l ts, t.twin.faultHold = some (q, l, ts) → q ≠ 15)

theorem Spares.trans {s t u : State} (h : Spares s t) (h' : Spares t u) : Spares s u := by
  obtain ⟨hmet, hasked⟩ := h
  obtain ⟨hmet', hasked'⟩ := h'
  refine ⟨hmet'.trans hmet, fun hsources hhold => ?_⟩
  obtain ⟨hsources', hhold'⟩ := hasked hsources hhold
  exact hasked' hsources' hhold'

theorem Spares.of_asksFor {src : Nat} {s t : State} (h : AsksFor src s t) (other : src ≠ 15) : Spares s t := by
  obtain ⟨hmet, hsources, hhold⟩ := h
  refine ⟨hmet, fun none15 unheld => ⟨fun h15 => ?_, fun q l ts hq => ?_⟩⟩
  · exact (hsources 15 h15).elim none15 (fun h => other h.symm)
  · rcases hhold q l ts hq with rfl | ⟨l', ts', hq'⟩
    · exact other
    · exact unheld q l' ts' hq'

theorem Spares.of_aside {s t : State} (h : t.aside = s.aside) : Spares s t :=
  .of_asksFor (src := 0) (.of_aside h) (by decide)

theorem Spares.refl (s : State) : Spares s s := .of_aside rfl

theorem State.raiseAt_spares (s : State) {src : Nat} (other : src ≠ 15) (lvl : Nat) (targets : List (Nat × Nat)) (timeout : Bool) :
    Spares s (s.raiseAt src lvl targets timeout) :=
  .of_asksFor (s.raiseAt_asksFor src lvl targets timeout) other

theorem State.raiseSource_spares (s : State) {src : Nat} (other : src ≠ 15) (targets : List (Nat × Nat)) :
    Spares s (s.raiseSource src targets) :=
  s.raiseAt_spares other _ _ _

theorem State.raiseHeld_spares (s : State) {src : Nat} (other : src ≠ 15) (targets : List (Nat × Nat)) :
    Spares s ((s.raiseSource src targets).hold src) :=
  (s.raiseSource_spares other targets).trans (.of_aside (State.hold_aside _ src))

theorem State.raiseCapped_spares (s : State) {src : Nat} (other : src ≠ 15) (asked : Nat) (targets : List (Nat × Nat)) :
    Spares s (s.raiseCapped src asked targets) :=
  s.raiseAt_spares other _ _ _

theorem State.raiseStart_spares (s : State) (timeout : Bool) : Spares s (s.raiseStart timeout) :=
  s.raiseAt_spares (by decide) _ _ _

/-- What was held back is carried out, and it was not source 15's. -/
theorem State.faultDue_spares (s : State) : Spares s s.faultDue := by
  unfold State.faultDue
  split
  next q l ts held =>
    have asked : AsksFor q s (s.applyReset l [q] ts false) := .applyReset rfl (fun _ h => h) l ts false
    exact ⟨asked.1, fun none15 unheld => (Spares.of_asksFor asked (unheld q l ts held)).2 none15 unheld⟩
  · exact .refl s

/-- What was asked for before is forgotten. -/
theorem Spares.of_forgotten {s t : State} {l : List Nat} {x : Option (Nat × Nat × List (Nat × Nat))} (h : t.aside = ⟨s.met, l, x⟩)
    (hl : 15 ∉ l) (hx : x = none ∨ x = s.twin.faultHold) : Spares s t := by
  obtain ⟨hmet, hsources, hhold⟩ := State.aside_eq_iff.mp h
  refine ⟨hmet, fun _ unheld => ⟨hsources ▸ hl, fun q l ts hq => ?_⟩⟩
  rw [hhold] at hq
  rcases hx with rfl | rfl
  · exact absurd hq (by simp)
  · exact unheld q l ts hq

theorem State.porDown_spares (s : State) : Spares s s.porDown := by
  refine .of_forgotten (l := ResetSt.reset.sources) (x := none) ?_ (by decide) (.inl rfl)
  unfold State.porDown
  obtain ⟨hmet, -, hhold⟩ := State.aside_eq_iff.mp s.cold_aside
  simp only [State.put_aside, ↓State.aside_mk, hmet, hhold]

theorem State.stretchEnd_spares (s : State) (bootPin : Bool) : Spares s (s.stretchEnd bootPin) := by
  unfold State.stretchEnd
  split
  · exact .refl s
  extract_lets r written _ _ ended rst
  refine .of_forgotten (l := []) (x := s.twin.faultHold) ?_ (by decide) (.inr rfl)
  have hended : ended.aside = ⟨s.met, [], s.twin.faultHold⟩ := by
    have hwritten : written.aside = s.aside := (State.pushHist_aside _ _ _ _ _).trans s.rewriteStatus_aside
    clear_value written
    obtain ⟨hmet, -, hhold⟩ := State.aside_inj hwritten
    exact State.aside_eq_iff.mpr ⟨hmet, rfl, hhold⟩
  clear_value ended
  rw [← hended]
  split
  · simp
  · simp
  · split <;> simp [rst, ↓State.aside_mk, ↓State.aside_fold]
  · split <;> simp

theorem State.writeRstCmd_spares (s : State) (value : Word) : Spares s (s.writeRstCmd value) := by
  unfold State.writeRstCmd
  extract_lets lvl cls inst
  split
  · exact .of_aside (by simp)
  split
  · exact (Spares.of_aside (by simp)).trans (State.raiseAt_spares _ (by decide) _ _ _)
  · exact s.raiseCapped_spares (by split <;> decide) _ _

theorem State.clockLost_spares (s : State) (d : Nat) : Spares s (s.clockLost d) := by
  unfold State.clockLost
  extract_lets lost
  have hlost : Spares s lost := .of_aside (by simp [lost])
  split
  · exact .refl s
  split
  · exact hlost.trans (State.raiseSource_spares _ (by decide) _)
  · exact hlost

theorem State.slotFailed_spares (s : State) (o : OptionBlock) (dev n : Nat) : Spares s (s.slotFailed o dev n) := by
  unfold State.slotFailed
  extract_lets stepped _ noted _ tried k
  have hnoted : Spares s noted := .of_aside (by simp [noted, stepped, ↓State.aside_mk, ↓State.aside_fold])
  have htried : Spares s tried := hnoted.trans (.of_aside (by simp [tried, ↓State.aside_mk, ↓State.aside_fold]))
  split
  · split
    · exact htried.trans (.of_aside (by simp))
    · exact (htried.trans (.of_aside (by simp))).trans (State.raiseSource_spares _ (by decide) _)
  · exact hnoted.trans (State.raiseSource_spares _ (by decide) _)

theorem State.failRecord_spares (s : State) : Spares s s.failRecord := by
  unfold State.failRecord
  split
  · exact .refl s
  · exact (Spares.of_aside (by simp)).trans (State.slotFailed_spares _ _ _ _)

theorem State.uncorrectable_spares (s : State) (h : UeHit) : Spares s (s.uncorrectable h) := by
  unfold State.uncorrectable
  extract_lets counted noted
  have hnoted : Spares s noted := .of_aside (by simp [noted, counted])
  split
  · exact hnoted.trans (State.raiseSource_spares _ (by decide) _)
  · exact hnoted.trans (.of_aside (by simp))
  · exact hnoted.trans (.of_aside (by simp))
  · exact hnoted

/-- Of the registers of the device's own blocks RST_CMD alone asks for a reset. -/
theorem State.writeDeviceReg_spares (s : State) (r : Reg) (i : Nat) (w : Word) : Spares s (s.writeDeviceReg r i w) := by
  by_cases h : r = .rstCmd
  · subst h
    exact s.writeRstCmd_spares w
  · refine .of_aside ?_
    unfold State.writeDeviceReg
    split
    · exact absurd rfl h
    all_goals simp

theorem State.writeReg_spares (s : State) (r : Reg) (i : Nat) (w : Word) : Spares s (s.writeReg r i w) := by
  unfold State.writeReg
  extract_lets fresh _
  have hfresh : Spares s fresh := .of_aside (by simp [fresh, ↓State.aside_mk, ↓State.aside_fold])
  refine hfresh.trans ?_
  split
  · exact .of_aside (by simp)
  split
  · exact .of_aside (by simp [↓State.aside_mk, ↓State.aside_fold])
  split
  · exact .of_aside (by simp [↓State.aside_mk, ↓State.aside_fold])
  split
  · exact .of_aside (by simp)
  split
  · exact .of_aside (by simp)
  · exact fresh.writeDeviceReg_spares r i w

theorem State.writeAddr_spares (s : State) (a : Nat) (w : Word) : Spares s (s.writeAddr a w) := by
  unfold State.writeAddr
  split
  · exact s.writeReg_spares _ _ w
  · exact .refl s

theorem State.recordWrites_spares (s : State) (l : List (Nat × Word)) : Spares s (s.recordWrites l) := by
  induction l generalizing s with
  | nil => exact .of_aside (by simp [State.recordWrites])
  | cons x l ih =>
    unfold State.recordWrites
    split
    · exact (s.writeAddr_spares _ _).trans (ih _)
    · exact s.failRecord_spares

theorem State.recordRmws_spares (s : State) (l : List (Nat × Word × Word)) : Spares s (s.recordRmws l) := by
  induction l generalizing s with
  | nil => exact .of_aside (by simp [State.recordRmws])
  | cons x l ih =>
    unfold State.recordRmws
    dsimp only
    split
    · exact ((Spares.of_aside (by simp)).trans (State.writeAddr_spares _ _ _)).trans (ih _)
    · exact s.failRecord_spares

theorem State.replayHeld_spares (s : State) (l : List (Nat × Nat)) : Spares s (s.replayHeld l) :=
  foldl_rel .refl .trans (fun t x => t.writeAddr_spares x.1 _) l s

theorem State.writeWords_spares (s : State) (a : Nat) (l : List Word) : Spares s (s.writeWords a l) := by
  induction l generalizing s a with
  | nil => exact .refl s
  | cons w l ih => exact (s.writeAddr_spares a w).trans (ih _ _)

theorem State.rmw_spares (s : State) (a : Nat) (mask value : Word) : Spares s (s.rmw a mask value).1 :=
  (Spares.of_aside (s.readAddr_aside a)).trans (State.writeAddr_spares _ _ _)

theorem State.ringReset_spares (s : State) (k node : Nat) (bcast : Bool) (hops origin data : Nat) :
    Spares s (s.ringReset k node bcast hops origin data) := by
  unfold State.ringReset
  extract_lets passed
  have hpassed : Spares s passed := .of_aside (by simp [passed])
  split
  · split
    · exact hpassed.trans (State.raiseSource_spares _ (by decide) _)
    · exact hpassed.trans (.of_aside (by simp))
  · exact hpassed

/-- Of what a ring port receives a RESET frame alone asks for a reset. -/
theorem State.receiveFrame_spares (s : State) (k : Nat) (f : RingFrame) : Spares s (s.receiveFrame k f) := by
  unfold State.receiveFrame
  extract_lets good
  split
  · exact .of_aside (by simp)
  split
  · exact .refl s
  split
  · split
    · split
      · exact .refl s
      · exact .of_aside (by simp)
    split
    · exact .of_aside (by simp)
    split
    · exact s.ringReset_spares _ _ _ _ _ _
    · exact .of_aside (by simp)
  · refine .of_aside ?_
    repeat' split
    all_goals simp

/-! ### The commands that ask for a reset or may do so -/

theorem Spares.ite {s t u : State} {c : Prop} [Decidable c] (h : Spares s t) (h' : Spares s u) : Spares s (if c then t else u) := by
  split
  · exact h
  · exact h'

theorem execFenceInAssert_spares (s : State) : Spares s (s.after (execFenceInAssert s)) := by
  unfold execFenceInAssert
  extract_lets _ low safe yielded
  have hyielded : Spares s yielded := .of_aside (by simp [yielded, safe, low, ↓State.aside_mk, ↓State.aside_fold])
  clear_value yielded
  exact hyielded.trans yielded.faultDue_spares

theorem execPowerOnReset_spares (rising : Bool) (s : State) : Spares s (s.after (execPowerOnReset rising s)) :=
  .ite (.of_aside (by simp)) s.porDown_spares

theorem execResetNAssert_spares (ns : Nat) (s : State) : Spares s (s.after (execResetNAssert ns s)) :=
  .ite (.refl s) (.ite (s.raiseSource_spares (by decide) _)
    (.ite (Spares.trans (t := s.nextOpen) (.of_aside (by simp)) (State.raiseSource_spares _ (by decide) _)) (.of_aside (by simp))))

theorem execThermalTrip_spares (tj : Word) (s : State) : Spares s (s.after (execThermalTrip tj s)) :=
  have taken : Spares s (s.takeTj tj) := .of_aside (by simp)
  .ite (taken.trans (State.raiseHeld_spares _ (by decide) [])) taken

theorem execTwinResetCommand_spares (s : State) : Spares s (s.after (execTwinResetCommand s)) :=
  .ite (.refl s) (s.raiseSource_spares (by decide) _)

theorem execImageReadDone_spares (s : State) : Spares s (s.after (execImageReadDone s)) := by
  unfold execImageReadDone
  rw [State.after_next]
  split
  · exact .refl s
  · exact .ite (.refl s) (.ite (.of_aside (by simp)) (s.slotFailed_spares _ _ _))

theorem execDramTrainingDone_spares (x : Training) (s : State) : Spares s (s.after (execDramTrainingDone x s)) := by
  unfold execDramTrainingDone
  rw [State.after_next]
  split
  · exact .refl s
  · refine .ite (.refl s) (.ite ?_ (.of_aside (by simp)))
    exact (Spares.of_aside (by simp)).trans (State.raiseStart_spares _ _)

theorem execWait_spares (a : Nat) (m v : Word) (expired : Bool) (s : State) : Spares s (s.after (execWait a m v expired s)) :=
  have read : Spares s (s.readAddr a).1 := .of_aside (by simp)
  .ite (.refl s) (.ite (read.trans (State.failRecord_spares _)) (read.trans (.of_aside (by simp))))

theorem execRegWrite_spares (l : List (Nat × Word)) (s : State) : Spares s (s.after (execRegWrite l s)) :=
  .ite (s.recordWrites_spares l) (.refl s)

theorem execRegRmw_spares (l : List (Nat × Word × Word)) (s : State) : Spares s (s.after (execRegRmw l s)) :=
  .ite (s.recordRmws_spares l) (.refl s)

theorem execTableLoad_spares (a : Nat) (l : List Word) (s : State) : Spares s (s.after (execTableLoad a l s)) :=
  .ite (s.recordWrites_spares _) (.refl s)

theorem execStartTimeout_spares (s : State) : Spares s (s.after (execStartTimeout s)) :=
  .ite (s.raiseStart_spares true) (.refl s)

theorem execRailResetLevel_spares (r : Fin 6) (mv : Nat) (s : State) : Spares s (s.after (execRailResetLevel r mv s)) := by
  unfold execRailResetLevel
  extract_lets n seen rst low
  have hlow : Spares s low := .of_aside (by simp [low, rst, seen, ↓State.aside_mk, ↓State.aside_fold])
  clear_value low rst seen n
  refine .ite (.refl s) (hlow.trans ?_)
  split
  · exact low.clockLost_spares 1
  · exact (low.clockLost_spares 2).trans (State.clockLost_spares _ 3)
  · exact low.porDown_spares
  · exact (Spares.of_aside low.outputsSafe_aside).trans (State.raiseHeld_spares _ (by decide) [])
  · exact low.raiseHeld_spares (by decide) []
  · exact low.raiseHeld_spares (by decide) []

theorem execScrCommitDone_spares (s : State) : Spares s (s.after (execScrCommitDone s)) :=
  .ite (.refl s) ((Spares.of_aside (by simp [↓State.aside_mk, ↓State.aside_fold])).trans (State.replayHeld_spares _ _))

theorem execNmCommitDone_spares (s : State) : Spares s (s.after (execNmCommitDone s)) := by
  unfold execNmCommitDone
  extract_lets held committed _ done
  have hdone : Spares s done := (Spares.of_aside (by simp [committed, ↓State.aside_mk, ↓State.aside_fold])).trans
      (State.replayHeld_spares _ _)
  exact .ite (.refl s) (.ite (hdone.trans (.of_aside (by simp))) hdone)

theorem execRegOpWrite_spares (a : Nat) (l : List Word) (s : State) : Spares s (s.after (execRegOpWrite a l s)) :=
  .ite ((s.writeWords_spares a l).trans (.of_aside (by simp))) (.of_aside (by simp))

theorem execRegOpRmw_spares (a : Nat) (m v : Word) (s : State) : Spares s (s.after (execRegOpRmw a m v s)) :=
  .ite ((s.rmw_spares a m v).trans (.of_aside (by simp))) (.of_aside (by simp))

theorem execRegisterWrite_spares (a : Nat) (w : Word) (s : State) : Spares s (s.after (execRegisterWrite a w s)) :=
  .ite (s.writeAddr_spares a w) (.refl s)

end Sys2Proof.Machine
end

section
/-! ## O59: the commands

The island's own commands leave the reset unit alone except RESET_MAIN; of the others, those of `mayReset` spare the island and
source 15, and the rest leave `State.aside` as it is. -/
namespace Sys2Proof.Machine

@[simp] theorem State.mapIsl_asked (s : State) (f : IslandSt → IslandSt) : (s.mapIsl f).aside.asked = s.aside.asked := rfl

@[simp] theorem State.islandEdge_asked (s : State) (a b : Bool) : (s.islandEdge a b).aside.asked = s.aside.asked := by
  unfold State.islandEdge
  extract_lets d turned seen moved
  split
  · rfl
  · split <;> rfl

@[simp] theorem State.audited_asked (s : State) (kind param old new : Nat) :
    (s.audited kind param old new).aside.asked = s.aside.asked := rfl

@[simp] theorem State.closeJob_asked (s : State) (powerLoss : Bool) : (s.closeJob powerLoss).aside.asked = s.aside.asked := by
  unfold State.closeJob
  split
  · rfl
  · rfl

@[simp] theorem State.openNewJob_asked (s : State) (jobId : Nat) : (s.openNewJob jobId).aside.asked = s.aside.asked := rfl

@[simp] theorem State.framCommit_asked (s : State) : s.framCommit.aside.asked = s.aside.asked := rfl

@[simp] theorem State.islandStart_asked (s : State) (romOk : Bool) : (s.islandStart romOk).aside.asked = s.aside.asked := by
  simp [State.islandStart]

@[simp] theorem State.restoreFram_asked (s : State) : s.restoreFram.aside.asked = s.aside.asked := by
  unfold State.restoreFram
  dsimp only
  split <;> rfl

@[simp] theorem State.mirror_asked (s : State) : s.mirror.aside.asked = s.aside.asked := by
  simp [State.mirror]

@[simp] theorem State.metAnswer_asked (s : State) (r : MetReq) (cmd status : Nat) (args : List Nat) :
    (s.metAnswer r cmd status args).aside.asked = s.aside.asked := by
  simp [State.metAnswer]

theorem State.metRequest_asked (s : State) (r : MetReq) (cmd : Nat) {run : State → State × Nat × List Nat}
    (h : ∀ t, (run t).1.aside.asked = t.aside.asked) :
    (s.after (.next (s.metRequest r cmd run))).aside.asked = s.aside.asked := by
  unfold State.metRequest State.after
  dsimp only
  split
  · rfl
  split
  · simp
  split
  · simp
  · simp [h]

theorem State.sealed_asked (s : State) (ok : Bool) {change : State → State}
    (h : ∀ t, (change t).aside.asked = t.aside.asked) : (s.sealed ok change).1.aside.asked = s.aside.asked := by
  unfold State.sealed
  repeat' split
  · rfl
  · rfl
  · rfl
  · exact h s

@[simp] theorem State.setRtc_asked (s : State) (time : Nat) : (s.setRtc time).aside.asked = s.aside.asked := rfl

@[simp] theorem State.setParam_asked (s : State) (id value : Nat) : (s.setParam id value).1.aside.asked = s.aside.asked := by
  unfold State.setParam
  split
  · exact s.sealed_asked _ (by simp)
  · exact s.sealed_asked _ (by simp)
  · exact s.sealed_asked _ (by simp)
  · exact s.sealed_asked _ (by simp)
  · rfl

@[simp] theorem execMetEncoderEdge_asked (a b : Bool) (s : State) : (s.after (execMetEncoderEdge a b s)).aside.asked = s.aside.asked := by
  simp [execMetEncoderEdge]

@[simp] theorem execTallyFrame_asked (seq jobId : Nat) (drops : List Nat) (um : Nat) (s : State) :
    (s.after (execTallyFrame seq jobId drops um s)).aside.asked = s.aside.asked := by
  simp only [execTallyFrame, State.after_next, State.aside_ite]
  split
  · rfl
  · split <;> rfl

@[simp] theorem execMirrorUpdate_asked (s : State) : (s.after (execMirrorUpdate s)).aside.asked = s.aside.asked := by
  simp [execMirrorUpdate, apply_ite Aside.asked]

@[simp] theorem execDivergenceCheck_asked (s : State) : (s.after (execDivergenceCheck s)).aside.asked = s.aside.asked := by
  simp only [execDivergenceCheck, State.after_next]
  split
  · rfl
  · split <;> rfl

@[simp] theorem execFramCommit_asked (s : State) : (s.after (execFramCommit s)).aside.asked = s.aside.asked := by
  simp [execFramCommit, apply_ite Aside.asked]

@[simp] theorem execMetPowerDown_asked (s : State) : (s.after (execMetPowerDown s)).aside.asked = s.aside.asked := by
  simp [execMetPowerDown, apply_ite Aside.asked]

@[simp] theorem execMetPowerUp_asked (romOk : Bool) (s : State) : (s.after (execMetPowerUp romOk s)).aside.asked = s.aside.asked := by
  simp [execMetPowerUp, apply_ite Aside.asked]

@[simp] theorem execMetWatchdogReset_asked (romOk : Bool) (s : State) :
    (s.after (execMetWatchdogReset romOk s)).aside.asked = s.aside.asked := by
  simp [execMetWatchdogReset, apply_ite Aside.asked]

@[simp] theorem execSealChange_asked (isOpen : Bool) (s : State) : (s.after (execSealChange isOpen s)).aside.asked = s.aside.asked := by
  simp [execSealChange, apply_ite Aside.asked]

@[simp] theorem execIdent_asked (r : MetReq) (s : State) : (s.after (execIdent r s)).aside.asked = s.aside.asked := by
  unfold execIdent
  exact s.metRequest_asked _ _ fun _ => rfl

@[simp] theorem execTotals_asked (r : MetReq) (s : State) : (s.after (execTotals r s)).aside.asked = s.aside.asked := by
  unfold execTotals
  exact s.metRequest_asked _ _ fun _ => rfl

@[simp] theorem execReadJob_asked (r : MetReq) (recNo : Nat) (s : State) :
    (s.after (execReadJob r recNo s)).aside.asked = s.aside.asked := by
  unfold execReadJob
  exact s.metRequest_asked _ _ fun t => by split <;> rfl

@[simp] theorem execReadAudit_asked (r : MetReq) (event : Nat) (s : State) :
    (s.after (execReadAudit r event s)).aside.asked = s.aside.asked := by
  unfold execReadAudit
  exact s.metRequest_asked _ _ fun t => by split <;> rfl

@[simp] theorem execAckJobs_asked (r : MetReq) (recNo : Nat) (s : State) :
    (s.after (execAckJobs r recNo s)).aside.asked = s.aside.asked := by
  unfold execAckJobs
  exact s.metRequest_asked _ _ fun t => by simp [apply_ite Prod.fst, apply_ite Aside.asked]

@[simp] theorem execAckAudit_asked (r : MetReq) (event : Nat) (s : State) :
    (s.after (execAckAudit r event s)).aside.asked = s.aside.asked := by
  unfold execAckAudit
  exact s.metRequest_asked _ _ fun t => by split <;> rfl

@[simp] theorem execJobStart_asked (r : MetReq) (jobId : Nat) (s : State) :
    (s.after (execJobStart r jobId s)).aside.asked = s.aside.asked := by
  unfold execJobStart
  exact s.metRequest_asked _ _ fun t => by dsimp only; split <;> simp

@[simp] theorem execJobEnd_asked (r : MetReq) (s : State) : (s.after (execJobEnd r s)).aside.asked = s.aside.asked := by
  unfold execJobEnd
  exact s.metRequest_asked _ _ fun t => by split <;> simp

@[simp] theorem execSetParam_asked (r : MetReq) (id value : Nat) (s : State) :
    (s.after (execSetParam r id value s)).aside.asked = s.aside.asked := by
  unfold execSetParam
  exact s.metRequest_asked _ _ fun t => t.setParam_asked _ _

@[simp] theorem execSetRtc_asked (r : MetReq) (time : Nat) (s : State) : (s.after (execSetRtc r time s)).aside.asked = s.aside.asked := by
  unfold execSetRtc
  exact s.metRequest_asked _ _ fun t => t.sealed_asked _ fun u => u.setRtc_asked _

@[simp] theorem execCalLen_asked (r : MetReq) (d c1 c2 tol : Nat) (s : State) :
    (s.after (execCalLen r d c1 c2 tol s)).aside.asked = s.aside.asked := by
  unfold execCalLen
  exact s.metRequest_asked _ _ fun t => t.sealed_asked _ fun u => (State.audited_asked ..).trans (u.mapIsl_asked _)

/-- Of the island's commands RESET_MAIN alone asks for a reset. -/
theorem exec_asked_of_island {c : Instr} (h : islandCommand c = true) (h' : ∀ r code, c ≠ .resetMain r code) (s : State) :
    (s.after (exec c s)).aside.asked = s.aside.asked := by
  cases c
  case resetMain r code => exact absurd rfl (h' r code)
  case metEncoderEdge | tallyFrame | mirrorUpdate | divergenceCheck | framCommit | metPowerDown | metPowerUp | metWatchdogReset
    | sealChange | ident | totals | readJob | readAudit | ackJobs | ackAudit | jobStart | jobEnd | setParam | setRtc | calLen =>
    unfold exec
    simp
  all_goals cases h

/-- The commands that ask for a reset, may lead to one, carry one out or end one. -/
def mayReset : Instr → Bool
  | .paceWatchdog _ | .spWatchdogReset _ | .fenceInAssert | .powerOnReset _ | .resetNAssert _ | .rstCmdLevel _ | .foothillClr _
  | .jtagReset | .thermalTrip _ | .twinResetCommand | .resetStretchEnd _ | .domainClkLost _ | .imageReadDone | .dramTrainingDone _
  | .regWrite _ | .regRmw _ | .tableLoad _ _ | .wait _ _ _ _ | .startTimeout | .railResetLevel _ _ | .mcUe _ | .scrCommitDone
  | .nmCommitDone | .faultHoldExpiry | .frameForward _ _ | .regOpWrite _ _ | .regOpRmw _ _ _ | .ringReset _ _ _ _ _
  | .registerWrite _ _ => true
  | _ => false

/-- No such command asks for the island's reset. -/
theorem exec_spares_of_mayReset {c : Instr} (h : mayReset c = true) (s : State) : Spares s (s.after (exec c s)) := by
  cases c
  case paceWatchdog => exact s.raiseSource_spares (by decide) _
  case spWatchdogReset => exact s.raiseSource_spares (by decide) _
  case fenceInAssert => exact execFenceInAssert_spares s
  case powerOnReset => exact execPowerOnReset_spares _ s
  case resetNAssert => exact execResetNAssert_spares _ s
  case rstCmdLevel => exact s.writeRstCmd_spares _
  case foothillClr => exact s.writeRstCmd_spares _
  case jtagReset => exact s.raiseSource_spares (by decide) _
  case thermalTrip => exact execThermalTrip_spares _ s
  case twinResetCommand => exact execTwinResetCommand_spares s
  case resetStretchEnd => exact s.stretchEnd_spares _
  case domainClkLost => exact s.clockLost_spares _
  case imageReadDone => exact execImageReadDone_spares s
  case dramTrainingDone => exact execDramTrainingDone_spares _ s
  case regWrite => exact execRegWrite_spares _ s
  case regRmw => exact execRegRmw_spares _ s
  case tableLoad => exact execTableLoad_spares _ _ s
  case wait => exact execWait_spares _ _ _ _ s
  case startTimeout => exact execStartTimeout_spares s
  case railResetLevel => exact execRailResetLevel_spares _ _ s
  case mcUe => exact s.uncorrectable_spares _
  case scrCommitDone => exact execScrCommitDone_spares s
  case nmCommitDone => exact execNmCommitDone_spares s
  case faultHoldExpiry => exact s.faultDue_spares
  case frameForward => exact s.receiveFrame_spares _ _
  case regOpWrite => exact execRegOpWrite_spares _ _ s
  case regOpRmw => exact execRegOpRmw_spares _ _ _ s
  case ringReset => exact s.ringReset_spares _ _ _ _ _ _
  case registerWrite => exact execRegisterWrite_spares _ _ s
  all_goals cases h

/-- Every other command of the main die leaves the island and what is asked of the reset unit as they were. -/
theorem exec_aside {c : Instr} (h : islandCommand c = false) (h' : mayReset c = false) (s : State) :
    (s.after (exec c s)).aside = s.aside := by
  cases c
  case metEncoderEdge | tallyFrame | mirrorUpdate | divergenceCheck | framCommit | metPowerDown | metPowerUp | metWatchdogReset
    | sealChange | ident | totals | readJob | readAudit | ackJobs | ackAudit | jobStart | jobEnd | setParam | setRtc | resetMain
    | calLen => cases h
  case paceWatchdog | spWatchdogReset | fenceInAssert | powerOnReset | resetNAssert | rstCmdLevel | foothillClr | jtagReset
    | thermalTrip | twinResetCommand | resetStretchEnd | domainClkLost | imageReadDone | dramTrainingDone | regWrite | regRmw
    | tableLoad | wait | startTimeout | railResetLevel | mcUe | scrCommitDone | nmCommitDone | faultHoldExpiry | frameForward
    | regOpWrite | regOpRmw | ringReset | registerWrite => cases h'
  all_goals
    unfold exec
    simp

/-- A command of the main die spares the island and source 15: it asks for a reset of its own, or for none. -/
theorem exec_spares {c : Instr} (h : islandCommand c = false) (s : State) : Spares s (s.after (exec c s)) := by
  cases hreset : mayReset c with
  | true => exact exec_spares_of_mayReset hreset s
  | false => exact .of_aside (exec_aside h hreset s)

/-- Settles O59: what the main die does leaves `State.aside` alone or asks for a reset of another source than 15 (`Spares`), and of
the island's own commands RESET_MAIN alone asks for one. -/
theorem mainDieNeverResetsTheIsland : Obligations.MainDieNeverResetsTheIsland := by
  unfold Obligations.MainDieNeverResetsTheIsland
  refine ⟨fun c s t hc ht => ?_, fun src lvl targets timeout s => (s.raiseAt_asksFor src lvl targets timeout).1,
    fun c s t hc ht none15 unheld => ?_⟩
  all_goals obtain rfl : s.after (exec c s) = t := by rw [ht, State.after_next]
  · exact (exec_spares hc s).1
  · cases hisland : islandCommand c with
    | true =>
      have kept : (s.after (exec c s)).rst.sources = s.rst.sources := congrArg Prod.fst (exec_asked_of_island hisland hc s)
      exact kept ▸ none15
    | false => exact ((exec_spares hisland s).2 none15 unheld).1

end Sys2Proof.Machine
end

section
/-! ## RST_CMD (R42, R57, R61): O10 and O11 -/
namespace Sys2Proof.Machine

/-- Foothill mode with a start in progress. -/
def startingInFoothill : State :=
  { Tests.foothillDev with rst := { Tests.foothillDev.rst with starting := true } }

theorem startingInFoothill_ready : startingInFoothill.rst.stretch = false ∧ startingInFoothill.twin.faultHold = none ∧
    startingInFoothill.get RstStatus.state 0 = 3 := by decide

/-- The counter is cleared first; then the reset ends the start that was in progress, which counts as failed (R57). -/
theorem foothillClr_counts_start :
    (startingInFoothill.after (exec (.foothillClr 0x7128E000) startingInFoothill)).get RstStart.failcnt 0 = 1 := by decide +kernel

/-- Refutes O11: where a start is in progress in Foothill mode, FOOTHILL_CLR leaves the failed-start counter at 1, as its own reset
makes that start a failed one. The model's own way into Foothill mode ends a start first; the statement does not ask for that. -/
theorem not_resetCommandRaisesSource : ¬ Obligations.ResetCommandRaisesSource := by
  unfold Obligations.ResetCommandRaisesSource
  rintro ⟨-, foothill⟩
  obtain ⟨hstretch, hhold, hstate⟩ := startingInFoothill_ready
  obtain ⟨t, ht, -, -, -, -, hcleared⟩ :=
    foothill 0x7128E000 startingInFoothill hstretch hhold hstate (by decide) (by decide) (by decide)
  have hcounted := foothillClr_counts_start
  rw [ht] at hcounted
  exact absurd (hcounted.symm.trans hcleared) Nat.one_ne_zero

theorem keyOk_iff (value : Word) : keyOk value = true ↔ value.toNat / 65536 = 0x7128 := by
  simp [keyOk]

/-- CLASS and INST of a written value as its bits (R61). -/
theorem rstCmd_class (value : Word) : RstCmd.class_.of value = value.toNat / 4 % 8 := rfl

theorem rstCmd_inst (value : Word) : RstCmd.inst.of value = value.toNat / 32 % 256 := rfl

theorem classSize_eq (c : Nat) : classSize c = [128, 8, 4, 16, 176, 4].getD c 0 := by
  match c with
  | 0 | 1 | 2 | 3 | 4 | 5 => rfl
  | n + 6 => rfl

/-- A write of RST_CMD with a wrong KEY or without a target (R61). -/
theorem State.writeRstCmd_rejected (s : State) {value : Word}
    (h : keyOk value = false ∨ classSize (RstCmd.class_.of value) ≤ RstCmd.inst.of value) :
    s.writeRstCmd value = s.record .rstCmdReject 0 [a32 value.toNat] := by
  unfold State.writeRstCmd
  exact if_pos (h.imp_left fun wrong => by simp [wrong])

/-- Settles O10: a reserved CLASS has no unit, so each of the three cases is the one that `writeRstCmd` rejects. -/
theorem rejectedResetCommandHasNoEffect : Obligations.RejectedResetCommandHasNoEffect := by
  unfold Obligations.RejectedResetCommandHasNoEffect
  intro value s h
  have rejected : keyOk value = false ∨ classSize (RstCmd.class_.of value) ≤ RstCmd.inst.of value := by
    rw [← Bool.not_eq_true, keyOk_iff, classSize_eq, rstCmd_class, rstCmd_inst]
    refine h.imp_right fun h => h.elim (fun reserved => ?_) id
    rw [List.getD_eq_default _ _ (by simpa using reserved)]
    exact Nat.zero_le _
  exact ⟨congrArg Host.Outcome.next (s.writeRstCmd_rejected rejected), congrArg Host.Outcome.next (s.writeRstCmd_rejected rejected)⟩

end Sys2Proof.Machine
end

section
/-! ## What a reset keeps of the registers (R47, R542) -/
namespace Sys2Proof.Machine

theorem Fld.key_reg {f : Fld} (h : f.lo < 32) (i : Nat) : f.key i / 32 % 512 = f.reg.ctorIdx := by
  have := f.reg.ctorIdx_lt
  unfold Fld.key
  omega

theorem Tab.find_keepRegs (l : List Reg) (t : Tab Nat) (k : Nat) :
    Tab.find (keepRegs l t) k = if l.any (fun r => r.ctorIdx == k / 32 % 512) then Tab.find t k else none := by
  induction t with
  | nil => simp [keepRegs, Tab.find]
  | cons e t ih =>
    unfold keepRegs at ih ⊢
    rw [List.filter_cons]
    obtain ⟨k', v⟩ := e
    split
    next kept =>
      unfold Tab.find
      rw [ih]
      by_cases hk : k' = k
      · subst hk
        rw [if_pos rfl, if_pos rfl, if_pos kept]
      · rw [if_neg hk, if_neg hk]
    next dropped =>
      rw [ih]
      split
      next kept =>
        have hk : k' ≠ k := by
          rintro rfl
          exact dropped kept
        rw [Tab.find, if_neg hk]
      next => rfl

/-- A register that is kept reads as it did, any other as at its reset. -/
theorem Tab.get_keepRegs (d : Nat) (l : List Reg) (t : Tab Nat) {f : Fld} (h : f.lo < 32) (i : Nat) :
    Tab.get d (keepRegs l t) (f.key i) = if l.any (fun r => r.ctorIdx == f.reg.ctorIdx) then Tab.get d t (f.key i) else d := by
  rw [Tab.get, Tab.find_keepRegs, Fld.key_reg h]
  split <;> rfl

theorem Tab.find_merge {a b : Tab Nat} {k : Nat} (h : ∀ e ∈ b, e.1 ≠ k) : Tab.find (Tab.merge a b) k = Tab.find a k := by
  unfold Tab.merge
  induction b generalizing a with
  | nil => rfl
  | cons e b ih =>
    rw [List.foldl_cons, ih fun x hx => h x (List.mem_cons_of_mem _ hx), Tab.find_insert, if_neg (h e List.mem_cons_self)]

/-- Registers that are written over others leave the rest of these alone. -/
theorem Tab.get_merge_keepRegs (d : Nat) (a t : Tab Nat) {l : List Reg} {f : Fld} (h : f.lo < 32)
    (away : l.any (fun r => r.ctorIdx == f.reg.ctorIdx) = false) (i : Nat) :
    Tab.get d (Tab.merge a (keepRegs l t)) (f.key i) = Tab.get d a (f.key i) := by
  unfold Tab.get
  rw [Tab.find_merge]
  intro e he hk
  have kept := (List.mem_filter.mp he).2
  rw [hk, Fld.key_reg h, away] at kept
  exact absurd kept Bool.false_ne_true

/-- What `cold` and `warm` write themselves, and the registers that `warm` keeps beside the retained ones. -/
def resetWrites : List Fld := [CfgStatus.fuseLock, CfgStatus.sigReq, RstStatus.state, McStat.degraded]
def warmRegs : List Reg := [.monRail, .mcSpare, .pgNextLo, .pgNextHi, .pgDoneLo, .pgDoneHi]

/-- A field of RST_STATUS but STATE, of RST_START, of RST_HIST or of the fuse map: every reset keeps it (R542). -/
def Fld.survives (f : Fld) : Bool :=
  retained.any (fun r => r.ctorIdx == f.reg.ctorIdx) && !warmRegs.any (fun r => r.ctorIdx == f.reg.ctorIdx) &&
    resetWrites.all (fun g => g.apart f)

theorem Fld.survives_iff {f : Fld} : f.survives = true ↔ retained.any (fun r => r.ctorIdx == f.reg.ctorIdx) = true ∧
    warmRegs.any (fun r => r.ctorIdx == f.reg.ctorIdx) = false ∧ ∀ g ∈ resetWrites, g.apart f = true := by
  simp [Fld.survives, and_assoc]

theorem Fld.apart_lo {f g : Fld} (h : g.apart f = true) : f.lo < 32 := by
  simp only [Fld.apart, Bool.and_eq_true, decide_eq_true_eq] at h
  exact h.1.2

theorem State.get_cold (s : State) {f : Fld} (h : f.survives = true) (i : Nat) : s.cold.get f i = s.get f i := by
  obtain ⟨kept, -, apart⟩ := Fld.survives_iff.mp h
  have lo := Fld.apart_lo (apart RstStatus.state (by decide))
  unfold State.cold
  dsimp only
  rw [State.get_put_ne _ (apart _ (by decide)), State.get_put_ne _ (apart _ (by decide)), State.get_put_ne _ (apart _ (by decide))]
  simp only [State.get, List.append_nil, Tab.get_keepRegs _ _ _ lo, kept, if_true]

theorem State.get_merge_warm (s : State) {l : List Reg} (hl : ∀ r ∈ l, r ∈ warmRegs) (t : Tab Nat) {f : Fld} (h : f.survives = true)
    (i : Nat) : ({ s with regs := Tab.merge s.regs (keepRegs l t) }).get f i = s.get f i := by
  obtain ⟨-, away, apart⟩ := Fld.survives_iff.mp h
  have away' : l.any (fun r => r.ctorIdx == f.reg.ctorIdx) = false := by
    rw [List.any_eq_false] at away ⊢
    exact fun r hr => away r (hl r hr)
  have lo := Fld.apart_lo (apart RstStatus.state (by decide))
  simp only [State.get, Tab.get_merge_keepRegs _ _ _ lo away']

theorem State.get_warm (s : State) {f : Fld} (h : f.survives = true) (i : Nat) : s.warm.get f i = s.get f i := by
  obtain ⟨-, -, apart⟩ := Fld.survives_iff.mp h
  unfold State.warm
  extract_lets cold _ _ loaded marked
  have hmarked : marked.get f i = s.get f i := by
    dsimp only [marked]
    rw [State.get_put_ne _ (apart _ (by decide))]
    exact (State.get_merge_warm cold (by decide) s.regs h i).trans (s.get_cold h i)
  split
  · exact (State.get_merge_warm marked (by decide) s.regs h i).trans hmarked
  · exact hmarked

end Sys2Proof.Machine
end

section
/-! ## The time limit of a start (R57): O16 -/
namespace Sys2Proof.Machine

/-- A stretch at L0 or L1 that a source has begun by its timeout, after which no start is in progress. -/
def StartReset (src : Nat) (t : State) : Prop :=
  t.rst.stretch = true ∧ t.rst.level ≤ 1 ∧ t.rst.sources.contains src = true ∧ t.rst.timeout = true ∧ t.rst.starting = false

theorem State.warm_starting (s : State) : s.warm.rst.starting = false := by
  unfold State.warm
  dsimp only
  split
  · rfl
  · rfl

theorem State.applyReset_start (s : State) (hstretch : s.rst.stretch = false) {lvl : Nat} (hlvl : lvl ≤ 1) (src : Nat)
    (targets : List (Nat × Nat)) : StartReset src (s.applyReset lvl [src] targets true) ∧
      ∀ f i, f.survives = true → (s.applyReset lvl [src] targets true).get f i = s.get f i := by
  obtain rfl | rfl : lvl = 0 ∨ lvl = 1 := by omega
  · simp only [State.applyReset, hstretch, StartReset]
    refine ⟨⟨trivial, Nat.zero_le 1, by simp, by simp, rfl⟩, fun f i h => s.get_cold h i⟩
  · simp only [State.applyReset, hstretch, StartReset]
    refine ⟨⟨trivial, Nat.le_refl 1, by simp, by simp, s.warm_starting⟩, fun f i h => s.get_warm h i⟩

/-- The counter of failed starts saturates at 3 (R57). -/
theorem State.failStart_failcnt (s : State) (h : s.rst.starting = true) :
    (s.failStart 12).get RstStart.failcnt 0 = min 3 (s.get RstStart.failcnt 0 + 1) := by
  unfold State.failStart
  rw [if_pos (by simp [h])]
  exact s.get_put_of_lt RstStart.failcnt 0 (by simp only [RstStart.failcnt]; omega)

/-- A reset at L0 or L1 outside a stretch is carried out at once, with the one that is held back where there is one (R46). -/
theorem State.raiseAt_start (s : State) (hstretch : s.rst.stretch = false) {lvl : Nat} (hlvl : lvl ≤ 1) (src : Nat) :
    ∃ (t : State) (lvl' : Nat) (targets : List (Nat × Nat)), s.raiseAt src lvl [] true = t.applyReset lvl' [src] targets true ∧
      lvl' ≤ 1 ∧ t.rst.stretch = false ∧ t.regs = (s.failStart src).regs := by
  obtain ⟨hstretch', -, -, -⟩ := s.failStart_frame src
  rw [hstretch] at hstretch'
  unfold State.raiseAt
  extract_lets st _ failed lvl' _ _ reported
  have hfailed : failed = s.failStart src := if_pos (by omega)
  have hregs : failed.regs = (s.failStart src).regs := by rw [hfailed]
  have idle : failed.rst.stretch = false := by rw [hfailed, hstretch']
  have hlvl' : lvl' ≤ 1 := by
    dsimp only [lvl']
    split <;> omega
  have passes : printTargets lvl' [] = false := by
    simp [printTargets]
    omega
  rw [if_neg (by simp [hstretch]), if_neg (by omega), if_neg (by simp [passes])]
  split
  next q l ts held => exact ⟨failed, _, _, rfl, by omega, idle, hregs⟩
  next => exact ⟨_, _, _, rfl, hlvl', idle, hregs⟩

theorem State.raiseStart_timeout (s : State) (hstarting : s.rst.starting = true) (hstretch : s.rst.stretch = false) :
    StartReset 12 (s.raiseStart true) ∧ (s.raiseStart true).get RstStart.failcnt 0 = min 3 (s.get RstStart.failcnt 0 + 1) := by
  have hlvl : (if s.fuseLevel 12 = 0 then 0 else 1) ≤ 1 := by split <;> omega
  obtain ⟨t, lvl', targets, hreset, hlvl', hstretch', hregs⟩ := s.raiseAt_start hstretch hlvl 12
  obtain ⟨begun, kept⟩ := t.applyReset_start hstretch' hlvl' 12 targets
  unfold State.raiseStart
  rw [hreset, kept _ 0 (by decide), ← s.failStart_failcnt hstarting]
  exact ⟨begun, by rw [State.get, State.get, hregs]⟩

/-- Settles O16: whether a reset is held back or not, the time limit's own is carried out at L0 or L1, which keep RST_START. -/
theorem failedStartsAreCounted : Obligations.FailedStartsAreCounted := by
  unfold Obligations.FailedStartsAreCounted
  refine ⟨fun s hstarting hstretch => ?_, fun s hrun => ?_⟩
  · obtain ⟨⟨hbegun, hlevel, hsource, htimeout, hended⟩, hcount⟩ := s.raiseStart_timeout hstarting hstretch
    exact ⟨_, congrArg Host.Outcome.next (if_pos (by simp [hstarting, hstretch])), hbegun, hlevel, hsource, htimeout, hended, hcount⟩
  · exact ⟨_, congrArg Host.Outcome.next (if_pos hrun), rfl, State.get_put_self .., .put s 0 0 (by decide) (by decide)⟩

end Sys2Proof.Machine
end

section
/-! ## The power-on reset (R47, R533): O12 -/
namespace Sys2Proof.Machine

/-- What the power-on reset leaves of the registers before it writes back the fuses that CFG_STATUS shows. -/
theorem State.get_porDown (s : State) {f : Fld} (lock : CfgStatus.fuseLock.apart f = true) (sig : CfgStatus.sigReq.apart f = true)
    (i : Nat) : s.porDown.get f i =
      if [Reg.rstFuseMap].any (fun r => r.ctorIdx == f.reg.ctorIdx) then s.cold.get f i else f.resetAt i % 2 ^ f.width := by
  unfold State.porDown
  dsimp only
  rw [State.get_put_ne _ sig, State.get_put_ne _ lock]
  simp only [State.get, Tab.get_keepRegs _ _ _ (Fld.apart_lo sig)]
  split <;> rfl

/-- The registers that power retains lose what they showed (R47, R533). -/
theorem State.get_porDown_reset (s : State) {f : Fld} (other : [Reg.rstFuseMap].any (fun r => r.ctorIdx == f.reg.ctorIdx) = false)
    (lock : CfgStatus.fuseLock.apart f = true) (sig : CfgStatus.sigReq.apart f = true) (i : Nat) :
    s.porDown.get f i = f.resetAt i % 2 ^ f.width := by
  rw [s.get_porDown lock sig, other]
  exact if_neg Bool.false_ne_true

/-- The fuses read as they did. -/
theorem State.get_porDown_fuseMap (s : State) {f : Fld} (h : f ∈ Reg.rstFuseMap.fields) : s.porDown.get f 0 = s.get f 0 := by
  have mapped : ∀ f ∈ Reg.rstFuseMap.fields, CfgStatus.fuseLock.apart f = true ∧ CfgStatus.sigReq.apart f = true ∧
      [Reg.rstFuseMap].any (fun r => r.ctorIdx == f.reg.ctorIdx) = true ∧ f.survives = true := by decide
  obtain ⟨lock, sig, fuse, survives⟩ := mapped f h
  rw [s.get_porDown lock sig, if_pos fuse, s.get_cold survives]

theorem State.get_porDown_fuseLock (s : State) : s.porDown.get CfgStatus.fuseLock 0 = s.get CfgStatus.fuseLock 0 := by
  unfold State.porDown
  dsimp only
  rw [State.get_put_ne _ (by decide), State.get_put_of_lt _ _ _ (s.get_lt _ _)]

theorem contains_filter_ne (l : List Nat) (k n : Nat) (h : n ≠ k) : (l.filter (fun m => m != k)).contains n = l.contains n := by
  rw [Bool.eq_iff_iff]
  simp [h]

/-- Settles O12: a power-on reset is an L0 reset after which the retained registers but the fuse map are dropped as well. -/
theorem powerOnResetClearsRetention : Obligations.PowerOnResetClearsRetention := by
  unfold Obligations.PowerOnResetClearsRetention
  refine ⟨fun s => ⟨s.porDown, rfl, by simp [State.porDown], rfl, rfl, rfl, rfl, rfl, rfl, rfl, rfl, rfl, rfl, ?_, fun n => ?_, ?_, rfl,
    fun f => s.get_porDown_fuseMap, s.get_porDown_fuseLock⟩, fun s => ⟨s.porUp, rfl, ?_⟩⟩
  · exact s.get_porDown_reset (by decide) (by decide) (by decide) 0
  · exact s.get_porDown_reset (by decide) (by decide) (by decide) n
  · exact s.get_porDown_reset (by decide) (by decide) (by decide) 0
  · unfold State.porUp
    dsimp only
    have gone : (s.releaseSource 0).rst.active.contains 0 = false := by simp [State.releaseSource]
    have kept (n : Nat) (h : n ≠ 0) : (s.releaseSource 0).rst.active.contains n = s.rst.active.contains n :=
      contains_filter_ne _ 0 n h
    split
    · exact ⟨gone, kept, rfl, rfl⟩
    · exact ⟨gone, kept, rfl, rfl⟩

end Sys2Proof.Machine
end

section
/-! ## What leaves the reset unit and its registers alone

`State.resetUnit` holds RST_STATUS, RST_START, RST_HIST, MON_RAIL, the state of the reset unit and RESET_N. The operations by which the
print path, the lanes and the ports go down and come up again leave it as it is: one lemma each, in the order of the model's files. -/
namespace Sys2Proof.Machine

/-- The registers in which the reset unit and the rail monitors keep what they show. -/
def resetRegs : List Reg := [.rstStatus, .rstStart, .rstHist, .monRail]

/-- A field of another register. -/
def Fld.outside (f : Fld) : Bool := decide (f.lo < 32) && !resetRegs.any (fun r => r.ctorIdx == f.reg.ctorIdx)

/-- What the reset unit holds and shows. -/
structure ResetUnit where
  /-- the registers of `resetRegs` -/
  regs : Tab Nat
  /-- the state of the reset unit -/
  rst : ResetSt
  /-- RESET_N -/
  resetN : Bool

/-- The part of the state that is the reset unit's. -/
def State.resetUnit (s : State) : ResetUnit := ⟨keepRegs resetRegs s.regs, s.rst, s.pins.resetN⟩

/-- Read off a state whose fields are written out, as `State.aside_mk` does. -/
theorem State.resetUnit_mk (now ft pins regs force snap rst img ev sps sent colTx freeCtr lanes linkUp ingest pages lastPlan digestWait
    codec dram scr ff fpe ports posn loop ins light mot mc twin net ptp met tally cal hmWait aborts pending) :
    State.resetUnit ⟨now, ft, pins, regs, force, snap, rst, img, ev, sps, sent, colTx, freeCtr, lanes, linkUp, ingest, pages, lastPlan,
      digestWait, codec, dram, scr, ff, fpe, ports, posn, loop, ins, light, mot, mc, twin, net, ptp, met, tally, cal, hmWait, aborts,
      pending⟩ = ⟨keepRegs resetRegs regs, rst, pins.resetN⟩ := by
  simp only [State.resetUnit]

theorem State.resetUnit_fold (s : State) : ResetUnit.mk (keepRegs resetRegs s.regs) s.rst s.pins.resetN = s.resetUnit := by
  simp only [State.resetUnit]

@[simp] theorem foldl_resetUnit {α : Type} {f : State → α → State} (h : ∀ t x, (f t x).resetUnit = t.resetUnit) (l : List α)
    (s : State) : (l.foldl f s).resetUnit = s.resetUnit :=
  foldl_keeps State.resetUnit h l s

@[simp] theorem State.resetUnit_ite (c : Prop) [Decidable c] (s t : State) :
    (if c then s else t).resetUnit = if c then s.resetUnit else t.resetUnit :=
  apply_ite State.resetUnit c s t

/-- An entry that the filter drops may be put into a table or taken out unseen. -/
theorem filter_insert {α : Type} {p : Nat × α → Bool} {k : Nat} (hk : ∀ v, p (k, v) = false) (v : α) (t : Tab α) :
    (Tab.insert k v t).filter p = t.filter p := by
  induction t with
  | nil => simp [Tab.insert, hk]
  | cons e t ih =>
    unfold Tab.insert
    split
    · simp [hk]
    · split
      · subst k
        simp [hk]
      · simp [List.filter_cons, ih]

theorem filter_erase {α : Type} {p : Nat × α → Bool} {k : Nat} (hk : ∀ v, p (k, v) = false) (t : Tab α) :
    (Tab.erase k t).filter p = t.filter p := by
  induction t with
  | nil => rfl
  | cons e t ih =>
    unfold Tab.erase
    split
    · subst k
      simp [hk, ih]
    · simp [List.filter_cons, ih]

/-- A write of another register is not seen in the ones that are kept. -/
theorem keepRegs_set {f : Fld} (h : f.outside = true) (d : Nat) (t : Tab Nat) (i v : Nat) :
    keepRegs resetRegs (Tab.set d t (f.key i) v) = keepRegs resetRegs t := by
  simp only [Fld.outside, Bool.and_eq_true, decide_eq_true_eq, Bool.not_eq_true'] at h
  obtain ⟨hlo, hout⟩ := h
  have away : ∀ w : Nat, resetRegs.any (fun r => r.ctorIdx == (f.key i, w).1 / 32 % 512) = false := fun w => by
    rw [Fld.key_reg hlo]
    exact hout
  unfold keepRegs Tab.set
  split
  · exact filter_erase away t
  · exact filter_insert away v t

@[simp] theorem State.put_resetUnit (s : State) {f : Fld} (h : f.outside = true) (i v : Nat) : (s.put f i v).resetUnit = s.resetUnit := by
  simp only [State.resetUnit, State.put, keepRegs_set h]

/-! ### `Machine/Ops` -/

@[simp] theorem State.put64_resetUnit (s : State) {lo hi : Fld} (hlo : lo.outside = true) (hhi : hi.outside = true) (i v : Nat) :
    (s.put64 lo hi i v).resetUnit = s.resetUnit :=
  (State.put_resetUnit _ hhi i _).trans (s.put_resetUnit hlo i _)

@[simp] theorem State.putInt_resetUnit (s : State) {f : Fld} (h : f.outside = true) (i : Nat) (v : Int) :
    (s.putInt f i v).resetUnit = s.resetUnit :=
  s.put_resetUnit h i _

@[simp] theorem State.loseRecord_resetUnit (s : State) (n : Nat) : (s.loseRecord n).resetUnit = s.resetUnit := by
  simp (disch := decide) [State.loseRecord, ↓State.resetUnit_mk, ↓State.resetUnit_fold]

@[simp] theorem State.spill_resetUnit (s : State) (r : EvRec) : (s.spill r).resetUnit = s.resetUnit := by
  simp (disch := decide) [State.spill, ↓State.resetUnit_mk, ↓State.resetUnit_fold]

@[simp] theorem State.toTail_resetUnit (s : State) (r : EvRec) : (s.toTail r).resetUnit = s.resetUnit := by
  simp [State.toTail, ↓State.resetUnit_mk, ↓State.resetUnit_fold]

@[simp] theorem State.enqueue_resetUnit (s : State) (r : EvRec) : (s.enqueue r).resetUnit = s.resetUnit := by
  simp [State.enqueue, ↓State.resetUnit_mk, ↓State.resetUnit_fold]

@[simp] theorem State.record_resetUnit (s : State) (code : EvCode) (inst : Nat) (args : List EvArg) :
    (s.record code inst args).resetUnit = s.resetUnit := by
  simp [State.record]

@[simp] theorem State.countBy_resetUnit (s : State) {c ovf : Fld} (hc : c.outside = true) (hovf : ovf.outside = true) (i k : Nat) :
    (s.countBy c ovf i k).resetUnit = s.resetUnit := by
  simp [State.countBy, hc, hovf]

@[simp] theorem State.count_resetUnit (s : State) {c ovf : Fld} (hc : c.outside = true) (hovf : ovf.outside = true) (i : Nat) :
    (s.count c ovf i).resetUnit = s.resetUnit :=
  s.countBy_resetUnit hc hovf i 1

@[simp] theorem State.abortEnd_resetUnit (s : State) (fn inst : Nat) : (s.abortEnd fn inst).resetUnit = s.resetUnit := by
  unfold State.abortEnd
  repeat' split
  all_goals simp [↓State.resetUnit_mk, ↓State.resetUnit_fold]

@[simp] theorem State.send_resetUnit (s : State) (o : Out) : (s.send o).resetUnit = s.resetUnit := by
  simp [State.send, ↓State.resetUnit_mk, ↓State.resetUnit_fold]

@[simp] theorem State.sendCol_resetUnit (s : State) (typ : Nat) (args : List Nat) : (s.sendCol typ args).resetUnit = s.resetUnit := by
  simp [State.sendCol, ↓State.resetUnit_mk, ↓State.resetUnit_fold]

@[simp] theorem State.setUnfit_resetUnit (s : State) (bit : Nat) (on : Bool) : (s.setUnfit bit on).resetUnit = s.resetUnit := by
  simp (disch := decide) [State.setUnfit]

@[simp] theorem State.safeOutputs_resetUnit (s : State) : s.safeOutputs.resetUnit = s.resetUnit := by
  simp [State.safeOutputs, ↓State.resetUnit_mk, ↓State.resetUnit_fold]

@[simp] theorem State.safeAxis_resetUnit (s : State) (n : Nat) : (s.safeAxis n).resetUnit = s.resetUnit := by
  simp [State.safeAxis, ↓State.resetUnit_mk, ↓State.resetUnit_fold]

@[simp] theorem State.safeCam_resetUnit (s : State) (n : Nat) : (s.safeCam n).resetUnit = s.resetUnit := by
  simp [State.safeCam, ↓State.resetUnit_mk, ↓State.resetUnit_fold]

/-! ### `Machine/AxisOps` -/

@[simp] theorem State.setAxis_resetUnit (s : State) (n : Nat) (x : Axis) : (s.setAxis n x).resetUnit = s.resetUnit := by
  simp [State.setAxis, ↓State.resetUnit_mk, ↓State.resetUnit_fold]

@[simp] theorem State.mapAxis_resetUnit (s : State) (n : Nat) (f : Axis → Axis) : (s.mapAxis n f).resetUnit = s.resetUnit := by
  simp [State.mapAxis]

@[simp] theorem State.axState_resetUnit (s : State) (n : Nat) : (s.axState n).resetUnit = s.resetUnit := by
  simp (disch := decide) [State.axState]

@[simp] theorem State.driveAxis_resetUnit (s : State) (n : Nat) : (s.driveAxis n).resetUnit = s.resetUnit := by
  simp [State.driveAxis, ↓State.resetUnit_mk, ↓State.resetUnit_fold]

@[simp] theorem State.haltAxis_resetUnit (s : State) (n : Nat) : (s.haltAxis n).resetUnit = s.resetUnit := by
  simp [State.haltAxis]

@[simp] theorem State.stopped_resetUnit (s : State) (n : Nat) : (s.stopped n).resetUnit = s.resetUnit := by
  unfold State.stopped
  dsimp only
  split <;> simp

@[simp] theorem State.beginStop_resetUnit (s : State) (n how : Nat) : (s.beginStop n how).resetUnit = s.resetUnit := by
  simp [State.beginStop]

/-! ### `Machine/Axis` -/

@[simp] theorem State.dropRun_resetUnit (s : State) (n : Nat) : (s.dropRun n).resetUnit = s.resetUnit := by
  simp [State.dropRun]

@[simp] theorem State.safetyStop_resetUnit (s : State) (n : Nat) : (s.safetyStop n).resetUnit = s.resetUnit := by
  simp (disch := decide) [State.safetyStop]

@[simp] theorem State.axisOn_resetUnit (s : State) (n : Nat) : (s.axisOn n).resetUnit = s.resetUnit := by
  simp (disch := decide) [State.axisOn]

/-! ### `Machine/NetOps` -/

@[simp] theorem State.mapNet_resetUnit (s : State) (f : NetSt → NetSt) : (s.mapNet f).resetUnit = s.resetUnit := by
  simp [State.mapNet, ↓State.resetUnit_mk, ↓State.resetUnit_fold]

/-! ### `Machine/LaneOps` -/

@[simp] theorem State.setLane_resetUnit (s : State) (n : Nat) (l : Lane) : (s.setLane n l).resetUnit = s.resetUnit := by
  simp [State.setLane, ↓State.resetUnit_mk, ↓State.resetUnit_fold]

@[simp] theorem State.dropLock_resetUnit (s : State) (n : Nat) : (s.dropLock n).resetUnit = s.resetUnit := by
  simp (disch := decide) [State.dropLock]

/-! ### `Machine/PageOps` -/

@[simp] theorem State.mapPage_resetUnit (s : State) (pseq : Nat) (f : Page → Page) : (s.mapPage pseq f).resetUnit = s.resetUnit := by
  simp [State.mapPage, ↓State.resetUnit_mk, ↓State.resetUnit_fold]

@[simp] theorem State.setPgNext_resetUnit (s : State) (v : Nat) : (s.setPgNext v).resetUnit = s.resetUnit := by
  simp (disch := decide) [State.setPgNext]

@[simp] theorem State.admitPage_resetUnit (s : State) (pseq : Nat) : (s.admitPage pseq).resetUnit = s.resetUnit := by
  simp [State.admitPage]

@[simp] theorem State.tryAdmit_resetUnit (s : State) (pseq : Nat) : (s.tryAdmit pseq).resetUnit = s.resetUnit := by
  unfold State.tryAdmit
  split <;> simp

@[simp] theorem State.makeTrailer_resetUnit (s : State) (p : Page) : (s.makeTrailer p).resetUnit = s.resetUnit := by
  simp [State.makeTrailer, ↓State.resetUnit_mk, ↓State.resetUnit_fold]

/-! ### `Machine/CalOps` -/

@[simp] theorem State.calEnd_resetUnit (s : State) : s.calEnd.resetUnit = s.resetUnit := by
  simp (disch := decide) [State.calEnd, ↓State.resetUnit_mk, ↓State.resetUnit_fold]

@[simp] theorem State.calAbandon_resetUnit (s : State) : s.calAbandon.resetUnit = s.resetUnit := by
  simp (disch := decide) [State.calAbandon]

@[simp] theorem State.calWatch_resetUnit (s : State) : s.calWatch.resetUnit = s.resetUnit := by
  simp [State.calWatch]

/-! ### `Machine/Lanes` -/

@[simp] theorem State.sendLane_resetUnit (s : State) (n kind : Nat) : (s.sendLane n kind).resetUnit = s.resetUnit := by
  simp [State.sendLane]

@[simp] theorem State.wakeLane_resetUnit (s : State) (n : Nat) : (s.wakeLane n).resetUnit = s.resetUnit := by
  simp (disch := decide) [State.wakeLane]

@[simp] theorem State.wakeOrWait_resetUnit (s : State) (n : Nat) : (s.wakeOrWait n).resetUnit = s.resetUnit := by
  unfold State.wakeOrWait
  dsimp only
  split <;> simp

@[simp] theorem State.requestWake_resetUnit (s : State) (n : Nat) : (s.requestWake n).resetUnit = s.resetUnit := by
  unfold State.requestWake
  exact foldl_keeps State.resetUnit (by simp) _ _

/-! ### `Machine/MaintOps` -/

@[simp] theorem State.setAct_resetUnit (s : State) (x : Activity) : (s.setAct x).resetUnit = s.resetUnit := by
  simp [State.setAct, ↓State.resetUnit_mk, ↓State.resetUnit_fold]

@[simp] theorem State.startAbortSeq_resetUnit (s : State) (a : Nat) : (s.startAbortSeq a).resetUnit = s.resetUnit := by
  unfold State.startAbortSeq
  split
  · rfl
  · split
    · rfl
    · rw [State.setAct_resetUnit, foldl_resetUnit fun t n => by simp]

@[simp] theorem State.failStep_resetUnit (s : State) (a : Nat) : (s.failStep a).resetUnit = s.resetUnit := by
  unfold State.failStep
  split <;> simp

/-! ### `Machine/Ingest` -/

@[simp] theorem State.sendControl_resetUnit (s : State) (pseq code arg : Nat) :
    (s.sendControl pseq code arg).resetUnit = s.resetUnit := by
  simp [State.sendControl]

@[simp] theorem State.advance_resetUnit (s : State) (k : Faong) : (s.advance k).resetUnit = s.resetUnit := by
  simp [State.advance, ↓State.resetUnit_mk, ↓State.resetUnit_fold]

@[simp] theorem State.countRewind_resetUnit (s : State) : s.countRewind.resetUnit = s.resetUnit := by
  simp (disch := decide) [State.countRewind]

@[simp] theorem State.countProto_resetUnit (s : State) : s.countProto.resetUnit = s.resetUnit := by
  simp (disch := decide) [State.countProto]

@[simp] theorem State.sendDigest_resetUnit (s : State) (pseq : Nat) (stripe : Option Nat) (clen crc : Nat) (lacks : Bool) :
    (s.sendDigest pseq stripe clen crc lacks).resetUnit = s.resetUnit := by
  simp [State.sendDigest]

@[simp] theorem State.sendStripeDigest_resetUnit (s : State) (pseq i : Nat) : (s.sendStripeDigest pseq i).resetUnit = s.resetUnit := by
  unfold State.sendStripeDigest
  repeat' split
  all_goals simp

@[simp] theorem State.rewind_resetUnit (s : State) (pseq i : Nat) : (s.rewind pseq i).resetUnit = s.resetUnit := by
  simp [State.rewind, ↓State.resetUnit_mk, ↓State.resetUnit_fold]

@[simp] theorem State.beginResend_resetUnit (s : State) (p : Page) (k : Faong) : (s.beginResend p k).resetUnit = s.resetUnit := by
  simp [State.beginResend, ↓State.resetUnit_mk, ↓State.resetUnit_fold]

@[simp] theorem State.enterPage_resetUnit (s : State) (k : Faong) (d : Desc) : (s.enterPage k d).resetUnit = s.resetUnit := by
  simp [State.enterPage, ↓State.resetUnit_mk, ↓State.resetUnit_fold]

@[simp] theorem State.refusePage_resetUnit (s : State) (k : Faong) (d : Desc) (reason : Nat) :
    (s.refusePage k d reason).resetUnit = s.resetUnit := by
  simp [State.refusePage, ↓State.resetUnit_mk, ↓State.resetUnit_fold]

theorem State.takeDesc_resetUnit {s u : State} {k : Faong} (h : s.takeDesc k = some u) : u.resetUnit = s.resetUnit := by
  unfold State.takeDesc at h
  dsimp only at h
  repeat' split at h
  all_goals (cases h <;> simp [↓State.resetUnit_mk, ↓State.resetUnit_fold, -State.setPgNext_rst])

@[simp] theorem State.strayStripe_resetUnit (s : State) (k : Faong) : (s.strayStripe k).resetUnit = s.resetUnit := by
  simp [State.strayStripe]

theorem State.storeChunk_resetUnit {s u : State} {q i ch : Nat} {k : Faong} (h :
    s.storeChunk q i ch k = some u) : u.resetUnit = s.resetUnit := by
  unfold State.storeChunk at h
  dsimp only at h
  repeat' split at h
  all_goals (cases h <;> simp [↓State.resetUnit_mk, ↓State.resetUnit_fold])

theorem State.takeData_resetUnit {s u : State} {k : Faong} (h : s.takeData k = some u) : u.resetUnit = s.resetUnit := by
  unfold State.takeData at h
  dsimp only at h
  split at h
  · split at h
    · exact State.storeChunk_resetUnit h
    · cases h; rfl
  · split at h
    · cases h; simp
    · split at h
      · exact State.storeChunk_resetUnit h
      · cases h; simp

@[simp] theorem State.nextStripe_resetUnit (s : State) (q i : Nat) : (s.nextStripe q i).resetUnit = s.resetUnit := by
  simp [State.nextStripe, ↓State.resetUnit_mk, ↓State.resetUnit_fold]

@[simp] theorem State.setLines_resetUnit (s : State) (q : Nat) : (s.setLines q).resetUnit = s.resetUnit := by
  unfold State.setLines
  dsimp only
  repeat' split
  all_goals simp [↓State.resetUnit_mk, ↓State.resetUnit_fold]

@[simp] theorem State.endStripe_resetUnit (s : State) (q i : Nat) (k : Faong) : (s.endStripe q i k).resetUnit = s.resetUnit := by
  unfold State.endStripe
  split <;> simp (disch := decide)

@[simp] theorem State.takeEnd_resetUnit (s : State) (k : Faong) : (s.takeEnd k).resetUnit = s.resetUnit := by
  unfold State.takeEnd
  repeat' split
  all_goals simp

theorem State.takePacket_resetUnit {s u : State} {k : Faong} (h : s.takePacket k = some u) : u.resetUnit = s.resetUnit := by
  unfold State.takePacket at h
  obtain ⟨t, taken, rfl⟩ := Option.map_eq_some_iff.mp h
  rw [State.advance_resetUnit]
  split at taken
  · exact State.takeDesc_resetUnit taken
  · split at taken
    · exact State.takeData_resetUnit taken
    · cases taken; simp

@[simp] theorem drainPackets_resetUnit (l : List Faong) (s : State) : (drainPackets l s).resetUnit = s.resetUnit := by
  induction l generalizing s with
  | nil => rfl
  | cons k l ih =>
    unfold drainPackets
    split
    next t taken => exact (ih t).trans (State.takePacket_resetUnit taken)
    next => rfl

@[simp] theorem State.drainIngest_resetUnit (s : State) : s.drainIngest.resetUnit = s.resetUnit := by
  simp [State.drainIngest]

@[simp] theorem State.dataDown_resetUnit (s : State) : s.dataDown.resetUnit = s.resetUnit := by
  unfold State.dataDown
  dsimp only
  split <;> simp [↓State.resetUnit_mk, ↓State.resetUnit_fold]

/-! ### `Machine/Codec` -/

@[simp] theorem State.setEngine_resetUnit (s : State) (e : Nat) (j : Option DcxJob) : (s.setEngine e j).resetUnit = s.resetUnit := by
  simp (disch := decide) [State.setEngine, ↓State.resetUnit_mk, ↓State.resetUnit_fold]

@[simp] theorem assignVerify_resetUnit (l : List Nat) (s : State) : (assignVerify l s).resetUnit = s.resetUnit := by
  induction l generalizing s with
  | nil => rfl
  | cons e l ih =>
    unfold assignVerify
    split
    · rfl
    · simp [ih]

@[simp] theorem State.startVerify_resetUnit (s : State) : s.startVerify.resetUnit = s.resetUnit := by
  simp [State.startVerify]

@[simp] theorem State.digestDiff_resetUnit (s : State) (q i : Nat) : (s.digestDiff q i).resetUnit = s.resetUnit := by
  unfold State.digestDiff
  dsimp only
  repeat' split
  all_goals simp

@[simp] theorem State.assignPrint_resetUnit (s : State) (q i : Nat) : (s.assignPrint q i).resetUnit = s.resetUnit := by
  unfold State.assignPrint
  dsimp only
  repeat' split
  all_goals simp (disch := decide) []

@[simp] theorem State.passOver_resetUnit (s : State) (p : Page) (i : Nat) : (s.passOver p i).resetUnit = s.resetUnit := by
  simp [State.passOver]

@[simp] theorem State.decodeAssign_resetUnit (s : State) : s.decodeAssign.resetUnit = s.resetUnit := by
  unfold State.decodeAssign
  dsimp only
  repeat' split
  all_goals simp

/-! ### `Machine/HeadOps` -/

@[simp] theorem State.setPort_resetUnit (s : State) (p : Nat) (x : Port) : (s.setPort p x).resetUnit = s.resetUnit := by
  simp [State.setPort, ↓State.resetUnit_mk, ↓State.resetUnit_fold]

@[simp] theorem State.mapPort_resetUnit (s : State) (p : Nat) (f : Port → Port) : (s.mapPort p f).resetUnit = s.resetUnit := by
  simp [State.mapPort]

@[simp] theorem State.sendHead_resetUnit (s : State) (p kind : Nat) (args : List Nat) :
    (s.sendHead p kind args).resetUnit = s.resetUnit := by
  simp [State.sendHead]

@[simp] theorem State.wakePort_resetUnit (s : State) (p : Nat) : (s.wakePort p).resetUnit = s.resetUnit := by
  simp (disch := decide) [State.wakePort]

@[simp] theorem State.startReq_resetUnit (s : State) (p : Nat) (r : MgmtReq) : (s.startReq p r).resetUnit = s.resetUnit := by
  simp [State.startReq]

@[simp] theorem State.queueReq_resetUnit (s : State) (p op : Nat) (args : List Nat) : (s.queueReq p op args).resetUnit = s.resetUnit := by
  unfold State.queueReq
  dsimp only
  repeat' split
  all_goals simp

@[simp] theorem State.setWd_resetUnit (s : State) (p : Nat) (l : List Withdrawal) : (s.setWd p l).resetUnit = s.resetUnit := by
  simp [State.setWd, ↓State.resetUnit_mk, ↓State.resetUnit_fold]

@[simp] theorem State.beginWd_resetUnit (s : State) (p cause : Nat) : (s.beginWd p cause).resetUnit = s.resetUnit := by
  simp [State.beginWd, ↓State.resetUnit_mk, ↓State.resetUnit_fold]

@[simp] theorem State.endWd_resetUnit (s : State) (p : Nat) : (s.endWd p).resetUnit = s.resetUnit := by
  unfold State.endWd
  dsimp only
  split <;> simp [↓State.resetUnit_mk, ↓State.resetUnit_fold]

@[simp] theorem State.driveHeads_resetUnit (s : State) (k : Nat) : (s.driveHeads k).resetUnit = s.resetUnit := by
  simp [State.driveHeads, ↓State.resetUnit_mk, ↓State.resetUnit_fold]

@[simp] theorem State.syncWd_resetUnit (s : State) (p : Nat) : (s.syncWd p).resetUnit = s.resetUnit := by
  simp [State.syncWd]

@[simp] theorem State.startBringUp_resetUnit (s : State) (p : Nat) : (s.startBringUp p).resetUnit = s.resetUnit := by
  simp (disch := decide) [State.startBringUp]

@[simp] theorem State.paramLost_resetUnit (s : State) (p : Nat) : (s.paramLost p).resetUnit = s.resetUnit := by
  unfold State.paramLost
  exact foldl_keeps State.resetUnit (by simp) _ _

@[simp] theorem State.restartBringUp_resetUnit (s : State) (p : Nat) : (s.restartBringUp p).resetUnit = s.resetUnit := by
  simp [State.restartBringUp]

@[simp] theorem State.portDown_resetUnit (s : State) (p : Nat) : (s.portDown p).resetUnit = s.resetUnit := by
  simp (disch := decide) [State.portDown]

/-! ### `Machine/LoopOps` -/

@[simp] theorem State.setSlot_resetUnit (s : State) (n : Nat) (x : Slot) : (s.setSlot n x).resetUnit = s.resetUnit := by
  simp [State.setSlot, ↓State.resetUnit_mk, ↓State.resetUnit_fold]

@[simp] theorem State.mapSlot_resetUnit (s : State) (n : Nat) (f : Slot → Slot) : (s.mapSlot n f).resetUnit = s.resetUnit := by
  simp [State.mapSlot]

/-! ### `Machine/LampOps` -/

@[simp] theorem State.driveLamp_resetUnit (s : State) (n : Nat) : (s.driveLamp n).resetUnit = s.resetUnit := by
  simp (disch := decide) [State.driveLamp, ↓State.resetUnit_mk, ↓State.resetUnit_fold]

/-! ### `Machine/Inspect` -/

@[simp] theorem State.mapCtx_resetUnit (s : State) (c : Nat) (f : Ctx → Ctx) : (s.mapCtx c f).resetUnit = s.resetUnit := by
  simp [State.mapCtx, ↓State.resetUnit_mk, ↓State.resetUnit_fold]

@[simp] theorem State.mapCam_resetUnit (s : State) (n : Nat) (f : CamPort → CamPort) : (s.mapCam n f).resetUnit = s.resetUnit := by
  simp [State.mapCam, ↓State.resetUnit_mk, ↓State.resetUnit_fold]

@[simp] theorem State.syncCam_resetUnit (s : State) (n : Nat) : (s.syncCam n).resetUnit = s.resetUnit := by
  simp (disch := decide) [State.syncCam]

@[simp] theorem State.makeCtxGen_resetUnit (s : State) (c target : Nat) : (s.makeCtxGen c target).resetUnit = s.resetUnit := by
  simp (disch := decide) [State.makeCtxGen]

@[simp] theorem State.releaseHeld_resetUnit (s : State) (c : Nat) : (s.releaseHeld c).resetUnit = s.resetUnit := by
  unfold State.releaseHeld
  split <;> simp

@[simp] theorem State.calFrame_resetUnit (s : State) (c tseq flags : Nat) (rows : Plane) :
    (s.calFrame c tseq flags rows).resetUnit = s.resetUnit := by
  unfold State.calFrame
  dsimp only
  split <;> simp [↓State.resetUnit_mk, ↓State.resetUnit_fold]

@[simp] theorem State.closeTrigger_resetUnit (s : State) (c tseq flags lines : Nat) (rows : Plane) :
    (s.closeTrigger c tseq flags lines rows).resetUnit = s.resetUnit := by
  simp [State.closeTrigger]

@[simp] theorem State.closeAll_resetUnit (s : State) (n flags : Nat) : (s.closeAll n flags).resetUnit = s.resetUnit := by
  exact foldl_resetUnit (fun t c => foldl_resetUnit (by simp) _ t) _ s

@[simp] theorem State.cutFrame_resetUnit (s : State) (n flags : Nat) : (s.cutFrame n flags).resetUnit = s.resetUnit := by
  unfold State.cutFrame
  split <;> simp

@[simp] theorem State.camLost_resetUnit (s : State) (n : Nat) : (s.camLost n).resetUnit = s.resetUnit := by
  simp [State.camLost]

/-! ### `Machine/TwinOps` -/

@[simp] theorem State.syncPorts_resetUnit (s : State) : s.syncPorts.resetUnit = s.resetUnit := by
  unfold State.syncPorts
  exact foldl_keeps State.resetUnit (by simp) _ _

/-! ### `Machine/ResetOps` -/

@[simp] theorem State.resetCam_resetUnit (s : State) (n : Nat) : (s.resetCam n).resetUnit = s.resetUnit := by
  simp [State.resetCam]

@[simp] theorem State.restartSlot_resetUnit (s : State) (n : Nat) : (s.restartSlot n).resetUnit = s.resetUnit := by
  simp [State.restartSlot]

@[simp] theorem State.restartTarget_resetUnit (s : State) (t : Nat × Nat) : (s.restartTarget t).resetUnit = s.resetUnit := by
  unfold State.restartTarget
  split <;> simp

/-! ### `Machine/StartOps` -/

@[simp] theorem State.driveAll_resetUnit (s : State) : s.driveAll.resetUnit = s.resetUnit := by
  unfold State.driveAll
  rw [State.syncPorts_resetUnit, foldl_resetUnit fun t n => t.driveLamp_resetUnit n, foldl_resetUnit fun t n => by simp]

/-! ### `Machine/Reset` -/

@[simp] theorem State.outputsSafe_resetUnit (s : State) : s.outputsSafe.resetUnit = s.resetUnit := by
  unfold State.outputsSafe
  rw [State.safeOutputs_resetUnit, foldl_resetUnit fun t n => by simp]

@[simp] theorem State.lanesLost_resetUnit (s : State) (from_ n : Nat) : (s.lanesLost from_ n).resetUnit = s.resetUnit := by
  unfold State.lanesLost
  exact foldl_keeps State.resetUnit (by simp) _ _

@[simp] theorem State.loseDomain_resetUnit (s : State) (d : Nat) : (s.loseDomain d).resetUnit = s.resetUnit := by
  unfold State.loseDomain
  split
  · exact s.outputsSafe_resetUnit
  · simp [↓State.resetUnit_mk, ↓State.resetUnit_fold]
  · simp [↓State.resetUnit_mk, ↓State.resetUnit_fold]
  · simp [↓State.resetUnit_mk, ↓State.resetUnit_fold]
  · simp (disch := decide)
  · exact s.resetCam_resetUnit _

/-! ### Reading it -/

theorem State.rst_of_resetUnit {s t : State} (h : t.resetUnit = s.resetUnit) : t.rst = s.rst := congrArg ResetUnit.rst h

theorem State.resetN_of_resetUnit {s t : State} (h : t.resetUnit = s.resetUnit) : t.pins.resetN = s.pins.resetN :=
  congrArg ResetUnit.resetN h

/-- A field of the registers that the reset unit shows reads the same. -/
theorem State.get_of_resetUnit {s t : State} (h : t.resetUnit = s.resetUnit) {f : Fld} (lo : f.lo < 32)
    (shown : resetRegs.any (fun r => r.ctorIdx == f.reg.ctorIdx) = true) (i : Nat) : t.get f i = s.get f i := by
  have read (u : State) : u.get f i = Tab.get (f.resetAt i) (keepRegs resetRegs u.regs) (f.key i) % 2 ^ f.width := by
    rw [Tab.get_keepRegs _ _ _ lo, if_pos shown, State.get]
  have regs : keepRegs resetRegs t.regs = keepRegs resetRegs s.regs := congrArg ResetUnit.regs h
  rw [read t, read s, regs]

end Sys2Proof.Machine
end

section
/-! ## The supply and temperature monitors (R62 to R69): O17 -/
namespace Sys2Proof.Machine

/-! ### Records -/

/-- The registers that decide where a record goes. -/
def recordRegs : List Fld := [EvtWr.v, EvtRd.v]

theorem State.loseRecord_ev (s : State) (n : Nat) : (s.loseRecord n).ev = { s.ev with loss := true } := by
  unfold State.loseRecord
  dsimp only
  split <;> rfl

theorem State.spill_ev_put (s : State) {f : Fld} (h : ∀ g ∈ recordRegs, f.apart g = true) (i v : Nat) (r : EvRec) :
    ((s.put f i v).spill r).ev = (s.spill r).ev := by
  have ring : (s.put f i v).ringSize = s.ringSize := rfl
  have lost (t : State) : (t.loseRecord r.size).ev = { t.ev with loss := true } := t.loseRecord_ev _
  simp only [State.spill, State.get_put_ne _ (h EvtWr.v (by decide)), State.get_put_ne _ (h EvtRd.v (by decide)), ring,
    apply_ite State.ev, lost]
  rfl

/-- A field that no record looks at does not change what a record makes of the events. -/
theorem State.record_ev_put (s : State) {f : Fld} (h : ∀ g ∈ recordRegs, f.apart g = true) (i v : Nat) (c : EvCode) (n : Nat)
    (l : List EvArg) : ((s.put f i v).record c n l).ev = (s.record c n l).ev := by
  have same : (s.put f i v).evRec c n l = s.evRec c n l := rfl
  have room : (s.put f i v).noRoom (s.evRec c n l) = s.noRoom (s.evRec c n l) := rfl
  unfold State.record
  dsimp only
  rw [same, room]
  split
  · rw [State.loseRecord_ev, State.loseRecord_ev]
    rfl
  split
  · exact (s.toTail _).spill_ev_put h i v _
  · rfl

/-! ### The rails -/

/-- VMIN keeps the lowest voltage (R64). -/
theorem State.get_trackMin (s : State) (r mv : Nat) : (s.trackMin r mv).get MonRail.vmin r = min (s.get MonRail.vmin r) mv := by
  have := s.get_lt MonRail.vmin r
  simp only [MonRail.vmin] at this
  unfold State.trackMin
  rw [State.get_put_of_lt]
  · simp only [MonRail.vmin]
    omega
  · simp only [MonRail.vmin]
    omega

/-- A rail that enters warning, before it is recorded. -/
def State.warnMarked (s : State) (r mv : Nat) : State :=
  (((s.trackMin r mv).put MonRail.warn r 1).put MonRail.wseen r 1).put MonRail.dur r 0

/-- The same, recorded and dated: the detection has taken 200 ns (R64). -/
def State.warnNoted (s : State) (r mv : Nat) : State :=
  let t := (s.warnMarked r mv).record .vwarn r []
  { t with rst := { t.rst with warnAt := t.rst.warnAt.set r (t.now - 100) } }

theorem execRailWarnEnter_eq (s : State) {r : Fin 6} {mv : Nat} (low : mv < railWarnMv.getD r.val 0)
    (fresh : s.flag MonRail.warn r.val = false) : exec (.railWarnEnter r mv) s = .next (s.warnNoted r.val mv).syncWarn := by
  have entered : ¬(railWarnMv.getD r.val 0 ≤ mv ∨ s.flag MonRail.warn r.val = true) := by
    rw [fresh]
    simpa using low
  exact congrArg Host.Outcome.next (if_neg entered)

theorem State.get_warnNoted (s : State) (r mv : Nat) {f : Fld}
    (h : (EvtLost.count.apart f && EvtLost.ovf.apart f && EvtWr.v.apart f) = true)
    (i : Nat) : (s.warnNoted r mv).get f i = (s.warnMarked r mv).get f i :=
  State.get_record _ _ _ _ f i h

theorem State.syncWarn_eq (s : State) : ∃ regs, s.syncWarn = { s with regs := regs } := ⟨_, rfl⟩

theorem State.get_syncWarn (s : State) {f : Fld} (h : TwStat.unfit.apart f = true) (i : Nat) : s.syncWarn.get f i = s.get f i :=
  s.get_setUnfit_ne _ _ h i

/-- WARN is a reason of unfitness while a rail or the temperature is in warning (Table 18-2). -/
theorem State.unfitBit_syncWarn (s : State) (h : s.warned = true) : s.syncWarn.unfitBit unfitWarn = true := by
  unfold State.syncWarn
  rw [h]
  exact s.unfitBit_setUnfit (by decide)

theorem State.warned_of_rail {s : State} {r : Nat} (hr : r < 6) (h : s.flag MonRail.warn r = true) : s.warned = true := by
  unfold State.warned
  rw [Bool.or_eq_true, List.any_eq_true]
  exact .inl ⟨r, List.mem_range.mpr hr, h⟩

theorem State.flag_warnMarked (s : State) (r mv : Nat) : (s.warnMarked r mv).flag MonRail.warn r = true ∧
    (s.warnMarked r mv).flag MonRail.wseen r = true ∧ (s.warnMarked r mv).get MonRail.dur r = 0 ∧
    (s.warnMarked r mv).get MonRail.vmin r = min (s.get MonRail.vmin r) mv := by
  unfold State.warnMarked State.flag
  refine ⟨?_, ?_, ?_, ?_⟩
  · simp (disch := decide)
  · simp (disch := decide)
  · simp (disch := decide)
  · simp (disch := decide) [s.get_trackMin]

theorem State.warnNoted_ev (s : State) (r mv : Nat) : (s.warnNoted r mv).ev = (s.record .vwarn r []).ev := by
  change ((s.warnMarked r mv).record .vwarn r []).ev = _
  unfold State.warnMarked State.trackMin
  rw [State.record_ev_put _ (by decide), State.record_ev_put _ (by decide), State.record_ev_put _ (by decide),
    State.record_ev_put _ (by decide)]

theorem State.warnMarked_eq (s : State) (r mv : Nat) : ∃ regs, s.warnMarked r mv = { s with regs := regs } := by
  unfold State.warnMarked State.trackMin State.put
  exact ⟨_, rfl⟩

theorem State.warnNoted_eq (s : State) (r mv : Nat) : ∃ regs ev warnAt, (s.warnNoted r mv).syncWarn =
    { s with regs := regs, ev := ev, rst := { s.rst with warnAt := warnAt } } := by
  obtain ⟨marks, marked⟩ := s.warnMarked_eq r mv
  obtain ⟨regs, ev, h⟩ := (s.warnMarked r mv).record_eq .vwarn r []
  rw [marked] at h
  have noted : s.warnNoted r mv = { s with regs := regs, ev := ev, rst := { s.rst with warnAt := s.rst.warnAt.set r (s.now - 100) } } := by
    unfold State.warnNoted
    rw [marked, h]
  obtain ⟨regs', h'⟩ := (s.warnNoted r mv).syncWarn_eq
  refine ⟨regs', ev, s.rst.warnAt.set r (s.now - 100), ?_⟩
  rw [h', noted]

theorem State.warnNoted_kept (s : State) (r mv : Nat) : FieldsKept
    (fun f i => onlyAt [MonRail.warn, MonRail.wseen, MonRail.dur, MonRail.vmin] r f i || f == TwStat.unfit) s
    (s.warnNoted r mv).syncWarn := by
  have marked : FieldsKept (onlyAt [MonRail.warn, MonRail.wseen, MonRail.dur, MonRail.vmin] r) s (s.warnMarked r mv) :=
    (((FieldsKept.put s r _ (f := MonRail.vmin) (by decide) (by simp [onlyAt])).trans
      (.put _ r 1 (f := MonRail.warn) (by decide) (by simp [onlyAt]))).trans
      (.put _ r 1 (f := MonRail.wseen) (by decide) (by simp [onlyAt]))).trans
      (.put _ r 0 (f := MonRail.dur) (by decide) (by simp [onlyAt]))
  have noted : FieldsKept (onlyAt [MonRail.warn, MonRail.wseen, MonRail.dur, MonRail.vmin] r) s (s.warnNoted r mv) :=
    (marked.trans (.record _ .vwarn r [] fun f i h => by simp [onlyAt, h])).trans (.of_regs _ rfl)
  exact (noted.mono fun f i h => by simp [h]).trans (.put _ 0 _ (f := TwStat.unfit) (by decide) (by simp))

theorem railWarnEnter_enters (r : Fin 6) (mv : Nat) (s : State) (low : mv < railWarnMv.getD r.val 0)
    (fresh : s.flag MonRail.warn r.val = false) :
    ∃ t, exec (.railWarnEnter r mv) s = .next t ∧ t.flag MonRail.warn r.val = true ∧ t.flag MonRail.wseen r.val = true ∧
      t.get MonRail.dur r.val = 0 ∧ t.get MonRail.vmin r.val = min (s.get MonRail.vmin r.val) mv ∧ t.unfitBit unfitWarn = true ∧
      Recorded s t .vwarn r.val [] ∧ t = { s with regs := t.regs, ev := t.ev, rst := { s.rst with warnAt := t.rst.warnAt } } ∧
      FieldsKept (fun f i => onlyAt [MonRail.warn, MonRail.wseen, MonRail.dur, MonRail.vmin] r.val f i || f == TwStat.unfit) s t := by
  obtain ⟨hwarn, hseen, hdur, hvmin⟩ := s.flag_warnMarked r.val mv
  have shown {f : Fld} (h : f ∈ Reg.monRail.fields) : (s.warnNoted r.val mv).syncWarn.get f r.val =
      (s.warnMarked r.val mv).get f r.val := by
    have other : ∀ f ∈ Reg.monRail.fields,
        TwStat.unfit.apart f = true ∧ (EvtLost.count.apart f && EvtLost.ovf.apart f && EvtWr.v.apart f) = true := by decide
    obtain ⟨unfit, events⟩ := other f h
    rw [State.get_syncWarn _ unfit, State.get_warnNoted _ _ _ events]
  have warned : (s.warnNoted r.val mv).warned = true := by
    refine State.warned_of_rail r.isLt ?_
    rw [State.flag, State.get_warnNoted _ _ _ (by decide)]
    exact hwarn
  refine ⟨(s.warnNoted r.val mv).syncWarn, execRailWarnEnter_eq s low fresh, ?_, ?_, ?_, ?_,
    State.unfitBit_syncWarn _ warned, ?_, ?_, ?_⟩
  · rw [State.flag, shown (by decide)]
    exact hwarn
  · rw [State.flag, shown (by decide)]
    exact hseen
  · rw [shown (by decide), hdur]
  · rw [shown (by decide), hvmin]
  · exact s.warnNoted_ev r.val mv
  · obtain ⟨regs, ev, warnAt, h⟩ := s.warnNoted_eq r.val mv
    rw [h]
  · exact s.warnNoted_kept r.val mv

/-! ### The end of a warning -/

/-- DUR counts units of 10 us and saturates (R64). -/
theorem State.get_setDur (s : State) (r : Nat) : (s.setDur r).get MonRail.dur r =
    min ((s.now - s.rst.warnAt.getD r 0) / us 10) (2 ^ 15 - 1) := by
  unfold State.setDur
  dsimp only
  split
  next long =>
    rw [State.get_record _ _ _ _ _ _ (by decide), State.get_put_ne _ (by decide), State.get_put_of_lt _ _ _ (by decide)]
    exact (Nat.min_eq_right long).symm
  next short =>
    rw [State.get_put_of_lt _ _ _ (Nat.lt_of_not_le short |>.trans (by decide))]
    exact (Nat.min_eq_left (Nat.le_of_not_le short)).symm

theorem State.get_setDur_ne (s : State) (r : Nat) {f : Fld} (dur : MonRail.dur.apart f = true) (ovf : MonRail.durOvf.apart f = true)
    (events : (EvtLost.count.apart f && EvtLost.ovf.apart f && EvtWr.v.apart f) = true) (i : Nat) :
    (s.setDur r).get f i = s.get f i := by
  unfold State.setDur
  dsimp only
  split
  · rw [State.get_record _ _ _ _ _ _ events, State.get_put_ne _ ovf, State.get_put_ne _ dur]
  · rw [State.get_put_ne _ dur]

theorem State.setDur_frame (s : State) (r : Nat) :
    (s.setDur r).now = s.now ∧ (s.setDur r).rst = s.rst ∧ (s.setDur r).pins = s.pins := by
  unfold State.setDur
  dsimp only
  split <;> simp

/-- A rail that leaves warning, before it is recorded. -/
def State.warnEnded (s : State) (r mv : Nat) : State := (((s.trackMin r mv).put MonRail.warn r 0).setDur r).syncWarn

theorem State.warnEnded_frame (s : State) (r mv : Nat) : (s.warnEnded r mv).rst = s.rst ∧ (s.warnEnded r mv).pins = s.pins := by
  simp [State.warnEnded, State.syncWarn, State.setDur_frame, State.trackMin]

theorem State.get_warnEnded (s : State) (r mv : Nat) : (s.warnEnded r mv).flag MonRail.warn r = false ∧
    (s.warnEnded r mv).get MonRail.vmin r = min (s.get MonRail.vmin r) mv ∧
    (s.warnEnded r mv).get MonRail.dur r = min ((s.now - s.rst.warnAt.getD r 0) / us 10) (2 ^ 15 - 1) := by
  unfold State.warnEnded State.flag
  simp (disch := decide) only [State.get_syncWarn, State.get_setDur_ne, State.get_setDur, State.get_put_self, State.get_put_ne,
    State.get_trackMin]
  refine ⟨rfl, trivial, rfl⟩

theorem execRailWarnClear_eq (s : State) {r : Fin 6} (mv : Nat) (warn : s.flag MonRail.warn r.val = true)
    (high : s.rst.low.contains r.val = false) :
    ∃ args, exec (.railWarnClear r mv) s = .next ((s.warnEnded r.val mv).record .vwarnClear r.val args) := by
  obtain ⟨hrst, -⟩ := s.warnEnded_frame r.val mv
  have stays : ¬(s.warnEnded r.val mv).rst.low.contains r.val = true := by
    rw [hrst, high]
    exact Bool.false_ne_true
  exact ⟨_, congrArg Host.Outcome.next ((if_neg (not_not.mpr warn)).trans (if_neg stays))⟩

theorem railWarnClear_ends (r : Fin 6) (mv : Nat) (s : State) (warn : s.flag MonRail.warn r.val = true)
    (high : s.rst.low.contains r.val = false) : ∃ t, exec (.railWarnClear r mv) s = .next t ∧ t.flag MonRail.warn r.val = false ∧
      t.get MonRail.vmin r.val = min (s.get MonRail.vmin r.val) mv ∧
      t.get MonRail.dur r.val = min ((s.now - s.rst.warnAt.getD r.val 0) / us 10) (2 ^ 15 - 1) ∧ t.rst = s.rst ∧ t.pins = s.pins := by
  obtain ⟨hwarn, hvmin, hdur⟩ := s.get_warnEnded r.val mv
  obtain ⟨hrst, hpins⟩ := s.warnEnded_frame r.val mv
  obtain ⟨args, h⟩ := execRailWarnClear_eq s mv warn high
  refine ⟨_, h, ?_, ?_, ?_, ?_, ?_⟩
  · rw [State.flag, State.get_record _ _ _ _ _ _ (by decide)]
    exact hwarn
  · rw [State.get_record _ _ _ _ _ _ (by decide), hvmin]
  · rw [State.get_record _ _ _ _ _ _ (by decide), hdur]
  · simpa using hrst
  · simpa using hpins

/-! ### The hold time -/

/-- A planned takeover is asked for by the active twin of a fit partner alone (R65, R66). -/
theorem State.requestPlan_eq {s : State} (active : s.role = roleActive) (fit : s.partnerFit = true) (plan : s.twin.plan = none)
    (handed : s.twin.handed = none) : s.requestPlan false = { s with twin := { s.twin with plan := some (false, s.now) } } :=
  if_pos ⟨active, fit, by rw [plan]; rfl, by rw [handed]; rfl⟩

theorem State.warnHeld_idle {s : State} (h : s.flag MonCtrl.takeoverEn 0 = false ∨ s.role ≠ roleActive ∨ s.partnerFit = false)
    (live : Bool) : s.warnHeld live = s := by
  unfold State.warnHeld State.requestPlan
  obtain off | passive | unfit := h
  · simp [off]
  · simp [passive]
  · simp [unfit]

theorem State.warnHeld_eq {s : State} (enabled : s.flag MonCtrl.takeoverEn 0 = true) (active : s.role = roleActive)
    (fit : s.partnerFit = true) (plan : s.twin.plan = none) (handed : s.twin.handed = none) {live : Bool} (h : live = true) :
    s.warnHeld live = { s with twin := { s.twin with plan := some (false, s.now) } } :=
  (if_pos ⟨h, enabled⟩).trans (State.requestPlan_eq active fit plan handed)

/-! ### The temperature -/

theorem State.takeTj_pins (s : State) (tj : Word) : (s.takeTj tj).pins = s.pins := by
  unfold State.takeTj
  dsimp only
  split <;> simp

theorem State.get_takeTj (s : State) (tj : Word) : (s.takeTj tj).get MonTemp.tj 0 = tj.toNat % 4096 := by
  have taken : (s.put MonTemp.tj 0 (tj.toNat % 4096)).get MonTemp.tj 0 = tj.toNat % 4096 :=
    s.get_put_of_lt _ 0 (Nat.mod_lt _ (by decide))
  unfold State.takeTj
  dsimp only
  split
  · exact taken
  · exact taken

theorem State.get_takeTj_ne (s : State) (tj : Word) {f : Fld} (hf : f ∈ f.reg.fields) (h : only [MonTemp.tj] f 0 = false) :
    (s.takeTj tj).get f 0 = s.get f 0 :=
  s.takeTj_kept tj f.reg f 0 hf h

theorem State.warned_of_temp {s : State} (h : s.flag MonTemp.tw 0 = true) : s.warned = true := by
  unfold State.warned
  rw [h, Bool.or_true]

/-- TW and TWSEEN show a temperature warning, which is dated (R69). -/
def State.tempWarned (s : State) (tj : Word) : State :=
  let t := ((s.takeTj tj).put MonTemp.tw 0 1).put MonTemp.twseen 0 1
  { t with rst := { t.rst with warnAt := t.rst.warnAt.set 6 t.now } }

theorem State.get_tempWarned (s : State) (tj : Word) : (s.tempWarned tj).flag MonTemp.tw 0 = true ∧
    (s.tempWarned tj).flag MonTemp.twseen 0 = true ∧ (s.tempWarned tj).get MonTemp.tj 0 = tj.toNat % 4096 := by
  have read (f : Fld) : (s.tempWarned tj).get f 0 = (((s.takeTj tj).put MonTemp.tw 0 1).put MonTemp.twseen 0 1).get f 0 := rfl
  unfold State.flag
  simp (disch := decide) only [read, State.get_put_ne, State.get_put_self, s.get_takeTj]
  exact ⟨rfl, rfl, trivial⟩

theorem tempWarnEnter_enters (tj : Word) (s : State) (hot : 16 * (s.get MonTemp.twarn 0 : Int) < signed 12 (tj.toNat % 4096))
    (fresh : s.get MonTemp.tw 0 = 0) : ∃ t, exec (.tempWarnEnter tj) s = .next t ∧ t.flag MonTemp.tw 0 = true ∧
      t.flag MonTemp.twseen 0 = true ∧ t.get MonTemp.tj 0 = tj.toNat % 4096 ∧ t.unfitBit unfitWarn = true ∧ t.pins = s.pins := by
  have entered : (s.takeTj tj).twarn < signed 12 (tj.toNat % 4096) ∧ (s.takeTj tj).get MonTemp.tw 0 = 0 := by
    unfold State.twarn
    rw [s.get_takeTj_ne tj (by decide) (by decide), s.get_takeTj_ne tj (by decide) (by decide)]
    exact ⟨hot, fresh⟩
  obtain ⟨htw, hseen, htj⟩ := s.get_tempWarned tj
  refine ⟨(s.tempWarned tj).syncWarn, congrArg Host.Outcome.next (if_pos entered), ?_, ?_, ?_,
    State.unfitBit_syncWarn _ (State.warned_of_temp htw), ?_⟩
  · rw [State.flag, State.get_syncWarn _ (by decide)]
    exact htw
  · rw [State.flag, State.get_syncWarn _ (by decide)]
    exact hseen
  · rw [State.get_syncWarn _ (by decide), htj]
  · simp [State.syncWarn, State.tempWarned, s.takeTj_pins]

theorem tempWarnEnd_ends (tj : Word) (s : State) (cool : signed 12 (tj.toNat % 4096) ≤ 16 * (s.get MonTemp.twarn 0 : Int) - 48) :
    ∃ t, exec (.tempWarnEnd tj) s = .next t ∧ t.flag MonTemp.tw 0 = false ∧ t.get MonTemp.tj 0 = tj.toNat % 4096 ∧
      t.pins = s.pins := by
  have ended : signed 12 (tj.toNat % 4096) ≤ (s.takeTj tj).twarn - 48 := by
    unfold State.twarn
    rw [s.get_takeTj_ne tj (by decide) (by decide)]
    exact cool
  refine ⟨((s.takeTj tj).put MonTemp.tw 0 0).syncWarn, congrArg Host.Outcome.next (if_pos ended), ?_, ?_, ?_⟩
  · rw [State.flag, State.get_syncWarn _ (by decide), State.get_put_self]
    rfl
  · rw [State.get_syncWarn _ (by decide), State.get_put_ne _ (by decide), s.get_takeTj]
  · simp [State.syncWarn, s.takeTj_pins]

/-! ### The trackers -/

theorem monRailTrkClr_clears (r : Fin 6) (s : State) : ∃ t, exec (.monRailTrkClr r) s = .next t ∧ t = { s with regs := t.regs } ∧
    t.get MonRail.vmin r.val = 0xFFF ∧ t.get MonRail.dur r.val = 0 ∧ FieldsKept (onlyAt [MonRail.vmin, MonRail.dur] r.val) s t := by
  refine ⟨_, rfl, rfl, ?_, ?_, ?_⟩
  · unfold State.clearTracker State.clear
    rw [State.get_put_ne _ (by decide), State.get_put_self]
    rfl
  · exact State.get_put_self _ _ _ _
  · exact (FieldsKept.put s r.val _ (f := MonRail.vmin) (by decide) (by simp [onlyAt])).trans
      (.put _ r.val 0 (f := MonRail.dur) (by decide) (by simp [onlyAt]))

/-! ### The rails of the MC and lane domains -/

theorem set_getD_false (l : List Bool) {d : Nat} (h : l.getD d false = false) : l.set d false = l := by
  refine List.ext_getElem (List.length_set ..) fun i hi hi' => ?_
  rw [List.getElem_set]
  split
  next e =>
    subst e
    rw [List.getD_eq_getElem _ _ hi'] at h
    exact h.symm
  next => rfl

/-- The loss of a domain but FT changes of the reset unit only which domains are qualified (R55, R56). -/
theorem State.clockLost_resetUnit (s : State) {d : Nat} (hd : d ≠ 0) :
    (s.clockLost d).resetUnit = (s.setQualified d false).resetUnit := by
  unfold State.clockLost
  split
  next unqualified =>
    have same : s.rst.qualified.set d false = s.rst.qualified := set_getD_false _ (by simpa using unqualified)
    rw [State.setQualified, same]
  next => simp

theorem State.setQualified_resetUnit {s t : State} (h : t.resetUnit = s.resetUnit) (d : Nat) (on : Bool) :
    (t.setQualified d on).resetUnit = (s.setQualified d on).resetUnit := by
  simp only [State.resetUnit, ResetUnit.mk.injEq] at h
  obtain ⟨hregs, hrst, hpin⟩ := h
  simp only [State.resetUnit, State.setQualified, hregs, hrst, hpin]

/-- RSEEN of a rail at its reset level, and the rail itself, are noted. -/
theorem State.railLow_noted (s : State) (r mv : Nat) :
    (s.railLow r mv).flag MonRail.rseen r = true ∧ (s.railLow r mv).rst.low.contains r = true := by
  refine ⟨?_, ?_⟩
  · have read : (s.railLow r mv).get MonRail.rseen r = ((s.trackMin r mv).put MonRail.rseen r 1).get MonRail.rseen r := rfl
    rw [State.flag, read, State.get_put_self]
    rfl
  · unfold State.railLow
    dsimp only
    split
    · assumption
    · simp

theorem execRailResetLevel_mc (s : State) {mv : Nat} (h : mv < 1000) :
    exec (.railResetLevel 3 mv) s = .next ((s.railLow 3 mv).clockLost 1) :=
  congrArg Host.Outcome.next (if_neg (Nat.not_le.mpr h))

theorem execRailResetLevel_lane (s : State) {mv : Nat} (h : mv < 770) :
    exec (.railResetLevel 4 mv) s = .next (((s.railLow 4 mv).clockLost 2).clockLost 3) :=
  congrArg Host.Outcome.next (if_neg (Nat.not_le.mpr h))

theorem getD_set_false (l : List Bool) (d : Nat) : (l.set d false).getD d false = false := by
  by_cases h : d < l.length <;> simp [h]

theorem railResetLevel_mc (mv : Nat) (s : State) (low : mv < 1000) : ∃ t, exec (.railResetLevel 3 mv) s = .next t ∧
    t.rst.qualified.getD 1 false = false ∧ t.flag MonRail.rseen 3 = true ∧ t.rst.low.contains 3 = true := by
  obtain ⟨hseen, hlow⟩ := s.railLow_noted 3 mv
  have lost := (s.railLow 3 mv).clockLost_resetUnit (d := 1) (by decide)
  refine ⟨_, execRailResetLevel_mc s low, ?_, ?_, ?_⟩
  · rw [State.rst_of_resetUnit lost]
    exact getD_set_false _ 1
  · rw [State.flag, State.get_of_resetUnit lost (by decide) (by decide)]
    exact hseen
  · rw [State.rst_of_resetUnit lost]
    exact hlow

theorem railResetLevel_lane (mv : Nat) (s : State) (low : mv < 770) : ∃ t, exec (.railResetLevel 4 mv) s = .next t ∧
    t.rst.qualified.getD 2 false = false ∧ t.rst.qualified.getD 3 false = false ∧ t.flag MonRail.rseen 4 = true ∧
    t.rst.low.contains 4 = true := by
  obtain ⟨hseen, hlow⟩ := s.railLow_noted 4 mv
  have lost : (((s.railLow 4 mv).clockLost 2).clockLost 3).resetUnit =
      (((s.railLow 4 mv).setQualified 2 false).setQualified 3 false).resetUnit :=
    (State.clockLost_resetUnit _ (by decide)).trans
      (State.setQualified_resetUnit (State.clockLost_resetUnit _ (by decide)) 3 false)
  refine ⟨_, execRailResetLevel_lane s low, ?_, ?_, ?_, ?_⟩
  · rw [State.rst_of_resetUnit lost]
    change (((s.railLow 4 mv).rst.qualified.set 2 false).set 3 false).getD 2 false = false
    rw [List.set_comm _ _ (by decide)]
    exact getD_set_false _ 2
  · rw [State.rst_of_resetUnit lost]
    exact getD_set_false _ 3
  · rw [State.flag, State.get_of_resetUnit lost (by decide) (by decide)]
    exact hseen
  · rw [State.rst_of_resetUnit lost]
    exact hlow

/-- Settles O17, clause by clause from what each monitor command leads to. -/
theorem supplyAndTemperatureMonitors : Obligations.SupplyAndTemperatureMonitors := by
  unfold Obligations.SupplyAndTemperatureMonitors
  refine ⟨railWarnEnter_enters, fun r mv s _ => railWarnClear_ends r mv s, fun r s warn en active fit plan handed => ?_,
    fun s tw en active fit plan handed => ?_, fun s r h => ⟨congrArg Host.Outcome.next (State.warnHeld_idle h _),
      congrArg Host.Outcome.next (State.warnHeld_idle h _)⟩, tempWarnEnter_enters, tempWarnEnd_ends, monRailTrkClr_clears,
    fun mv s low _ => railResetLevel_mc mv s low, railResetLevel_lane⟩
  · exact ⟨_, congrArg Host.Outcome.next (State.warnHeld_eq en active fit plan handed warn), rfl⟩
  · exact ⟨_, congrArg Host.Outcome.next (State.warnHeld_eq en active fit plan handed tw), rfl⟩

end Sys2Proof.Machine
end

section
/-! ## The end of a stretch (R47, R50, R542): O13 -/
namespace Sys2Proof.Machine

/-! ### RST_HIST -/

theorem rstHist_fields :
    Reg.rstHist.fields = [RstHist.cause, RstHist.level, RstHist.stage, RstHist.timeout, RstHist.seq] := rfl

/-- Entry `n` of RST_HIST is copied to the entry after it. -/
def State.shiftHist (s : State) (n : Nat) : State :=
  [RstHist.cause, RstHist.level, RstHist.stage, RstHist.timeout, RstHist.seq].foldl (fun u f => u.put f (n + 1) (u.get f n)) s

theorem State.get_shiftHist_succ (s : State) (n : Nat) :
    ∀ f ∈ Reg.rstHist.fields, (s.shiftHist n).get f (n + 1) = s.get f n := by
  simp only [State.shiftHist, rstHist_fields, List.foldl_cons, List.foldl_nil, List.forall_mem_cons]
  simp (disch := decide) only [State.get_put_ne, State.get_put_self]
  simp [Nat.mod_eq_of_lt]

theorem State.get_shiftHist_idx (s : State) {n i : Nat} (h : n + 1 ≠ i) :
    ∀ f ∈ Reg.rstHist.fields, (s.shiftHist n).get f i = s.get f i := by
  simp only [State.shiftHist, rstHist_fields, List.foldl_cons, List.foldl_nil, List.forall_mem_cons]
  simp (disch := decide) [State.get_put_idx _ _ h]

theorem State.get_shiftHist_ne (s : State) (n : Nat) {g : Fld} (h : ∀ f ∈ Reg.rstHist.fields, f.apart g = true) (i : Nat) :
    (s.shiftHist n).get g i = s.get g i := by
  simp only [rstHist_fields, List.forall_mem_cons] at h
  obtain ⟨cause, level, stage, timeout, seq, -⟩ := h
  simp only [State.shiftHist, List.foldl_cons, List.foldl_nil]
  rw [State.get_put_ne _ seq, State.get_put_ne _ timeout, State.get_put_ne _ stage, State.get_put_ne _ level, State.get_put_ne _ cause]

/-- From the oldest on, entries `k` to 0 move down by one; those beyond stay. -/
theorem State.get_shiftAll (k : Nat) (s : State) {f : Fld} (hf : f ∈ Reg.rstHist.fields) :
    (∀ j, j < k → ((List.range k).reverse.foldl State.shiftHist s).get f (j + 1) = s.get f j) ∧
    ∀ j, k < j → ((List.range k).reverse.foldl State.shiftHist s).get f j = s.get f j := by
  induction k generalizing s with
  | zero => exact ⟨fun j hj => absurd hj (Nat.not_lt_zero j), fun _ _ => rfl⟩
  | succ k ih =>
    obtain ⟨moved, stayed⟩ := ih (s.shiftHist k)
    simp only [List.range_succ, List.reverse_append, List.reverse_singleton, List.singleton_append, List.foldl_cons]
    refine ⟨fun j hj => ?_, fun j hj => ?_⟩
    · obtain below | rfl : j < k ∨ j = k := by omega
      · rw [moved j below, s.get_shiftHist_idx (by omega) f hf]
      · rw [stayed _ (Nat.lt_succ_self _), s.get_shiftHist_succ _ f hf]
    · rw [stayed j (by omega), s.get_shiftHist_idx (by omega) f hf]

theorem State.shiftAll_rst (k : Nat) (s : State) : ((List.range k).reverse.foldl State.shiftHist s).rst = s.rst :=
  foldl_keeps State.rst (fun t n => by simp [State.shiftHist]) _ s

/-- The reset that is written into entry 0 (R542). -/
def State.histEntry (s : State) (cause level stage seq : Nat) (timeout : Bool) : State :=
  ((((s.put RstHist.cause 0 cause).put RstHist.level 0 level).put RstHist.stage 0 stage).put
    RstHist.timeout 0 (if timeout then 1 else 0)).put RstHist.seq 0 seq

theorem State.get_histEntry (s : State) (cause level stage seq : Nat) (timeout : Bool) :
    (s.histEntry cause level stage seq timeout).get RstHist.cause 0 = cause % 2 ^ 16 ∧
    (s.histEntry cause level stage seq timeout).get RstHist.level 0 = level % 2 ^ 2 ∧
    (s.histEntry cause level stage seq timeout).get RstHist.stage 0 = stage % 2 ^ 4 ∧
    (s.histEntry cause level stage seq timeout).flag RstHist.timeout 0 = timeout ∧
    (s.histEntry cause level stage seq timeout).get RstHist.seq 0 = seq % 2 ^ 9 := by
  unfold State.histEntry State.flag
  simp (disch := decide) only [State.get_put_ne, State.get_put_self]
  exact ⟨rfl, rfl, rfl, by cases timeout <;> rfl, rfl⟩

theorem State.get_histEntry_succ (s : State) (cause level stage seq : Nat) (timeout : Bool) (n : Nat) :
    ∀ f ∈ Reg.rstHist.fields, (s.histEntry cause level stage seq timeout).get f (n + 1) = s.get f (n + 1) := by
  have away : 0 ≠ n + 1 := by omega
  simp only [State.histEntry, rstHist_fields, List.forall_mem_cons]
  simp (disch := decide) [State.get_put_idx _ _ away]

theorem State.get_histEntry_ne (s : State) (cause level stage seq : Nat) (timeout : Bool) {g : Fld}
    (h : ∀ f ∈ Reg.rstHist.fields, f.apart g = true) (i : Nat) : (s.histEntry cause level stage seq timeout).get g i = s.get g i := by
  simp only [rstHist_fields, List.forall_mem_cons] at h
  obtain ⟨hcause, hlevel, hstage, htimeout, hseq, -⟩ := h
  unfold State.histEntry
  rw [State.get_put_ne _ hseq, State.get_put_ne _ htimeout, State.get_put_ne _ hstage, State.get_put_ne _ hlevel,
    State.get_put_ne _ hcause]

theorem State.get_pushHist (s : State) (cause level stage : Nat) (timeout : Bool) (f : Fld) (i : Nat) :
    (s.pushHist cause level stage timeout).get f i =
      (((List.range 15).reverse.foldl State.shiftHist s).histEntry cause level stage s.rst.seq timeout).get f i := by
  have shifted : ((List.range 15).reverse.foldl State.shiftHist s).rst = s.rst := State.shiftAll_rst 15 s
  rw [← shifted]
  unfold State.pushHist
  generalize (List.range 15).reverse = l
  rfl

theorem State.get_pushHist_ne (s : State) (cause level stage : Nat) (timeout : Bool) {g : Fld}
    (h : ∀ f ∈ Reg.rstHist.fields, f.apart g = true) (i : Nat) : (s.pushHist cause level stage timeout).get g i = s.get g i := by
  rw [State.get_pushHist, State.get_histEntry_ne _ _ _ _ _ _ h]
  exact foldl_keeps (fun t => t.get g i) (fun t n => t.get_shiftHist_ne n h i) _ s

/-- The older entries have moved down by one. -/
theorem State.get_pushHist_succ (s : State) (cause level stage : Nat) (timeout : Bool) {n : Nat} (hn : n < 15) :
    ∀ f ∈ Reg.rstHist.fields, (s.pushHist cause level stage timeout).get f (n + 1) = s.get f n := by
  intro f hf
  obtain ⟨moved, -⟩ := State.get_shiftAll 15 s hf
  rw [State.get_pushHist, State.get_histEntry_succ _ _ _ _ _ _ _ f hf, moved n hn]

theorem State.get_pushHist_new (s : State) (cause level stage : Nat) (timeout : Bool) :
    (s.pushHist cause level stage timeout).get RstHist.cause 0 = cause % 2 ^ 16 ∧
    (s.pushHist cause level stage timeout).get RstHist.level 0 = level % 2 ^ 2 ∧
    (s.pushHist cause level stage timeout).get RstHist.stage 0 = stage % 2 ^ 4 ∧
    (s.pushHist cause level stage timeout).flag RstHist.timeout 0 = timeout ∧
    (s.pushHist cause level stage timeout).get RstHist.seq 0 = s.rst.seq % 2 ^ 9 := by
  unfold State.flag
  simp only [State.get_pushHist]
  exact State.get_histEntry _ _ _ _ _ _

/-! ### RST_STATUS -/

/-- PS_KEPT after a reset of a level (R50). -/
def keptStore (s : State) : Bool := decide (2 ≤ s.rst.level) || (decide (s.rst.level = 1) && s.rst.psKept)

theorem keptStore_iff (s : State) : keptStore s = true ↔ (s.rst.level = 1 ∧ s.rst.psKept = true) ∨ 2 ≤ s.rst.level := by
  simp [keptStore, or_comm]

theorem State.rewriteStatus_rst (s : State) : s.rewriteStatus.rst = s.rst := by
  unfold State.rewriteStatus
  dsimp only
  split <;> simp

theorem State.get_rewriteStatus (s : State) : s.rewriteStatus.get RstStatus.cause 0 = sourceMask s.rst.sources % 2 ^ 16 ∧
    s.rewriteStatus.get RstStatus.level 0 = s.rst.level % 2 ^ 2 ∧ s.rewriteStatus.flag RstStatus.psKept 0 = keptStore s := by
  have kept : s.rewriteStatus.get RstStatus.psKept 0 =
      if (s.rst.level = 1 ∧ s.rst.psKept = true) ∨ 2 ≤ s.rst.level then 1 else 0 := by
    unfold State.rewriteStatus
    dsimp only
    split <;> split <;> simp (disch := decide)
  refine ⟨?_, ?_, ?_⟩
  · unfold State.rewriteStatus
    dsimp only
    split <;> simp (disch := decide) [RstStatus.cause]
  · unfold State.rewriteStatus
    dsimp only
    split <;> simp (disch := decide) [RstStatus.level]
  · rw [State.flag, kept]
    split
    next h => exact ((keptStore_iff s).mpr h).symm
    next h => exact (Bool.eq_false_iff.mpr fun k => h ((keptStore_iff s).mp k)).symm

theorem State.get_rewriteStatus_low (s : State) (h : s.rst.level ≤ 1) :
    s.rewriteStatus.get RstStatus.degraded 0 = 0 ∧ s.rewriteStatus.get RstStatus.clkFail 0 = 0 := by
  unfold State.rewriteStatus
  simp (disch := decide) [h]

theorem State.get_rewriteStatus_high (s : State) (h : 2 ≤ s.rst.level) :
    s.rewriteStatus.get RstStatus.degraded 0 = s.get RstStatus.degraded 0 ∧
    s.rewriteStatus.get RstStatus.clkFail 0 = s.get RstStatus.clkFail 0 := by
  unfold State.rewriteStatus
  have high : ¬s.rst.level ≤ 1 := by omega
  simp (disch := decide) [high]

theorem State.get_rewriteStatus_hist (s : State) (n : Nat) : ∀ f ∈ Reg.rstHist.fields, s.rewriteStatus.get f n = s.get f n := by
  intro f hf
  have apart : ∀ f ∈ Reg.rstHist.fields, ∀ g ∈ Reg.rstStatus.fields, g.apart f = true := by decide
  unfold State.rewriteStatus
  dsimp only
  split
  · rw [State.get_put_ne _ (apart f hf _ (by decide)), State.get_put_ne _ (apart f hf _ (by decide)),
      State.get_put_ne _ (apart f hf _ (by decide)), State.get_put_ne _ (apart f hf _ (by decide)),
      State.get_put_ne _ (apart f hf _ (by decide))]
  · rw [State.get_put_ne _ (apart f hf _ (by decide)), State.get_put_ne _ (apart f hf _ (by decide)),
      State.get_put_ne _ (apart f hf _ (by decide))]

/-! ### The end of a stretch -/

/-- The stretch ends with RESET_N released: its registers are rewritten, nothing starts yet. -/
def State.released (s : State) : State :=
  let t := s.rewriteStatus.pushHist (sourceMask s.rst.sources) s.rst.level s.rst.stageAt s.rst.timeout
  { t with
    pins := { t.pins with resetN := true },
    rst := { t.rst with stretch := false, endAt := t.now, sources := [], targets := [], timeout := false } }

theorem State.get_released (s : State) (f : Fld) (i : Nat) : s.released.get f i =
    (s.rewriteStatus.pushHist (sourceMask s.rst.sources) s.rst.level s.rst.stageAt s.rst.timeout).get f i := by
  unfold State.released
  generalize s.rewriteStatus.pushHist _ _ _ _ = t
  rfl

/-- What starts after a reset leaves what the stretch's end has shown: but for STATE, RST_STATUS and RST_HIST. -/
def AfterStretch (s t : State) : Prop :=
  t.rst.stretch = s.rst.stretch ∧ t.pins.resetN = s.pins.resetN ∧
  ∀ f i, f ∈ [RstStatus.cause, RstStatus.level, RstStatus.psKept, RstStatus.degraded, RstStatus.clkFail] ++ Reg.rstHist.fields →
    t.get f i = s.get f i

theorem AfterStretch.refl (s : State) : AfterStretch s s := ⟨rfl, rfl, fun _ _ _ => rfl⟩

theorem AfterStretch.of_resetUnit {s t : State} (h : t.resetUnit = s.resetUnit) : AfterStretch s t := by
  refine ⟨congrArg ResetSt.stretch (State.rst_of_resetUnit h), State.resetN_of_resetUnit h, fun f i hf => ?_⟩
  have shown : ∀ f ∈ [RstStatus.cause, RstStatus.level, RstStatus.psKept, RstStatus.degraded, RstStatus.clkFail] ++ Reg.rstHist.fields,
      f.lo < 32 ∧ resetRegs.any (fun r => r.ctorIdx == f.reg.ctorIdx) = true := by decide
  obtain ⟨lo, hreg⟩ := shown f hf
  exact State.get_of_resetUnit h lo hreg i

theorem AfterStretch.of_level (s : State) (level : Nat) : AfterStretch s { s with rst := { s.rst with level := level } } :=
  ⟨rfl, rfl, fun _ _ _ => rfl⟩

theorem AfterStretch.trans {s t u : State} (h : AfterStretch s t) (h' : AfterStretch t u) : AfterStretch s u := by
  obtain ⟨hstretch, hpin, hget⟩ := h
  obtain ⟨hstretch', hpin', hget'⟩ := h'
  exact ⟨hstretch'.trans hstretch, hpin'.trans hpin, fun f i hf => (hget' f i hf).trans (hget f i hf)⟩

theorem State.setDevState_after (s : State) (v : Nat) : AfterStretch s (s.setDevState v) := by
  have other : ∀ f ∈ [RstStatus.cause, RstStatus.level, RstStatus.psKept, RstStatus.degraded, RstStatus.clkFail] ++ Reg.rstHist.fields,
      TwStat.unfit.apart f = true ∧ RstStatus.state.apart f = true := by decide
  refine ⟨by simp [State.setDevState], by simp [State.setDevState], fun f i hf => ?_⟩
  obtain ⟨unfit, state⟩ := other f hf
  rw [State.setDevState, State.get_setUnfit_ne _ _ _ unfit, State.get_put_ne _ state]

theorem State.enterFoothill_after (s : State) : AfterStretch s s.enterFoothill := by
  unfold State.enterFoothill
  refine .trans (t := State.setDevState _ 3) (.trans ?_ (State.setDevState_after _ 3)) (.of_resetUnit (State.safeOutputs_resetUnit _))
  exact ⟨rfl, rfl, fun _ _ _ => rfl⟩

theorem State.beginStart_after (s : State) (bootPin : Bool) : AfterStretch s (s.beginStart bootPin) := by
  unfold State.beginStart
  extract_lets _ _ _ begun
  have hbegun : AfterStretch s begun := ⟨rfl, rfl, fun _ _ _ => rfl⟩
  split
  · exact hbegun.trans begun.enterFoothill_after
  · exact hbegun

/-- Only what restarts follows the release of RESET_N: a start, or the targets of an L3 reset. -/
theorem State.stretchEnd_after (s : State) (bootPin : Bool) (hstretch : s.rst.stretch = true) (hactive : s.rst.active = []) :
    AfterStretch s.released (s.stretchEnd bootPin) := by
  unfold State.stretchEnd
  rw [if_neg (by simp [hstretch, hactive])]
  extract_lets r pushed _ _ released
  have hreleased : released = s.released := rfl
  clear_value released
  subst hreleased
  split
  · exact s.released.beginStart_after bootPin
  · exact s.released.beginStart_after bootPin
  · split
    · exact .of_level _ 3
    · exact .refl _
  · split
    · exact .of_resetUnit (foldl_resetUnit (fun t x => t.restartTarget_resetUnit x) _ _)
    · exact .refl _

/-- Settles O13: the release rewrites RST_STATUS and pushes RST_HIST; what restarts after it moves neither. -/
theorem stretchEndRewritesStatusAndHistory : Obligations.StretchEndRewritesStatusAndHistory := by
  unfold Obligations.StretchEndRewritesStatusAndHistory
  intro bootPin s hstretch hactive hlevel
  obtain ⟨hended, hpin, hkept⟩ := s.stretchEnd_after bootPin hstretch hactive
  have apart : ∀ g ∈ [RstStatus.cause, RstStatus.level, RstStatus.psKept, RstStatus.degraded, RstStatus.clkFail],
      ∀ f ∈ Reg.rstHist.fields, f.apart g = true := by decide
  have status {f : Fld} (hf : f ∈ [RstStatus.cause, RstStatus.level, RstStatus.psKept, RstStatus.degraded, RstStatus.clkFail]) :
      (s.stretchEnd bootPin).get f 0 = s.rewriteStatus.get f 0 := by
    rw [hkept f 0 (List.mem_append_left _ hf), State.get_released, State.get_pushHist_ne _ _ _ _ _ (apart f hf)]
  have hist {f : Fld} (hf : f ∈ Reg.rstHist.fields) (i : Nat) : (s.stretchEnd bootPin).get f i =
      (s.rewriteStatus.pushHist (sourceMask s.rst.sources) s.rst.level s.rst.stageAt s.rst.timeout).get f i := by
    rw [hkept f i (List.mem_append_right _ hf), State.get_released]
  obtain ⟨hcause, hlvl, hps⟩ := s.get_rewriteStatus
  obtain ⟨hcause', hlvl', hstage, htimeout, hseq⟩ :=
    s.rewriteStatus.get_pushHist_new (sourceMask s.rst.sources) s.rst.level s.rst.stageAt s.rst.timeout
  have narrow : s.rst.level % 2 ^ 2 = s.rst.level := Nat.mod_eq_of_lt (by omega)
  refine ⟨s.stretchEnd bootPin, rfl, hended, hpin, ?_, ?_, ?_, fun low => ?_, fun high => ?_, ?_, ?_, ?_, ?_, ?_, fun n hn f hf => ?_⟩
  · rw [status (by decide), hcause]
  · rw [status (by decide), hlvl, narrow]
  · rw [State.flag, status (by decide)]
    exact hps
  · rw [status (by decide), status (by decide)]
    exact s.get_rewriteStatus_low low
  · rw [status (by decide), status (by decide)]
    exact s.get_rewriteStatus_high high
  · rw [hist (by decide), hcause']
  · rw [hist (by decide), hlvl', narrow]
  · rw [hist (by decide), hstage]
    rfl
  · rw [State.flag, hist (by decide)]
    exact htimeout
  · rw [hist (by decide), hseq, s.rewriteStatus_rst]
    rfl
  · rw [hist hf, State.get_pushHist_succ _ _ _ _ _ hn f hf, s.get_rewriteStatus_hist n f hf]

end Sys2Proof.Machine
end

section
/-! ## The steps of a start (R58, R59, R71, R73, R512), and the resumption of the print path and of a processor: O15 -/
namespace Sys2Proof.Machine

/-! ### The option read (R58, R59, R71) -/

theorem State.readOption_of_boot (s : State) {o : OptionBlock} (h : parseOption (s.flashBytes s.img.bootDev 0 64) = some o) :
    s.readOption.img.ob = some o ∧ s.readOption.get SysNode.nodeId 0 = o.nodeId % 2 ^ 14 := by
  unfold State.readOption
  simp only [h]
  refine ⟨?_, ?_⟩
  · rfl
  · unfold State.setNode
    simp (disch := decide)
    rfl

theorem State.readOption_of_none (s : State) (boot : parseOption (s.flashBytes s.img.bootDev 0 64) = none)
    (other : parseOption (s.flashBytes (1 - s.img.bootDev) 0 64) = none) : s.readOption.img.ob = none ∧
      s.readOption.get SysNode.nodeId 0 = 0x3FFF ∧ s.readOption.get SysNode.ethertype 0 = 0x88B5 := by
  unfold State.readOption
  simp only [boot, other]
  refine ⟨rfl, ?_, ?_⟩
  · unfold State.setNode
    simp (disch := decide)
    rfl
  · unfold State.setNode
    simp (disch := decide)
    rfl

/-- The image load begins, once the clocks run (R59, R71). -/
def State.beginLoad (s : State) : State := (({ s with pins := { s.pins with phase := .imageLoad } }).setStage 2).clockStep

theorem State.beginLoad_frame (s : State) :
    s.beginLoad.img = s.img ∧ s.beginLoad.pins.phase = .imageLoad ∧ 2 ≤ s.beginLoad.rst.stage ∧
      ∀ f i, s.beginLoad.get f i = s.get f i := by
  unfold State.beginLoad State.clockStep
  split
  · exact ⟨rfl, rfl, Nat.le_succ 2, fun _ _ => rfl⟩
  · exact ⟨rfl, rfl, Nat.le_refl 2, fun _ _ => rfl⟩

/-- The option read ends: outside a stretch, in its own step. -/
def OptionReading (s : State) : Prop := s.rst.stretch = false ∧ s.rst.stage = 1 ∧ s.pins.phase = .optionRead

theorem OptionReading.exec_eq {s : State} (h : OptionReading s) {o : OptionBlock} (ob : s.readOption.img.ob = some o)
    (free : o.forcedFoothill = false) :
    exec .optionBlockReadDone s = .next (s.readOption.put RstStart.forced 0 0).beginLoad := by
  obtain ⟨idle, stage, phase⟩ := h
  change execOptionBlockReadDone s = _
  unfold execOptionBlockReadDone
  rw [if_neg (by simp [idle, stage, phase])]
  simp only [ob, free, Bool.false_eq_true, if_false]
  rfl

theorem OptionReading.exec_eq_none {s : State} (h : OptionReading s) (ob : s.readOption.img.ob = none) :
    exec .optionBlockReadDone s = .next ((s.readOption.put RstStart.forced 0 0).record .cfgObInvalid 0 []).enterFoothill := by
  obtain ⟨idle, stage, phase⟩ := h
  change execOptionBlockReadDone s = _
  unfold execOptionBlockReadDone
  rw [if_neg (by simp [idle, stage, phase])]
  simp only [ob]

theorem optionBlockReadDone_good (s : State) (o : OptionBlock) (idle : s.rst.stretch = false) (stage : s.rst.stage = 1)
    (phase : s.pins.phase = .optionRead) (h : parseOption (s.flashBytes s.img.bootDev 0 64) = some o) (free : o.forcedFoothill = false) :
    ∃ t, exec .optionBlockReadDone s = .next t ∧ t.img.ob = some o ∧ t.pins.phase = .imageLoad ∧ 2 ≤ t.rst.stage ∧
      t.get SysNode.nodeId 0 = o.nodeId % 2 ^ 14 := by
  obtain ⟨hob, hnode⟩ := s.readOption_of_boot h
  obtain ⟨himg, hphase, hstage, hget⟩ := (s.readOption.put RstStart.forced 0 0).beginLoad_frame
  refine ⟨_, OptionReading.exec_eq ⟨idle, stage, phase⟩ hob free, ?_, hphase, hstage, ?_⟩
  · simpa only [himg, State.put_frame] using hob
  · rw [hget, State.get_put_ne _ (by decide), hnode]

/-- Foothill mode: the safe outputs, the state, and no start in progress (R80, R81). -/
theorem State.enterFoothill_facts (s : State) : s.enterFoothill.pins.phase = .foothill ∧ s.enterFoothill.get RstStatus.state 0 = 3 ∧
    s.enterFoothill.pins.atSafe ∧ s.enterFoothill.rst.starting = false := by
  unfold State.enterFoothill
  extract_lets _ _ _ entered
  have phase : (entered.setDevState 3).pins.phase = .foothill := by simp [State.setDevState, entered]
  have committed : (entered.setDevState 3).committed = true := by
    unfold State.committed
    rw [phase]
  refine ⟨?_, ?_, State.safeOutputs_atSafe _ committed, ?_⟩
  · unfold State.safeOutputs
    rw [if_pos committed]
    exact phase
  · rw [State.get_safeOutputs, State.setDevState, State.get_setUnfit_ne _ _ _ (by decide), State.get_put_self]
    rfl
  · simp [State.setDevState, entered]

theorem State.get_enterFoothill (s : State) {f : Fld} (state : RstStatus.state.apart f = true) (unfit : TwStat.unfit.apart f = true)
    (i : Nat) : s.enterFoothill.get f i = s.get f i := by
  unfold State.enterFoothill
  dsimp only
  rw [State.get_safeOutputs, State.setDevState, State.get_setUnfit_ne _ _ _ unfit, State.get_put_ne _ state]
  rfl

theorem optionBlockReadDone_bad (s : State) (idle : s.rst.stretch = false) (stage : s.rst.stage = 1)
    (phase : s.pins.phase = .optionRead) (boot : parseOption (s.flashBytes s.img.bootDev 0 64) = none)
    (other : parseOption (s.flashBytes (1 - s.img.bootDev) 0 64) = none) : ∃ t, exec .optionBlockReadDone s = .next t ∧
      t.pins.phase = .foothill ∧ t.get RstStatus.state 0 = 3 ∧ t.pins.atSafe ∧ t.get SysNode.nodeId 0 = 0x3FFF ∧
      t.get SysNode.ethertype 0 = 0x88B5 ∧ t.rst.starting = false := by
  obtain ⟨hob, hnode, htype⟩ := s.readOption_of_none boot other
  obtain ⟨hphase, hstate, hsafe, hstarting⟩ := ((s.readOption.put RstStart.forced 0 0).record .cfgObInvalid 0 []).enterFoothill_facts
  refine ⟨_, OptionReading.exec_eq_none ⟨idle, stage, phase⟩ hob, hphase, hstate, hsafe, ?_, ?_, hstarting⟩
  · rw [State.get_enterFoothill _ (by decide) (by decide), State.get_record _ _ _ _ _ _ (by decide), State.get_put_ne _ (by decide),
      hnode]
  · rw [State.get_enterFoothill _ (by decide) (by decide), State.get_record _ _ _ _ _ _ (by decide), State.get_put_ne _ (by decide),
      htype]

/-! ### The image load (R73) -/

theorem State.get_congr {s t : State} (h : t.regs = s.regs) (f : Fld) (i : Nat) : t.get f i = s.get f i := by
  rw [State.get, State.get, h]

theorem State.get64_put64 (s : State) {lo hi : Fld} (apart : hi.apart lo = true) (hlo : lo.width = 32) (hhi : hi.width = 32) (i v : Nat) :
    (s.put64 lo hi i v).get64 lo hi i = v % 2 ^ 64 := by
  unfold State.get64 State.put64
  rw [State.get_put_ne _ apart, State.get_put_self, State.get_put_self, hlo, hhi, Nat.mod_mod]
  exact (Nat.mod_mul (a := 2 ^ 32) (b := 2 ^ 32) (x := v)).symm

/-- The training of the DRAM begins: its step, MC_STAT and DDR_RESET_N (R512). -/
def State.beginTraining (s : State) : State :=
  let t := (s.setStage 4).put McStat.state 0 1
  { t with pins := { t.pins with ddrResetN := true } }

theorem State.get_beginTraining (s : State) : s.beginTraining.get McStat.state 0 = 1 :=
  (s.setStage 4).get_put_of_lt McStat.state 0 (v := 1) (by decide)

theorem State.get_beginTraining_ne (s : State) {f : Fld} (h : McStat.state.apart f = true) : s.beginTraining.get f 0 = s.get f 0 :=
  (s.setStage 4).get_put_ne h 0 0 1

/-- What the image shows of the slot that is loaded, before CFG_FWVER is read from it. -/
def State.slotShown (s : State) (dev : Nat) : State :=
  let t := (s.put CfgStatus.slot 0 dev).put CfgStatus.unsigned 0 (if s.unsigned dev then 1 else 0)
  (t.put CfgStatus.fallback 0 (if t.img.triedOther then 1 else 0)).put64 CfgGenLo.v CfgGenHi.v 0 (s.headerGen dev)

theorem State.get_slotShown (s : State) (dev : Nat) : (s.slotShown dev).get CfgStatus.slot 0 = dev % 2 ∧
    (s.slotShown dev).get64 CfgGenLo.v CfgGenHi.v 0 = s.headerGen dev % 2 ^ 64 := by
  refine ⟨?_, State.get64_put64 _ (by decide) rfl rfl 0 _⟩
  simp (disch := decide) [State.slotShown, State.put64]
  rfl

/-- In its step and with the clock of the DRAM, the slot that is loaded starts the training (R73). -/
theorem State.loadSlot_eq (s : State) (o : OptionBlock) (dev : Nat) (stage : s.rst.stage = 3)
    (clock : s.rst.qualified.getD 1 false = true) : ∃ t, s.loadSlot o dev = State.beginTraining t ∧
      ∀ f, (EvtLost.count.apart f && EvtLost.ovf.apart f && EvtWr.v.apart f) = true → CfgFwver.v.apart f = true →
        t.get f 0 = (s.slotShown dev).get f 0 := by
  unfold State.loadSlot
  extract_lets gen fw placed noted loaded _ versioned matched training _ up
  have hrst : matched.rst = s.rst := by
    dsimp only [matched]
    split <;> simp [versioned, loaded, noted, placed]
  have hregs : versioned.regs = ((s.slotShown dev).put CfgFwver.v 0 (leVal (noted.flashBytes dev (fw + 4) 4))).regs := by
    simp only [versioned]
    rfl
  have unloaded : ¬matched.rst.stage = 5 := by simp [hrst, stage]
  have clock' : up.rst.qualified.getD 1 false = true := by
    change matched.rst.qualified.getD 1 false = true
    rw [hrst, clock]
  rw [if_neg unloaded, if_pos clock']
  refine ⟨matched, rfl, fun f events version => ?_⟩
  have shown : versioned.get f 0 = (s.slotShown dev).get f 0 :=
    (State.get_congr hregs f 0).trans (State.get_put_ne _ version 0 0 _)
  dsimp only [matched]
  split
  · exact (State.get_record _ _ _ _ _ _ events).trans shown
  · exact shown

theorem imageReadDone_loads (s : State) (o : OptionBlock) (ob : s.img.ob = some o) (idle : s.rst.stretch = false)
    (stage : s.rst.stage = 3) (phase : s.pins.phase = .imageLoad) (clock : s.rst.qualified.getD 1 false = true)
    (good : s.slotFail (s.firstSlot o) = 0) :
    ∃ t, exec .imageReadDone s = .next t ∧ t.get CfgStatus.slot 0 = s.firstSlot o % 2 ∧
      t.get64 CfgGenLo.v CfgGenHi.v 0 = s.headerGen (s.firstSlot o) % 2 ^ 64 ∧ t.rst.stage = 4 ∧ t.get McStat.state 0 = 1 ∧
      t.pins.ddrResetN = true := by
  obtain ⟨u, hu, hget⟩ := s.loadSlot_eq o (s.firstSlot o) stage clock
  obtain ⟨hslot, hgen⟩ := s.get_slotShown (s.firstSlot o)
  have loaded : exec .imageReadDone s = .next u.beginTraining := by
    change execImageReadDone s = _
    unfold execImageReadDone
    simp only [ob]
    rw [if_neg (by simp [idle, stage, phase]), if_pos good, hu]
  refine ⟨_, loaded, ?_, ?_, rfl, u.get_beginTraining, rfl⟩
  · rw [u.get_beginTraining_ne (by decide), hget _ (by decide) (by decide), hslot]
  · unfold State.get64 at hgen ⊢
    rw [u.get_beginTraining_ne (by decide), u.get_beginTraining_ne (by decide), hget _ (by decide) (by decide),
      hget _ (by decide) (by decide), hgen]

/-! ### The training of the DRAM (R512) -/

/-- What the training of the DRAM has shown stays, and so does the place in the image. -/
def KeepsTraining (s t : State) : Prop :=
  t.img = s.img ∧ ∀ f ∈ [McStat.state, McCfg.speed, McCfg.density, McCfg.ranks2], t.get f 0 = s.get f 0

theorem KeepsTraining.refl (s : State) : KeepsTraining s s := ⟨rfl, fun _ _ => rfl⟩

theorem KeepsTraining.trans {s t u : State} (h : KeepsTraining s t) (h' : KeepsTraining t u) : KeepsTraining s u :=
  ⟨h'.1.trans h.1, fun f hf => (h'.2 f hf).trans (h.2 f hf)⟩

theorem KeepsTraining.of_regs {s t : State} (himg : t.img = s.img) (hregs : t.regs = s.regs) : KeepsTraining s t :=
  ⟨himg, fun f _ => State.get_congr hregs f 0⟩

theorem KeepsTraining.put (s : State) {f : Fld} (h : ∀ g ∈ [McStat.state, McCfg.speed, McCfg.density, McCfg.ranks2], f.apart g = true)
    (i v : Nat) : KeepsTraining s (s.put f i v) :=
  ⟨by simp, fun g hg => s.get_put_ne (h g hg) i 0 v⟩

theorem KeepsTraining.record (s : State) (c : EvCode) (n : Nat) (l : List EvArg) : KeepsTraining s (s.record c n l) := by
  have other : ∀ f ∈ [McStat.state, McCfg.speed, McCfg.density, McCfg.ranks2],
      (EvtLost.count.apart f && EvtLost.ovf.apart f && EvtWr.v.apart f) = true := by decide
  exact ⟨by simp, fun f hf => s.get_record c n l f 0 (other f hf)⟩

theorem KeepsTraining.foldl {α : Type} {f : State → α → State} (h : ∀ t x, KeepsTraining t (f t x)) (l : List α) (s : State) :
    KeepsTraining s (l.foldl f s) :=
  foldl_rel KeepsTraining.refl KeepsTraining.trans h l s

theorem State.loseStripe_training (s : State) (q i : Nat) : KeepsTraining s (s.loseStripe q i) := by
  unfold State.loseStripe
  split
  · exact .refl s
  split
  · exact .refl s
  · extract_lets lost noted asked
    have hnoted : KeepsTraining s noted := (KeepsTraining.of_regs rfl rfl).trans (.record _ _ _ _)
    have hasked : KeepsTraining s asked := by
      dsimp only [asked]
      split
      · exact hnoted.trans (.of_regs (by simp) (by simp))
      · exact hnoted
    exact hasked.trans (.of_regs (by simp [State.sendControl, apply_ite State.img]) (by simp [State.sendControl, apply_ite State.regs]))

theorem assignVerify_training (l : List Nat) (s : State) : KeepsTraining s (assignVerify l s) := by
  induction l generalizing s with
  | nil => exact .refl s
  | cons e l ih =>
    unfold assignVerify
    split
    · exact .refl s
    · refine .trans ?_ (ih _)
      exact .trans (.trans (.of_regs rfl rfl) (.put _ (by decide) _ _)) (.put _ (by decide) _ _)

theorem State.recheckStore_training (s : State) : KeepsTraining s s.recheckStore := by
  unfold State.recheckStore
  extract_lets checked _ closed
  have hchecked : KeepsTraining s checked := by
    refine .foldl (fun t p => ?_) _ s
    split
    · exact .foldl (fun u x => u.loseStripe_training _ _) _ t
    · exact .of_regs rfl rfl
  have hclosed : KeepsTraining s closed := by
    dsimp only [closed]
    split
    · exact hchecked.trans (.of_regs rfl rfl)
    · exact hchecked
  exact hclosed.trans (assignVerify_training _ _)

/-- What the training has found is shown (R512). -/
def State.trainingShown (s : State) (o : OptionBlock) (x : Training) : State :=
  ((((s.put McCfg.density 0 (x.density % 2)).put McCfg.ranks2 0 (x.ranks % 2)).put McCfg.speed 0 (o.speed - x.failed)).put
    McCfg.cap 0 (x.density % 2 + x.ranks % 2))

theorem State.get_trainingShown (s : State) {o : OptionBlock} (x : Training) (h : o.speed ≤ 2) :
    (s.trainingShown o x).get McCfg.speed 0 = o.speed - x.failed ∧ (s.trainingShown o x).get McCfg.density 0 = x.density % 2 ∧
    (s.trainingShown o x).get McCfg.ranks2 0 = x.ranks % 2 := by
  unfold State.trainingShown
  have narrow : o.speed - x.failed < 2 ^ McCfg.speed.width := by
    simp only [McCfg.speed]
    omega
  simp (disch := decide) [Nat.mod_eq_of_lt narrow]
  exact ⟨rfl, rfl⟩

/-- Each step down in speed and a geometry that is not the option block's are recorded (R512). -/
def State.trainingNoted (s : State) (o : OptionBlock) (x : Training) : State :=
  let t := ((List.range x.failed).foldl (fun u _ => u.record .mcSpeedDown 0 []) s).trainingShown o x
  if decide (x.density % 2 ≠ o.density ∨ x.ranks % 2 ≠ o.ranks) then (t.put McCfg.geoMismatch 0 1).record .mcGeoMismatch 0 [] else t

theorem State.get_trainingNoted (s : State) {o : OptionBlock} (x : Training) (h : o.speed ≤ 2) :
    (s.trainingNoted o x).get McCfg.speed 0 = o.speed - x.failed ∧ (s.trainingNoted o x).get McCfg.density 0 = x.density % 2 ∧
    (s.trainingNoted o x).get McCfg.ranks2 0 = x.ranks % 2 := by
  unfold State.trainingNoted
  extract_lets shown
  have hshown := ((List.range x.failed).foldl (fun u _ => u.record .mcSpeedDown 0 []) s).get_trainingShown x h
  split
  · have kept : KeepsTraining shown ((shown.put McCfg.geoMismatch 0 1).record .mcGeoMismatch 0 []) :=
      (KeepsTraining.put shown (by decide) 0 1).trans (.record _ _ _ _)
    rw [kept.2 _ (by decide), kept.2 _ (by decide), kept.2 _ (by decide)]
    exact hshown
  · exact hshown

/-- The DRAM runs, and the records of the image are opened. -/
def State.dramUp (s : State) : State := (s.put McStat.state 0 2).openRecords

theorem State.get_dramUp (s : State) : s.dramUp.get McStat.state 0 = 2 := s.get_put_of_lt McStat.state 0 (v := 2) (by decide)

theorem State.get_dramUp_ne (s : State) {f : Fld} (h : McStat.state.apart f = true) : s.dramUp.get f 0 = s.get f 0 :=
  s.get_put_ne h 0 0 2

theorem execDramTrainingDone_eq {s : State} {o : OptionBlock} {x : Training} (ob : s.img.ob = some o) (idle : s.rst.stretch = false)
    (stage : s.rst.stage = 4) (reached : x.failed ≤ o.speed) : exec (.dramTrainingDone x) s =
      .next (if (s.trainingNoted o x).dramUp.rst.psKept then (s.trainingNoted o x).dramUp.recheckStore
        else (s.trainingNoted o x).dramUp) := by
  change execDramTrainingDone x s = _
  unfold execDramTrainingDone
  simp only [ob]
  rw [if_neg (by simp [idle, stage]), if_neg (by omega)]
  rfl

theorem dramTrainingDone_opens (s : State) (o : OptionBlock) (x : Training) (ob : s.img.ob = some o) (idle : s.rst.stretch = false)
    (stage : s.rst.stage = 4) (reached : x.failed ≤ o.speed) (fast : o.speed ≤ 2) : ∃ t, exec (.dramTrainingDone x) s = .next t ∧
      t.get McStat.state 0 = 2 ∧ t.get McCfg.speed 0 = o.speed - x.failed ∧ t.get McCfg.density 0 = x.density % 2 ∧
      t.get McCfg.ranks2 0 = x.ranks % 2 ∧ t.img.applying = true ∧ t.img.recIdx = 0 := by
  obtain ⟨hspeed, hdensity, hranks⟩ := s.get_trainingNoted x fast
  have kept : KeepsTraining (s.trainingNoted o x).dramUp (if (s.trainingNoted o x).dramUp.rst.psKept then
      (s.trainingNoted o x).dramUp.recheckStore else (s.trainingNoted o x).dramUp) := by
    split
    · exact State.recheckStore_training _
    · exact .refl _
  obtain ⟨himg, hget⟩ := kept
  refine ⟨_, execDramTrainingDone_eq ob idle stage reached, ?_, ?_, ?_, ?_, ?_, ?_⟩
  · rw [hget _ (by decide), State.get_dramUp]
  · rw [hget _ (by decide), State.get_dramUp_ne _ (by decide), hspeed]
  · rw [hget _ (by decide), State.get_dramUp_ne _ (by decide), hdensity]
  · rw [hget _ (by decide), State.get_dramUp_ne _ (by decide), hranks]
  · rw [himg]
    rfl
  · rw [himg]
    rfl

/-! ### The resumption of the print path (R407) -/

/-- The print path comes up in RUN, before its ports, axes and slots restart. -/
def State.pathUp (s : State) : State :=
  let t := ({ s with rst := { s.rst with pathDown := false, level := 3, stage := 0 } }).setDevState 1
  if s.noPartner then { t with pages := t.pages.map t.reopen } else t.setUnfit unfitResync true

theorem State.pathUp_facts (s : State) :
    s.pathUp.rst.pathDown = false ∧ s.pathUp.rst.stage = 0 ∧ s.pathUp.get RstStatus.state 0 = 1 := by
  unfold State.pathUp
  extract_lets _ run
  have hrun : run.rst.pathDown = false ∧ run.rst.stage = 0 ∧ run.get RstStatus.state 0 = 1 := by
    refine ⟨by simp [run, State.setDevState], by simp [run, State.setDevState], ?_⟩
    dsimp only [run]
    rw [State.setDevState, State.get_setUnfit_ne _ _ _ (by decide), State.get_put_self]
    rfl
  obtain ⟨hpath, hstage, hstate⟩ := hrun
  split
  · exact ⟨hpath, hstage, hstate⟩
  · exact ⟨by simpa using hpath, by simpa using hstage, (run.get_setUnfit_ne _ _ (by decide) 0).trans hstate⟩

theorem State.resumePath_resetUnit {s : State} (down : s.rst.pathDown = true) (idle : s.rst.stretch = false)
    (phase : s.pins.phase = .configured) : s.resumePath.resetUnit = s.pathUp.resetUnit := by
  unfold State.resumePath
  rw [if_neg (by simp [down, idle, phase])]
  extract_lets alone _ marked run up ports axes slots
  have hup : up.resetUnit = s.pathUp.resetUnit := rfl
  have hports : ports.resetUnit = up.resetUnit := foldl_resetUnit (fun t p => t.restartBringUp_resetUnit p) _ _
  have haxes : axes.resetUnit = ports.resetUnit :=
    foldl_resetUnit (fun t n => by split; exacts [t.axisOn_resetUnit n, rfl]) _ _
  have hslots : slots.resetUnit = axes.resetUnit :=
    foldl_resetUnit (fun t n => by split; exacts [rfl, t.restartSlot_resetUnit n]) _ _
  simp [hslots, haxes, hports, hup]

theorem printPathResume_resumes (s : State) (down : s.rst.pathDown = true) (idle : s.rst.stretch = false)
    (phase : s.pins.phase = .configured) : ∃ t, exec .printPathResume s = .next t ∧ t.rst.pathDown = false ∧
      t.get RstStatus.state 0 = 1 ∧ t.rst.stage = 0 := by
  have kept := State.resumePath_resetUnit down idle phase
  obtain ⟨hpath, hstage, hstate⟩ := s.pathUp_facts
  refine ⟨s.resumePath, rfl, ?_, ?_, ?_⟩
  · rw [State.rst_of_resetUnit kept, hpath]
  · rw [State.get_of_resetUnit kept (by decide) (by decide), hstate]
  · rw [State.rst_of_resetUnit kept, hstage]

/-! ### The restart of a service processor (R20) -/

/-- The pins, the reset unit and the service processors. -/
def State.procs (s : State) : Pins × ResetSt × List Bool := (s.pins, s.rst, s.sps)

theorem State.syncStaged_procs (s : State) (g : TableGen) : (s.syncStaged g).procs = s.procs := by
  unfold State.syncStaged
  refine foldl_keeps State.procs (fun t n => ?_) _ s
  dsimp only
  split <;> simp [State.procs]

theorem State.sendGen_procs (s : State) (kind : Nat) (g : TableGen) : (s.sendGen kind g).procs = s.procs := by
  unfold State.sendGen
  split <;> simp [State.procs]

theorem State.commitNm_procs (s : State) (tab : Tab Nat) (analyser : Bool) : (s.commitNm tab analyser).procs = s.procs := by
  unfold State.commitNm
  dsimp only
  split
  · change (State.sendGen _ 0 _).procs = _
    rw [State.sendGen_procs]
    split
    · rw [State.syncStaged_procs]
      simp [State.procs]
    · simp [State.procs]
  · split <;> simp [State.procs]

theorem State.analyserCommit_procs (s : State) : s.analyserCommit.procs = s.procs := by
  unfold State.analyserCommit
  extract_lets g tab _ tried
  split
  · rfl
  split
  · rfl
  · exact (tried.commitNm_procs tab true).trans rfl

theorem spRestart_runs (p : Fin 4) (s : State) (shaped : s.shaped) (down : s.spUp p.val = false) :
    ∃ t, exec (.spRestart p) s = .next t ∧ t.spUp p.val = true ∧ (∀ q, q ≠ p.val → t.spUp q = s.spUp q) ∧ t.pins = s.pins ∧
      t.rst = s.rst := by
  obtain ⟨-, four, -⟩ := shaped
  obtain ⟨t, ht, hprocs⟩ : ∃ t, exec (.spRestart p) s = .next t ∧ t.procs = (s.pins, s.rst, s.sps.set p.val true) := by
    refine ⟨_, congrArg Host.Outcome.next (if_neg (by simp [down])), ?_⟩
    dsimp only
    split
    · exact State.analyserCommit_procs _
    · rfl
  simp only [State.procs, Prod.mk.injEq] at hprocs
  obtain ⟨hpins, hrst, hsps⟩ := hprocs
  refine ⟨t, ht, ?_, fun q hq => ?_, hpins, hrst⟩
  · rw [State.spUp, hsps]
    simp [four, p.isLt]
  · rw [State.spUp, State.spUp, hsps]
    simp [List.getElem?_set_ne (Ne.symm hq)]

/-- Settles O15, one clause per step of the start and one for each of the two resumptions. -/
theorem startRunsThroughItsSteps : Obligations.StartRunsThroughItsSteps := by
  unfold Obligations.StartRunsThroughItsSteps
  exact ⟨optionBlockReadDone_good, optionBlockReadDone_bad, imageReadDone_loads, dramTrainingDone_opens, printPathResume_resumes,
    spRestart_runs⟩

end Sys2Proof.Machine
end

section
/-! ## The records that write registers, and WAIT (R82): O20 -/
namespace Sys2Proof.Machine

/-! ### Writes that are allowed -/

theorem State.recordWrites_of_ok (l : List (Nat × Word)) (s : State) (ok : ∀ x ∈ l, recordOk x.1 x.2 = true) :
    s.recordWrites l = (l.foldl (fun u x => u.writeAddr x.1 x.2) s).nextRecord := by
  induction l generalizing s with
  | nil => rfl
  | cons x l ih =>
    rw [List.forall_mem_cons] at ok
    rw [State.recordWrites, if_pos ok.1, ih _ ok.2, List.foldl_cons]

/-- The writes of a TABLE_LOAD: its words at ascending addresses. -/
theorem tableWrites_eq (a : Nat) (data : List Word) :
    data.zipIdx.map (fun x => (a + 4 * x.2, x.1)) = (List.range data.length).map (fun k => (a + 4 * k, data.getD k 0)) := by
  refine List.ext_getElem (by simp) fun k hk _ => ?_
  have below : k < data.length := by simpa using hk
  simp [below]

theorem execTableLoad_of_ok (a : Nat) (data : List Word) (s : State) (applying : s.img.applying = true)
    (ok : ∀ k, k < data.length → recordOk (a + 4 * k) (data.getD k 0) = true) : exec (.tableLoad a data) s =
      .next ((List.range data.length).foldl (fun u k => u.writeAddr (a + 4 * k) (data.getD k 0)) s).nextRecord := by
  change Host.Outcome.next _ = _
  rw [if_pos applying, tableWrites_eq, State.recordWrites_of_ok, List.foldl_map]
  simpa using ok

/-! ### A slot that fails at step 6 (R81) -/

/-- The record being applied is noted as the one that failed its slot, and record application ends. -/
def State.recordFailed (s : State) : State :=
  let t := (s.put CfgStatus.failRec 0 (min s.img.recIdx 65535)).put CfgStatus.failStep 0 6
  { t with img := { s.img with applying := false } }

theorem State.recordFailed_kept (s : State) : FieldsKept (only [CfgStatus.failRec, CfgStatus.failStep]) s s.recordFailed :=
  ((FieldsKept.put s 0 _ (f := CfgStatus.failRec) (by decide) rfl).trans (.put _ 0 6 (f := CfgStatus.failStep) (by decide) rfl)).trans
    (.of_regs _ rfl)

/-- Without FALLBACK no other slot is tried. -/
theorem State.failRecord_eq {s : State} {o : OptionBlock} (ob : s.img.ob = some o) (alone : o.fallback = false) :
    s.failRecord = s.recordFailed.raiseSource 11 [] := by
  unfold State.failRecord
  simp only [ob]
  unfold State.slotFailed
  rw [if_neg (by simp [alone])]
  rfl

/-- A start is in progress in no stretch, no reset is held back, and the device is not the active twin. -/
def StartReady (s : State) : Prop :=
  s.rst.stretch = false ∧ s.twin.faultHold = none ∧ s.role ≠ roleActive ∧ s.get RstStatus.state 0 = 0

theorem StartReady.of_kept {p : Fld → Nat → Bool} {s t : State} (h : StartReady s) (kept : FieldsKept p s t)
    (hp : ∀ f ∈ resetFields, p f 0 = false) (hrst : t.rst = s.rst) (htwin : t.twin = s.twin) : StartReady t := by
  unfold StartReady State.role at *
  rw [hrst, htwin, kept.resetField hp (f := TwStat.role) (by decide), kept.resetField hp (f := RstStatus.state) (by decide)]
  exact h

theorem State.failStart_level (s : State) (src : Nat) : (s.failStart src).rst.level = s.rst.level := by
  unfold State.failStart
  split <;> rfl

/-- In a start a source carries its reset out at once, no shallower than the reset that the start follows (R46). -/
theorem StartReady.raiseAt_eq {s : State} (h : StartReady s) (src : Nat) {lvl : Nat} (hlvl : lvl < 3) (targets : List (Nat × Nat))
    (timeout : Bool) : s.raiseAt src lvl targets timeout =
      (s.beforeReset src lvl).applyReset (min lvl s.rst.level) [src] targets timeout := by
  obtain ⟨hstretch, hhold, hrole, hstate⟩ := h
  obtain ⟨-, -, -, htwin⟩ := s.failStart_frame src
  have role : (s.failStart src).role = s.role :=
    s.failStart_kept src _ _ 0 (by decide : TwStat.role ∈ Reg.twStat.fields) (by decide)
  unfold State.raiseAt State.beforeReset
  dsimp only
  rw [if_neg (by simp [hstretch]), if_neg (by omega), if_pos hlvl, if_pos hstate, if_neg (fun active => hrole (role ▸ active.1)), htwin,
    hhold, s.failStart_level]

/-- A reset at L0 or L1 outside a stretch ends record application. -/
theorem State.applyReset_applying (s : State) (hstretch : s.rst.stretch = false) {lvl : Nat} (hlvl : lvl ≤ 1) (srcs : List Nat)
    (targets : List (Nat × Nat)) (timeout : Bool) : (s.applyReset lvl srcs targets timeout).img.applying = false := by
  obtain rfl | rfl : lvl = 0 ∨ lvl = 1 := by omega
  · simp only [State.applyReset, hstretch]
    rfl
  · simp only [State.applyReset, hstretch]
    change s.warm.img.applying = false
    unfold State.warm
    dsimp only
    split <;> rfl

/-- The source of a failed slot resets the device at L0 or L1 (Table 03-2). -/
theorem State.fuseLevel_slotFailed (s : State) : s.fuseLevel 11 ≤ 1 := by
  simp [State.fuseLevel, permitted]

/-- What a failed slot leads to without FALLBACK: record application has ended, and source 11 has begun a stretch. -/
theorem State.failRecord_resets {s : State} {o : OptionBlock} (ob : s.img.ob = some o) (alone : o.fallback = false)
    (ready : StartReady s) :
    s.failRecord.img.applying = false ∧ ResetBy 11 (min (s.fuseLevel 11) s.rst.level) s.failRecord := by
  have failed : StartReady s.recordFailed := ready.of_kept s.recordFailed_kept (by decide) rfl rfl
  obtain ⟨hstretch, -, -, hsources⟩ := s.recordFailed.beforeReset_frame 11 (s.recordFailed.fuseLevel 11)
  rw [failed.1] at hstretch
  have low := s.fuseLevel_slotFailed
  have fuse := s.recordFailed_kept.fuseLevel (by decide) 11
  rw [State.failRecord_eq ob alone, State.raiseSource, failed.raiseAt_eq 11 (by omega), fuse]
  rw [fuse] at hstretch hsources
  exact ⟨State.applyReset_applying _ hstretch (by omega) _ _ _, State.applyReset_resetBy _ hstretch hsources _ _ _ _⟩

/-! ### Reads -/

/-- A read changes the snapshots of R510 alone. -/
theorem State.readAddr_eq (s : State) (a : Nat) : ∃ snap, (s.readAddr a).1 = { s with snap := snap } := by
  unfold State.readAddr
  split
  · unfold State.readReg
    split
    · dsimp only
      split <;> exact ⟨_, rfl⟩
    · exact ⟨_, rfl⟩
  · exact ⟨_, rfl⟩

/-- Settles O20: the writes follow the list of the record, and its first bad write or a WAIT that expires fails the slot. -/
theorem recordsAreAppliedInOrder : Obligations.RecordsAreAppliedInOrder := by
  unfold Obligations.RecordsAreAppliedInOrder
  refine ⟨fun pairs s applying ok => ?_, execTableLoad_of_ok, fun a m v s applying ok => ?_,
    fun o a w rest s applying ob alone idle unheld passive start bad => ?_, fun a m v s applying holds expired => ?_,
    fun o a m v s applying ob alone idle unheld passive start fails => ?_, fun s closed pairs triples a m v e data => ?_⟩
  · exact congrArg Host.Outcome.next ((if_pos applying).trans (s.recordWrites_of_ok pairs ok))
  · exact congrArg Host.Outcome.next ((if_pos applying).trans (if_pos ok))
  · obtain ⟨hended, hstretch, hpin, hsources, hlevel⟩ := State.failRecord_resets ob alone ⟨idle, unheld, passive, start⟩
    have refused : ¬recordOk a w = true := by simp [bad]
    exact ⟨s.failRecord, congrArg _ ((if_pos applying).trans (if_neg refused)), congrArg _ ((if_pos applying).trans (if_neg refused)),
      hended, hstretch, hpin, hsources, hlevel⟩
  · exact congrArg Host.Outcome.next ((if_neg (not_not.mpr applying)).trans (if_neg fun failed => failed.2 holds))
  · obtain ⟨snap, hread⟩ := s.readAddr_eq a
    have ready : StartReady { s with snap := snap } := ⟨idle, unheld, passive, start⟩
    obtain ⟨hended, hstretch, -, hsources, -⟩ := State.failRecord_resets (s := { s with snap := snap }) ob alone ready
    refine ⟨_, congrArg Host.Outcome.next ((if_neg (not_not.mpr applying)).trans (if_pos ⟨rfl, fails⟩)), ?_⟩
    rw [hread]
    exact ⟨hended, hstretch, hsources⟩
  · have shut : ¬s.img.applying = true := by simp [closed]
    exact ⟨congrArg _ (if_neg shut), congrArg _ (if_neg shut), congrArg _ (if_neg shut), congrArg _ (if_pos shut)⟩

end Sys2Proof.Machine
end

section
/-! ## Updates of a register field by field

What a fold over the fields of a register makes of each of them, and the plain part of a register write (Table 23-2). -/
namespace Sys2Proof.Machine

/-- A step changes registers at most. -/
def OnlyRegs (s t : State) : Prop := t = { s with regs := t.regs }

theorem OnlyRegs.refl (s : State) : OnlyRegs s s := rfl

theorem OnlyRegs.trans {s t u : State} (h : OnlyRegs s t) (h' : OnlyRegs t u) : OnlyRegs s u := by
  unfold OnlyRegs at *
  rw [h] at h'
  exact h'

theorem OnlyRegs.img {s t : State} (h : OnlyRegs s t) : t.img = s.img := by
  rw [h]

theorem OnlyRegs.put (s : State) (f : Fld) (i v : Nat) : OnlyRegs s (s.put f i v) := rfl

theorem OnlyRegs.foldl {α : Type} {f : State → α → State} (h : ∀ t x, OnlyRegs t (f t x)) (l : List α) (s : State) :
    OnlyRegs s (l.foldl f s) :=
  foldl_rel .refl .trans h l s

/-- Two fields of one register have keys of their own. -/
theorem Reg.fields_apart {r : Reg} {f g : Fld} (hf : f ∈ r.fields) (hg : g ∈ r.fields) (h : f ≠ g) : f.apart g = true := by
  have lo : f.lo ≠ g.lo := fun same => h (Reg.fields_inj hf hg same)
  simp [Fld.apart, (Reg.mem_fields hf).2, (Reg.mem_fields hg).2, lo]

theorem Reg.fields_nodup (r : Reg) : r.fields.Nodup := by
  have ok := r.fields_ok
  rw [Bool.and_eq_true, decide_eq_true_eq] at ok
  exact ok.2.of_map

/-- A fold whose step turns its own field from `v` to `value f v` and leaves the others alone does so to every field of the list. -/
theorem foldl_fields {update : State → Fld → State} {value : Fld → Nat → Nat} {i : Nat} {l : List Fld}
    (self : ∀ f ∈ l, ∀ t, (update t f).get f i = value f (t.get f i))
    (other : ∀ f ∈ l, ∀ g ∈ l, f ≠ g → ∀ t, (update t f).get g i = t.get g i) (nodup : l.Nodup) (s : State) :
    ∀ f ∈ l, (l.foldl update s).get f i = value f (s.get f i) := by
  have away (g : Fld) (l : List Fld) (alone : ∀ f ∈ l, ∀ t, (update t f).get g i = t.get g i) (s : State) :
      (l.foldl update s).get g i = s.get g i := by
    induction l generalizing s with
    | nil => rfl
    | cons f l ih =>
      rw [List.forall_mem_cons] at alone
      exact (ih alone.2 _).trans (alone.1 s)
  intro f hf
  obtain ⟨before, after, rfl⟩ := List.append_of_mem hf
  rw [List.nodup_middle, List.nodup_cons, List.mem_append, not_or] at nodup
  obtain ⟨⟨notBefore, notAfter⟩, -⟩ := nodup
  rw [List.foldl_append, List.foldl_cons,
    away f after fun g hg t => other g (by simp [hg]) f (by simp) (fun same => notAfter (same ▸ hg)) t, self f (by simp),
    away f before fun g hg t => other g (by simp [hg]) f (by simp) (fun same => notBefore (same ▸ hg)) t]

/-! ### The plain part of a write -/

/-- What the plain part of a write of `w` makes of the content of a field (Table 23-2, R527). -/
def Fld.stored (f : Fld) (w : Word) (old : Nat) : Nat :=
  match f.acc with
  | .rw | .rws => if f.legal (f.of w) then f.of w else old
  | .w1c => old - (old &&& f.of w)
  | .ro | .wo => old

/-- The plain part of a write, for one field. -/
def State.storeField (s : State) (i : Nat) (w : Word) (f : Fld) : State :=
  match f.acc with
  | .rw | .rws => if f.legal (f.of w) then s.put f i (f.of w) else s
  | .w1c => s.put f i (s.get f i - (s.get f i &&& f.of w))
  | .ro | .wo => s

theorem State.storeWord_eq_foldl (s : State) (r : Reg) (i : Nat) (w : Word) :
    s.storeWord r i w = r.fields.foldl (fun t f => t.storeField i w f) s := rfl

theorem Fld.of_lt (f : Fld) (w : Word) : f.of w < 2 ^ f.width := Nat.mod_lt _ (Nat.two_pow_pos _)

theorem State.storeField_cases (s : State) (i : Nat) (w : Word) (f : Fld) :
    (s.storeField i w f = s ∧ f.stored w (s.get f i) = s.get f i) ∨ s.storeField i w f = s.put f i (f.stored w (s.get f i)) := by
  unfold State.storeField Fld.stored
  split
  · split
    · exact .inr rfl
    · exact .inl ⟨rfl, rfl⟩
  · split
    · exact .inr rfl
    · exact .inl ⟨rfl, rfl⟩
  · exact .inr rfl
  · exact .inl ⟨rfl, rfl⟩
  · exact .inl ⟨rfl, rfl⟩

theorem Fld.stored_lt (f : Fld) (w : Word) {old : Nat} (h : old < 2 ^ f.width) : f.stored w old < 2 ^ f.width := by
  have taken := f.of_lt w
  unfold Fld.stored
  split
  · split <;> assumption
  · split <;> assumption
  · omega
  · exact h
  · exact h

/-- What a field of a register reads after the plain part of a write. -/
theorem State.get_storeWord (s : State) {r : Reg} {f : Fld} (hf : f ∈ r.fields) (i : Nat) (w : Word) :
    (s.storeWord r i w).get f i = f.stored w (s.get f i) := by
  refine foldl_fields (update := fun t f => t.storeField i w f) (value := fun f => f.stored w) (fun f _ t => ?_)
    (fun f hf g hg ne t => ?_) r.fields_nodup s f hf
  · obtain ⟨kept, same⟩ | written := t.storeField_cases i w f
    · rw [kept, same]
    · rw [written, State.get_put_of_lt _ _ _ (f.stored_lt w (t.get_lt f i))]
  · obtain ⟨kept, -⟩ | written := t.storeField_cases i w f
    · rw [kept]
    · rw [written, State.get_put_ne _ (Reg.fields_apart hf hg ne)]

/-- It writes the register's own fields alone. -/
theorem State.storeWord_kept {p : Fld → Nat → Bool} (s : State) {r : Reg} {i : Nat} (hp : ∀ f ∈ r.fields, p f i = true) (w : Word) :
    FieldsKept p s (s.storeWord r i w) := by
  have stores (l : List Fld) (hl : ∀ f ∈ l, f ∈ r.fields) (s : State) : FieldsKept p s (l.foldl (fun t f => t.storeField i w f) s) := by
    induction l generalizing s with
    | nil => exact .refl p s
    | cons f l ih =>
      rw [List.forall_mem_cons] at hl
      have stored : FieldsKept p s (s.storeField i w f) := by
        obtain ⟨kept, -⟩ | written := s.storeField_cases i w f
        · exact .of_regs p (by rw [kept])
        · rw [written]
          exact .put s i _ ((Reg.mem_fields hl.1).1 ▸ hl.1) (hp f hl.1)
      exact stored.trans (ih hl.2 _)
  exact stores r.fields (fun _ h => h) s

theorem OnlyRegs.storeWord (s : State) (r : Reg) (i : Nat) (w : Word) : OnlyRegs s (s.storeWord r i w) := by
  rw [s.storeWord_eq_foldl]
  refine .foldl (fun t f => ?_) r.fields s
  obtain ⟨kept, -⟩ | written := t.storeField_cases i w f
  · rw [kept]
    exact .refl t
  · rw [written]
    exact .put t f i _

end Sys2Proof.Machine
end

section
/-! ## The flash devices (R85): O22 -/
namespace Sys2Proof.Machine

/-! ### The start of an operation -/

/-- With GO and a right KEY, while the port is free, the operation is refused by R85 or begins. -/
theorem State.writeFlCtrl_go {s : State} {value : Word} (key : keyOk value = true) (go : CfgFlCtrl.go.of value = 1)
    (op : CfgFlCtrl.op.of value ≤ 3) (free : s.get CfgFlCtrl.busy 0 = 0) {addr len : Nat} (hAddr : addr = s.get CfgFlAddr.v 0)
    (hLen : len = CfgFlCtrl.lenm1.of value + 1) : s.writeFlCtrl value =
      if 1 ≤ CfgFlCtrl.op.of value ∧ s.get RstStatus.state 0 ≠ 3 ∧ CfgFlCtrl.cs.of value = s.get CfgStatus.slot 0 ∧
          imageBase < (flashRange (CfgFlCtrl.op.of value) addr len).1 + (flashRange (CfgFlCtrl.op.of value) addr len).2
      then (s.storeWord .cfgFlCtrl 0 value).put CfgFlCtrl.refused 0 1
      else ({ s.storeWord .cfgFlCtrl 0 value with
        img := { s.img with flOp := some (CfgFlCtrl.cs.of value, CfgFlCtrl.op.of value, addr, len) } }).put CfgFlCtrl.busy 0 1 := by
  subst hAddr hLen
  have own {f : Fld} (hf : f ∈ Reg.cfgFlCtrl.fields) := s.get_storeWord hf 0 value
  have other {f : Fld} (hf : f ∈ f.reg.fields) (away : only Reg.cfgFlCtrl.fields f 0 = false) :
      (s.storeWord .cfgFlCtrl 0 value).get f 0 = s.get f 0 :=
    s.storeWord_kept (r := .cfgFlCtrl) (p := only Reg.cfgFlCtrl.fields) (by decide) value _ f 0 hf away
  have himg : (s.storeWord .cfgFlCtrl 0 value).img = s.img := (OnlyRegs.storeWord s .cfgFlCtrl 0 value).img
  have hop : (s.storeWord .cfgFlCtrl 0 value).get CfgFlCtrl.op 0 = CfgFlCtrl.op.of value :=
    (own (by decide)).trans (if_pos (decide_eq_true op))
  have hcs : (s.storeWord .cfgFlCtrl 0 value).get CfgFlCtrl.cs 0 = CfgFlCtrl.cs.of value := own (by decide)
  have hlen : (s.storeWord .cfgFlCtrl 0 value).get CfgFlCtrl.lenm1 0 = CfgFlCtrl.lenm1.of value := own (by decide)
  have hbusy : (s.storeWord .cfgFlCtrl 0 value).flag CfgFlCtrl.busy 0 = false := by
    rw [State.flag, own (by decide)]
    change (s.get CfgFlCtrl.busy 0 == 1) = false
    rw [free]
    rfl
  unfold State.writeFlCtrl
  rw [if_neg (by simp [key])]
  dsimp only
  rw [hop, hcs, hlen, himg, other (f := CfgFlAddr.v) (by decide) (by decide), other (f := RstStatus.state) (by decide) (by decide),
    other (f := CfgStatus.slot) (by decide) (by decide), if_neg (by simp [go, hbusy, Nat.lt_succ_of_le op])]

theorem State.writeFlCtrl_badKey (s : State) {value : Word} (key : keyOk value = false) : s.writeFlCtrl value = s :=
  if_pos (by simp [key])

/-! ### Bytes of a device -/

/-- A filter by key keeps what the keys that pass it hold. -/
theorem Tab.find_filter {α : Type} (p : Nat → Bool) (t : Tab α) (k : Nat) :
    Tab.find (t.filter fun e => p e.1) k = if p k then Tab.find t k else none := by
  induction t with
  | nil => simp [Tab.find]
  | cons e t ih =>
    obtain ⟨k', v⟩ := e
    by_cases same : k' = k
    · subst same
      by_cases pass : p k' = true
      · simp [Tab.find, pass]
      · simp [pass, ih]
    · by_cases pass : p k' = true
      · simp [Tab.find, pass, same, ih]
      · simp [Tab.find, pass, same, ih]

/-- Programming ANDs a byte into each place of its range (log 8). -/
def Tab.programmed (m : Tab Byte) (addr len : Nat) (data : Nat → Byte) : Tab Byte :=
  (List.range len).foldl (fun m i => Tab.set 0xFF m (addr + i) (Tab.get 0xFF m (addr + i) &&& data i)) m

theorem Tab.get_programmed (m : Tab Byte) (addr len : Nat) (data : Nat → Byte) (a : Nat) :
    Tab.get 0xFF (m.programmed addr len data) a =
      if addr ≤ a ∧ a < addr + len then Tab.get 0xFF m a &&& data (a - addr) else Tab.get 0xFF m a := by
  induction len with
  | zero => rw [if_neg (by omega)]; rfl
  | succ n ih =>
    have last : m.programmed addr (n + 1) data =
        Tab.set 0xFF (m.programmed addr n data) (addr + n) (Tab.get 0xFF (m.programmed addr n data) (addr + n) &&& data n) := by
      simp [Tab.programmed, List.range_succ]
    rw [last, Tab.get_set]
    by_cases here : addr + n = a
    · subst here
      rw [if_pos rfl, ih, if_neg (by omega), if_pos (by omega), Nat.add_sub_cancel_left]
    · rw [if_neg here, ih]
      exact if_congr (by omega) rfl rfl

theorem State.flashByte_setFlash (s : State) {dev : Nat} (hdev : dev < s.img.flash.length) (f : Tab Byte → Tab Byte) (a : Nat) :
    (s.setFlash dev f).flashByte dev a = Tab.get 0xFF (f (s.img.flash.getD dev [])) a := by
  simp [State.flashByte, State.setFlash, hdev]

theorem State.flashByte_setFlash_ne (s : State) {dev dev' : Nat} (h : dev ≠ dev') (f : Tab Byte → Tab Byte) (a : Nat) :
    (s.setFlash dev f).flashByte dev' a = s.flashByte dev' a := by
  simp [State.flashByte, State.setFlash, List.getD_eq_getElem?_getD, List.getElem?_set_ne h]

/-! ### Bytes of the buffer -/

/-- A byte of a word is replaced, and the others stay. -/
theorem byte_replaced {w b i j : Nat} (hw : w < 2 ^ 32) (hb : b < 256) (hi : i < 4) (hj : j < 4) :
    (w - w / 256 ^ i % 256 * 256 ^ i + b * 256 ^ i) % 2 ^ 32 / 256 ^ j % 256 = if i = j then b else w / 256 ^ j % 256 := by
  interval_cases i <;> interval_cases j <;> simp <;> omega

theorem State.bufByte_setBufByte (s : State) (i j : Nat) (b : Byte) :
    (s.setBufByte i b).bufByte j = if i = j then b else s.bufByte j := by
  unfold State.bufByte State.setBufByte
  dsimp only
  by_cases same : i / 4 = j / 4
  · rw [← same, State.get_put_self]
    refine BitVec.eq_of_toNat_eq ?_
    have byte := byte_replaced (s.get_lt CfgFlBuf.v (i / 4)) b.isLt (Nat.mod_lt i (by decide : 0 < 4)) (Nat.mod_lt j (by decide : 0 < 4))
    rw [BitVec.toNat_ofNat]
    refine byte.trans ?_
    by_cases here : i = j
    · rw [if_pos (by omega), if_pos here]
    · rw [if_neg (by omega), if_neg here, BitVec.toNat_ofNat]
  · rw [State.get_put_idx _ _ same, if_neg (by omega)]

/-- The bytes of a range are written into the buffer from its start on. -/
def State.bufFilled (s : State) (len : Nat) (data : Nat → Byte) : State :=
  (List.range len).foldl (fun t i => t.setBufByte i (data i)) s

theorem State.bufByte_bufFilled (s : State) {len i : Nat} (h : i < len) (data : Nat → Byte) : (s.bufFilled len data).bufByte i = data i := by
  induction len with
  | zero => omega
  | succ n ih =>
    have last : s.bufFilled (n + 1) data = (s.bufFilled n data).setBufByte n (data n) := by simp [State.bufFilled, List.range_succ]
    rw [last, State.bufByte_setBufByte]
    by_cases here : n = i
    · rw [if_pos here, here]
    · rw [if_neg here, ih (by omega)]

theorem OnlyRegs.bufFilled (s : State) (len : Nat) (data : Nat → Byte) : OnlyRegs s (s.bufFilled len data) :=
  .foldl (fun t _ => .put t _ _ _) _ s

theorem State.get_bufFilled (s : State) (len : Nat) (data : Nat → Byte) {f : Fld} (h : CfgFlBuf.v.apart f = true) (i : Nat) :
    (s.bufFilled len data).get f i = s.get f i :=
  foldl_keeps (fun t => t.get f i) (fun t _ => t.get_put_ne h _ i _) _ s

/-! ### The end of an operation -/

/-- No operation is in progress any more. -/
def State.flashIdle (s : State) : State := ({ s with img := { s.img with flOp := none } }).put CfgFlCtrl.busy 0 0

theorem State.flashIdle_busy (s : State) : s.flashIdle.get CfgFlCtrl.busy 0 = 0 :=
  State.get_put_of_lt _ CfgFlCtrl.busy 0 (v := 0) (by decide)

theorem State.bufByte_flashIdle (s : State) (i : Nat) : s.flashIdle.bufByte i = s.bufByte i := by
  unfold State.bufByte
  exact congrArg (fun w => BitVec.ofNat 8 (w / 256 ^ (i % 4)))
    (State.get_put_ne _ (f := CfgFlCtrl.busy) (g := CfgFlBuf.v) (by decide) 0 (i / 4) 0)

section
variable {s : State} {dev op addr len : Nat}

theorem State.flashDone_read (h : s.img.flOp = some (dev, 0, addr, len)) :
    s.flashDone = s.flashIdle.bufFilled len (fun i => s.flashByte dev (addr + i)) := by
  unfold State.flashDone
  simp only [h]
  rfl

theorem State.flashDone_program (h : s.img.flOp = some (dev, 1, addr, len)) :
    s.flashDone = s.flashIdle.setFlash dev (fun m => m.programmed addr len s.bufByte) := by
  rw [← funext s.bufByte_flashIdle]
  unfold State.flashDone
  simp only [h]
  rfl

/-- Erasing unlists the bytes of its range (log 7). -/
def Tab.erased (m : Tab Byte) (r : Nat × Nat) : Tab Byte := m.filter (fun e => decide (e.1 < r.1) || decide (r.1 + r.2 ≤ e.1))

theorem Tab.get_erased (m : Tab Byte) (r : Nat × Nat) (a : Nat) :
    Tab.get 0xFF (m.erased r) a = if r.1 ≤ a ∧ a < r.1 + r.2 then 0xFF else Tab.get 0xFF m a := by
  have found := Tab.find_filter (fun k => decide (k < r.1) || decide (r.1 + r.2 ≤ k)) m a
  unfold Tab.get Tab.erased
  rw [found]
  by_cases inside : r.1 ≤ a ∧ a < r.1 + r.2
  · rw [if_pos inside, if_neg (by simp; omega)]
    rfl
  · rw [if_neg inside, if_pos (by simp; omega)]

theorem State.flashDone_erase (h : s.img.flOp = some (dev, op, addr, len)) (erase : 2 ≤ op) :
    s.flashDone = s.flashIdle.setFlash dev (fun m => m.erased (flashRange op addr len)) := by
  obtain ⟨n, rfl⟩ : ∃ n, op = n + 2 := ⟨op - 2, by omega⟩
  unfold State.flashDone
  simp only [h]
  rfl

/-- What the end of an operation on a device leaves: the port is free, and of the rest of the device the registers and the contents
of that flash device alone have changed. -/
def FlashEnded (s t : State) (dev : Nat) : Prop :=
  t.get CfgFlCtrl.busy 0 = 0 ∧ t.img.flOp = none ∧
  t = { s with regs := t.regs, img := { s.img with flOp := none, flash := t.img.flash } } ∧
  ∀ a, t.flashByte (1 - dev) a = s.flashByte (1 - dev) a

theorem FlashEnded.setFlash (two : dev < 2) (f : Tab Byte → Tab Byte) : FlashEnded s (s.flashIdle.setFlash dev f) dev :=
  ⟨(State.get_setFlash _ _ _ _ _).trans s.flashIdle_busy, rfl, rfl, fun a => s.flashIdle.flashByte_setFlash_ne (by omega) f a⟩

theorem FlashEnded.bufFilled (data : Nat → Byte) : FlashEnded s (s.flashIdle.bufFilled len data) dev := by
  have rest := OnlyRegs.bufFilled s.flashIdle len data
  have himg : (s.flashIdle.bufFilled len data).img = { s.img with flOp := none } := rest.img
  refine ⟨(State.get_bufFilled _ _ _ (by decide) 0).trans s.flashIdle_busy, by rw [himg], ?_, fun a => ?_⟩
  · rw [himg]
    exact rest
  · rw [State.flashByte, himg, State.flashByte]

end

/-- Settles O22: the port is free when GO is written, so the operation begins or is refused; at its end each byte reads as R85 says. -/
theorem flashAccess : Obligations.FlashAccess := by
  unfold Obligations.FlashAccess
  refine ⟨fun value s key go op free allowed => ?_, fun value s key go erases op free started own reaches => ?_, fun value s key => ?_,
    fun dev op addr len s running two hdev short hop => ?_⟩
  · have begun := State.writeFlCtrl_go key go op free rfl rfl
    rw [if_neg (by unfold imageBase; omega)] at begun
    have stored := OnlyRegs.storeWord s .cfgFlCtrl 0 value
    refine ⟨s.writeFlCtrl value, rfl, rfl, rfl, rfl, ?_, ?_, ?_⟩
    · rw [begun, stored]
      rfl
    · rw [begun]
      exact State.get_put_of_lt _ CfgFlCtrl.busy 0 (v := 1) (by decide)
    · rw [begun]
      exact ((s.storeWord_kept (by decide) value).trans (.of_regs _ rfl)).trans (.put _ 0 1 (by decide) (by decide))
  · have refused := State.writeFlCtrl_go key go op free rfl rfl
    rw [if_pos ⟨erases, started, own, reaches⟩] at refused
    have stored := OnlyRegs.storeWord s .cfgFlCtrl 0 value
    refine ⟨s.writeFlCtrl value, rfl, rfl, rfl, ?_, ?_, ?_⟩
    · rw [refused, stored]
      rfl
    · rw [refused, State.get_put_ne _ (by decide), s.get_storeWord (by decide)]
      exact free
    · rw [refused]
      exact State.get_put_of_lt _ CfgFlCtrl.refused 0 (v := 1) (by decide)
  · have ignored : Host.Outcome.next (s.writeFlCtrl value) = (.next s : Ans) := congrArg _ (s.writeFlCtrl_badKey key)
    exact ⟨ignored, ignored, ignored, ignored⟩
  · refine ⟨s.flashDone, rfl, ?_⟩
    have present : dev < s.flashIdle.img.flash.length := by
      change dev < s.img.flash.length
      omega
    obtain rfl | rfl | erase : op = 0 ∨ op = 1 ∨ 2 ≤ op := by omega
    · rw [State.flashDone_read running]
      obtain ⟨hbusy, hop, hrest, hother⟩ : FlashEnded s _ dev := .bufFilled (fun i => s.flashByte dev (addr + i))
      have kept := (OnlyRegs.bufFilled s.flashIdle len (fun i => s.flashByte dev (addr + i))).img
      exact ⟨hbusy, hop, hrest, hother,
        fun _ => ⟨(congrArg ImageSt.flash kept).trans rfl, fun i hi => State.bufByte_bufFilled _ hi _⟩, by omega, by omega⟩
    · rw [State.flashDone_program running]
      obtain ⟨hbusy, hop, hrest, hother⟩ : FlashEnded s _ dev := .setFlash hdev (fun m => m.programmed addr len s.bufByte)
      refine ⟨hbusy, hop, hrest, hother, by omega, fun _ => ⟨fun i hi => ?_, fun a outside => ?_⟩, by omega⟩
      · rw [State.flashByte_setFlash _ present, Tab.get_programmed, if_pos (by omega), Nat.add_sub_cancel_left]
        rfl
      · rw [State.flashByte_setFlash _ present, Tab.get_programmed, if_neg (by omega)]
        rfl
    · rw [State.flashDone_erase running erase]
      obtain ⟨hbusy, hop, hrest, hother⟩ : FlashEnded s _ dev := .setFlash hdev (fun m => m.erased (flashRange op addr len))
      refine ⟨hbusy, hop, hrest, hother, by omega, by omega, fun _ a => ?_⟩
      rw [State.flashByte_setFlash _ present, Tab.get_erased]
      rfl

end Sys2Proof.Machine
end

section
/-! ## THR_ARRAY, HEAD_TABLE and FUSE_PROGRAM (R79, R83, R174, R188): O21 -/
namespace Sys2Proof.Machine

/-! ### A threshold array -/

/-- Writes of elements of one field: the element that they give one value reads so. -/
theorem State.get_foldl_put (f : Fld) {i v : Nat} (l : List (Nat × Nat)) (s : State) (agree : ∀ e ∈ l, e.1 = i → e.2 = v)
    (given : (i, v) ∈ l ∨ s.get f i = v % 2 ^ f.width) : (l.foldl (fun t e => t.put f e.1 e.2) s).get f i = v % 2 ^ f.width := by
  induction l generalizing s with
  | nil => simpa using given
  | cons e l ih =>
    rw [List.forall_mem_cons] at agree
    refine ih _ agree.2 ?_
    by_cases here : e.1 = i
    · right
      change (s.put f e.1 e.2).get f i = _
      rw [here, State.get_put_self, agree.1 here]
    · rw [State.get_put_idx _ _ here]
      refine given.imp_left fun listed => (List.mem_cons.mp listed).resolve_left fun same => here (by rw [← same])

/-- Where the window of a slot holds word `n` of cell `j` of an array of a width (Table 08-2). -/
def thrIndex (k width j n : Nat) : Nat := 262144 * k + 4 * (256 * (j / width) + j % width) + n

/-- No two words of the cells of an array stand in one place. -/
theorem thrIndex_inj {k width j j' n n' : Nat} (low : 1 ≤ width) (high : width ≤ 256) (hn : n < 4) (hn' : n' < 4)
    (h : thrIndex k width j n = thrIndex k width j' n') : j = j' ∧ n = n' := by
  have hj := Nat.mod_lt j low
  have hj' := Nat.mod_lt j' low
  unfold thrIndex at h
  have row : j / width = j' / width := by omega
  have col : j % width = j' % width := by omega
  refine ⟨?_, by omega⟩
  rw [← Nat.div_add_mod j width, ← Nat.div_add_mod j' width, row, col]

/-- The writes of an array's cells, with their places. -/
def thrWrites (k width : Nat) (cells : List (List Word)) : List (Nat × Nat) :=
  cells.zipIdx.flatMap fun c => c.1.zipIdx.map fun x => (thrIndex k width c.2 x.2, x.1.toNat)

theorem mem_thrWrites {k width : Nat} {cells : List (List Word)} {e : Nat × Nat} :
    e ∈ thrWrites k width cells ↔
      ∃ j n cell x, cells[j]? = some cell ∧ cell[n]? = some x ∧ e = (thrIndex k width j n, x.toNat) := by
  simp only [thrWrites, List.mem_flatMap, List.mem_map, Prod.exists, List.mem_zipIdx_iff_getElem?]
  constructor
  · rintro ⟨c, j, hc, x, n, hx, rfl⟩
    exact ⟨j, n, c, x, hc, hx, rfl⟩
  · rintro ⟨j, n, c, x, hc, hx, rfl⟩
    exact ⟨c, j, hc, x, n, hx, rfl⟩

/-- A slot is opened and its sizes and cells are written. -/
def State.thrLoaded (s : State) (k width height : Nat) (cells : List (List Word)) : State :=
  (thrWrites k width cells).foldl (fun t e => t.put ThrWin.v e.1 e.2)
    (((s.put ScrThrCtl.state k 1).put ScrThrCtl.width k width).put ScrThrCtl.height k height)

/-- The check at the end of a load: its first cell out of order empties the slot. -/
def State.thrJudged (s : State) (k : Nat) : State :=
  match s.thrBad k with
  | none => s.put ScrThrCtl.state k 2
  | some (u, w) => ((s.put ScrThrCtl.state k 0).put ScrThrCtl.monoErr k 1).record .scrThrMono k [a8 u, a8 w]

theorem OnlyRegsEv.thrLoaded (s : State) (k width height : Nat) (cells : List (List Word)) :
    OnlyRegsEv s (s.thrLoaded k width height cells) :=
  .trans (t := ((s.put ScrThrCtl.state k 1).put ScrThrCtl.width k width).put ScrThrCtl.height k height) rfl
    (.foldl (fun t _ => .put t _ _ _) _ _)

theorem OnlyRegsEv.thrJudged (s : State) (k : Nat) : OnlyRegsEv s (s.thrJudged k) := by
  unfold State.thrJudged
  split
  · exact .put s _ _ _
  · exact .trans (t := (s.put ScrThrCtl.state k 0).put ScrThrCtl.monoErr k 1) rfl (.record _ _ _ _)

theorem OnlyRegsEv.nextRecord {s t : State} (h : OnlyRegsEv s t) :
    t.nextRecord = { s with regs := t.regs, ev := t.ev, img := { s.img with recIdx := s.img.recIdx + 1 } } := by
  rw [h]
  rfl

/-- What the check leaves: the sizes and the cells. -/
theorem State.get_thrJudged (s : State) (k : Nat) {f : Fld} (hf : f ∈ [ScrThrCtl.width, ScrThrCtl.height, ThrWin.v]) (i : Nat) :
    (s.thrJudged k).get f i = s.get f i := by
  have other : ∀ f ∈ [ScrThrCtl.width, ScrThrCtl.height, ThrWin.v], ScrThrCtl.state.apart f = true ∧ ScrThrCtl.monoErr.apart f = true ∧
      (EvtLost.count.apart f && EvtLost.ovf.apart f && EvtWr.v.apart f) = true := by decide
  obtain ⟨state, mono, events⟩ := other f hf
  unfold State.thrJudged
  split
  · exact s.get_put_ne state k i 2
  · rw [State.get_record _ _ _ _ _ _ events, State.get_put_ne _ mono, State.get_put_ne _ state]

theorem State.get_nextRecord (s : State) (f : Fld) (i : Nat) : s.nextRecord.get f i = s.get f i := rfl

theorem State.thrCell_nextRecord (s : State) : s.nextRecord.thrCell = s.thrCell := rfl

theorem State.thrWord_nextRecord (s : State) : s.nextRecord.thrWord = s.thrWord := rfl

theorem State.thrWord_thrJudged (s : State) (k : Nat) : (s.thrJudged k).thrWord = s.thrWord := by
  funext slot u w n
  exact s.get_thrJudged k (f := ThrWin.v) (by decide) _

theorem State.thrCell_thrJudged (s : State) (k : Nat) : (s.thrJudged k).thrCell = s.thrCell := by
  unfold State.thrCell
  rw [s.thrWord_thrJudged]

section
variable (s : State) {k width height : Nat} (cells : List (List Word))

theorem State.get_thrLoaded_sizes (hw : width < 512) (hh : height < 512) :
    (s.thrLoaded k width height cells).get ScrThrCtl.width k = width ∧
      (s.thrLoaded k width height cells).get ScrThrCtl.height k = height := by
  have sized {f : Fld} (h : ThrWin.v.apart f = true) (t : State) :
      ((thrWrites k width cells).foldl (fun t e => t.put ThrWin.v e.1 e.2) t).get f k = t.get f k :=
    foldl_keeps (fun t => t.get f k) (fun t e => t.get_put_ne h _ _ _) _ t
  unfold State.thrLoaded
  rw [sized (by decide), sized (by decide), State.get_put_ne _ (by decide), State.get_put_of_lt _ ScrThrCtl.width k hw,
    State.get_put_of_lt _ ScrThrCtl.height k hh]
  exact ⟨rfl, rfl⟩

theorem State.thrWord_thrLoaded (low : 1 ≤ width) (high : width ≤ 256) (four : ∀ c ∈ cells, c.length = 4) {j n : Nat}
    (hj : j < cells.length) (hn : n < 4) :
    (s.thrLoaded k width height cells).thrWord k (j % width) (j / width) n = ((cells.getD j []).getD n 0).toNat := by
  have hc : cells[j]? = some cells[j] := List.getElem?_eq_getElem hj
  have len : cells[j].length = 4 := four _ (List.getElem_mem hj)
  have hx : cells[j][n]? = some (cells[j][n]'(by omega)) := List.getElem?_eq_getElem (by omega)
  have place : k * 262144 + 4 * (256 * (j / width) + j % width) + n = thrIndex k width j n := by
    unfold thrIndex
    omega
  unfold State.thrWord State.thrLoaded
  have listed := mem_thrWrites (k := k) (width := width).mpr ⟨j, n, _, _, hc, hx, rfl⟩
  rw [place, State.get_foldl_put ThrWin.v (v := (cells[j][n]'(by omega)).toNat) _ _ ?_ (.inl listed)]
  · simp only [List.getD_eq_getElem?_getD, hc, Option.getD_some, hx]
    exact Nat.mod_eq_of_lt (BitVec.isLt _)
  · rintro e he same
    obtain ⟨j', n', c', x', hc', hx', rfl⟩ := mem_thrWrites.mp he
    have bound : n' < 4 := by
      have listed := (List.getElem?_eq_some_iff.mp hx').1
      rwa [four c' (List.mem_of_getElem? hc')] at listed
    obtain ⟨rfl, rfl⟩ := thrIndex_inj low high bound hn same
    rw [hc] at hc'
    cases hc'
    rw [hx] at hx'
    cases hx'
    rfl

/-- Sizes of 1 to 256 are in range, so a load ends with the check of its cells. -/
theorem State.loadThreshold_eq (low : 1 ≤ width) (high : width ≤ 256) (low' : 1 ≤ height) (high' : height ≤ 256) :
    s.loadThreshold k width height cells = (s.thrLoaded k width height cells).thrJudged k := by
  obtain ⟨hwidth, hheight⟩ := s.get_thrLoaded_sizes (k := k) cells (by omega : width < 512) (by omega : height < 512)
  have sizes : (s.thrLoaded k width height cells).thrSizesOk k = true := by
    simp [State.thrSizesOk, hwidth, hheight, low, high, low', high']
  have loaded : s.loadThreshold k width height cells =
      if (s.thrLoaded k width height cells).thrSizesOk k = false
      then ((s.thrLoaded k width height cells).put ScrThrCtl.state k 0).put ScrThrCtl.monoErr k 1
      else (s.thrLoaded k width height cells).thrJudged k := by
    unfold State.loadThreshold State.thrLoaded thrWrites thrIndex
    simp only [List.foldl_flatMap, List.foldl_map, Nat.max_eq_left low]
    rfl
  rw [loaded, if_neg (by simp [sizes])]

end

theorem State.thrBad_eq_none_iff (s : State) {k width height : Nat} (hwidth : s.get ScrThrCtl.width k = width)
    (hheight : s.get ScrThrCtl.height k = height) :
    s.thrBad k = none ↔ ∀ j, j < width * height → cellMono (s.thrCell k (j % width) (j / width)) = true := by
  simp [State.thrBad, hwidth, hheight]

theorem State.get_thrJudged_good {s : State} {k : Nat} (good : s.thrBad k = none) : (s.thrJudged k).get ScrThrCtl.state k = 2 := by
  unfold State.thrJudged
  simp only [good]
  exact s.get_put_of_lt ScrThrCtl.state k (v := 2) (by decide)

theorem State.get_thrJudged_bad {s : State} {k : Nat} (bad : s.thrBad k ≠ none) :
    (s.thrJudged k).get ScrThrCtl.state k = 0 ∧ (s.thrJudged k).flag ScrThrCtl.monoErr k = true := by
  obtain ⟨⟨u, w⟩, found⟩ := Option.ne_none_iff_exists'.mp bad
  unfold State.thrJudged State.flag
  simp only [found]
  rw [State.get_record _ _ _ _ _ _ (by decide), State.get_record _ _ _ _ _ _ (by decide), State.get_put_ne _ (by decide),
    State.get_put_of_lt _ ScrThrCtl.state k (v := 0) (by decide), State.get_put_of_lt _ ScrThrCtl.monoErr k (v := 1) (by decide)]
  exact ⟨rfl, rfl⟩

theorem thrArray_loads (k : Fin 8) (w h : Nat) (cells : List (List Word)) (s : State) (applying : s.img.applying = true)
    (hw : 1 ≤ w) (hw' : w ≤ 256) (hh : 1 ≤ h) (hh' : h ≤ 256) (all : cells.length = w * h) (four : ∀ c ∈ cells, c.length = 4) :
    ∃ t, exec (.thrArray k w h cells) s = .next t ∧
      t.get ScrThrCtl.width k.val = w ∧ t.get ScrThrCtl.height k.val = h ∧
      (∀ j n, j < w * h → n < 4 → t.thrWord k.val (j % w) (j / w) n = ((cells.getD j []).getD n 0).toNat) ∧
      ((∀ j, j < w * h → cellMono (t.thrCell k.val (j % w) (j / w)) = true) → t.get ScrThrCtl.state k.val = 2) ∧
      (∀ j, j < w * h → cellMono (t.thrCell k.val (j % w) (j / w)) = false →
        t.get ScrThrCtl.state k.val = 0 ∧ t.flag ScrThrCtl.monoErr k.val = true) ∧
      t = { s with regs := t.regs, ev := t.ev, img := { s.img with recIdx := s.img.recIdx + 1 } } := by
  obtain ⟨hwidth, hheight⟩ := s.get_thrLoaded_sizes (k := k.val) cells (by omega : w < 512) (by omega : h < 512)
  have kept := (OnlyRegsEv.thrLoaded s k.val w h cells).trans (.thrJudged _ k.val)
  have word {j n : Nat} (hj : j < w * h) (hn : n < 4) := s.thrWord_thrLoaded (k := k.val) (height := h) cells hw hw' four (all ▸ hj) hn
  have none_iff := State.thrBad_eq_none_iff _ hwidth hheight
  have loaded : exec (.thrArray k w h cells) s = .next ((s.thrLoaded k.val w h cells).thrJudged k.val).nextRecord := by
    rw [← s.loadThreshold_eq cells hw hw' hh hh']
    exact congrArg Host.Outcome.next (if_pos applying)
  generalize s.thrLoaded k.val w h cells = u at *
  refine ⟨_, loaded, ?_, ?_, fun j n hj hn => ?_, fun good => ?_, fun j hj bad => ?_, kept.nextRecord⟩
  · rw [State.get_nextRecord, u.get_thrJudged k.val (by decide), hwidth]
  · rw [State.get_nextRecord, u.get_thrJudged k.val (by decide), hheight]
  · rw [State.thrWord_nextRecord, u.thrWord_thrJudged, word hj hn]
  · rw [State.thrCell_nextRecord, u.thrCell_thrJudged] at good
    rw [State.get_nextRecord, State.get_thrJudged_good (none_iff.mpr good)]
  · rw [State.thrCell_nextRecord, u.thrCell_thrJudged] at bad
    rw [State.flag, State.get_nextRecord, State.get_nextRecord]
    exact State.get_thrJudged_bad fun good => by simp [none_iff.mp good j hj] at bad

/-! ### The tables of the heads -/

theorem headTable_keeps (mask kind : Nat) (data : List Byte) (s : State) (applying : s.img.applying = true) (ports : mask < 2 ^ 128) :
    exec (.headTable mask kind data) s =
      .next { s with img := { s.img with headTables := s.img.headTables ++ [⟨mask, kind, data⟩], recIdx := s.img.recIdx + 1 } } := by
  refine (congrArg Host.Outcome.next (if_neg (not_not.mpr applying))).trans ?_
  rw [Nat.mod_eq_of_lt ports]
  rfl

/-! ### The fuses -/

/-- A string of its full length is its own slice. -/
theorem slice_self {bytes : List Byte} {n : Nat} (h : bytes.length = n) : slice bytes 0 n = bytes := by
  subst h
  simp [slice]

/-- The key hash and the reset levels are programmed. -/
def State.fusesMapped (s : State) (hash : List Byte) (map : Word) : State :=
  Reg.rstFuseMap.fields.foldl (fun t f => t.put f 0 (f.of map)) { s with img := { s.img with keyHash := hash } }

/-- With them SIG_REQ, and FUSE_LOCK last (R79). -/
def State.fused (s : State) (hash : List Byte) (map flags : Word) : State :=
  ((s.fusesMapped hash map).put CfgStatus.sigReq 0 (flags.toNat % 2)).put CfgStatus.fuseLock 0 1

theorem State.fused_eq (s : State) (hash : List Byte) (map flags : Word) :
    s.fused hash map flags = { s with regs := (s.fused hash map flags).regs, img := { s.img with keyHash := hash } } := by
  have mapped : OnlyRegs { s with img := { s.img with keyHash := hash } } (s.fusesMapped hash map) :=
    .foldl (fun t _ => .put t _ 0 _) _ _
  exact (mapped.trans (.put _ CfgStatus.sigReq 0 _)).trans (.put _ CfgStatus.fuseLock 0 1)

theorem rstFuseMap_fields : Reg.rstFuseMap.fields = [RstFuseMap.lvl0, RstFuseMap.lvl1, RstFuseMap.lvl2, RstFuseMap.lvl3,
    RstFuseMap.lvl4, RstFuseMap.lvl5, RstFuseMap.lvl6, RstFuseMap.lvl7, RstFuseMap.lvl8, RstFuseMap.lvl9, RstFuseMap.lvl10,
    RstFuseMap.lvl11, RstFuseMap.lvl12, RstFuseMap.lvl13, RstFuseMap.lvl14, RstFuseMap.lvl15] := rfl

/-- The fields of the map take the word apart. -/
theorem wordOf_rstFuseMap (map : Word) : wordOf (fun f => f.of map) Reg.rstFuseMap.fields = map.toNat := by
  have narrow := map.isLt
  rw [rstFuseMap_fields]
  simp only [wordOf, Fld.of]
  simp only [RstFuseMap.lvl0, RstFuseMap.lvl1, RstFuseMap.lvl2, RstFuseMap.lvl3, RstFuseMap.lvl4, RstFuseMap.lvl5, RstFuseMap.lvl6,
    RstFuseMap.lvl7, RstFuseMap.lvl8, RstFuseMap.lvl9, RstFuseMap.lvl10, RstFuseMap.lvl11, RstFuseMap.lvl12, RstFuseMap.lvl13,
    RstFuseMap.lvl14, RstFuseMap.lvl15]
  omega

theorem State.rawWord_fused (s : State) (hash : List Byte) (map flags : Word) :
    (s.fused hash map flags).rawWord .rstFuseMap 0 = map.toNat := by
  have shown : ∀ f ∈ Reg.rstFuseMap.fields, f.acc ≠ .wo ∧ CfgStatus.fuseLock.apart f = true ∧ CfgStatus.sigReq.apart f = true := by
    decide
  refine (wordOf_congr fun f hf => ?_).trans (wordOf_rstFuseMap map)
  obtain ⟨read, lock, sig⟩ := shown f hf
  rw [if_neg read, State.fused, State.get_put_ne _ lock, State.get_put_ne _ sig]
  exact foldl_fields (update := fun t f => t.put f 0 (f.of map)) (value := fun f _ => f.of map)
    (fun f _ t => t.get_put_of_lt f 0 (f.of_lt map)) (fun f hf g hg ne t => t.get_put_ne (Reg.fields_apart hf hg ne) 0 0 _)
    Reg.rstFuseMap.fields_nodup _ f hf

theorem State.get_fused (s : State) (hash : List Byte) (map flags : Word) :
    (s.fused hash map flags).flag CfgStatus.fuseLock 0 = true ∧ (s.fused hash map flags).get CfgStatus.sigReq 0 = flags.toNat % 2 := by
  constructor
  · rw [State.flag, State.fused, State.get_put_of_lt _ CfgStatus.fuseLock 0 (v := 1) (by decide)]
    rfl
  · have bit : flags.toNat % 2 < 2 ^ CfgStatus.sigReq.width := Nat.mod_lt _ (by decide : 0 < 2)
    rw [State.fused, State.get_put_ne _ (by decide), State.get_put_of_lt _ CfgStatus.sigReq 0 bit]

theorem State.fused_kept (s : State) (hash : List Byte) (map flags : Word) :
    FieldsKept (only (CfgStatus.fuseLock :: CfgStatus.sigReq :: Reg.rstFuseMap.fields)) s (s.fused hash map flags) := by
  have mapped (l : List Fld) (hl : ∀ f ∈ l, f ∈ Reg.rstFuseMap.fields) (t : State) :
      FieldsKept (only (CfgStatus.fuseLock :: CfgStatus.sigReq :: Reg.rstFuseMap.fields)) t
        (l.foldl (fun t f => t.put f 0 (f.of map)) t) := by
    induction l generalizing t with
    | nil => exact .refl _ t
    | cons f l ih =>
      rw [List.forall_mem_cons] at hl
      have named : only (CfgStatus.fuseLock :: CfgStatus.sigReq :: Reg.rstFuseMap.fields) f 0 = true := by
        simp [only, hl.1]
      exact .trans (.put t 0 _ ((Reg.mem_fields hl.1).1 ▸ hl.1) named) (ih hl.2 _)
  exact (((FieldsKept.of_regs _ rfl).trans (mapped _ (fun _ h => h) _)).trans (.put _ 0 _ (f := CfgStatus.sigReq) (by decide) rfl)).trans
    (.put _ 0 1 (f := CfgStatus.fuseLock) (by decide) rfl)

theorem execFuseProgram_eq {hash : List Byte} (map flags : Word) {s : State} (applying : s.img.applying = true) (full : hash.length = 32) :
    exec (.fuseProgram hash map flags) s = .next (if s.flag CfgStatus.fuseLock 0 then (s.record .cfgFuseLocked 0 []).nextRecord
      else if flags.toNat % 2 = 1 ∧ hash = List.replicate 32 0 then s.nextRecord else (s.fused hash map flags).nextRecord) := by
  have blank : (hash.all fun b => b == 0) = true ↔ hash = List.replicate 32 0 := by
    rw [List.eq_replicate_iff]
    simp [full]
  change execFuseProgram hash map flags s = _
  unfold execFuseProgram
  simp only [slice_self full, if_neg (not_not.mpr applying), blank]
  rfl

theorem fuseProgram_programs (hash : List Byte) (map flags : Word) (s : State) (applying : s.img.applying = true)
    (full : hash.length = 32) :
    (s.flag CfgStatus.fuseLock 0 = true → exec (.fuseProgram hash map flags) s =
      .next { s.record .cfgFuseLocked 0 [] with img := { s.img with recIdx := s.img.recIdx + 1 } }) ∧
    (s.flag CfgStatus.fuseLock 0 = false → flags.toNat % 2 = 1 → hash = List.replicate 32 0 →
      exec (.fuseProgram hash map flags) s = .next { s with img := { s.img with recIdx := s.img.recIdx + 1 } }) ∧
    (s.flag CfgStatus.fuseLock 0 = false → (flags.toNat % 2 = 0 ∨ hash ≠ List.replicate 32 0) →
      ∃ t, exec (.fuseProgram hash map flags) s = .next t ∧
        t = { s with regs := t.regs, img := { s.img with keyHash := hash, recIdx := s.img.recIdx + 1 } } ∧
        t.flag CfgStatus.fuseLock 0 = true ∧ t.get CfgStatus.sigReq 0 = flags.toNat % 2 ∧ t.rawWord .rstFuseMap 0 = map.toNat ∧
        FieldsKept (only (CfgStatus.fuseLock :: CfgStatus.sigReq :: Reg.rstFuseMap.fields)) s t) := by
  have programmed := execFuseProgram_eq map flags applying full
  refine ⟨fun locked => ?_, fun unlocked sig blank => ?_, fun unlocked allowed => ?_⟩
  · have himg : (s.record .cfgFuseLocked 0 []).img = s.img := by simp
    rw [programmed, if_pos locked, State.nextRecord, himg]
  · rw [programmed, if_neg (by simp [unlocked]), if_pos ⟨sig, blank⟩]
    rfl
  · have permitted : ¬(flags.toNat % 2 = 1 ∧ hash = List.replicate 32 0) := by
      rintro ⟨sig, blank⟩
      exact allowed.elim (by omega) fun held => held blank
    rw [if_neg (by simp [unlocked]), if_neg permitted] at programmed
    obtain ⟨hlock, hsig⟩ := s.get_fused hash map flags
    have rest : (s.fused hash map flags).nextRecord = { s with
        regs := (s.fused hash map flags).regs, img := { s.img with keyHash := hash, recIdx := s.img.recIdx + 1 } } := by
      rw [s.fused_eq hash map flags]
      rfl
    exact ⟨_, programmed, rest, hlock, hsig, s.rawWord_fused hash map flags,
      (s.fused_kept hash map flags).trans (.of_regs _ rfl)⟩

end Sys2Proof.Machine
end

section
/-! ## END: the commit of the pins (R29, R83, R425): O21 -/
namespace Sys2Proof.Machine

/-! ### The commit of the tables -/

/-- The blocks that hold tables, the registers, the events and what waits for the partner may have changed, and no other part. -/
def OnlyTables (s t : State) : Prop :=
  t = { s with regs := t.regs, ev := t.ev, scr := t.scr, ins := t.ins, loop := t.loop, colTx := t.colTx }

theorem OnlyTables.refl (s : State) : OnlyTables s s := rfl

theorem OnlyTables.trans {s t u : State} (h : OnlyTables s t) (h' : OnlyTables t u) : OnlyTables s u := by
  unfold OnlyTables at *
  rw [h] at h'
  exact h'

theorem OnlyTables.foldl {α : Type} {f : State → α → State} (h : ∀ t x, OnlyTables t (f t x)) (l : List α) (s : State) :
    OnlyTables s (l.foldl f s) :=
  foldl_rel .refl .trans h l s

theorem OnlyTables.of_regs {s t : State} (h : OnlyRegs s t) : OnlyTables s t := by
  rw [h]
  rfl

theorem OnlyTables.of_regsEv {s t : State} (h : OnlyRegsEv s t) : OnlyTables s t := by
  rw [h]
  rfl

theorem OnlyTables.frame {s t : State} (h : OnlyTables s t) :
    t.pins = s.pins ∧ t.rst = s.rst ∧ t.img = s.img ∧ t.now = s.now ∧ t.lanes = s.lanes := by
  rw [h]
  exact ⟨rfl, rfl, rfl, rfl, rfl⟩

/-- A generation sent to the partner waits on the col link, and changes nothing else. -/
theorem State.sendGen_eq (s : State) (kind : Nat) (g : TableGen) : ∃ colTx, s.sendGen kind g = { s with colTx := colTx } := by
  unfold State.sendGen
  split
  · unfold State.sendCol
    split <;> exact ⟨_, rfl⟩
  · exact ⟨_, rfl⟩

/-- A new column-table generation takes the next number (R183); the role stays. -/
theorem State.commitCtb_facts (s : State) : OnlyTables s s.commitCtb ∧ s.commitCtb.role = s.role ∧
    s.commitCtb.get ScrGenNew.v 0 = (s.get ScrGenNew.v 0 + 1) % 2 ^ 32 := by
  have committed : ∃ scr colTx, s.commitCtb =
      { s.put ScrGenNew.v 0 (s.get ScrGenNew.v 0 + 1) with scr := scr, colTx := colTx } := by
    unfold State.commitCtb
    extract_lets g
    obtain ⟨colTx, h⟩ := State.sendGen_eq (({ s with scr := { s.scr with ctbGens := g :: s.scr.ctbGens } }).put ScrGenNew.v 0 g.num) 1 g
    rw [h]
    exact ⟨_, _, rfl⟩
  obtain ⟨scr, colTx, h⟩ := committed
  rw [h]
  exact ⟨rfl, s.get_put_ne (f := ScrGenNew.v) (g := TwStat.role) (by decide) 0 0 _, s.get_put_self ScrGenNew.v 0 _⟩

/-- What the commit of a nozzle map writes. -/
abbrev nmShown : List Fld :=
  [NmDelta.count, NmGenNew.v, NmStage.trim, NmStage.state, NmCommit.refused, NmCommit.reason, NmCommit.analyser]

/-- What the commit of a nozzle map keeps: every part but the tables, and every register but those of `nmShown`. -/
def NmKept (s t : State) : Prop := OnlyTables s t ∧ FieldsKept (only nmShown) s t

theorem NmKept.refl (s : State) : NmKept s s := ⟨.refl s, .refl _ s⟩

theorem NmKept.trans {s t u : State} (h : NmKept s t) (h' : NmKept t u) : NmKept s u := ⟨h.1.trans h'.1, h.2.trans h'.2⟩

theorem NmKept.put (s : State) {f : Fld} (i v : Nat) (h : f ∈ nmShown) : NmKept s (s.put f i v) := by
  have mapped : ∀ f ∈ nmShown, f ∈ f.reg.fields := by decide
  exact ⟨rfl, .put s i v (mapped f h) (by simp [only, h])⟩

theorem NmKept.record (s : State) (c : EvCode) (n : Nat) (l : List EvArg) : NmKept s (s.record c n l) :=
  ⟨.of_regsEv (.record s c n l), .record s c n l fun f _ h => by unfold only; rw [h]; rfl⟩

/-- A change of the blocks that hold tables alone. -/
theorem NmKept.of_eq {s t : State} (h : ∃ scr ins loop colTx, t = { s with scr := scr, ins := ins, loop := loop, colTx := colTx }) :
    NmKept s t := by
  obtain ⟨_, _, _, _, rfl⟩ := h
  exact ⟨rfl, .of_regs _ rfl⟩

theorem NmKept.syncStaged (s : State) (g : TableGen) : NmKept s (s.syncStaged g) := by
  unfold State.syncStaged
  refine foldl_rel .refl .trans (fun t n => ?_) _ s
  dsimp only
  split
  · exact .put t _ _ (by decide)
  · exact .trans (.put t _ _ (f := NmStage.trim) (by decide)) (.put _ _ _ (by decide))

theorem NmKept.commitNm (s : State) (tab : Tab Nat) (analyser : Bool) : NmKept s (s.commitNm tab analyser) := by
  have noted (t : State) (v : Nat) : NmKept t (t.put NmDelta.count 0 v) := .put t 0 v (by decide)
  unfold State.commitNm
  extract_lets g _ counted _ numbered synced refused _ retried
  have hcounted : NmKept s counted := noted s _
  split
  · have hnumbered : NmKept counted numbered :=
      .trans (t := { counted with scr := { counted.scr with nmGens := g :: counted.scr.nmGens } }) (.of_eq ⟨_, _, _, _, rfl⟩)
        (.put _ 0 _ (by decide))
    have hsynced : NmKept numbered synced := by
      dsimp only [synced]
      split
      · exact .syncStaged _ g
      · exact .refl _
    have hsent : NmKept synced (synced.sendGen 0 g).trimGens := by
      obtain ⟨colTx, h⟩ := synced.sendGen_eq 0 g
      rw [h]
      exact .of_eq ⟨_, _, _, _, rfl⟩
    exact ((hcounted.trans hnumbered).trans hsynced).trans hsent
  · have hrefused : NmKept counted refused :=
      ((NmKept.put counted 0 1 (f := NmCommit.refused) (by decide)).trans (.put _ 0 _ (f := NmCommit.reason) (by decide))).trans
        (.put _ 0 _ (f := NmCommit.analyser) (by decide))
    have hretried : NmKept refused retried := by
      dsimp only [retried]
      split
      · exact .of_eq ⟨_, _, _, _, rfl⟩
      · exact .refl _
    exact ((hcounted.trans hrefused).trans hretried).trans (.record _ _ _ _)

theorem NmKept.restartSlot (s : State) (n : Nat) : NmKept s (s.restartSlot n) := by
  unfold State.restartSlot
  split <;> exact .of_eq ⟨_, _, _, _, rfl⟩

theorem NmKept.keeps {s t : State} (h : NmKept s t) : t.role = s.role ∧ t.get ScrGenNew.v 0 = s.get ScrGenNew.v 0 :=
  ⟨h.2 _ TwStat.role 0 (by decide : _ ∈ Reg.twStat.fields) (by decide),
    h.2 _ ScrGenNew.v 0 (by decide : _ ∈ Reg.scrGenNew.fields) (by decide)⟩

/-- The contexts take the staged settings, and the loop slots restart. -/
def State.boundTo (s : State) (tab : Tab Nat) : State :=
  let t := (List.range 8).foldl (fun t c => t.mapCtx c (fun x => { x with bound := ⟨0, tab⟩ })) s
  (t.loop.slots.map (fun e => e.1)).foldl (fun t n => t.restartSlot n) t

theorem NmKept.boundTo (s : State) (tab : Tab Nat) : NmKept s (s.boundTo tab) := by
  unfold State.boundTo
  extract_lets t
  exact .trans (foldl_rel .refl .trans (fun t c => .of_eq ⟨_, _, _, _, rfl⟩) _ s)
    (foldl_rel .refl .trans (fun t n => .restartSlot t n) _ t)

theorem State.commitTables_eq (s : State) : s.commitTables =
    (s.commitNm (copyRegs nmRegs s.regs) false).commitCtb.boundTo
      (copyRegs ispRegs (s.commitNm (copyRegs nmRegs s.regs) false).commitCtb.regs) := rfl

/-- The commit of the tables numbers a column-table generation, and keeps the role and all but the tables. -/
theorem State.commitTables_facts (s : State) : OnlyTables s s.commitTables ∧ s.commitTables.role = s.role ∧
    s.commitTables.get ScrGenNew.v 0 = (s.get ScrGenNew.v 0 + 1) % 2 ^ 32 := by
  have nm : NmKept s (s.commitNm (copyRegs nmRegs s.regs) false) := .commitNm s _ _
  rw [s.commitTables_eq]
  generalize s.commitNm (copyRegs nmRegs s.regs) false = t at *
  obtain ⟨ctb, hrole, hnew⟩ := t.commitCtb_facts
  generalize t.commitCtb = u at *
  have bound : NmKept u (u.boundTo (copyRegs ispRegs u.regs)) := .boundTo u _
  obtain ⟨hrole', hnew'⟩ := nm.keeps
  obtain ⟨hrole'', hnew''⟩ := bound.keeps
  exact ⟨(nm.1.trans ctb).trans bound.1, (hrole''.trans hrole).trans hrole', by rw [hnew'', hnew, hnew']⟩

/-! ### The transmitters -/

@[simp] theorem State.lane_setLane (s : State) (n m : Nat) (l : Lane) : (s.setLane n l).lane m = if n = m then l else s.lane m :=
  Tab.get_set Lane.reset s.lanes n m l

theorem State.lane_congr {s t : State} (h : t.lanes = s.lanes) (n : Nat) : t.lane n = s.lane n := by
  rw [State.lane, State.lane, h]

/-- A transmitter of a list of lanes begins to train where it is off, and another stays as it is. -/
theorem foldl_train_tx (l : List Nat) (s : State) (m : Nat) :
    ((l.foldl (fun t n => if (t.lane n).tx = .off then t.setLane n { t.lane n with tx := .training } else t) s).lane m).tx =
      if m ∈ l ∧ (s.lane m).tx = .off then .training else (s.lane m).tx := by
  induction l generalizing s with
  | nil => simp
  | cons n l ih =>
    rw [List.foldl_cons, ih]
    by_cases off : (s.lane n).tx = .off
    · by_cases here : n = m
      · subst here
        simp [off]
      · simp [off, here, Ne.symm here]
    · by_cases here : n = m
      · subst here
        simp [off]
      · simp [off, Ne.symm here]

/-- Every transmitter of the Grebrizon lanes is on after they have begun to train (R103). -/
theorem State.startLanes_tx (s : State) {n : Nat} (h : n < 140) : (s.startLanes.lane n).tx ≠ .off := by
  unfold State.startLanes
  rw [foldl_train_tx]
  split
  next => decide
  next on => exact fun off => on ⟨List.mem_range.mpr h, off⟩

theorem State.startLanes_eq (s : State) : s.startLanes = { s with lanes := s.startLanes.lanes } := by
  refine foldl_rel (R := fun s t => t = { s with lanes := t.lanes }) (fun _ => rfl) (fun h h' => by rw [h', h]) (fun t n => ?_) _ s
  dsimp only
  split <;> rfl

theorem State.startLanes_regs (s : State) : s.startLanes.regs = s.regs := by
  rw [s.startLanes_eq]

/-! ### The outputs of a device in RUN -/

/-- What the driving of the outputs writes. -/
abbrev drivenShown : List Fld := LmpStat.on :: (axisShown ++ calFields)

/-- What the driving of the outputs keeps: the phase of the pins, the image, the lanes, and the registers but those of `drivenShown`. -/
def DriveKept (s t : State) : Prop :=
  t.pins.phase = s.pins.phase ∧ t.img = s.img ∧ t.lanes = s.lanes ∧ FieldsKept (only drivenShown) s t

theorem DriveKept.refl (s : State) : DriveKept s s := ⟨rfl, rfl, rfl, .refl _ s⟩

theorem DriveKept.trans {s t u : State} (h : DriveKept s t) (h' : DriveKept t u) : DriveKept s u := by
  obtain ⟨hphase, himg, hlanes, hkept⟩ := h
  obtain ⟨hphase', himg', hlanes', hkept'⟩ := h'
  exact ⟨hphase'.trans hphase, himg'.trans himg, hlanes'.trans hlanes, hkept.trans hkept'⟩

theorem DriveKept.of_frame {s t : State} (hphase : t.pins.phase = s.pins.phase) (himg : t.img = s.img) (hlanes : t.lanes = s.lanes)
    (hregs : t.regs = s.regs) : DriveKept s t :=
  ⟨hphase, himg, hlanes, .of_regs _ hregs⟩

theorem DriveKept.driveAxis (s : State) (n : Nat) : DriveKept s (s.driveAxis n) := by
  unfold State.driveAxis
  split <;> exact .of_frame rfl rfl rfl rfl

theorem DriveKept.axState (s : State) (n : Nat) : DriveKept s (s.axState n) :=
  ⟨rfl, rfl, rfl, (s.axState_kept n).mono (only_mono (by simp))⟩

theorem DriveKept.driveLamp (s : State) (n : Nat) : DriveKept s (s.driveLamp n) := by
  unfold State.driveLamp
  split
  · exact ⟨rfl, rfl, rfl, (FieldsKept.of_regs _ rfl).trans (.put _ n 1 (f := LmpStat.on) (by decide) rfl)⟩
  · exact .refl s

theorem DriveKept.calWatch (s : State) : DriveKept s s.calWatch := by
  have rest := s.calWatch_only
  exact ⟨by rw [rest], by rw [rest], by rw [rest], s.calWatch_kept.mono (only_mono (by simp))⟩

theorem DriveKept.driveHeads (s : State) (k : Nat) : DriveKept s (s.driveHeads k) := by
  unfold State.driveHeads
  dsimp only
  split <;> exact .of_frame rfl rfl rfl rfl

theorem DriveKept.beginWd (s : State) (p cause : Nat) : DriveKept s (s.beginWd p cause) := by
  unfold State.beginWd
  split <;> exact .of_frame rfl rfl rfl rfl

theorem DriveKept.endWd (s : State) (p : Nat) : DriveKept s (s.endWd p) := by
  unfold State.endWd
  split
  · split <;> exact .of_frame rfl rfl rfl rfl
  · exact .refl s

theorem DriveKept.syncWd (s : State) (p : Nat) : DriveKept s (s.syncWd p) := by
  have powered : DriveKept s (s.calWatch.driveHeads (p / 8)) := (DriveKept.calWatch s).trans (.driveHeads _ _)
  unfold State.syncWd
  dsimp only
  split
  · split
    · exact powered.trans (.beginWd _ _ _)
    · exact powered.trans (.endWd _ _)
  · exact powered

theorem DriveKept.syncPorts (s : State) : DriveKept s s.syncPorts :=
  foldl_rel .refl .trans (fun t e => .trans (t := t.mapPort e.1 _) (.of_frame rfl rfl rfl rfl) (.syncWd _ e.1)) s.ports s

theorem DriveKept.driveAll (s : State) : DriveKept s s.driveAll := by
  have axis (t : State) (n : Nat) : DriveKept t (if t.flag AxCfg.en n then (t.driveAxis n).axState n else t) := by
    split
    · exact (DriveKept.driveAxis t n).trans (.axState _ n)
    · exact .refl t
  unfold State.driveAll
  exact ((foldl_rel .refl .trans axis _ s).trans (foldl_rel .refl .trans .driveLamp _ _)).trans (.syncPorts _)

/-- The start of a device is complete, before its outputs are driven. -/
def State.started (s : State) : State :=
  (({ s with rst := { s.rst with stage := 0, level := 3, starting := false } }).put RstStart.startMs 0
    (min 65535 ((s.now - s.rst.endAt) / us 1000))).setDevState 1

theorem State.enterRun_eq (s : State) : s.enterRun = s.started.driveAll := rfl

theorem State.get_started (s : State) {f : Fld} (start : RstStart.startMs.apart f = true) (state : RstStatus.state.apart f = true)
    (unfit : TwStat.unfit.apart f = true) : s.started.get f 0 = s.get f 0 := by
  rw [State.started, State.setDevState, State.get_setUnfit_ne _ _ _ unfit, State.get_put_ne _ state, State.get_put_ne _ start]
  rfl

theorem State.get_started_state (s : State) : s.started.get RstStatus.state 0 = 1 := by
  rw [State.started, State.setDevState, State.get_setUnfit_ne _ _ _ (by decide), State.get_put_of_lt _ RstStatus.state 0 (v := 1) (by decide)]

/-- A device enters RUN with its outputs driven; its role, its lanes, its image and the numbers of its generations stay. -/
theorem State.enterRun_facts (s : State) : s.enterRun.pins.phase = s.pins.phase ∧ s.enterRun.img = s.img ∧
    s.enterRun.lanes = s.lanes ∧ s.enterRun.rst.pathDown = s.rst.pathDown ∧ s.enterRun.role = s.role ∧
    s.enterRun.get ScrGenNew.v 0 = s.get ScrGenNew.v 0 ∧ s.enterRun.running = true := by
  obtain ⟨hphase, himg, hlanes, hkept⟩ := DriveKept.driveAll s.started
  have hrst := State.rst_of_resetUnit s.started.driveAll_resetUnit
  rw [s.enterRun_eq, State.running, State.role, hrst, hkept _ TwStat.role 0 (by decide : _ ∈ Reg.twStat.fields) (by decide),
    hkept _ ScrGenNew.v 0 (by decide : _ ∈ Reg.scrGenNew.fields) (by decide),
    hkept _ RstStatus.state 0 (by decide : _ ∈ Reg.rstStatus.fields) (by decide), s.get_started_state,
    s.get_started (by decide) (by decide) (by decide), s.get_started (by decide) (by decide) (by decide)]
  exact ⟨hphase, himg, hlanes, rfl, rfl, rfl, rfl⟩

/-! ### Pin commit -/

/-- The pins are configured; record application and what kept the print path down have ended. -/
def State.configured (s : State) : State :=
  { s with
    pins := { s.pins with phase := .configured }
    img := { s.img with applying := false }
    rst := { s.rst with stage := 6, pathDown := false } }

/-- Everything configured takes effect together; the outputs are safe (R29, R34). -/
def State.tookEffect (s : State) : State := (s.safeOutputs.enforceAll.commitTables.startLanes).setDevState 0

/-- A device without a partner is in RUN at once, and a twin begins to negotiate (R425). -/
def State.roleSought (s : State) : State :=
  if s.solo then (s.put TwStat.role 0 roleSolo).enterRun else { s with twin := { s.twin with step8 := some s.now } }

theorem State.pinCommit_eq (s : State) : s.pinCommit = s.configured.tookEffect.roleSought := by
  unfold State.pinCommit State.configured State.tookEffect State.roleSought
  rfl

/-- What takes effect with the outputs safe, before the tables are committed. -/
theorem State.enforced_eq (s : State) : ∃ force, s.safeOutputs.enforceAll = { s with pins := s.safeOutputs.pins, force := force } := by
  obtain ⟨pins, h⟩ := s.safeOutputs_eq
  rw [h]
  exact ⟨_, rfl⟩

theorem State.safeOutputs_phase (s : State) : s.safeOutputs.pins.phase = s.pins.phase := by
  unfold State.safeOutputs
  split <;> rfl

/-- STATE is written when the transmitters have begun to train; nothing else that is read at the end has changed since the tables. -/
theorem State.get_trained (s : State) {f : Fld} (state : RstStatus.state.apart f = true) (unfit : TwStat.unfit.apart f = true) :
    (s.startLanes.setDevState 0).get f 0 = s.get f 0 := by
  rw [State.setDevState, State.get_setUnfit_ne _ _ _ unfit, State.get_put_ne _ state]
  exact State.get_congr s.startLanes_regs f 0

theorem State.trained_frame (s : State) : (s.startLanes.setDevState 0).pins = s.pins ∧ (s.startLanes.setDevState 0).rst = s.rst ∧
    (s.startLanes.setDevState 0).img = s.img ∧ (s.startLanes.setDevState 0).now = s.now := by
  rw [s.startLanes_eq]
  exact ⟨rfl, rfl, rfl, rfl⟩

theorem State.get_trained_state (s : State) : (s.startLanes.setDevState 0).get RstStatus.state 0 = 0 := by
  rw [State.setDevState, State.get_setUnfit_ne _ _ _ (by decide), State.get_put_of_lt _ RstStatus.state 0 (v := 0) (by decide)]

/-- What taking effect leaves: the outputs safe, a new column-table generation and the transmitters on; the phase of the pins, the
reset unit, the image, the time and the role stay. -/
def TookEffect (s t : State) : Prop :=
  t.pins.phase = s.pins.phase ∧ t.pins.atSafe ∧ t.rst = s.rst ∧ t.img = s.img ∧ t.now = s.now ∧ t.role = s.role ∧
  t.get ScrGenNew.v 0 = (s.get ScrGenNew.v 0 + 1) % 2 ^ 32 ∧ t.get RstStatus.state 0 = 0 ∧ ∀ n, n < 140 → (t.lane n).tx ≠ .off

theorem State.tookEffect_facts (s : State) (committed : s.committed = true) : TookEffect s s.tookEffect := by
  obtain ⟨tables, hrole, hnew⟩ := s.safeOutputs.enforceAll.commitTables_facts
  obtain ⟨hpins, hrst, himg, hnow, -⟩ := tables.frame
  obtain ⟨force, enforced⟩ := s.enforced_eq
  unfold State.tookEffect
  generalize s.safeOutputs.enforceAll.commitTables = t at *
  rw [enforced] at hpins hrst himg hnow hrole hnew
  obtain ⟨hpins', hrst', himg', hnow'⟩ := t.trained_frame
  refine ⟨?_, ?_, hrst'.trans hrst, himg'.trans himg, hnow'.trans hnow, (t.get_trained (by decide) (by decide)).trans hrole,
    (t.get_trained (by decide) (by decide)).trans hnew, t.get_trained_state, fun n h => ?_⟩
  · rw [hpins', hpins, s.safeOutputs_phase]
  · rw [hpins', hpins]
    exact s.safeOutputs_atSafe committed
  · rw [State.lane_congr (s := t.startLanes) (by simp)]
    exact t.startLanes_tx h

/-- END commits the pins of the device; what follows depends on whether it has a partner (R83, R425). -/
theorem cfgRecordEnd_commits (s : State) (applying : s.img.applying = true) : ∃ t, exec .cfgRecordEnd s = .next t ∧
    t.pins.phase = .configured ∧ t.img.applying = false ∧ t.rst.pathDown = false ∧ (t.lane 0).tx ≠ .off ∧
    t.get ScrGenNew.v 0 = (s.get ScrGenNew.v 0 + 1) % 2 ^ 32 ∧ (s.solo = true → t.role = roleSolo ∧ t.running = true) ∧
    (s.solo = false → t.get RstStatus.state 0 = 0 ∧ t.twin.step8 = some s.now ∧ t.role = s.role ∧ t.pins.atSafe) := by
  obtain ⟨hphase, hsafe, hrst, himg, hnow, hrole, hnew, hstate, htx⟩ := s.configured.tookEffect_facts rfl
  have committed : exec .cfgRecordEnd s = .next s.configured.tookEffect.roleSought :=
    congrArg Host.Outcome.next ((if_pos applying).trans s.pinCommit_eq)
  generalize s.configured.tookEffect = t at *
  have hsolo : t.solo = s.solo := by
    rw [State.solo, himg]
    rfl
  refine ⟨_, committed, ?_⟩
  unfold State.roleSought
  by_cases solo : s.solo = true
  · obtain ⟨hphase', himg', hlanes, hpath, hrole', hnew', hrun⟩ := (t.put TwStat.role 0 roleSolo).enterRun_facts
    rw [if_pos (hsolo.trans solo)]
    refine ⟨hphase'.trans hphase, by rw [himg']; exact congrArg ImageSt.applying himg, hpath.trans (congrArg ResetSt.pathDown hrst), ?_, ?_,
      fun _ => ⟨hrole'.trans (t.get_put_of_lt TwStat.role 0 (by decide)), hrun⟩, fun alone => absurd solo (by simp [alone])⟩
    · rw [State.lane_congr hlanes]
      exact htx 0 (by decide)
    · rw [hnew', State.get_put_ne _ (by decide)]
      exact hnew
  · rw [if_neg (by rwa [hsolo])]
    exact ⟨hphase, congrArg ImageSt.applying himg, congrArg ResetSt.pathDown hrst, htx 0 (by decide), hnew, fun alone => absurd alone solo,
      fun _ => ⟨hstate, congrArg some hnow, hrole, hsafe⟩⟩

/-- Settles O21, record by record. -/
theorem otherRecords : Obligations.OtherRecords := by
  unfold Obligations.OtherRecords
  exact ⟨thrArray_loads, headTable_keeps, fuseProgram_programs, cfgRecordEnd_commits⟩

end Sys2Proof.Machine
end

section
/-! ## Counters, events, deskew and the lanes of a link: what O25, O27, O28 and O29 share -/
namespace Sys2Proof.Machine

/-! ### Folds over things that each have a place of their own -/

/-- The round of one entry of a list: what holds before it and passes through the other rounds is there for it, and what it brings
passes through the rounds that follow. -/
theorem foldl_visits {α β : Type} {f : β → α → β} {a : α} {before after : β → Prop} (round : ∀ t, before t → after (f t a))
    (keepBefore : ∀ t b, b ≠ a → before t → before (f t b)) (keepAfter : ∀ t b, b ≠ a → after t → after (f t b))
    {l : List α} (nodup : l.Nodup) (here : a ∈ l) {s : β} (start : before s) : after (l.foldl f s) := by
  induction l generalizing s with
  | nil => exact absurd here (by simp)
  | cons b l ih =>
    rw [List.nodup_cons] at nodup
    obtain ⟨fresh, nodup⟩ := nodup
    rcases List.mem_cons.mp here with rfl | later
    · exact List.foldlRecOn l f (round s start) fun t ht b hb => keepAfter t b (fun same => fresh (same ▸ hb)) ht
    · exact ih nodup later (keepBefore s b (fun same => fresh (same ▸ later)) start)

/-- What every round of another entry keeps is kept by a fold over a list without the entry. -/
theorem foldl_passes {α β : Type} {R : β → β → Prop} (refl : ∀ s, R s s) (trans : ∀ {s t u}, R s t → R t u → R s u)
    {f : β → α → β} {a : α} (h : ∀ t b, b ≠ a → R t (f t b)) {l : List α} (away : a ∉ l) (s : β) : R s (l.foldl f s) :=
  List.foldlRecOn l f (refl s) fun t ht b hb => trans ht (h t b fun same => away (same ▸ hb))

/-! ### Records -/

/-- Two states agree in all that decides what a record makes of the events (R502 to R504). -/
def RecordsAlike (s t : State) : Prop :=
  t.now = s.now ∧ t.ft = s.ft ∧ t.rst = s.rst ∧ t.force = s.force ∧ t.ev = s.ev ∧ ∀ f ∈ recordRegs, t.get f 0 = s.get f 0

theorem RecordsAlike.spill_ev {s t : State} (h : RecordsAlike s t) (r : EvRec) : (t.spill r).ev = (s.spill r).ev := by
  obtain ⟨-, -, -, hforce, hev, hregs⟩ := h
  have log2 : t.inForce EvtCtrl.log2 0 = s.inForce EvtCtrl.log2 0 := by rw [State.inForce, State.inForce, hforce]
  have size : t.ringSize = s.ringSize := by
    unfold State.ringSize
    rw [log2]
  simp only [State.spill, hregs EvtWr.v (by decide), hregs EvtRd.v (by decide), size, hev, apply_ite State.ev,
    State.put_frame, State.loseRecord_ev]

theorem RecordsAlike.ev {s t : State} (h : RecordsAlike s t) (c : EvCode) (n : Nat) (l : List EvArg) :
    (t.record c n l).ev = (s.record c n l).ev := by
  obtain ⟨hnow, hft, hrst, hforce, hev, hregs⟩ := h
  have tick : t.etNow = s.etNow := by simp only [State.etNow, hrst, hft, hnow]
  have same : t.evRec c n l = s.evRec c n l := by simp only [State.evRec, State.etReleased, tick, hrst, hev]
  have room : t.noRoom (s.evRec c n l) = s.noRoom (s.evRec c n l) := by simp only [State.noRoom, hev]
  have tail : RecordsAlike (s.toTail (s.evRec c n l)) (t.toTail (s.evRec c n l)) :=
    ⟨hnow, hft, hrst, hforce, by simp only [State.toTail, hev], hregs⟩
  unfold State.record
  dsimp only
  rw [same, room]
  split
  · rw [State.loseRecord_ev, State.loseRecord_ev, hev]
  · split
    · exact tail.spill_ev _
    · simp only [State.enqueue, State.toTail, hev]

/-! ### Counters of class S (R508) -/

/-- Recording an event changes no such field. -/
abbrev Fld.unrecorded (g : Fld) : Bool := EvtLost.count.apart g && EvtLost.ovf.apart g && EvtWr.v.apart g

section
variable (s : State) {c ovf : Fld} (i k : Nat)

theorem State.get_countBy (apart : ovf.apart c = true) (quiet : c.unrecorded = true) :
    (s.countBy c ovf i k).get c i = satAdd c.width (s.get c i) k := by
  have fits : satAdd c.width (s.get c i) k < 2 ^ c.width := by
    have := Nat.two_pow_pos c.width
    unfold satAdd
    omega
  unfold State.countBy
  dsimp only
  split
  · rw [State.get_record _ _ _ _ _ _ quiet, State.get_put_ne _ apart, State.get_put_of_lt _ _ _ fits]
  · rw [State.get_put_of_lt _ _ _ fits]

theorem State.get_countBy_ne {g : Fld} (hc : c.apart g = true) (hovf : ovf.apart g = true) (quiet : g.unrecorded = true) (j : Nat) :
    (s.countBy c ovf i k).get g j = s.get g j := by
  unfold State.countBy
  dsimp only
  split
  · rw [State.get_record _ _ _ _ _ _ quiet, State.get_put_ne _ hovf, State.get_put_ne _ hc]
  · rw [State.get_put_ne _ hc]

theorem FieldsKept.countBy {p : Fld → Nat → Bool} (hc : c ∈ c.reg.fields) (hovf : ovf ∈ ovf.reg.fields) (pc : p c i = true)
    (povf : p ovf i = true) (recorded : ∀ f i, evtField f = true → p f i = true) : FieldsKept p s (s.countBy c ovf i k) := by
  have counted (v : Nat) : FieldsKept p s (s.put c i v) := .put s i v hc pc
  unfold State.countBy
  dsimp only
  split
  · exact ((counted _).trans (.put _ i 1 hovf povf)).trans (.record _ _ _ _ recorded)
  · exact counted _

theorem OnlyRegsEv.countBy : OnlyRegsEv s (s.countBy c ovf i k) := by
  obtain ⟨regs, ev, h⟩ := s.countBy_eq c ovf i k
  unfold OnlyRegsEv
  rw [h]

end

theorem OnlyRegsEv.of_regs {s t : State} (h : OnlyRegs s t) : OnlyRegsEv s t := by
  unfold OnlyRegsEv
  rw [h]

/-! ### The lanes of a link -/

theorem mem_linkLanes_self (n : Nat) : n ∈ linkLanes n := by
  unfold linkLanes
  split
  · simp
  · split
    · simp; omega
    · split
      · simp; omega
      · simp

theorem linkLanes_nodup (n : Nat) : (linkLanes n).Nodup := by
  unfold linkLanes
  split
  · simp
  · split
    · decide
    · split
      · decide
      · simp

/-- A link of one lane is that lane (Table 05-1). -/
theorem linkLanes_eq_of_single {n : Nat} (single : (linkLanes n).length = 1) : linkLanes n = [n] := by
  obtain ⟨m, h⟩ := List.length_eq_one_iff.mp single
  have self := mem_linkLanes_self n
  rw [h, List.mem_singleton] at self
  rw [h, ← self]

theorem linkLanes_head {n : Nat} (head : n < 128) : linkLanes n = [n] := if_pos head

/-- A step changes registers, lanes and the event queue at most. -/
def LaneStep (s t : State) : Prop := t = { s with regs := t.regs, lanes := t.lanes, ev := t.ev }

theorem LaneStep.refl (s : State) : LaneStep s s := rfl

theorem LaneStep.trans {s t u : State} (h : LaneStep s t) (h' : LaneStep t u) : LaneStep s u := by
  unfold LaneStep at *
  rw [h] at h'
  exact h'

theorem LaneStep.of_regsEv {s t : State} (h : OnlyRegsEv s t) : LaneStep s t := by
  unfold LaneStep
  rw [h]

theorem LaneStep.of_regs {s t : State} (h : OnlyRegs s t) : LaneStep s t := .of_regsEv (.of_regs h)

theorem LaneStep.setLane (s : State) (n : Nat) (l : Lane) : LaneStep s (s.setLane n l) := rfl

/-! ### Events of a lane (R120) -/

section
variable (s : State) (n slot : Nat) (code : EvCode)

/-- At most one event of a code within a millisecond: the lane notes the time and the event is recorded, or nothing happens. -/
theorem State.laneEvent_cases : (∃ x, s.laneEvent n slot code = (s.setLane n { s.lane n with lastEvent := x }).record code n []) ∨
    s.laneEvent n slot code = s :=
  (ite_eq_or_eq _ _ _).imp_left fun noted => ⟨_, noted⟩

theorem State.laneEvent_ev_of_first {s : State} {n slot : Nat} (first : (s.lane n).lastEvent.getD slot none = none) (code : EvCode) :
    (s.laneEvent n slot code).ev = (s.record code n []).ev := by
  unfold State.laneEvent
  dsimp only
  rw [first]
  have noted (l : Lane) : RecordsAlike s (s.setLane n l) := ⟨rfl, rfl, rfl, rfl, rfl, fun _ _ => rfl⟩
  exact (noted _).ev code n []

theorem State.laneEvent_of_recent {s : State} {n slot x : Nat} (last : (s.lane n).lastEvent.getD slot none = some x)
    (recent : s.now - x < 500000) (code : EvCode) : s.laneEvent n slot code = s := by
  unfold State.laneEvent
  dsimp only
  rw [last]
  exact if_neg (by simp [recent])

theorem LaneStep.laneEvent : LaneStep s (s.laneEvent n slot code) := by
  rcases s.laneEvent_cases n slot code with ⟨x, h⟩ | h
  · rw [h]
    exact .trans (.setLane s n _) (.of_regsEv (.record _ _ _ _))
  · rw [h]
    exact .refl s

theorem State.lane_laneEvent (m : Nat) : ∃ x, (s.laneEvent n slot code).lane m = { s.lane m with lastEvent := x } := by
  rcases s.laneEvent_cases n slot code with ⟨x, h⟩ | h
  · rw [h, State.lane_congr (State.record_frame (s.setLane n _) code n []).2.2.2.2.2.2.2.2.2.2.2.1, State.lane_setLane]
    by_cases same : n = m
    · exact ⟨x, by rw [if_pos same, same]⟩
    · exact ⟨_, if_neg same⟩
  · rw [h]
    exact ⟨_, rfl⟩

theorem State.get_laneEvent {g : Fld} (quiet : g.unrecorded = true) (j : Nat) : (s.laneEvent n slot code).get g j = s.get g j := by
  rcases s.laneEvent_cases n slot code with ⟨x, h⟩ | h
  · rw [h, State.get_record _ _ _ _ _ _ quiet, State.get_setLane]
  · rw [h]

theorem FieldsKept.laneEvent {p : Fld → Nat → Bool} (recorded : ∀ f i, evtField f = true → p f i = true) :
    FieldsKept p s (s.laneEvent n slot code) := by
  rcases s.laneEvent_cases n slot code with ⟨x, h⟩ | h
  · rw [h]
    exact .trans (.of_regs p (t := s.setLane n _) rfl) (.record _ _ _ _ recorded)
  · rw [h]
    exact .refl p s

end

end Sys2Proof.Machine
end

section
/-! ## Lock, sleep and loss of signal of a receiver (R93, R94, R109, R111, R114): O25 -/
namespace Sys2Proof.Machine

/-! ### DESKEWED (R106) -/

/-- What DESKEWED of every lane of the link becomes. -/
def State.deskewOk (s : State) (n : Nat) : Bool :=
  let offs := (linkLanes n).map (fun m => (s.lane m).offset)
  let vals : List Nat := offs.map (fun o => o.getD 0)
  (linkLanes n).all (fun m => s.flag LnStat.lock m) &&
    ((linkLanes n).length == 1 || (offs.all (fun o => o.isSome) &&
      decide (vals.foldl Nat.max 0 - vals.foldl Nat.min (vals.headD 0) ≤ 32)))

theorem State.deskew_eq (s : State) (n : Nat) :
    s.deskew n = (linkLanes n).foldl (fun t m => t.put LnStat.deskewed m (if s.deskewOk n then 1 else 0)) s := rfl

theorem State.flag_deskew (s : State) {n m : Nat} (here : m ∈ linkLanes n) : (s.deskew n).flag LnStat.deskewed m = s.deskewOk n := by
  rw [s.deskew_eq]
  refine foldl_visits (before := fun _ => True) (after := fun (t : State) => t.flag LnStat.deskewed m = s.deskewOk n)
    (fun t _ => ?_) (fun _ _ _ h => h) (fun t k other h => ?_) (linkLanes_nodup n) here trivial
  · rw [State.flag, State.get_put_of_lt _ _ _ (by split <;> decide)]
    cases s.deskewOk n <;> rfl
  · rw [State.flag, State.get_put_idx _ _ other]
    exact h

theorem State.get_deskew (s : State) (n : Nat) {g : Fld} (h : LnStat.deskewed.apart g = true) (j : Nat) :
    (s.deskew n).get g j = s.get g j :=
  foldl_keeps (fun t => t.get g j) (fun t m => t.get_put_ne h m j _) _ s

theorem OnlyRegs.deskew (s : State) (n : Nat) : OnlyRegs s (s.deskew n) := .foldl (fun t m => .put t LnStat.deskewed m _) _ s

theorem State.deskew_frame (s : State) (n : Nat) : (s.deskew n).lanes = s.lanes ∧ (s.deskew n).ev = s.ev := by
  rw [OnlyRegs.deskew s n]
  exact ⟨rfl, rfl⟩

theorem State.lane_deskew (s : State) (n m : Nat) : (s.deskew n).lane m = s.lane m := State.lane_congr (s.deskew_frame n).1 m

theorem State.deskewOk_of_unlocked {s : State} {n : Nat} (unlocked : s.flag LnStat.lock n = false) : s.deskewOk n = false := by
  have lost : (linkLanes n).all (fun m => s.flag LnStat.lock m) = false :=
    List.all_eq_false.mpr ⟨n, mem_linkLanes_self n, by simp [unlocked]⟩
  unfold State.deskewOk
  rw [lost]
  exact Bool.false_and _

theorem State.deskewOk_of_single (s : State) {n : Nat} (single : (linkLanes n).length = 1) :
    s.deskewOk n = s.flag LnStat.lock n := by
  unfold State.deskewOk
  simp [linkLanes_eq_of_single single]

/-! ### What lock and loss of lock change -/

/-- What the lock of lane `n` may write: status and error counters of the lanes of its link. -/
def lockField (n : Nat) (f : Fld) (i : Nat) : Bool :=
  evtField f || ((Reg.lnStat.fields ++ Reg.lnErrcnt.fields).contains f && (linkLanes n).contains i)

theorem lockField_of_evt (n : Nat) (f : Fld) (i : Nat) (h : evtField f = true) : lockField n f i = true := by
  rw [lockField, h, Bool.true_or]

theorem lockField_of_mem {n i : Nat} {f : Fld} (hf : f ∈ Reg.lnStat.fields ++ Reg.lnErrcnt.fields) (hi : i ∈ linkLanes n) :
    lockField n f i = true := by
  rw [lockField, List.contains_iff_mem.mpr hf, List.contains_iff_mem.mpr hi]
  exact Bool.or_true _

theorem FieldsKept.putLock (s : State) {f : Fld} (n v : Nat) (hf : f ∈ Reg.lnStat.fields) :
    FieldsKept (lockField n) s (s.put f n v) :=
  .put s n v (by rw [(Reg.mem_fields hf).1]; exact hf) (lockField_of_mem (by simp [hf]) (mem_linkLanes_self n))

theorem FieldsKept.deskew (s : State) (n : Nat) : FieldsKept (lockField n) s (s.deskew n) := by
  rw [s.deskew_eq]
  exact List.foldlRecOn _ _ (.refl _ s) fun t ht m hm =>
    ht.trans (.put t m _ (f := LnStat.deskewed) (by decide) (lockField_of_mem (by decide) hm))

theorem FieldsKept.laneCount (s : State) (n k : Nat) {c : Fld} (hc : c ∈ Reg.lnErrcnt.fields) :
    FieldsKept (lockField n) s (s.laneCount n c k) :=
  .countBy s n k (by rw [(Reg.mem_fields hc).1]; exact hc) (by decide) (lockField_of_mem (by simp [hc]) (mem_linkLanes_self n))
    (lockField_of_mem (by decide) (mem_linkLanes_self n)) (lockField_of_evt n)

section
variable (s : State) (n : Nat)

theorem LaneStep.dropLock : LaneStep s (s.dropLock n) :=
  (LaneStep.of_regs (((OnlyRegs.put s LnStat.lock n 0).trans (.put _ LnStat.deskewed n 0)).trans (.put _ LnStat.farLock n 0))).trans
    (.setLane _ n _)

theorem State.lane_dropLock : ((s.dropLock n).lane n).frameError = true := by
  unfold State.dropLock
  dsimp only
  rw [State.lane_setLane, if_pos rfl]

theorem State.lock_dropLock : (s.dropLock n).flag LnStat.lock n = false := by
  simp (disch := decide) [State.dropLock, State.flag]

theorem State.get_dropLock {g : Fld} (lock : LnStat.lock.apart g = true) (deskewed : LnStat.deskewed.apart g = true)
    (far : LnStat.farLock.apart g = true) (j : Nat) : (s.dropLock n).get g j = s.get g j := by
  unfold State.dropLock
  dsimp only
  rw [State.get_setLane, State.get_put_ne _ far, State.get_put_ne _ deskewed, State.get_put_ne _ lock]

theorem FieldsKept.dropLock : FieldsKept (lockField n) s (s.dropLock n) :=
  (((FieldsKept.putLock s n 0 (f := LnStat.lock) (by decide)).trans (.putLock _ n 0 (f := LnStat.deskewed) (by decide))).trans
    (.putLock _ n 0 (f := LnStat.farLock) (by decide))).trans (.of_regs _ rfl)

/-- A lane that loses lock: neither LOCK nor, on any lane of the link, DESKEWED; the frame in progress is marked. -/
def State.lockLost : State := (s.dropLock n).deskew n

theorem LaneStep.lockLost : LaneStep s (s.lockLost n) := (LaneStep.dropLock s n).trans (.of_regs (.deskew _ n))

theorem FieldsKept.lockLost : FieldsKept (lockField n) s (s.lockLost n) := (FieldsKept.dropLock s n).trans (.deskew _ n)

theorem State.lockLost_ev : (s.lockLost n).ev = s.ev := ((s.dropLock n).deskew_frame n).2

theorem State.get_lockLost {g : Fld} (lock : LnStat.lock.apart g = true) (deskewed : LnStat.deskewed.apart g = true)
    (far : LnStat.farLock.apart g = true) (j : Nat) : (s.lockLost n).get g j = s.get g j := by
  rw [State.lockLost, State.get_deskew _ n deskewed, s.get_dropLock n lock deskewed far]

theorem State.lockLost_facts : (s.lockLost n).flag LnStat.lock n = false ∧
    (∀ m ∈ linkLanes n, (s.lockLost n).flag LnStat.deskewed m = false) ∧ ((s.lockLost n).lane n).frameError = true := by
  refine ⟨?_, fun m hm => ?_, ?_⟩
  · rw [State.flag, State.lockLost, State.get_deskew _ n (by decide)]
    exact s.lock_dropLock n
  · rw [State.lockLost, State.flag_deskew _ hm, State.deskewOk_of_unlocked (s.lock_dropLock n)]
  · rw [State.lockLost, State.lane_deskew]
    exact s.lane_dropLock n

end

/-! ### The commands -/

theorem laneLockAcquire_locks (n : Fin 142) (s : State) (unlocked : s.flag LnStat.lock n.val = false) :
    ∃ t, exec (.laneLockAcquire n) s = .next t ∧ t = { s with regs := t.regs, lanes := t.lanes } ∧ t.flag LnStat.lock n.val = true ∧
      t.flag LnStat.rxAsleep n.val = false ∧ ((linkLanes n.val).length = 1 → t.flag LnStat.deskewed n.val = true) ∧
      FieldsKept (lockField n.val) s t := by
  let u : State := ((s.put LnStat.lock n.val 1).put LnStat.rxAsleep n.val 0).setLane n.val { s.lane n.val with frameError := false }
  have locked : u.flag LnStat.lock n.val = true := by simp (disch := decide) [u, State.flag]
  refine ⟨u.deskew n.val, congrArg Host.Outcome.next (if_neg (by simp [unlocked])), ?_, ?_, ?_, fun single => ?_, ?_⟩
  · rw [OnlyRegs.deskew u n.val]
    rfl
  · rw [State.flag, State.get_deskew _ _ (by decide)]
    exact locked
  · rw [State.flag, State.get_deskew _ _ (by decide)]
    simp (disch := decide) [u]
  · rw [State.flag_deskew _ (mem_linkLanes_self _), u.deskewOk_of_single single, locked]
  · exact (((FieldsKept.putLock s (f := LnStat.lock) n.val 1 (by decide)).trans
      (.putLock _ (f := LnStat.rxAsleep) n.val 0 (by decide))).trans (.of_regs _ (t := u) rfl)).trans (.deskew u n.val)

/-- The loss is counted and recorded, unless the receiver is asleep (R94). -/
def State.lossCounted (s : State) (n cv : Nat) : State :=
  if s.flag LnStat.rxAsleep n then s
  else ((s.laneCount n LnErrcnt.cv cv).laneCount n LnErrcnt.lol 1).laneEvent n 0 .lnLol

theorem State.lossCounted_step (s : State) (n cv : Nat) : LaneStep s (s.lossCounted n cv) ∧ FieldsKept (lockField n) s (s.lossCounted n cv) := by
  unfold State.lossCounted
  split
  · exact ⟨.refl s, .refl _ s⟩
  · exact ⟨(LaneStep.of_regsEv ((OnlyRegsEv.countBy s n cv).trans (.countBy _ n 1))).trans (.laneEvent _ n 0 _),
      ((FieldsKept.laneCount s n cv (by decide)).trans (.laneCount _ n 1 (by decide))).trans (.laneEvent _ n 0 _ (lockField_of_evt n))⟩

theorem State.lossCounted_awake {s : State} {n : Nat} (awake : s.flag LnStat.rxAsleep n = false) (cv : Nat) :
    (s.lossCounted n cv).get LnErrcnt.cv n = satAdd 16 (s.get LnErrcnt.cv n) cv ∧
      (s.lossCounted n cv).get LnErrcnt.lol n = satAdd 8 (s.get LnErrcnt.lol n) 1 := by
  unfold State.lossCounted State.laneCount
  rw [awake, if_neg (by decide)]
  constructor
  · rw [State.get_laneEvent _ n 0 _ (by decide), State.get_countBy_ne _ _ _ (by decide) (by decide) (by decide),
      State.get_countBy _ _ _ (by decide) (by decide)]
    rfl
  · rw [State.get_laneEvent _ n 0 _ (by decide), State.get_countBy _ _ _ (by decide) (by decide),
      State.get_countBy_ne _ _ _ (by decide) (by decide) (by decide)]
    rfl

theorem laneLockLoss_unlocks (n : Fin 142) (cv : Nat) (s : State) (locked : s.flag LnStat.lock n.val = true) :
    ∃ t, exec (.laneLockLoss n cv) s = .next t ∧ t = { s with regs := t.regs, lanes := t.lanes, ev := t.ev } ∧
      t.flag LnStat.lock n.val = false ∧ (∀ m ∈ linkLanes n.val, t.flag LnStat.deskewed m = false) ∧
      (t.lane n.val).frameError = true ∧
      (s.flag LnStat.rxAsleep n.val = false → t.get LnErrcnt.cv n.val = satAdd 16 (s.get LnErrcnt.cv n.val) cv ∧
        t.get LnErrcnt.lol n.val = satAdd 8 (s.get LnErrcnt.lol n.val) 1) ∧
      (s.flag LnStat.rxAsleep n.val = true → t.ev = s.ev ∧ ∀ f ∈ Reg.lnErrcnt.fields, t.get f n.val = s.get f n.val) ∧
      FieldsKept (lockField n.val) s t := by
  obtain ⟨step, kept⟩ := s.lossCounted_step n.val cv
  obtain ⟨hlock, hdesk, hframe⟩ := (s.lossCounted n.val cv).lockLost_facts n.val
  refine ⟨(s.lossCounted n.val cv).lockLost n.val, congrArg Host.Outcome.next (if_neg (by simp [locked])),
    step.trans (.lockLost _ _), hlock, hdesk, hframe, fun awake => ?_, fun asleep => ?_, kept.trans (.lockLost _ _)⟩
  · rw [State.get_lockLost _ _ (by decide) (by decide) (by decide), State.get_lockLost _ _ (by decide) (by decide) (by decide)]
    exact State.lossCounted_awake awake cv
  · have uncounted : s.lossCounted n.val cv = s := if_pos asleep
    have aparts : ∀ f ∈ Reg.lnErrcnt.fields,
        LnStat.lock.apart f = true ∧ LnStat.deskewed.apart f = true ∧ LnStat.farLock.apart f = true := by decide
    rw [uncounted]
    refine ⟨s.lockLost_ev n.val, fun f hf => ?_⟩
    obtain ⟨lock, deskewed, far⟩ := aparts f hf
    exact s.get_lockLost n.val lock deskewed far n.val

theorem slpReceive_sleeps (n : Fin 140) (s : State) (locked : s.flag LnStat.lock n.val = true) :
    ∃ t, exec (.slpReceive n) s = .next t ∧ t = { s with regs := t.regs } ∧ t.flag LnStat.rxAsleep n.val = true ∧
      FieldsKept (onlyAt [LnStat.rxAsleep] n.val) s t := by
  refine ⟨s.put LnStat.rxAsleep n.val 1, congrArg Host.Outcome.next (if_pos locked), rfl, ?_, .put s _ 1 (by decide) (by simp [onlyAt])⟩
  rw [State.flag, State.get_put_of_lt _ _ _ (by decide)]
  rfl

theorem rxWakeTimeout_unlocks (n : Fin 140) (s : State) (asleep : s.flag LnStat.rxAsleep n.val = true) :
    ∃ t, exec (.rxWakeTimeout n) s = .next t ∧ t = { s with regs := t.regs } ∧ t.flag LnStat.lock n.val = false ∧
      FieldsKept (onlyAt [LnStat.lock] n.val) s t := by
  refine ⟨s.put LnStat.lock n.val 0, congrArg Host.Outcome.next (if_pos asleep), rfl, ?_, .put s _ 0 (by decide) (by simp [onlyAt])⟩
  rw [State.flag, State.get_put_of_lt _ _ _ (by decide)]
  rfl

theorem lnLos_unlocks (n : Fin 142) (s : State) (grebrizon : n.val < 140) (locked : s.flag LnStat.lock n.val = true)
    (awake : s.flag LnStat.rxAsleep n.val = false) :
    ∃ t, exec (.lnLos n) s = .next t ∧ t = { s with regs := t.regs, lanes := t.lanes, ev := t.ev } ∧ t.flag LnStat.los n.val = true ∧
      t.flag LnStat.lock n.val = false ∧ t.get LnErrcnt.lol n.val = satAdd 8 (s.get LnErrcnt.lol n.val) 1 ∧
      FieldsKept (lockField n.val) s t := by
  let u : State := ((s.put LnStat.los n.val 1).laneCount n.val LnErrcnt.lol 1).laneEvent n.val 1 .lnLos
  have step : LaneStep s u :=
    (LaneStep.of_regsEv ((OnlyRegsEv.put s LnStat.los n.val 1).trans (.countBy _ n.val 1))).trans (.laneEvent _ n.val 1 _)
  have kept : FieldsKept (lockField n.val) s u := ((FieldsKept.putLock s n.val 1 (by decide)).trans
    (.laneCount _ n.val 1 (by decide))).trans (.laneEvent _ n.val 1 _ (lockField_of_evt n.val))
  have receiving : ¬(ringLane n.val = true ∨ ¬s.flag LnStat.lock n.val = true ∨ s.flag LnStat.rxAsleep n.val = true) := by
    simp [ringLane, locked, awake]
    omega
  obtain ⟨hlock, -, -⟩ := u.lockLost_facts n.val
  refine ⟨u.lockLost n.val, congrArg Host.Outcome.next (if_neg receiving), step.trans (.lockLost u _), ?_, hlock, ?_,
    kept.trans (.lockLost u _)⟩
  · rw [State.flag, State.get_lockLost _ _ (by decide) (by decide) (by decide), State.get_laneEvent _ _ _ _ (by decide), State.laneCount,
      State.get_countBy_ne _ _ _ (by decide) (by decide) (by decide), State.get_put_of_lt _ _ _ (by decide)]
    rfl
  · rw [State.get_lockLost _ _ (by decide) (by decide) (by decide), State.get_laneEvent _ _ _ _ (by decide), State.laneCount,
      State.get_countBy _ _ _ (by decide) (by decide), State.get_put_ne _ (by decide)]
    rfl

theorem lnLos_ignored (n : Fin 142) (s : State) (h : 140 ≤ n.val ∨ s.flag LnStat.rxAsleep n.val = true) :
    exec (.lnLos n) s = .next s := by
  refine congrArg Host.Outcome.next (if_pos ?_)
  rcases h with ring | asleep
  · exact .inl (decide_eq_true ring)
  · exact .inr (.inr asleep)

/-- Settles O25, command by command: every loss of lock ends in the same drop of LOCK and DESKEWED. -/
theorem laneLockAndIdle : Obligations.LaneLockAndIdle := by
  unfold Obligations.LaneLockAndIdle
  exact ⟨laneLockAcquire_locks, laneLockLoss_unlocks, slpReceive_sleeps, rxWakeTimeout_unlocks, lnLos_unlocks, lnLos_ignored⟩

end Sys2Proof.Machine
end

section
/-! ## Sleep and wake of a transmitter (R110, R112, R113, R115, R286): O27 -/
namespace Sys2Proof.Machine

/-- A step changes registers, lanes and what was sent at most. -/
def TxStep (s t : State) : Prop := t = { s with regs := t.regs, lanes := t.lanes, sent := t.sent }

theorem TxStep.refl (s : State) : TxStep s s := rfl

theorem TxStep.trans {s t u : State} (h : TxStep s t) (h' : TxStep t u) : TxStep s u := by
  unfold TxStep at *
  rw [h] at h'
  exact h'

theorem TxStep.foldl {f : State → Nat → State} (h : ∀ t m, TxStep t (f t m)) (l : List Nat) (s : State) : TxStep s (l.foldl f s) :=
  foldl_rel .refl .trans h l s

/-- Whatever is done to other lanes, lane `m` and its TX_ASLEEP stay, and what was sent stays sent. -/
def LaneSpared (m : Nat) (s t : State) : Prop :=
  t.now = s.now ∧ t.lane m = s.lane m ∧ t.get LnStat.txAsleep m = s.get LnStat.txAsleep m ∧ s.sent ⊆ t.sent

theorem LaneSpared.refl (m : Nat) (s : State) : LaneSpared m s s := ⟨rfl, rfl, rfl, fun _ h => h⟩

theorem LaneSpared.trans {m : Nat} {s t u : State} (h : LaneSpared m s t) (h' : LaneSpared m t u) : LaneSpared m s u := by
  obtain ⟨hnow, hlane, hasleep, hsent⟩ := h
  obtain ⟨hnow', hlane', hasleep', hsent'⟩ := h'
  exact ⟨hnow'.trans hnow, hlane'.trans hlane, hasleep'.trans hasleep, fun _ ho => hsent' (hsent ho)⟩

theorem LaneSpared.setLane {m n : Nat} (other : n ≠ m) (s : State) (l : Lane) : LaneSpared m s (s.setLane n l) :=
  ⟨rfl, by rw [State.lane_setLane, if_neg other], rfl, fun _ h => h⟩

theorem LaneSpared.putAsleep {m n : Nat} (other : n ≠ m) (s : State) (v : Nat) : LaneSpared m s (s.put LnStat.txAsleep n v) :=
  ⟨rfl, rfl, s.get_put_idx _ other v, fun _ h => h⟩

theorem LaneSpared.sendLane (m n kind : Nat) (s : State) : LaneSpared m s (s.sendLane n kind) :=
  ⟨rfl, rfl, rfl, fun _ h => List.mem_cons_of_mem _ h⟩

/-- In a fold over the lanes of a link, lane `m` has a round of its own and the others spare it. -/
theorem foldl_lane {f : State → Nat → State} (spared : ∀ (t : State) (k m : Nat), k ≠ m → LaneSpared m t (f t k)) {s : State} {n m : Nat}
    (here : m ∈ linkLanes n) : ∃ t, LaneSpared m s t ∧ LaneSpared m (f t m) ((linkLanes n).foldl f s) :=
  foldl_visits (before := LaneSpared m s) (after := fun u => ∃ t, LaneSpared m s t ∧ LaneSpared m (f t m) u)
    (fun t ht => ⟨t, ht, .refl m _⟩) (fun t k other ht => ht.trans (spared t k m other))
    (fun t k other ⟨u, hu, ht⟩ => ⟨u, hu, ht.trans (spared t k m other)⟩) (linkLanes_nodup n) here (.refl m s)

theorem foldl_lane_other {f : State → Nat → State} (spared : ∀ (t : State) (k m : Nat), k ≠ m → LaneSpared m t (f t k)) (s : State)
    {n m : Nat} (away : m ∉ linkLanes n) : LaneSpared m s ((linkLanes n).foldl f s) :=
  foldl_passes (.refl m) .trans (fun t k other => spared t k m other) away s

/-! ### Going to sleep -/

/-- A transmitter that trains or sends goes to electrical idle. -/
def State.laneSlept (s : State) (n : Nat) : State :=
  ((s.sendLane n 3).put LnStat.txAsleep n 1).setLane n { s.lane n with tx := .asleep, idleAt := s.now, wakeDue := false }

section
variable {s : State} {n : Nat}

theorem State.sleepLane_of_sending (h : (s.lane n).tx = .training ∨ (s.lane n).tx = .traffic) : s.sleepLane n = s.laneSlept n := by
  unfold State.sleepLane
  dsimp only
  rcases h with h | h <;> rw [h] <;> rfl

theorem State.sleepLane_of_waking (h : (s.lane n).tx = .waking) : s.sleepLane n = s.setLane n { s.lane n with sleepDue := true } := by
  unfold State.sleepLane
  dsimp only
  rw [h]

theorem State.sleepLane_of_idle (h : (s.lane n).tx = .off ∨ (s.lane n).tx = .asleep ∨ (s.lane n).tx = .prbs) : s.sleepLane n = s := by
  unfold State.sleepLane
  dsimp only
  rcases h with h | h | h <;> rw [h]

/-- The three things a sleep request does to a transmitter. -/
theorem State.sleepLane_cases (s : State) (n : Nat) :
    s.sleepLane n = s.laneSlept n ∨ s.sleepLane n = s.setLane n { s.lane n with sleepDue := true } ∨ s.sleepLane n = s := by
  cases h : (s.lane n).tx with
  | training => exact .inl (sleepLane_of_sending (.inl h))
  | traffic => exact .inl (sleepLane_of_sending (.inr h))
  | waking => exact .inr (.inl (sleepLane_of_waking h))
  | off => exact .inr (.inr (sleepLane_of_idle (.inl h)))
  | asleep => exact .inr (.inr (sleepLane_of_idle (.inr (.inl h))))
  | prbs => exact .inr (.inr (sleepLane_of_idle (.inr (.inr h))))

end

theorem LaneSpared.sleepLane (s : State) (n m : Nat) (other : n ≠ m) : LaneSpared m s (s.sleepLane n) := by
  rcases s.sleepLane_cases n with h | h | h
  · rw [h]
    exact ((LaneSpared.sendLane m n 3 s).trans (.putAsleep other _ 1)).trans (.setLane other _ _)
  · rw [h]
    exact .setLane other s _
  · rw [h]
    exact .refl m s

theorem TxStep.sleepLane (s : State) (n : Nat) : TxStep s (s.sleepLane n) := by
  rcases s.sleepLane_cases n with h | h | h <;> rw [h] <;> rfl

theorem State.txSleep_sleepLane (s : State) (n m : Nat) : (s.sleepLane n).get LnCtrl.txSleep m = s.get LnCtrl.txSleep m := by
  rcases s.sleepLane_cases n with h | h | h
  · rw [h]
    exact (s.sendLane n 3).get_put_ne (f := LnStat.txAsleep) (by decide) n m 1
  · rw [h, State.get_setLane]
  · rw [h]

theorem State.txSleep_requestSleep (s : State) (n m : Nat) : (s.requestSleep n).get LnCtrl.txSleep m = s.get LnCtrl.txSleep m :=
  foldl_keeps (fun t => t.get LnCtrl.txSleep m) (fun t k => t.txSleep_sleepLane k m) _ s

/-- What a sleep request may write of the registers of a link. -/
def sleepField (n : Nat) (f : Fld) (i : Nat) : Bool := [LnCtrl.txSleep, LnStat.txAsleep].contains f && (linkLanes n).contains i

theorem sleepField_of_mem {n i : Nat} {f : Fld} (hf : f ∈ [LnCtrl.txSleep, LnStat.txAsleep]) (hi : i ∈ linkLanes n) :
    sleepField n f i = true := by
  rw [sleepField, List.contains_iff_mem.mpr hf, List.contains_iff_mem.mpr hi]
  rfl

theorem FieldsKept.sleepLane {n m : Nat} (here : m ∈ linkLanes n) (s : State) : FieldsKept (sleepField n) s (s.sleepLane m) := by
  rcases s.sleepLane_cases m with h | h | h
  · rw [h]
    exact (FieldsKept.put (s.sendLane m 3) (f := LnStat.txAsleep) m 1 (by decide) (sleepField_of_mem (by decide) here)).trans (.of_regs _ rfl)
  · rw [h]
    exact .of_regs _ rfl
  · rw [h]
    exact .refl _ s

theorem State.requestSleep_frame (s : State) (n : Nat) : TxStep s (s.requestSleep n) ∧ FieldsKept (sleepField n) s (s.requestSleep n) :=
  ⟨.foldl TxStep.sleepLane _ s,
    List.foldlRecOn _ _ (.refl _ s) fun t ht _ hm => ht.trans (.sleepLane hm t)⟩

/-- What a sleep request does to each lane of the link. -/
theorem State.lane_requestSleep (s : State) {n m : Nat} (here : m ∈ linkLanes n) :
    ((s.lane m).tx = .training ∨ (s.lane m).tx = .traffic → ((s.requestSleep n).lane m).tx = .asleep ∧
      ((s.requestSleep n).lane m).idleAt = s.now ∧ (s.requestSleep n).flag LnStat.txAsleep m = true ∧
      Out.lane m 3 ∈ (s.requestSleep n).sent) ∧
    ((s.lane m).tx = .waking → ((s.requestSleep n).lane m).tx = .waking ∧ ((s.requestSleep n).lane m).sleepDue = true) ∧
    ((s.lane m).tx = .asleep → (s.requestSleep n).lane m = s.lane m) := by
  obtain ⟨t, ⟨hnow, hlane, hasleep, -⟩, hnow', hlane', hasleep', hsent'⟩ := foldl_lane LaneSpared.sleepLane (s := s) here
  rw [State.requestSleep]
  unfold State.flag
  rw [hlane', hasleep', ← hlane, ← hnow]
  refine ⟨fun sending => ?_, fun waking => ?_, fun asleep => ?_⟩
  · rw [State.sleepLane_of_sending sending] at hsent' ⊢
    refine ⟨?_, ?_, ?_, hsent' List.mem_cons_self⟩
    · rw [State.laneSlept, State.lane_setLane, if_pos rfl]
    · rw [State.laneSlept, State.lane_setLane, if_pos rfl]
    · rw [State.laneSlept, State.get_setLane, State.get_put_of_lt _ _ _ (by decide)]
      rfl
  · rw [State.sleepLane_of_waking waking, State.lane_setLane, if_pos rfl]
    exact ⟨waking, rfl⟩
  · rw [State.sleepLane_of_idle (.inr (.inl asleep))]

theorem txSleepRequest_sleeps (n : Fin 142) (s : State) (grebrizon : n.val < 140)
    (asked : n.val < 128 → (Tab.get Port.reset s.ports n.val).sleepReq = true) :
    ∃ t, exec (.txSleepRequest n) s = .next t ∧ t = { s with regs := t.regs, lanes := t.lanes, sent := t.sent } ∧
      t.flag LnCtrl.txSleep n.val = true ∧ (∀ m ∈ linkLanes n.val,
        ((s.lane m).tx = .training ∨ (s.lane m).tx = .traffic → (t.lane m).tx = .asleep ∧ (t.lane m).idleAt = s.now ∧
          t.flag LnStat.txAsleep m = true ∧ Out.lane m 3 ∈ t.sent) ∧
        ((s.lane m).tx = .waking → (t.lane m).tx = .waking ∧ (t.lane m).sleepDue = true) ∧
        ((s.lane m).tx = .asleep → t.lane m = s.lane m)) ∧ (∀ m, m ∉ linkLanes n.val → t.lane m = s.lane m) ∧
      FieldsKept (sleepField n.val) s t := by
  have notRing : ¬ringLane n.val = true := by simp [ringLane]; omega
  have requested : exec (.txSleepRequest n) s = .next ((s.put LnCtrl.txSleep n.val 1).requestSleep n.val) := by
    refine congrArg Host.Outcome.next ((if_neg notRing).trans ?_)
    split
    next head => exact if_pos (asked head)
    next => rfl
  obtain ⟨step, kept⟩ := (s.put LnCtrl.txSleep n.val 1).requestSleep_frame n.val
  refine ⟨_, requested, TxStep.trans (t := s.put LnCtrl.txSleep n.val 1) rfl step, ?_,
    fun m hm => (s.put LnCtrl.txSleep n.val 1).lane_requestSleep hm, fun m away => (foldl_lane_other LaneSpared.sleepLane _ away).2.1,
    (FieldsKept.put s n.val 1 (by decide) (sleepField_of_mem (by decide) (mem_linkLanes_self _))).trans kept⟩
  have untouched : ((s.put LnCtrl.txSleep n.val 1).requestSleep n.val).get LnCtrl.txSleep n.val = 1 := by
    rw [State.txSleep_requestSleep, State.get_put_of_lt _ _ _ (by decide)]
  rw [State.flag, untouched]
  rfl

/-! ### Waking up -/

/-- A wake request that comes before the minimum of electrical idle has passed waits (R113). -/
def State.laneHeld (s : State) (n : Nat) : State := s.setLane n { s.lane n with wakeDue := true }

section
variable {s : State} {n : Nat}

theorem State.wakeOrWait_of_early (asleep : (s.lane n).tx = .asleep) (early : s.now - (s.lane n).idleAt < 250) :
    s.wakeOrWait n = s.laneHeld n := by
  unfold State.wakeOrWait State.laneHeld
  dsimp only
  rw [asleep]
  exact if_pos early

theorem State.wakeOrWait_of_rested (asleep : (s.lane n).tx = .asleep) (rested : 250 ≤ s.now - (s.lane n).idleAt) :
    s.wakeOrWait n = s.wakeLane n := by
  unfold State.wakeOrWait
  dsimp only
  rw [asleep]
  exact if_neg (by omega)

/-- What a wake request does to a transmitter. -/
theorem State.wakeOrWait_cases (s : State) (n : Nat) : (∃ l, s.wakeOrWait n = s.setLane n l) ∨ s.wakeOrWait n = s.wakeLane n ∨
    s.wakeOrWait n = s := by
  unfold State.wakeOrWait
  dsimp only
  cases (s.lane n).tx with
  | asleep =>
    rcases Nat.lt_or_ge (s.now - (s.lane n).idleAt) 250 with early | rested
    · exact .inl ⟨_, if_pos early⟩
    · exact .inr (.inl (if_neg (by omega)))
  | waking => exact .inl ⟨_, rfl⟩
  | off | training | traffic | prbs => exact .inr (.inr rfl)

theorem State.lane_wakeLane (s : State) (n : Nat) :
    (s.wakeLane n).lane n = { s.lane n with tx := .waking, wakeDue := false } := by
  have sent (t : State) : (t.sendLane n 1).lane n = t.lane n := rfl
  rw [State.wakeLane, sent, State.lane_setLane, if_pos rfl]

theorem State.txAsleep_wakeLane (s : State) (n : Nat) : (s.wakeLane n).flag LnStat.txAsleep n = false := by
  have sent (t : State) : (t.sendLane n 1).get LnStat.txAsleep n = t.get LnStat.txAsleep n := rfl
  rw [State.flag, State.wakeLane, sent, State.get_setLane, State.get_put_of_lt _ _ _ (by decide)]
  rfl

end

theorem LaneSpared.wakeOrWait (s : State) (n m : Nat) (other : n ≠ m) : LaneSpared m s (s.wakeOrWait n) := by
  rcases s.wakeOrWait_cases n with ⟨l, h⟩ | h | h
  · rw [h]
    exact .setLane other s l
  · rw [h]
    exact ((LaneSpared.putAsleep other s 0).trans (.setLane other _ _)).trans (.sendLane m n 1 _)
  · rw [h]
    exact .refl m s

theorem TxStep.wakeOrWait (s : State) (n : Nat) : TxStep s (s.wakeOrWait n) := by
  rcases s.wakeOrWait_cases n with ⟨l, h⟩ | h | h <;> rw [h] <;> rfl

theorem State.txSleep_wakeOrWait (s : State) (n m : Nat) : (s.wakeOrWait n).get LnCtrl.txSleep m = s.get LnCtrl.txSleep m := by
  rcases s.wakeOrWait_cases n with ⟨l, h⟩ | h | h
  · rw [h, State.get_setLane]
  · rw [h]
    exact s.get_put_ne (f := LnStat.txAsleep) (by decide) n m 0
  · rw [h]

theorem State.txSleep_requestWake (s : State) (n m : Nat) : (s.requestWake n).get LnCtrl.txSleep m = s.get LnCtrl.txSleep m :=
  foldl_keeps (fun t => t.get LnCtrl.txSleep m) (fun t k => t.txSleep_wakeOrWait k m) _ s

theorem FieldsKept.wakeOrWait {n m : Nat} (here : m ∈ linkLanes n) (s : State) : FieldsKept (sleepField n) s (s.wakeOrWait m) := by
  rcases s.wakeOrWait_cases m with ⟨l, h⟩ | h | h
  · rw [h]
    exact .of_regs _ rfl
  · rw [h]
    exact (FieldsKept.put s (f := LnStat.txAsleep) m 0 (by decide) (sleepField_of_mem (by decide) here)).trans (.of_regs _ rfl)
  · rw [h]
    exact .refl _ s

theorem State.requestWake_frame (s : State) (n : Nat) : TxStep s (s.requestWake n) ∧ FieldsKept (sleepField n) s (s.requestWake n) :=
  ⟨.foldl TxStep.wakeOrWait _ s, List.foldlRecOn _ _ (.refl _ s) fun t ht _ hm => ht.trans (.wakeOrWait hm t)⟩

/-- What a wake request does to each lane of the link. -/
theorem State.lane_requestWake (s : State) {n m : Nat} (here : m ∈ linkLanes n) (asleep : (s.lane m).tx = .asleep) :
    (250 ≤ s.now - (s.lane m).idleAt → ((s.requestWake n).lane m).tx = .waking ∧ (s.requestWake n).flag LnStat.txAsleep m = false) ∧
    (s.now - (s.lane m).idleAt < 250 → ((s.requestWake n).lane m).tx = .asleep ∧ ((s.requestWake n).lane m).wakeDue = true) := by
  obtain ⟨t, ⟨hnow, hlane, -, -⟩, -, hlane', hasleep', -⟩ := foldl_lane LaneSpared.wakeOrWait (s := s) here
  rw [← hlane] at asleep
  rw [State.requestWake]
  unfold State.flag
  rw [hlane', hasleep', ← hlane, ← hnow]
  refine ⟨fun rested => ?_, fun early => ?_⟩
  · rw [State.wakeOrWait_of_rested asleep rested, State.lane_wakeLane]
    exact ⟨rfl, t.txAsleep_wakeLane m⟩
  · rw [State.wakeOrWait_of_early asleep early, State.laneHeld, State.lane_setLane, if_pos rfl]
    exact ⟨asleep, rfl⟩

theorem txWakeRequest_wakes (n : Fin 142) (s : State) (grebrizon : n.val < 140)
    (unasked : n.val < 128 → (Tab.get Port.reset s.ports n.val).sleepReq = false) :
    ∃ t, exec (.txWakeRequest n) s = .next t ∧ t = { s with regs := t.regs, lanes := t.lanes, sent := t.sent } ∧
      t.flag LnCtrl.txSleep n.val = false ∧ (∀ m ∈ linkLanes n.val, (s.lane m).tx = .asleep →
        (250 ≤ s.now - (s.lane m).idleAt → (t.lane m).tx = .waking ∧ t.flag LnStat.txAsleep m = false) ∧
        (s.now - (s.lane m).idleAt < 250 → (t.lane m).tx = .asleep ∧ (t.lane m).wakeDue = true)) ∧
      (∀ m, m ∉ linkLanes n.val → t.lane m = s.lane m) := by
  have notRing : ¬ringLane n.val = true := by simp [ringLane]; omega
  have free : ¬(n.val < 128 ∧ (Tab.get Port.reset s.ports n.val).sleepReq = true) := fun h => by simp [unasked h.1] at h
  refine ⟨(s.put LnCtrl.txSleep n.val 0).requestWake n.val, congrArg Host.Outcome.next ((if_neg notRing).trans (if_neg free)),
    TxStep.trans (t := s.put LnCtrl.txSleep n.val 0) rfl (.foldl TxStep.wakeOrWait _ _), ?_,
    fun m hm asleep => (s.put LnCtrl.txSleep n.val 0).lane_requestWake hm asleep,
    fun m away => (foldl_lane_other LaneSpared.wakeOrWait _ away).2.1⟩
  rw [State.flag, State.txSleep_requestWake, State.get_put_of_lt _ _ _ (by decide)]
  rfl

theorem ringLane_ignores_requests (n : Fin 142) (s : State) (ring : 140 ≤ n.val) :
    exec (.txSleepRequest n) s = .next s ∧ exec (.txWakeRequest n) s = .next s :=
  ⟨congrArg Host.Outcome.next (if_pos (decide_eq_true ring)), congrArg Host.Outcome.next (if_pos (decide_eq_true ring))⟩

/-! ### The ends of the two waits -/

theorem wakeSequenceEnd_sends (n : Fin 140) (s : State) (waking : (s.lane n.val).tx = .waking) :
    ∃ t, exec (.wakeSequenceEnd n) s = .next t ∧
      (t.lane n.val).tx = (if (s.lane n.val).sleepDue then .asleep else .traffic) ∧ (t.lane n.val).sleepDue = false ∧
      t = { s with regs := t.regs, lanes := t.lanes, sent := t.sent } := by
  let u : State := s.setLane n.val { s.lane n.val with tx := .traffic, sleepDue := false }
  have sending : u.lane n.val = { s.lane n.val with tx := .traffic, sleepDue := false } :=
    (s.lane_setLane _ _ _).trans (if_pos rfl)
  have ended : exec (.wakeSequenceEnd n) s = .next (if (s.lane n.val).sleepDue = true then u.sleepLane n.val else u) :=
    congrArg Host.Outcome.next (if_pos waking)
  cases due : (s.lane n.val).sleepDue with
  | true =>
    refine ⟨u.sleepLane n.val, by rw [ended, if_pos due], ?_, ?_, TxStep.trans (t := u) rfl (.sleepLane u _)⟩
    · rw [State.sleepLane_of_sending (.inr (by rw [sending])), State.laneSlept, State.lane_setLane, if_pos rfl]
      rfl
    · rw [State.sleepLane_of_sending (.inr (by rw [sending])), State.laneSlept, State.lane_setLane, if_pos rfl, sending]
  | false =>
    refine ⟨u, by rw [ended, due]; rfl, ?_, ?_, rfl⟩
    · rw [sending]
      rfl
    · rw [sending]

theorem idleMinimumExpiry_wakes (n : Fin 140) (s : State) (asleep : (s.lane n.val).tx = .asleep) (due : (s.lane n.val).wakeDue = true) :
    ∃ t, exec (.idleMinimumExpiry n) s = .next t ∧ (t.lane n.val).tx = .waking ∧ (t.lane n.val).wakeDue = false ∧
      t.flag LnStat.txAsleep n.val = false ∧ t = { s with regs := t.regs, lanes := t.lanes, sent := .lane n.val 1 :: s.sent } := by
  refine ⟨s.wakeLane n.val, congrArg Host.Outcome.next (if_pos ⟨asleep, due⟩), ?_, ?_, s.txAsleep_wakeLane n.val, rfl⟩
  · rw [State.lane_wakeLane]
  · rw [State.lane_wakeLane]

/-- Settles O27: a request goes round the lanes of a link, and each round spares the other lanes. -/
theorem laneSleepAndWake : Obligations.LaneSleepAndWake := by
  unfold Obligations.LaneSleepAndWake
  exact ⟨txSleepRequest_sleeps, txWakeRequest_wakes, ringLane_ignores_requests, wakeSequenceEnd_sends, idleMinimumExpiry_wakes⟩

end Sys2Proof.Machine
end

section
/-! ## SKP, rate matching and the elastic buffer (R97, R100, R101, R120): O28 -/
namespace Sys2Proof.Machine

/-! ### SKP and LMK as sent -/

/-- What has been sent, and the lane's counts, after one more SKP (R97). -/
def State.skpSent (s : State) (n : Nat) : State :=
  let l := s.lane n
  if l.skps = 3 then ((s.sendLane n 2).sendLane n 4).setLane n { l with skps := 0, seq := (l.seq + 1) % 256 }
  else (s.sendLane n 2).setLane n { l with skps := l.skps + 1 }

theorem execSkpSend_eq {n : Fin 140} {s : State}
    (sending : (s.lane n.val).tx = .training ∨ (s.lane n.val).tx = .traffic ∨ (s.lane n.val).tx = .waking) :
    exec (.skpSend n) s = .next (s.skpSent n.val) := by
  change execSkpSend n s = _
  unfold execSkpSend State.skpSent
  dsimp only
  rcases sending with h | h | h <;> rw [h]

theorem skpSend_sends (n : Fin 140) (s : State)
    (sending : (s.lane n.val).tx = .training ∨ (s.lane n.val).tx = .traffic ∨ (s.lane n.val).tx = .waking) :
    ∃ t, exec (.skpSend n) s = .next t ∧ t = { s with lanes := t.lanes, sent := t.sent } ∧
      (t.lane n.val).skps = (if (s.lane n.val).skps = 3 then 0 else (s.lane n.val).skps + 1) ∧
      (t.lane n.val).seq = (if (s.lane n.val).skps = 3 then ((s.lane n.val).seq + 1) % 256 else (s.lane n.val).seq) ∧
      t.sent = (if (s.lane n.val).skps = 3 then .lane n.val 4 :: .lane n.val 2 :: s.sent else .lane n.val 2 :: s.sent) := by
  refine ⟨s.skpSent n.val, execSkpSend_eq sending, ?_⟩
  unfold State.skpSent
  dsimp only
  by_cases fourth : (s.lane n.val).skps = 3
  · simp only [if_pos fourth, State.lane_setLane, if_true]
    exact ⟨rfl, trivial, trivial, rfl⟩
  · simp only [if_neg fourth, State.lane_setLane, if_true]
    exact ⟨rfl, trivial, trivial, rfl⟩

/-! ### The rate matching of a receiver -/

/-- The deciding lane's decision reaches every lane of its link. -/
def State.skpDecided (s : State) (n d : Nat) : State :=
  (linkLanes n).foldl (fun t m => t.setLane m { t.lane m with skpDecision := d }) s

theorem State.skpDecided_eq (s : State) (n d : Nat) : s.skpDecided n d = { s with lanes := (s.skpDecided n d).lanes } := by
  unfold State.skpDecided
  refine foldl_rel (R := fun s t => t = { s with lanes := t.lanes }) (fun _ => rfl) (fun h h' => by rw [h', h]) (fun t m => ?_) _ s
  rfl

theorem State.lane_skpDecided (s : State) {n m : Nat} (d : Nat) (here : m ∈ linkLanes n) : ((s.skpDecided n d).lane m).skpDecision = d :=
  foldl_visits (before := fun _ => True) (after := fun (t : State) => (t.lane m).skpDecision = d)
    (fun t _ => by rw [State.lane_setLane, if_pos rfl]) (fun _ _ _ h => h)
    (fun t k other h => by rw [State.lane_setLane, if_neg other]; exact h) (linkLanes_nodup n) here trivial

theorem State.get_skpDecided (s : State) (n d : Nat) (f : Fld) (i : Nat) : (s.skpDecided n d).get f i = s.get f i :=
  State.get_congr (by rw [s.skpDecided_eq]) f i

/-- The fields that an SKP counts in and shows the fill in. -/
abbrev skpFields : List Fld := [LnSkpcnt.ins, LnSkpcnt.del, LnStat.ebFill]

theorem OnlyRegs.skpApply (s : State) (n fill d : Nat) : OnlyRegs s (s.skpApply n fill d) := by
  unfold State.skpApply
  split
  · rfl
  · split <;> rfl

theorem FieldsKept.skpApply (s : State) (n fill d : Nat) : FieldsKept (onlyAt skpFields n) s (s.skpApply n fill d) := by
  have own {f : Fld} (hf : f ∈ skpFields) : onlyAt skpFields n f n = true := by simp [onlyAt, hf]
  unfold State.skpApply State.bump
  split
  · exact (FieldsKept.put s n _ (by decide) (own (by decide))).trans (.put _ n _ (by decide) (own (by decide)))
  · split
    · exact (FieldsKept.put s n _ (by decide) (own (by decide))).trans (.put _ n _ (by decide) (own (by decide)))
    · exact .put s n _ (by decide) (own (by decide))

/-- INS, DEL and EB_FILL after an SKP that the fill decides (R100). -/
theorem State.get_skpApply (s : State) (n : Nat) {fill : Nat} (fits : fill ≤ 16) :
    (s.skpApply n fill (skpRule fill)).get LnSkpcnt.ins n =
      (if fill < 8 then (s.get LnSkpcnt.ins n + 1) % 2 ^ 16 else s.get LnSkpcnt.ins n) ∧
    (s.skpApply n fill (skpRule fill)).get LnSkpcnt.del n =
      (if 8 < fill then (s.get LnSkpcnt.del n + 1) % 2 ^ 16 else s.get LnSkpcnt.del n) ∧
    (s.skpApply n fill (skpRule fill)).get LnStat.ebFill n = (if fill < 8 then fill + 1 else if 8 < fill then fill - 1 else 8) := by
  have width : LnStat.ebFill.width = 5 ∧ LnSkpcnt.ins.width = 16 ∧ LnSkpcnt.del.width = 16 := ⟨rfl, rfl, rfl⟩
  obtain ⟨heb, hins, hdel⟩ := width
  unfold State.skpApply skpRule State.bump
  rcases Nat.lt_trichotomy fill 8 with low | same | high
  · have filled : (fill + 1) % 2 ^ 5 = fill + 1 := Nat.mod_eq_of_lt (by omega)
    simp (disch := decide) only [low, if_true, if_neg (Nat.lt_asymm low), State.get_put_self, State.get_put_ne, heb, hins, filled, and_self]
  · subst same
    simp (disch := decide)
    decide
  · have drained : (fill - 1) % 2 ^ 5 = fill - 1 := Nat.mod_eq_of_lt (by omega)
    simp (disch := decide) only [high, if_true, if_neg (Nat.lt_asymm high), State.get_put_self, State.get_put_ne, heb, hdel, drained,
      OfNat.ofNat_ne_one, if_false, and_self]

theorem skpReceive_matches (n : Fin 140) (k fill : Nat) (s : State) (one : 1 ≤ k) (five : k ≤ 5) (fits : fill ≤ 16)
    (locked : s.flag LnStat.lock n.val = true) (decides : n.val < 128 ∨ s.get LnStat.lane n.val = 0) :
    ∃ t, exec (.skpReceive n k fill) s = .next t ∧ t = { s with regs := t.regs, lanes := t.lanes } ∧
      t.get LnSkpcnt.ins n.val = (if fill < 8 then (s.get LnSkpcnt.ins n.val + 1) % 2 ^ 16 else s.get LnSkpcnt.ins n.val) ∧
      t.get LnSkpcnt.del n.val = (if 8 < fill then (s.get LnSkpcnt.del n.val + 1) % 2 ^ 16 else s.get LnSkpcnt.del n.val) ∧
      t.get LnStat.ebFill n.val = (if fill < 8 then fill + 1 else if 8 < fill then fill - 1 else 8) ∧
      (∀ m ∈ linkLanes n.val, (t.lane m).skpDecision = skpRule fill) ∧ FieldsKept (onlyAt skpFields n.val) s t := by
  have counted : ¬(k < 1 ∨ 5 < k ∨ ¬s.flag LnStat.lock n.val = true) := by simp [locked]; omega
  have deciding : (linkLanes n.val).length = 1 ∨ s.get LnStat.lane n.val = 0 :=
    decides.imp_left fun head => by rw [linkLanes_head head]; rfl
  let u : State := s.skpDecided n.val (skpRule fill)
  obtain ⟨hins, hdel, hfill⟩ := u.get_skpApply n.val fits
  have decided : u.lanes = (u.skpApply n.val fill (skpRule fill)).lanes := by rw [OnlyRegs.skpApply u n.val fill (skpRule fill)]
  rw [s.get_skpDecided] at hins hdel
  refine ⟨u.skpApply n.val fill (skpRule fill), congrArg Host.Outcome.next ((if_neg counted).trans (if_pos deciding)), ?_, hins, hdel,
    hfill, fun m hm => ?_, (FieldsKept.of_regs _ ?_).trans (.skpApply u _ _ _)⟩
  · rw [OnlyRegs.skpApply u n.val fill (skpRule fill), show u = _ from s.skpDecided_eq _ _]
  · rw [State.lane_congr decided.symm]
    exact s.lane_skpDecided (skpRule fill) hm
  · rw [show u = _ from s.skpDecided_eq _ _]

/-! ### The elastic buffer -/

/-- A buffer error is shown, the buffer recentred and the frame marked. -/
def State.ebRecentred (s : State) (n : Nat) : State :=
  ((s.put LnStat.ebErr n 1).put LnStat.ebFill n 8).setLane n { s.lane n with frameError := true }

theorem State.lane_ebRecentred (s : State) (n : Nat) : (s.ebRecentred n).lane n = { s.lane n with frameError := true } := by
  rw [State.ebRecentred, State.lane_setLane, if_pos rfl]

theorem RecordsAlike.ebRecentred (s : State) (n : Nat) : RecordsAlike s (s.ebRecentred n) := by
  have apart : ∀ f ∈ recordRegs, LnStat.ebErr.apart f = true ∧ LnStat.ebFill.apart f = true := by decide
  refine ⟨rfl, rfl, rfl, rfl, rfl, fun f hf => ?_⟩
  rw [State.ebRecentred, State.get_setLane, State.get_put_ne _ (apart f hf).2, State.get_put_ne _ (apart f hf).1]

theorem elasticBufferError_recentres (n : Fin 140) (s : State) :
    ∃ t, exec (.elasticBufferError n) s = .next t ∧ t = { s with regs := t.regs, lanes := t.lanes, ev := t.ev } ∧
      t.flag LnStat.ebErr n.val = true ∧ t.get LnStat.ebFill n.val = 8 ∧ (t.lane n.val).frameError = true ∧
      ((s.lane n.val).lastEvent.getD 4 none = none → Recorded s t .lnEb n.val []) ∧
      (∀ x, (s.lane n.val).lastEvent.getD 4 none = some x → s.now - x < 500000 → t.ev = s.ev) ∧
      FieldsKept (onlyAt [LnStat.ebErr, LnStat.ebFill] n.val) s t := by
  let u : State := s.ebRecentred n.val
  have lane : u.lane n.val = { s.lane n.val with frameError := true } := s.lane_ebRecentred n.val
  have kept : FieldsKept (onlyAt [LnStat.ebErr, LnStat.ebFill] n.val) s u :=
    ((FieldsKept.put s n.val 1 (f := LnStat.ebErr) (by decide) (by simp [onlyAt])).trans
      (.put _ n.val 8 (f := LnStat.ebFill) (by decide) (by simp [onlyAt]))).trans (.of_regs _ (t := u) rfl)
  refine ⟨u.laneEvent n.val 4 .lnEb, rfl, LaneStep.trans (t := u) rfl (.laneEvent u _ _ _), ?_, ?_, ?_, fun first => ?_,
    fun x last recent => ?_, kept.trans (.laneEvent u _ _ _ fun f i h => by rw [onlyAt, h, Bool.true_or])⟩
  · rw [State.flag, State.get_laneEvent _ _ _ _ (by decide)]
    simp (disch := decide) [u, State.ebRecentred]
  · rw [State.get_laneEvent _ _ _ _ (by decide)]
    exact (s.put LnStat.ebErr n.val 1).get_put_of_lt LnStat.ebFill n.val (v := 8) (by decide)
  · obtain ⟨y, h⟩ := u.lane_laneEvent n.val 4 .lnEb n.val
    rw [h, lane]
  · exact (State.laneEvent_ev_of_first (by rw [lane]; exact first) .lnEb).trans ((RecordsAlike.ebRecentred s n.val).ev _ _ _)
  · have again : (u.lane n.val).lastEvent.getD 4 none = some x := by
      rw [lane]
      exact last
    rw [State.laneEvent_of_recent again recent]
    rfl

/-- Settles O28: the fill decides, the deciding lane's choice reaches its link, and only that lane counts it. -/
theorem laneRateMatching : Obligations.LaneRateMatching := by
  unfold Obligations.LaneRateMatching
  exact ⟨skpSend_sends, skpReceive_matches, elasticBufferError_recentres⟩

end Sys2Proof.Machine
end

section
/-! ## Test modes, the PRBS checker, the counter clear and the margin scan (R116 to R119): O29 -/
namespace Sys2Proof.Machine

/-! ### Test modes -/

/-- The fields that a test mode of a lane shows in. -/
abbrev testFields : List Fld := [LnCtrl.test, LnStat.prbsSync, LnStat.txAsleep]

/-- TEST is written. -/
def State.testPut (s : State) (n : Nat) (test : Fin 4) : State := s.put LnCtrl.test n test.val

/-- SLP and then PRBS31. -/
def State.testPrbs (s : State) (n : Nat) : State :=
  ((s.sendLane n 3).put LnStat.prbsSync n 0).setLane n { s.lane n with tx := .prbs, statusSeen := false }

/-- The loopback, with the balls idle. -/
def State.testLoop (s : State) (n : Nat) : State :=
  (s.put LnStat.prbsSync n 0).setLane n { s.lane n with tx := .off, statusSeen := false }

/-- The way back to traffic. -/
def State.testLeft (s : State) (n : Nat) : State := (s.put LnStat.prbsSync n 0).wakeLane n

/-- The mode that a lane goes to by TEST, and by what it was. -/
theorem execLaneTestModeSet_eq (n : Fin 142) (test : Fin 4) (s : State) : exec (.laneTestModeSet n test) s =
    .next (if test.val = 1 then (s.testPut n.val test).testPrbs n.val
      else if test.val = 2 then (s.testPut n.val test).testLoop n.val
      else if s.get LnCtrl.test n.val % 3 = 0 then s.testPut n.val test else (s.testPut n.val test).testLeft n.val) := by
  fin_cases test <;> rfl

/-- What a test mode leaves as it was. -/
def TestStep (n : Nat) (s t : State) : Prop := TxStep s t ∧ FieldsKept (onlyAt testFields n) s t

theorem TestStep.trans {n : Nat} {s t u : State} (h : TestStep n s t) (h' : TestStep n t u) : TestStep n s u :=
  ⟨h.1.trans h'.1, h.2.trans h'.2⟩

theorem TestStep.put (s : State) {f : Fld} (n v : Nat) (hf : f ∈ testFields) : TestStep n s (s.put f n v) := by
  have listed : ∀ g ∈ testFields, g ∈ g.reg.fields := by decide
  exact ⟨rfl, .put s n v (listed f hf) (by simp [onlyAt, hf])⟩

theorem TestStep.of_regs {n : Nat} {s t : State} (step : TxStep s t) (regs : t.regs = s.regs) : TestStep n s t :=
  ⟨step, .of_regs _ regs⟩

section
variable (s : State) (n : Nat) (test : Fin 4)

theorem TestStep.testPrbs : TestStep n s (s.testPrbs n) :=
  ((TestStep.of_regs (t := s.sendLane n 3) rfl rfl).trans (.put _ n 0 (f := LnStat.prbsSync) (by decide))).trans (.of_regs rfl rfl)

theorem TestStep.testLoop : TestStep n s (s.testLoop n) :=
  (TestStep.put s n 0 (f := LnStat.prbsSync) (by decide)).trans (.of_regs rfl rfl)

theorem TestStep.wakeLane : TestStep n s (s.wakeLane n) :=
  (TestStep.put s n 0 (f := LnStat.txAsleep) (by decide)).trans (.of_regs rfl rfl)

theorem TestStep.testLeft : TestStep n s (s.testLeft n) :=
  (TestStep.put s n 0 (f := LnStat.prbsSync) (by decide)).trans (.wakeLane _ n)

theorem State.get_testPut : (s.testPut n test).get LnCtrl.test n = test.val :=
  s.get_put_of_lt LnCtrl.test n test.isLt

theorem State.get_wakeLane {f : Fld} (h : LnStat.txAsleep.apart f = true) (i : Nat) : (s.wakeLane n).get f i = s.get f i :=
  s.get_put_ne h n i 0

end

theorem laneTestModeSet_sets (n : Fin 142) (test : Fin 4) (s : State) :
    ∃ t, exec (.laneTestModeSet n test) s = .next t ∧ t = { s with regs := t.regs, lanes := t.lanes, sent := t.sent } ∧
      t.get LnCtrl.test n.val = test.val ∧
      (test.val = 1 → (t.lane n.val).tx = .prbs ∧ t.sent = .lane n.val 3 :: s.sent) ∧ (test.val = 2 → (t.lane n.val).tx = .off) ∧
      (test.val = 0 → s.get LnCtrl.test n.val = 1 ∨ s.get LnCtrl.test n.val = 2 → (t.lane n.val).tx = .waking) ∧
      (test.val = 0 → s.get LnCtrl.test n.val = 0 → t.lane n.val = s.lane n.val) ∧
      FieldsKept (onlyAt testFields n.val) s t := by
  have set : TestStep n.val s (s.testPut n.val test) := .put s n.val _ (by decide)
  have shown := s.get_testPut n.val test
  refine ⟨_, execLaneTestModeSet_eq n test s, ?_⟩
  by_cases prbs : test.val = 1
  · obtain ⟨step, kept⟩ := set.trans (.testPrbs _ n.val)
    rw [if_pos prbs]
    refine ⟨step, ?_, fun _ => ⟨?_, rfl⟩, by omega, by omega, by omega, kept⟩
    · rw [State.testPrbs, State.get_setLane, State.get_put_ne _ (by decide)]
      exact shown
    · rw [State.testPrbs, State.lane_setLane, if_pos rfl]
  by_cases loop : test.val = 2
  · obtain ⟨step, kept⟩ := set.trans (.testLoop _ n.val)
    rw [if_neg prbs, if_pos loop]
    refine ⟨step, ?_, by omega, fun _ => ?_, by omega, by omega, kept⟩
    · rw [State.testLoop, State.get_setLane, State.get_put_ne _ (by decide)]
      exact shown
    · rw [State.testLoop, State.lane_setLane, if_pos rfl]
  rw [if_neg prbs, if_neg loop]
  by_cases was : s.get LnCtrl.test n.val % 3 = 0
  · rw [if_pos was]
    exact ⟨set.1, shown, by omega, by omega, by omega, fun _ _ => rfl, set.2⟩
  · obtain ⟨step, kept⟩ := set.trans (.testLeft _ n.val)
    rw [if_neg was]
    refine ⟨step, ?_, by omega, by omega, fun _ _ => ?_, by omega, kept⟩
    · rw [State.testLeft, State.get_wakeLane _ _ (by decide), State.get_put_ne _ (by decide)]
      exact shown
    · rw [State.testLeft, State.lane_wakeLane]

/-! ### The PRBS checker -/

/-- A synchronised checker counts its errors. -/
def State.prbsCounted (s : State) (n errors : Nat) : State :=
  if s.flag LnStat.prbsSync n then s.countBy LnPrbs.errbits LnPrbs.ovf n errors else s

theorem onlyAt_of_evt (l : List Fld) (n : Nat) (f : Fld) (i : Nat) (h : evtField f = true) : onlyAt l n f i = true := by
  rw [onlyAt, h, Bool.true_or]

theorem onlyAt_of_mem {l : List Fld} {f : Fld} (hf : f ∈ l) (n : Nat) : onlyAt l n f n = true := by
  simp [onlyAt, hf]

theorem prbsSyncChange_counts (n : Fin 142) (sync : Bool) (errors : Nat) (s : State) (prbs : s.get LnCtrl.test n.val = 1) :
    ∃ t, exec (.prbsSyncChange n sync errors) s = .next t ∧ t = { s with regs := t.regs, ev := t.ev } ∧
      t.flag LnStat.prbsSync n.val = sync ∧
      t.get LnPrbs.errbits n.val = (if s.flag LnStat.prbsSync n.val then satAdd 31 (s.get LnPrbs.errbits n.val) errors
        else s.get LnPrbs.errbits n.val) ∧ FieldsKept (onlyAt [LnStat.prbsSync, LnPrbs.errbits, LnPrbs.ovf] n.val) s t := by
  have counted : OnlyRegsEv s (s.prbsCounted n.val errors) ∧
      FieldsKept (onlyAt [LnStat.prbsSync, LnPrbs.errbits, LnPrbs.ovf] n.val) s (s.prbsCounted n.val errors) ∧
      (s.prbsCounted n.val errors).get LnPrbs.errbits n.val = (if s.flag LnStat.prbsSync n.val then
        satAdd 31 (s.get LnPrbs.errbits n.val) errors else s.get LnPrbs.errbits n.val) := by
    unfold State.prbsCounted
    split
    · exact ⟨.countBy s _ _, .countBy s _ _ (by decide) (by decide) (onlyAt_of_mem (by decide) _) (onlyAt_of_mem (by decide) _)
        (onlyAt_of_evt _ _), s.get_countBy _ _ (by decide) (by decide)⟩
    · exact ⟨.refl s, .refl _ s, rfl⟩
  obtain ⟨step, kept, errbits⟩ := counted
  refine ⟨(s.prbsCounted n.val errors).put LnStat.prbsSync n.val (if sync then 1 else 0), congrArg Host.Outcome.next (if_pos prbs),
    step.trans (.put _ _ _ _), ?_, ?_, kept.trans (.put _ n.val _ (by decide) (onlyAt_of_mem (by decide) _))⟩
  · rw [State.flag, State.get_put_of_lt _ _ _ (by cases sync <;> decide)]
    cases sync <;> rfl
  · rw [State.get_put_ne _ (by decide)]
    exact errbits

/-! ### The counter clear -/

/-- The counters of a lane and their OVF flags. -/
abbrev counterFields : List Fld := Reg.lnErrcnt.fields ++ Reg.lnSkpcnt.fields ++ Reg.lnPrbs.fields ++ Reg.lnMarginErr.fields

/-- Every counter of the lane is cleared. -/
def State.laneCleared (s : State) (n : Nat) : State := counterFields.foldl (fun t f => t.put f n 0) s

theorem lnCntClr_clears (n : Fin 142) (s : State) :
    ∃ t, exec (.lnCntClr n) s = .next t ∧ t = { s with regs := t.regs } ∧ (∀ f ∈ counterFields, t.get f n.val = 0) ∧
      FieldsKept (onlyAt counterFields n.val) s t := by
  have apart : ∀ f ∈ counterFields, ∀ g ∈ counterFields, f ≠ g → f.apart g = true := by decide
  have listed : ∀ f ∈ counterFields, f ∈ f.reg.fields := by decide
  refine ⟨s.laneCleared n.val, rfl, OnlyRegs.foldl (fun t f => .put t f _ 0) _ s, ?_, ?_⟩
  · exact foldl_fields (value := fun _ _ => 0) (fun f _ t => (t.get_put_self f _ 0).trans (Nat.zero_mod _))
      (fun f hf g hg other t => t.get_put_ne (apart f hf g hg other) _ _ 0) (by decide) s
  · exact List.foldlRecOn _ _ (.refl _ s) fun t ht f hf => ht.trans (.put t _ 0 (listed f hf) (onlyAt_of_mem hf _))

/-! ### The margin scan -/

abbrev marginFields : List Fld := Reg.lnMargin.fields ++ Reg.lnMarginErr.fields

/-- A change of the margin registers of a lane alone. -/
def MarginStep (n : Nat) (s t : State) : Prop := OnlyRegs s t ∧ FieldsKept (onlyAt marginFields n) s t

theorem MarginStep.trans {n : Nat} {s t u : State} (h : MarginStep n s t) (h' : MarginStep n t u) : MarginStep n s u :=
  ⟨h.1.trans h'.1, h.2.trans h'.2⟩

theorem MarginStep.put (s : State) {f : Fld} (n v : Nat) (hf : f ∈ marginFields) : MarginStep n s (s.put f n v) := by
  have listed : ∀ g ∈ marginFields, g ∈ g.reg.fields := by decide
  exact ⟨rfl, .put s n v (listed f hf) (onlyAt_of_mem hf n)⟩

/-- The point to measure is taken, and DONE is cleared where a 1 is written to it. -/
def State.marginPoint (s : State) (n : Nat) (value : Word) : State :=
  let s := ((s.put LnMargin.phase n (LnMargin.phase.of value)).put LnMargin.vofs n (LnMargin.vofs.of value)).put
    LnMargin.dwell n (LnMargin.dwell.of value)
  if LnMargin.done.of value = 1 then s.put LnMargin.done n 0 else s

theorem MarginStep.marginPoint (s : State) (n : Nat) (value : Word) : MarginStep n s (s.marginPoint n value) := by
  have point := ((MarginStep.put s n (LnMargin.phase.of value) (f := LnMargin.phase) (by decide)).trans
    (.put _ n (LnMargin.vofs.of value) (f := LnMargin.vofs) (by decide))).trans (.put _ n (LnMargin.dwell.of value) (f := LnMargin.dwell) (by decide))
  unfold State.marginPoint
  dsimp only
  split
  · exact point.trans (.put _ n 0 (by decide))
  · exact point

theorem State.get_marginPoint (s : State) (n : Nat) (value : Word) :
    (s.marginPoint n value).get LnMargin.phase n = LnMargin.phase.of value ∧
    (s.marginPoint n value).get LnMargin.vofs n = LnMargin.vofs.of value ∧
    (s.marginPoint n value).get LnMargin.dwell n = LnMargin.dwell.of value := by
  have taken (f : Fld) (t : State) : (t.put f n (f.of value)).get f n = f.of value := t.get_put_of_lt f n (f.of_lt value)
  unfold State.marginPoint
  dsimp only
  split <;> simp (disch := decide) only [State.get_put_ne, taken, and_self]

theorem State.get_marginPoint_ne (s : State) (n : Nat) (value : Word) {f : Fld} (phase : LnMargin.phase.apart f = true)
    (vofs : LnMargin.vofs.apart f = true) (dwell : LnMargin.dwell.apart f = true) (done : LnMargin.done.apart f = true) (i : Nat) :
    (s.marginPoint n value).get f i = s.get f i := by
  unfold State.marginPoint
  dsimp only
  split <;> simp only [State.get_put_ne _ phase, State.get_put_ne _ vofs, State.get_put_ne _ dwell, State.get_put_ne _ done]

/-- A dwell begins with its counter at 0. -/
def State.dwellBegun (s : State) (n : Nat) : State :=
  ((s.put LnMargin.busy n 1).put LnMarginErr.mismatch n 0).put LnMarginErr.ovf n 0

theorem MarginStep.dwellBegun (s : State) (n : Nat) : MarginStep n s (s.dwellBegun n) :=
  ((MarginStep.put s n 1 (f := LnMargin.busy) (by decide)).trans (.put _ n 0 (f := LnMarginErr.mismatch) (by decide))).trans
    (.put _ n 0 (f := LnMarginErr.ovf) (by decide))

theorem marginGo_starts (n : Fin 142) (value : Word) (s : State) :
    ∃ t, exec (.marginGo n value) s = .next t ∧ t = { s with regs := t.regs } ∧
      t.get LnMargin.phase n.val = LnMargin.phase.of value ∧ t.get LnMargin.vofs n.val = LnMargin.vofs.of value ∧
      t.get LnMargin.dwell n.val = LnMargin.dwell.of value ∧
      (LnMargin.go.of value = 1 → s.flag LnMargin.busy n.val = false → t.flag LnMargin.busy n.val = true ∧
        t.get LnMarginErr.mismatch n.val = 0 ∧ t.get LnMarginErr.ovf n.val = 0) ∧
      ((LnMargin.go.of value = 0 ∨ s.flag LnMargin.busy n.val = true) → t.get LnMargin.busy n.val = s.get LnMargin.busy n.val ∧
        t.get LnMarginErr.mismatch n.val = s.get LnMarginErr.mismatch n.val) ∧
      FieldsKept (onlyAt marginFields n.val) s t := by
  obtain ⟨step, kept⟩ := MarginStep.marginPoint s n.val value
  obtain ⟨phase, vofs, dwell⟩ := s.get_marginPoint n.val value
  have busy := s.get_marginPoint_ne n.val value (f := LnMargin.busy) (by decide) (by decide) (by decide) (by decide) n.val
  have mismatch := s.get_marginPoint_ne n.val value (f := LnMarginErr.mismatch) (by decide) (by decide) (by decide) (by decide) n.val
  have written : exec (.marginGo n value) s = .next (if LnMargin.go.of value = 1 ∧ ¬(s.marginPoint n.val value).flag LnMargin.busy n.val = true
      then (s.marginPoint n.val value).dwellBegun n.val else s.marginPoint n.val value) := rfl
  rw [written]
  unfold State.flag
  rw [busy]
  generalize s.marginPoint n.val value = u at *
  by_cases go : LnMargin.go.of value = 1 ∧ ¬(s.get LnMargin.busy n.val == 1) = true
  · obtain ⟨begun, keptBegun⟩ := MarginStep.dwellBegun u n.val
    obtain ⟨goes, idle⟩ := go
    rw [if_pos ⟨goes, idle⟩]
    refine ⟨_, rfl, step.trans begun, ?_, ?_, ?_, fun _ _ => ?_, fun ignored => ?_, kept.trans keptBegun⟩
    · simpa (disch := decide) only [State.dwellBegun, State.get_put_ne] using phase
    · simpa (disch := decide) only [State.dwellBegun, State.get_put_ne] using vofs
    · simpa (disch := decide) only [State.dwellBegun, State.get_put_ne] using dwell
    · simp (disch := decide) [State.dwellBegun]
    · rcases ignored with held | busyNow
      · omega
      · exact absurd busyNow idle
  · rw [if_neg go]
    exact ⟨u, rfl, step, phase, vofs, dwell, fun goes idle => absurd ⟨goes, by simp [idle]⟩ go, fun _ => ⟨busy, mismatch⟩, kept⟩

theorem marginDwellDone_ends (n : Fin 142) (mismatch : Nat) (s : State) (busy : s.flag LnMargin.busy n.val = true) :
    ∃ t, exec (.marginDwellDone n mismatch) s = .next t ∧ t = { s with regs := t.regs, ev := t.ev } ∧
      t.flag LnMargin.busy n.val = false ∧ t.flag LnMargin.done n.val = true ∧
      t.get LnMarginErr.mismatch n.val = satAdd 31 (s.get LnMarginErr.mismatch n.val) mismatch ∧
      FieldsKept (onlyAt marginFields n.val) s t := by
  let u : State := s.countBy LnMarginErr.mismatch LnMarginErr.ovf n.val mismatch
  have kept : FieldsKept (onlyAt marginFields n.val) s u := .countBy s _ _ (by decide) (by decide) (onlyAt_of_mem (by decide) _)
    (onlyAt_of_mem (by decide) _) (onlyAt_of_evt _ _)
  obtain ⟨idle, keptIdle⟩ := (MarginStep.put u n.val 0 (f := LnMargin.busy) (by decide)).trans
    (.put _ n.val 1 (f := LnMargin.done) (by decide))
  refine ⟨(u.put LnMargin.busy n.val 0).put LnMargin.done n.val 1, congrArg Host.Outcome.next (if_pos busy),
    (OnlyRegsEv.countBy s _ _).trans (.of_regs idle), ?_, ?_, ?_, kept.trans keptIdle⟩
  · simp (disch := decide) [State.flag]
  · simp (disch := decide) [State.flag]
  · rw [State.get_put_ne _ (by decide), State.get_put_ne _ (by decide)]
    exact s.get_countBy _ _ (by decide) (by decide)

/-- Settles O29, command by command. -/
theorem laneTestAndMargin : Obligations.LaneTestAndMargin := by
  unfold Obligations.LaneTestAndMargin
  exact ⟨laneTestModeSet_sets, prbsSyncChange_counts, lnCntClr_clears, marginGo_starts, marginDwellDone_ends⟩

end Sys2Proof.Machine
end

section
/-! ## The management queue, withdrawals and bring-up of a port: what O41's commands are made of -/
namespace Sys2Proof.Machine

/-! ### The head ports -/

@[simp] theorem State.port_setPort (s : State) (p : Nat) (x : Port) : (s.setPort p x).port p = x :=
  (Tab.get_set Port.reset s.ports p p x).trans (if_pos rfl)

@[simp] theorem State.port_mapPort (s : State) (p : Nat) (f : Port → Port) : (s.mapPort p f).port p = f (s.port p) :=
  s.port_setPort p _

theorem State.port_congr {s t : State} (h : t.ports = s.ports) (p : Nat) : t.port p = s.port p := by
  rw [State.port, State.port, h]

/-! ### The management queue (R252, R275, R286) -/

/-- The port is no longer asked to sleep. -/
def State.sleepEnded (s : State) (p : Nat) : State := (s.mapPort p fun x => { x with sleepReq := false }).put LnCtrl.txSleep p 0

theorem State.port_sleepEnded (s : State) (p : Nat) : (s.sleepEnded p).port p = { s.port p with sleepReq := false } :=
  s.port_mapPort p fun x => { x with sleepReq := false }

theorem State.wakePort_of_asleep {s : State} {p : Nat} (asleep : (s.port p).sleepReq = true) :
    s.wakePort p = (s.sleepEnded p).requestWake p := if_pos asleep

theorem State.wakePort_of_awake {s : State} {p : Nat} (awake : (s.port p).sleepReq = false) : s.wakePort p = s :=
  if_neg (by simp [awake])

/-- The outstanding request is gone, and so are those that wait and are no longer allowed. -/
def State.reqDropped (s : State) (p : Nat) : State :=
  let u := s.mapPort p (fun x => { x with request := none })
  u.mapPort p (fun x => { x with waiting := x.waiting.filter (fun r => u.opAllowed p r.op) })

/-- Of the requests that still wait the first goes out, if there is one. -/
theorem State.nextReq_cases (s : State) (p : Nat) : s.nextReq p = s.reqDropped p ∨
    ∃ r rest, ((s.reqDropped p).port p).waiting = r :: rest ∧
      s.nextReq p = ((s.reqDropped p).mapPort p fun x => { x with waiting := rest }).startReq p r := by
  unfold State.nextReq
  dsimp only
  split
  · exact .inl rfl
  next r rest first => exact .inr ⟨r, rest, first, rfl⟩

/-- A step changes what the ports note and what was sent at most. -/
def PortStep (s t : State) : Prop := t = { s with ports := t.ports, sent := t.sent }

theorem PortStep.trans {s t u : State} (h : PortStep s t) (h' : PortStep t u) : PortStep s u := by
  unfold PortStep at *
  rw [h] at h'
  exact h'

theorem PortStep.mapPort (s : State) (p : Nat) (f : Port → Port) : PortStep s (s.mapPort p f) := rfl

theorem PortStep.startReq (s : State) (p : Nat) (r : MgmtReq) : PortStep s (s.startReq p r) := rfl

theorem PortStep.nextReq (s : State) (p : Nat) : PortStep s (s.nextReq p) := by
  have dropped : PortStep s (s.reqDropped p) := by
    unfold State.reqDropped
    exact (PortStep.mapPort s p _).trans (.mapPort _ p _)
  rcases s.nextReq_cases p with h | ⟨r, rest, -, h⟩
  · rw [h]
    exact dropped
  · rw [h]
    exact (dropped.trans (.mapPort _ p _)).trans (.startReq _ p r)

theorem PortStep.endReq (s : State) (p : Nat) (ops : List Nat) : PortStep s (s.endReq p ops) := by
  unfold State.endReq
  split
  · exact .nextReq s p
  · rfl

/-- What a request to wake or to sleep shows in. -/
abbrev sleepShown : List Fld := [LnCtrl.txSleep, LnStat.txAsleep]

theorem FieldsKept.of_sleepField {n : Nat} {s t : State} (h : FieldsKept (sleepField n) s t) : FieldsKept (only sleepShown) s t :=
  h.mono fun f i hf => by
    rw [sleepField, Bool.and_eq_true] at hf
    rw [only, hf.1, Bool.or_true]

/-- The queue of port `p` has worked: requests are sent or wait, the lane is woken for them, and what their making notes is noted. -/
def QueueStep (p : Nat) (s t : State) : Prop :=
  t = { s with regs := t.regs, lanes := t.lanes, ports := t.ports, sent := t.sent, freeCtr := t.freeCtr } ∧
  FieldsKept (only sleepShown) s t ∧
  t.port p = { s.port p with
    request := (t.port p).request, waiting := (t.port p).waiting, sleepReq := (t.port p).sleepReq, nonce := (t.port p).nonce
    trims := (t.port p).trims, rowFrac := (t.port p).rowFrac, usageDrops := (t.port p).usageDrops }

namespace QueueStep
variable {p : Nat}

theorem refl (s : State) : QueueStep p s s := ⟨rfl, .refl _ s, rfl⟩

theorem trans {s t u : State} (h : QueueStep p s t) (h' : QueueStep p t u) : QueueStep p s u := by
  obtain ⟨hrest, hregs, hport⟩ := h
  obtain ⟨hrest', hregs', hport'⟩ := h'
  rw [hrest] at hrest'
  rw [hport] at hport'
  exact ⟨hrest', hregs.trans hregs', hport'⟩

theorem foldl {α : Type} {f : State → α → State} (h : ∀ t x, QueueStep p t (f t x)) (l : List α) (s : State) :
    QueueStep p s (l.foldl f s) :=
  foldl_rel .refl .trans h l s

theorem get {s t : State} (h : QueueStep p s t) {f : Fld} (hf : f ∈ f.reg.fields) {i : Nat} (other : only sleepShown f i = false) :
    t.get f i = s.get f i :=
  h.2.1 _ f i hf other

theorem ev {s t : State} (h : QueueStep p s t) : t.ev = s.ev := by
  rw [h.1]

/-- What notes something of the requests in the port. -/
theorem mapPort (s : State) {f : Port → Port} (h : ∀ x, f x = { x with
      request := (f x).request, waiting := (f x).waiting, sleepReq := (f x).sleepReq, nonce := (f x).nonce
      trims := (f x).trims, rowFrac := (f x).rowFrac, usageDrops := (f x).usageDrops }) : QueueStep p s (s.mapPort p f) :=
  ⟨rfl, .of_regs _ rfl, by rw [State.port_mapPort]; exact h _⟩

theorem sendHead (s : State) (kind : Nat) (args : List Nat) : QueueStep p s (s.sendHead p kind args) := ⟨rfl, .of_regs _ rfl, rfl⟩

theorem startReq (s : State) (r : MgmtReq) : QueueStep p s (s.startReq p r) := (sendHead s _ _).trans (mapPort _ fun _ => rfl)

theorem wakePort (s : State) : QueueStep p s (s.wakePort p) := by
  by_cases asleep : (s.port p).sleepReq = true
  · obtain ⟨step, kept⟩ := (s.sleepEnded p).requestWake_frame p
    have free : QueueStep p s (s.sleepEnded p) := (mapPort s fun _ => rfl).trans
      ⟨rfl, .put _ p 0 (f := LnCtrl.txSleep) (by decide) rfl, rfl⟩
    have same : ((s.sleepEnded p).requestWake p).port p = (s.sleepEnded p).port p := State.port_congr (by rw [step]) p
    rw [State.wakePort_of_asleep asleep]
    refine free.trans ⟨?_, kept.of_sleepField, ?_⟩
    · rw [step]
    · rw [same]
  · rw [State.wakePort_of_awake (by simpa using asleep)]
    exact .refl s

theorem queueReq (s : State) (op : Nat) (args : List Nat) : QueueStep p s (s.queueReq p op args) := by
  unfold State.queueReq
  split
  · exact .refl s
  · dsimp only
    split
    · exact (wakePort s).trans (startReq _ _)
    · exact (wakePort s).trans (mapPort _ fun _ => rfl)

theorem nextReq (s : State) : QueueStep p s (s.nextReq p) := by
  have dropped : QueueStep p s (s.reqDropped p) := by
    unfold State.reqDropped
    exact (mapPort s fun _ => rfl).trans (mapPort _ fun _ => rfl)
  rcases s.nextReq_cases p with h | ⟨r, rest, -, h⟩
  · rw [h]
    exact dropped
  · rw [h]
    exact (dropped.trans (mapPort _ fun _ => rfl)).trans (startReq _ _)

theorem endReq (s : State) (ops : List Nat) : QueueStep p s (s.endReq p ops) := by
  unfold State.endReq
  split
  · exact nextReq s
  · exact .refl s

theorem nonceReq (s : State) (op : Nat) : QueueStep p s (s.nonceReq p op) := by
  have drawn : QueueStep p s (s.drawNonce p) :=
    (mapPort s fun _ => rfl).trans (t := s.mapPort p fun x => { x with nonce := leBytes 16 (s.openValue 128) }) ⟨rfl, .of_regs _ rfl, rfl⟩
  exact drawn.trans (queueReq _ _ _)

theorem sendTable (s : State) (kind : Nat) (data : List Byte) : QueueStep p s (s.sendTable p kind data) :=
  (foldl (fun t _ => queueReq t _ _) _ s).trans (queueReq _ _ _)

theorem sendTrims (s : State) (g : TableGen) (first : Nat) : QueueStep p s (s.sendTrims p g first) := by
  unfold State.sendTrims
  dsimp only
  exact (foldl (fun t _ => queueReq t _ _) _ s).trans (mapPort _ fun _ => rfl)

theorem sendTables (s : State) : QueueStep p s (s.sendTables p) := by
  have kinds : QueueStep p s ([0, 1, 2].foldl (fun t k => match t.headTable p k with
    | some d => t.sendTable p k d
    | none => t) s) := foldl (fun t k => by
      split
      · exact sendTable t _ _
      · exact .refl t) _ s
  exact ((kinds.trans (sendTable _ _ _)).trans (mapPort _ fun _ => rfl)).trans (sendTrims _ _ _)

theorem writeUsage (s : State) : QueueStep p s (s.writeUsage p) := by
  have asked : s.writeUsage p = s ∨
      ∃ args, s.writeUsage p = (s.mapPort p fun x => { x with usageDrops := 0 }).queueReq p opUsageWr args :=
    (ite_eq_or_eq _ _ _).symm.imp_right fun h => ⟨_, h⟩
  rcases asked with h | ⟨args, h⟩
  · rw [h]
    exact .refl s
  · rw [h]
    exact (mapPort s fun _ => rfl).trans (queueReq _ _ _)

end QueueStep

/-- A standby's keep-alive traffic goes out whatever the role and the head's state (R252, R282). -/
theorem State.opAllowed_of_keepAlive (s : State) (p : Nat) {op : Nat} (h : keepAlive op = true) : s.opAllowed p op = true := by
  have cases : op = 2 ∨ op = 3 ∨ op = 8 ∨ op = 0x0A := by simpa [keepAlive, or_assoc] using h
  unfold State.opAllowed
  rw [h, Bool.or_true]
  rcases cases with rfl | rfl | rfl | rfl <;> rfl

section
variable {s : State} {p op : Nat}

/-- A request for a port without one goes out, after the lane is asked to wake. -/
theorem State.queueReq_of_free (allowed : s.opAllowed p op = true) (free : (s.port p).request = none) (args : List Nat) :
    s.queueReq p op args = (s.wakePort p).startReq p ⟨op, args, 0⟩ := by
  have kept : ((s.wakePort p).port p).request = none := by
    by_cases asleep : (s.port p).sleepReq = true
    · have same : ((s.sleepEnded p).requestWake p).port p = (s.sleepEnded p).port p :=
        State.port_congr (by rw [((s.sleepEnded p).requestWake_frame p).1]) p
      rw [State.wakePort_of_asleep asleep, same, State.port_sleepEnded]
      exact free
    · rw [State.wakePort_of_awake (by simpa using asleep)]
      exact free
  unfold State.queueReq
  rw [if_neg (by simp [allowed])]
  dsimp only
  rw [kept]

theorem State.queueReq_of_busy (allowed : s.opAllowed p op = true) (awake : (s.port p).sleepReq = false) {r : MgmtReq}
    (busy : (s.port p).request = some r) (args : List Nat) :
    s.queueReq p op args = s.mapPort p fun x => { x with waiting := x.waiting ++ [⟨op, args, 0⟩] } := by
  unfold State.queueReq
  rw [if_neg (by simp [allowed])]
  dsimp only
  rw [State.wakePort_of_awake awake, busy]

theorem State.startReq_sent (s : State) (p : Nat) (r : MgmtReq) :
    (s.startReq p r).sent = .head p (0x100 + r.op) r.args :: s.sent := rfl

theorem State.port_startReq (s : State) (p : Nat) (r : MgmtReq) : (s.startReq p r).port p = { s.port p with request := some r } :=
  (s.sendHead p (0x100 + r.op) r.args).port_mapPort p fun x => { x with request := some r }

theorem State.port_drawNonce (s : State) (p : Nat) : (s.drawNonce p).port p = { s.port p with nonce := leBytes 16 (s.openValue 128) } :=
  s.port_mapPort p fun x => { x with nonce := leBytes 16 (s.openValue 128) }

/-- A keep-alive request with a fresh nonce goes out at once where the port is free and awake. -/
theorem State.nonceReq_of_free (alive : keepAlive op = true) (awake : (s.port p).sleepReq = false) (free : (s.port p).request = none) :
    ∃ args, (s.nonceReq p op).sent = .head p (0x100 + op) args :: s.sent := by
  have port := s.port_drawNonce p
  have sent : (s.drawNonce p).sent = s.sent := rfl
  refine ⟨((s.drawNonce p).port p).nonce.map fun b => b.toNat, ?_⟩
  rw [State.nonceReq, State.queueReq_of_free (State.opAllowed_of_keepAlive _ p alive) (by rw [port]; exact free),
    State.wakePort_of_awake (by rw [port]; exact awake), State.startReq_sent, sent]

/-- Behind another request it waits. -/
theorem State.nonceReq_of_busy (alive : keepAlive op = true) (awake : (s.port p).sleepReq = false) {r : MgmtReq}
    (busy : (s.port p).request = some r) : (s.nonceReq p op).sent = s.sent ∧
    ∃ args, ((s.nonceReq p op).port p).waiting = (s.port p).waiting ++ [⟨op, args, 0⟩] := by
  have port := s.port_drawNonce p
  have waits := State.queueReq_of_busy (State.opAllowed_of_keepAlive (s.drawNonce p) p alive) (by rw [port]; exact awake)
    (by rw [port]; exact busy) (((s.drawNonce p).port p).nonce.map fun b => b.toNat)
  have nonce : s.nonceReq p op = _ := waits
  rw [nonce]
  refine ⟨rfl, ((s.drawNonce p).port p).nonce.map fun b => b.toNat, ?_⟩
  rw [State.port_mapPort, port]

/-- With nothing waiting, the port is left without a request. -/
theorem State.nextReq_of_empty (empty : (s.port p).waiting = []) :
    (s.nextReq p).port p = { s.port p with request := none } ∧ (s.nextReq p).sent = s.sent := by
  have port : (s.reqDropped p).port p = { s.port p with request := none } := by
    unfold State.reqDropped
    dsimp only
    rw [State.port_mapPort, State.port_mapPort, empty, List.filter_nil, ← empty]
  rcases s.nextReq_cases p with h | ⟨r, rest, first, -⟩
  · rw [h]
    exact ⟨port, rfl⟩
  · rw [port] at first
    simp [empty] at first

end

end Sys2Proof.Machine
end

section
/-! ## Withdrawals, the steps to READY and a bring-up that starts anew (R204, R205, R255, R275, Table 11-7) -/
namespace Sys2Proof.Machine

/-! ### What follows a change of a port's fitness -/

/-- A withdrawal begins or ends, head power follows, a calibration that has lost its source is abandoned, and no more; of the registers
those of the list `l`. -/
def SyncStep (l : List Fld) (s t : State) : Prop :=
  t = { s with regs := t.regs, ev := t.ev, cal := t.cal, pins := t.pins, ff := t.ff, twin := t.twin, fpe := t.fpe } ∧
  FieldsKept (only l) s t

namespace SyncStep
variable {l : List Fld}

theorem refl (s : State) : SyncStep l s s := ⟨rfl, .refl _ s⟩

theorem trans {s t u : State} (h : SyncStep l s t) (h' : SyncStep l t u) : SyncStep l s u := by
  obtain ⟨hrest, hregs⟩ := h
  obtain ⟨hrest', hregs'⟩ := h'
  rw [hrest] at hrest'
  exact ⟨hrest', hregs.trans hregs'⟩

theorem mono {l' : List Fld} (sub : l ⊆ l') {s t : State} (h : SyncStep l s t) : SyncStep l' s t := ⟨h.1, h.2.mono (only_mono sub)⟩

theorem get {s t : State} (h : SyncStep l s t) {f : Fld} (hf : f ∈ f.reg.fields) {i : Nat} (other : only l f i = false) :
    t.get f i = s.get f i :=
  h.2 _ f i hf other

/-- What the port notes, what was sent and the links stay. -/
theorem frame {s t : State} (h : SyncStep l s t) : t.ports = s.ports ∧ t.sent = s.sent ∧ t.linkUp = s.linkUp ∧ t.pages = s.pages ∧
    t.dram = s.dram ∧ t.mot = s.mot := by
  obtain ⟨hrest, -⟩ := h
  rw [hrest]
  exact ⟨rfl, rfl, rfl, rfl, rfl, rfl⟩

theorem calWatch (s : State) : SyncStep calFields s s.calWatch := ⟨by rw [s.calWatch_only], s.calWatch_kept⟩

theorem driveHeads (s : State) (k : Nat) : SyncStep calFields s (s.driveHeads k) := by
  unfold State.driveHeads
  dsimp only
  split
  · exact ⟨rfl, .of_regs _ rfl⟩
  · exact .refl s

theorem beginWd (s : State) (p cause : Nat) : SyncStep calFields s (s.beginWd p cause) := by
  unfold State.beginWd
  split
  · exact .refl s
  · exact ⟨rfl, .of_regs _ rfl⟩

theorem endWd (s : State) (p : Nat) : SyncStep calFields s (s.endWd p) := by
  unfold State.endWd
  split
  · split
    · exact ⟨rfl, .of_regs _ rfl⟩
    · exact .refl s
  · exact .refl s

theorem syncWd (s : State) (p : Nat) : SyncStep calFields s (s.syncWd p) := by
  have driven : SyncStep calFields s (s.calWatch.driveHeads (p / 8)) := (calWatch s).trans (driveHeads _ _)
  unfold State.syncWd
  dsimp only
  split
  · split
    · exact driven.trans (beginWd _ _ _)
    · exact driven.trans (endWd _ _)
  · exact driven

end SyncStep

/-- Without a calibration nothing is recorded. -/
theorem State.syncWd_ev {s : State} (idle : s.calState = calIdle) (p : Nat) : (s.syncWd p).ev = s.ev := by
  have unwatched : s.calWatch = s := if_neg (by simp [idle])
  have driven (k : Nat) : (s.driveHeads k).ev = s.ev := by
    unfold State.driveHeads
    dsimp only
    split <;> rfl
  have begun (t : State) (c : Nat) : (t.beginWd p c).ev = t.ev := by
    unfold State.beginWd
    split <;> rfl
  have ended (t : State) : (t.endWd p).ev = t.ev := by
    unfold State.endWd
    split
    · split <;> rfl
    · rfl
  unfold State.syncWd
  dsimp only
  rw [unwatched]
  split
  · split
    · rw [begun, driven]
    · rw [ended, driven]
  · exact driven _

theorem State.wdOpen_beginWd (s : State) (p cause : Nat) : (s.beginWd p cause).wdOpen p = true := by
  unfold State.beginWd
  split
  next already => exact already
  next =>
    have begun (w : Withdrawal) (ws : List Withdrawal) (twin : TwinSt) :
        State.withdrawals { s.setWd p (w :: ws) with twin := twin } p = w :: ws :=
      (Tab.get_set [] s.ff.wd p p (w :: ws)).trans (if_pos rfl)
    unfold State.wdOpen
    rw [begun]
    rfl

/-- A device that acts withdraws a port that is not READY (R280). -/
theorem State.wdOpen_syncWd {s : State} {p : Nat} (acting : s.acting = true) (unready : s.hpState p ≠ hpReady) :
    (s.syncWd p).wdOpen p = true := by
  have driven : SyncStep calFields s (s.calWatch.driveHeads (p / 8)) := (SyncStep.calWatch s).trans (.driveHeads _ _)
  have role : (s.calWatch.driveHeads (p / 8)).acting = true := by
    rw [State.acting, State.role, driven.get (f := TwStat.role) (by decide) rfl]
    exact acting
  have out : (s.calWatch.driveHeads (p / 8)).portOut p = true := by
    have state : (s.calWatch.driveHeads (p / 8)).hpState p = s.hpState p := driven.get (f := HpStat.state) (by decide) rfl
    simp [State.portOut, state, unready]
  unfold State.syncWd
  dsimp only
  rw [if_pos role, if_pos out]
  exact State.wdOpen_beginWd _ _ _

/-- What the end of bring-up may write. -/
abbrev readyFields : List Fld := HpStat.state :: calFields

/-- Where every condition of step 6 is met the port is READY, and otherwise nothing happens. -/
theorem State.tryReady_cases (s : State) (p : Nat) : s.tryReady p = s ∨
    ∃ fpe, s.tryReady p = { (s.put HpStat.state p hpReady).syncWd p with fpe := fpe } :=
  (ite_eq_or_eq _ _ _).symm.imp_right fun h => ⟨_, h⟩

theorem SyncStep.tryReady (s : State) (p : Nat) : SyncStep readyFields s (s.tryReady p) := by
  rcases s.tryReady_cases p with h | ⟨fpe, h⟩
  · rw [h]
    exact .refl s
  · have ready : SyncStep readyFields s ((s.put HpStat.state p hpReady).syncWd p) :=
      SyncStep.trans ⟨rfl, .put s p hpReady (f := HpStat.state) (by decide) rfl⟩ ((SyncStep.syncWd _ p).mono (by simp))
    rw [h]
    exact ready.trans ⟨rfl, .of_regs _ rfl⟩

theorem State.hpState_tryReady (s : State) (p : Nat) : (s.tryReady p).hpState p = s.hpState p ∨ (s.tryReady p).hpState p = hpReady := by
  rcases s.tryReady_cases p with h | ⟨fpe, h⟩
  · exact .inl (by rw [h])
  · right
    rw [h]
    exact ((SyncStep.syncWd (s.put HpStat.state p hpReady) p).get (f := HpStat.state) (by decide) rfl).trans
      (s.get_put_of_lt HpStat.state p (by decide))

theorem State.tryReady_ev {s : State} (idle : s.calState = calIdle) (p : Nat) : (s.tryReady p).ev = s.ev := by
  rcases s.tryReady_cases p with h | ⟨fpe, h⟩
  · rw [h]
  · have idle' : (s.put HpStat.state p hpReady).calState = calIdle := (s.get_put_ne (by decide) p 0 _).trans idle
    rw [h]
    exact State.syncWd_ev idle' p

/-! ### Steps that fail for want of an answer (R401) -/

/-- A step of an activity fails: its axes stop, and of the registers what shows an axis may change. -/
def FailStep (s t : State) : Prop :=
  t = { s with regs := t.regs, ev := t.ev, pins := t.pins, mot := t.mot, aborts := t.aborts } ∧ FieldsKept (only axisShown) s t

namespace FailStep

theorem refl (s : State) : FailStep s s := ⟨rfl, .refl _ s⟩

theorem trans {s t u : State} (h : FailStep s t) (h' : FailStep t u) : FailStep s u := by
  obtain ⟨hrest, hregs⟩ := h
  obtain ⟨hrest', hregs'⟩ := h'
  rw [hrest] at hrest'
  exact ⟨hrest', hregs.trans hregs'⟩

theorem foldl {α : Type} {f : State → α → State} (h : ∀ t x, FailStep t (f t x)) (l : List α) (s : State) : FailStep s (l.foldl f s) :=
  foldl_rel .refl .trans h l s

theorem get {s t : State} (h : FailStep s t) {f : Fld} (hf : f ∈ f.reg.fields) {i : Nat} (other : only axisShown f i = false) :
    t.get f i = s.get f i :=
  h.2 _ f i hf other

theorem frame {s t : State} (h : FailStep s t) : t.ports = s.ports ∧ t.linkUp = s.linkUp := by
  obtain ⟨hrest, -⟩ := h
  rw [hrest]
  exact ⟨rfl, rfl⟩

theorem of_regs {s t : State} (h : t = { s with pins := t.pins, mot := t.mot }) : FailStep s t := by
  refine ⟨?_, .of_regs _ ?_⟩
  · rw [h]
  · rw [h]

theorem record (s : State) (c : EvCode) (n : Nat) (l : List EvArg) : FailStep s (s.record c n l) := by
  obtain ⟨regs, ev, h⟩ := s.record_eq c n l
  refine ⟨by rw [h], .record s c n l fun f i hf => ?_⟩
  rw [only, hf, Bool.true_or]

theorem axState (s : State) (n : Nat) : FailStep s (s.axState n) := ⟨rfl, s.axState_kept n⟩

theorem abortEnd (s : State) (fn inst : Nat) : FailStep s (s.abortEnd fn inst) := by
  unfold State.abortEnd
  split
  · exact .refl s
  · exact trans ⟨rfl, .of_regs _ rfl⟩ (record _ _ _ _)

theorem stopped (s : State) (n : Nat) : FailStep s (s.stopped n) := by
  unfold State.stopped
  dsimp only
  refine trans ?_ ((abortEnd _ 4 n).trans (axState _ n))
  repeat' split
  all_goals exact of_regs rfl

theorem beginStop (s : State) (n how : Nat) : FailStep s (s.beginStop n how) := by
  have stopping : FailStep s (s.setAxis n { s.axis n with stop := max (s.axis n).stop how, due := none, switching := none }) := .of_regs rfl
  unfold State.beginStop
  dsimp only
  split
  · exact stopping.trans (stopped _ n)
  · exact stopping.trans (axState _ n)

theorem startAbortSeq (s : State) (a : Nat) : FailStep s (s.startAbortSeq a) := by
  unfold State.startAbortSeq
  split
  · exact .refl s
  · split
    · exact .refl s
    · exact (foldl (fun t n => trans (t := t.mapAxis n _) (.of_regs rfl) (beginStop _ n 1)) _ s).trans (.of_regs rfl)

theorem failStep (s : State) (a : Nat) : FailStep s (s.failStep a) := by
  unfold State.failStep
  split
  · exact .refl s
  · dsimp only
    split
    · exact (record s _ _ _).trans (.of_regs rfl)
    · exact (record s _ _ _).trans (startAbortSeq _ a)

theorem paramLost (s : State) (p : Nat) : FailStep s (s.paramLost p) := foldl (fun t (x : Activity) => failStep t x.num) _ s

end FailStep

/-! ### A bring-up that starts anew (R255, R275) -/

/-- HP_STAT at the start of a bring-up. -/
def State.bringUpShown (s : State) (p : Nat) : State :=
  ((((s.put HpStat.state p hpSync).put HpStat.verified p 0).put HpStat.unverified p 0).put HpStat.timeOk p 0).put HpStat.tablesOk p 0

/-- What the port notes at the start of a bring-up. -/
def Port.fresh (x : Port) (depth : Nat) : Port :=
  { x with depth := depth, echoOut := [], echoes := [], badSets := 0, delayOk := false, retryWait := false,
           helloOk := false, request := none, waiting := [], staleEpoch := false }

theorem State.startBringUp_eq (s : State) (p : Nat) :
    s.startBringUp p = ((s.bringUpShown p).mapPort p fun x => x.fresh ((s.bringUpShown p).ctrlDepth p)).syncWd p := rfl

section
variable (s : State) (p : Nat)

theorem State.ctrlDepth_bringUpShown : (s.bringUpShown p).ctrlDepth p = s.ctrlDepth p := by
  have depth : (s.bringUpShown p).get HpCtrl.depth p = s.get HpCtrl.depth p := by simp (disch := decide) [State.bringUpShown]
  rw [State.ctrlDepth, State.ctrlDepth, depth]

/-- The port has no request, its head is asked who it is, and the links are as they were. -/
theorem State.startBringUp_facts : (s.startBringUp p).hpState p = hpSync ∧ (s.startBringUp p).flag HpStat.verified p = false ∧
    (s.startBringUp p).port p = (s.port p).fresh (s.ctrlDepth p) ∧ (s.startBringUp p).linkUp = s.linkUp := by
  let u : State := (s.bringUpShown p).mapPort p fun x => x.fresh ((s.bringUpShown p).ctrlDepth p)
  have step : SyncStep calFields u (s.startBringUp p) := by
    rw [s.startBringUp_eq p]
    exact .syncWd u p
  obtain ⟨hports, -, hlinks, -⟩ := step.frame
  refine ⟨?_, ?_, ?_, hlinks⟩
  · rw [State.hpState, step.get (f := HpStat.state) (by decide) rfl]
    simp (disch := decide) [u, State.bringUpShown]
    rfl
  · rw [State.flag, step.get (f := HpStat.verified) (by decide) rfl]
    simp (disch := decide) [u, State.bringUpShown]
  · rw [State.port_congr hports, State.port_mapPort, s.ctrlDepth_bringUpShown]
    rfl

/-- A head whose lane is up is asked again who it is, with nothing else outstanding. -/
theorem State.restartBringUp_facts {s : State} {p : Nat} (up : s.isUp p = true) :
    (s.restartBringUp p).hpState p = hpSync ∧ (s.restartBringUp p).flag HpStat.verified p = false ∧
    (s.restartBringUp p).sent.head? = some (.head p 0x102 []) ∧
    ((s.restartBringUp p).port p).lastSerial = (s.port p).lastSerial := by
  obtain ⟨hports, hlinks⟩ := (FailStep.paramLost s p).frame
  obtain ⟨hstate, hverified, hport, -⟩ := (s.paramLost p).startBringUp_facts p
  have still : (s.paramLost p).isUp p = true := by
    rw [State.isUp, hlinks]
    exact up
  have restarted : s.restartBringUp p = ((s.paramLost p).startBringUp p).queueReq p 2 [] := if_pos still
  have asked := QueueStep.queueReq (p := p) ((s.paramLost p).startBringUp p) 2 []
  rw [restarted]
  refine ⟨?_, ?_, ?_, ?_⟩
  · exact (asked.get (f := HpStat.state) (by decide) rfl).trans hstate
  · rw [State.flag, asked.get (f := HpStat.verified) (by decide) rfl]
    exact hverified
  · rw [State.queueReq_of_free (State.opAllowed_of_keepAlive _ p rfl) (by rw [hport]; rfl)]
    rfl
  · rw [asked.2.2, hport, State.port_congr hports]
    rfl

end

end Sys2Proof.Machine
end

section
/-! ## Bring-up of a head (R107, R275, R279 to R286): O41 -/
namespace Sys2Proof.Machine

theorem upstream_eq {s : State} {p : Nat} {rx : Rx} (up : s.isUp p = true) (good : Rx.good rx = true) (t : State) :
    (if ¬s.isUp p = true then s else if ¬Rx.good rx = true then s.upError p else t) = t := by
  rw [if_neg (by simp [up]), if_neg (by simp [good])]

/-! ### HELLO (R279) -/

/-- The identification is taken. -/
def State.identified (s : State) (p : Nat) (h : Hello) : State :=
  (s.setIdentity p h).mapPort p fun x => { x with lastSerial := some h.serial }

/-- The fields that a HELLO identifies a head by. -/
abbrev identityFields : List Fld :=
  [HpIdLo.v, HpIdHi.v, HpIdInfo.family, HpIdInfo.nozzles, HpIdGeom.rows, HpIdGeom.caps, HpIdGeom.proto]

theorem State.port_identified (s : State) (p : Nat) (h : Hello) :
    (s.identified p h).port p = { s.port p with lastSerial := some h.serial } := by
  have ports : (s.setIdentity p h).ports = s.ports := by simp [State.setIdentity]
  rw [State.identified, State.port_mapPort, State.port_congr ports]

theorem State.get_identified_ne (s : State) (p : Nat) (h : Hello) {f : Fld} (other : ∀ g ∈ identityFields, g.apart f = true) (i : Nat) :
    (s.identified p h).get f i = s.get f i := by
  simp only [State.identified, State.setIdentity, State.get_mapPort, State.put64, State.get_put_ne _ (other HpIdLo.v (by decide)),
    State.get_put_ne _ (other HpIdHi.v (by decide)), State.get_put_ne _ (other HpIdInfo.family (by decide)),
    State.get_put_ne _ (other HpIdInfo.nozzles (by decide)), State.get_put_ne _ (other HpIdGeom.rows (by decide)),
    State.get_put_ne _ (other HpIdGeom.caps (by decide)), State.get_put_ne _ (other HpIdGeom.proto (by decide))]

theorem State.identified_alike (s : State) (p : Nat) (h : Hello) : RecordsAlike s (s.identified p h) := by
  refine ⟨?_, ?_, ?_, ?_, ?_, fun f hf =>
    s.get_identified_ne p h ((by decide : ∀ f ∈ recordRegs, ∀ g ∈ identityFields, g.apart f = true) f hf) 0⟩ <;>
  simp [State.identified, State.setIdentity]

theorem State.identified_sent (s : State) (p : Nat) (h : Hello) : (s.identified p h).sent = s.sent := by
  simp [State.identified, State.setIdentity]

theorem State.identified_linkUp (s : State) (p : Nat) (h : Hello) : (s.identified p h).linkUp = s.linkUp := by
  simp [State.identified, State.setIdentity]

/-- What HELLO says of the head is shown. -/
def Identified (p : Nat) (h : Hello) (t : State) : Prop :=
  t.get HpIdInfo.family p = h.family % 2 ^ 16 ∧ t.get HpIdGeom.rows p = h.rows % 2 ^ 6 ∧
    t.get64 HpIdLo.v HpIdHi.v p = h.serial % 2 ^ 64

theorem State.identified_identified (s : State) (p : Nat) (h : Hello) : Identified p h (s.identified p h) := by
  have taken (f : Fld) (other : HpIdInfo.family.apart f = true ∧ HpIdInfo.nozzles.apart f = true ∧ HpIdGeom.rows.apart f = true ∧
      HpIdGeom.caps.apart f = true ∧ HpIdGeom.proto.apart f = true) :
      (s.identified p h).get f p = (s.put64 HpIdLo.v HpIdHi.v p h.serial).get f p := by
    obtain ⟨family, nozzles, rows, caps, proto⟩ := other
    simp only [State.identified, State.setIdentity, State.get_mapPort, State.get_put_ne _ family, State.get_put_ne _ nozzles,
      State.get_put_ne _ rows, State.get_put_ne _ caps, State.get_put_ne _ proto]
  refine ⟨?_, ?_, ?_⟩
  · simp (disch := decide) only [State.identified, State.setIdentity, State.get_mapPort, State.get_put_ne, State.get_put_self]
    rfl
  · simp (disch := decide) only [State.identified, State.setIdentity, State.get_mapPort, State.get_put_ne, State.get_put_self]
    rfl
  · rw [State.get64, taken HpIdLo.v (by decide), taken HpIdHi.v (by decide)]
    exact s.get64_put64 (by decide) rfl rfl p h.serial

theorem Identified.congr {p : Nat} {h : Hello} {s t : State} (hs : Identified p h s) (same : ∀ f ∈ identityFields, t.get f p = s.get f p) :
    Identified p h t := by
  unfold Identified State.get64 at *
  rw [same HpIdInfo.family (by decide), same HpIdGeom.rows (by decide), same HpIdLo.v (by decide), same HpIdHi.v (by decide)]
  exact hs

theorem Identified.kept {p : Nat} {h : Hello} {l : List Fld} {s t : State} (hs : Identified p h s) (kept : FieldsKept (only l) s t)
    (other : ∀ f ∈ identityFields, only l f 0 = false) : Identified p h t :=
  hs.congr fun f hf => kept _ f _ ((by decide : ∀ f ∈ identityFields, f ∈ f.reg.fields) f hf) (other f hf)

theorem State.helloValid_congr {s t : State} {p : Nat} (depth : t.get HpCtrl.depth p = s.get HpCtrl.depth p) (h : Hello) :
    t.helloValid p h = s.helloValid p h := by
  unfold State.helloValid State.ctrlDepth
  rw [depth]

/-- MAX_RATE is lowered where the head cannot keep it. -/
def State.rateLimited (s : State) (p rate : Nat) : State :=
  if rate < s.get HpRate.maxRate p then ((s.put HpRate.maxRate p rate).put HpStat.rateLim p 1).record .hpRateLimited p [] else s

/-- AUTH begins: CONFIG goes out and CHALLENGE waits behind it. -/
def State.authBegun (s : State) (p : Nat) : State :=
  let u := (s.put HpStat.state p hpAuth).mapPort p fun x => { x with helloOk := true }
  (u.queueReq p 3 [(u.port p).depth]).nonceReq p 8

/-- A HELLO that is not valid keeps the head in SYNC. -/
def State.helloRefused (s : State) (p : Nat) : State :=
  (((s.put HpStat.helloErr p 1).put HpStat.state p hpSync).record .hpHelloBad p []).syncWd p

theorem State.hello_eq (s : State) (p : Nat) (h : Hello) : s.hello p h =
    (let u := (s.identified p h).endReq p [2]
     if (s.port p).lastSerial.isSome = true ∧ (s.port p).lastSerial ≠ some h.serial then (u.record .hpHeadChanged p []).restartBringUp p
     else if ¬u.helloValid p h = true then u.helloRefused p
     else if (u.rateLimited p h.maxRate).hpState p = hpSync then (u.rateLimited p h.maxRate).authBegun p
     else u.rateLimited p h.maxRate) := rfl

theorem State.endReq_of_free {s : State} {p : Nat} (free : (s.port p).request = none) (ops : List Nat) : s.endReq p ops = s := by
  have unanswered : s.answered p ops = false := by
    unfold State.answered
    rw [free]
  exact if_neg (by simp [unanswered])

section
variable (s : State) (p : Nat)

/-- The limit changes MAX_RATE and RATE_LIM of the port and records it. -/
theorem State.rateLimited_facts {rate : Nat} :
    (s.rateLimited p rate).ports = s.ports ∧ (s.rateLimited p rate).sent = s.sent ∧
    (s.rateLimited p rate).get HpRate.maxRate p = min (s.get HpRate.maxRate p) rate ∧
    (rate < s.get HpRate.maxRate p → (s.rateLimited p rate).flag HpStat.rateLim p = true) := by
  unfold State.rateLimited
  split
  next lower =>
    have fits : rate < 2 ^ HpRate.maxRate.width := lower.trans (s.get_lt _ _)
    refine ⟨by simp, by simp, ?_, fun _ => ?_⟩
    · rw [State.get_record _ _ _ _ _ _ (by decide), State.get_put_ne _ (by decide), State.get_put_of_lt _ _ _ fits]
      exact (Nat.min_eq_right lower.le).symm
    · rw [State.flag, State.get_record _ _ _ _ _ _ (by decide), State.get_put_of_lt _ _ _ (by decide)]
      rfl
  next enough => exact ⟨rfl, rfl, (Nat.min_eq_left (not_lt.mp enough)).symm, fun lower => absurd lower enough⟩

theorem State.get_rateLimited (rate : Nat) {f : Fld} (max : HpRate.maxRate.apart f = true) (lim : HpStat.rateLim.apart f = true)
    (quiet : f.unrecorded = true) (i : Nat) : (s.rateLimited p rate).get f i = s.get f i := by
  unfold State.rateLimited
  split
  · rw [State.get_record _ _ _ _ _ _ quiet, State.get_put_ne _ lim, State.get_put_ne _ max]
  · rfl

/-- What AUTH begins with, and what it leaves. -/
theorem State.authBegun_facts {s : State} {p : Nat} (free : (s.port p).request = none) (empty : (s.port p).waiting = [])
    (awake : (s.port p).sleepReq = false) :
    (s.authBegun p).hpState p = hpAuth ∧ ((s.authBegun p).port p).helloOk = true ∧
    ((s.authBegun p).port p).lastSerial = (s.port p).lastSerial ∧
    (s.authBegun p).sent = .head p 0x103 [(s.port p).depth] :: s.sent ∧ (∃ n, ((s.authBegun p).port p).waiting = [⟨8, n, 0⟩]) ∧
    FieldsKept (only (HpStat.state :: sleepShown)) s (s.authBegun p) := by
  let u : State := (s.put HpStat.state p hpAuth).mapPort p fun x => { x with helloOk := true }
  have port : u.port p = { s.port p with helloOk := true } := State.port_mapPort _ p _
  have queued : u.queueReq p 3 [(u.port p).depth] = u.startReq p ⟨3, [(u.port p).depth], 0⟩ := by
    rw [State.queueReq_of_free (u.opAllowed_of_keepAlive p rfl) (by rw [port]; exact free),
      State.wakePort_of_awake (by rw [port]; exact awake)]
  have asked := u.port_startReq p ⟨3, [(u.port p).depth], 0⟩
  obtain ⟨hsent, nonce, hwaiting⟩ := State.nonceReq_of_busy (op := 8) (s := u.startReq p ⟨3, [(u.port p).depth], 0⟩) (p := p) rfl
    (by rw [asked, port]; exact awake) (by rw [asked])
  have begun : s.authBegun p = (u.startReq p ⟨3, [(u.port p).depth], 0⟩).nonceReq p 8 := by
    rw [← queued]
    rfl
  have step : QueueStep p u (s.authBegun p) := by
    rw [begun]
    exact (QueueStep.startReq u _).trans (.nonceReq _ 8)
  have shown : FieldsKept (only (HpStat.state :: sleepShown)) s u :=
    (FieldsKept.put s p hpAuth (f := HpStat.state) (by decide) rfl).trans (.of_regs _ rfl)
  refine ⟨?_, ?_, ?_, ?_, ⟨nonce, ?_⟩, shown.trans (step.2.1.mono (only_mono (by simp)))⟩
  · exact (step.get (f := HpStat.state) (by decide) rfl).trans (s.get_put_of_lt HpStat.state p (v := hpAuth) (by decide))
  · rw [step.2.2, port]
  · rw [step.2.2, port]
  · rw [begun, hsent, State.startReq_sent, port]
    rfl
  · rw [begun, hwaiting, asked, port, empty]
    rfl

/-- A HELLO that is not valid is shown and recorded, and the port stays in SYNC. -/
theorem State.helloRefused_facts : (s.helloRefused p).hpState p = hpSync ∧ (s.helloRefused p).flag HpStat.helloErr p = true ∧
    (s.helloRefused p).sent = s.sent ∧ (s.helloRefused p).ports = s.ports ∧
    (s.calState = calIdle → Recorded s (s.helloRefused p) .hpHelloBad p []) ∧
    FieldsKept (only ([HpStat.helloErr, HpStat.state] ++ calFields)) s (s.helloRefused p) := by
  let u : State := (s.put HpStat.helloErr p 1).put HpStat.state p hpSync
  have step : SyncStep calFields (u.record .hpHelloBad p []) (s.helloRefused p) := .syncWd _ p
  have same : RecordsAlike s u := by
    have apart : ∀ f ∈ recordRegs, HpStat.helloErr.apart f = true ∧ HpStat.state.apart f = true := by decide
    refine ⟨rfl, rfl, rfl, rfl, rfl, fun f hf => ?_⟩
    rw [State.get_put_ne _ (apart f hf).2, State.get_put_ne _ (apart f hf).1]
  obtain ⟨hports, hsent, -⟩ := step.frame
  refine ⟨?_, ?_, ?_, ?_, fun idle => ?_, ?_⟩
  · rw [State.hpState, step.get (f := HpStat.state) (by decide) rfl, State.get_record _ _ _ _ _ _ (by decide)]
    exact State.get_put_of_lt _ _ _ (by decide)
  · rw [State.flag, step.get (f := HpStat.helloErr) (by decide) rfl, State.get_record _ _ _ _ _ _ (by decide)]
    simp (disch := decide) [u]
  · rw [hsent]
    simp [u]
  · rw [hports]
    simp [u]
  · have idle' : (u.record .hpHelloBad p []).calState = calIdle := by
      rw [State.calState, State.get_record _ _ _ _ _ _ (by decide), State.get_put_ne _ (by decide), State.get_put_ne _ (by decide)]
      exact idle
    exact (State.syncWd_ev idle' p).trans (same.ev _ _ _)
  · have shown : FieldsKept (only ([HpStat.helloErr, HpStat.state] ++ calFields)) s u :=
      (FieldsKept.put s p 1 (f := HpStat.helloErr) (by decide) rfl).trans (.put _ p hpSync (f := HpStat.state) (by decide) rfl)
    exact (shown.trans (.record _ _ _ _ fun f i h => by rw [only, h, Bool.true_or])).trans (step.2.mono (only_mono (by simp)))

end

/-- A valid HELLO in SYNC: the rate is limited and AUTH begins. -/
theorem State.limitedAuth_facts {s : State} {p : Nat} (free : (s.port p).request = none) (empty : (s.port p).waiting = [])
    (awake : (s.port p).sleepReq = false) (rate : Nat) {t : State} (ht : (s.rateLimited p rate).authBegun p = t) :
    t.hpState p = hpAuth ∧ (t.port p).helloOk = true ∧ (t.port p).lastSerial = (s.port p).lastSerial ∧
    t.sent = .head p 0x103 [(s.port p).depth] :: s.sent ∧ (∃ n, (t.port p).waiting = [⟨8, n, 0⟩]) ∧
    t.get HpRate.maxRate p = min (s.get HpRate.maxRate p) rate ∧
    (rate < s.get HpRate.maxRate p → t.flag HpStat.rateLim p = true) ∧ ∀ h, Identified p h s → Identified p h t := by
  obtain ⟨hports, hsent, hrate, hlim⟩ := s.rateLimited_facts p (rate := rate)
  have port := State.port_congr hports p
  have identity : ∀ f ∈ identityFields, HpRate.maxRate.apart f = true ∧ HpStat.rateLim.apart f = true ∧ f.unrecorded = true := by decide
  have limited {h : Hello} (hs : Identified p h s) : Identified p h (s.rateLimited p rate) := hs.congr fun f hf =>
    s.get_rateLimited p rate (identity f hf).1 (identity f hf).2.1 (identity f hf).2.2 p
  obtain ⟨auth, ok, serial, sent, waiting, kept⟩ := State.authBegun_facts (s := s.rateLimited p rate) (p := p) (by rw [port]; exact free)
    (by rw [port]; exact empty) (by rw [port]; exact awake)
  rw [port] at serial
  rw [port, hsent] at sent
  subst ht
  refine ⟨auth, ok, serial, sent, waiting, ?_, fun lower => ?_, fun h hs => (limited hs).kept kept (by decide)⟩
  · exact (kept .hpRate HpRate.maxRate _ (by decide) rfl).trans hrate
  · rw [State.flag, kept .hpStat HpStat.rateLim _ (by decide) rfl]
    exact hlim lower

/-- A HELLO from the head known at the port, or from the first one (R279). -/
theorem State.hello_of_known {s : State} {p : Nat} {h : Hello} (free : (s.port p).request = none)
    (same : (s.port p).lastSerial = none ∨ (s.port p).lastSerial = some h.serial) (sync : s.hpState p = hpSync) :
    s.hello p h = if s.helloValid p h = true then ((s.identified p h).rateLimited p h.maxRate).authBegun p
      else (s.identified p h).helloRefused p := by
  have unasked : (s.identified p h).endReq p [2] = s.identified p h := State.endReq_of_free (by rw [s.port_identified]; exact free) [2]
  have known : ¬((s.port p).lastSerial.isSome = true ∧ (s.port p).lastSerial ≠ some h.serial) := by
    rcases same with new | same
    · simp [new]
    · simp [same]
  have valid : (s.identified p h).helloValid p h = s.helloValid p h := State.helloValid_congr (s.get_identified_ne p h (by decide) _) h
  have still : ((s.identified p h).rateLimited p h.maxRate).hpState p = hpSync := by
    rw [State.hpState, State.get_rateLimited _ _ _ (by decide) (by decide) (by decide), s.get_identified_ne p h (by decide)]
    exact sync
  rw [State.hello_eq]
  dsimp only
  rw [unasked, if_neg known, valid, if_pos still]
  exact ite_not _ _ _

theorem hello_identifies (p : Fin 128) (h : Hello) (s : State) (up : s.isUp p.val = true) (good : Rx.good h.rx = true)
    (sync : s.hpState p.val = hpSync)
    (same : (s.port p.val).lastSerial = none ∨ (s.port p.val).lastSerial = some h.serial) (free : (s.port p.val).request = none)
    (empty : (s.port p.val).waiting = []) (awake : (s.port p.val).sleepReq = false) :
    ∃ t, exec (.hello p h) s = .next t ∧
      t.get HpIdInfo.family p.val = h.family % 2 ^ 16 ∧ t.get HpIdGeom.rows p.val = h.rows % 2 ^ 6 ∧
      t.get64 HpIdLo.v HpIdHi.v p.val = h.serial % 2 ^ 64 ∧ (t.port p.val).lastSerial = some h.serial ∧
      (s.helloValid p.val h = true → t.hpState p.val = hpAuth ∧ (t.port p.val).helloOk = true ∧
        t.sent = .head p.val 0x103 [(s.port p.val).depth] :: s.sent ∧ (∃ n, (t.port p.val).waiting = [⟨8, n, 0⟩]) ∧
        t.get HpRate.maxRate p.val = min (s.get HpRate.maxRate p.val) h.maxRate ∧
        (h.maxRate < s.get HpRate.maxRate p.val → t.flag HpStat.rateLim p.val = true)) ∧
      (s.helloValid p.val h = false → t.hpState p.val = hpSync ∧ t.flag HpStat.helloErr p.val = true ∧ t.sent = s.sent ∧
        (s.calState = calIdle → Recorded s t .hpHelloBad p.val [])) := by
  have port := s.port_identified p.val h
  have taken := s.identified_identified p.val h
  have maxRate : (s.identified p.val h).get HpRate.maxRate p.val = s.get HpRate.maxRate p.val := s.get_identified_ne p.val h (by decide) _
  have cal : (s.identified p.val h).calState = s.calState := s.get_identified_ne p.val h (by decide) 0
  have alike : RecordsAlike s (s.identified p.val h) := s.identified_alike p.val h
  have sentBefore : (s.identified p.val h).sent = s.sent := s.identified_sent p.val h
  have run : exec (.hello p h) s = .next (s.hello p.val h) := congrArg Host.Outcome.next (upstream_eq up good _)
  rw [State.hello_of_known free same sync] at run
  generalize s.identified p.val h = u at *
  by_cases valid : s.helloValid p.val h = true
  · rw [if_pos valid] at run
    obtain ⟨auth, ok, serial, sent, waiting, hrate, hlim, identity⟩ := State.limitedAuth_facts (s := u) (p := p.val)
      (by rw [port]; exact free) (by rw [port]; exact empty) (by rw [port]; exact awake) h.maxRate rfl
    obtain ⟨hfamily, hrows, hserial⟩ := identity h taken
    rw [port] at serial sent
    rw [sentBefore] at sent
    rw [maxRate] at hrate hlim
    exact ⟨_, run, hfamily, hrows, hserial, serial, fun _ => ⟨auth, ok, sent, waiting, hrate, hlim⟩,
      fun invalid => by simp [valid] at invalid⟩
  · rw [if_neg valid] at run
    obtain ⟨hstate, herr, hsent, hports, hrec, kept⟩ := u.helloRefused_facts p.val
    obtain ⟨hfamily, hrows, hserial⟩ := taken.kept kept (by decide)
    refine ⟨_, run, hfamily, hrows, hserial, ?_, fun isValid => absurd isValid valid,
      fun _ => ⟨hstate, herr, hsent.trans sentBefore, fun idle => (hrec (cal.trans idle)).trans (alike.ev _ _ _)⟩⟩
    rw [State.port_congr hports, port]

theorem hello_restarts (p : Fin 128) (h : Hello) (n : Nat) (s : State) (up : s.isUp p.val = true) (good : Rx.good h.rx = true)
    (before : (s.port p.val).lastSerial = some n) (other : n ≠ h.serial) :
    ∃ t, exec (.hello p h) s = .next t ∧ t.hpState p.val = hpSync ∧ t.flag HpStat.verified p.val = false ∧
      t.sent.head? = some (.head p.val 0x102 []) ∧ (t.port p.val).lastSerial = some h.serial := by
  have ended : QueueStep p.val (s.identified p.val h) ((s.identified p.val h).endReq p.val [2]) := .endReq _ [2]
  have recorded := FailStep.frame (.record ((s.identified p.val h).endReq p.val [2]) .hpHeadChanged p.val [])
  have links : ((s.identified p.val h).endReq p.val [2]).linkUp = s.linkUp := by
    rw [ended.1]
    exact s.identified_linkUp p.val h
  have still : (((s.identified p.val h).endReq p.val [2]).record .hpHeadChanged p.val []).isUp p.val = true := by
    rw [State.isUp, recorded.2, links]
    exact up
  obtain ⟨hstate, hverified, hsent, hserial⟩ := State.restartBringUp_facts still
  have run : exec (.hello p h) s = .next (s.hello p.val h) := congrArg Host.Outcome.next (upstream_eq up good _)
  rw [State.hello_eq] at run
  refine ⟨_, run.trans (congrArg Host.Outcome.next (if_pos ⟨by simp [before], by simp [before, other]⟩)), hstate, hverified, hsent, ?_⟩
  rw [hserial, State.port_congr recorded.1, ended.2.2, s.port_identified]

/-! ### The answer to CHALLENGE (R280 to R282) -/

/-- VERIFIED or UNVERIFIED is shown. -/
def State.verdictShown (s : State) (p : Nat) (ok : Bool) : State :=
  if ok = true then (s.put HpStat.verified p 1).put HpStat.unverified p 0
  else ((s.put HpStat.verified p 0).put HpStat.unverified p 1).record .hpUnverified p []

/-- LOAD begins. -/
def State.loadBegun (s : State) (p : Nat) : State := (s.put HpStat.state p hpLoad).syncWd p

/-- The requests that follow from the verdict. -/
def State.loadQueued (s : State) (p : Nat) (ok : Bool) : State :=
  let u := if ok = true then s.nonceReq p 0x0A else s
  let v := if u.acting = true then u.sendTables p else u
  v.endReq p [8]

theorem State.authenticated_eq (s : State) (p : Nat) (ok : Bool) :
    s.authenticated p ok = (((s.verdictShown p ok).loadBegun p).loadQueued p ok).tryReady p := rfl

theorem State.verdictShown_facts (s : State) (p : Nat) (ok : Bool) :
    (s.verdictShown p ok).flag HpStat.verified p = ok ∧ (s.verdictShown p ok).flag HpStat.unverified p = !ok := by
  unfold State.verdictShown State.flag
  cases ok with
  | true => simp (disch := decide)
  | false =>
    rw [if_neg (by decide), State.get_record _ _ _ _ _ _ (by decide), State.get_record _ _ _ _ _ _ (by decide)]
    simp (disch := decide)

theorem QueueStep.loadQueued (s : State) (p : Nat) (ok : Bool) : QueueStep p s (s.loadQueued p ok) := by
  have asked : QueueStep p s (if ok = true then s.nonceReq p 0x0A else s) := by
    split
    · exact .nonceReq s _
    · exact .refl s
  have tables (u : State) : QueueStep p u (if u.acting = true then u.sendTables p else u) := by
    split
    · exact .sendTables u
    · exact .refl u
  exact (asked.trans (tables _)).trans (.endReq _ _)

/-- The verdict reached, the port is in LOAD, or READY at once (Table 11-7). -/
theorem State.authenticated_facts (s : State) (p : Nat) (ok : Bool) :
    ((s.authenticated p ok).hpState p = hpLoad ∨ (s.authenticated p ok).hpState p = hpReady) ∧
    (s.authenticated p ok).flag HpStat.verified p = ok ∧ (s.authenticated p ok).flag HpStat.unverified p = !ok := by
  obtain ⟨hverified, hunverified⟩ := s.verdictShown_facts p ok
  rw [s.authenticated_eq p ok]
  have queued := QueueStep.loadQueued ((s.verdictShown p ok).loadBegun p) p ok
  have begun := SyncStep.syncWd ((s.verdictShown p ok).put HpStat.state p hpLoad) p
  have tried := SyncStep.tryReady (((s.verdictShown p ok).loadBegun p).loadQueued p ok) p
  have load : (((s.verdictShown p ok).loadBegun p).loadQueued p ok).hpState p = hpLoad :=
    (queued.get (f := HpStat.state) (by decide) rfl).trans ((begun.get (f := HpStat.state) (by decide) rfl).trans
      (State.get_put_of_lt _ _ _ (by decide)))
  have shown {f : Fld} (hf : f ∈ f.reg.fields) (ready : only readyFields f p = false) (sleep : only sleepShown f p = false)
      (cal : only calFields f p = false) (other : HpStat.state.apart f = true) :
      ((((s.verdictShown p ok).loadBegun p).loadQueued p ok).tryReady p).get f p = (s.verdictShown p ok).get f p :=
    (tried.get hf ready).trans ((queued.get hf sleep).trans ((begun.get hf cal).trans (State.get_put_ne _ other p p _)))
  refine ⟨?_, ?_, ?_⟩
  · rw [← load]
    exact State.hpState_tryReady _ p
  · rw [State.flag, shown (f := HpStat.verified) (by decide) rfl rfl rfl (by decide)]
    exact hverified
  · rw [State.flag, shown (f := HpStat.unverified) (by decide) rfl rfl rfl (by decide)]
    exact hunverified

theorem response_authenticates (p : Fin 128) (rx : Rx) (serial family : Nat) (tag : List Byte) (s : State)
    (up : s.isUp p.val = true) (good : Rx.good rx = true) :
    (s.hpState p.val = hpAuth → s.answered p.val [8] = true → ∃ t, exec (.response p rx serial family tag) s = .next t ∧
      (t.hpState p.val = hpLoad ∨ t.hpState p.val = hpReady) ∧
      t.flag HpStat.verified p.val = s.responseOk p.val serial family tag ∧
      t.flag HpStat.unverified p.val = !s.responseOk p.val serial family tag) ∧
    ((s.hpState p.val ≠ hpAuth ∨ s.answered p.val [8] = false) → exec (.response p rx serial family tag) s = .next s) := by
  have run : exec (.response p rx serial family tag) s = .next (if s.hpState p.val = hpAuth ∧ s.answered p.val [8] = true then
      s.authenticated p.val (s.responseOk p.val serial family tag) else s) := congrArg Host.Outcome.next (upstream_eq up good _)
  refine ⟨fun auth answered => ⟨_, by rw [run, if_pos ⟨auth, answered⟩], s.authenticated_facts p.val _⟩, fun idle => ?_⟩
  rw [run, if_neg]
  rintro ⟨auth, answered⟩
  rcases idle with other | unanswered
  · exact other auth
  · simp [answered] at unanswered

/-! ### Usage (R283 to R285) -/

/-- The message that the tag of a USAGE signs. -/
def State.usageMessage (s : State) (p seq : Nat) (c : List Nat) : List Byte :=
  ascii4 0x55 0x53 0x52 0x44 ++ (s.port p).nonce ++ leBytes 4 seq ++ c.flatMap (leBytes 8)

/-- The count taken for a colour code: the larger one after a refused write. -/
def usageTaken (merge : Bool) (c : List Nat) (k old : Nat) : Nat := if merge = true then max (c.getD k 0) old else c.getD k 0

/-- The counts are taken over. -/
def State.usagesTaken (s : State) (p : Nat) (merge : Bool) (c : List Nat) : State :=
  (List.range 7).foldl (fun t k => t.setUsage p (k + 1) (usageTaken merge c k (t.usage p (k + 1)))) s

theorem State.usage_setUsage_same (s : State) (p k v : Nat) : (s.setUsage p k v).usage p k = v % 2 ^ 64 :=
  s.get64_put64 (by decide) rfl rfl _ v

theorem State.usage_setUsage_other (s : State) (p : Nat) {k j : Nat} (other : 7 * p + k - 1 ≠ 7 * p + j - 1) (v : Nat) :
    (s.setUsage p k v).usage p j = s.usage p j := by
  unfold State.usage State.setUsage State.get64 State.put64
  rw [State.get_put_ne _ (by decide), State.get_put_idx _ _ other, State.get_put_idx _ _ other, State.get_put_ne _ (by decide)]

theorem State.usage_usagesTaken (s : State) (p : Nat) (merge : Bool) (c : List Nat) {k : Nat} (one : 1 ≤ k) (seven : k ≤ 7) :
    (s.usagesTaken p merge c).usage p k = usageTaken merge c (k - 1) (s.usage p k) % 2 ^ 64 := by
  refine foldl_visits (a := k - 1) (before := fun (t : State) => t.usage p k = s.usage p k)
    (after := fun t => t.usage p k = usageTaken merge c (k - 1) (s.usage p k) % 2 ^ 64) (fun t before => ?_) (fun t j other before => ?_)
    (fun t j other after => ?_) List.nodup_range (List.mem_range.mpr (by omega)) rfl
  · rw [show k - 1 + 1 = k by omega, State.usage_setUsage_same, before]
  · exact (t.usage_setUsage_other p (by omega) _).trans before
  · exact (t.usage_setUsage_other p (by omega) _).trans after

/-- What a USAGE with a good tag leaves. -/
def State.usageAccepted (s : State) (p seq : Nat) (c : List Nat) : State :=
  let u := (s.mapPort p fun x => { x with usageSeq := seq, usageMerge := false }).usagesTaken p (s.port p).usageMerge c
  if (s.port p).usageMerge = true then u.writeUsage p else u

/-- What a USAGE with a bad tag leaves. -/
def State.usageRefused (s : State) (p : Nat) : State :=
  (s.mapPort p fun x => { x with usageMerge := false }).record .hpUsageBad p []

theorem State.takeUsage_eq (s : State) (p seq : Nat) (c : List Nat) (tag : List Byte) : s.takeUsage p seq c tag =
    ((if hmac (s.headKey p) (s.usageMessage p seq c) = tag then s.usageAccepted p seq c else s.usageRefused p).endReq p [0x0A]).tryReady p :=
  rfl

/-- The fields that hold usage. -/
abbrev usageFields : List Fld := [HpUsageLo.v, HpUsageHi.v]

theorem State.usage_congr {s t : State} (same : ∀ f ∈ usageFields, ∀ i, t.get f i = s.get f i) (p k : Nat) : t.usage p k = s.usage p k := by
  rw [State.usage, State.usage, State.get64, State.get64, same HpUsageLo.v (by decide), same HpUsageHi.v (by decide)]

theorem State.usage_kept {l : List Fld} {s t : State} (kept : FieldsKept (only l) s t) (other : ∀ f ∈ usageFields, only l f 0 = false)
    (p k : Nat) : t.usage p k = s.usage p k :=
  State.usage_congr (fun f hf i => kept _ f i ((by decide : ∀ f ∈ usageFields, f ∈ f.reg.fields) f hf) (other f hf)) p k

theorem OnlyRegs.usagesTaken (s : State) (p : Nat) (merge : Bool) (c : List Nat) : OnlyRegs s (s.usagesTaken p merge c) := by
  have set (t : State) (k v : Nat) : OnlyRegs t (t.setUsage p k v) := rfl
  exact .foldl (fun t k => set t (k + 1) _) _ s

theorem State.usageAccepted_facts (s : State) (p seq : Nat) (c : List Nat) : ((s.usageAccepted p seq c).port p).usageMerge = false ∧
    ∀ k, 1 ≤ k → k ≤ 7 → (s.usageAccepted p seq c).usage p k = usageTaken (s.port p).usageMerge c (k - 1) (s.usage p k) % 2 ^ 64 := by
  let u : State := s.mapPort p fun x => { x with usageSeq := seq, usageMerge := false }
  have port : ((u.usagesTaken p (s.port p).usageMerge c).port p).usageMerge = false := by
    rw [State.port_congr (s := u) (by rw [OnlyRegs.usagesTaken u p (s.port p).usageMerge c]), State.port_mapPort]
  have written (t : State) : QueueStep p t (if (s.port p).usageMerge = true then t.writeUsage p else t) := by
    split
    · exact .writeUsage t
    · exact .refl t
  have step : QueueStep p (u.usagesTaken p (s.port p).usageMerge c) (s.usageAccepted p seq c) := written _
  refine ⟨?_, fun k one seven => ?_⟩
  · rw [step.2.2]
    exact port
  · rw [State.usage_kept step.2.1 (by decide), State.usage_usagesTaken _ _ _ _ one seven]
    rfl

theorem State.usageRefused_facts (s : State) (p : Nat) : ((s.usageRefused p).port p).usageMerge = false ∧
    (∀ k, (s.usageRefused p).usage p k = s.usage p k) ∧ (s.usageRefused p).calState = s.calState ∧
    Recorded s (s.usageRefused p) .hpUsageBad p [] := by
  let u : State := s.mapPort p fun x => { x with usageMerge := false }
  have alike : RecordsAlike s u := ⟨rfl, rfl, rfl, rfl, rfl, fun _ _ => rfl⟩
  have recorded := FailStep.record u .hpUsageBad p []
  refine ⟨?_, fun k => ?_, ?_, alike.ev _ _ _⟩
  · rw [State.usageRefused, State.port_congr recorded.frame.1, State.port_mapPort]
  · exact State.usage_kept recorded.2 (by decide) p k
  · exact recorded.get (f := CalStat.state) (by decide) rfl

theorem usage_taken (p : Fin 128) (rx : Rx) (seq : Nat) (c : List Nat) (tag : List Byte) (s : State) (up : s.isUp p.val = true)
    (good : Rx.good rx = true) (answered : s.answered p.val [0x0A] = true) :
    ∃ t, exec (.usage p rx seq c tag) s = .next t ∧ (t.port p.val).usageMerge = false ∧
    (hmac (s.headKey p.val) (ascii4 0x55 0x53 0x52 0x44 ++ (s.port p.val).nonce ++ leBytes 4 seq ++ c.flatMap (leBytes 8)) = tag →
      ∀ k, 1 ≤ k → k ≤ 7 → t.usage p.val k = (if (s.port p.val).usageMerge = true then max (c.getD (k - 1) 0) (s.usage p.val k)
        else c.getD (k - 1) 0) % 2 ^ 64) ∧
    (hmac (s.headKey p.val) (ascii4 0x55 0x53 0x52 0x44 ++ (s.port p.val).nonce ++ leBytes 4 seq ++ c.flatMap (leBytes 8)) ≠ tag →
      (∀ k, t.usage p.val k = s.usage p.val k) ∧ (s.calState = calIdle → Recorded s t .hpUsageBad p.val [])) := by
  have run : exec (.usage p rx seq c tag) s = .next (s.takeUsage p.val seq c tag) :=
    congrArg Host.Outcome.next ((upstream_eq up good _).trans (if_pos answered))
  rw [s.takeUsage_eq] at run
  have ends (u : State) : ((u.endReq p.val [0x0A]).tryReady p.val).port p.val = (u.endReq p.val [0x0A]).port p.val ∧
      (∀ k, ((u.endReq p.val [0x0A]).tryReady p.val).usage p.val k = u.usage p.val k) ∧
      (u.calState = calIdle → ((u.endReq p.val [0x0A]).tryReady p.val).ev = u.ev) := by
    have ended := QueueStep.endReq (p := p.val) u [0x0A]
    have tried := SyncStep.tryReady (u.endReq p.val [0x0A]) p.val
    refine ⟨State.port_congr tried.frame.1 _, fun k => ?_, fun idle => ?_⟩
    · rw [State.usage_kept tried.2 (by decide), State.usage_kept ended.2.1 (by decide)]
    · rw [State.tryReady_ev ((ended.get (f := CalStat.state) (by decide) rfl).trans idle), ended.1]
  by_cases signed : hmac (s.headKey p.val) (s.usageMessage p.val seq c) = tag
  · obtain ⟨merge, counts⟩ := s.usageAccepted_facts p.val seq c
    obtain ⟨port, usage, -⟩ := ends (s.usageAccepted p.val seq c)
    rw [if_pos signed] at run
    refine ⟨_, run, ?_, fun _ k one seven => (usage k).trans (counts k one seven), fun forged => absurd signed forged⟩
    rw [port, (QueueStep.endReq _ _).2.2]
    exact merge
  · obtain ⟨merge, counts, cal, recorded⟩ := s.usageRefused_facts p.val
    obtain ⟨port, usage, ev⟩ := ends (s.usageRefused p.val)
    rw [if_neg signed] at run
    refine ⟨_, run, ?_, fun isSigned => absurd isSigned signed, fun _ => ⟨fun k => (usage k).trans (counts k),
      fun idle => (ev (cal.trans idle)).trans recorded⟩⟩
    rw [port, (QueueStep.endReq _ _).2.2]
    exact merge

theorem usage_unasked (p : Fin 128) (rx : Rx) (seq : Nat) (c : List Nat) (tag : List Byte) (s : State) (up : s.isUp p.val = true)
    (good : Rx.good rx = true) (unasked : s.answered p.val [0x0A] = false) : exec (.usage p rx seq c tag) s = .next s :=
  congrArg Host.Outcome.next ((upstream_eq up good _).trans (if_neg (by simp [unasked])))

end Sys2Proof.Machine
end

section
/-! ## Requests answered, refused or timed out, sleep, PARAM and links (R107, R275, R286): O41 -/
namespace Sys2Proof.Machine

/-! ### Management requests (R275) -/

theorem execMack_eq {p : Fin 128} {rx : Rx} {s : State} (up : s.isUp p.val = true) (good : Rx.good rx = true) {r : MgmtReq}
    (asked : (s.port p.val).request = some r) (op st : Nat) :
    exec (.mack p rx op st) s = .next (if r.op = op then s.mack p.val r st else s) := by
  have run : exec (.mack p rx op st) s = .next (match (s.port p.val).request with
    | some r => if r.op = op then s.mack p.val r st else s
    | none => s) := congrArg Host.Outcome.next (upstream_eq up good _)
  rw [asked] at run
  exact run

theorem State.sent_mapPort (s : State) (p : Nat) (f : Port → Port) : (s.mapPort p f).sent = s.sent := rfl

/-- A request that ends well leaves the port without one, and nothing is sent. -/
theorem State.nextReq_tryReady {s : State} {p : Nat} (empty : (s.port p).waiting = []) :
    ((s.nextReq p).tryReady p).port p = { s.port p with request := none } ∧ ((s.nextReq p).tryReady p).sent = s.sent := by
  obtain ⟨port, sent⟩ := State.nextReq_of_empty empty
  obtain ⟨hports, hsent, -⟩ := (SyncStep.tryReady (s.nextReq p) p).frame
  exact ⟨(State.port_congr hports p).trans port, hsent.trans sent⟩

/-- What an answer ends: a USAGE_WR with a status other than 4 and 5, a PARAM request with any, another request with status 0. -/
theorem State.mack_ends {s : State} {p : Nat} {r : MgmtReq} {st : Nat} (empty : (s.port p).waiting = [])
    (ends : st = 0 ∨ r.op = 0x0F ∨ (r.op = opUsageWr ∧ st ≠ 4 ∧ st ≠ 5)) :
    ((s.mack p r st).port p).request = none ∧ (s.mack p r st).sent = s.sent ∧
    (r.op = opUsageWr → st = 0 → ((s.mack p r st).port p).usageSeq = r.args.headD 0) := by
  unfold State.mack
  by_cases write : r.op = opUsageWr
  · rw [if_pos write]
    by_cases done : st = 0
    · have port := State.port_mapPort s p fun x => { x with usageSeq := r.args.headD 0 }
      obtain ⟨hport, hsent⟩ := State.nextReq_tryReady
        (s := s.mapPort p fun x => { x with usageSeq := r.args.headD 0 }) (p := p) (by rw [port]; exact empty)
      rw [if_pos done]
      refine ⟨?_, hsent.trans (s.sent_mapPort p _), fun _ _ => ?_⟩
      · rw [hport]
      · rw [hport, port]
    · have other : ¬(st = 4 ∨ st = 5) := by
        rcases ends with h | h | ⟨-, h4, h5⟩
        · exact absurd h done
        · rw [write] at h
          exact absurd h (by decide)
        · exact not_or.mpr ⟨h4, h5⟩
      obtain ⟨hport, hsent⟩ := State.nextReq_tryReady empty
      rw [if_neg done, if_neg other]
      exact ⟨by rw [hport], hsent, fun _ h => absurd h done⟩
  · rw [if_neg write]
    by_cases param : r.op = 0x0F
    · obtain ⟨hport, hsent⟩ := State.nextReq_tryReady (s := s.paramReplied p) (p := p) empty
      rw [if_pos param]
      exact ⟨by rw [hport], hsent, fun h => absurd h write⟩
    · have done : st = 0 := by
        rcases ends with h | h | ⟨h, -⟩
        · exact h
        · exact absurd h param
        · exact absurd h write
      obtain ⟨hport, hsent⟩ := State.nextReq_tryReady empty
      rw [if_neg param, if_pos done]
      exact ⟨by rw [hport], hsent, fun h => absurd h write⟩

/-- A refused USAGE_WR is recorded, and the counts are read back to be merged (R285). -/
theorem State.mack_usageRefused {s : State} {p : Nat} {r : MgmtReq} {st : Nat} (write : r.op = opUsageWr) (refused : st = 4 ∨ st = 5)
    (empty : (s.port p).waiting = []) (awake : (s.port p).sleepReq = false) : ((s.mack p r st).port p).usageMerge = true ∧
    (∃ n, (s.mack p r st).sent = .head p 0x10A n :: s.sent) ∧ Recorded s (s.mack p r st) .hpUsageRefused p [] := by
  let u : State := s.record .hpUsageRefused p []
  let v : State := (u.nextReq p).mapPort p fun x => { x with usageMerge := true }
  have port : u.port p = s.port p := State.port_congr (FailStep.record s _ _ _).frame.1 p
  obtain ⟨hport, hsent⟩ := State.nextReq_of_empty (s := u) (p := p) (by rw [port]; exact empty)
  have port' : v.port p = { s.port p with request := none, usageMerge := true } := by
    rw [State.port_mapPort, hport, port]
  have sent : v.sent = s.sent := (State.sent_mapPort _ _ _).trans (hsent.trans (by simp [u]))
  have asked := QueueStep.nonceReq (p := p) v 0x0A
  have result : s.mack p r st = v.nonceReq p 0x0A := by
    unfold State.mack
    rw [if_pos write, if_neg (by omega), if_pos refused]
  obtain ⟨n, read⟩ := State.nonceReq_of_free (s := v) (p := p) (op := 0x0A) rfl (by rw [port']; exact awake) (by rw [port'])
  rw [result]
  refine ⟨?_, ⟨n, by rw [read, sent]⟩, ?_⟩
  · rw [asked.2.2, port']
  · have quiet (t : State) (f : Port → Port) : (t.mapPort p f).ev = t.ev := rfl
    exact asked.ev.trans ((quiet _ _).trans (QueueStep.nextReq (p := p) u).ev)

theorem State.mgmtFail_facts {s : State} {p : Nat} (up : s.isUp p = true) : (s.mgmtFail p).hpState p = hpSync ∧
    (s.mgmtFail p).sent.head? = some (.head p 0x102 []) := by
  have still : (s.record .hpMgmtFail p []).isUp p = true := by
    rw [State.isUp, (FailStep.record s _ _ _).frame.2]
    exact up
  obtain ⟨hstate, -, hsent, -⟩ := State.restartBringUp_facts still
  exact ⟨hstate, hsent⟩

theorem mack_answers (p : Fin 128) (rx : Rx) (op st : Nat) (r : MgmtReq) (s : State) (up : s.isUp p.val = true)
    (good : Rx.good rx = true) (asked : (s.port p.val).request = some r) :
    (r.op ≠ op → exec (.mack p rx op st) s = .next s) ∧
    (r.op = op → (s.port p.val).waiting = [] → (st = 0 ∨ r.op = 0x0F ∨ (r.op = opUsageWr ∧ st ≠ 4 ∧ st ≠ 5)) → ∃ t,
      exec (.mack p rx op st) s = .next t ∧ (t.port p.val).request = none ∧ t.sent = s.sent ∧
      (r.op = opUsageWr → st = 0 → (t.port p.val).usageSeq = r.args.headD 0)) ∧
    (r.op = opUsageWr → op = opUsageWr → (st = 4 ∨ st = 5) → (s.port p.val).waiting = [] → (s.port p.val).sleepReq = false → ∃ t,
      exec (.mack p rx op st) s = .next t ∧ (t.port p.val).usageMerge = true ∧
      (∃ n, t.sent = .head p.val 0x10A n :: s.sent) ∧ Recorded s t .hpUsageRefused p.val []) ∧
    (r.op = op → r.op ≠ opUsageWr → r.op ≠ 0x0F → st ≠ 0 → ∃ t, exec (.mack p rx op st) s = .next t ∧ t.hpState p.val = hpSync ∧
      t.sent.head? = some (.head p.val 0x102 [])) := by
  have run := execMack_eq up good asked op st
  refine ⟨fun other => run.trans (by rw [if_neg other]), fun own empty ends => ?_, fun write isWrite refused empty awake => ?_,
    fun own notWrite notParam failed => ?_⟩
  · rw [if_pos own] at run
    exact ⟨_, run, State.mack_ends empty ends⟩
  · rw [if_pos (write.trans isWrite.symm)] at run
    exact ⟨_, run, State.mack_usageRefused write refused empty awake⟩
  · have fails : s.mack p.val r st = s.mgmtFail p.val := by
      unfold State.mack
      rw [if_neg notWrite, if_neg notParam, if_neg failed]
    rw [if_pos own, fails] at run
    exact ⟨_, run, State.mgmtFail_facts up⟩

theorem mgmt_unasked (p : Fin 128) (rx : Rx) (op st : Nat) (s : State) (up : s.isUp p.val = true) (good : Rx.good rx = true)
    (free : (s.port p.val).request = none) : exec (.mack p rx op st) s = .next s ∧ exec (.mgmtTimeout p) s = .next s := by
  constructor
  · have run : exec (.mack p rx op st) s = .next (match (s.port p.val).request with
      | some r => if r.op = op then s.mack p.val r st else s
      | none => s) := congrArg Host.Outcome.next (upstream_eq up good _)
    rw [free] at run
    exact run
  · change execMgmtTimeout p s = _
    unfold execMgmtTimeout
    rw [free]

theorem mgmtTimeout_resends (p : Fin 128) (r : MgmtReq) (s : State) (asked : (s.port p.val).request = some r) :
    (r.resends < 3 → ∃ t, exec (.mgmtTimeout p) s = .next t ∧ t.sent = .head p.val (0x100 + r.op) r.args :: s.sent ∧
      (t.port p.val).request = some { r with resends := r.resends + 1 } ∧ t = { s with sent := t.sent, ports := t.ports }) ∧
    (3 ≤ r.resends → s.isUp p.val = true → ∃ t, exec (.mgmtTimeout p) s = .next t ∧ t.hpState p.val = hpSync ∧
      t.sent.head? = some (.head p.val 0x102 [])) := by
  have run : exec (.mgmtTimeout p) s = .next (if r.resends < 3 then
      (s.sendHead p.val (0x100 + r.op) r.args).mapPort p.val fun x => { x with request := some { r with resends := r.resends + 1 } }
    else (if r.op = 8 then s.record .hpUnverified p.val [] else s).mgmtFail p.val) := by
    change execMgmtTimeout p s = _
    unfold execMgmtTimeout
    rw [asked]
  refine ⟨fun few => ?_, fun many up => ?_⟩
  · rw [if_pos few] at run
    refine ⟨_, run, State.sent_mapPort _ _ _, ?_, PortStep.trans (t := s.sendHead p.val (0x100 + r.op) r.args) rfl (.mapPort _ _ _)⟩
    rw [State.port_mapPort]
  · have still : (if r.op = 8 then s.record .hpUnverified p.val [] else s).isUp p.val = true := by
      split
      · rw [State.isUp, (FailStep.record s _ _ _).frame.2]
        exact up
      · exact up
    rw [if_neg (by omega)] at run
    exact ⟨_, run, State.mgmtFail_facts still⟩

end Sys2Proof.Machine
end

section
/-! ## Sleep of a port, PARAM, and links that come UP and DOWN (R107, R286, Table 11-5): the rest of O41 -/
namespace Sys2Proof.Machine

/-! ### Sleep (R286) -/

/-- The registers and the note in the port when a head is put to sleep, before the lane is asked. -/
def State.sleepBegun (s : State) (p : Nat) : State :=
  ((s.mapPort p fun x => { x with sleepReq := true }).put HpStat.state p hpAsleep).put LnCtrl.txSleep p 1

theorem State.port_sleepBegun (s : State) (p : Nat) : (s.sleepBegun p).port p = { s.port p with sleepReq := true } :=
  s.port_mapPort p fun x => { x with sleepReq := true }

theorem State.hpState_sleepBegun (s : State) (p : Nat) : (s.sleepBegun p).hpState p = hpAsleep := by
  simp (disch := decide) [State.sleepBegun, State.hpState]
  rfl

theorem State.txSleep_sleepBegun (s : State) (p : Nat) : (s.sleepBegun p).flag LnCtrl.txSleep p = true := by
  simp (disch := decide) [State.sleepBegun, State.flag]

theorem headSleepTimer_sleeps (p : Fin 128) (s : State) (may : s.maySleep p.val = true) (ready : s.hpState p.val = hpReady)
    (awake : (s.port p.val).sleepReq = false) : ∃ t, exec (.headSleepTimer p) s = .next t ∧ t.hpState p.val = hpAsleep ∧
    (t.port p.val).sleepReq = true ∧ t.flag LnCtrl.txSleep p.val = true ∧ t.pages = s.pages ∧ t.dram = s.dram := by
  have run : exec (.headSleepTimer p) s = .next (((s.sleepBegun p.val).requestSleep p.val).syncWd p.val) := by
    change execHeadSleepTimer p s = _
    unfold execHeadSleepTimer
    rw [if_neg (by simp [awake]), if_pos ⟨may, ready⟩]
    rfl
  obtain ⟨asked, kept⟩ := (s.sleepBegun p.val).requestSleep_frame p.val
  have synced := SyncStep.syncWd ((s.sleepBegun p.val).requestSleep p.val) p.val
  obtain ⟨hports, -, -, hpages, hdram, -⟩ := synced.frame
  have begun : ((s.sleepBegun p.val).requestSleep p.val).ports = (s.sleepBegun p.val).ports ∧
      ((s.sleepBegun p.val).requestSleep p.val).pages = s.pages ∧ ((s.sleepBegun p.val).requestSleep p.val).dram = s.dram := by
    rw [asked]
    exact ⟨rfl, rfl, rfl⟩
  refine ⟨_, run, ?_, ?_, ?_, hpages.trans begun.2.1, hdram.trans begun.2.2⟩
  · rw [State.hpState, synced.get (f := HpStat.state) (by decide) rfl, kept.of_sleepField .hpStat HpStat.state _ (by decide) rfl]
    exact s.hpState_sleepBegun p.val
  · rw [State.port_congr (hports.trans begun.1), State.port_sleepBegun]
  · rw [State.flag, synced.get (f := LnCtrl.txSleep) (by decide) rfl, State.txSleep_requestSleep]
    exact s.txSleep_sleepBegun p.val

/-- A port asleep that may sleep no longer is woken. -/
theorem State.wakePort_facts {s : State} {p : Nat} (asleep : (s.port p).sleepReq = true) :
    ((s.wakePort p).port p).sleepReq = false ∧ (s.wakePort p).flag LnCtrl.txSleep p = false := by
  have same : ((s.sleepEnded p).requestWake p).port p = (s.sleepEnded p).port p :=
    State.port_congr (by rw [((s.sleepEnded p).requestWake_frame p).1]) p
  rw [State.wakePort_of_asleep asleep]
  constructor
  · rw [same, State.port_sleepEnded]
  · rw [State.flag, State.txSleep_requestWake]
    simp (disch := decide) [State.sleepEnded]

theorem headSleepTimer_wakes (p : Fin 128) (s : State) (asleep : (s.port p.val).sleepReq = true) (mayNot : s.maySleep p.val = false) :
    ∃ t, exec (.headSleepTimer p) s = .next t ∧ (t.port p.val).sleepReq = false ∧ t.flag LnCtrl.txSleep p.val = false := by
  have run : exec (.headSleepTimer p) s = .next (s.wakePort p.val) := by
    change execHeadSleepTimer p s = _
    unfold execHeadSleepTimer State.wakeIfDue
    rw [if_pos asleep, if_pos ⟨asleep, by simp [mayNot]⟩]
  exact ⟨_, run, State.wakePort_facts asleep⟩

theorem headSleepTimer_idle (p : Fin 128) (s : State) (stays : (s.port p.val).sleepReq = true → s.maySleep p.val = true)
    (unfit : (s.port p.val).sleepReq = false → s.maySleep p.val = false ∨ s.hpState p.val ≠ hpReady) :
    exec (.headSleepTimer p) s = .next s := by
  change execHeadSleepTimer p s = _
  unfold execHeadSleepTimer State.wakeIfDue
  by_cases asleep : (s.port p.val).sleepReq = true
  · rw [if_pos asleep, if_neg (by simp [stays asleep])]
  · have awake : (s.port p.val).sleepReq = false := by simpa using asleep
    have no : ¬(s.maySleep p.val = true ∧ s.hpState p.val = hpReady) := by
      rintro ⟨may, ready⟩
      rcases unfit awake with h | h
      · rw [may] at h
        exact absurd h (by decide)
      · exact h ready
    rw [if_neg asleep, if_neg no]

/-! ### PARAM (Table 11-5) -/

theorem State.not_mem_replies_paramReplied (s : State) (p : Nat) : ∀ a ∈ (s.paramReplied p).mot.acts, p ∉ a.replies := by
  simp [State.paramReplied]

theorem headParamReply_notes (p : Fin 128) (rx : Rx) (data : List Byte) (s : State) (up : s.isUp p.val = true) (good : Rx.good rx = true) :
    ∃ t, exec (.headParamReply p rx data) s = .next t ∧ (t.port p.val).param = data ∧ t.regs = s.regs ∧
    (∀ a ∈ t.mot.acts, p.val ∉ a.replies) := by
  let u : State := s.mapPort p.val fun x => { x with param := data }
  have run : exec (.headParamReply p rx data) s = .next ((u.paramReplied p.val).endReq p.val [0x0F]) :=
    congrArg Host.Outcome.next (upstream_eq up good _)
  have port : u.port p.val = { s.port p.val with param := data } := State.port_mapPort s p.val _
  have same : (u.paramReplied p.val).port p.val = u.port p.val := State.port_congr rfl p.val
  have noted : PortStep (u.paramReplied p.val) ((u.paramReplied p.val).endReq p.val [0x0F]) := .endReq _ _ _
  have kept : ((u.paramReplied p.val).endReq p.val [0x0F]).regs = s.regs ∧
      ((u.paramReplied p.val).endReq p.val [0x0F]).mot = (u.paramReplied p.val).mot := by
    rw [noted]
    exact ⟨rfl, rfl⟩
  refine ⟨_, run, ?_, kept.1, ?_⟩
  · rw [(QueueStep.endReq (p := p.val) (u.paramReplied p.val) [0x0F]).2.2, same, port]
  · rw [kept.2]
    exact u.not_mem_replies_paramReplied p.val

/-! ### Links (R107) -/

/-- The link is noted as UP. -/
def State.linkNoted (s : State) (n : Nat) : State := { s with linkUp := n :: s.linkUp }

/-- The link is noted as DOWN. -/
def State.linkGone (s : State) (n : Nat) : State := { s with linkUp := s.linkUp.filter fun m => m != n }

theorem State.isUp_linkNoted (s : State) (n : Nat) : (s.linkNoted n).isUp n = true := by
  simp [State.isUp, State.linkNoted]

theorem State.isUp_linkGone (s : State) (n : Nat) : (s.linkGone n).isUp n = false := by
  simp [State.isUp, State.linkGone]

theorem State.isUp_congr {s t : State} (h : t.linkUp = s.linkUp) (n : Nat) : t.isUp n = s.isUp n := by
  rw [State.isUp, State.isUp, h]

theorem linkUp_starts (l : Link) (s : State) (down : s.isUp (linkNumber l) = false) (ready : s.linkReady (linkNumber l) = true) :
    ∃ t, exec (.linkUp l) s = .next t ∧ t.isUp (linkNumber l) = true ∧
    (∀ p : Fin 128, l = .head p → t.hpState p.val = hpSync ∧ (t.port p.val).depth = s.ctrlDepth p.val) ∧
    ((l = .dataPort ∨ l = .col) → t = { s with linkUp := t.linkUp }) := by
  have starts : ¬(s.isUp (linkNumber l) = true ∨ ¬s.linkReady (linkNumber l) = true) := by simp [down, ready]
  have up := s.isUp_linkNoted (linkNumber l)
  cases l with
  | head p =>
    have run : exec (.linkUp (.head p)) s = .next ((s.linkNoted p.val).startBringUp p.val) := congrArg Host.Outcome.next (if_neg starts)
    obtain ⟨hstate, -, hport, hlinks⟩ := (s.linkNoted p.val).startBringUp_facts p.val
    refine ⟨_, run, (State.isUp_congr hlinks _).trans up, ?_, by simp⟩
    rintro q ⟨⟩
    refine ⟨hstate, ?_⟩
    rw [hport]
    rfl
  | dataPort => exact ⟨s.linkNoted 128, congrArg Host.Outcome.next (if_neg starts), up, by simp, fun _ => rfl⟩
  | col => exact ⟨s.linkNoted 136, congrArg Host.Outcome.next (if_neg starts), up, by simp, fun _ => rfl⟩

/-- What a port notes when its link goes DOWN. -/
def Port.cutOff (x : Port) : Port :=
  { x with request := none, waiting := [], helloOk := false, delayOk := false, retryWait := false, sleepReq := false }

/-- A port without its link has no head, no request, and on a device that acts no part in the array. -/
theorem State.portDown_facts (s : State) (p : Nat) : (s.portDown p).hpState p = hpDown ∧ ((s.portDown p).port p).request = none ∧
    (s.acting = true → (s.portDown p).wdOpen p = true) ∧ (s.portDown p).linkUp = s.linkUp := by
  let u : State := (((s.paramLost p).put HpStat.state p hpDown).put HpStat.timeOk p 0).mapPort p Port.cutOff
  have lost : FailStep s (s.paramLost p) := .paramLost s p
  have state : u.hpState p = hpDown := by
    simp (disch := decide) [u, State.hpState]
    rfl
  have role : u.acting = s.acting := by
    have same : u.get TwStat.role 0 = (s.paramLost p).get TwStat.role 0 := by simp (disch := decide) [u]
    rw [State.acting, State.acting, State.role, State.role, same, lost.get (f := TwStat.role) (by decide) rfl]
  have step : SyncStep calFields u (s.portDown p) := .syncWd u p
  obtain ⟨hports, -, hlinks, -⟩ := step.frame
  refine ⟨?_, ?_, fun acting => ?_, hlinks.trans lost.frame.2⟩
  · rw [State.hpState, step.get (f := HpStat.state) (by decide) rfl]
    exact state
  · rw [State.port_congr hports, State.port_mapPort]
    rfl
  · have outside : u.hpState p ≠ hpReady := by
      rw [state]
      decide
    exact State.wdOpen_syncWd (role.trans acting) outside

theorem linkDown_ends (l : Link) (s : State) (up : s.isUp (linkNumber l) = true) (unready : s.linkReady (linkNumber l) = false) :
    ∃ t, exec (.linkDown l) s = .next t ∧ t.isUp (linkNumber l) = false ∧
    (∀ p : Fin 128, l = .head p → t.hpState p.val = hpDown ∧ (t.port p.val).request = none ∧ (s.acting = true → t.wdOpen p.val = true)) ∧
    (l = .col → t.twin.rxSeq = []) := by
  have ends : ¬(¬s.isUp (linkNumber l) = true ∨ s.linkReady (linkNumber l) = true) := by simp [up, unready]
  have down := s.isUp_linkGone (linkNumber l)
  cases l with
  | head p =>
    have run : exec (.linkDown (.head p)) s = .next ((s.linkGone p.val).portDown p.val) := congrArg Host.Outcome.next (if_neg ends)
    obtain ⟨hstate, hrequest, hwd, hlinks⟩ := (s.linkGone p.val).portDown_facts p.val
    refine ⟨_, run, (State.isUp_congr hlinks _).trans down, ?_, by simp⟩
    rintro q ⟨⟩
    exact ⟨hstate, hrequest, hwd⟩
  | dataPort => exact ⟨s.linkGone 128, congrArg Host.Outcome.next (if_neg ends), down, by simp, by simp⟩
  | col =>
    exact ⟨(s.linkGone 136).mapTwin fun t => { t with rxSeq := [] }, congrArg Host.Outcome.next (if_neg ends), down, by simp, fun _ => rfl⟩

theorem links_unchanged (l : Link) (s : State) :
    ((s.isUp (linkNumber l) = true ∨ s.linkReady (linkNumber l) = false) → exec (.linkUp l) s = .next s) ∧
    ((s.isUp (linkNumber l) = false ∨ s.linkReady (linkNumber l) = true) → exec (.linkDown l) s = .next s) := by
  refine ⟨fun h => congrArg Host.Outcome.next (if_pos ?_), fun h => congrArg Host.Outcome.next (if_pos ?_)⟩
  · exact h.imp_right fun unready => by simp [unready]
  · exact h.imp_left fun down => by simp [down]

/-- Settles O41: each command of the bring-up is taken apart into the work of the management queue (`QueueStep`), of a lost step
(`FailStep`) and of what follows a change of a port's fitness (`SyncStep`), which say what is left unchanged. -/
theorem headBringUp : Obligations.HeadBringUp := by
  unfold Obligations.HeadBringUp
  exact ⟨hello_identifies, hello_restarts, response_authenticates, usage_taken, usage_unasked, mack_answers, mgmt_unasked,
    mgmtTimeout_resends, headSleepTimer_sleeps, headSleepTimer_wakes, headSleepTimer_idle, headParamReply_notes, linkUp_starts,
    linkDown_ends, links_unchanged⟩

end Sys2Proof.Machine
end

section
/-! ## The pages held and their stripes (R126, R129, R133): what O30 to O33 share -/
namespace Sys2Proof.Machine

/-! ### Finding a page or a stripe after an update -/

/-- What a search by key finds after the things of one key have been changed, where a change keeps the key. -/
theorem find?_map_at {α : Type} {key : α → Nat} {f : α → α} (keeps : ∀ x, key (f x) = key x) (l : List α) (q a : Nat) :
    (l.map fun x => if key x == q then f x else x).find? (fun x => key x == a) =
      (l.find? fun x => key x == a).map fun x => if a = q then f x else x := by
  have same : ((fun x => key x == a) ∘ fun x => if key x == q then f x else x) = fun x => key x == a := by
    funext x
    simp only [Function.comp]
    split <;> simp [keeps]
  rw [List.find?_map, same]
  refine Option.map_congr fun x found => ?_
  have at_ : key x = a := by simpa using List.find?_some found
  simp [at_]

theorem State.page_congr {s t : State} (h : t.pages = s.pages) (q : Nat) : t.page q = s.page q := by
  rw [State.page, State.page, h]

theorem State.pseq_of_page {s : State} {q : Nat} {p : Page} (h : s.page q = some p) : p.pseq = q := by
  simpa using List.find?_some h

theorem State.mem_of_page {s : State} {q : Nat} {p : Page} (h : s.page q = some p) : p ∈ s.pages := List.mem_of_find?_eq_some h

theorem State.page_mapPage (s : State) (q : Nat) {f : Page → Page} (keeps : ∀ p, (f p).pseq = p.pseq) {p : Page} (h : s.page q = some p) :
    (s.mapPage q f).page q = some (f p) := by
  refine (find?_map_at keeps s.pages q q).trans ?_
  change (s.page q).map _ = _
  simp [h]

theorem State.page_mapPage_ne (s : State) (q : Nat) {f : Page → Page} (keeps : ∀ p, (f p).pseq = p.pseq) {a : Nat} (other : a ≠ q) :
    (s.mapPage q f).page a = s.page a := by
  refine (find?_map_at keeps s.pages q a).trans ?_
  simp [other, State.page]

theorem Page.stripe_congr {p r : Page} (h : r.stripes = p.stripes) (i : Nat) : r.stripe i = p.stripe i := by
  rw [Page.stripe, Page.stripe, h]

theorem Page.idx_of_stripe {p : Page} {i : Nat} {x : Stripe} (h : p.stripe i = some x) : x.idx = i := by
  simpa using List.find?_some h

theorem Page.stripe_mapStripe (p : Page) (i : Nat) {f : Stripe → Stripe} (keeps : ∀ x, (f x).idx = x.idx) {x : Stripe}
    (h : p.stripe i = some x) : (p.mapStripe i f).stripe i = some (f x) := by
  refine (find?_map_at keeps p.stripes i i).trans ?_
  change (p.stripe i).map _ = _
  simp [h]

/-- The stripe, made if it is not listed, is there afterwards. -/
theorem Page.stripe_withStripe (p : Page) (i : Nat) {f : Stripe → Stripe} (keeps : ∀ x, (f x).idx = x.idx) :
    (p.withStripe i f).stripe i = some (f ((p.stripe i).getD (Stripe.fresh i))) := by
  unfold Page.withStripe
  split
  next x listed => rw [p.stripe_mapStripe i keeps listed, listed, Option.getD_some]
  next absent =>
    have made : (f (Stripe.fresh i)).idx = i := keeps _
    have missing : p.stripes.find? (fun t => t.idx == i) = none := absent
    simp [Page.stripe, missing, made]

/-- A stripe is no more than its page's list of stripes. -/
theorem Page.withStripe_eq (p : Page) (i : Nat) (f : Stripe → Stripe) :
    p.withStripe i f = { p with stripes := (p.withStripe i f).stripes } := by
  unfold Page.withStripe
  split <;> rfl

@[simp] theorem Page.withStripe_frame (p : Page) (i : Nat) (f : Stripe → Stripe) :
    (p.withStripe i f).pseq = p.pseq ∧ (p.withStripe i f).desc = p.desc ∧ (p.withStripe i f).raw = p.raw ∧
    (p.withStripe i f).total = p.total ∧ (p.withStripe i f).admitted = p.admitted ∧ (p.withStripe i f).closed = p.closed ∧
    (p.withStripe i f).scheduled = p.scheduled ∧ (p.withStripe i f).record = p.record ∧ (p.withStripe i f).deferred = p.deferred := by
  rw [p.withStripe_eq]
  exact ⟨rfl, rfl, rfl, rfl, rfl, rfl, rfl, rfl, rfl⟩

@[simp] theorem Page.settle_frame (p : Page) :
    p.settle.pseq = p.pseq ∧ p.settle.desc = p.desc ∧ p.settle.stripes = p.stripes ∧ p.settle.total = p.total ∧
    p.settle.record = p.record ∧ p.settle.closed = p.closed := by
  unfold Page.settle
  split <;> exact ⟨rfl, rfl, rfl, rfl, rfl, rfl⟩

/-- A flag of the completion record is set afterwards (Table 06-6). -/
theorem PageRecord.flag_set (r : PageRecord) (bit : Nat) : (r.flag bit).flags / 2 ^ bit % 2 = 1 := by
  unfold PageRecord.flag
  split
  next set => exact set
  next clear =>
    have pos := Nat.two_pow_pos bit
    rw [Nat.add_div_right _ pos]
    omega

/-! ### What goes on around a page whose data is at rest -/

/-- A page has been admitted or its print lines have been set, and no more. -/
def Page.Moved (p p' : Page) : Prop :=
  p' = { p with admitted := p'.admitted, admittedLine := p'.admittedLine, admittedAt := p'.admittedAt, lines := p'.lines }

theorem Page.Moved.trans {p q r : Page} (h : Page.Moved p q) (h' : Page.Moved q r) : Page.Moved p r := by
  unfold Page.Moved at *
  rw [h] at h'
  exact h'

theorem Page.Moved.frame {p p' : Page} (h : Page.Moved p p') : p'.pseq = p.pseq ∧ p'.desc = p.desc ∧ p'.stripes = p.stripes ∧
    p'.total = p.total ∧ p'.record = p.record ∧ p'.closed = p.closed := by
  rw [h]
  exact ⟨rfl, rfl, rfl, rfl, rfl, rfl⟩

theorem Page.Moved.stripe {p p' : Page} (h : Page.Moved p p') (i : Nat) : p'.stripe i = p.stripe i := by
  rw [h]
  rfl

/-- Only page `q` has moved, and what is stored, received and sent on the data port is as it was. -/
structure Tended (q : Nat) (s t : State) : Prop where
  dram : t.dram = s.dram
  ingest : t.ingest = s.ingest
  sent : t.sent = s.sent
  others : ∀ a, a ≠ q → t.page a = s.page a
  moved : ∀ p, s.page q = some p → ∃ p', t.page q = some p' ∧ Page.Moved p p'

namespace Tended
variable {q : Nat}

theorem of_pages {s t : State} (pages : t.pages = s.pages) (dram : t.dram = s.dram) (ingest : t.ingest = s.ingest)
    (sent : t.sent = s.sent) : Tended q s t :=
  ⟨dram, ingest, sent, fun a _ => State.page_congr pages a, fun p h => ⟨p, (State.page_congr pages q).trans h, rfl⟩⟩

theorem refl (s : State) : Tended q s s := of_pages rfl rfl rfl rfl

theorem trans {s t u : State} (h : Tended q s t) (h' : Tended q t u) : Tended q s u := by
  refine ⟨h'.dram.trans h.dram, h'.ingest.trans h.ingest, h'.sent.trans h.sent,
    fun a other => (h'.others a other).trans (h.others a other), fun p held => ?_⟩
  obtain ⟨p', held', moved⟩ := h.moved p held
  obtain ⟨p'', held'', moved'⟩ := h'.moved p' held'
  exact ⟨p'', held'', moved.trans moved'⟩

theorem mapPage (s : State) {f : Page → Page} (h : ∀ p, Page.Moved p (f p)) : Tended q s (s.mapPage q f) :=
  have keeps : ∀ p, (f p).pseq = p.pseq := fun p => (h p).frame.1
  ⟨rfl, rfl, rfl, fun _ => s.page_mapPage_ne q keeps, fun p held => ⟨f p, s.page_mapPage q keeps held, h p⟩⟩

theorem admitPage (s : State) : Tended q s (s.admitPage q) := by
  refine mapPage s fun p => ?_
  split <;> rfl

theorem tryAdmit (s : State) : Tended q s (s.tryAdmit q) := by
  unfold State.tryAdmit
  split
  · exact refl s
  · split
    · exact admitPage s
    · exact refl s

theorem sendStripeDigest (s : State) (i : Nat) : Tended q s (s.sendStripeDigest q i) := by
  unfold State.sendStripeDigest State.sendDigest
  split
  · exact refl s
  · split
    · exact refl s
    · exact of_pages (by simp) (by simp) (by simp) (by simp)

theorem count (s : State) (c ovf : Fld) (i : Nat) : Tended q s (s.count c ovf i) :=
  of_pages (by simp) (by simp) (by simp) (by simp)

theorem setLines (s : State) : Tended q s (s.setLines q) := by
  unfold State.setLines
  extract_lets numbered
  have lines : Tended q s numbered := mapPage s fun p => by split <;> rfl
  split
  · exact lines
  · split
    · refine lines.trans ?_
      unfold State.makeTrailer
      split <;> exact of_pages rfl rfl rfl rfl
    · exact lines

end Tended

/-! ### Decompressors -/

/-- What the decompressors do has changed, with their status registers, and no more. -/
def EngineStep (s t : State) : Prop :=
  t = { s with regs := t.regs, codec := t.codec } ∧ FieldsKept (fun f _ => Reg.dcxStat.fields.contains f) s t

namespace EngineStep

theorem refl (s : State) : EngineStep s s := ⟨rfl, .refl _ s⟩

theorem trans {s t u : State} (h : EngineStep s t) (h' : EngineStep t u) : EngineStep s u := by
  obtain ⟨hrest, hregs⟩ := h
  obtain ⟨hrest', hregs'⟩ := h'
  rw [hrest] at hrest'
  exact ⟨hrest', hregs.trans hregs'⟩

theorem foldl {α : Type} {f : State → α → State} (h : ∀ t x, EngineStep t (f t x)) (l : List α) (s : State) :
    EngineStep s (l.foldl f s) :=
  foldl_rel .refl .trans h l s

theorem frame {s t : State} (h : EngineStep s t) : t.pages = s.pages ∧ t.ingest = s.ingest ∧ t.dram = s.dram ∧ t.sent = s.sent ∧
    t.ev = s.ev ∧ t.ff = s.ff ∧ t.scr = s.scr ∧ t.force = s.force ∧ t.aborts = s.aborts := by
  rw [h.1]
  exact ⟨rfl, rfl, rfl, rfl, rfl, rfl, rfl, rfl, rfl⟩

theorem get {s t : State} (h : EngineStep s t) {f : Fld} (hf : f ∈ f.reg.fields) (other : Reg.dcxStat.fields.contains f = false) (i : Nat) :
    t.get f i = s.get f i :=
  h.2 _ f i hf other

theorem page {s t : State} (h : EngineStep s t) (q : Nat) : t.page q = s.page q := State.page_congr h.frame.1 q

theorem tended {s t : State} (h : EngineStep s t) (q : Nat) : Tended q s t := by
  obtain ⟨hpages, hingest, hdram, hsent, -⟩ := h.frame
  exact .of_pages hpages hdram hingest hsent

theorem put (s : State) {f : Fld} (hf : f ∈ Reg.dcxStat.fields) (i v : Nat) : EngineStep s (s.put f i v) :=
  ⟨rfl, .put s i v ((Reg.mem_fields hf).1 ▸ hf) (List.contains_iff_mem.mpr hf)⟩

theorem setEngine (s : State) (e : Nat) (j : Option DcxJob) : EngineStep s (s.setEngine e j) :=
  (trans (t := { s with codec := { s.codec with engines := s.codec.engines.set e j } }) ⟨rfl, .of_regs _ rfl⟩
    (put _ (f := DcxStat.state) (by decide) e _)).trans (put _ (f := DcxStat.stripe) (by decide) e _)

theorem assignVerify (l : List Nat) (s : State) : EngineStep s (Machine.assignVerify l s) := by
  induction l generalizing s with
  | nil => exact refl s
  | cons e l ih =>
    unfold Machine.assignVerify
    split
    · exact refl s
    · exact (setEngine s e _).trans (ih _)

theorem startVerify (s : State) : EngineStep s s.startVerify := assignVerify _ s

theorem stopDecodes (s : State) (q : Nat) : EngineStep s (s.stopDecodes q) := by
  unfold State.stopDecodes
  extract_lets idle stopped
  have cleared : EngineStep s stopped :=
    foldl (fun t e => (put t (f := DcxStat.state) (by decide) e 0).trans (put _ (f := DcxStat.stripe) (by decide) e 0)) idle s
  exact cleared.trans ⟨rfl, .of_regs _ rfl⟩

end EngineStep

/-- Lines that wait for the writer are left alone by what begins at the decompressors (R159, R164). -/
@[simp] theorem State.setEngine_decoded (s : State) (e : Nat) (j : Option DcxJob) :
    (s.setEngine e j).codec.decoded = s.codec.decoded := by
  simp [State.setEngine]

theorem assignVerify_decoded (l : List Nat) (s : State) : (assignVerify l s).codec.decoded = s.codec.decoded := by
  induction l generalizing s with
  | nil => rfl
  | cons e l ih =>
    unfold assignVerify
    split
    · rfl
    · rw [ih, State.setEngine_decoded]

theorem State.startVerify_decoded (s : State) : s.startVerify.codec.decoded = s.codec.decoded := assignVerify_decoded _ s

/-- An engine that there is takes its job, and its status shows it (R164). -/
theorem State.engine_setEngine (s : State) {e : Nat} (there : e < s.codec.engines.length) (j : Option DcxJob) :
    (s.setEngine e j).codec.engines.getD e none = j := by
  simp [State.setEngine, there]

end Sys2Proof.Machine
end

section
/-! ## Packets of the data port (R121 to R130, R138): O30 -/
namespace Sys2Proof.Machine

/-! ### The checks of a packet (R122) -/

theorem faongCheck_crc {k : Faong} (h : k.error = true ∨ k.cls ≠ 0x46 ∨
    (k.len = k.payload.length ∧ k.len % 4 = 0 ∧ k.len ≤ 8192 ∧ crc32c (faongHeader k ++ k.payload) ≠ k.pcrc)) : faongCheck k = .crc := by
  unfold faongCheck
  by_cases framed : k.error = true ∨ k.cls ≠ 0x46
  · rw [if_pos framed]
  · obtain ⟨hlen, hwords, hmost, hcrc⟩ := (or_assoc.mpr h).resolve_left framed
    have sized : ¬(k.len ≠ k.payload.length ∨ k.len % 4 ≠ 0 ∨ 8192 < k.len) := by omega
    rw [if_neg framed, if_neg sized, if_pos hcrc]

theorem faongCheck_proto {k : Faong} (whole : k.error = false) (cls : k.cls = 0x46) (h : k.len ≠ k.payload.length ∨ k.len % 4 ≠ 0 ∨
    8192 < k.len ∨ (crc32c (faongHeader k ++ k.payload) = k.pcrc ∧ (k.typ = 0 ∨ 4 < k.typ ∨ (k.typ = 4 ∧ (k.arg = 0 ∨ 3 < k.arg))))) :
    faongCheck k = .proto := by
  have framed : ¬(k.error = true ∨ k.cls ≠ 0x46) := by simp [whole, cls]
  unfold faongCheck
  rw [if_neg framed]
  by_cases sized : k.len ≠ k.payload.length ∨ k.len % 4 ≠ 0 ∨ 8192 < k.len
  · rw [if_pos sized]
  · obtain ⟨hcrc, htype⟩ : crc32c (faongHeader k ++ k.payload) = k.pcrc ∧ _ := by
      simpa only [or_assoc] using (show (k.len ≠ k.payload.length ∨ k.len % 4 ≠ 0 ∨ 8192 < k.len) ∨ _ by simpa only [or_assoc] using h).resolve_left sized
    have unknown : ¬(k.typ = 1 ∨ k.typ = 2 ∨ k.typ = 3 ∨ (k.typ = 4 ∧ 1 ≤ k.arg ∧ k.arg ≤ 3)) := by omega
    rw [if_neg sized, if_neg (not_not.mpr hcrc), if_neg unknown]

section
variable {s : State} {k : Faong}

theorem State.packet_of_crc (h : faongCheck k = .crc) : s.packet k = (s.count DpErr.crc DpErr.ovf 0).advance k := by
  rw [State.packet, h]
  rfl

theorem State.packet_of_proto (h : faongCheck k = .proto) : s.packet k = (s.count DpErr.proto DpErr.ovf 0).advance k := by
  rw [State.packet, h]
  rfl

/-- A control packet is acted on as it comes (Table 06-5). -/
theorem State.packet_of_control (good : faongCheck k = .good) (control : k.typ = 4) : s.packet k =
    if k.arg = 1 then (s.advance k).takeCancel k.pseq else if k.arg = 2 then (s.advance k).requestIngestAbort
    else (s.advance k).sendCredit := by
  rw [State.packet, good]
  exact if_pos control

end

/-- A packet that is only counted leaves its credits and its count. -/
theorem State.counted_packet (s : State) (k : Faong) {c : Fld} (hc : c ∈ c.reg.fields) (apart : DpErr.ovf.apart c = true)
    (quiet : c.unrecorded = true) : ∃ t, t = (s.count c DpErr.ovf 0).advance k ∧
    t = { s with regs := t.regs, ev := t.ev, ingest := { s.ingest with limit := (s.ingest.limit + packetCost k) % 2 ^ 32 } } ∧
    t.get c 0 = satAdd c.width (s.get c 0) 1 ∧ FieldsKept (only [c, DpErr.ovf]) s t := by
  have kept : FieldsKept (only [c, DpErr.ovf]) s (s.count c DpErr.ovf 0) :=
    .countBy s 0 1 hc (by decide) (by simp [only]) (by simp [only]) fun f _ recorded => by simp [only, recorded]
  refine ⟨_, rfl, ?_, (s.get_countBy 0 1 apart quiet :), kept.trans (.of_regs _ rfl)⟩
  obtain ⟨regs, ev, h⟩ := s.count_eq c DpErr.ovf 0
  rw [h]
  rfl

/-! ### One packet through the buffer (R125) -/

/-- A packet is alone in the ingest buffer. -/
def State.arrived (s : State) (k : Faong) : State := { s with ingest := { s.ingest with buffer := [k] } }

/-- It has left, and its credits have come back. -/
def State.departed (s : State) (k : Faong) : State :=
  { s with ingest := { s.ingest with buffer := [], limit := (s.ingest.limit + packetCost k) % 2 ^ 32 } }

section
variable {s t : State} {k : Faong}

theorem State.packet_of_taken (good : faongCheck k = .good) (data : k.typ ≠ 4) (empty : s.ingest.buffer = [])
    (taken : (s.arrived k).takePacket k = some (t.advance k)) : s.packet k = t.departed k := by
  have buffered : s.packet k = (s.arrived k).drainIngest := by
    rw [State.packet, good]
    refine (if_neg data).trans ?_
    rw [empty]
    rfl
  have drained : (s.arrived k).drainIngest = drainPackets [k] (s.arrived k) := rfl
  rw [buffered, drained, drainPackets, taken]
  rfl

theorem State.packet_of_desc (good : faongCheck k = .good) (desc : k.typ = 1) (empty : s.ingest.buffer = [])
    (taken : (s.arrived k).takeDesc k = some t) : s.packet k = t.departed k :=
  State.packet_of_taken good (by omega) empty (by simp [State.takePacket, desc, taken])

theorem State.packet_of_data (good : faongCheck k = .good) (data : k.typ = 2) (empty : s.ingest.buffer = [])
    (taken : (s.arrived k).takeData k = some t) : s.packet k = t.departed k :=
  State.packet_of_taken good (by omega) empty (by simp [State.takePacket, data, taken])

theorem State.packet_of_end (good : faongCheck k = .good) (end_ : k.typ = 3) (empty : s.ingest.buffer = []) :
    s.packet k = ((s.arrived k).takeEnd k).departed k :=
  State.packet_of_taken good (by omega) empty (by simp [State.takePacket, end_])

/-- A packet that nothing is done with gives its credits back, and no more. -/
theorem State.departed_arrived (empty : s.ingest.buffer = []) :
    (s.arrived k).departed k = { s with ingest := { s.ingest with limit := (s.ingest.limit + packetCost k) % 2 ^ 32 } } := by
  unfold State.departed State.arrived
  dsimp only
  rw [← empty]

end

/-! ### Descriptors (R129, R130, R134) -/

theorem mem_insertPage {p r : Page} {l : List Page} : r ∈ insertPage p l ↔ r = p ∨ r ∈ l := by
  induction l with
  | nil => simp [insertPage]
  | cons q l ih =>
    unfold insertPage
    split <;> simp only [List.mem_cons, ih]
    tauto

theorem length_insertPage (p : Page) (l : List Page) : (insertPage p l).length = l.length + 1 := by
  induction l with
  | nil => rfl
  | cons q l ih =>
    unfold insertPage
    split <;> simp [ih]

/-- A page with a PSEQ of its own is found where it has been put. -/
theorem find?_insertPage {p : Page} {l : List Page} (new : ∀ r ∈ l, r.pseq ≠ p.pseq) :
    (insertPage p l).find? (fun r => r.pseq == p.pseq) = some p := by
  induction l with
  | nil => simp [insertPage]
  | cons q l ih =>
    rw [List.forall_mem_cons] at new
    unfold insertPage
    split
    · simp
    · simpa [new.1] using ih new.2

theorem State.pgNext_setPgNext (s : State) (v : Nat) : (s.setPgNext v).pgNext = v % 2 ^ 64 :=
  s.get64_put64 (by decide) rfl rfl 0 v

/-- PG_NEXT stands in its two registers alone. -/
theorem State.pgNext_congr {s t : State} (lo : t.get PgNextLo.v 0 = s.get PgNextLo.v 0) (hi : t.get PgNextHi.v 0 = s.get PgNextHi.v 0) :
    t.pgNext = s.pgNext := by
  rw [State.pgNext, State.pgNext, State.get64, State.get64, lo, hi]

/-- What a descriptor gives a page, and what has become of the page so far. -/
def Page.header (p : Page) : (Nat × Desc × List Byte) × Bool × Bool × Bool :=
  ((p.pseq, p.desc, p.raw), p.admitted, p.closed, p.scheduled)

/-- A digest of the partner that has waited for its page is noted (R139). -/
def Page.noteDigest (p : Page) (g : Digest) : Page :=
  match g.stripe with
  | none => { p with partnerDigest := some g }
  | some i => p.withStripe i fun t => { t with partner := some g }

theorem Page.header_noteDigest (p : Page) (g : Digest) : (p.noteDigest g).header = p.header := by
  unfold Page.noteDigest
  split
  · rfl
  · simp [Page.header]

/-- The page that a descriptor begins. -/
def State.described (s : State) (k : Faong) (d : Desc) : Page :=
  (s.digestWait.filter fun g => g.pseq == k.pseq).foldl Page.noteDigest
    (Page.fresh k.pseq k.payload { d with plan := if d.flag 6 then s.lastPlan else d.plan })

theorem State.header_described (s : State) (k : Faong) (d : Desc) : (s.described k d).header =
    ((k.pseq, { d with plan := if d.flag 6 then s.lastPlan else d.plan }, k.payload), false, false, false) := by
  refine (foldl_keeps Page.header Page.header_noteDigest _ _).trans ?_
  rfl

/-- The page stands in the sequence, and its stripes are awaited. -/
def State.inSequence (s : State) (k : Faong) (d : Desc) : State :=
  { s with
    pages := insertPage (s.described k d) s.pages, lastPlan := if d.flag 6 then s.lastPlan else d.plan
    digestWait := s.digestWait.filter fun g => g.pseq != k.pseq
    ingest := { s.ingest with receiving := some (k.pseq, 0, 0) } }

/-- PG_NEXT is behind it, and its digest goes to the partner. -/
def State.entered (s : State) (k : Faong) (d : Desc) : State :=
  ((s.inSequence k d).setPgNext (k.pseq + 1)).sendDigest k.pseq none 320 (crc32c k.payload) false

theorem State.enterPage_eq (s : State) (k : Faong) (d : Desc) :
    s.enterPage k d = if d.stream then (s.entered k d).admitPage k.pseq else s.entered k d := rfl

theorem State.entered_frame (s : State) (k : Faong) (d : Desc) : (s.entered k d).pages = insertPage (s.described k d) s.pages ∧
    (s.entered k d).ingest = { s.ingest with receiving := some (k.pseq, 0, 0) } ∧ (s.entered k d).dram = s.dram ∧
    (s.entered k d).pins = s.pins ∧ (s.entered k d).pgNext = (k.pseq + 1) % 2 ^ 64 := by
  have next : (s.entered k d).pgNext = (k.pseq + 1) % 2 ^ 64 := by
    refine (State.pgNext_congr ?_ ?_).trans ((s.inSequence k d).pgNext_setPgNext (k.pseq + 1)) <;> simp [State.entered, State.sendDigest]
  refine ⟨?_, ?_, ?_, ?_, next⟩ <;> simp [State.entered, State.sendDigest, State.setPgNext, State.inSequence]

/-- What R129 says of a descriptor that passes. -/
theorem State.enterPage_facts (s : State) (k : Faong) (d : Desc) (new : ∀ r ∈ s.pages, r.pseq ≠ k.pseq) :
    (s.enterPage k d).pages.length = s.pages.length + 1 ∧ (∀ r ∈ s.pages, r ∈ (s.enterPage k d).pages) ∧
    ((s.enterPage k d).ingest = { s.ingest with receiving := some (k.pseq, 0, 0) } ∧ (s.enterPage k d).dram = s.dram ∧
      (s.enterPage k d).pins = s.pins ∧ (s.enterPage k d).pgNext = (k.pseq + 1) % 2 ^ 64) ∧
    ∃ p, (s.enterPage k d).page k.pseq = some p ∧ p.raw = k.payload ∧ p.closed = false ∧ p.scheduled = false ∧ p.admitted = d.stream ∧
      p.desc = { d with plan := if d.flag 6 then s.lastPlan else d.plan } := by
  have header := s.header_described k d
  simp only [Page.header, Prod.mk.injEq] at header
  obtain ⟨⟨hpseq, hdesc, hraw⟩, hadmitted, hclosed, hscheduled⟩ := header
  obtain ⟨hpages, hingest, hdram, hpins, hnext⟩ := s.entered_frame k d
  have found : (s.entered k d).page k.pseq = some (s.described k d) := by
    have at_ := find?_insertPage (p := s.described k d) (l := s.pages) (by rwa [hpseq])
    rw [hpseq] at at_
    rw [State.page, hpages]
    exact at_
  rw [s.enterPage_eq]
  split
  next stream =>
    have kept : ∀ r ∈ s.pages, r ∈ ((s.entered k d).admitPage k.pseq).pages := fun r held =>
      List.mem_map.mpr ⟨r, by rw [hpages]; exact mem_insertPage.mpr (.inr held), if_neg (by simpa using new r held)⟩
    have admitted := (s.entered k d).page_mapPage k.pseq (f := fun p =>
      if p.admitted ∨ p.closed then p
      else { p with admitted := true, admittedLine := (s.entered k d).writerReach, admittedAt := (s.entered k d).now })
      (fun p => by split <;> rfl) found
    rw [if_neg (by simp [hadmitted, hclosed])] at admitted
    refine ⟨?_, kept, ⟨hingest, hdram, hpins, hnext⟩, _, admitted, hraw, hclosed, hscheduled, stream.symm, hdesc⟩
    rw [← length_insertPage (s.described k d) s.pages, ← hpages]
    exact List.length_map _
  next verify =>
    refine ⟨by rw [hpages, length_insertPage], fun r held => by rw [hpages]; exact mem_insertPage.mpr (.inr held),
      ⟨hingest, hdram, hpins, hnext⟩, _, found, hraw, hclosed, hscheduled, ?_, hdesc⟩
    rw [hadmitted]
    simpa using verify

/-- What R130 says of a descriptor that is refused. -/
theorem State.refusePage_facts (s : State) (k : Faong) (d : Desc) (reason : Nat) (new : ∀ r ∈ s.pages, r.pseq ≠ k.pseq) :
    (∀ r ∈ s.pages, r ∈ (s.refusePage k d reason).pages) ∧
    ((s.refusePage k d reason).ingest = { s.ingest with receiving := none, skipPage := some k.pseq } ∧
      (s.refusePage k d reason).dram = s.dram ∧ (s.refusePage k d reason).pins = s.pins ∧
      (s.refusePage k d reason).pgNext = (k.pseq + 1) % 2 ^ 64) ∧
    (s.ingest.up = true → (s.refusePage k d reason).sent = .dp 4 [k.pseq, 0x83, reason] :: s.sent) ∧
    (s.refusePage k d reason).page k.pseq = some ((Page.fresh k.pseq k.payload d).close 2 reason) := by
  have found := find?_insertPage (p := (Page.fresh k.pseq k.payload d).close 2 reason) (l := s.pages) new
  unfold State.refusePage
  extract_lets p ingest closed
  have next : (closed.setPgNext (k.pseq + 1)).pgNext = (k.pseq + 1) % 2 ^ 64 := closed.pgNext_setPgNext _
  have kept : ∀ r ∈ s.pages, r ∈ closed.pages := fun r held => mem_insertPage.mpr (.inr held)
  unfold State.sendControl
  split
  · exact ⟨kept, ⟨rfl, rfl, rfl, next⟩, fun _ => rfl, found⟩
  next down => exact ⟨kept, ⟨rfl, rfl, rfl, next⟩, fun up => absurd up down, found⟩

/-- A descriptor that comes in its turn is refused for its place, taken or refused. -/
theorem State.takeDesc_of_next {s : State} {k : Faong} (steady : s.ingest.rewind = none) (awaited : s.ingest.waitNext = false)
    (idle : s.ingest.receiving = none) (set : s.ingest.nextSet = true) (room : s.pages.length < 512)
    (new : ∀ r ∈ s.pages, r.pseq ≠ k.pseq) : s.takeDesc k = some (
      if s.refuseReason false k (descOf k.payload) = 1 then
        ({ s with ingest := { s.ingest with waitNext := true } } : State).sendControl k.pseq 0x83 1
      else if s.refuseReason false k (descOf k.payload) = 0 then s.enterPage k (descOf k.payload)
      else s.refusePage k (descOf k.payload) (s.refuseReason false k (descOf k.payload))) := by
  have unsent : s.pages.find? (fun p => p.pseq == k.pseq && p.refetch.isSome && !p.closed) = none := by
    refine List.find?_eq_none.mpr fun r held => ?_
    simp [new r held]
  have same : ({ s with ingest := { s.ingest with waitNext := false } } : State) = s := by rw [← awaited]
  have full : ¬512 ≤ s.pages.length := by omega
  have settled : ¬s.ingest.rewind.isSome = true := by simp [steady]
  have inPlace : ¬(s.ingest.waitNext = true ∧ k.pseq ≠ s.pgNext) := by simp [awaited]
  have second : (!s.ingest.nextSet && s.role != roleStandby) = false := by simp [set]
  unfold State.takeDesc
  rw [if_neg settled, if_neg inPlace, idle]
  dsimp only
  rw [unsent]
  dsimp only
  rw [second, if_neg Bool.false_ne_true, if_neg full]
  split
  · rfl
  · split <;> rw [same]

/-! ### Rewinds (R127) -/

theorem State.rewind_ingest (s : State) (q i : Nat) :
    (s.rewind q i).ingest = { s.ingest with rewind := some (q, i), receiving := some (q, i, 0) } := by
  unfold State.rewind State.sendControl State.countRewind
  dsimp only
  split <;> simp

/-- While the port is UP the request is sent, and counted. -/
theorem State.rewind_of_up {s : State} (up : s.ingest.up = true) (q i : Nat) : (s.rewind q i).sent = .dp 4 [q, 0x81, i] :: s.sent ∧
    (s.rewind q i).get DpErr.rewind 0 = satAdd 8 (s.get DpErr.rewind 0) 1 := by
  unfold State.rewind
  extract_lets dropped ingest asked
  have counts : asked.ingest.up = true := up
  rw [if_pos counts]
  have sent : asked.sendControl q 0x81 i = asked.send (.dp 4 [q, 0x81, i]) := if_pos counts
  rw [sent]
  exact ⟨by simp [State.countRewind]; rfl, State.get_countBy _ 0 1 (by decide) (by decide)⟩

theorem State.rewind_of_down {s : State} (down : s.ingest.up = false) (q i : Nat) : (s.rewind q i).sent = s.sent := by
  unfold State.rewind
  dsimp only
  rw [if_neg (by simp [down])]
  rfl

/-! ### Chunks (R126) -/

theorem State.takeData_in_order {s : State} {k : Faong} {q j c : Nat} (steady : s.ingest.rewind = none)
    (here : s.ingest.receiving = some (q, j, c)) (page : k.pseq = q) (small : j < 65536) (arg : k.arg = j + 65536 * c) :
    s.takeData k = s.storeChunk q j c k := by
  have stripe : k.arg % 65536 = j := by omega
  have chunk : k.arg / 65536 = c := by omega
  unfold State.takeData
  dsimp only
  rw [steady, here, page, stripe, chunk]
  exact if_pos ⟨rfl, rfl, rfl⟩

theorem State.takeData_out_of_order {s : State} {k : Faong} {q j c : Nat} (steady : s.ingest.rewind = none)
    (here : s.ingest.receiving = some (q, j, c)) (stray : k.pseq ≠ q ∨ k.arg % 65536 ≠ j ∨ k.arg / 65536 ≠ c) :
    s.takeData k = some (s.rewind q j) := by
  unfold State.takeData
  dsimp only
  rw [steady, here]
  exact if_neg (by tauto)

theorem State.takeEnd_out_of_order {s : State} {k : Faong} {q j c : Nat} (steady : s.ingest.rewind = none)
    (here : s.ingest.receiving = some (q, j, c)) (stray : k.pseq ≠ q ∨ k.arg ≠ j) : s.takeEnd k = s.rewind q j := by
  unfold State.takeEnd
  rw [steady, here]
  exact (if_neg (by simp)).trans (if_neg (by tauto))

/-- The chunks of the stripe held before this one. -/
def Page.heldChunks (p : Page) (i ch : Nat) : List Byte :=
  match p.stripe i with
  | some t => if t.stored ∨ ch = 0 then [] else t.data
  | none => []

theorem Page.heldChunks_zero (p : Page) (i : Nat) : p.heldChunks i 0 = [] := by
  unfold Page.heldChunks
  split <;> simp

theorem Page.heldChunks_of_part {p : Page} {i ch : Nat} {x : Stripe} (listed : p.stripe i = some x) (part : x.stored = false)
    (later : ch ≠ 0) : p.heldChunks i ch = x.data := by
  simp [Page.heldChunks, listed, part, later]

/-- A stripe with one more chunk. -/
def Stripe.chunked (data : List Byte) (t : Stripe) : Stripe := { t with data := data, stored := false, verified := false }

/-- The next chunk of the stripe is awaited. -/
def State.chunkTaken (s : State) (q i ch : Nat) : State :=
  { s with ingest := { s.ingest with receiving := some (q, i, ch + 1), rewind := none } }

theorem State.storeChunk_of_fit {s : State} {q i ch : Nat} {k : Faong} {p : Page} (held : s.page q = some p)
    (wanted : p.dropsStripe i = false) (fits : (p.heldChunks i ch).length = 8192 * ch) (room : s.freeBlocks ≠ 0) :
    s.storeChunk q i ch k = some ((s.chunkTaken q i ch).mapPage q fun r =>
      r.withStripe i (Stripe.chunked (p.heldChunks i ch ++ k.payload))) := by
  have wanted : ¬p.dropsStripe i = true := by simp [wanted]
  have free : ¬(ch % 8 = 0 ∧ s.freeBlocks = 0) := fun full => room full.2
  unfold State.storeChunk
  rw [held]
  dsimp only
  rw [if_neg wanted]
  exact (if_neg (not_not.mpr fits)).trans (if_neg free)

/-! ### The end of a stripe (R126, R134, R138) -/

theorem State.nextStripe_frame (s : State) (q i : Nat) : (s.nextStripe q i).pages = s.pages ∧ (s.nextStripe q i).dram = s.dram := by
  unfold State.nextStripe
  dsimp only
  split <;> split <;> exact ⟨rfl, rfl⟩

theorem State.nextStripe_receiving {s : State} {q i : Nat} {p : Page} (held : s.page q = some p) (more : p.total ≠ some (i + 1)) :
    (s.nextStripe q i).ingest.receiving = some (q, i + 1, 0) := by
  unfold State.nextStripe
  rw [held]
  dsimp only
  rw [if_neg (by simp [more])]

/-- An end that says so ends a page of open length (R126). -/
def Page.lengthTaken (p : Page) (k : Faong) (i : Nat) : Page :=
  if p.desc.length = 0 ∧ k.flags % 2 = 1 then { p with total := some (i + 1) } else p

theorem Page.lengthTaken_frame (p : Page) (k : Faong) (i : Nat) : (p.lengthTaken k i).pseq = p.pseq ∧
    (p.lengthTaken k i).desc = p.desc ∧ (p.lengthTaken k i).stripes = p.stripes ∧
    (p.desc.length ≠ 0 → (p.lengthTaken k i).total = p.total) := by
  unfold Page.lengthTaken
  split
  next ends => exact ⟨rfl, rfl, rfl, fun closed => absurd ends.1 closed⟩
  next => exact ⟨rfl, rfl, rfl, fun _ => rfl⟩

/-- A stripe with what its STRIPE_END says of it. -/
def Stripe.ended (k : Faong) (data : List Byte) (t : Stripe) : Stripe :=
  { t with data := data.take (leField k.payload 0 4), clen := leField k.payload 0 4, lines := leField k.payload 4 2, stored := true
           verified := false, lost := false }

/-- A page whose stripe has ended. -/
def Page.stripeEnded (p : Page) (k : Faong) (i : Nat) (data : List Byte) : Page :=
  ((p.withStripe i (Stripe.ended k data)).lengthTaken k i).settle

theorem Page.stripeEnded_frame (p : Page) (k : Faong) (i : Nat) (data : List Byte) : (p.stripeEnded k i data).pseq = p.pseq ∧
    (p.stripeEnded k i data).stripe i = some (Stripe.ended k data ((p.stripe i).getD (Stripe.fresh i))) ∧
    (p.desc.length ≠ 0 → (p.stripeEnded k i data).total = p.total) := by
  have base := (p.withStripe i (Stripe.ended k data)).lengthTaken_frame k i
  obtain ⟨hpseq, -, hstripes, htotal⟩ := base
  refine ⟨?_, ?_, fun closed => ?_⟩
  · simp [Page.stripeEnded, hpseq]
  · rw [← p.stripe_withStripe i (f := Stripe.ended k data) fun _ => rfl]
    exact Page.stripe_congr (by simp [Page.stripeEnded, hstripes]) i
  · simpa [Page.stripeEnded, closed] using htotal

/-- A STRIPE_END that fits stores its stripe; what follows looks after the page, and the next stripe is awaited. -/
theorem State.endStripe_of_fit {s : State} {q i : Nat} {k : Faong} {p : Page} {x : Stripe} (held : s.page q = some p)
    (wanted : p.dropsStripe i = false) (listed : p.stripe i = some x) (size : k.payload.length = 8) (some_ : 1 ≤ leField k.payload 4 2)
    (most : leField k.payload 4 2 ≤ 256) (zero : leField k.payload 6 2 = 0)
    (length : x.data.length = (leField k.payload 0 4 + 3) / 4 * 4) :
    ∃ t, Tended q (s.mapPage q fun r => r.stripeEnded k i x.data) t ∧ s.endStripe q i k = t.nextStripe q i := by
  have wanted : ¬p.dropsStripe i = true := by simp [wanted]
  have fits : ¬(k.payload.length ≠ 8 ∨ leField k.payload 4 2 < 1 ∨ 256 < leField k.payload 4 2 ∨ leField k.payload 6 2 ≠ 0 ∨
      x.data.length ≠ (leField k.payload 0 4 + 3) / 4 * 4) := by omega
  unfold State.endStripe
  extract_lets clen lines open_
  rw [held]
  dsimp only
  rw [if_neg wanted, listed]
  refine ⟨_, ?_, if_neg fits⟩
  refine ((Tended.setLines _).trans (.sendStripeDigest _ i)).trans (.trans ?_ (.tryAdmit _))
  split
  · exact .count _ _ _ _
  · exact .refl _

/-! ### Credits (R124) -/

/-- The limit with what is owed. -/
def State.creditLimit (s : State) : Nat := (s.ingest.limit + s.ingest.oweCredit) % 2 ^ 32

theorem State.sendCredit_of_up {s : State} (up : s.ingest.up = true) : s.sendCredit =
    { s with
      ingest := { s.ingest with limit := s.creditLimit, oweCredit := 0, sentLimit := s.creditLimit }
      sent := .dp 0x10 [if s.ingest.nextSet then 1 else 0, if s.ingest.nextSet then s.pgNext else 0, s.creditLimit] :: s.sent } :=
  if_pos up

end Sys2Proof.Machine
end

section
/-! ## The commands of the data port (R121 to R130): O30 -/
namespace Sys2Proof.Machine

theorem next_congr {s t : State} (h : s = t) : (.next s : Ans) = .next t := congrArg _ h

/-! ### Packets that are only counted -/

theorem faongPackets_crc (k : Faong) (s : State) (h : k.error = true ∨ k.cls ≠ 0x46 ∨
    (k.len = k.payload.length ∧ k.len % 4 = 0 ∧ k.len ≤ 8192 ∧ crc32c (faongHeader k ++ k.payload) ≠ k.pcrc)) :
    ∃ t, exec (.pageDesc k) s = .next t ∧ exec (.stripeData k) s = .next t ∧ exec (.cancel k) s = .next t ∧
      exec (.abortIngest k) s = .next t ∧ exec (.sync k) s = .next t ∧ exec (.stripeEnd k) s = .next t.startVerify ∧
      t = { s with regs := t.regs, ev := t.ev, ingest := { s.ingest with limit := (s.ingest.limit + packetCost k) % 2 ^ 32 } } ∧
      t.get DpErr.crc 0 = satAdd 16 (s.get DpErr.crc 0) 1 ∧ FieldsKept (only [DpErr.crc, DpErr.ovf]) s t := by
  obtain ⟨t, taken, rest, count, kept⟩ := s.counted_packet k (c := DpErr.crc) (by decide) (by decide) (by decide)
  have run : s.packet k = t := (State.packet_of_crc (faongCheck_crc h)).trans taken.symm
  have next := next_congr run
  exact ⟨t, next, next, next, next, next, next_congr (congrArg State.startVerify run), rest, count, kept⟩

theorem faongPackets_proto (k : Faong) (s : State) (whole : k.error = false) (cls : k.cls = 0x46)
    (h : k.len ≠ k.payload.length ∨ k.len % 4 ≠ 0 ∨ 8192 < k.len ∨
      (crc32c (faongHeader k ++ k.payload) = k.pcrc ∧ (k.typ = 0 ∨ 4 < k.typ ∨ (k.typ = 4 ∧ (k.arg = 0 ∨ 3 < k.arg))))) :
    ∃ t, exec (.pageDesc k) s = .next t ∧ exec (.stripeData k) s = .next t ∧ exec (.cancel k) s = .next t ∧
      exec (.abortIngest k) s = .next t ∧ exec (.sync k) s = .next t ∧
      t = { s with regs := t.regs, ev := t.ev, ingest := { s.ingest with limit := (s.ingest.limit + packetCost k) % 2 ^ 32 } } ∧
      t.get DpErr.proto 0 = satAdd 7 (s.get DpErr.proto 0) 1 ∧ FieldsKept (only [DpErr.proto, DpErr.ovf]) s t := by
  obtain ⟨t, taken, rest, count, kept⟩ := s.counted_packet k (c := DpErr.proto) (by decide) (by decide) (by decide)
  have run : s.packet k = t := (State.packet_of_proto (faongCheck_proto whole cls h)).trans taken.symm
  have next := next_congr run
  exact ⟨t, next, next, next, next, next, rest, count, kept⟩

/-! ### Descriptors -/

theorem pageDesc_taken (k : Faong) (s : State) (good : faongCheck k = .good) (desc : k.typ = 1) (empty : s.ingest.buffer = [])
    (steady : s.ingest.rewind = none) (awaited : s.ingest.waitNext = false) (idle : s.ingest.receiving = none)
    (set : s.ingest.nextSet = true) (room : s.pages.length < 512) (new : ∀ p ∈ s.pages, p.pseq ≠ k.pseq) :
    ∃ t, exec (.pageDesc k) s = .next t ∧ t.ingest.buffer = [] ∧ t.dram = s.dram ∧ t.pins = s.pins ∧
      (∀ p ∈ s.pages, p ∈ t.pages) ∧
      (s.refuseReason false k (descOf k.payload) = 0 → t.pgNext = (k.pseq + 1) % 2 ^ 64 ∧ t.ingest.receiving = some (k.pseq, 0, 0) ∧
        t.pages.length = s.pages.length + 1 ∧ ∃ p, t.page k.pseq = some p ∧ p.raw = k.payload ∧ p.closed = false ∧ p.scheduled = false ∧
          p.admitted = (descOf k.payload).stream ∧
          p.desc = { descOf k.payload with plan := if (descOf k.payload).flag 6 then s.lastPlan else (descOf k.payload).plan }) ∧
      (1 < s.refuseReason false k (descOf k.payload) → t.pgNext = (k.pseq + 1) % 2 ^ 64 ∧ t.ingest.receiving = none ∧
        (s.ingest.up = true → t.sent = .dp 4 [k.pseq, 0x83, s.refuseReason false k (descOf k.payload)] :: s.sent) ∧
        ∃ p, t.page k.pseq = some p ∧ p.closed = true ∧ p.record.status = 2 ∧
          p.record.reason = s.refuseReason false k (descOf k.payload)) ∧
      (s.refuseReason false k (descOf k.payload) = 1 → t.pages = s.pages ∧ t.ingest.waitNext = true ∧ t.regs = s.regs) := by
  have run := next_congr (State.packet_of_desc good desc empty
    (State.takeDesc_of_next (s := s.arrived k) steady awaited idle set room new))
  have reason : (s.arrived k).refuseReason false k (descOf k.payload) = s.refuseReason false k (descOf k.payload) := rfl
  rw [reason] at run
  refine ⟨_, run, rfl, ?_⟩
  obtain wrong | passed | refused : s.refuseReason false k (descOf k.payload) = 1 ∨ s.refuseReason false k (descOf k.payload) = 0 ∨
      1 < s.refuseReason false k (descOf k.payload) := by omega
  · rw [if_pos wrong]
    unfold State.sendControl
    split <;> exact ⟨rfl, rfl, fun p held => held, fun h => by omega, fun h => by omega, fun _ => ⟨rfl, rfl, rfl⟩⟩
  · obtain ⟨hlength, hkept, ⟨hingest, hdram, hpins, hnext⟩, p, hpage⟩ := (s.arrived k).enterPage_facts k (descOf k.payload) new
    rw [if_neg (by omega), if_pos passed]
    exact ⟨hdram, hpins, hkept, fun _ => ⟨hnext, congrArg IngestSt.receiving hingest, hlength, p, hpage⟩, fun h => by omega,
      fun h => by omega⟩
  · obtain ⟨hkept, ⟨hingest, hdram, hpins, hnext⟩, hsent, hpage⟩ := (s.arrived k).refusePage_facts k (descOf k.payload)
      (s.refuseReason false k (descOf k.payload)) new
    rw [if_neg (by omega), if_neg (by omega)]
    exact ⟨hdram, hpins, hkept, fun h => by omega,
      fun _ => ⟨hnext, congrArg IngestSt.receiving hingest, hsent, _, hpage, rfl, rfl, rfl⟩, fun h => by omega⟩

/-! ### Chunks -/

theorem stripeData_in_order (k : Faong) (q j c : Nat) (p : Page) (s : State) (good : faongCheck k = .good) (data : k.typ = 2)
    (empty : s.ingest.buffer = []) (steady : s.ingest.rewind = none) (here : s.ingest.receiving = some (q, j, c))
    (held : s.page q = some p) (page : k.pseq = q) (small : j < 65536) (arg : k.arg = j + 65536 * c) (wanted : p.dropsStripe j = false)
    (part : c = 0 ∨ ∃ x, p.stripe j = some x ∧ x.data.length = 8192 * c ∧ x.stored = false) (room : s.freeBlocks ≠ 0) :
    ∃ t p' x', exec (.stripeData k) s = .next t ∧ t.ingest.receiving = some (q, j, c + 1) ∧ t.page q = some p' ∧ p'.stripe j = some x' ∧
      x'.stored = false ∧ (c = 0 → x'.data = k.payload) ∧ (∀ x, c ≠ 0 → p.stripe j = some x → x'.data = x.data ++ k.payload) ∧
      t = { s with pages := t.pages, ingest := t.ingest } ∧ ∀ a, a ≠ q → t.page a = s.page a := by
  have fits : (p.heldChunks j c).length = 8192 * c := by
    rcases part with rfl | ⟨x, listed, length, unstored⟩
    · rw [p.heldChunks_zero]
      rfl
    · by_cases first : c = 0
      · subst first
        rw [p.heldChunks_zero]
        rfl
      · rw [Page.heldChunks_of_part listed unstored first, length]
  have taken := (State.takeData_in_order (s := s.arrived k) steady here page small arg).trans
    (State.storeChunk_of_fit (s := s.arrived k) held wanted fits room)
  have keeps (r : Page) : (r.withStripe j (Stripe.chunked (p.heldChunks j c ++ k.payload))).pseq = r.pseq := (r.withStripe_frame j _).1
  refine ⟨_, _, _, next_congr (State.packet_of_data good data empty taken), rfl,
    ((s.arrived k).chunkTaken q j c).page_mapPage q keeps held, p.stripe_withStripe j fun _ => rfl, rfl, ?_, ?_, rfl,
    fun a other => ((s.arrived k).chunkTaken q j c).page_mapPage_ne q keeps other⟩
  · rintro rfl
    exact congrArg (· ++ k.payload) (p.heldChunks_zero j)
  · intro x later listed
    rcases part with first | ⟨y, listed', -, unstored⟩
    · exact absurd first later
    · obtain rfl : x = y := Option.some.inj (listed.symm.trans listed')
      exact congrArg (· ++ k.payload) (Page.heldChunks_of_part listed unstored later)

/-- A rewind that a packet has made, after the packet has left. -/
theorem State.departed_rewind {s : State} (up : s.ingest.up = true) (k : Faong) (q j : Nat) :
    (((s.arrived k).rewind q j).departed k).ingest.rewind = some (q, j) ∧
    (((s.arrived k).rewind q j).departed k).sent = .dp 4 [q, 0x81, j] :: s.sent ∧
    (((s.arrived k).rewind q j).departed k).get DpErr.rewind 0 = satAdd 8 (s.get DpErr.rewind 0) 1 :=
  have asked := State.rewind_of_up (s := s.arrived k) up q j
  ⟨congrArg IngestSt.rewind ((s.arrived k).rewind_ingest q j), asked.1, asked.2⟩

theorem stripe_out_of_order (k : Faong) (q j c : Nat) (s : State) (good : faongCheck k = .good) (empty : s.ingest.buffer = [])
    (steady : s.ingest.rewind = none) (here : s.ingest.receiving = some (q, j, c)) (up : s.ingest.up = true) :
    (k.typ = 2 → (k.pseq ≠ q ∨ k.arg % 65536 ≠ j ∨ k.arg / 65536 ≠ c) → ∃ t, exec (.stripeData k) s = .next t ∧
      t.ingest.rewind = some (q, j) ∧ t.sent = .dp 4 [q, 0x81, j] :: s.sent ∧
      t.get DpErr.rewind 0 = satAdd 8 (s.get DpErr.rewind 0) 1) ∧
    (k.typ = 3 → (k.pseq ≠ q ∨ k.arg ≠ j) → ∃ t, exec (.stripeEnd k) s = .next t ∧ t.ingest.rewind = some (q, j) ∧
      t.sent = .dp 4 [q, 0x81, j] :: s.sent ∧ t.get DpErr.rewind 0 = satAdd 8 (s.get DpErr.rewind 0) 1) := by
  obtain ⟨hrewind, hsent, hcount⟩ := State.departed_rewind up k q j
  refine ⟨fun data stray => ?_, fun end_ stray => ?_⟩
  · have taken := State.takeData_out_of_order (s := s.arrived k) steady here stray
    exact ⟨_, next_congr (State.packet_of_data good data empty taken), hrewind, hsent, hcount⟩
  · have taken := State.takeEnd_out_of_order (s := s.arrived k) steady here stray
    have run := State.packet_of_end good end_ empty
    rw [taken] at run
    have verify := EngineStep.startVerify (((s.arrived k).rewind q j).departed k)
    obtain ⟨-, hingest, -, sent, -⟩ := verify.frame
    exact ⟨_, next_congr (congrArg State.startVerify run), (congrArg IngestSt.rewind hingest).trans hrewind,
      sent.trans hsent, (verify.get (f := DpErr.rewind) (by decide) (by decide) 0).trans hcount⟩

/-- Behind a pending REWIND only the packet that answers it is taken (R127). -/
theorem packet_behind_rewind (k : Faong) (q j : Nat) (s : State) (good : faongCheck k = .good) (empty : s.ingest.buffer = [])
    (pending : s.ingest.rewind = some (q, j)) (h : k.typ = 1 ∨ (k.typ = 2 ∧ (k.pseq ≠ q ∨ k.arg ≠ j))) :
    exec (if k.typ = 1 then .pageDesc k else .stripeData k) s =
      .next { s with ingest := { s.ingest with limit := (s.ingest.limit + packetCost k) % 2 ^ 32 } } := by
  have waits : (s.arrived k).ingest.rewind = some (q, j) := pending
  rw [← State.departed_arrived (k := k) empty]
  rcases h with desc | ⟨data, stray⟩
  · have taken : (s.arrived k).takeDesc k = some (s.arrived k) := if_pos (by simp [waits])
    rw [if_pos desc]
    exact next_congr (State.packet_of_desc good desc empty taken)
  · have other : ¬(k.pseq = q ∧ k.arg % 65536 = j ∧ k.arg / 65536 = 0) := by omega
    have taken : (s.arrived k).takeData k = some (s.arrived k) := by
      unfold State.takeData
      dsimp only
      rw [waits]
      exact if_neg other
    rw [if_neg (by omega)]
    exact next_congr (State.packet_of_data good data empty taken)

/-! ### The end of a stripe -/

theorem stripeEnd_stores (k : Faong) (q j c : Nat) (p : Page) (x : Stripe) (s : State) (good : faongCheck k = .good) (end_ : k.typ = 3)
    (empty : s.ingest.buffer = []) (steady : s.ingest.rewind = none) (here : s.ingest.receiving = some (q, j, c)) (page : k.pseq = q)
    (arg : k.arg = j) (held : s.page q = some p) (wanted : p.dropsStripe j = false) (listed : p.stripe j = some x)
    (size : k.payload.length = 8) (least : 1 ≤ leField k.payload 4 2) (most : leField k.payload 4 2 ≤ 256)
    (zero : leField k.payload 6 2 = 0) (length : x.data.length = (leField k.payload 0 4 + 3) / 4 * 4) :
    ∃ t p' x', exec (.stripeEnd k) s = .next t ∧ t.page q = some p' ∧
      p'.stripe j = some x' ∧ x'.stored = true ∧ x'.lost = false ∧ x'.data = x.data.take (leField k.payload 0 4) ∧
      x'.clen = leField k.payload 0 4 ∧ x'.lines = leField k.payload 4 2 ∧
      (p.desc.length ≠ 0 → p.total ≠ some (j + 1) → t.ingest.receiving = some (q, j + 1, 0)) ∧ t.dram = s.dram := by
  obtain ⟨u, tended, ended⟩ := State.endStripe_of_fit (s := s.arrived k) held wanted listed size least most zero length
  obtain ⟨-, hstripe, htotal⟩ := p.stripeEnded_frame k j x.data
  obtain ⟨p', held', moved⟩ := tended.moved _ ((s.arrived k).page_mapPage q (fun r => (r.stripeEnded_frame k j x.data).1) held)
  obtain ⟨-, -, -, htotal', -⟩ := moved.frame
  obtain ⟨hpages, hdram⟩ := u.nextStripe_frame q j
  have taken : (s.arrived k).takeEnd k = u.nextStripe q j := by
    have steady : ¬(s.arrived k).ingest.rewind.isSome = true := by
      change ¬s.ingest.rewind.isSome = true
      simp [steady]
    have here : (s.arrived k).ingest.receiving = some (q, j, c) := here
    unfold State.takeEnd
    rw [if_neg steady, here]
    exact (if_pos ⟨page, arg⟩).trans ended
  have run := State.packet_of_end good end_ empty
  rw [taken] at run
  have verify := EngineStep.startVerify ((u.nextStripe q j).departed k)
  obtain ⟨-, hingest, hstore, -⟩ := verify.frame
  rw [listed, Option.getD_some] at hstripe
  refine ⟨_, p', _, next_congr (congrArg State.startVerify run),
    (verify.page q).trans ((State.page_congr hpages q).trans held'), (moved.stripe j).trans hstripe, rfl, rfl, rfl, rfl, rfl,
    fun closed more => ?_, hstore.trans (hdram.trans tended.dram)⟩
  have receiving := State.nextStripe_receiving held' (i := j) (by rw [htotal', htotal closed]; exact more)
  exact (congrArg IngestSt.receiving hingest).trans receiving

/-! ### CREDIT, SYNC and the link -/

theorem credit_sent (k : Faong) (s : State) (up : s.ingest.up = true) :
    (∃ t, exec .credit s = .next t ∧ t.ingest.sentLimit = (s.ingest.limit + s.ingest.oweCredit) % 2 ^ 32 ∧
      t.ingest.limit = t.ingest.sentLimit ∧ t.ingest.oweCredit = 0 ∧ t = { s with ingest := t.ingest, sent := t.sent } ∧
      t.sent = .dp 0x10 [if s.ingest.nextSet then 1 else 0, if s.ingest.nextSet then s.pgNext else 0, t.ingest.limit] :: s.sent) ∧
    (faongCheck k = .good → k.typ = 4 → k.arg = 3 → exec (.sync k) s =
      exec .credit { s with ingest := { s.ingest with limit := (s.ingest.limit + packetCost k) % 2 ^ 32 } }) := by
  refine ⟨⟨_, next_congr (State.sendCredit_of_up up), rfl, rfl, rfl, rfl, rfl⟩, fun good control arg => ?_⟩
  have run := State.packet_of_control (s := s) good control
  rw [if_neg (by omega), if_neg (by omega)] at run
  exact next_congr run

/-- The port has come UP: the limit is 2,048, nothing is owed, and a CREDIT says so (R124). -/
def State.portOpened (s : State) : State :=
  { s with
    ingest := { s.ingest with up := true, limit := 2048, sentLimit := 2048, oweCredit := 0 }
    sent := .dp 0x10 [if s.ingest.nextSet then 1 else 0, if s.ingest.nextSet then s.pgNext else 0, 2048] :: s.sent }

theorem State.dataUp_eq (s : State) : s.dataUp = match s.ingest.rewind with
    | some (q, i) => (s.portOpened.sendControl q 0x81 i).countRewind
    | none => s.portOpened := rfl

theorem State.dataUp_settled {s : State} (settled : s.ingest.rewind = none) : s.dataUp = s.portOpened := by
  rw [s.dataUp_eq, settled]

theorem State.dataUp_pending {s : State} {q i : Nat} (pending : s.ingest.rewind = some (q, i)) :
    s.dataUp = (s.portOpened.send (.dp 4 [q, 0x81, i])).countRewind := by
  rw [s.dataUp_eq, pending]
  rfl

theorem dataPort_up (s : State) (link : s.isUp 128 = true) (down : s.ingest.up = false) :
    ∃ t, exec .dataPortUp s = .next t ∧ t.ingest.up = true ∧ t.ingest.limit = 2048 ∧
    t.ingest.sentLimit = 2048 ∧ t.pages = s.pages ∧
    Out.dp 0x10 [if s.ingest.nextSet then 1 else 0, if s.ingest.nextSet then s.pgNext else 0, 2048] ∈ t.sent ∧
    (∀ q i, s.ingest.rewind = some (q, i) → t.sent.head? = some (.dp 4 [q, 0x81, i])) := by
  have opens : s.isUp 128 = true ∧ ¬s.ingest.up = true := ⟨link, by simp [down]⟩
  have run : exec .dataPortUp s = .next s.dataUp := next_congr (if_pos opens)
  refine ⟨s.dataUp, run, ?_⟩
  cases pending : s.ingest.rewind with
  | none =>
    rw [State.dataUp_settled pending]
    exact ⟨rfl, rfl, rfl, rfl, List.mem_cons_self, fun q i h => by simp at h⟩
  | some x =>
    obtain ⟨q, i⟩ := x
    obtain ⟨regs, ev, counted⟩ := (s.portOpened.send (.dp 4 [q, 0x81, i])).count_eq DpErr.rewind DpErr.ovf 0
    rw [State.dataUp_pending pending, State.countRewind, counted]
    refine ⟨rfl, rfl, rfl, rfl, List.mem_cons_of_mem _ List.mem_cons_self, fun q' i' h => ?_⟩
    obtain ⟨rfl, rfl⟩ : q = q' ∧ i = i' := by simpa using h
    rfl

theorem dataPort_down (s : State) (up : s.ingest.up = true) (empty : s.ingest.buffer = []) :
    ∃ t, exec .dataPortDown s = .next t ∧ t.ingest.up = false ∧ t.sent = s.sent ∧
    (∀ q i c, s.ingest.receiving = some (q, i, c) → c ≠ 0 → s.ingest.rewind = none → t.ingest.rewind = some (q, i)) := by
  have run : exec .dataPortDown s = .next s.dataDown := next_congr (if_pos up)
  refine ⟨s.dataDown, run, ?_⟩
  have drained : s.drainIngest = { s with ingest := { s.ingest with buffer := [] } } := by
    rw [State.drainIngest, empty]
    rfl
  unfold State.dataDown
  rw [drained]
  dsimp only
  split
  next q i c here =>
    split
    next cut =>
      rw [State.rewind_ingest, State.rewind_of_down rfl]
      exact ⟨rfl, rfl, fun q' i' c' here' _ _ => by simp_all⟩
    next whole =>
      exact ⟨rfl, rfl, fun q' i' c' here' later steady => by simp_all⟩
  next idle => exact ⟨rfl, rfl, fun q' i' c' here' => by simp_all⟩

/-- Settles O30: what a packet does is what the check of R122 finds of it, and what is taken out of the buffer for it. -/
theorem faongPackets : Obligations.FaongPackets := by
  unfold Obligations.FaongPackets
  exact ⟨faongPackets_crc, faongPackets_proto, pageDesc_taken, stripeData_in_order, stripe_out_of_order, packet_behind_rewind,
    stripeEnd_stores, credit_sent, dataPort_up, dataPort_down⟩

end Sys2Proof.Machine
end

section
/-! ## Digests of the partner and fill-in (R138 to R140, R430): O33 -/
namespace Sys2Proof.Machine

/-! ### The col link (R430, R431) -/

theorem State.sendCol_of_paired {s : State} (paired : s.solo = false) (typ : Nat) (args : List Nat) :
    s.sendCol typ args = { s with colTx := insertCol ⟨typ, args⟩ s.colTx } := if_neg (by simp [paired])

theorem mem_insertCol (m : ColOut) (l : List ColOut) : m ∈ insertCol m l := by
  induction l with
  | nil => simp [insertCol]
  | cons x l ih =>
    unfold insertCol
    split
    · exact List.mem_cons_self
    · exact List.mem_cons_of_mem _ ih

section
variable {s : State} {rx : Rx}

/-- A frame delivered whole is taken where it is the first of its TYPE or the next. -/
theorem State.colAccept_of_turn (paired : s.solo = false) (whole : rx.error = false) (crc : rx.crcOk = true) {typ seq : Nat}
    (turn : Tab.find s.twin.rxSeq typ = none ∨ ∃ q, Tab.find s.twin.rxSeq typ = some q ∧ seq = (q + 1) % 2 ^ 32) :
    s.colAccept typ seq rx = (true, s.heard typ seq) := by
  unfold State.colAccept
  rw [if_neg (by simp [paired]), if_neg (by simp [whole, crc])]
  rcases turn with first | ⟨q, last, next⟩
  · rw [first]
    rfl
  · rw [last]
    exact if_pos next

theorem State.colAccept_of_error (paired : s.solo = false) (h : rx.error = true ∨ rx.crcOk = false) (typ seq : Nat) :
    s.colAccept typ seq rx = (false, s.colError) := by
  unfold State.colAccept
  rw [if_neg (by simp [paired]), if_pos (by simpa using h)]

theorem State.colAccept_of_solo (alone : s.solo = true) (typ seq : Nat) : s.colAccept typ seq rx = (false, s) := if_pos alone

end

/-! ### Digests (R138, R139) -/

/-- A stripe with the partner's digest for it. -/
def Stripe.noted (g : Digest) (t : Stripe) : Stripe := { t with partner := some g }

/-- The partner's digest stands with its stripe. -/
def State.digestNoted (s : State) (g : Digest) (i : Nat) : State :=
  s.mapPage g.pseq fun p => p.withStripe i (Stripe.noted g)

theorem State.page_digestNoted {s : State} {g : Digest} {p : Page} (held : s.page g.pseq = some p) (i : Nat) :
    (s.digestNoted g i).page g.pseq = some (p.withStripe i (Stripe.noted g)) :=
  s.page_mapPage g.pseq (fun r => (r.withStripe_frame i _).1) held

theorem Page.stripe_digestNoted {p : Page} {i : Nat} {x : Stripe} (listed : p.stripe i = some x) (g : Digest) :
    (p.withStripe i (Stripe.noted g)).stripe i = some (x.noted g) := by
  rw [p.stripe_withStripe i (f := Stripe.noted g) fun _ => rfl, listed, Option.getD_some]

section
variable {s : State} {g : Digest}

/-- The digest of a page that has not been described waits for it. -/
theorem State.takeDigest_of_unknown (unknown : s.page g.pseq = none) : s.takeDigest g =
    { s with digestWait := s.digestWait.filter (fun h => !(h.pseq == g.pseq && h.stripe == g.stripe)) ++ [g] } := by
  rw [State.takeDigest, unknown]

variable {p : Page} {i : Nat} {x : Stripe}

/-- The digest of a stripe that this twin lacks is kept, and the partner is told. -/
theorem State.takeDigest_of_missing (held : s.page g.pseq = some p) (ofStripe : g.stripe = some i) (listed : p.stripe i = some x)
    (missing : x.stored = false) : s.takeDigest g =
      if g.lacks then s.digestNoted g i else (s.digestNoted g i).sendDigest g.pseq (some i) 0 0 true := by
  unfold State.takeDigest
  rw [held]
  dsimp only
  rw [ofStripe]
  dsimp only
  rw [listed]
  exact if_neg (by simp [missing])

theorem State.takeDigest_of_stored (held : s.page g.pseq = some p) (ofStripe : g.stripe = some i) (listed : p.stripe i = some x)
    (stored : x.stored = true) : s.takeDigest g = (s.digestNoted g i).digestDiff g.pseq i := by
  unfold State.takeDigest
  rw [held]
  dsimp only
  rw [ofStripe]
  dsimp only
  rw [listed]
  exact if_pos stored

end

/-- A copy that a standby gives up (R139). -/
def Stripe.dropped (t : Stripe) : Stripe := { t with data := [], stored := false, verified := false }

/-- The difference is recorded, and the standby's copy dropped. -/
def State.digestLost (s : State) (q i : Nat) : State :=
  (s.record .pgDigestDiff 0 [a64 q, a16 i]).mapPage q fun p => p.mapStripe i Stripe.dropped

theorem State.page_digestLost {s : State} {q : Nat} {p : Page} (held : s.page q = some p) (i : Nat) :
    (s.digestLost q i).page q = some (p.mapStripe i Stripe.dropped) :=
  State.page_mapPage _ q (f := fun r => r.mapStripe i Stripe.dropped) (fun _ => rfl) ((State.page_congr (by simp) q).trans held)

/-- Where the copies differ a standby drops its own, and may ask for the active's. -/
theorem State.digestDiff_of_standby {s : State} {q i : Nat} {p : Page} {x : Stripe} {g : Digest} (held : s.page q = some p)
    (listed : p.stripe i = some x) (known : x.partner = some g) (stored : x.stored = true) (present : g.lacks = false)
    (differ : g.clen ≠ x.clen ∨ g.crc ≠ x.endCrc) (standby : s.role = roleStandby) :
    s.digestDiff q i = s.digestLost q i ∨ s.digestDiff q i = (s.digestLost q i).sendCol 0x0B [q, i] := by
  have matters : ¬(!x.stored || g.lacks || (g.clen == x.clen && g.crc == x.endCrc)) = true := by
    rcases differ with h | h <;> simp [stored, present, h]
  have role : (s.record .pgDigestDiff 0 [a64 q, a16 i]).role = roleStandby :=
    (s.get_record _ 0 _ TwStat.role 0 (by decide)).trans standby
  unfold State.digestDiff
  rw [held]
  dsimp only
  rw [listed]
  dsimp only
  rw [known]
  dsimp only
  rw [if_neg matters, if_pos role]
  split
  · exact .inr rfl
  · exact .inl rfl

theorem digestReceive_taken (rx : Rx) (seq : Nat) (d : Digest) (s : State) (paired : s.solo = false) (whole : rx.error = false)
    (crc : rx.crcOk = true) (turn : Tab.find s.twin.rxSeq 0x0A = none ∨ ∃ q, Tab.find s.twin.rxSeq 0x0A = some q ∧ seq = (q + 1) % 2 ^ 32) :
    ∃ t, exec (.digestReceive rx seq d) s = .next t ∧
      (s.page d.pseq = none → d ∈ t.digestWait ∧ t = { s with digestWait := t.digestWait, twin := t.twin }) ∧
      (∀ p i x, s.page d.pseq = some p → d.stripe = some i → p.stripe i = some x → x.stored = false → ∃ p' x',
        t.page d.pseq = some p' ∧ p'.stripe i = some x' ∧ x'.partner = some d ∧
        (d.lacks = false → (⟨0x0A, [d.pseq, i + 1, 0, 0, 1]⟩ : ColOut) ∈ t.colTx)) ∧
      (∀ p i x, s.page d.pseq = some p → d.stripe = some i → p.stripe i = some x → x.stored = true → d.lacks = false →
        (d.clen ≠ x.clen ∨ d.crc ≠ x.endCrc) → s.role = roleStandby → ∃ p' x', t.page d.pseq = some p' ∧ p'.stripe i = some x' ∧
          x'.stored = false ∧ x'.data = [] ∧ Recorded s t .pgDigestDiff 0 [a64 d.pseq, a16 i]) := by
  let u := s.heard 0x0A seq
  have run : exec (.digestReceive rx seq d) s = .next (u.takeDigest d) :=
    next_congr (by rw [State.colAccept_of_turn paired whole crc turn]; rfl)
  refine ⟨_, run, fun unknown => ?_, fun p i x held ofStripe listed missing => ?_,
    fun p i x held ofStripe listed stored present differ standby => ?_⟩
  · rw [State.takeDigest_of_unknown (s := u) unknown]
    exact ⟨by simp, rfl⟩
  · rw [State.takeDigest_of_missing (s := u) held ofStripe listed missing]
    have page := State.page_digestNoted (s := u) held i
    have stripe := Page.stripe_digestNoted listed d
    split
    next lacks => exact ⟨_, _, page, stripe, rfl, fun present => by simp [present] at lacks⟩
    next =>
      have told : (u.digestNoted d i).sendDigest d.pseq (some i) 0 0 true = _ := State.sendCol_of_paired (s := u.digestNoted d i) paired 0x0A
        [d.pseq, i + 1, 0, 0, 1]
      rw [told]
      exact ⟨_, _, page, stripe, rfl, fun _ => mem_insertCol _ _⟩
  · rw [State.takeDigest_of_stored (s := u) held ofStripe listed stored]
    have page := State.page_digestNoted (s := u) held i
    have stripe := Page.stripe_digestNoted listed d
    have lost := State.page_digestLost page i
    have dropped := (p.withStripe i (Stripe.noted d)).stripe_mapStripe i (f := Stripe.dropped) (fun _ => rfl) stripe
    have alike : RecordsAlike s (u.digestNoted d i) := ⟨rfl, rfl, rfl, rfl, rfl, fun _ _ => rfl⟩
    have recorded := alike.ev .pgDigestDiff 0 [a64 d.pseq, a16 i]
    rcases State.digestDiff_of_standby page stripe rfl stored present differ standby with quiet | asked
    · rw [quiet]
      exact ⟨_, _, lost, dropped, rfl, rfl, recorded⟩
    · rw [asked]
      refine ⟨_, _, (State.page_congr (by simp) _).trans lost, dropped, rfl, rfl, ?_⟩
      rw [Recorded, ← recorded]
      simp [State.digestLost]

/-! ### Fill-in (R139, R140) -/

theorem fillinTimer_asks (p : Page) (i : Nat) (x : Stripe) (g : Digest) (s : State) (paired : s.solo = false)
    (held : s.page p.pseq = some p) (listed : p.stripe i = some x) (missing : x.stored = false) (known : x.partner = some g)
    (present : g.lacks = false) (open_ : p.closed = false) (enabled : s.get PgCtrl.fillinEn 0 = 1) :
    exec (.fillinTimer p.pseq i) s = .next { s with colTx := insertCol ⟨0x0B, [p.pseq, i]⟩ s.colTx } := by
  have asks : s.fillTimer p.pseq i = s.sendCol 0x0B [p.pseq, i] := by
    unfold State.fillTimer
    rw [held]
    dsimp only
    rw [listed]
    dsimp only
    rw [known]
    exact if_pos (by simp [enabled, missing, present, open_])
  exact next_congr (asks.trans (State.sendCol_of_paired paired _ _))

theorem fillReq_answered (rx : Rx) (seq : Nat) (p : Page) (i : Nat) (x : Stripe) (s : State) (paired : s.solo = false)
    (whole : rx.error = false) (crc : rx.crcOk = true)
    (turn : Tab.find s.twin.rxSeq 0x0B = none ∨ ∃ q, Tab.find s.twin.rxSeq 0x0B = some q ∧ seq = (q + 1) % 2 ^ 32)
    (held : s.page p.pseq = some p) (listed : p.stripe i = some x) (stored : x.stored = true) (intact : x.lost = false) :
    ∃ t, exec (.fillReq rx seq p.pseq i) s = .next t ∧
      t = { s with twin := t.twin,
                   colTx := insertCol ⟨0x0C, [p.pseq, i, x.lines] ++ x.data.map (fun b => b.toNat)⟩ s.colTx } := by
  let u := s.heard 0x0B seq
  have held : u.page p.pseq = some p := held
  have answers : u.fillAnswer p.pseq i = u.sendCol 0x0C ([p.pseq, i, x.lines] ++ x.data.map fun b => b.toNat) := by
    unfold State.fillAnswer
    rw [held]
    dsimp only
    rw [listed]
    exact if_pos (by simp [stored, intact])
  have run : exec (.fillReq rx seq p.pseq i) s = .next (u.fillAnswer p.pseq i) :=
    next_congr (by rw [State.colAccept_of_turn paired whole crc turn]; rfl)
  rw [answers, State.sendCol_of_paired (s := u) paired] at run
  exact ⟨_, run, rfl⟩

/-- A stripe as the partner has sent it. -/
def Stripe.filledIn (lines : Nat) (data : List Byte) (t : Stripe) : Stripe :=
  { t with data := data, clen := data.length, lines := lines, stored := true, verified := false, filled := true, lost := false }

/-- Its page, marked FILLED_IN (Table 06-6). -/
def Page.filledIn (p : Page) (i lines : Nat) (data : List Byte) : Page :=
  (p.withStripe i (Stripe.filledIn lines data)).settle.setFlag 4

theorem Page.filledIn_frame (p : Page) (i lines : Nat) (data : List Byte) : (p.filledIn i lines data).pseq = p.pseq ∧
    (p.filledIn i lines data).stripe i = some (Stripe.filledIn lines data ((p.stripe i).getD (Stripe.fresh i))) ∧
    (p.filledIn i lines data).record.flags / 16 % 2 = 1 := by
  refine ⟨?_, ?_, PageRecord.flag_set _ 4⟩
  · simp [Page.filledIn, Page.setFlag]
  · rw [← p.stripe_withStripe i (f := Stripe.filledIn lines data) fun _ => rfl]
    exact Page.stripe_congr (by simp [Page.filledIn, Page.setFlag]) i

/-- The partner's copy is stored; what follows looks after the page (R140). -/
theorem State.fillStripe_tended {s : State} {q i : Nat} {p : Page} (held : s.page q = some p) (open_ : p.closed = false)
    (wanted : p.dropsStripe i = false) (lines : Nat) (data : List Byte) :
    Tended q (s.mapPage q fun r => r.filledIn i lines data) (s.fillStripe q i lines data) := by
  have takes : ¬(p.closed = true ∨ p.dropsStripe i = true) := by simp [open_, wanted]
  unfold State.fillStripe
  rw [held]
  dsimp only
  rw [if_neg takes]
  refine ((Tended.sendStripeDigest _ i).trans (.trans ?_ (.tryAdmit _))).trans ((EngineStep.startVerify _).tended q)
  split
  · split
    · exact .count _ _ _ _
    · exact .refl _
  · exact .refl _

theorem fillData_stored (rx : Rx) (seq : Nat) (p : Page) (i lines : Nat) (data : List Byte) (s : State) (paired : s.solo = false)
    (whole : rx.error = false) (crc : rx.crcOk = true)
    (turn : Tab.find s.twin.rxSeq 0x0C = none ∨ ∃ q, Tab.find s.twin.rxSeq 0x0C = some q ∧ seq = (q + 1) % 2 ^ 32)
    (held : s.page p.pseq = some p) (open_ : p.closed = false) (wanted : p.dropsStripe i = false) :
    ∃ t p' x', exec (.fillData rx seq p.pseq i lines data) s = .next t ∧
      t.page p.pseq = some p' ∧ p'.stripe i = some x' ∧ x'.stored = true ∧ x'.filled = true ∧ x'.data = data ∧ x'.lines = lines ∧
      p'.record.flags / 16 % 2 = 1 ∧ t.dram = s.dram := by
  let u := s.heard 0x0C seq
  have held : u.page p.pseq = some p := held
  have run : exec (.fillData rx seq p.pseq i lines data) s = .next (u.fillStripe p.pseq i lines data) :=
    next_congr (by rw [State.colAccept_of_turn paired whole crc turn]; rfl)
  obtain ⟨-, hstripe, hflag⟩ := p.filledIn_frame i lines data
  have tended := State.fillStripe_tended held open_ wanted lines data
  obtain ⟨p', held', moved⟩ := tended.moved _ (u.page_mapPage p.pseq (fun r => (r.filledIn_frame i lines data).1) held)
  obtain ⟨-, -, -, -, hrecord, -⟩ := moved.frame
  exact ⟨_, p', _, run, held', (moved.stripe i).trans hstripe, rfl, rfl, rfl, rfl, by rw [hrecord]; exact hflag, tended.dram⟩

theorem colFrames_in_error (rx : Rx) (seq pseq i lines : Nat) (data : List Byte) (d : Digest) (s : State) (paired : s.solo = false)
    (h : rx.error = true ∨ rx.crcOk = false) :
    exec (.digestReceive rx seq d) s = .next s.colError ∧ exec (.fillReq rx seq pseq i) s = .next s.colError ∧
    exec (.fillData rx seq pseq i lines data) s = .next s.colError :=
  have refused := State.colAccept_of_error paired h
  ⟨next_congr (by rw [refused]; rfl), next_congr (by rw [refused]; rfl), next_congr (by rw [refused]; rfl)⟩

theorem colFrames_of_solo (rx : Rx) (seq pseq i lines : Nat) (data : List Byte) (d : Digest) (s : State) (alone : s.solo = true) :
    exec (.digestReceive rx seq d) s = .next s ∧ exec (.fillReq rx seq pseq i) s = .next s ∧
    exec (.fillData rx seq pseq i lines data) s = .next s :=
  have ignored := State.colAccept_of_solo (rx := rx) alone
  ⟨next_congr (by rw [ignored]; rfl), next_congr (by rw [ignored]; rfl), next_congr (by rw [ignored]; rfl)⟩

/-- Settles O33: what R430 takes, and then what R139 and R140 do with a digest and with a stripe. -/
theorem digestsAndFillIn : Obligations.DigestsAndFillIn := by
  unfold Obligations.DigestsAndFillIn
  exact ⟨digestReceive_taken, fillinTimer_asks, fillReq_answered, fillData_stored, colFrames_in_error, colFrames_of_solo⟩

end Sys2Proof.Machine
end

section
/-! ## Verification and print decodes (R133, R134, R146, R158 to R165): O32 -/
namespace Sys2Proof.Machine

theorem State.shaped_codec {s : State} (shaped : s.shaped) : s.codec.engines.length = 8 ∧ s.codec.cmx.length = 2 := by
  obtain ⟨-, -, -, -, -, -, -, -, -, -, -, -, -, engines, cmx, -⟩ := shaped
  exact ⟨engines, cmx⟩

/-! ### What a failed decode shows (R161) -/

/-- The DCX_LAST registers of a failure. -/
def State.failureShown (s : State) (e : Nat) (verify : Bool) (q i : Nat) (r : GscResult) : State :=
  (((((s.put DcxLast.cause 0 r.cause.code).put DcxLast.engine 0 e).put DcxLast.verify 0 (if verify then 1 else 0)).put
    DcxLast.stripe 0 i).put DcxLastOfs.v 0 r.offset).put64 DcxLastPseqLo.v DcxLastPseqHi.v 0 q

/-- The failure is shown and counted, and its event recorded. -/
theorem State.dcxFailure_cases (s : State) (e : Nat) (verify : Bool) (q i : Nat) (r : GscResult) :
    ∃ c ∈ [DcxErr.malformed, DcxErr.check], ∃ code args,
      s.dcxFailure e verify q i r = ((s.failureShown e verify q i r).count c DcxErr.ovf 0).record code e args := by
  unfold State.dcxFailure
  dsimp only
  split
  · exact ⟨_, by simp, _, _, rfl⟩
  · exact ⟨_, by simp, _, _, rfl⟩

theorem OnlyRegsEv.dcxFailure (s : State) (e : Nat) (verify : Bool) (q i : Nat) (r : GscResult) :
    OnlyRegsEv s (s.dcxFailure e verify q i r) := by
  obtain ⟨c, -, code, args, h⟩ := s.dcxFailure_cases e verify q i r
  have shown : OnlyRegsEv s (s.failureShown e verify q i r) :=
    (((((((OnlyRegsEv.put s _ _ _).trans (.put _ _ _ _)).trans (.put _ _ _ _)).trans (.put _ _ _ _)).trans (.put _ _ _ _)).trans
      (.put _ _ _ _)).trans (.put _ _ _ _))
  rw [h]
  exact (shown.trans (.countBy _ 0 1)).trans (.record _ _ _ _)

theorem State.get_dcxFailure (s : State) (e : Nat) (verify : Bool) (q i : Nat) (r : GscResult) {g : Fld}
    (malformed : DcxErr.malformed.apart g = true) (check : DcxErr.check.apart g = true) (ovf : DcxErr.ovf.apart g = true)
    (quiet : g.unrecorded = true) (j : Nat) : (s.dcxFailure e verify q i r).get g j = (s.failureShown e verify q i r).get g j := by
  obtain ⟨c, hc, code, args, h⟩ := s.dcxFailure_cases e verify q i r
  have count : c.apart g = true := by
    rcases (by simpa using hc : c = DcxErr.malformed ∨ c = DcxErr.check) with rfl | rfl
    · exact malformed
    · exact check
  rw [h, State.get_record _ _ _ _ _ _ quiet, State.count, State.get_countBy_ne _ 0 1 count ovf quiet]

theorem State.get_failureShown (s : State) (e : Nat) (verify : Bool) (q i : Nat) (r : GscResult) :
    (s.failureShown e verify q i r).get DcxLast.stripe 0 = i % 2 ^ 16 ∧
    (s.failureShown e verify q i r).get DcxLast.verify 0 = (if verify then 1 else 0) ∧
    (s.failureShown e verify q i r).get PgCtrl.retry 0 = s.get PgCtrl.retry 0 := by
  refine ⟨?_, ?_, ?_⟩
  · simp (disch := decide) only [State.failureShown, State.put64, State.get_put_ne, State.get_put_self]
    rfl
  · simp (disch := decide) only [State.failureShown, State.put64, State.get_put_ne, State.get_put_self]
    cases verify <;> rfl
  · simp (disch := decide) only [State.failureShown, State.put64, State.get_put_ne]

/-! ### A rewind of what is stored (R127, R133) -/

/-- A page without what it holds of a stripe that has not ended. -/
def Page.cut (p : Page) (i : Nat) : Page :=
  { p with stripes := p.stripes.map fun t => if t.idx = i ∧ t.stored = false then { t with data := [] } else t }

theorem State.rewind_pages (s : State) (q i : Nat) : (s.rewind q i).pages = (s.mapPage q fun p => p.cut i).pages := by
  unfold State.rewind State.sendControl State.countRewind
  dsimp only
  split <;> simp <;> rfl

/-- A stripe without data has nothing to lose. -/
theorem Page.stripe_cut {p : Page} {i : Nat} {x : Stripe} (listed : p.stripe i = some x) (bare : x.data = []) (j : Nat) :
    (p.cut j).stripe i = some x := by
  let f (t : Stripe) : Stripe := if t.idx = j ∧ t.stored = false then { t with data := [] } else t
  have keeps : ((fun t : Stripe => t.idx == i) ∘ f) = fun t => t.idx == i := by
    funext t
    simp only [Function.comp, f]
    split <;> rfl
  have same : f x = x := by
    simp only [f]
    split
    · rw [← bare]
    · rfl
  have found : (p.stripes.map f).find? (fun t => t.idx == i) = (p.stripe i).map f := by rw [List.find?_map, keeps]; rfl
  exact found.trans (by rw [listed, Option.map_some, same])

theorem State.page_rewind {s : State} {a : Nat} {p : Page} (held : s.page a = some p) (q j : Nat) {i : Nat} {x : Stripe}
    (listed : p.stripe i = some x) (bare : x.data = []) : ∃ p', (s.rewind q j).page a = some p' ∧ p'.stripe i = some x := by
  rw [State.page_congr (s.rewind_pages q j)]
  by_cases here : a = q
  · subst here
    exact ⟨_, s.page_mapPage a (f := fun r => r.cut j) (fun _ => rfl) held, Page.stripe_cut listed bare j⟩
  · exact ⟨p, (s.page_mapPage_ne q (f := fun r => r.cut j) (fun _ => rfl) here).trans held, listed⟩

theorem State.get_rewind (s : State) (q i : Nat) {g : Fld} (count : DpErr.rewind.apart g = true) (ovf : DpErr.ovf.apart g = true)
    (quiet : g.unrecorded = true) (j : Nat) : (s.rewind q i).get g j = s.get g j := by
  unfold State.rewind
  extract_lets dropped ingest asked
  split
  next up =>
    have sent : asked.sendControl q 0x81 i = asked.send (.dp 4 [q, 0x81, i]) := if_pos up
    rw [sent, State.countRewind, State.count, State.get_countBy_ne _ 0 1 count ovf quiet]
    rfl
  next => rfl

theorem mergePos_ne_nil (x : Nat × Nat) (l : List (Nat × Nat)) : mergePos x l ≠ [] := by
  unfold mergePos
  split
  · simp
  · split
    · simp
    · split <;> simp

/-- A stripe that is asked for once more. -/
def Stripe.askedAgain (t : Stripe) : Stripe := { t with data := [], stored := false, verified := false, retries := t.retries + 1 }

/-- The stripe is discarded, and some position is rewound to. -/
theorem State.rewindStored_cases (s : State) (q i : Nat) : ∃ q' i' rest, s.rewindStored q i =
    State.rewind { (s.mapPage q fun p => p.mapStripe i Stripe.askedAgain) with
      ingest := { s.ingest with interrupted := rest } } q' i' := by
  unfold State.rewindStored
  extract_lets discarded here order
  have some_ : order ≠ [] := List.foldlRecOn (motive := fun l => l ≠ []) _ _ (by simp) fun l _ x _ => mergePos_ne_nil x l
  obtain ⟨⟨q', i'⟩, rest, first⟩ := List.exists_cons_of_ne_nil some_
  exact ⟨q', i', rest, by rw [first]; rfl⟩

/-! ### The end of a verification (R133) -/

section
variable {s : State} {e q i : Nat} {p : Page} {x : Stripe}

/-- A stripe that has passed. -/
def Stripe.passed (t : Stripe) : Stripe := { t with verified := true }

theorem State.verifyDone_of_pass (busy : s.codec.engines.getD e none = some ⟨false, q, i⟩) (held : s.page q = some p)
    (listed : p.stripe i = some x) (pass : (gscDecode (p.shape x) x.data).cause = .pass) (lines : p.linesOk x = true) :
    s.verifyDone e = (((s.setEngine e none).mapPage q fun p => p.mapStripe i Stripe.passed).tryAdmit q).startVerify := by
  have held : (s.setEngine e none).page q = some p := ((EngineStep.setEngine s e none).page q).trans held
  unfold State.verifyDone
  rw [busy]
  dsimp only
  rw [if_neg Bool.false_ne_true, held]
  dsimp only
  rw [listed]
  dsimp only
  rw [if_pos ⟨pass, lines⟩]
  rfl

/-- The engine is idle, and the failure of its verification has been shown. -/
def State.verifyShown (s : State) (e q i : Nat) (r : GscResult) : State := (s.setEngine e none).dcxFailure e true q i r

theorem State.verifyShown_page (s : State) (e q i : Nat) (r : GscResult) (a : Nat) : (s.verifyShown e q i r).page a = s.page a := by
  have failure : OnlyRegsEv (s.setEngine e none) (s.verifyShown e q i r) := .dcxFailure _ e true q i r
  exact (State.page_congr (by rw [failure]) a).trans ((EngineStep.setEngine s e none).page a)

theorem State.get_verifyShown (s : State) (e q i : Nat) (r : GscResult) : (s.verifyShown e q i r).get DcxLast.stripe 0 = i % 2 ^ 16 ∧
    (s.verifyShown e q i r).get DcxLast.verify 0 = 1 ∧ (s.verifyShown e q i r).get PgCtrl.retry 0 = s.get PgCtrl.retry 0 := by
  obtain ⟨hstripe, hverify, hretry⟩ := (s.setEngine e none).get_failureShown e true q i r
  unfold State.verifyShown
  simp (disch := decide) only [State.get_dcxFailure]
  exact ⟨hstripe, hverify, hretry.trans ((EngineStep.setEngine s e none).get (f := PgCtrl.retry) (by decide) (by decide) 0)⟩

theorem State.verifyDone_of_fail (busy : s.codec.engines.getD e none = some ⟨false, q, i⟩) (held : s.page q = some p)
    (listed : p.stripe i = some x) (fail : (gscDecode (p.shape x) x.data).cause ≠ .pass) :
    s.verifyDone e = ((s.verifyShown e q i (gscDecode (p.shape x) x.data)).verifyFailed q x).startVerify := by
  have held : (s.setEngine e none).page q = some p := ((EngineStep.setEngine s e none).page q).trans held
  unfold State.verifyDone
  rw [busy]
  dsimp only
  rw [if_neg Bool.false_ne_true, held]
  dsimp only
  rw [listed]
  dsimp only
  rw [if_neg fun both => fail both.1, if_neg fail]
  rfl

theorem stripeVerifyDone_passed (busy : s.codec.engines.getD e none = some ⟨false, q, i⟩) (held : s.page q = some p)
    (listed : p.stripe i = some x) (pass : (gscDecode (p.shape x) x.data).cause = .pass) (lines : p.linesOk x = true) :
    ∃ p', (s.verifyDone e).page q = some p' ∧ p'.stripe i = some { x with verified := true } ∧
      (∀ a, a ≠ q → (s.verifyDone e).page a = s.page a) ∧ (s.verifyDone e).sent = s.sent := by
  let u := s.setEngine e none
  have idle := EngineStep.setEngine s e none
  have marks (r : Page) : (r.mapStripe i Stripe.passed).pseq = r.pseq := rfl
  have tended : Tended q (u.mapPage q fun p => p.mapStripe i Stripe.passed) (s.verifyDone e) := by
    rw [State.verifyDone_of_pass busy held listed pass lines]
    exact (Tended.tryAdmit _).trans ((EngineStep.startVerify _).tended q)
  obtain ⟨p', held', moved⟩ := tended.moved _ (u.page_mapPage q marks ((idle.page q).trans held))
  refine ⟨p', held', (moved.stripe i).trans (p.stripe_mapStripe i (f := Stripe.passed) (fun _ => rfl) listed), fun a other => ?_, ?_⟩
  · exact ((tended.others a other).trans (u.page_mapPage_ne q marks other)).trans (idle.page a)
  · exact tended.sent.trans rfl

/-- With retries left the stripe is dropped and asked for again, and what the failure has shown stays. -/
theorem stripeVerifyDone_retried (busy : s.codec.engines.getD e none = some ⟨false, q, i⟩) (held : s.page q = some p)
    (listed : p.stripe i = some x) (fail : (gscDecode (p.shape x) x.data).cause ≠ .pass) (left : x.retries < s.get PgCtrl.retry 0) :
    ∃ p', (s.verifyDone e).page q = some p' ∧ p'.stripe i = some x.askedAgain ∧ (s.verifyDone e).ingest.rewind.isSome = true ∧
      (s.verifyDone e).get DcxLast.stripe 0 = i % 2 ^ 16 ∧ (s.verifyDone e).flag DcxLast.verify 0 = true := by
  let u := s.verifyShown e q i (gscDecode (p.shape x) x.data)
  obtain ⟨hstripe, hverify, hretry⟩ := s.get_verifyShown e q i (gscDecode (p.shape x) x.data)
  have again : u.verifyFailed q x = u.rewindStored q x.idx := if_pos (by rw [hretry]; exact left)
  have run : s.verifyDone e = (u.rewindStored q i).startVerify := by
    rw [State.verifyDone_of_fail busy held listed fail, again, Page.idx_of_stripe listed]
  obtain ⟨q', i', rest, rewound⟩ := u.rewindStored_cases q i
  have verify := EngineStep.startVerify (u.rewindStored q i)
  obtain ⟨-, hingest, -⟩ := verify.frame
  have shown {g : Fld} (hg : g ∈ g.reg.fields) (other : Reg.dcxStat.fields.contains g = false) (count : DpErr.rewind.apart g = true)
      (ovf : DpErr.ovf.apart g = true) (quiet : g.unrecorded = true) : (u.rewindStored q i).startVerify.get g 0 = u.get g 0 := by
    rw [verify.get hg other, rewound, State.get_rewind _ _ _ count ovf quiet]
    rfl
  have discarded := u.page_mapPage q (f := fun p => p.mapStripe i Stripe.askedAgain) (fun _ => rfl) ((s.verifyShown_page e q i _ q).trans held)
  have asked := p.stripe_mapStripe i (f := Stripe.askedAgain) (fun _ => rfl) listed
  obtain ⟨p', page, stripe⟩ := State.page_rewind (s := { (u.mapPage q fun p => p.mapStripe i Stripe.askedAgain) with
    ingest := { u.ingest with interrupted := rest } }) discarded q' i' asked rfl
  rw [run]
  refine ⟨p', ?_, stripe, ?_, ?_, ?_⟩
  · rw [verify.page, rewound]
    exact page
  · rw [hingest, rewound, State.rewind_ingest]
    rfl
  · rw [shown (by decide) (by decide) (by decide) (by decide) (by decide), hstripe]
  · rw [State.flag, shown (by decide) (by decide) (by decide) (by decide) (by decide), hverify]
    rfl

/-- A page that is refused for a stripe (R133). -/
def Page.checkFailed (p : Page) : Page := { p.close 2 5 with stripes := [] }

theorem stripeVerifyDone_refused (busy : s.codec.engines.getD e none = some ⟨false, q, i⟩) (held : s.page q = some p)
    (listed : p.stripe i = some x) (fail : (gscDecode (p.shape x) x.data).cause ≠ .pass) (spent : s.get PgCtrl.retry 0 ≤ x.retries) :
    (s.verifyDone e).page q = some p.checkFailed := by
  let u := s.verifyShown e q i (gscDecode (p.shape x) x.data)
  obtain ⟨-, -, hretry⟩ := s.get_verifyShown e q i (gscDecode (p.shape x) x.data)
  have none_ : ¬x.retries < u.get PgCtrl.retry 0 := by
    rw [hretry]
    omega
  have closed : ((u.stopDecodes q).mapPage q Page.checkFailed).page q = some p.checkFailed :=
    (u.stopDecodes q).page_mapPage q (f := Page.checkFailed) (fun _ => rfl)
      (((EngineStep.stopDecodes u q).page q).trans ((s.verifyShown_page e q i _ q).trans held))
  rw [State.verifyDone_of_fail busy held listed fail, (EngineStep.startVerify _).page]
  unfold State.verifyFailed
  rw [if_neg none_]
  dsimp only
  split
  · split <;> exact closed
  · exact closed

end

theorem stripeVerifyDone_ends (e : Fin 8) (q i : Nat) (p : Page) (x : Stripe) (s : State) (_ : s.shaped)
    (busy : s.codec.engines.getD e.val none = some ⟨false, q, i⟩) (held : s.page q = some p) (listed : p.stripe i = some x) :
    ((gscDecode (p.shape x) x.data).cause = .pass → p.linesOk x = true → ∃ t p' x', exec (.stripeVerifyDone e) s = .next t ∧
      t.page q = some p' ∧ p'.stripe i = some x' ∧ x' = { x with verified := true } ∧ (∀ a, a ≠ q → t.page a = s.page a) ∧
      t.sent = s.sent) ∧
    ((gscDecode (p.shape x) x.data).cause ≠ .pass → x.retries < s.get PgCtrl.retry 0 → ∃ t p' x', exec (.stripeVerifyDone e) s = .next t ∧
      t.page q = some p' ∧ p'.stripe i = some x' ∧ x'.data = [] ∧ x'.stored = false ∧ x'.retries = x.retries + 1 ∧
      t.ingest.rewind.isSome = true ∧ t.get DcxLast.stripe 0 = i % 2 ^ 16 ∧ t.flag DcxLast.verify 0 = true) ∧
    ((gscDecode (p.shape x) x.data).cause ≠ .pass → s.get PgCtrl.retry 0 ≤ x.retries → ∃ t p', exec (.stripeVerifyDone e) s = .next t ∧
      t.page q = some p' ∧ p'.closed = true ∧ p'.record.status = 2 ∧ p'.record.reason = 5) := by
  refine ⟨fun pass lines => ?_, fun fail left => ?_, fun fail none_ => ?_⟩
  · obtain ⟨p', page, stripe, others, sent⟩ := stripeVerifyDone_passed busy held listed pass lines
    exact ⟨s.verifyDone e.val, p', _, rfl, page, stripe, rfl, others, sent⟩
  · obtain ⟨p', page, stripe, asked, shown⟩ := stripeVerifyDone_retried busy held listed fail left
    exact ⟨s.verifyDone e.val, p', _, rfl, page, stripe, rfl, rfl, rfl, asked, shown⟩
  · exact ⟨s.verifyDone e.val, _, rfl, stripeVerifyDone_refused busy held listed fail none_, rfl, rfl, rfl⟩

/-! ### The next due stripe (R139, R146, R164) -/

section
variable {s : State} {p : Page} {i : Nat} {x : Stripe}

/-- Without the partner's digest there is nothing to compare. -/
theorem State.digestDiff_of_unknown (held : s.page p.pseq = some p) (unknown : ∀ x, p.stripe i = some x → x.partner = none) :
    s.digestDiff p.pseq i = s := by
  unfold State.digestDiff
  rw [held]
  dsimp only
  split
  · rfl
  next x listed => rw [unknown x listed]

/-- What is done with a stripe whose lines are due and for which there is room (R134, R146). -/
def State.printStripe (s : State) (p : Page) (i : Nat) : State :=
  match p.stripe i with
  | none => s.passOver p i
  | some x => if x.stored ∧ ¬x.lost then (if s.digestKnown x then s.assignPrint p.pseq i else s) else s.passOver p i

theorem State.printStripe_of_missing (missing : p.stripe i = none) : s.printStripe p i = s.passOver p i := by
  rw [State.printStripe, missing]

theorem State.printStripe_of_stored (listed : p.stripe i = some x) (stored : x.stored = true) (intact : x.lost = false)
    (known : s.digestKnown x = true) : s.printStripe p i = s.assignPrint p.pseq i := by
  rw [State.printStripe, listed]
  exact (if_pos (by simp [stored, intact])).trans (if_pos known)

theorem State.decodeAssign_of_room {e : Nat} {es : List Nat} (due : s.nextDue = some (p, i)) (held : s.page p.pseq = some p)
    (reach : p.first + 256 * i * s.ratio p < s.writerReach) (room : s.printEngines < s.printMax) (idle : s.idleEngines = e :: es)
    (unknown : ∀ x, p.stripe i = some x → x.partner = none) : s.decodeAssign = s.printStripe p i := by
  have free : ¬(s.writerReach ≤ p.first + 256 * i * s.ratio p ∨
      ¬(decide (s.printEngines < s.printMax) && (!s.idleEngines.isEmpty || s.verifyVictim.isSome)) = true) := by
    simp [room, idle, reach]
  unfold State.decodeAssign
  rw [due]
  dsimp only
  rw [if_neg free, State.digestDiff_of_unknown held unknown, held]
  rfl

/-- A stripe for which a decompressor has been assigned, or whose lines have been passed over. -/
def Stripe.taken (t : Stripe) : Stripe := { t with assigned := true }

theorem State.assignPrint_of_idle {e : Nat} {es : List Nat} (idle : s.idleEngines = e :: es) (q i : Nat) :
    s.assignPrint q i = (s.mapPage q fun p => p.withStripe i Stripe.taken).setEngine e (some ⟨true, q, i⟩) := by
  unfold State.assignPrint
  rw [idle]
  rfl

/-- Of an intact page the reason of R146 for a stripe that is not there in time. -/
def Page.missingReason (p : Page) : Nat := if p.deferred then 10 else if p.desc.stream then 8 else 7

theorem State.passOver_of_missing (missing : p.stripe i = none) : s.passOver p i =
    s.mapPage p.pseq fun r => (r.withStripe i Stripe.taken).spoil (256 * i * s.ratio r) p.missingReason := by
  unfold State.passOver
  rw [missing]
  simp [Page.missingReason]
  rfl

end

/-- A page that was in order is spoiled from the line on. -/
theorem PageRecord.spoil_of_ok {r : PageRecord} (ok : r.status = 0) (line reason : Nat) :
    r.spoil line reason = { r with status := 1, reason := reason, spoilLine := some line } := by
  unfold PageRecord.spoil
  rw [ok]
  rfl

theorem State.idle_lt {s : State} {e : Nat} {es : List Nat} (idle : s.idleEngines = e :: es) : e < 8 := by
  have first : e ∈ s.idleEngines := by simp [idle]
  simpa using (List.mem_filter.mp first).1

theorem State.dcxState_setEngine (s : State) (e q i : Nat) : (s.setEngine e (some ⟨true, q, i⟩)).get DcxStat.state e = 1 := by
  unfold State.setEngine
  dsimp only
  rw [State.get_put_ne _ (by decide), State.get_put_self]
  rfl

theorem decodeAssign_ends (p : Page) (i e : Nat) (es : List Nat) (s : State) (shaped : s.shaped) (due : s.nextDue = some (p, i))
    (held : s.page p.pseq = some p) (reach : p.first + 256 * i * s.ratio p < s.writerReach) (room : s.printEngines < s.printMax)
    (idle : s.idleEngines = e :: es) (alone : s.role ≠ roleActive) :
    (∀ x, p.stripe i = some x → x.stored = true → x.lost = false → x.partner = none → ∃ t p' x', exec .decodeAssign s = .next t ∧
      t.codec.engines.getD e none = some ⟨true, p.pseq, i⟩ ∧ t.get DcxStat.state e = 1 ∧ t.page p.pseq = some p' ∧ p'.stripe i = some x' ∧
      x' = { x with assigned := true } ∧ t.ev = s.ev) ∧
    (p.stripe i = none → ∃ t p' x', exec .decodeAssign s = .next t ∧ t.page p.pseq = some p' ∧ p'.stripe i = some x' ∧ x'.assigned = true ∧
      (p.record.status = 0 → p'.record.status = 1 ∧ p'.record.spoilLine = some (256 * i * s.ratio p) ∧
        p'.record.reason = (if p.deferred then 10 else if p.desc.stream then 8 else 7))) := by
  refine ⟨fun x listed stored intact unknown => ?_, fun missing => ?_⟩
  · have known : s.digestKnown x = true := by simp [State.digestKnown, alone]
    have run : s.decodeAssign = (s.mapPage p.pseq fun p => p.withStripe i Stripe.taken).setEngine e (some ⟨true, p.pseq, i⟩) := by
      rw [State.decodeAssign_of_room due held reach room idle fun y h => Option.some.inj (h.symm.trans listed) ▸ unknown,
        State.printStripe_of_stored listed stored intact known, State.assignPrint_of_idle idle]
    let u := s.mapPage p.pseq fun p => p.withStripe i Stripe.taken
    have there : e < u.codec.engines.length := (State.shaped_codec shaped).1 ▸ State.idle_lt idle
    have step := EngineStep.setEngine u e (some ⟨true, p.pseq, i⟩)
    have page := s.page_mapPage p.pseq (fun r => (r.withStripe_frame i Stripe.taken).1) held
    have stripe := p.stripe_withStripe i (f := Stripe.taken) fun _ => rfl
    rw [listed, Option.getD_some] at stripe
    obtain ⟨-, -, -, -, hev, -⟩ := step.frame
    exact ⟨_, _, _, next_congr run, u.engine_setEngine there _, u.dcxState_setEngine e _ i, (step.page _).trans page, stripe, rfl, hev⟩
  · have run : s.decodeAssign = s.mapPage p.pseq fun r =>
        (r.withStripe i Stripe.taken).spoil (256 * i * s.ratio r) p.missingReason := by
      rw [State.decodeAssign_of_room due held reach room idle fun y h => by simp [missing] at h,
        State.printStripe_of_missing missing, State.passOver_of_missing missing]
    have page := s.page_mapPage p.pseq (f := fun r => (r.withStripe i Stripe.taken).spoil (256 * i * s.ratio r) p.missingReason)
      (fun r => (r.withStripe_frame i Stripe.taken).1) held
    have stripe := p.stripe_withStripe i (f := Stripe.taken) fun _ => rfl
    have ok : (p.withStripe i Stripe.taken).record = p.record := by simp
    refine ⟨_, _, _, next_congr run, page, stripe, rfl, fun status => ?_⟩
    have spoiled := PageRecord.spoil_of_ok (r := (p.withStripe i Stripe.taken).record) (by rw [ok, status]) (256 * i * s.ratio p)
      p.missingReason
    rw [Page.spoil]
    dsimp only
    rw [spoiled]
    exact ⟨rfl, rfl, rfl⟩

/-! ### The end of a print decode (R134, R158 to R161) -/

/-- The engine is idle, and its lines wait for the writer. -/
def State.linesOut (s : State) (e q i : Nat) (p : Page) (x : Stripe) (r : GscResult) : State :=
  let u := s.setEngine e none
  { u with codec := { u.codec with decoded := u.codec.decoded ++ [⟨q, i, p.desc.lb, x.lines, r.out, r.voidFrom⟩] } }

theorem State.printDone_eq {s : State} {e q i : Nat} {p : Page} {x : Stripe} (busy : s.codec.engines.getD e none = some ⟨true, q, i⟩)
    (held : s.page q = some p) (listed : p.stripe i = some x) : s.printDone e =
      let r := gscDecode (p.shape x) x.data
      let u := s.linesOut e q i p x r
      (if r.cause = .pass then u
      else (u.dcxFailure e false q i r).mapPage q fun p => p.spoil (256 * i * u.ratio p) (if p.desc.stream then 6 else 5)).startVerify := by
  have held : (s.setEngine e none).page q = some p := ((EngineStep.setEngine s e none).page q).trans held
  unfold State.printDone
  rw [busy]
  dsimp only
  rw [if_neg (by simp), held]
  dsimp only
  rw [listed]
  rfl

theorem printDecodeDone_ends (e : Fin 8) (q i : Nat) (p : Page) (x : Stripe) (s : State)
    (busy : s.codec.engines.getD e.val none = some ⟨true, q, i⟩) (held : s.page q = some p) (listed : p.stripe i = some x) :
    ∃ t p', exec (.printDecodeDone e) s = .next t ∧ t.page q = some p' ∧
      t.codec.decoded = s.codec.decoded ++ [⟨q, i, p.desc.lb, x.lines, (gscDecode (p.shape x) x.data).out,
        (gscDecode (p.shape x) x.data).voidFrom⟩] ∧
      ((gscDecode (p.shape x) x.data).cause = .pass → p' = p) ∧
      ((gscDecode (p.shape x) x.data).cause ≠ .pass → p.record.status = 0 → p'.record.status = 1 ∧
        p'.record.spoilLine = some (256 * i * s.ratio p) ∧ p'.record.reason = (if p.desc.stream then 6 else 5)) := by
  let r := gscDecode (p.shape x) x.data
  let u := s.linesOut e.val q i p x r
  have page : u.page q = some p := ((EngineStep.setEngine s e.val none).page q).trans held
  have decoded : u.codec.decoded = s.codec.decoded ++ [⟨q, i, p.desc.lb, x.lines, r.out, r.voidFrom⟩] :=
    congrArg (· ++ _) (s.setEngine_decoded e.val none)
  have run := State.printDone_eq busy held listed
  by_cases pass : r.cause = .pass
  · have run : s.printDone e.val = u.startVerify := run.trans (congrArg State.startVerify (if_pos pass))
    exact ⟨_, p, next_congr run, ((EngineStep.startVerify u).page q).trans page, u.startVerify_decoded.trans decoded, fun _ => rfl,
      fun fail => absurd pass fail⟩
  · let v := (u.dcxFailure e.val false q i r).mapPage q fun p => p.spoil (256 * i * u.ratio p) (if p.desc.stream then 6 else 5)
    have run : s.printDone e.val = v.startVerify := run.trans (congrArg State.startVerify (if_neg pass))
    have failure := OnlyRegsEv.dcxFailure u e.val false q i r
    have held' : (u.dcxFailure e.val false q i r).page q = some p := (State.page_congr (by rw [failure]) q).trans page
    have spoiled : v.page q = some (p.spoil (256 * i * u.ratio p) (if p.desc.stream then 6 else 5)) :=
      State.page_mapPage _ q (f := fun p => p.spoil (256 * i * u.ratio p) (if p.desc.stream then 6 else 5)) (fun _ => rfl) held'
    have codec : v.codec.decoded = u.codec.decoded := by
      change (u.dcxFailure e.val false q i r).codec.decoded = _
      rw [failure]
    refine ⟨_, _, next_congr run, ((EngineStep.startVerify v).page q).trans spoiled,
      (v.startVerify_decoded.trans codec).trans decoded, fun h => absurd h pass, fun _ status => ?_⟩
    rw [Page.spoil, PageRecord.spoil_of_ok status]
    exact ⟨rfl, rfl, rfl⟩

end Sys2Proof.Machine
end

section
/-! ## The band-ring writer and the compressors (R168 to R171, R178, R185, R189, R409): O32 -/
namespace Sys2Proof.Machine

/-! ### A line of the band ring (R189) -/

theorem State.bandLine_congr {s t : State} (ring : t.scr.ring = s.scr.ring) (force : t.force = s.force) (line : Nat) :
    t.bandLine line = s.bandLine line := by
  have depth : t.depth = s.depth := by
    unfold State.depth State.inForce
    rw [force]
  rw [State.bandLine, State.bandLine, ring, depth]

/-- A line that has been written is there. -/
theorem State.bandLine_writeLine (s : State) (b : BandLine) : (s.writeLine b).bandLine b.line = some b := by
  have slot : Tab.find (Tab.insert (b.line % s.depth) b s.scr.ring) (b.line % s.depth) = some b := by
    rw [Tab.find_insert]
    exact if_pos rfl
  have read : (s.writeLine b).bandLine b.line =
      match Tab.find (Tab.insert (b.line % s.depth) b s.scr.ring) (b.line % s.depth) with
      | some c => if c.line = b.line then some c else none
      | none => none := rfl
  rw [read, slot]
  exact if_pos rfl

section
variable {s : State} {line y : Nat} {p : Page}

/-- The writer begins a line of a page where its slot is free (R547). -/
theorem State.screenLine_of_page (reach : line < s.writerReach) (free : s.bandLine line = none) (here : s.pageOfLine line = some (p, y)) :
    s.screenLine line = s.screenPageLine p line y := by
  unfold State.screenLine
  rw [if_neg (by simp [free, reach]), here]

/-- A line of a page that no longer prints is blank. -/
theorem State.screenPageLine_of_blank (blank : p.blankFrom.isSome = true) (line y : Nat) :
    s.screenPageLine p line y = s.writeLine ⟨line, p.pseq, y, [], false⟩ :=
  if_pos (.inr (.inl blank))

/-- The tables of a contone page are loaded (R185). -/
def State.tablesLoaded (s : State) (p : Page) : State := if p.desc.contone then s.loadCtb p.ctbGen else s

theorem State.loadCtb_frame (s : State) (gen : Nat) : (s.loadCtb gen).pages = s.pages ∧ (s.loadCtb gen).dram = s.dram ∧
    (s.loadCtb gen).force = s.force ∧ (s.loadCtb gen).scr.nmGens = s.scr.nmGens ∧ (s.loadCtb gen).scr.written = s.scr.written ∧
    ∀ g j, ScrCnt.genLoads.apart g = true → (s.loadCtb gen).get g j = s.get g j := by
  unfold State.loadCtb
  split
  · exact ⟨rfl, rfl, rfl, rfl, rfl, fun _ _ _ => rfl⟩
  · exact ⟨rfl, rfl, rfl, rfl, rfl, fun g j h => State.get_put_ne _ h 0 j _⟩

/-- Loading changes no code. -/
theorem State.contoneCode_loadCtb (s : State) (gen : Nat) (ctb nm : TableGen) (hw : Bool) (p : Page) (d : Decoded) (f y yy x : Nat) :
    (s.loadCtb gen).contoneCode hw ctb nm p d f y yy x = s.contoneCode hw ctb nm p d f y yy x := by
  obtain ⟨-, -, -, -, -, reads⟩ := s.loadCtb_frame gen
  unfold State.contoneCode State.thrCell State.thrWord
  simp (disch := decide) only [reads]

/-- The codes of a line of a page (R171, R178). -/
def State.lineOf (s : State) (p : Page) (d : Decoded) (y : Nat) : Tab Nat :=
  pageCodes p.desc.firstCol (p.desc.widthM1 + 1) (fun c =>
    if p.desc.contone = true then s.contoneCode s.compHw (s.ctbGen p.ctbGen) (s.nmGen p.nmGen) p d (s.ratio p) y
      (y - 256 * (y / s.ratio p / 256) * s.ratio p) c
    else rasterCode p d (y - 256 * (y / s.ratio p / 256) * s.ratio p) (c - p.desc.firstCol))

/-- A decoded line is written, and counted where its codes are void (R158, R160). -/
def State.voidCounted (s : State) (p : Page) (d : Decoded) (line y : Nat) : State :=
  let t := (s.tablesLoaded p).writeLine ⟨line, p.pseq, y, s.lineOf p d y, false⟩
  if decide (d.voidFrom < ((y - 256 * (y / s.ratio p / 256) * s.ratio p) / s.ratio p + 1) * d.lb) then
    t.countBy ScrCnt.voidLines ScrCnt.ovf 0 1
  else t

theorem State.voidCounted_eq (s : State) (p : Page) (d : Decoded) (line y : Nat) : ∃ regs ev, s.voidCounted p d line y =
    { (s.tablesLoaded p).writeLine ⟨line, p.pseq, y, s.lineOf p d y, false⟩ with regs := regs, ev := ev } := by
  unfold State.voidCounted
  split
  · exact State.countBy_eq _ _ _ _ _
  · exact ⟨_, _, rfl⟩

/-- A decoded line of a page that prints is written; void lines are counted, and the stripe's last line frees what was decoded. -/
theorem State.screenPageLine_of_decoded {d : Decoded} (prints : ¬(p.closed = true ∨ p.blankFrom.isSome = true ∨
    (p.record.status = 1 ∧ p.record.reason = 4)))
    (decoded : s.codec.decoded.find? (fun d => d.pseq == p.pseq && d.stripe == y / s.ratio p / 256) = some d) (line : Nat) :
    ∃ regs ev codec, s.screenPageLine p line y =
      { (s.tablesLoaded p).writeLine ⟨line, p.pseq, y, s.lineOf p d y, false⟩ with regs := regs, ev := ev, codec := codec } := by
  have codes : (if p.desc.contone = true then
      pageCodes p.desc.firstCol (p.desc.widthM1 + 1) (fun x => (s.tablesLoaded p).contoneCode (s.tablesLoaded p).compHw
        (s.ctbGen p.ctbGen) ((s.tablesLoaded p).nmGen p.nmGen) p d (s.ratio p) y
        (y - 256 * (y / s.ratio p / 256) * s.ratio p) x)
      else pageCodes p.desc.firstCol (p.desc.widthM1 + 1) (fun x =>
        rasterCode p d (y - 256 * (y / s.ratio p / 256) * s.ratio p) (x - p.desc.firstCol))) = s.lineOf p d y := by
    unfold State.lineOf State.tablesLoaded
    split
    next contone =>
      obtain ⟨-, -, force, gens, -⟩ := s.loadCtb_frame p.ctbGen
      have hw : (s.loadCtb p.ctbGen).compHw = s.compHw := by
        unfold State.compHw State.inForce
        rw [force]
      have nm : (s.loadCtb p.ctbGen).nmGen p.nmGen = s.nmGen p.nmGen := by
        unfold State.nmGen
        rw [gens]
      simp only [s.contoneCode_loadCtb, hw, nm]
    next raster => rfl
  have run : s.screenPageLine p line y =
      if y - 256 * (y / s.ratio p / 256) * s.ratio p + 1 = d.lines * s.ratio p then
        let t := s.voidCounted p d line y
        let left := t.codec.decoded.filter (fun e => !(e.pseq == p.pseq && e.stripe == y / s.ratio p / 256))
        { t with codec := { t.codec with decoded := left } }
      else s.voidCounted p d line y := by
    unfold State.screenPageLine State.voidCounted
    dsimp only
    rw [if_neg prints, decoded, ← codes]
    rfl
  rw [run]
  obtain ⟨regs, ev, count⟩ := s.voidCounted_eq p d line y
  split
  · rw [count]
    exact ⟨regs, ev, _, rfl⟩
  · exact ⟨regs, ev, _, count⟩

end

theorem screenLine_decoded (line y : Nat) (p : Page) (d : Decoded) (s : State) (reach : line < s.writerReach) (free : s.bandLine line = none)
    (here : s.pageOfLine line = some (p, y)) (open_ : p.closed = false) (prints : p.blankFrom = none)
    (listed : ¬(p.record.status = 1 ∧ p.record.reason = 4))
    (decoded : s.codec.decoded.find? (fun d => d.pseq == p.pseq && d.stripe == y / s.ratio p / 256) = some d) :
    ∃ t, exec (.screenLine line) s = .next t ∧
      t.bandLine line = some ⟨line, p.pseq, y, pageCodes p.desc.firstCol (p.desc.widthM1 + 1) (fun c =>
        if p.desc.contone = true then s.contoneCode s.compHw (s.ctbGen p.ctbGen) (s.nmGen p.nmGen) p d (s.ratio p) y
          (y - 256 * (y / s.ratio p / 256) * s.ratio p) c
        else rasterCode p d (y - 256 * (y / s.ratio p / 256) * s.ratio p) (c - p.desc.firstCol)), false⟩ ∧
      t.pages = s.pages ∧ t.dram = s.dram ∧ t.scr.written = max s.scr.written (line + 1) := by
  have printing : ¬(p.closed = true ∨ p.blankFrom.isSome = true ∨ (p.record.status = 1 ∧ p.record.reason = 4)) := by
    rintro (closed | blank | spoiled)
    · simp [open_] at closed
    · simp [prints] at blank
    · exact listed spoiled
  obtain ⟨regs, ev, codec, written⟩ := State.screenPageLine_of_decoded printing decoded line
  have loaded : (s.tablesLoaded p).pages = s.pages ∧ (s.tablesLoaded p).dram = s.dram ∧
      (s.tablesLoaded p).scr.written = s.scr.written := by
    unfold State.tablesLoaded
    split
    · obtain ⟨hpages, hdram, -, -, hwritten, -⟩ := s.loadCtb_frame p.ctbGen
      exact ⟨hpages, hdram, hwritten⟩
    · exact ⟨rfl, rfl, rfl⟩
  obtain ⟨hpages, hdram, hwritten⟩ := loaded
  exact ⟨_, next_congr ((State.screenLine_of_page reach free here).trans written),
    (State.bandLine_congr rfl rfl line).trans ((s.tablesLoaded p).bandLine_writeLine ⟨line, p.pseq, y, s.lineOf p d y, false⟩),
    hpages, hdram, congrArg (max · (line + 1)) hwritten⟩

theorem screenLine_blank (line y : Nat) (p : Page) (s : State) (reach : line < s.writerReach) (free : s.bandLine line = none)
    (here : s.pageOfLine line = some (p, y)) (blank : p.blankFrom.isSome = true) :
    ∃ t, exec (.screenLine line) s = .next t ∧ t.bandLine line = some ⟨line, p.pseq, y, [], false⟩ ∧ t = { s with scr := t.scr } :=
  ⟨_, next_congr ((State.screenLine_of_page reach free here).trans (State.screenPageLine_of_blank blank line y)),
    s.bandLine_writeLine ⟨line, p.pseq, y, [], false⟩, rfl⟩

theorem screenLine_far (line : Nat) (s : State) (far : s.writerReach ≤ line) : exec (.screenLine line) s = .next s :=
  next_congr (if_pos (.inl far))

/-! ### The compressors (R168 to R170, R409) -/

theorem State.setCmx_codec (s : State) (m : Nat) (j : Option CmxJob) :
    (s.setCmx m j).codec = { s.codec with cmx := s.codec.cmx.set m j } := by
  unfold State.setCmx
  dsimp only
  split <;> rfl

/-- What CMX_STAT shows of the jobs that wait (R170). -/
def State.queueShown (s : State) (n : Nat) : State := (s.put CmxStat.queued 0 (min 15 n)).put CmxStat.queued 1 (min 15 n)

theorem State.cmxStart_of_free {s : State} {j : CmxJob} {rest : List CmxJob} (waiting : s.codec.waiting = j :: rest)
    (free : s.codec.cmx.getD 0 none = none) :
    s.cmxStart = (State.setCmx { s with codec := { s.codec with waiting := rest } } 0 (some j)).queueShown rest.length := by
  have first : (List.range 2).find? (fun m => (s.codec.cmx.getD m none).isNone) = some 0 := by
    rw [List.range_eq_range', List.range'_succ, List.find?_cons_of_pos (by rw [free]; rfl)]
  unfold State.cmxStart
  rw [waiting]
  dsimp only
  rw [first]
  rfl

theorem cmxJobStart_first (j : CmxJob) (rest : List CmxJob) (s : State) (shaped : s.shaped) (waiting : s.codec.waiting = j :: rest)
    (free : s.codec.cmx.getD 0 none = none) :
    ∃ t, exec .cmxJobStart s = .next t ∧ t.codec.waiting = rest ∧ t.codec.cmx.getD 0 none = some j ∧
      t.codec.cmx.getD 1 none = s.codec.cmx.getD 1 none ∧ t.get CmxStat.level 0 = j.level % 4 ∧ t.get CmxStat.owner 0 = j.owner % 4 ∧
      t = { s with regs := t.regs, codec := t.codec } ∧
      FieldsKept (fun f _ => [CmxStat.level, CmxStat.owner, CmxStat.queued].contains f) s t := by
  have two := (State.shaped_codec shaped).2
  have level : (s.cmxStart).get CmxStat.level 0 = j.level % 4 := by
    rw [State.cmxStart_of_free waiting free]
    simp (disch := decide) only [State.queueShown, State.setCmx, State.get_put_ne, State.get_put_self]
    rfl
  have owner : (s.cmxStart).get CmxStat.owner 0 = j.owner % 4 := by
    rw [State.cmxStart_of_free waiting free]
    simp (disch := decide) only [State.queueShown, State.setCmx, State.get_put_ne, State.get_put_self]
    rfl
  have kept : FieldsKept (fun f _ => [CmxStat.level, CmxStat.owner, CmxStat.queued].contains f) s s.cmxStart := by
    rw [State.cmxStart_of_free waiting free]
    exact ((((FieldsKept.of_regs _ rfl).trans (.put _ 0 _ (f := CmxStat.level) (by decide) (by decide))).trans
      (.put _ 0 _ (f := CmxStat.owner) (by decide) (by decide))).trans (.put _ 0 _ (f := CmxStat.queued) (by decide) (by decide))).trans
      (.put _ 1 _ (f := CmxStat.queued) (by decide) (by decide))
  refine ⟨s.cmxStart, rfl, ?_⟩
  rw [State.cmxStart_of_free waiting free] at level owner kept ⊢
  refine ⟨rfl, ?_, ?_, level, owner, rfl, kept⟩
  · have job : ((s.codec.cmx.set 0 (some j)).getD 0 none) = some j := by simp [two]
    exact job
  · have other : ((s.codec.cmx.set 0 (some j)).getD 1 none) = s.codec.cmx.getD 1 none := by simp
    exact other

/-- A compressor is idle again, and its bytes have been counted. -/
def State.cmxCounted (s : State) (m : Nat) (j : CmxJob) : State :=
  let t := (s.setCmx m none).put CmxIn.v m (s.get CmxIn.v m + j.input.length)
  t.put CmxOut.v m (t.get CmxOut.v m + j.output.length)

theorem State.cmxCounted_frame (s : State) (m : Nat) (j : CmxJob) :
    (s.cmxCounted m j).codec.cmx = s.codec.cmx.set m none ∧ (s.cmxCounted m j).dram = s.dram ∧
    (s.cmxCounted m j).managedBytes = s.managedBytes := by
  refine ⟨congrArg CodecSt.cmx (s.setCmx_codec m none), rfl, ?_⟩
  unfold State.managedBytes State.cmxCounted State.setCmx
  simp (disch := decide) only [State.get_put_ne]
  rfl

theorem State.get_cmxCounted (s : State) (m : Nat) (j : CmxJob) : (s.cmxCounted m j).get CmxStat.owner m = 0 ∧
    (s.cmxCounted m j).get CmxIn.v m = (s.get CmxIn.v m + j.input.length) % 2 ^ 32 ∧
    (s.cmxCounted m j).get CmxOut.v m = (s.get CmxOut.v m + j.output.length) % 2 ^ 32 := by
  unfold State.cmxCounted State.setCmx
  simp (disch := decide) only [State.get_put_ne, State.get_put_self]
  exact ⟨rfl, rfl, rfl⟩

/-- What a job leaves behind goes to the partner, is refused for its place, or is written; the compressors stay as they are, and of the
registers only those of the trace change. -/
theorem State.cmxDone_cases {s : State} {m : Nat} {j : CmxJob} (busy : s.codec.cmx.getD m none = some j) :
    let u := s.cmxCounted m j
    (s.cmxDone m).codec = u.codec ∧ FieldsKept (only [TrcStat.dumpBusy, TrcDumpCtl.len]) u (s.cmxDone m) ∧
    (s.cmxDone m).dram =
      if j.owner = 1 then u.dram else if u.managedBytes < j.dest + j.region then u.dram else writeBytes u.dram j.dest j.output := by
  intro u
  have run : s.cmxDone m =
      if j.owner = 1 then u.sendCol 0x0D (j.output.map fun b => b.toNat)
      else if u.managedBytes < j.dest + j.region then
        if j.owner = 3 then (u.record .mcAddrErr 0 []).put TrcStat.dumpBusy j.tag 0 else u.record .mcAddrErr 0 []
      else if j.owner = 3 then
        ((u.dramWrite j.dest j.output).put TrcDumpCtl.len j.tag j.output.length).put TrcStat.dumpBusy j.tag 0
      else u.dramWrite j.dest j.output := by
    unfold State.cmxDone
    rw [busy]
    rfl
  have recorded : FieldsKept (only [TrcStat.dumpBusy, TrcDumpCtl.len]) u (u.record .mcAddrErr 0 []) :=
    .record u _ 0 [] fun f _ h => by simp [only, h]
  have written : FieldsKept (only [TrcStat.dumpBusy, TrcDumpCtl.len]) u (u.dramWrite j.dest j.output) := .of_regs _ rfl
  have busy {t : State} : FieldsKept (only [TrcStat.dumpBusy, TrcDumpCtl.len]) t (t.put TrcStat.dumpBusy j.tag 0) :=
    .put t _ 0 (by decide) rfl
  have length {t : State} : FieldsKept (only [TrcStat.dumpBusy, TrcDumpCtl.len]) t (t.put TrcDumpCtl.len j.tag j.output.length) :=
    .put t _ _ (by decide) rfl
  rw [run]
  clear_value u
  split
  · exact ⟨by simp, .of_regs _ (by simp), by simp⟩
  · split
    · split
      · exact ⟨by simp, recorded.trans busy, by simp⟩
      · exact ⟨by simp, recorded, by simp⟩
    · split
      · exact ⟨rfl, (written.trans length).trans busy, rfl⟩
      · exact ⟨rfl, written, rfl⟩

theorem cmxJobDone_ends (m : Fin 2) (j : CmxJob) (s : State) (_ : s.shaped) (busy : s.codec.cmx.getD m.val none = some j) :
    ∃ t, exec (.cmxJobDone m) s = .next t ∧
    t.codec.cmx.getD m.val none = none ∧ t.get CmxStat.owner m.val = 0 ∧
    t.get CmxIn.v m.val = (s.get CmxIn.v m.val + j.input.length) % 2 ^ 32 ∧
    t.get CmxOut.v m.val = (s.get CmxOut.v m.val + j.output.length) % 2 ^ 32 ∧
    (j.owner = 2 → j.dest + j.region ≤ s.managedBytes → t.dram = writeBytes s.dram j.dest j.output) ∧
    ((j.owner = 1 ∨ s.managedBytes < j.dest + j.region) → t.dram = s.dram) := by
  obtain ⟨hcodec, hkept, hdram⟩ := State.cmxDone_cases busy
  obtain ⟨hcmx, hstore, hmanaged⟩ := s.cmxCounted_frame m.val j
  obtain ⟨howner, hin, hout⟩ := s.get_cmxCounted m.val j
  rw [hstore, hmanaged] at hdram
  refine ⟨s.cmxDone m.val, rfl, ?_, (hkept .cmxStat _ m.val (by decide) rfl).trans howner,
    (hkept .cmxIn _ m.val (by decide) rfl).trans hin, (hkept .cmxOut _ m.val (by decide) rfl).trans hout, fun inspection fits => ?_, fun h => ?_⟩
  · rw [hcodec, hcmx]
    have free : ((s.codec.cmx.set m.val none).getD m.val none) = none := by
      by_cases there : m.val < s.codec.cmx.length <;> simp [there]
    exact free
  · rw [hdram, if_neg (by omega), if_neg (by omega)]
  · rw [hdram]
    rcases h with twin | beyond
    · exact if_pos twin
    · rw [if_pos beyond, ite_self]

/-- Settles O32: the commands of the decompressors, of the writer and of the compressors, each by what it does where it acts. -/
theorem decodesAndBandRing : Obligations.DecodesAndBandRing := by
  unfold Obligations.DecodesAndBandRing
  exact ⟨stripeVerifyDone_ends, decodeAssign_ends, printDecodeDone_ends, screenLine_decoded, screenLine_blank, screenLine_far,
    cmxJobStart_first, cmxJobDone_ends⟩

end Sys2Proof.Machine
end

section
/-! ## How pages leave: cancelled, aborted, deferred and completed (R135, R136, R142 to R147, R514, R515, R545): O31 -/
namespace Sys2Proof.Machine

/-- Pages of different PSEQ are each found under their own. -/
theorem State.page_of_mem {s : State} (nodup : (s.pages.map (fun p => p.pseq)).Nodup) {p : Page} (held : p ∈ s.pages) :
    s.page p.pseq = some p := by
  cases found : s.page p.pseq with
  | none =>
    have absent : ∀ r ∈ s.pages, ¬(r.pseq == p.pseq) = true := List.find?_eq_none.mp found
    exact absurd (beq_self_eq_true p.pseq) (absent p held)
  | some r => rw [List.inj_on_of_nodup_map nodup (State.mem_of_page found) held (State.pseq_of_page found)]

/-- Nothing leaves an empty ingest buffer. -/
theorem State.drainIngest_of_empty {s : State} (empty : s.ingest.buffer = []) : s.drainIngest = s := by
  rw [State.drainIngest, empty, drainPackets, ← empty]

/-! ### Aborts (R514) -/

theorem State.abortStart_of_idle {s : State} {fn inst : Nat} (idle : s.aborting fn inst = false) :
    s.abortStart fn inst = State.record { s with aborts := s.aborts ++ [(fn, inst, s.now)] } .abort inst [a8 fn] :=
  if_neg (Bool.eq_false_iff.mp idle)

/-- An abort is on from its acknowledgement. -/
theorem State.aborting_abortStart {s : State} {fn inst : Nat} (idle : s.aborting fn inst = false) :
    (s.abortStart fn inst).aborting fn inst = true := by
  rw [State.abortStart_of_idle idle]
  simp [State.aborting]

/-- An abort is over once it has ended. -/
theorem State.aborting_abortEnd (s : State) (fn inst : Nat) : (s.abortEnd fn inst).aborting fn inst = false := by
  unfold State.abortEnd
  split
  next none => simpa [State.aborting] using none
  next =>
    simp only [State.aborting, State.record_frame, List.any_eq_false, List.mem_filter]
    rintro b ⟨-, other⟩ same
    simp [same] at other

theorem State.ev_abortStart {s t : State} {fn inst : Nat} (idle : t.aborting fn inst = false) (alike : RecordsAlike s t) :
    Recorded s (t.abortStart fn inst) .abort inst [a8 fn] := by
  rw [Recorded, State.abortStart_of_idle idle]
  exact RecordsAlike.ev (t := { t with aborts := t.aborts ++ [(fn, inst, t.now)] }) alike _ _ _

theorem ingestAbort_asked (k : Faong) (value : Word) (s : State) (idle : s.aborting 1 0 = false) (asked : DpCtrl.abort.of value = 1) :
    (∃ t, exec (.dpCtrlAbort value) s = .next t ∧ t.aborting 1 0 = true ∧ t.get DpCtrl.creditPeriod 0 = DpCtrl.creditPeriod.of value ∧
      Recorded s t .abort 0 [a8 1] ∧ t.pages = s.pages ∧ t.ingest = s.ingest) ∧
    (faongCheck k = .good → k.typ = 4 → k.arg = 2 → ∃ t, exec (.abortIngest k) s = .next t ∧ t.aborting 1 0 = true ∧
      Recorded s t .abort 0 [a8 1] ∧ t.pages = s.pages) := by
  constructor
  · have idle' : (s.put DpCtrl.creditPeriod 0 (DpCtrl.creditPeriod.of value)).aborting 1 0 = false := idle
    have alike : RecordsAlike s (s.put DpCtrl.creditPeriod 0 (DpCtrl.creditPeriod.of value)) :=
      ⟨rfl, rfl, rfl, rfl, rfl, fun f hf =>
        State.get_put_ne _ ((by decide : ∀ f ∈ recordRegs, DpCtrl.creditPeriod.apart f = true) f hf) 0 0 _⟩
    refine ⟨_, next_congr (if_pos asked), State.aborting_abortStart idle', ?_, State.ev_abortStart idle' alike,
      by simp [State.requestIngestAbort], by simp [State.requestIngestAbort]⟩
    rw [State.requestIngestAbort, State.abortStart_of_idle idle', State.get_record _ _ _ _ _ _ (by decide)]
    exact State.get_put_of_lt s _ 0 (Nat.mod_lt _ (by decide))
  · intro good control abort
    have run : s.packet k = (s.advance k).requestIngestAbort :=
      (State.packet_of_control good control).trans ((if_neg (by omega)).trans (if_pos abort))
    have idle' : (s.advance k).aborting 1 0 = false := idle
    exact ⟨_, next_congr run, State.aborting_abortStart idle', State.ev_abortStart idle' ⟨rfl, rfl, rfl, rfl, rfl, fun _ _ => rfl⟩,
      by simp [State.requestIngestAbort, State.advance]⟩

/-! ### CANCEL and the ingest abort (R144, R147, R545) -/

/-- What is left of a page that has been cancelled. -/
def Page.cancelled (p : Page) : Page := { p.close 3 0 with stripes := [], raw := [] }

theorem State.cancelPage_eq (s : State) (q : Nat) : ∃ ingest : IngestSt, ingest.buffer = s.ingest.buffer ∧
    s.cancelPage q = { (s.stopDecodes q).mapPage q Page.cancelled with ingest := ingest } := by
  have same : (s.stopDecodes q).ingest.buffer = s.ingest.buffer := congrArg IngestSt.buffer (EngineStep.stopDecodes s q).frame.2.1
  unfold State.cancelPage
  extract_lets t mine
  split
  · refine ⟨_, ?_, rfl⟩
    exact same
  · exact ⟨_, same, rfl⟩

theorem State.page_cancelPage {s : State} {q : Nat} {p : Page} (held : s.page q = some p) :
    (s.cancelPage q).page q = some p.cancelled := by
  obtain ⟨ingest, -, h⟩ := s.cancelPage_eq q
  rw [h]
  exact State.page_mapPage _ q (f := Page.cancelled) (fun _ => rfl) (((EngineStep.stopDecodes s q).page q).trans held)

theorem State.page_cancelPage_ne (s : State) {q a : Nat} (other : a ≠ q) : (s.cancelPage q).page a = s.page a := by
  obtain ⟨ingest, -, h⟩ := s.cancelPage_eq q
  rw [h]
  exact (State.page_mapPage_ne _ q (f := Page.cancelled) (fun _ => rfl) other).trans ((EngineStep.stopDecodes s q).page a)

theorem State.pgNext_cancelPage (s : State) (q : Nat) : (s.cancelPage q).pgNext = s.pgNext := by
  obtain ⟨ingest, -, h⟩ := s.cancelPage_eq q
  rw [h]
  have step := EngineStep.stopDecodes s q
  exact State.pgNext_congr (step.get (by decide) (by decide) 0) (step.get (by decide) (by decide) 0)

theorem cancel_ends (k : Faong) (s : State) (good : faongCheck k = .good) (control : k.typ = 4) (cancel : k.arg = 1)
    (empty : s.ingest.buffer = []) : ∃ t, exec (.cancel k) s = .next t ∧
    (s.page k.pseq = none → Recorded s t .pgCancelNone 0 [] ∧ t.pages = s.pages) ∧
    (∀ p, s.page k.pseq = some p → p.scheduled = true → Recorded s t .pgCancelLate 0 [] ∧ t.pages = s.pages) ∧
    (∀ p, s.page k.pseq = some p → p.scheduled = false → p.closed = false → ∃ p', t.page k.pseq = some p' ∧ p'.closed = true ∧
      p'.record.status = 3 ∧ p'.record.reason = 0 ∧ p'.stripes = [] ∧ t.pgNext = s.pgNext ∧ (∀ a, a ≠ k.pseq → t.page a = s.page a)) := by
  have run : s.packet k = (s.advance k).takeCancel k.pseq := (State.packet_of_control good control).trans (if_pos cancel)
  have alike : RecordsAlike s (s.advance k) := ⟨rfl, rfl, rfl, rfl, rfl, fun _ _ => rfl⟩
  have same : (s.advance k).page k.pseq = s.page k.pseq := rfl
  refine ⟨_, next_congr run, fun absent => ?_, fun p held late => ?_, fun p held waits open_ => ?_⟩
  · have taken : (s.advance k).takeCancel k.pseq = (s.advance k).record .pgCancelNone 0 [] := by rw [State.takeCancel, same, absent]
    rw [taken]
    exact ⟨alike.ev _ _ _, by simp [State.advance]⟩
  · have taken : (s.advance k).takeCancel k.pseq = (s.advance k).record .pgCancelLate 0 [] := by
      rw [State.takeCancel, same, held]
      exact if_pos late
    rw [taken]
    exact ⟨alike.ev _ _ _, by simp [State.advance]⟩
  · have left : ((s.advance k).cancelPage k.pseq).ingest.buffer = [] := by
      obtain ⟨ingest, kept, h⟩ := (s.advance k).cancelPage_eq k.pseq
      rw [h]
      exact kept.trans empty
    have taken : (s.advance k).takeCancel k.pseq = (s.advance k).cancelPage k.pseq := by
      rw [State.takeCancel, same, held]
      dsimp only
      rw [if_neg (by simp [waits]), if_neg (by simp [open_]), State.drainIngest_of_empty left]
    rw [taken]
    exact ⟨p.cancelled, State.page_cancelPage held, rfl, rfl, rfl, rfl, State.pgNext_cancelPage _ _,
      fun a other => State.page_cancelPage_ne _ other⟩

/-- The pages that an ingest abort cancels: those not admitted, and the one being received. -/
def State.abortedPages (s : State) : List Nat :=
  (s.pages.filter (fun p => !p.admitted && !p.closed && !p.scheduled)).map (fun p => p.pseq) ++
  match s.ingest.receiving with
  | some (q, _, _) => match s.page q with
    | some p => if p.scheduled ∨ p.closed then [] else [q]
    | none => []
  | none => []

theorem State.ingestAbort_of_aborting {s : State} (on : s.aborting 1 0 = true) : ∃ ingest : IngestSt, ingest.buffer = [] ∧
    ingest.receiving = none ∧ ingest.rewind = none ∧
    s.ingestAbort = State.abortEnd { s.abortedPages.foldl (fun t q => t.cancelPage q) s with ingest := ingest } 1 0 :=
  ⟨_, rfl, rfl, rfl, if_pos on⟩

theorem State.mem_abortedPages {s : State} {p : Page} (held : p ∈ s.pages) (waits : p.admitted = false) (open_ : p.closed = false)
    (unscheduled : p.scheduled = false) : p.pseq ∈ s.abortedPages :=
  List.mem_append_left _ (List.mem_map_of_mem (List.mem_filter.mpr ⟨held, by simp [waits, open_, unscheduled]⟩))

theorem State.not_mem_abortedPages {s : State} (nodup : (s.pages.map (fun p => p.pseq)).Nodup) {p : Page} (held : p ∈ s.pages)
    (stays : p.admitted = true ∨ p.closed = true ∨ p.scheduled = true) (other : ∀ i c, s.ingest.receiving ≠ some (p.pseq, i, c)) :
    p.pseq ∉ s.abortedPages := by
  intro aborted
  rcases List.mem_append.mp aborted with waits | received
  · obtain ⟨r, hr, same⟩ := List.mem_map.mp waits
    obtain ⟨here, out⟩ := List.mem_filter.mp hr
    obtain rfl := List.inj_on_of_nodup_map nodup here held same
    rcases stays with h | h | h <;> simp [h] at out
  · split at received
    next q i c receiving =>
      have same : p.pseq = q := by
        split at received
        · split at received
          · exact absurd received List.not_mem_nil
          · exact List.mem_singleton.mp received
        · exact absurd received List.not_mem_nil
      exact other i c (same ▸ receiving)
    next => exact absurd received List.not_mem_nil

/-- A page that some round of the fold cancels is cancelled at its end, be it more than once. -/
theorem foldl_cancelPage {l : List Nat} {s : State} {q : Nat} (here : q ∈ l) {p : Page} (held : s.page q = some p) :
    ∃ r : Page, (l.foldl (fun t a => t.cancelPage a) s).page q = some r.cancelled := by
  have keeps (t : State) (a : Nat) (h : ∃ r : Page, t.page q = some r.cancelled) : ∃ r : Page, (t.cancelPage a).page q = some r.cancelled := by
    obtain ⟨r, h⟩ := h
    by_cases same : q = a
    · exact ⟨r.cancelled, same ▸ State.page_cancelPage (same ▸ h)⟩
    · exact ⟨r, (State.page_cancelPage_ne t same).trans h⟩
  induction l generalizing s p with
  | nil => exact absurd here List.not_mem_nil
  | cons a l ih =>
    rw [List.foldl_cons]
    by_cases same : q = a
    · subst same
      exact List.foldlRecOn l _ (motive := fun t => ∃ r : Page, t.page q = some r.cancelled)
        ⟨p, State.page_cancelPage held⟩ fun t h b _ => keeps t b h
    · exact ih ((List.mem_cons.mp here).resolve_left same) ((State.page_cancelPage_ne s same).trans held)

theorem ingestAbort_ends (s : State) (on : s.aborting 1 0 = true) (nodup : (s.pages.map (fun p => p.pseq)).Nodup) :
    ∃ t, exec .ingestAbortEffect s = .next t ∧
    t.aborting 1 0 = false ∧ t.ingest.buffer = [] ∧ t.ingest.receiving = none ∧ t.ingest.rewind = none ∧ t.pgNext = s.pgNext ∧
    (∀ p ∈ s.pages, p.admitted = false → p.closed = false → p.scheduled = false → ∃ p', t.page p.pseq = some p' ∧ p'.closed = true ∧
      p'.record.status = 3 ∧ p'.stripes = []) ∧
    (∀ p ∈ s.pages, (p.admitted = true ∨ p.closed = true ∨ p.scheduled = true) → (∀ i c, s.ingest.receiving ≠ some (p.pseq, i, c)) →
      t.page p.pseq = some p) := by
  obtain ⟨ingest, hbuffer, hreceiving, hrewind, run⟩ := State.ingestAbort_of_aborting on
  have next : (s.abortedPages.foldl (fun t q => t.cancelPage q) s).pgNext = s.pgNext :=
    foldl_keeps State.pgNext (fun t q => t.pgNext_cancelPage q) _ s
  have ended (t : State) : (t.abortEnd 1 0).pgNext = t.pgNext ∧ ∀ q, (t.abortEnd 1 0).page q = t.page q := by
    refine ⟨?_, State.page_congr (by simp)⟩
    unfold State.abortEnd
    split
    · rfl
    · exact State.pgNext_congr (State.get_record _ _ _ _ _ _ (by decide)) (State.get_record _ _ _ _ _ _ (by decide))
  refine ⟨_, next_congr run, State.aborting_abortEnd _ 1 0, by simp [hbuffer], by simp [hreceiving], by simp [hrewind],
    (ended _).1.trans next, fun p held waits open_ unscheduled => ?_, fun p held stays other => ?_⟩
  · obtain ⟨r, cancelled⟩ := foldl_cancelPage (State.mem_abortedPages held waits open_ unscheduled) (State.page_of_mem nodup held)
    exact ⟨r.cancelled, ((ended _).2 _).trans cancelled, rfl, rfl, rfl⟩
  · have passed : (s.abortedPages.foldl (fun t q => t.cancelPage q) s).page p.pseq = s.page p.pseq :=
      foldl_passes (R := fun u v : State => v.page p.pseq = u.page p.pseq) (fun _ => rfl) (fun h h' => h'.trans h)
        (fun t _ other => t.page_cancelPage_ne (Ne.symm other)) (State.not_mem_abortedPages nodup held stays other) s
    exact ((ended _).2 _).trans (passed.trans (State.page_of_mem nodup held))

theorem ingestAbort_idle (s : State) (idle : s.aborting 1 0 = false) : exec .ingestAbortEffect s = .next s :=
  next_congr (if_neg (by simp [idle]))

/-! ### DEFER_MAX (R135) -/

theorem startDeferTimeout_admits (p : Page) (s : State) (acting : s.acting = true) (held : s.page p.pseq = some p)
    (mode : p.desc.startMode ≠ 0) (waits : p.admitted = false) (unscheduled : p.scheduled = false) (open_ : p.closed = false) :
    ∃ t p', exec (.startDeferTimeout p.pseq) s = .next t ∧ t.page p.pseq = some p' ∧ p'.admitted = true ∧
      p'.admittedLine = s.writerReach ∧ p'.deferred = true ∧ p'.record.flags / 8 % 2 = 1 ∧ t = { s with pages := t.pages } := by
  have admitted : (s.admitPage p.pseq).page p.pseq =
      some { p with admitted := true, admittedLine := s.writerReach, admittedAt := s.now } := by
    refine (s.page_mapPage p.pseq (fun r => ?_) held).trans (congrArg some (if_neg (by simp [waits, open_])))
    split <;> rfl
  have run : (match s.page p.pseq with
      | none => s
      | some p' => if s.acting ∧ p'.desc.startMode ≠ 0 ∧ ¬p'.admitted ∧ ¬p'.scheduled ∧ ¬p'.closed then
          (s.admitPage p.pseq).mapPage p.pseq (fun q => { q.setFlag 3 with deferred := true })
        else s) = (s.admitPage p.pseq).mapPage p.pseq (fun q => { q.setFlag 3 with deferred := true }) := by
    rw [held]
    exact if_pos (by simp [acting, mode, waits, unscheduled, open_])
  exact ⟨_, _, next_congr run, State.page_mapPage _ _ (f := fun q => { q.setFlag 3 with deferred := true }) (fun _ => rfl) admitted, rfl, rfl, rfl, PageRecord.flag_set p.record 3, rfl⟩

/-! ### PG_ABORT (R515) -/

/-- Where a page is first blanked follows from the nozzle map and from what has been assembled. -/
theorem State.firstBlanked_congr {s t : State} (gens : t.scr.nmGens = s.scr.nmGens) (next : t.ff.next = s.ff.next) (p : Page) :
    t.firstBlanked p = s.firstBlanked p := by
  unfold State.firstBlanked State.nextLine State.nmGen
  rw [gens, next]

/-- What is left of a page aborted from line `y` on. -/
def Page.aborted (p : Page) (y : Option Nat) : Page :=
  { p with blankFrom := some (y.getD 0), record := { p.record with status := 4, reason := 0, spoilLine := y } }

theorem State.abortPage_of_held {s : State} {q : Nat} {p : Page} (held : s.page q = some p) :
    s.abortPage q = (s.stopDecodes q).mapPage q (fun r => r.aborted (s.firstBlanked p)) := by
  rw [State.abortPage, held]
  rfl

/-- An abort of a page changes no other page and nothing that says where a page is blanked. -/
theorem State.abortPage_frame (s : State) (q : Nat) : (∀ a, a ≠ q → (s.abortPage q).page a = s.page a) ∧
    (s.abortPage q).pages.length = s.pages.length ∧ ∀ p, (s.abortPage q).firstBlanked p = s.firstBlanked p := by
  obtain ⟨hpages, -, -, -, -, hff, hscr, -⟩ := (EngineStep.stopDecodes s q).frame
  cases held : s.page q with
  | none =>
    rw [State.abortPage, held]
    exact ⟨fun _ _ => rfl, rfl, fun _ => rfl⟩
  | some p =>
    rw [State.abortPage_of_held held]
    refine ⟨fun a other => (State.page_mapPage_ne _ q (f := fun r => r.aborted (s.firstBlanked p)) (fun _ => rfl) other).trans
      (State.page_congr hpages a), ?_, State.firstBlanked_congr (congrArg ScreenSt.nmGens hscr) (congrArg FetchSt.next hff)⟩
    simp [State.mapPage, hpages]

theorem State.page_abortPage {s : State} {q : Nat} {p : Page} (held : s.page q = some p) :
    (s.abortPage q).page q = some (p.aborted (s.firstBlanked p)) := by
  rw [State.abortPage_of_held held]
  exact State.page_mapPage _ q (f := fun r => r.aborted (s.firstBlanked p)) (fun _ => rfl) (((EngineStep.stopDecodes s q).page q).trans held)

/-- The scheduled pages of which some line has still to be dispatched. -/
def State.dispatching (s : State) : List Nat :=
  (s.pages.filter (fun p => p.scheduled && !p.closed && p.blankFrom.isNone && (s.firstBlanked p).isSome)).map (fun p => p.pseq)

theorem State.abortPages_scheduled (s : State) : s.abortPages false = s.dispatching.foldl (fun t q => t.abortPage q) s := by
  rw [State.dispatching, List.foldl_map]
  rfl

theorem State.abortPages_facts (s : State) (nodup : (s.pages.map (fun p => p.pseq)).Nodup) :
    (s.abortPages false).pages.length = s.pages.length ∧ ∀ p ∈ s.pages,
      (∀ y, p.scheduled = true → p.closed = false → p.blankFrom = none → s.firstBlanked p = some y →
        (s.abortPages false).page p.pseq = some (p.aborted (some y))) ∧
      (p.scheduled = false → (s.abortPages false).page p.pseq = some p) := by
  rw [s.abortPages_scheduled]
  have once : s.dispatching.Nodup := List.Nodup.sublist (List.filter_sublist.map _) nodup
  refine ⟨foldl_keeps (fun t => t.pages.length) (fun t q => (t.abortPage_frame q).2.1) _ s, fun p held => ⟨fun y scheduled open_ prints line => ?_,
    fun waits => ?_⟩⟩
  · have here : p.pseq ∈ s.dispatching :=
      List.mem_map_of_mem (List.mem_filter.mpr ⟨held, by simp [scheduled, open_, prints, line]⟩)
    refine foldl_visits (before := fun t : State => t.page p.pseq = some p ∧ t.firstBlanked p = some y)
      (after := fun t : State => t.page p.pseq = some (p.aborted (some y))) (fun t before => ?_) (fun t q other before => ?_) (fun t q other after => ?_)
      once here ⟨State.page_of_mem nodup held, line⟩
    · rw [State.page_abortPage before.1, before.2]
    · obtain ⟨others, -, lines⟩ := t.abortPage_frame q
      exact ⟨(others _ (Ne.symm other)).trans before.1, (lines p).trans before.2⟩
    · exact ((t.abortPage_frame q).1 _ (Ne.symm other)).trans after
  · have away : p.pseq ∉ s.dispatching := by
      intro here
      obtain ⟨r, hr, same⟩ := List.mem_map.mp here
      obtain ⟨there, out⟩ := List.mem_filter.mp hr
      obtain rfl := List.inj_on_of_nodup_map nodup there held same
      simp [waits] at out
    have passed := foldl_passes (R := fun u v : State => v.page p.pseq = u.page p.pseq) (fun _ => rfl) (fun h h' => h'.trans h)
      (fun t q other => (t.abortPage_frame q).1 p.pseq (Ne.symm other)) away s
    exact passed.trans (State.page_of_mem nodup held)

theorem pgAbort_blanks (value : Word) (s : State) (key : keyOk value = true) (go : PgAbort.go.of value = 1) :
    (s.role = roleStandby → exec (.pgAbort value) s = .next (s.record .pgAbortRefused 0 [])) ∧
    (s.role ≠ roleStandby → PgAbort.held.of value = 0 → s.aborting 0 0 = false → (s.pages.map (fun p => p.pseq)).Nodup →
      ∃ t, exec (.pgAbort value) s = .next t ∧ t.aborting 0 0 = false ∧ t.pages.length = s.pages.length ∧
        ∀ p ∈ s.pages, (∀ y, p.scheduled = true → p.closed = false → p.blankFrom = none → s.firstBlanked p = some y →
            ∃ p', t.page p.pseq = some p' ∧ p'.blankFrom = some y ∧ p'.record.status = 4 ∧ p'.record.spoilLine = some y ∧
              p'.first = p.first ∧ p'.lines = p.lines) ∧
          (p.scheduled = false → t.page p.pseq = some p)) := by
  have taken : ¬(¬keyOk value = true ∨ PgAbort.go.of value ≠ 1) := by simp [key, go]
  constructor
  · intro standby
    exact next_congr ((if_neg taken).trans (if_pos standby))
  · intro able keep _ nodup
    have pages : (s.abortStart 0 0).pages = s.pages := by simp
    have lines (p : Page) : (s.abortStart 0 0).firstBlanked p = s.firstBlanked p :=
      State.firstBlanked_congr (by simp) (by simp) p
    obtain ⟨length, aborted⟩ := (s.abortStart 0 0).abortPages_facts (pages ▸ nodup)
    rw [pages] at length aborted
    have run : ∃ twin, s.writePgAbort value = State.abortEnd { (s.abortStart 0 0).abortPages false with twin := twin } 0 0 := by
      unfold State.writePgAbort
      rw [if_neg taken, if_neg able, keep]
      dsimp only
      split
      · exact ⟨_, rfl⟩
      · exact ⟨_, rfl⟩
    obtain ⟨twin, run⟩ := run
    have ended : (State.abortEnd { (s.abortStart 0 0).abortPages false with twin := twin } 0 0).pages =
        ((s.abortStart 0 0).abortPages false).pages := by simp
    refine ⟨_, next_congr run, State.aborting_abortEnd _ 0 0, (congrArg List.length ended).trans length, fun p held => ?_⟩
    obtain ⟨blanked, left⟩ := aborted p held
    refine ⟨fun y scheduled open_ prints line => ?_, fun waits => (State.page_congr ended _).trans (left waits)⟩
    exact ⟨_, (State.page_congr ended _).trans (blanked y scheduled open_ prints ((lines p).trans line)), rfl, rfl, rfl, rfl, rfl⟩

theorem pgAbort_wrongKey (value : Word) (s : State) (key : keyOk value = false) : exec (.pgAbort value) s = .next s :=
  next_congr (if_pos (.inl (by simp [key])))

/-! ### Completion (R136, R142) -/

/-- The record of a page is sent, the page is gone, and PG_DONE names it. -/
def State.doneWith (s : State) (p : Page) : State :=
  State.put64 { s.send (.dp 0x11 p.recordArgs) with pages := s.pages.filter (fun q => q.pseq != p.pseq) } PgDoneLo.v PgDoneHi.v 0 p.pseq

theorem State.completion_of_ready {p : Page} {rest : List Page} {s : State} (first : s.pages = p :: rest) (ready : s.recordReady p = true)
    (acting : s.acting = true) (up : s.ingest.up = true) (empty : s.ingest.buffer = []) :
    s.completion = if p.record.status = 1 then (s.doneWith p).count PgCnt.spoiled PgCnt.ovf 0 else s.doneWith p := by
  have left : (if p.record.status = 1 then (s.doneWith p).count PgCnt.spoiled PgCnt.ovf 0 else s.doneWith p).ingest.buffer = [] := by
    split
    · simp [State.doneWith, State.send, empty]
    · exact empty
  have run : s.completion = (if p.record.status = 1 then (s.doneWith p).count PgCnt.spoiled PgCnt.ovf 0 else s.doneWith p).drainIngest := by
    rw [State.completion, first]
    dsimp only
    rw [if_pos ready, if_pos acting, if_pos up]
    rfl
  rw [run, State.drainIngest_of_empty left]

theorem State.doneWith_facts (s : State) (p : Page) : (s.doneWith p).get64 PgDoneLo.v PgDoneHi.v 0 = p.pseq % 2 ^ 64 ∧
    (s.doneWith p).get PgCnt.spoiled 0 = s.get PgCnt.spoiled 0 ∧
    FieldsKept (only [PgDoneLo.v, PgDoneHi.v, PgCnt.spoiled, PgCnt.ovf]) s (s.doneWith p) := by
  have kept : FieldsKept (only [PgDoneLo.v, PgDoneHi.v]) s (s.doneWith p) :=
    ((FieldsKept.of_regs _ rfl).trans (.put _ 0 _ (f := PgDoneLo.v) (by decide) (by decide))).trans
      (.put _ 0 _ (f := PgDoneHi.v) (by decide) (by decide))
  exact ⟨State.get64_put64 _ (by decide) rfl rfl 0 _, kept _ PgCnt.spoiled 0 (by decide : _ ∈ Reg.pgCnt.fields) (by decide),
    kept.mono (only_mono (by simp))⟩

theorem completion_sends (p : Page) (rest : List Page) (s : State) (first : s.pages = p :: rest) (ready : s.recordReady p = true)
    (acting : s.acting = true) (up : s.ingest.up = true) (empty : s.ingest.buffer = []) :
    ∃ t, exec .completion s = .next t ∧ t.sent = .dp 0x11 p.recordArgs :: s.sent ∧
      t.pages = s.pages.filter (fun q => q.pseq != p.pseq) ∧ t.get64 PgDoneLo.v PgDoneHi.v 0 = p.pseq % 2 ^ 64 ∧
      t.get PgCnt.spoiled 0 = (if p.record.status = 1 then satAdd 16 (s.get PgCnt.spoiled 0) 1 else s.get PgCnt.spoiled 0) ∧
      t.dram = s.dram ∧ FieldsKept (only [PgDoneLo.v, PgDoneHi.v, PgCnt.spoiled, PgCnt.ovf]) s t := by
  obtain ⟨done, spoiled, kept⟩ := s.doneWith_facts p
  refine ⟨_, next_congr (State.completion_of_ready first ready acting up empty), ?_⟩
  split
  next =>
    have lo : ((s.doneWith p).count PgCnt.spoiled PgCnt.ovf 0).get PgDoneLo.v 0 = (s.doneWith p).get PgDoneLo.v 0 :=
      State.get_countBy_ne _ 0 1 (by decide) (by decide) (by decide) 0
    have hi : ((s.doneWith p).count PgCnt.spoiled PgCnt.ovf 0).get PgDoneHi.v 0 = (s.doneWith p).get PgDoneHi.v 0 :=
      State.get_countBy_ne _ 0 1 (by decide) (by decide) (by decide) 0
    refine ⟨by simp [State.doneWith, State.send], by simp [State.doneWith, State.send], ?_, ?_, by simp [State.doneWith, State.send],
      kept.trans (.countBy _ 0 1 (by decide) (by decide) (by decide) (by decide) fun f _ recorded => by simp [only, recorded])⟩
    · rw [State.get64, lo, hi]
      exact done
    · exact (State.get_countBy _ 0 1 (by decide) (by decide)).trans (congrArg (satAdd 16 · 1) spoiled)
  next => exact ⟨rfl, rfl, done, spoiled, rfl, kept⟩

theorem completion_passive (s : State) (passive : s.acting = false) : exec .completion s = .next s := by
  refine next_congr ?_
  unfold State.completion
  split
  · rfl
  · split
    · exact if_neg (by simp [passive])
    · rfl

end Sys2Proof.Machine
end

section
/-! ## How a page is scheduled (R135, R183, R232, R543): O31 -/
namespace Sys2Proof.Machine

/-- A staged field is in force from its boundary. -/
theorem State.inForce_enforce (s : State) (f : Fld) (i : Nat) : (s.enforce f i).inForce f i = s.get f i := by
  have stored : Tab.get (f.resetAt i) (Tab.set (f.resetAt i) s.force (f.key i) (s.get f i)) (f.key i) = s.get f i := by
    rw [Tab.get_set, if_pos rfl]
  exact (congrArg (· % 2 ^ f.width) stored).trans (Nat.mod_eq_of_lt (s.get_lt f i))

/-! ### What a placement sets going -/

/-- The pages, the settings in force, DRAM and the numbers of the generations last bound are as they were. -/
structure PlanKept (s t : State) : Prop where
  pages : t.pages = s.pages
  force : t.force = s.force
  dram : t.dram = s.dram
  nm : t.get NmGenCur.v 0 = s.get NmGenCur.v 0
  ctb : t.get ScrGenCur.v 0 = s.get ScrGenCur.v 0

namespace PlanKept

theorem refl (s : State) : PlanKept s s := ⟨rfl, rfl, rfl, rfl, rfl⟩

theorem trans {s t u : State} (h : PlanKept s t) (h' : PlanKept t u) : PlanKept s u :=
  ⟨h'.pages.trans h.pages, h'.force.trans h.force, h'.dram.trans h.dram, h'.nm.trans h.nm, h'.ctb.trans h.ctb⟩

theorem record (s : State) (c : EvCode) (n : Nat) (l : List EvArg) : PlanKept s (s.record c n l) :=
  ⟨by simp, by simp, by simp, State.get_record _ _ _ _ _ _ (by decide), State.get_record _ _ _ _ _ _ (by decide)⟩

theorem of_queue {p : Nat} {s t : State} (h : QueueStep p s t) : PlanKept s t := by
  have nm := h.get (f := NmGenCur.v) (i := 0) (by decide) (by decide)
  have ctb := h.get (f := ScrGenCur.v) (i := 0) (by decide) (by decide)
  exact ⟨by rw [h.1], by rw [h.1], by rw [h.1], nm, ctb⟩

theorem of_nm {s t : State} (h : NmKept s t) : PlanKept s t :=
  ⟨by rw [h.1], by rw [h.1], by rw [h.1], h.2 _ NmGenCur.v 0 (by decide : _ ∈ Reg.nmGenCur.fields) (by decide),
    h.2 _ ScrGenCur.v 0 (by decide : _ ∈ Reg.scrGenCur.fields) (by decide)⟩

end PlanKept

theorem QueueStep.sendRowFractions {p : Nat} (s : State) (g : TableGen) (first : Nat) : QueueStep p s (s.sendRowFractions p g first) := by
  unfold State.sendRowFractions
  extract_lets x df diff u
  split
  · exact refl s
  · exact (queueReq s _ _).trans (mapPort _ fun _ => rfl)

theorem QueueStep.wakeIfDue {p : Nat} (s : State) : QueueStep p s (s.wakeIfDue p) := by
  unfold State.wakeIfDue
  split
  · exact wakePort s
  · exact refl s

theorem NmKept.analyserCommit (s : State) : NmKept s s.analyserCommit := by
  have noted (retry : Bool) : NmKept s { s with ins := { s.ins with retry := retry } } := .of_eq ⟨_, _, _, _, rfl⟩
  unfold State.analyserCommit
  dsimp only
  split
  · exact noted false
  · split
    · exact noted true
    · exact (noted false).trans (.commitNm _ _ true)

theorem PlanKept.afterPlace (s : State) (f nm : Nat) : PlanKept s (s.afterPlace f nm) := by
  unfold State.afterPlace
  extract_lets g told retried
  have htold : PlanKept s told := foldl_rel refl trans (fun t p => by
    split
    · exact of_queue (((QueueStep.wakeIfDue t).trans (.sendTrims _ g f)).trans (.sendRowFractions _ g f))
    · exact refl t) _ s
  have hretried : PlanKept told retried := by
    dsimp only [retried]
    split
    · exact of_nm (.analyserCommit told)
    · exact refl told
  have htrimmed (t : State) : PlanKept t t.trimGens := ⟨rfl, rfl, rfl, rfl, rfl⟩
  exact (htold.trans hretried).trans (htrimmed retried)

/-! ### The placing -/

/-- A page has its first line and its generations. -/
def Page.PlacedAt (line nm ctb : Nat) (absorbed : Bool) (p : Page) : Prop :=
  p.scheduled = true ∧ p.first = line ∧ p.absorbed = absorbed ∧ p.nmGen = nm ∧ p.ctbGen = ctb

/-- Page `q` has been placed, and the other pages, DRAM, the registers and the settings in force are as they were. -/
structure Placing (q line nm ctb : Nat) (absorbed : Bool) (s t : State) : Prop where
  placed : ∃ p, t.page q = some p ∧ Page.PlacedAt line nm ctb absorbed p
  others : ∀ a, a ≠ q → t.page a = s.page a
  dram : t.dram = s.dram
  regs : t.regs = s.regs
  force : t.force = s.force

/-- Page `q` has been placed, its generations are the ones last bound, and COMP_MODE has taken effect (R132, R232). -/
structure Bound (q line nm ctb : Nat) (absorbed : Bool) (s t : State) : Prop where
  placed : ∃ p, t.page q = some p ∧ Page.PlacedAt line nm ctb absorbed p
  others : ∀ a, a ≠ q → t.page a = s.page a
  dram : t.dram = s.dram
  nm : t.get NmGenCur.v 0 = nm % 2 ^ 32
  ctb : t.get ScrGenCur.v 0 = ctb % 2 ^ 32
  mode : t.inForce ScrCtrl.compMode 0 = s.get ScrCtrl.compMode 0

section
variable {s t u : State} {q line nm ctb : Nat} {absorbed : Bool} {f : Page → Page}

/-- Placing a page (R232, R543). -/
theorem Placing.of_mapPage {p : Page} (held : s.page q = some p) (keeps : ∀ p, (f p).pseq = p.pseq)
    (places : ∀ p, Page.PlacedAt line nm ctb absorbed (f p)) : Placing q line nm ctb absorbed s (s.mapPage q f) :=
  ⟨⟨f p, s.page_mapPage q keeps held, places p⟩, fun _ => s.page_mapPage_ne q keeps, rfl, rfl, rfl⟩

theorem Placing.mapPage (h : Placing q line nm ctb absorbed s t) (keeps : ∀ p, (f p).pseq = p.pseq)
    (stays : ∀ p, Page.PlacedAt line nm ctb absorbed p → Page.PlacedAt line nm ctb absorbed (f p)) :
    Placing q line nm ctb absorbed s (t.mapPage q f) := by
  obtain ⟨p, held, placed⟩ := h.placed
  exact ⟨⟨f p, t.page_mapPage q keeps held, stays p placed⟩, fun a other => (t.page_mapPage_ne q keeps other).trans (h.others a other),
    h.dram, h.regs, h.force⟩

theorem Placing.makeTrailer (h : Placing q line nm ctb absorbed s t) (p : Page) : Placing q line nm ctb absorbed s (t.makeTrailer p) := by
  unfold State.makeTrailer
  split
  · exact ⟨h.placed, h.others, h.dram, h.regs, h.force⟩
  · exact h

theorem Placing.bound (h : Placing q line nm ctb absorbed s t) :
    Bound q line nm ctb absorbed s (((t.put NmGenCur.v 0 nm).put ScrGenCur.v 0 ctb).enforce ScrCtrl.compMode 0) := by
  refine ⟨h.placed, h.others, h.dram, ?_, ?_, ?_⟩
  · rw [State.get_enforce, State.get_put_ne _ (by decide), State.get_put_self]
    rfl
  · rw [State.get_enforce, State.get_put_self]
    rfl
  · rw [State.inForce_enforce, State.get_put_ne _ (by decide), State.get_put_ne _ (by decide), State.get_congr h.regs]

/-- The flags of a placed page leave its place alone. -/
theorem Bound.mapPage (h : Bound q line nm ctb absorbed s t) (keeps : ∀ p, (f p).pseq = p.pseq)
    (stays : ∀ p, Page.PlacedAt line nm ctb absorbed p → Page.PlacedAt line nm ctb absorbed (f p)) :
    Bound q line nm ctb absorbed s (t.mapPage q f) := by
  obtain ⟨p, held, placed⟩ := h.placed
  exact ⟨⟨f p, t.page_mapPage q keeps held, stays p placed⟩, fun a other => (t.page_mapPage_ne q keeps other).trans (h.others a other),
    h.dram, h.nm, h.ctb, h.mode⟩

theorem Bound.kept (h : Bound q line nm ctb absorbed s t) (kept : PlanKept t u) : Bound q line nm ctb absorbed s u := by
  have page (a : Nat) : u.page a = t.page a := State.page_congr kept.pages a
  refine ⟨by simpa only [page] using h.placed, fun a other => (page a).trans (h.others a other), kept.dram.trans h.dram,
    kept.nm.trans h.nm, kept.ctb.trans h.ctb, ?_⟩
  rw [← h.mode, State.inForce, State.inForce, kept.force]

theorem Bound.of_place {p : Page} (held : s.page q = some p) :
    Bound q line nm ctb absorbed s (s.place q line nm ctb absorbed) := by
  unfold State.place
  extract_lets set
  have hset : Placing q line nm ctb absorbed s set := .of_mapPage held (fun _ => rfl) fun _ => ⟨rfl, rfl, rfl, rfl, rfl⟩
  obtain ⟨p', held', -⟩ := hset.placed
  rw [held']
  dsimp -zeta only
  extract_lets spoilt trailed
  have hspoilt : Placing q line nm ctb absorbed s spoilt := by
    dsimp only [spoilt]
    split
    · exact hset
    · exact hset.mapPage (fun _ => rfl) fun _ h => h
  have htrailed : Placing q line nm ctb absorbed s trailed := by
    dsimp only [trailed]
    split
    · exact hspoilt.makeTrailer p'
    · exact hspoilt
  have hreach : Placing q line nm ctb absorbed s { trailed with scr :=
      { trailed.scr with placed := some (trailed.pageEnd p'), policy := p'.desc.overspeed } } :=
    ⟨htrailed.placed, htrailed.others, htrailed.dram, htrailed.regs, htrailed.force⟩
  exact hreach.bound.kept ⟨rfl, rfl, rfl, rfl, rfl⟩

end

/-- What follows the placing of a page leaves it in its place. -/
theorem State.pageSchedule_bound {p : Page} {f0 line : Nat} {s : State} (acting : s.acting = true) (running : s.running = true)
    (up : s.rst.pathDown = false) (resumed : s.mc.resumeDue = false) (locked : s.mode ≠ 0) (next : s.nextPage = some p)
    (held : s.page p.pseq = some p) {absorbed : Bool} (absorb : (s.flag FpeStat.absorb 0 && p.desc.flag 5) = absorbed)
    (start : s.startLine { p with absorbed := absorbed } = some f0) (adjusted : s.adjusted { p with absorbed := absorbed } f0 = line)
    (reach : line < s.writerReach) :
    Bound p.pseq line (s.pageGens { p with absorbed := absorbed } line).1 (s.pageGens { p with absorbed := absorbed } line).2 absorbed s
      (s.pageSchedule line) := by
  unfold State.pageSchedule
  rw [if_neg (by simp [acting, running, up, resumed, locked]), next]
  dsimp only
  rw [absorb, start]
  dsimp only
  rw [adjusted, if_neg (by simp [reach])]
  refine .kept ?_ (.afterPlace _ _ _)
  have noted (t : State) (due : Prop) [Decidable due] (c : EvCode) (l : List EvArg) : PlanKept t (if due then t.record c 0 l else t) := by
    split
    · exact .record t c 0 l
    · exact .refl t
  have told (t : State) (x : TwinSt) : PlanKept t { t with twin := x } := ⟨rfl, rfl, rfl, rfl, rfl⟩
  refine .kept (.kept (.kept (.mapPage (.of_place held) (fun r => ?_) (fun r placed => ?_)) (noted _ _ _ _)) (told _ _)) (told _ _)
  · split <;> split <;> rfl
  · split <;> split <;> exact placed

theorem pageSchedule_places (p : Page) (f0 line : Nat) (s : State) (acting : s.acting = true) (running : s.running = true)
    (up : s.rst.pathDown = false) (resumed : s.mc.resumeDue = false) (locked : s.mode ≠ 0) (next : s.nextPage = some p)
    (held : s.page p.pseq = some p)
    (start : s.startLine { p with absorbed := s.flag FpeStat.absorb 0 && p.desc.flag 5 } = some f0)
    (adjusted : s.adjusted { p with absorbed := s.flag FpeStat.absorb 0 && p.desc.flag 5 } f0 = line) (reach : line < s.writerReach) :
    ∃ t p', exec (.pageSchedule line) s = .next t ∧ t.page p.pseq = some p' ∧ p'.scheduled = true ∧ p'.first = line ∧
      p'.absorbed = (s.flag FpeStat.absorb 0 && p.desc.flag 5) ∧
      (p'.nmGen, p'.ctbGen) = s.pageGens { p with absorbed := s.flag FpeStat.absorb 0 && p.desc.flag 5 } line ∧
      t.get NmGenCur.v 0 = p'.nmGen % 2 ^ 32 ∧ t.get ScrGenCur.v 0 = p'.ctbGen % 2 ^ 32 ∧
      t.inForce ScrCtrl.compMode 0 = s.get ScrCtrl.compMode 0 ∧ t.dram = s.dram ∧ (∀ a, a ≠ p.pseq → t.page a = s.page a) := by
  have bound := State.pageSchedule_bound acting running up resumed locked next held rfl start adjusted reach
  obtain ⟨p', held', scheduled, first, absorbed, nmGen, ctbGen⟩ := bound.placed
  exact ⟨_, p', rfl, held', scheduled, first, absorbed, Prod.ext nmGen ctbGen, nmGen ▸ bound.nm, ctbGen ▸ bound.ctb, bound.mode,
    bound.dram, bound.others⟩

theorem pageSchedule_passive (line : Nat) (s : State) (passive : s.acting = false ∨ s.running = false ∨ s.nextPage = none) :
    exec (.pageSchedule line) s = .next s := by
  refine next_congr ?_
  unfold State.pageSchedule
  split
  · rfl
  next on =>
    have idle : s.nextPage = none := by
      rcases passive with h | h | h
      · simp [h] at on
      · simp [h] at on
      · exact h
    rw [idle]

/-- Settles O31: each command that schedules a page or lets one leave, by what it does to the pages held. -/
theorem pagesStartAndEnd : Obligations.PagesStartAndEnd := by
  unfold Obligations.PagesStartAndEnd
  exact ⟨pageSchedule_places, pageSchedule_passive, cancel_ends, ingestAbort_asked, ingestAbort_ends, ingestAbort_idle,
    startDeferTimeout_admits, pgAbort_blanks, pgAbort_wrongKey, completion_sends, completion_passive⟩

end Sys2Proof.Machine
end

section
/-! ## Table generations (R183, R184, R193, R194): the commits of O34 -/
namespace Sys2Proof.Machine

/-! ### What a generation holds, and which generations stay -/

/-- A generation holds the fields of the registers it copies as they read at the copy. -/
theorem TableGen.get_copyRegs (s : State) (n : Nat) {l : List Reg} {r : Reg} (hr : r ∈ l) {f : Fld} (hf : f ∈ r.fields) (i : Nat) :
    TableGen.get ⟨n, copyRegs l s.regs⟩ f i % 2 ^ f.width = s.get f i := by
  obtain ⟨hreg, lo⟩ := Reg.mem_fields hf
  have copied : l.any (fun q => q.ctorIdx == f.reg.ctorIdx) = true := List.any_eq_true.mpr ⟨r, hr, by simp [hreg]⟩
  have held : Tab.get (f.resetAt i) (copyRegs l s.regs) (f.key i) = Tab.get (f.resetAt i) s.regs (f.key i) :=
    (Tab.get_keepRegs _ l s.regs lo i).trans (if_pos copied)
  exact congrArg (· % 2 ^ f.width) held

theorem keepGens_head? (gs : List TableGen) (keep : List Nat) (acked : Nat) : (keepGens gs keep acked).head? = gs.head? := by
  cases gs <;> rfl

/-! ### The commit of the column tables -/

/-- The generation that a commit of the column tables makes of the staged copy. -/
def State.ctbStagedGen (s : State) : TableGen := ⟨s.get ScrGenNew.v 0 + 1, copyRegs ctbRegs s.regs⟩

/-- A commit of the column tables numbers the staged copy, puts it first, and keeps the newest nozzle map (R183, R434). -/
theorem State.commitCtb_eq (s : State) : ∃ scr colTx,
    s.commitCtb = { s with regs := (s.put ScrGenNew.v 0 (s.get ScrGenNew.v 0 + 1)).regs, scr := scr, colTx := colTx } ∧
      scr.ctbGens.head? = some s.ctbStagedGen ∧ scr.nmGens.head? = s.scr.nmGens.head? := by
  obtain ⟨colTx, sent⟩ := State.sendGen_eq
    (State.put { s with scr := { s.scr with ctbGens := s.ctbStagedGen :: s.scr.ctbGens } } ScrGenNew.v 0 s.ctbStagedGen.num) 1 s.ctbStagedGen
  exact ⟨_, colTx, congrArg State.trimGens sent, rfl, keepGens_head? _ _ _⟩

/-- The end of a commit of the column tables behind which no write waits. -/
def State.ctbEnded (s : State) : State :=
  let t := s.put ScrCommit.busy 0 0
  { t with scr := { t.scr with ctbHeld := [] } }

theorem exec_scrCommitDone {s : State} (busy : s.get ScrCommit.busy 0 = 1) (held : s.scr.ctbHeld = []) :
    exec .scrCommitDone s = .next s.commitCtb.ctbEnded := by
  refine next_congr ((if_neg (by simp [busy])).trans ?_)
  rw [held]
  rfl

theorem scrCommitDone_ends (s : State) (busy : s.get ScrCommit.busy 0 = 1) (held : s.scr.ctbHeld = []) :
    ∃ t, exec .scrCommitDone s = .next t ∧ t.get ScrCommit.busy 0 = 0 ∧
      t.get ScrGenNew.v 0 = (s.get ScrGenNew.v 0 + 1) % 2 ^ 32 ∧ t.ctbNewest.num = s.get ScrGenNew.v 0 + 1 ∧
      (∀ r ∈ ctbRegs, ∀ f ∈ r.fields, ∀ i, t.ctbNewest.get f i % 2 ^ f.width = s.get f i) ∧
      t = { s with regs := t.regs, scr := t.scr, colTx := t.colTx } ∧ t.scr.nmGens.head? = s.scr.nmGens.head? ∧
      FieldsKept (only [ScrCommit.busy, ScrGenNew.v]) s t := by
  obtain ⟨scr, colTx, committed, first, maps⟩ := s.commitCtb_eq
  have newest : s.commitCtb.ctbEnded.ctbNewest = s.ctbStagedGen := by
    rw [committed]
    exact (List.headD_eq_head?_getD).trans (congrArg (·.getD TableGen.zero) first)
  have ended := exec_scrCommitDone busy held
  rw [committed] at ended newest
  have numbered := s.get_put_self ScrGenNew.v 0 (s.get ScrGenNew.v 0 + 1)
  have writes := (FieldsKept.put s 0 (s.get ScrGenNew.v 0 + 1) (f := ScrGenNew.v) (p := only [ScrCommit.busy, ScrGenNew.v])
    (by decide) (by decide)).trans (.put _ 0 0 (f := ScrCommit.busy) (by decide) (by decide))
  generalize s.put ScrGenNew.v 0 (s.get ScrGenNew.v 0 + 1) = u at *
  refine ⟨_, ended, State.get_put_of_lt u ScrCommit.busy 0 (v := 0) (by decide),
    (u.get_put_ne (f := ScrCommit.busy) (by decide) 0 0 0).trans numbered, by rw [newest]; rfl, fun r hr f hf i => ?_, ?_, maps, writes⟩
  · rw [newest]
    exact TableGen.get_copyRegs s _ hr hf i
  · rfl

theorem scrCommitDone_idle (s : State) (idle : s.get ScrCommit.busy 0 = 0) : exec .scrCommitDone s = .next s :=
  next_congr (if_pos (by simp [idle]))

/-! ### The commit of the nozzle map -/

/-- The sync of R195 writes the staged STATE and TRIM alone. -/
theorem State.syncStaged_writes (s : State) (g : TableGen) :
    OnlyRegs s (s.syncStaged g) ∧ FieldsKept (only [NmStage.state, NmStage.trim]) s (s.syncStaged g) := by
  have wrote (t : State) {f : Fld} (i v : Nat) (h : f ∈ [NmStage.state, NmStage.trim]) :
      OnlyRegs t (t.put f i v) ∧ FieldsKept (only [NmStage.state, NmStage.trim]) t (t.put f i v) := by
    have mapped : ∀ f ∈ [NmStage.state, NmStage.trim], f ∈ f.reg.fields := by decide
    exact ⟨.put t f i v, .put t i v (mapped f h) (by simp [only, h])⟩
  unfold State.syncStaged
  refine foldl_rel (R := fun t u => OnlyRegs t u ∧ FieldsKept (only [NmStage.state, NmStage.trim]) t u)
    (fun t => ⟨.refl t, .refl _ t⟩) (fun h h' => ⟨h.1.trans h'.1, h.2.trans h'.2⟩) (fun t i => ?_) _ s
  have trimmed := wrote t i (g.get NmStage.trim i) (f := NmStage.trim) (by decide)
  dsimp only
  split
  · exact trimmed
  · have stated := wrote (t.put NmStage.trim i (g.get NmStage.trim i)) i (g.get NmStage.state i) (f := NmStage.state) (by decide)
    exact ⟨trimmed.1.trans stated.1, trimmed.2.trans stated.2⟩

/-- DELTA of a commit of the nozzle map (R194). -/
def State.nmCounted (s : State) (g : TableGen) : State := s.put NmDelta.count 0 (genDelta g (s.nmGen (s.get NmGenCur.v 0)))

/-- An accepted nozzle map stands first among the generations, under its number. -/
def State.nmNumbered (s : State) (g : TableGen) : State :=
  let t := s.nmCounted g
  State.put { t with scr := { t.scr with nmGens := g :: t.scr.nmGens } } NmGenNew.v 0 g.num

/-- NM_COMMIT after a refusal of a commit that the host asked for. -/
def State.nmRefused (s : State) (g : TableGen) : State :=
  (((s.nmCounted g).put NmCommit.refused 0 1).put NmCommit.reason 0 (s.nmRefusal g)).put NmCommit.analyser 0 0

theorem State.nmRefusal_lt (s : State) (g : TableGen) : s.nmRefusal g < 4 := by
  unfold State.nmRefusal
  split_ifs <;> decide

/-- What a refusal shows: DELTA, REFUSED, the reason, and that the host asked. -/
theorem State.get_nmRefused (s : State) (g : TableGen) :
    (s.nmRefused g).get NmDelta.count 0 = genDelta g (s.nmGen (s.get NmGenCur.v 0)) % 2 ^ 19 ∧
      (s.nmRefused g).get NmCommit.refused 0 = 1 ∧ (s.nmRefused g).get NmCommit.reason 0 = s.nmRefusal g ∧
      (s.nmRefused g).get NmCommit.analyser 0 = 0 := by
  unfold State.nmRefused State.nmCounted
  simp (disch := decide) only [State.get_put_ne, State.get_put_self]
  exact ⟨rfl, rfl, Nat.mod_eq_of_lt (s.nmRefusal_lt g), rfl⟩

theorem State.nmRefused_kept (s : State) (g : TableGen) :
    FieldsKept (only [NmDelta.count, NmCommit.refused, NmCommit.reason, NmCommit.analyser]) s (s.nmRefused g) :=
  (((FieldsKept.put s 0 _ (f := NmDelta.count) (by decide) (by decide)).trans
    (.put _ 0 _ (f := NmCommit.refused) (by decide) (by decide))).trans
    (.put _ 0 _ (f := NmCommit.reason) (by decide) (by decide))).trans
    (.put _ 0 _ (f := NmCommit.analyser) (by decide) (by decide))

section
variable {s : State} {tab : Tab Nat} {g : TableGen} (made : g = ⟨s.get NmGenNew.v 0 + 1, tab⟩)
include made

theorem State.commitNm_of_accepted (accepted : s.nmRefusal g = 0) : ∃ t colTx,
    s.commitNm tab false = State.trimGens { t with colTx := colTx } ∧ OnlyRegs (s.nmNumbered g) t ∧
      FieldsKept (only [NmStage.state, NmStage.trim]) (s.nmNumbered g) t := by
  subst made
  unfold State.commitNm
  extract_lets g _ counted _ numbered synced
  obtain ⟨colTx, sent⟩ := synced.sendGen_eq 0 g
  refine ⟨synced, colTx, (if_pos accepted).trans (congrArg State.trimGens sent), ?_⟩
  change OnlyRegs numbered synced ∧ FieldsKept _ numbered synced
  dsimp only [synced]
  split
  · exact numbered.syncStaged_writes g
  · exact ⟨.refl _, .refl _ _⟩

theorem State.commitNm_of_refused (refused : s.nmRefusal g ≠ 0) :
    s.commitNm tab false = (s.nmRefused g).record .nmCommitRefused 0 [a8 (s.nmRefusal g)] := by
  subst made
  exact (if_neg refused).trans rfl

/-- An accepted nozzle map becomes the newest generation, and nothing is recorded (R193). -/
theorem State.commitNm_accepts {t : State} (committed : s.commitNm tab false = t) (accepted : s.nmRefusal g = 0) :
    t.get NmDelta.count 0 = genDelta g (s.nmGen (s.get NmGenCur.v 0)) % 2 ^ 19 ∧
      t.get NmGenNew.v 0 = (s.get NmGenNew.v 0 + 1) % 2 ^ 32 ∧ t.nmNewest = g ∧ t.ev = s.ev ∧ t.ins = s.ins ∧
      FieldsKept (only [NmDelta.count, NmGenNew.v, NmStage.state, NmStage.trim]) s t := by
  obtain ⟨u, colTx, run, regs, synced⟩ := State.commitNm_of_accepted made accepted
  obtain rfl := committed.symm.trans run
  have delta : (s.nmNumbered g).get NmDelta.count 0 = genDelta g (s.nmGen (s.get NmGenCur.v 0)) % 2 ^ 19 :=
    (State.get_put_ne _ (f := NmGenNew.v) (by decide) 0 0 _).trans (s.get_put_self NmDelta.count 0 _)
  have number : (s.nmNumbered g).get NmGenNew.v 0 = (s.get NmGenNew.v 0 + 1) % 2 ^ 32 := by
    subst made
    exact State.get_put_self _ NmGenNew.v 0 _
  have numbered : FieldsKept (only [NmDelta.count, NmGenNew.v, NmStage.state, NmStage.trim]) s (s.nmNumbered g) :=
    (FieldsKept.put s 0 _ (f := NmDelta.count) (by decide) (by decide)).trans
      (.put (f := NmGenNew.v) _ 0 _ (by decide) (by decide))
  refine ⟨?_, ?_, ?_, ?_, ?_, numbered.trans (synced.mono (only_mono (by simp)))⟩
  · exact (synced _ NmDelta.count 0 (by decide : _ ∈ Reg.nmDelta.fields) (by decide)).trans delta
  · exact (synced _ NmGenNew.v 0 (by decide : _ ∈ Reg.nmGenNew.fields) (by decide)).trans number
  all_goals
    rw [regs]
    rfl

/-- A refused nozzle map leaves the generations, and NM_COMMIT and a record give the reason (R194). -/
theorem State.commitNm_refuses {t : State} (committed : s.commitNm tab false = t) (refused : s.nmRefusal g ≠ 0) :
    t.get NmDelta.count 0 = genDelta g (s.nmGen (s.get NmGenCur.v 0)) % 2 ^ 19 ∧
      t.get NmCommit.refused 0 = 1 ∧ t.get NmCommit.reason 0 = s.nmRefusal g ∧ t.get NmCommit.analyser 0 = 0 ∧
      Recorded s t .nmCommitRefused 0 [a8 (s.nmRefusal g)] ∧ t.scr = s.scr ∧ t.ins = s.ins ∧
      FieldsKept (only [NmDelta.count, NmCommit.refused, NmCommit.reason, NmCommit.analyser]) s t := by
  obtain rfl := committed.symm.trans (State.commitNm_of_refused made refused)
  have shown (f : Fld) (quiet : f.unrecorded = true) : State.get _ f 0 = (s.nmRefused g).get f 0 :=
    State.get_record _ .nmCommitRefused 0 [a8 (s.nmRefusal g)] f 0 quiet
  obtain ⟨delta, refusal, reason, analyser⟩ := s.get_nmRefused g
  refine ⟨(shown _ (by decide)).trans delta, (shown _ (by decide)).trans refusal, (shown _ (by decide)).trans reason,
    (shown _ (by decide)).trans analyser, ?_, by simp [State.nmRefused, State.nmCounted], by simp [State.nmRefused, State.nmCounted],
    (s.nmRefused_kept g).trans (.record _ _ _ _ fun f _ recorded => by simp [only, recorded])⟩
  unfold Recorded State.nmRefused State.nmCounted
  rw [State.record_ev_put _ (by decide), State.record_ev_put _ (by decide), State.record_ev_put _ (by decide),
    State.record_ev_put _ (by decide)]

end

/-- The end of a commit of the nozzle map behind which no write waits. -/
def State.nmEnded (s : State) : State :=
  let t := s.put NmCommit.busy 0 0
  { t with scr := { t.scr with nmHeld := [] } }

theorem State.get_nmEnded (s : State) {f : Fld} (h : NmCommit.busy.apart f = true) (i : Nat) : s.nmEnded.get f i = s.get f i :=
  s.get_put_ne h 0 i 0

theorem FieldsKept.nmEnded {s t : State} {l : List Fld} (h : FieldsKept (only l) s t) :
    FieldsKept (only (NmCommit.busy :: l)) s t.nmEnded :=
  (h.mono (only_mono (List.subset_cons_self _ _))).trans (.put t 0 0 (f := NmCommit.busy) (by decide) (by simp [only]))

theorem exec_nmCommitDone {s t : State} (busy : s.get NmCommit.busy 0 = 1) (held : s.scr.nmHeld = [])
    (committed : s.commitNm (copyRegs nmRegs s.regs) false = t) (settled : t.ins.retry = false) :
    exec .nmCommitDone s = .next t.nmEnded := by
  refine next_congr ((if_neg (by simp [busy])).trans ?_)
  rw [held, committed]
  exact if_neg (by simp [State.replayHeld, settled])

theorem nmCommitDone_ends (g : TableGen) (s : State) (made : g = ⟨s.get NmGenNew.v 0 + 1, copyRegs nmRegs s.regs⟩)
    (busy : s.get NmCommit.busy 0 = 1) (held : s.scr.nmHeld = []) (settled : s.ins.retry = false) :
    ∃ t, exec .nmCommitDone s = .next t ∧ t.get NmCommit.busy 0 = 0 ∧ t.dram = s.dram ∧ t.pages = s.pages ∧
      t.get NmDelta.count 0 = genDelta g (s.nmGen (s.get NmGenCur.v 0)) % 2 ^ 19 ∧
      (s.nmRefusal g = 0 → t.get NmGenNew.v 0 = (s.get NmGenNew.v 0 + 1) % 2 ^ 32 ∧ t.nmNewest = g ∧ t.ev = s.ev ∧
        (∀ r ∈ nmRegs, ∀ f ∈ r.fields, ∀ i, t.nmNewest.get f i % 2 ^ f.width = s.get f i) ∧
        FieldsKept (only [NmCommit.busy, NmDelta.count, NmGenNew.v, NmStage.state, NmStage.trim]) s t) ∧
      (s.nmRefusal g ≠ 0 → t.get NmCommit.refused 0 = 1 ∧ t.get NmCommit.reason 0 = s.nmRefusal g ∧ t.get NmCommit.analyser 0 = 0 ∧
        Recorded s t .nmCommitRefused 0 [a8 (s.nmRefusal g)] ∧ t.scr.nmGens = s.scr.nmGens ∧
        FieldsKept (only [NmCommit.busy, NmDelta.count, NmCommit.refused, NmCommit.reason, NmCommit.analyser]) s t) := by
  have others := (NmKept.commitNm s (copyRegs nmRegs s.regs) false).1
  generalize committed : s.commitNm (copyRegs nmRegs s.regs) false = t at others
  have hbusy : t.nmEnded.get NmCommit.busy 0 = 0 := State.get_put_of_lt t NmCommit.busy 0 (v := 0) (by decide)
  have hdram : t.dram = s.dram := by rw [others]
  have hpages : t.pages = s.pages := by rw [others]
  by_cases accepted : s.nmRefusal g = 0
  · obtain ⟨delta, number, newest, hev, hins, kept⟩ := State.commitNm_accepts made committed accepted
    refine ⟨_, exec_nmCommitDone busy held committed (by rw [hins, settled]), hbusy, hdram, hpages,
      (t.get_nmEnded (by decide) 0).trans delta, fun _ => ⟨(t.get_nmEnded (by decide) 0).trans number, newest, hev, fun r hr f hf i => ?_,
        kept.nmEnded⟩, fun refused => absurd accepted refused⟩
    have same : t.nmEnded.nmNewest = g := newest
    rw [same, made]
    exact TableGen.get_copyRegs s _ hr hf i
  · obtain ⟨delta, refusal, reason, analyser, recorded, hscr, hins, kept⟩ := State.commitNm_refuses made committed accepted
    have maps : t.scr.nmGens = s.scr.nmGens := by rw [hscr]
    exact ⟨_, exec_nmCommitDone busy held committed (by rw [hins, settled]), hbusy, hdram, hpages,
      (t.get_nmEnded (by decide) 0).trans delta, fun ok => absurd ok accepted, fun _ => ⟨(t.get_nmEnded (by decide) 0).trans refusal,
        (t.get_nmEnded (by decide) 0).trans reason, (t.get_nmEnded (by decide) 0).trans analyser, recorded,
        maps, kept.nmEnded⟩⟩

theorem nmCommitDone_idle (s : State) (idle : s.get NmCommit.busy 0 = 0) : exec .nmCommitDone s = .next s :=
  next_congr (if_pos (by simp [idle]))

end Sys2Proof.Machine
end

section
/-! ## Commits as they are asked for, and threshold slots (R187, R188, R434): O34 -/
namespace Sys2Proof.Machine

/-! ### A commit that is asked for -/

theorem commit_refusedOnStandby (s : State) (standby : s.role = roleStandby) :
    exec .scrCommit s = .next (s.record .twStandbyCommit 0 []) ∧ exec .nmCommit s = .next (s.record .twStandbyCommit 0 []) :=
  ⟨next_congr (if_pos standby), next_congr (if_pos standby)⟩

theorem scrCommit_begins (s : State) (able : s.role ≠ roleStandby) (free : s.get ScrCommit.busy 0 = 0) :
    ∃ t, exec .scrCommit s = .next t ∧ t.get ScrCommit.busy 0 = 1 ∧ t = { s with regs := t.regs } ∧
      FieldsKept (only [ScrCommit.busy]) s t := by
  have run : exec .scrCommit s = .next (s.put ScrCommit.busy 0 1) := next_congr ((if_neg able).trans (if_neg (by simp [free])))
  exact ⟨_, run, s.get_put_of_lt ScrCommit.busy 0 (by decide), rfl, .put s 0 1 (by decide) (by decide)⟩

theorem nmCommit_begins (s : State) (able : s.role ≠ roleStandby) (free : s.get NmCommit.busy 0 = 0) :
    ∃ t, exec .nmCommit s = .next t ∧ t.get NmCommit.busy 0 = 1 ∧ t = { s with regs := t.regs, hmWait := none } ∧
      FieldsKept (only [NmCommit.busy]) s t := by
  have idle : ¬s.get NmCommit.busy 0 = 1 := by simp [free]
  have run : exec .nmCommit s = .next (State.put { s with hmWait := none } NmCommit.busy 0 1) :=
    next_congr ((if_neg able).trans (if_neg idle))
  exact ⟨_, run, State.get_put_of_lt _ NmCommit.busy 0 (by decide), rfl, .put s 0 1 (f := NmCommit.busy) (by decide) (by decide)⟩

theorem scrCommit_waits (s : State) (able : s.role ≠ roleStandby) (busy : s.get ScrCommit.busy 0 = 1) :
    exec .scrCommit s = .next { s with scr := { s.scr with ctbHeld := s.scr.ctbHeld ++ [(0x00300004, 1)] } } :=
  next_congr ((if_neg able).trans (if_pos busy))

theorem nmCommit_waits (s : State) (able : s.role ≠ roleStandby) (busy : s.get NmCommit.busy 0 = 1) :
    exec .nmCommit s = .next { s with hmWait := none, scr := { s.scr with nmHeld := s.scr.nmHeld ++ [(0x00A20000, 1)] } } :=
  next_congr ((if_neg able).trans (if_pos busy))

/-! ### The parts of a write of SCR_THR_CTL -/

theorem toNat_setBit (v : Word) {b : Nat} (word : b < 32) : (v ||| BitVec.ofNat 32 (2 ^ b)).toNat = v.toNat ||| 2 ^ b := by
  rw [BitVec.toNat_or, BitVec.toNat_ofNat, Nat.mod_eq_of_lt (Nat.pow_lt_pow_right (by decide) word)]

/-- A bit set outside a field does not reach it. -/
theorem Fld.of_setBit (f : Fld) (v : Word) {b : Nat} (word : b < 32) (outside : b < f.lo ∨ f.lo + f.width ≤ b) :
    f.of (v ||| BitVec.ofNat 32 (2 ^ b)) = f.of v := by
  refine Nat.eq_of_testBit_eq fun j => ?_
  unfold Fld.of
  rw [toNat_setBit v word]
  simp only [Nat.testBit_mod_two_pow, Nat.testBit_div_two_pow, Nat.testBit_or, Nat.testBit_two_pow]
  by_cases inside : j < f.width
  · simp [show b ≠ j + f.lo by omega]
  · simp [inside]

/-- A field of one bit reads 1 where its bit is set. -/
theorem Fld.of_setBit_self {f : Fld} (bit : f.width = 1) (word : f.lo < 32) (v : Word) : f.of (v ||| BitVec.ofNat 32 (2 ^ f.lo)) = 1 := by
  have set : (v.toNat ||| 2 ^ f.lo).testBit f.lo = true := by
    rw [Nat.testBit_or, Nat.testBit_two_pow_self, Bool.or_true]
  rw [Nat.testBit_eq_decide_div_mod_eq, decide_eq_true_eq] at set
  rw [Fld.of, bit, toNat_setBit v word]
  exact set

section
variable {k : Nat} {v : Word} (s : State)

/-- A write without a 1 in the W1C fields clears nothing. -/
theorem State.thrClear_of_zero (refused : ScrThrCtl.refused.of v = 0) (mono : ScrThrCtl.monoErr.of v = 0) : s.thrClear k v = s := by
  simp [State.thrClear, refused, mono]

/-- The sizes of a write in a slot. -/
def State.thrSized (s : State) (k : Nat) (v : Word) : State :=
  (s.put ScrThrCtl.width k (ScrThrCtl.width.of v)).put ScrThrCtl.height k (ScrThrCtl.height.of v)

theorem State.get_thrSized : (s.thrSized k v).get ScrThrCtl.width k = ScrThrCtl.width.of v ∧
    (s.thrSized k v).get ScrThrCtl.height k = ScrThrCtl.height.of v ∧
    (s.thrSized k v).get ScrThrCtl.state k = s.get ScrThrCtl.state k ∧
    (s.thrSized k v).get ScrThrCtl.monoErr k = s.get ScrThrCtl.monoErr k := by
  unfold State.thrSized
  simp (disch := decide) only [State.get_put_ne, State.get_put_self]
  exact ⟨Nat.mod_eq_of_lt (ScrThrCtl.width.of_lt v), Nat.mod_eq_of_lt (ScrThrCtl.height.of_lt v), trivial, trivial⟩

theorem State.thrSized_kept : FieldsKept (onlyAt [ScrThrCtl.width, ScrThrCtl.height] k) s (s.thrSized k v) :=
  (FieldsKept.put s k _ (f := ScrThrCtl.width) (by decide) (onlyAt_of_mem (by decide) k)).trans
    (.put _ k _ (f := ScrThrCtl.height) (by decide) (onlyAt_of_mem (by decide) k))

theorem State.thrSize_of_open (isOpen : s.get ScrThrCtl.state k = 1) : s.thrSize k v = s.thrSized k v := if_pos isOpen

end

theorem onlyAt_mono {l l' : List Fld} (h : l ⊆ l') (n : Nat) (f : Fld) (i : Nat) (hf : onlyAt l n f i = true) : onlyAt l' n f i = true := by
  unfold onlyAt at *
  simp only [Bool.or_eq_true, Bool.and_eq_true, List.contains_iff_mem] at *
  exact hf.imp_right (And.imp_left fun m => h m)

/-! ### OPEN (R187) -/

section
variable {k : Nat} {v : Word} {s : State} (refused : ScrThrCtl.refused.of v = 0) (mono : ScrThrCtl.monoErr.of v = 0)
include refused mono

theorem State.thrWrite_open_named (close : ScrThrCtl.close.of v = 0) (named : s.slotNamed k = true) :
    s.thrWrite k true v = s.put ScrThrCtl.refused k 1 := by
  unfold State.thrWrite
  rw [s.thrClear_of_zero refused mono]
  simp [close, named, State.thrOpen]

theorem State.thrWrite_open_free (close : ScrThrCtl.close.of v = 0) (free : s.slotNamed k = false) :
    s.thrWrite k true v = (s.put ScrThrCtl.state k 1).thrSized k v := by
  have opened : (s.put ScrThrCtl.state k 1).get ScrThrCtl.state k = 1 := s.get_put_of_lt ScrThrCtl.state k (by decide)
  unfold State.thrWrite
  rw [s.thrClear_of_zero refused mono]
  simp [close, free, State.thrOpen, State.thrSize_of_open _ opened]

/-- CLOSE of an OPEN slot takes the sizes first (R188). -/
theorem State.thrWrite_close (close : ScrThrCtl.close.of v = 1) (isOpen : s.get ScrThrCtl.state k = 1) :
    s.thrWrite k false v = (s.thrSized k v).thrClose k := by
  unfold State.thrWrite
  rw [s.thrClear_of_zero refused mono]
  simp [close, s.thrSize_of_open isOpen]

end

theorem scrThrOpen_opens (k : Fin 8) (v : Word) (s : State) (refused : ScrThrCtl.refused.of v = 0) (mono : ScrThrCtl.monoErr.of v = 0)
    (close : ScrThrCtl.close.of v = 0) : ∃ t, exec (.scrThrOpen k v) s = .next t ∧ t = { s with regs := t.regs } ∧
      (s.slotNamed k.val = true → t.get ScrThrCtl.refused k.val = 1 ∧ FieldsKept (onlyAt [ScrThrCtl.refused] k.val) s t) ∧
      (s.slotNamed k.val = false → t.get ScrThrCtl.state k.val = 1 ∧ t.get ScrThrCtl.width k.val = ScrThrCtl.width.of v ∧
        t.get ScrThrCtl.height k.val = ScrThrCtl.height.of v ∧
        FieldsKept (onlyAt [ScrThrCtl.state, ScrThrCtl.width, ScrThrCtl.height] k.val) s t) := by
  cases named : s.slotNamed k.val
  case true =>
    refine ⟨_, next_congr (State.thrWrite_open_named refused mono close named), rfl, fun _ => ⟨?_, ?_⟩, nofun⟩
    · exact s.get_put_of_lt ScrThrCtl.refused k.val (by decide)
    · exact .put s k.val 1 (by decide) (onlyAt_of_mem (by decide) k.val)
  case false =>
    obtain ⟨width, height, state, -⟩ := (s.put ScrThrCtl.state k.val 1).get_thrSized (k := k.val) (v := v)
    refine ⟨_, next_congr (State.thrWrite_open_free refused mono close named), rfl, nofun, fun _ => ⟨?_, width, height, ?_⟩⟩
    · exact state.trans (s.get_put_of_lt ScrThrCtl.state k.val (by decide))
    · exact (FieldsKept.put s k.val 1 (by decide) (onlyAt_of_mem (by decide) k.val)).trans
        ((State.thrSized_kept _).mono (onlyAt_mono (by simp) k.val))

/-! ### CLOSE (R188) -/

theorem State.thrSizesOk_iff (s : State) (k : Nat) : s.thrSizesOk k = true ↔ 1 ≤ s.get ScrThrCtl.width k ∧
    s.get ScrThrCtl.width k ≤ 256 ∧ 1 ≤ s.get ScrThrCtl.height k ∧ s.get ScrThrCtl.height k ≤ 256 := by
  simp [State.thrSizesOk, and_assoc]

/-- CLOSE of an OPEN slot: the check begins where the sizes are in range, and MONO_ERR rises where they are not. -/
theorem State.thrClose_of_open {s : State} {k : Nat} (isOpen : s.get ScrThrCtl.state k = 1) :
    (s.thrSizesOk k = true ∧ ∃ checks, k ∈ checks ∧ s.thrClose k = { s with scr := { s.scr with thrChecks := checks } }) ∨
      (s.thrSizesOk k = false ∧ s.thrClose k = s.put ScrThrCtl.monoErr k 1) := by
  unfold State.thrClose
  cases sized : s.thrSizesOk k
  case false => exact .inr ⟨rfl, if_pos ⟨isOpen, nofun⟩⟩
  case true =>
    refine .inl ⟨rfl, _, ?_, (if_neg (by simp)).trans (if_pos isOpen)⟩
    split
    next listed => exact List.contains_iff_mem.mp listed
    next => exact List.mem_cons_self

theorem scrThrClose_closes (k : Fin 8) (v : Word) (s : State) (refused : ScrThrCtl.refused.of v = 0) (mono : ScrThrCtl.monoErr.of v = 0)
    (shut : ScrThrCtl.open_.of v = 0) (isOpen : s.get ScrThrCtl.state k.val = 1) :
    ∃ t, exec (.scrThrClose k v) s = .next t ∧ t = { s with regs := t.regs, scr := t.scr } ∧
      t.get ScrThrCtl.state k.val = 1 ∧ t.get ScrThrCtl.width k.val = ScrThrCtl.width.of v ∧
      t.get ScrThrCtl.height k.val = ScrThrCtl.height.of v ∧
      FieldsKept (onlyAt [ScrThrCtl.width, ScrThrCtl.height, ScrThrCtl.monoErr] k.val) s t ∧
      (1 ≤ ScrThrCtl.width.of v → ScrThrCtl.width.of v ≤ 256 → 1 ≤ ScrThrCtl.height.of v → ScrThrCtl.height.of v ≤ 256 →
        k.val ∈ t.scr.thrChecks ∧ t.get ScrThrCtl.monoErr k.val = s.get ScrThrCtl.monoErr k.val) ∧
      ((ScrThrCtl.width.of v = 0 ∨ 256 < ScrThrCtl.width.of v ∨ ScrThrCtl.height.of v = 0 ∨ 256 < ScrThrCtl.height.of v) →
        t.get ScrThrCtl.monoErr k.val = 1 ∧ t.scr = s.scr) := by
  have aside {f : Fld} (h : 21 < f.lo ∨ f.lo + f.width ≤ 21) := f.of_setBit v (b := 21) (by decide) h
  have run : exec (.scrThrClose k v) s = .next ((s.thrSized k.val v).thrClose k.val) := by
    have written := State.thrWrite_close ((aside (f := ScrThrCtl.refused) (by decide)).trans refused)
      ((aside (f := ScrThrCtl.monoErr) (by decide)).trans mono) (Fld.of_setBit_self (f := ScrThrCtl.close) rfl (by decide) v) isOpen
    unfold State.thrSized at written ⊢
    rw [aside (f := ScrThrCtl.width) (by decide), aside (f := ScrThrCtl.height) (by decide)] at written
    refine next_congr (Eq.trans ?_ written)
    rw [shut]
    rfl
  obtain ⟨width, height, state, monoErr⟩ := s.get_thrSized (k := k.val) (v := v)
  have sizes := (s.thrSized k.val v).thrSizesOk_iff k.val
  have kept : FieldsKept (onlyAt [ScrThrCtl.width, ScrThrCtl.height, ScrThrCtl.monoErr] k.val) s (s.thrSized k.val v) :=
    s.thrSized_kept.mono (onlyAt_mono (by simp) k.val)
  have frame : OnlyRegs s (s.thrSized k.val v) := rfl
  rw [width, height] at sizes
  rw [isOpen] at state
  generalize s.thrSized k.val v = u at *
  obtain ⟨ok, checks, listed, closed⟩ | ⟨bad, closed⟩ := State.thrClose_of_open state
  · rw [closed] at run
    have inRange := sizes.mp ok
    refine ⟨_, run, ?_, state, width, height, kept, fun _ _ _ _ => ⟨listed, monoErr⟩, fun out => ?_⟩
    · rw [frame]
    · omega
  · rw [closed] at run
    have outOfRange := mt sizes.mpr (by simp [bad])
    have raised : FieldsKept _ u (u.put ScrThrCtl.monoErr k.val 1) :=
      .put u k.val 1 (by decide) (onlyAt_of_mem (l := [ScrThrCtl.width, ScrThrCtl.height, ScrThrCtl.monoErr]) (by decide) k.val)
    have other {f : Fld} (h : ScrThrCtl.monoErr.apart f = true) := u.get_put_ne h k.val k.val 1
    refine ⟨_, run, ?_, (other (by decide)).trans state, (other (by decide)).trans width, (other (by decide)).trans height,
      kept.trans raised, fun lowW highW lowH highH => absurd ⟨lowW, highW, lowH, highH⟩ outOfRange, fun _ => ⟨?_, ?_⟩⟩
    · rw [frame]
      rfl
    · exact u.get_put_of_lt ScrThrCtl.monoErr k.val (by decide)
    · rw [frame]
      rfl

/-! ### The end of the check -/

/-- The check of a slot runs no longer. -/
def State.thrUnchecked (s : State) (k : Nat) : State :=
  { s with scr := { s.scr with thrChecks := s.scr.thrChecks.filter (fun j => j != k) } }

/-- What the check makes of its first cell out of order: the slot is CLOSED, or MONO_ERR and a record name the cell. -/
def State.thrVerdict (s : State) (k : Nat) : Option (Nat × Nat) → State
  | none => s.put ScrThrCtl.state k 2
  | some (u, w) => (s.put ScrThrCtl.monoErr k 1).record .scrThrMono k [a8 u, a8 w]

theorem State.thrCheck_of_running {s : State} {k : Nat} (running : k ∈ s.scr.thrChecks) {bad : Option (Nat × Nat)}
    (checked : s.thrBad k = bad) : s.thrCheck k = (s.thrUnchecked k).thrVerdict k bad := by
  subst checked
  exact (if_neg (by simp [running])).trans rfl

theorem scrThrCheckDone_ends (k : Fin 8) (s : State) (running : k.val ∈ s.scr.thrChecks) :
    ∃ t, exec (.scrThrCheckDone k) s = .next t ∧ k.val ∉ t.scr.thrChecks ∧
      t = { s with regs := t.regs, scr := t.scr, ev := t.ev } ∧ FieldsKept (onlyAt [ScrThrCtl.state, ScrThrCtl.monoErr] k.val) s t ∧
      (s.thrBad k.val = none → t.get ScrThrCtl.state k.val = 2 ∧ t.ev = s.ev) ∧
      (∀ u w, s.thrBad k.val = some (u, w) → t.get ScrThrCtl.monoErr k.val = 1 ∧
        t.get ScrThrCtl.state k.val = s.get ScrThrCtl.state k.val ∧ Recorded s t .scrThrMono k.val [a8 u, a8 w]) := by
  have gone : k.val ∉ (s.thrUnchecked k.val).scr.thrChecks := by simp [State.thrUnchecked]
  have wrote {f : Fld} (v : Nat) (h : f ∈ f.reg.fields ∧ f ∈ [ScrThrCtl.state, ScrThrCtl.monoErr]) :
      FieldsKept (onlyAt [ScrThrCtl.state, ScrThrCtl.monoErr] k.val) s ((s.thrUnchecked k.val).put f k.val v) :=
    .put s k.val v h.1 (onlyAt_of_mem h.2 k.val)
  cases checked : s.thrBad k.val with
  | none =>
    exact ⟨_, next_congr (State.thrCheck_of_running running checked), gone, rfl, wrote 2 (by decide),
      fun _ => ⟨State.get_put_of_lt _ ScrThrCtl.state k.val (by decide), rfl⟩, nofun⟩
  | some cell =>
    obtain ⟨u, w⟩ := cell
    have verdict : OnlyRegsEv (s.thrUnchecked k.val) ((s.thrUnchecked k.val).thrVerdict k.val (some (u, w))) :=
      (OnlyRegsEv.put _ ScrThrCtl.monoErr k.val 1).trans (.record _ .scrThrMono k.val [a8 u, a8 w])
    have shown (f : Fld) (quiet : f.unrecorded = true) := State.get_record ((s.thrUnchecked k.val).put ScrThrCtl.monoErr k.val 1)
      .scrThrMono k.val [a8 u, a8 w] f k.val quiet
    have alike : RecordsAlike s (s.thrUnchecked k.val) := ⟨rfl, rfl, rfl, rfl, rfl, fun _ _ => rfl⟩
    refine ⟨_, next_congr (State.thrCheck_of_running running checked), ?_, ?_,
      (wrote 1 (by decide)).trans (.record _ _ _ _ (onlyAt_of_evt _ k.val)), nofun, fun u' w' found => ?_⟩
    · rw [verdict]
      exact gone
    · rw [verdict]
      rfl
    · obtain ⟨rfl, rfl⟩ := Prod.mk.inj (Option.some.inj found)
      exact ⟨(shown _ (by decide)).trans (State.get_put_of_lt _ ScrThrCtl.monoErr k.val (by decide)),
        (shown _ (by decide)).trans (State.get_put_ne _ (f := ScrThrCtl.monoErr) (by decide) _ _ _),
        (State.record_ev_put _ (by decide) k.val 1 _ _ _).trans (alike.ev _ _ _)⟩

theorem scrThrCheckDone_idle (k : Fin 8) (s : State) (idle : k.val ∉ s.scr.thrChecks) : exec (.scrThrCheckDone k) s = .next s :=
  next_congr (if_pos (by simp [idle]))

/-- Settles O34: the commits by what they make of the generations, and the slots by what OPEN, CLOSE and the check write. -/
theorem nozzleMapAndTables : Obligations.NozzleMapAndTables := by
  unfold Obligations.NozzleMapAndTables
  exact ⟨commit_refusedOnStandby, scrCommit_begins, nmCommit_begins, scrCommit_waits, nmCommit_waits, scrCommitDone_ends,
    scrCommitDone_idle, nmCommitDone_ends, nmCommitDone_idle, scrThrOpen_opens, scrThrClose_closes, scrThrCheckDone_ends,
    scrThrCheckDone_idle⟩

end Sys2Proof.Machine
end

section
/-! ## The scree log and the duty weights (R207, R213 to R215): O35 -/
namespace Sys2Proof.Machine

theorem only_of_evt (l : List Fld) (f : Fld) (i : Nat) (h : evtField f = true) : only l f i = true := by
  rw [only, h, Bool.true_or]

/-! ### The scree log (R214, R215) -/

section
variable {s : State} {e : ScreeEntry}

/-- The entry is no longer open, and not yet in the ring. -/
def State.screeTaken (s : State) (e : ScreeEntry) : State :=
  { s with ff := { s.ff with scree := s.ff.scree.filter (fun x => !sameEntry e.pseq e.kind e.port e.nozFirst x) } }

theorem State.not_mem_screeTaken (s : State) (e : ScreeEntry) : e ∉ (s.screeTaken e).ff.scree := by
  simp [State.screeTaken, sameEntry]

/-- The ring has room for one more entry. -/
abbrev State.screeRoom (s : State) : Prop := (s.get FfScreeWr.v 0 + 2 ^ 32 - s.get FfScreeRd.v 0) % 2 ^ 32 < s.screeSize

/-- The entry in its place in the ring. -/
def State.screeStored (s : State) (e : ScreeEntry) : State :=
  { s with ff := { s.ff with ring := Tab.insert (s.get FfScreeWr.v 0 % s.screeSize) e.word s.ff.ring } }

theorem State.writeScree_of_room (room : s.screeRoom) :
    s.writeScree e = (s.screeStored e).put FfScreeWr.v 0 (s.get FfScreeWr.v 0 + 1) := if_pos room

theorem State.writeScree_of_full (full : ¬s.screeRoom) :
    s.writeScree e = (s.count FfScreeLost.count FfScreeLost.ovf 0).mapPage e.pseq (fun p => p.setFlag 6) := if_neg full

theorem State.screeClose_of_due {q kind port noz : Nat} (found : s.ff.scree.find? (sameEntry q kind port noz) = some e)
    (due : s.portPassed port q = true ∨ (256 ≤ e.quiet ∧ nozzleKind kind = false)) :
    s.screeClose q kind port noz = (s.screeTaken e).writeScree e := by
  unfold State.screeClose
  rw [found]
  exact if_pos (by simpa using due)

end

/-- An entry that may close is written, or counted as lost in a full ring. -/
theorem screeEntryClose_closes (q kind port noz : Nat) (e : ScreeEntry) (s : State)
    (found : s.ff.scree.find? (sameEntry q kind port noz) = some e)
    (due : s.portPassed port q = true ∨ (256 ≤ e.quiet ∧ nozzleKind kind = false)) :
    ∃ t, exec (.screeEntryClose q kind port noz) s = .next t ∧ e ∉ t.ff.scree ∧ t.dram = s.dram ∧
      (s.screeRoom → t.get FfScreeWr.v 0 = (s.get FfScreeWr.v 0 + 1) % 2 ^ 32 ∧
        Tab.find t.ff.ring (s.get FfScreeWr.v 0 % s.screeSize) = some e.word ∧ FieldsKept (only [FfScreeWr.v]) s t ∧
        t.pages = s.pages) ∧
      (s.screeSize ≤ (s.get FfScreeWr.v 0 + 2 ^ 32 - s.get FfScreeRd.v 0) % 2 ^ 32 →
        t.get FfScreeLost.count 0 = satAdd 31 (s.get FfScreeLost.count 0) 1 ∧ t.ff.ring = s.ff.ring ∧
        FieldsKept (only [FfScreeLost.count, FfScreeLost.ovf]) s t) := by
  have run : exec (.screeEntryClose q kind port noz) s = .next ((s.screeTaken e).writeScree e) :=
    next_congr (State.screeClose_of_due found due)
  have gone := s.not_mem_screeTaken e
  by_cases room : s.screeRoom
  · have stored := State.writeScree_of_room (s := s.screeTaken e) (e := e) room
    refine ⟨_, run, ?_, ?_, fun _ => ⟨?_, ?_, ?_, ?_⟩, fun full => absurd room (Nat.not_lt.mpr full)⟩
    all_goals rw [stored]
    · exact gone
    · rfl
    · exact State.get_put_self _ FfScreeWr.v 0 _
    · exact (Tab.find_insert _ _ _ _).trans (if_pos rfl)
    · exact .trans (t := (s.screeTaken e).screeStored e) (.of_regs _ rfl) (.put _ 0 _ (f := FfScreeWr.v) (by decide) (by decide))
    · rfl
  · have lost := State.writeScree_of_full (s := s.screeTaken e) (e := e) room
    refine ⟨_, run, ?_, ?_, fun free => absurd free room, fun _ => ⟨?_, ?_, ?_⟩⟩
    all_goals rw [lost]
    · simpa using gone
    · simp [State.screeTaken]
    · exact (State.get_mapPage _ _ _ _ _).trans ((s.screeTaken e).get_countBy 0 1 (by decide) (by decide))
    · simp [State.screeTaken]
    · have counted : FieldsKept (only [FfScreeLost.count, FfScreeLost.ovf]) (s.screeTaken e)
          ((s.screeTaken e).count FfScreeLost.count FfScreeLost.ovf 0) :=
        .countBy _ 0 1 (by decide) (by decide) (by decide) (by decide) (only_of_evt _)
      exact (FieldsKept.of_regs _ rfl).trans (counted.trans (.of_regs _ rfl))

theorem screeEntryClose_absent (q kind port noz : Nat) (s : State) (absent : s.ff.scree.find? (sameEntry q kind port noz) = none) :
    exec (.screeEntryClose q kind port noz) s = .next s := by
  refine next_congr ?_
  unfold State.screeClose
  rw [absent]

/-! ### The duty weights (R207) -/

/-- W1 to W7 do not fall. -/
abbrev State.weightsRise (s : State) : Prop := (List.range 6).all (fun k => decide (s.weight (k + 1) ≤ s.weight (k + 2))) = true

theorem State.weightsRise_iff (s : State) : s.weightsRise ↔
    s.get FfDutyW0.w1 0 ≤ s.get FfDutyW0.w2 0 ∧ s.get FfDutyW0.w2 0 ≤ s.get FfDutyW0.w3 0 ∧
    s.get FfDutyW0.w3 0 ≤ s.get FfDutyW0.w4 0 ∧ s.get FfDutyW0.w4 0 ≤ s.get FfDutyW1.w5 0 ∧
    s.get FfDutyW1.w5 0 ≤ s.get FfDutyW1.w6 0 ∧ s.get FfDutyW1.w6 0 ≤ s.get FfDutyW1.w7 0 := by
  simp [State.weightsRise, List.range, List.range.loop, State.weight]

/-- FF_DUTY_W0 as written. -/
def State.lowWeights (s : State) (v : Word) : State :=
  (((s.put FfDutyW0.w1 0 (FfDutyW0.w1.of v)).put FfDutyW0.w2 0 (FfDutyW0.w2.of v)).put FfDutyW0.w3 0 (FfDutyW0.w3.of v)).put
    FfDutyW0.w4 0 (FfDutyW0.w4.of v)

/-- FF_DUTY_W1 as written. -/
def State.highWeights (s : State) (v : Word) : State :=
  ((s.put FfDutyW1.w5 0 (FfDutyW1.w5.of v)).put FfDutyW1.w6 0 (FfDutyW1.w6.of v)).put FfDutyW1.w7 0 (FfDutyW1.w7.of v)

section
variable (s : State) (v : Word)

theorem State.get_lowWeights :
    (s.lowWeights v).get FfDutyW0.w1 0 = FfDutyW0.w1.of v ∧ (s.lowWeights v).get FfDutyW0.w2 0 = FfDutyW0.w2.of v ∧
    (s.lowWeights v).get FfDutyW0.w3 0 = FfDutyW0.w3.of v ∧ (s.lowWeights v).get FfDutyW0.w4 0 = FfDutyW0.w4.of v ∧
    (s.lowWeights v).get FfDutyW1.w5 0 = s.get FfDutyW1.w5 0 ∧ (s.lowWeights v).get FfDutyW1.w6 0 = s.get FfDutyW1.w6 0 ∧
    (s.lowWeights v).get FfDutyW1.w7 0 = s.get FfDutyW1.w7 0 := by
  unfold State.lowWeights
  simp (disch := decide) only [State.get_put_ne, State.get_put_self]
  exact ⟨Nat.mod_eq_of_lt (Fld.of_lt _ v), Nat.mod_eq_of_lt (Fld.of_lt _ v), Nat.mod_eq_of_lt (Fld.of_lt _ v),
    Nat.mod_eq_of_lt (Fld.of_lt _ v), trivial, trivial, trivial⟩

theorem State.get_highWeights :
    (s.highWeights v).get FfDutyW0.w1 0 = s.get FfDutyW0.w1 0 ∧ (s.highWeights v).get FfDutyW0.w2 0 = s.get FfDutyW0.w2 0 ∧
    (s.highWeights v).get FfDutyW0.w3 0 = s.get FfDutyW0.w3 0 ∧ (s.highWeights v).get FfDutyW0.w4 0 = s.get FfDutyW0.w4 0 ∧
    (s.highWeights v).get FfDutyW1.w5 0 = FfDutyW1.w5.of v ∧ (s.highWeights v).get FfDutyW1.w6 0 = FfDutyW1.w6.of v ∧
    (s.highWeights v).get FfDutyW1.w7 0 = FfDutyW1.w7.of v := by
  unfold State.highWeights
  simp (disch := decide) only [State.get_put_ne, State.get_put_self]
  exact ⟨trivial, trivial, trivial, trivial, Nat.mod_eq_of_lt (Fld.of_lt _ v), Nat.mod_eq_of_lt (Fld.of_lt _ v), Nat.mod_eq_of_lt (Fld.of_lt _ v)⟩

theorem State.lowWeights_kept : FieldsKept (only [FfDutyW0.w1, FfDutyW0.w2, FfDutyW0.w3, FfDutyW0.w4]) s (s.lowWeights v) :=
  (((FieldsKept.put s 0 _ (by decide) (by decide)).trans (.put _ 0 _ (by decide) (by decide))).trans
    (.put _ 0 _ (by decide) (by decide))).trans (.put _ 0 _ (by decide) (by decide))

theorem State.highWeights_kept : FieldsKept (only [FfDutyW1.w5, FfDutyW1.w6, FfDutyW1.w7]) s (s.highWeights v) :=
  ((FieldsKept.put s 0 _ (by decide) (by decide)).trans (.put _ 0 _ (by decide) (by decide))).trans (.put _ 0 _ (by decide) (by decide))

end

/-- A write of weights that would rise is taken; otherwise W_ERR alone is set. -/
theorem weightWrite_taken {s t : State} (wrote : OnlyRegs s t) {c : Instr}
    (run : exec c s = .next (if t.weightsRise then t else s.put FfCtrl.wErr 0 1)) {good bad : Prop} {taken : State → Prop}
    (rise : good → t.weightsRise) (fall : bad → ¬t.weightsRise) (reads : taken t) :
    ∃ u, exec c s = .next u ∧ u = { s with regs := u.regs } ∧ (good → taken u) ∧
      (bad → u.get FfCtrl.wErr 0 = 1 ∧ FieldsKept (only [FfCtrl.wErr]) s u) := by
  by_cases ordered : t.weightsRise
  · rw [if_pos ordered] at run
    exact ⟨t, run, wrote, fun _ => reads, fun b => absurd ordered (fall b)⟩
  · rw [if_neg ordered] at run
    exact ⟨_, run, rfl, fun g => absurd (rise g) ordered,
      fun _ => ⟨s.get_put_of_lt FfCtrl.wErr 0 (by decide), .put s 0 1 (by decide) (by decide)⟩⟩

theorem ffDutyWeightWrite_low (v : Word) (s : State) : ∃ t, exec (.ffDutyWeightWrite false v) s = .next t ∧ t = { s with regs := t.regs } ∧
    ((FfDutyW0.w1.of v ≤ FfDutyW0.w2.of v ∧ FfDutyW0.w2.of v ≤ FfDutyW0.w3.of v ∧ FfDutyW0.w3.of v ≤ FfDutyW0.w4.of v ∧
        FfDutyW0.w4.of v ≤ s.get FfDutyW1.w5 0 ∧ s.get FfDutyW1.w5 0 ≤ s.get FfDutyW1.w6 0 ∧ s.get FfDutyW1.w6 0 ≤ s.get FfDutyW1.w7 0) →
      t.get FfDutyW0.w1 0 = FfDutyW0.w1.of v ∧ t.get FfDutyW0.w2 0 = FfDutyW0.w2.of v ∧ t.get FfDutyW0.w3 0 = FfDutyW0.w3.of v ∧
      t.get FfDutyW0.w4 0 = FfDutyW0.w4.of v ∧ FieldsKept (only [FfDutyW0.w1, FfDutyW0.w2, FfDutyW0.w3, FfDutyW0.w4]) s t) ∧
    ((FfDutyW0.w2.of v < FfDutyW0.w1.of v ∨ FfDutyW0.w3.of v < FfDutyW0.w2.of v ∨ FfDutyW0.w4.of v < FfDutyW0.w3.of v ∨
        s.get FfDutyW1.w5 0 < FfDutyW0.w4.of v) → t.get FfCtrl.wErr 0 = 1 ∧ FieldsKept (only [FfCtrl.wErr]) s t) := by
  obtain ⟨w1, w2, w3, w4, w5, w6, w7⟩ := s.get_lowWeights v
  have rise := (s.lowWeights v).weightsRise_iff
  rw [w1, w2, w3, w4, w5, w6, w7] at rise
  exact weightWrite_taken (s := s) (t := s.lowWeights v) rfl rfl rise.mpr (fun bad good => by have := rise.mp good; omega)
    ⟨w1, w2, w3, w4, s.lowWeights_kept v⟩

theorem ffDutyWeightWrite_high (v : Word) (s : State) : ∃ t, exec (.ffDutyWeightWrite true v) s = .next t ∧ t = { s with regs := t.regs } ∧
    ((s.get FfDutyW0.w1 0 ≤ s.get FfDutyW0.w2 0 ∧ s.get FfDutyW0.w2 0 ≤ s.get FfDutyW0.w3 0 ∧ s.get FfDutyW0.w3 0 ≤ s.get FfDutyW0.w4 0 ∧
        s.get FfDutyW0.w4 0 ≤ FfDutyW1.w5.of v ∧ FfDutyW1.w5.of v ≤ FfDutyW1.w6.of v ∧ FfDutyW1.w6.of v ≤ FfDutyW1.w7.of v) →
      t.get FfDutyW1.w5 0 = FfDutyW1.w5.of v ∧ t.get FfDutyW1.w6 0 = FfDutyW1.w6.of v ∧ t.get FfDutyW1.w7 0 = FfDutyW1.w7.of v ∧
      FieldsKept (only [FfDutyW1.w5, FfDutyW1.w6, FfDutyW1.w7]) s t) ∧
    ((FfDutyW1.w5.of v < s.get FfDutyW0.w4 0 ∨ FfDutyW1.w6.of v < FfDutyW1.w5.of v ∨ FfDutyW1.w7.of v < FfDutyW1.w6.of v) →
      t.get FfCtrl.wErr 0 = 1 ∧ FieldsKept (only [FfCtrl.wErr]) s t) := by
  obtain ⟨w1, w2, w3, w4, w5, w6, w7⟩ := s.get_highWeights v
  have rise := (s.highWeights v).weightsRise_iff
  rw [w1, w2, w3, w4, w5, w6, w7] at rise
  exact weightWrite_taken (s := s) (t := s.highWeights v) rfl rfl rise.mpr (fun bad good => by have := rise.mp good; omega)
    ⟨w5, w6, w7, s.highWeights_kept v⟩

end Sys2Proof.Machine
end

section
/-! ## What the making of a line frame records (R199 to R212): O35 -/
namespace Sys2Proof.Machine

/-! ### Steps of fire fetch -/

/-- The registers that show what is done to a frame that is not LATE. -/
abbrev frameFields : List Fld :=
  [FfScreeWr.v, FfScreeLost.count, FfScreeLost.ovf, FfCntDrem.count, FfCntDrem.ovf, FfCntDred.count, FfCntDred.ovf,
   FfCntWd.count, FfCntWd.ovf, FfCntCap.count, FfCntCap.ovf, FpeCntCoastbl.count, FpeCntCoastbl.ovf]

/-- With those of a LATE one. -/
abbrev lateFields : List Fld := FfCntLate.count :: FfCntLate.ovf :: frameFields

/-- What is done to a frame is recorded, in registers of the list `l`, events, the scree log, pages and what inspection and lighting
follow: the tables, the ports and what was sent stay, and no port's withdrawal covers another line. -/
structure FetchStep (l : List Fld) (s t : State) : Prop where
  rest : t = { s with regs := t.regs, ev := t.ev, ff := t.ff, pages := t.pages, ins := t.ins, light := t.light }
  kept : FieldsKept (only l) s t
  withdrawn : ∀ p di r n, t.withdrawn p di r n = s.withdrawn p di r n

namespace FetchStep
variable {l : List Fld}

theorem refl (s : State) : FetchStep l s s := ⟨rfl, .refl _ s, fun _ _ _ _ => rfl⟩

theorem trans {s t u : State} (h : FetchStep l s t) (h' : FetchStep l t u) : FetchStep l s u := by
  obtain ⟨hrest, hkept, hwd⟩ := h
  obtain ⟨hrest', hkept', hwd'⟩ := h'
  rw [hrest] at hrest'
  exact ⟨hrest', hkept.trans hkept', fun p di r n => (hwd' p di r n).trans (hwd p di r n)⟩

theorem mono {l' : List Fld} (sub : l ⊆ l') {s t : State} (h : FetchStep l s t) : FetchStep l' s t :=
  ⟨h.rest, h.kept.mono (only_mono sub), h.withdrawn⟩

theorem foldl {α : Type} {f : State → α → State} (h : ∀ t x, FetchStep l t (f t x)) (xs : List α) (s : State) :
    FetchStep l s (xs.foldl f s) :=
  foldl_rel .refl .trans h xs s

theorem get {s t : State} (h : FetchStep l s t) {f : Fld} (hf : f ∈ f.reg.fields) {i : Nat} (other : only l f i = false) :
    t.get f i = s.get f i :=
  h.kept _ f i hf other

theorem frame {s t : State} (h : FetchStep l s t) : t.ports = s.ports ∧ t.sent = s.sent ∧ t.linkUp = s.linkUp ∧ t.pins = s.pins ∧
    t.twin = s.twin ∧ t.scr = s.scr ∧ t.force = s.force := by
  rw [h.rest]
  exact ⟨rfl, rfl, rfl, rfl, rfl, rfl, rfl⟩

theorem of_regsEv {s t : State} (h : OnlyRegsEv s t) (kept : FieldsKept (only l) s t) : FetchStep l s t := by
  refine ⟨?_, kept, fun p di r n => ?_⟩
  · rw [h]
  · rw [h]
    rfl

theorem record (s : State) (c : EvCode) (n : Nat) (args : List EvArg) : FetchStep l s (s.record c n args) :=
  of_regsEv (.record _ _ _ _) (.record _ _ _ _ (only_of_evt l))

theorem put (s : State) {f : Fld} (hf : f ∈ f.reg.fields) (listed : f ∈ l) (i v : Nat) : FetchStep l s (s.put f i v) :=
  of_regsEv (.put _ _ _ _) (.put s i v hf (by simp [only, listed]))

theorem count (s : State) {c ovf : Fld} (hc : c ∈ c.reg.fields) (hovf : ovf ∈ ovf.reg.fields) (listed : c ∈ l) (listed' : ovf ∈ l) (i : Nat) :
    FetchStep l s (s.count c ovf i) :=
  of_regsEv (.countBy s i 1) (.countBy s i 1 hc hovf (by simp [only, listed]) (by simp [only, listed']) (only_of_evt l))

theorem mapPage (s : State) (q : Nat) (f : Page → Page) : FetchStep l s (s.mapPage q f) := ⟨rfl, .of_regs _ rfl, fun _ _ _ _ => rfl⟩

/-- What inspection notes of the nozzles that do not fire (R355). -/
theorem ins (s : State) (ins : InspectSt) : FetchStep l s { s with ins := ins } := ⟨rfl, .of_regs _ rfl, fun _ _ _ _ => rfl⟩

/-- An update of the fetch unit that leaves the withdrawals alone. -/
theorem ff (s : State) {ff : FetchSt} (wd : ff.wd = s.ff.wd) : FetchStep l s { s with ff := ff } := by
  refine ⟨rfl, .of_regs _ rfl, fun p di r n => ?_⟩
  simp only [State.withdrawn, State.withdrawals, wd]

/-! ### The scree log -/

theorem writeScree (s : State) (e : ScreeEntry) : FetchStep frameFields s (s.writeScree e) := by
  by_cases room : s.screeRoom
  · rw [State.writeScree_of_room room]
    exact (ff s (ff := (s.screeStored e).ff) rfl).trans (put _ (by decide) (by decide) 0 _)
  · rw [State.writeScree_of_full room]
    exact (count s (by decide) (by decide) (by decide) (by decide) 0).trans (mapPage _ _ _)

theorem closeScree (s : State) (e : ScreeEntry) : FetchStep frameFields s (s.closeScree e) :=
  (ff s (ff := (s.screeTaken e).ff) rfl).trans (writeScree _ e)

theorem openScree (s : State) (e : ScreeEntry) : FetchStep l s (s.openScree e) :=
  (ff s (ff := { s.ff with scree := s.ff.scree ++ [e] }) rfl).trans (mapPage _ _ _)

theorem scree (s : State) (pseq kind port cs noz lo hi changed removed : Nat) :
    FetchStep frameFields s (s.scree pseq kind port cs noz lo hi changed removed) := by
  unfold State.scree
  dsimp only
  split
  · exact openScree s _
  · split
    · exact (closeScree s _).trans (openScree _ _)
    · exact ff s rfl

theorem screeQuiet (s : State) (port : Nat) : FetchStep l s (s.screeQuiet port) := ff s rfl

end FetchStep

/-! ### Withdrawals (R205) -/

/-- While a withdrawal lasts, what substitutes fire does not change which lines it covers. -/
theorem wdCovers_noteSubst (w : Withdrawal) (t : Tab Nat) (di r n : Nat) :
    wdCovers (if w.w1.isNone then { w with subst := t } else w) di r n = wdCovers w di r n := by
  split
  next lasts =>
    rw [Option.isNone_iff_eq_none] at lasts
    simp [wdCovers, lasts]
  next => rfl

theorem FetchStep.noteSubst {l : List Fld} (s : State) (q row line : Nat) : FetchStep l s (s.noteSubst q row line) := by
  refine ⟨rfl, .of_regs _ rfl, fun p di r n => ?_⟩
  by_cases here : q = p
  · subst here
    have noted : (s.noteSubst q row line).withdrawals q = (s.withdrawals q).map (fun w =>
        if w.w1.isNone then { w with subst := Tab.insert row (max (line + 1) (Tab.get 0 w.subst row)) w.subst } else w) :=
      (Tab.get_set [] s.ff.wd q q _).trans (if_pos rfl)
    rw [State.withdrawn, noted, List.any_map, State.withdrawn]
    exact congrArg (List.any (s.withdrawals q)) (funext fun w => wdCovers_noteSubst w _ di r n)
  · have other : (s.noteSubst q row line).withdrawals p = s.withdrawals p := Tab.get_set_ne [] [] s.ff.wd _ here
    rw [State.withdrawn, other, State.withdrawn]

/-! ### Whole lines and LATE (R211, R212, R521) -/

namespace FetchStep

theorem wholeScree (s : State) (kind N : Nat) (l : List Site) (removed : Nat) :
    FetchStep frameFields s (s.wholeScree kind N l removed) := by
  unfold State.wholeScree
  split
  · exact refl s
  · extract_lets _ noted counted
    have hnoted : FetchStep frameFields s noted := ff s rfl
    have hcounted : FetchStep frameFields noted counted := by
      dsimp only [counted]
      split
      · exact count _ (by decide) (by decide) (by decide) (by decide) 0
      · exact refl _
    exact (hnoted.trans hcounted).trans (foldl (fun t x => scree t _ _ _ _ _ _ _ _ _) _ _)

/-- Behind the count of FF_CNT_LATE, a LATE frame is recorded for the pages that it is over. -/
theorem lateFrame (s : State) (p : Nat) (l : List Site) :
    FetchStep frameFields (s.count FfCntLate.count FfCntLate.ovf 0) (s.lateFrame p l) := by
  refine foldl (fun t x => ?_) _ _
  extract_lets logged marked
  have hmarked : FetchStep frameFields t marked := (scree t _ _ _ _ _ _ _ _ _).trans (mapPage _ _ _)
  split
  · exact hmarked
  · exact hmarked.trans ((ff marked (ff := { marked.ff with latePages := x.1 :: marked.ff.latePages }) rfl).trans (record _ _ _ _))

theorem noteFired {l' : List Fld} (s : State) (N : Nat) (l : List Site) (codes : Tab Nat) : FetchStep l' s (s.noteFired N l codes) := by
  unfold State.noteFired
  extract_lets m whole m'
  split
  · exact refl s
  · exact ⟨rfl, .of_regs _ rfl, fun _ _ _ _ => rfl⟩

end FetchStep

end Sys2Proof.Machine
end

section
/-! ## The codes of a line frame (R199 to R209): O35 -/
namespace Sys2Proof.Machine

/-! ### Which codes a site allows -/

/-- A drop of code `k` may be fired at the site: it and its page may fire, its port is not withdrawn for the line, and `k` is above
neither its CAP nor what the band ring holds. -/
structure State.Allows (s : State) (p : Nat) (x : Site) (k : Nat) : Prop where
  able : x.canFire (s.nmGen x.page.nmGen) p = true
  printed : x.page.blankFrom = none
  present : s.withdrawn p x.di x.row x.n = false
  cap : k ≤ (s.nmGen x.page.nmGen).get NmStage.cap (2048 * p + x.noz)
  code : k ≤ (s.bandCode x.n x.col).getD 0

/-- Each code that is not 0 is one that a site of its nozzle allows. -/
def State.CodesAllowed (s : State) (p : Nat) (l : List Site) (codes : Tab Nat) : Prop :=
  ∀ i, Tab.get 0 codes i ≠ 0 → ∃ x ∈ l, x.noz = i ∧ s.Allows p x (Tab.get 0 codes i)

section
variable {s t : State} {p : Nat} {l : List Site}

theorem State.nmGen_congr (scr : t.scr = s.scr) (n : Nat) : t.nmGen n = s.nmGen n := by
  rw [State.nmGen, State.nmGen, scr]

theorem State.bandCode_congr (scr : t.scr = s.scr) (force : t.force = s.force) (n x : Nat) : t.bandCode n x = s.bandCode n x := by
  rw [State.bandCode, State.bandCode, State.bandLine_congr (congrArg ScreenSt.ring scr) force]

/-- What a site allowed before a step of fetch it allows after it. -/
theorem FetchStep.allows {fs : List Fld} (h : FetchStep fs s t) {x : Site} {k : Nat} (allowed : t.Allows p x k) : s.Allows p x k := by
  obtain ⟨-, -, -, -, -, scr, force⟩ := h.frame
  obtain ⟨able, printed, present, cap, code⟩ := allowed
  rw [State.nmGen_congr scr] at able cap
  rw [h.withdrawn] at present
  rw [State.bandCode_congr scr force] at code
  exact ⟨able, printed, present, cap, code⟩

theorem State.CodesAllowed.lower {codes codes' : Tab Nat} (h : s.CodesAllowed p l codes)
    (below : ∀ i, Tab.get 0 codes' i ≤ Tab.get 0 codes i) : s.CodesAllowed p l codes' := by
  intro i fires
  have b := below i
  obtain ⟨x, here, noz, able, printed, present, cap, code⟩ := h i (by omega)
  exact ⟨x, here, noz, able, printed, present, b.trans cap, b.trans code⟩

/-- A site's own code joins the codes of the sites before it. -/
theorem State.CodesAllowed.set {codes : Tab Nat} (h : s.CodesAllowed p l codes) {x : Site} (here : x ∈ l) {k : Nat} (allowed : s.Allows p x k) :
    s.CodesAllowed p l (Tab.set 0 codes x.noz k) := by
  intro i fires
  rw [Tab.get_set] at fires ⊢
  split at fires
  next same =>
    rw [if_pos same]
    exact ⟨x, here, same, allowed⟩
  next other =>
    rw [if_neg other]
    exact h i fires

end

/-! ### One site (R202 to R206) -/

theorem FetchStep.siteDrop (p : Nat) (a : State × Tab Nat) (t : Site) : FetchStep frameFields a.1 (siteDrop p a t).1 := by
  unfold Machine.siteDrop
  extract_lets s g k i _ mark subs sub w fired noted cap k1 d lim k2 capped _ listed
  have hmark : FetchStep frameFields s mark := by
    dsimp only [mark]
    split
    · exact ins s _
    · exact refl s
  have hcount (u : State) : FetchStep frameFields u (u.count FfCntWd.count FfCntWd.ovf 0) :=
    count u (by decide) (by decide) (by decide) (by decide) 0
  have hlost (kind cs : Nat) : FetchStep frameFields s (s.scree t.page.pseq kind p cs t.noz t.y t.y 1 1) := scree s _ _ _ _ _ _ _ _ _
  have hnoted : FetchStep frameFields s noted := by
    dsimp only [noted]
    split
    · exact refl s
    · split
      · exact (noteSubst s _ _ _).trans (scree _ _ _ _ _ _ _ _ _ _)
      · split <;> exact scree s _ _ _ _ _ _ _ _ _
  have hcapped : FetchStep frameFields noted capped := by
    dsimp only [capped]
    split
    · exact count _ (by decide) (by decide) (by decide) (by decide) 0
    · exact refl _
  have hlisted : FetchStep frameFields s listed := by
    refine (hnoted.trans hcapped).trans ?_
    dsimp only [listed]
    split
    · exact ins _ _
    · exact refl _
  clear_value mark listed
  split
  · exact refl s
  split
  · split
    · split
      · exact noteSubst s _ _ _
      · exact refl s
    · exact refl s
  split
  · split
    · exact hmark
    · split
      · split
        · exact refl s
        · exact hlost _ _
      · split
        · exact hlost _ _
        · exact refl s
  split
  · split
    · exact hmark
    · split
      · split
        · exact refl s
        · exact (hlost _ _).trans (hcount _)
      · split
        · exact (hlost _ _).trans (hcount _)
        · exact refl s
  split
  · exact refl s
  · exact hlisted

/-- A site leaves the codes as they are or sets its nozzle's to one that it allows. -/
theorem siteDrop_codes (p : Nat) (a : State × Tab Nat) (t : Site) :
    (siteDrop p a t).2 = a.2 ∨ ∃ k, (siteDrop p a t).2 = Tab.set 0 a.2 t.noz k ∧ a.1.Allows p t k := by
  unfold siteDrop
  extract_lets s g k i _ mark subs sub w fired noted cap k1 d lim k2 capped _ listed
  have low : k2 ≤ k1 := by
    dsimp only [k2]
    split
    · exact Nat.min_le_left _ _
    · exact Nat.zero_le _
  clear_value mark listed noted
  split
  next => exact .inl rfl
  next printed =>
  split
  next => exact .inl rfl
  next =>
  split
  next => exact .inl rfl
  next able =>
  split
  next => exact .inl rfl
  next present =>
  split
  next => exact .inl rfl
  next =>
  exact .inr ⟨k2, rfl, by simpa using able, by simpa using printed, by simpa using present,
    low.trans (Nat.min_le_right _ _), low.trans (Nat.min_le_left _ _)⟩

/-- Site by site, no code is set that its site does not allow. -/
theorem siteDrops_allowed (s : State) (p : Nat) (l : List Site) :
    FetchStep frameFields s (l.foldl (siteDrop p) (s, [])).1 ∧ s.CodesAllowed p l (l.foldl (siteDrop p) (s, [])).2 := by
  refine List.foldlRecOn l (siteDrop p) (motive := fun a : State × Tab Nat => FetchStep frameFields s a.1 ∧ s.CodesAllowed p l a.2)
    ⟨.refl s, fun i fires => absurd rfl fires⟩ fun a before x here => ?_
  obtain ⟨step, allowed⟩ := before
  refine ⟨step.trans (.siteDrop p a x), ?_⟩
  obtain same | ⟨k, set, fits⟩ := siteDrop_codes p a x
  · rw [same]
    exact allowed
  · rw [set]
    exact allowed.set here (step.allows fits)

/-! ### The duty limits (R207 to R209) -/

theorem lowerCode_le (ok : Nat → Bool) (k : Nat) : lowerCode ok k ≤ k := by
  induction k with
  | zero => exact Nat.le_refl 0
  | succ k ih =>
    unfold lowerCode
    split
    · exact Nat.le_refl _
    · exact ih.trans (Nat.le_succ k)

/-- The duty limits lower codes at most. -/
def DutyAcc.Lowers (a b : DutyAcc) : Prop := FetchStep frameFields a.s b.s ∧ ∀ i, Tab.get 0 b.codes i ≤ Tab.get 0 a.codes i

theorem DutyAcc.Lowers.refl (a : DutyAcc) : DutyAcc.Lowers a a := ⟨.refl a.s, fun _ => Nat.le_refl _⟩

theorem DutyAcc.Lowers.trans {a b c : DutyAcc} (h : DutyAcc.Lowers a b) (h' : DutyAcc.Lowers b c) : DutyAcc.Lowers a c :=
  ⟨h.1.trans h'.1, fun i => (h'.2 i).trans (h.2 i)⟩

theorem dutyDrop_lowers (p N : Nat) (h : List DutyLine) (sites : List Site) (a : DutyAcc) (i : Nat) :
    DutyAcc.Lowers a (dutyDrop p N h sites a i) := by
  unfold dutyDrop
  extract_lets k0 ns kn k u
  have low : k ≤ k0 := (lowerCode_le _ _).trans (lowerCode_le _ _)
  have step : FetchStep frameFields a.s u := by
    dsimp -zeta only [u]
    split
    · split
      · extract_lets logged _ marked
        have hlogged : FetchStep frameFields a.s logged := .scree _ _ _ _ _ _ _ _ _ _
        have hmarked : FetchStep frameFields logged marked := by
          dsimp only [marked]
          split
          · exact .ins _ _
          · exact .refl _
        refine (hlogged.trans hmarked).trans ?_
        split
        · exact .count _ (by decide) (by decide) (by decide) (by decide) 0
        · exact .count _ (by decide) (by decide) (by decide) (by decide) 0
      · exact .refl _
    · exact .refl _
  clear_value u
  split
  · exact .refl a
  · refine ⟨step, fun j => ?_⟩
    rw [Tab.get_set]
    split
    next same => exact same ▸ low
    next => exact Nat.le_refl _

theorem State.dutyLimit_lowers (s : State) (p N : Nat) (sites : List Site) (codes : Tab Nat) :
    FetchStep frameFields s (s.dutyLimit p N sites codes).1 ∧
      ∀ i, Tab.get 0 (s.dutyLimit p N sites codes).2 i ≤ Tab.get 0 codes i := by
  unfold State.dutyLimit
  extract_lets h order a h'
  have limited : DutyAcc.Lowers ⟨s, codes, [], 0⟩ a := by
    dsimp only [a]
    split
    next none => exact none ▸ .refl _
    next =>
      have lowers : DutyAcc.Lowers ⟨s, codes, [], headSum h N⟩ (order.foldl (dutyDrop p N h sites) ⟨s, codes, [], headSum h N⟩) :=
        foldl_rel .refl .trans (dutyDrop_lowers p N h sites) _ _
      exact lowers
  exact ⟨limited.1.trans (.ff _ rfl), limited.2⟩

end Sys2Proof.Machine
end

section
/-! ## Line frames as they are built, sent and passed (R202, R203, R211, R212, R521): O35 -/
namespace Sys2Proof.Machine

/-! ### Lines that pass -/

/-- The port has passed web line N. -/
def State.linePassed (s : State) (p N : Nat) : State := { s with ff := { s.ff with next := Tab.insert p (N + 1) s.ff.next } }

theorem State.nextLine_linePassed (s : State) (p N : Nat) : (s.linePassed p N).nextLine p = N + 1 := by
  simp [State.nextLine, State.linePassed, Tab.get, Tab.find_insert]

theorem State.nextLine_linePassed_ne (s : State) {p q : Nat} (other : q ≠ p) (N : Nat) : (s.linePassed p N).nextLine q = s.nextLine q := by
  simp [State.nextLine, State.linePassed, Tab.get, Tab.find_insert, other.symm]

theorem State.nextLine_congr {s t : State} (next : t.ff.next = s.ff.next) (p : Nat) : t.nextLine p = s.nextLine p := by
  rw [State.nextLine, State.nextLine, next]

/-- A change of a port's fitness moves no port to another line. -/
theorem State.nextLine_syncWd (s : State) (p q : Nat) : (s.syncWd p).nextLine q = s.nextLine q := by
  have watched : s.calWatch.ff = s.ff := by rw [s.calWatch_only]
  have driven (t : State) (k : Nat) : (t.driveHeads k).ff = t.ff := by
    unfold State.driveHeads
    dsimp only
    split <;> rfl
  have begun (t : State) (c : Nat) : (t.beginWd p c).ff.next = t.ff.next := by
    unfold State.beginWd
    split <;> rfl
  have ended (t : State) : (t.endWd p).ff.next = t.ff.next := by
    unfold State.endWd
    split
    · split <;> rfl
    · rfl
  refine State.nextLine_congr ?_ q
  unfold State.syncWd
  dsimp only
  split
  · split
    · rw [begun, driven, watched]
    · rw [ended, driven, watched]
  · rw [driven, watched]

/-! ### What follows a line: the journal and LEAD_MIN (R432, BR_LEAD) -/

theorem State.noteLead_writes (s : State) : OnlyRegs s s.noteLead ∧ FieldsKept (only [BrLead.leadMin]) s s.noteLead := by
  unfold State.noteLead
  split
  · exact ⟨.put _ _ _ _, .put s 0 _ (by decide) (by decide)⟩
  · exact ⟨.refl s, .refl _ s⟩

/-- Journal entries have gone out and LEAD_MIN has followed, and no more. -/
def LineNoted (s t : State) : Prop :=
  t = { s with regs := t.regs, colTx := t.colTx, twin := t.twin } ∧ FieldsKept (only [BrLead.leadMin, JnlLast.v]) s t

namespace LineNoted

theorem refl (s : State) : LineNoted s s := ⟨rfl, .refl _ s⟩

theorem trans {s t u : State} (h : LineNoted s t) (h' : LineNoted t u) : LineNoted s u := by
  obtain ⟨hrest, hkept⟩ := h
  obtain ⟨hrest', hkept'⟩ := h'
  rw [hrest] at hrest'
  exact ⟨hrest', hkept.trans hkept'⟩

theorem frame {s t : State} (h : LineNoted s t) : t.ff = s.ff ∧ t.ports = s.ports ∧ t.sent = s.sent ∧ t.pages = s.pages ∧
    t.pins = s.pins ∧ t.dram = s.dram := by
  rw [h.1]
  exact ⟨rfl, rfl, rfl, rfl, rfl, rfl⟩

theorem noteLead (s : State) : LineNoted s s.noteLead := by
  obtain ⟨wrote, kept⟩ := s.noteLead_writes
  refine ⟨?_, kept.mono (only_mono (by simp))⟩
  rw [wrote]

theorem sendJournal (s : State) (N : Nat) : LineNoted s (s.sendJournal N) := by
  unfold State.sendJournal
  extract_lets scheds args t
  have told : LineNoted s t := by
    dsimp only [t]
    split
    · obtain ⟨colTx, h⟩ := s.sendCol_eq 4 args
      rw [h]
      exact ⟨rfl, .of_regs _ rfl⟩
    · exact refl s
  exact told.trans ⟨rfl, .trans (.of_regs _ rfl) (.put _ 0 N (f := JnlLast.v) (by decide) (by decide))⟩

theorem flushLines (k : Nat) (s : State) : LineNoted s (Machine.flushLines k s) := by
  induction k generalizing s with
  | zero => exact refl s
  | succ k ih =>
    unfold Machine.flushLines
    extract_lets N
    split
    · exact (sendJournal s _).trans (ih _)
    · exact refl s

theorem flushJournal (s : State) : LineNoted s s.flushJournal := by
  unfold State.flushJournal
  split
  · exact flushLines 64 s
  · exact refl s

end LineNoted

/-! ### The frame that goes out -/

/-- Line frames of the port go out (R252). -/
structure State.Drives (s : State) (p : Nat) : Prop where
  may : s.mayDrive = true
  there : s.hpState p ≠ hpDown
  up : s.isUp p = true
  current : (s.port p).staleEpoch = false

/-- What decides whether frames of the port go out is as it was, nothing has been sent, and the other ports are as they were. -/
structure SendsAlike (p : Nat) (s t : State) : Prop where
  pins : t.pins = s.pins
  twin : t.twin = s.twin
  links : t.linkUp = s.linkUp
  role : t.get TwStat.role 0 = s.get TwStat.role 0
  state : t.hpState p = s.hpState p
  stale : (t.port p).staleEpoch = (s.port p).staleEpoch
  sent : t.sent = s.sent
  others : ∀ q, q ≠ p → t.port q = s.port q

theorem SendsAlike.drives {p : Nat} {s t : State} (h : SendsAlike p s t) (drives : s.Drives p) : t.Drives p := by
  obtain ⟨may, there, up, current⟩ := drives
  have acting : t.acting = s.acting := by rw [State.acting, State.acting, State.role, State.role, h.role]
  refine ⟨?_, h.state ▸ there, (State.isUp_congr h.links p).trans up, h.stale.trans current⟩
  rw [State.mayDrive, acting, h.pins, h.twin]
  exact may

theorem SendsAlike.refl (p : Nat) (s : State) : SendsAlike p s s := ⟨rfl, rfl, rfl, rfl, rfl, rfl, rfl, fun _ _ => rfl⟩

theorem SendsAlike.trans {p : Nat} {s t u : State} (h : SendsAlike p s t) (h' : SendsAlike p t u) : SendsAlike p s u :=
  ⟨h'.pins.trans h.pins, h'.twin.trans h.twin, h'.links.trans h.links, h'.role.trans h.role, h'.state.trans h.state,
    h'.stale.trans h.stale, h'.sent.trans h.sent, fun q other => (h'.others q other).trans (h.others q other)⟩

theorem FetchStep.sendsAlike {s t : State} (h : FetchStep lateFields s t) (p : Nat) : SendsAlike p s t := by
  obtain ⟨ports, sent, links, pins, twin, -⟩ := h.frame
  have port (q : Nat) : t.port q = s.port q := State.port_congr ports q
  exact ⟨pins, twin, links, h.get (by decide) (by decide), h.get (f := HpStat.state) (by decide) rfl,
    congrArg Port.staleEpoch (port p), sent, fun q _ => port q⟩

theorem State.port_mapPort_ne (s : State) {p q : Nat} (other : q ≠ p) (f : Port → Port) : (s.mapPort p f).port q = s.port q :=
  Tab.get_set_ne Port.reset Port.reset s.ports _ other.symm

/-- Pages that an UNVERIFIED head fires are noted in the port and recorded (R282). -/
theorem State.noteUnverified_step (s : State) (p : Nat) (l : List Site) (codes : Tab Nat) :
    SendsAlike p s (s.noteUnverified p l codes) ∧ FieldsKept (only []) s (s.noteUnverified p l codes) := by
  have stale (t : State) (q : Nat) : ((t.mapPort p fun x => { x with unverPage := some q }).port p).staleEpoch = (t.port p).staleEpoch := by
    rw [State.port_mapPort]
  have noted (t : State) (q : Nat) : SendsAlike p t (t.mapPort p fun x => { x with unverPage := some q }) :=
    ⟨rfl, rfl, rfl, rfl, rfl, stale t q, rfl, fun _ other => t.port_mapPort_ne other _⟩
  have recorded (t : State) : SendsAlike p t (t.record .hpUnverifiedFire p []) :=
    (FetchStep.record t .hpUnverifiedFire p []).sendsAlike p
  unfold State.noteUnverified
  split
  · refine foldl_rel (R := fun s t => SendsAlike p s t ∧ FieldsKept (only []) s t)
      (fun s => ⟨.refl p s, .refl _ s⟩) (fun h h' => ⟨h.1.trans h'.1, h.2.trans h'.2⟩) (fun t x => ?_) _ s
    split
    · exact ⟨.refl p t, .refl _ t⟩
    · exact ⟨(noted t x.1).trans (recorded _), .trans (.of_regs _ rfl) (.record _ _ _ _ (only_of_evt _))⟩
  · exact ⟨.refl p s, .refl _ s⟩

/-- The frame of port `p` for line `n` has been sent, with these codes. -/
structure FrameSent (p n : Nat) (l : List Site) (late : Bool) (codes : Tab Nat) (s t : State) (f : HeadFrame) : Prop where
  held : f ∈ (t.port p).frames
  line : f.line = n
  codes : f.codes = codes
  late : f.flags % 2 = if late then 1 else 0
  rowMask : f.rowMask = rowMask l
  csMask : f.csMask = csMask l
  sent : t.sent = .head p 0x4C f.args :: s.sent
  others : ∀ q, q ≠ p → t.port q = s.port q
  counted : t.get FfCntLate.count 0 = s.get FfCntLate.count 0

section
variable {p n : Nat} {l : List Site} {late : Bool} {codes : Tab Nat}

theorem State.dispatch_sent {s : State} (drives : s.Drives p) (n : Nat) (l : List Site) (late : Bool) (codes : Tab Nat) :
    ∃ f, FrameSent p n l late codes s (s.dispatch p n l late false codes) f := by
  unfold State.dispatch
  extract_lets x f0 f old sends shown
  have goes : sends = true := by
    obtain ⟨may, there, up, current⟩ := drives
    simp [sends, x, may, there, up, current]
  have out : shown = (s.put HpWscale.wscale p f.wscale).sendHead p 0x4C f.args := if_pos goes
  rw [if_pos (by simp [goes]), out]
  refine ⟨f, by simp, rfl, rfl, ?_, rfl, rfl, rfl, fun q other => Tab.get_set_ne _ _ _ _ other.symm, ?_⟩
  · have marks : f.flags = (if late then 1 else 0) + (if s.get HpCtrl.tickle p = 1 then 2 else 0) + 0 := rfl
    have even : (if s.get HpCtrl.tickle p = 1 then 2 else 0) % 2 = 0 := by split <;> rfl
    rw [marks]
    split <;> omega
  · exact s.get_put_ne (f := HpWscale.wscale) (by decide) p 0 _

theorem FrameSent.of_alike {s s' t : State} {f : HeadFrame} (alike : SendsAlike p s s') (counted : s'.get FfCntLate.count 0 = s.get FfCntLate.count 0)
    (h : FrameSent p n l late codes s' t f) : FrameSent p n l late codes s t f :=
  { h with
    sent := by rw [h.sent, alike.sent]
    others := fun q other => (h.others q other).trans (alike.others q other)
    counted := h.counted.trans counted }

/-- The frame stays sent when its port has passed the line and the journal has followed. -/
theorem FrameSent.passed {s t t' : State} {f : HeadFrame} (h : FrameSent p n l late codes s t f) (noted : LineNoted (t.linePassed p n) t') :
    t'.nextLine p = n + 1 ∧ FrameSent p n l late codes s t' f := by
  obtain ⟨ff, ports, sent, -⟩ := noted.frame
  have port (q : Nat) : t'.port q = t.port q := State.port_congr ports q
  have same : t'.get FfCntLate.count 0 = (t.linePassed p n).get FfCntLate.count 0 :=
    noted.2 _ FfCntLate.count 0 (by decide : _ ∈ Reg.ffCntLate.fields) (by decide)
  exact ⟨(State.nextLine_congr (congrArg FetchSt.next ff) p).trans (State.nextLine_linePassed t p n), { h with
    held := by rw [port]; exact h.held
    sent := sent.trans h.sent
    others := fun q other => (port q).trans (h.others q other)
    counted := same.trans h.counted }⟩

end

/-! ### How a frame is built -/

/-- Lines that were lost on their way to the band ring are recorded (R203). -/
def State.lostLogged (s : State) (N : Nat) (l : List Site) : State :=
  let lost := l.filter (fun t => match s.bandLine t.n with
    | some b => b.lost
    | none => false)
  if lost = [] then s else s.wholeScree 11 N lost 1

theorem FetchStep.lostLogged (s : State) (N : Nat) (l : List Site) : FetchStep frameFields s (s.lostLogged N l) := by
  unfold State.lostLogged
  extract_lets lost
  split
  · exact .refl s
  · exact .wholeScree s 11 N lost 1

/-- The codes of a frame, and what is recorded as they are made. -/
def State.drops (s : State) (p N cause : Nat) (late : Bool) (l : List Site) : State × Tab Nat :=
  if cause ≠ 0 then ((s.screeQuiet p).wholeScree cause N l 1, [])
  else if late then ((s.screeQuiet p).lateFrame p l, [])
  else
    let r := l.foldl (siteDrop p) ((s.screeQuiet p).lostLogged N l, [])
    r.1.dutyLimit p N l r.2

/-- Strip nozzles of a frame that is LATE or blanked as a whole do not fire (R355). -/
def State.stripsUnfired (s : State) (p : Nat) (strips : List Site) : State :=
  { s with ins := { s.ins with unfired := strips.map (fun (t : Site) => (t.page.pseq, 2048 * p + t.noz)) ++ s.ins.unfired } }

/-- What is noted of a frame before it goes out. -/
def State.framed (s : State) (p N : Nat) (l strips : List Site) (codes : Tab Nat) : State :=
  ((s.stripsUnfired p strips).noteFired N l codes).noteUnverified p l codes

theorem State.framed_alike (s : State) (p N : Nat) (l strips : List Site) (codes : Tab Nat) :
    SendsAlike p s (s.framed p N l strips codes) ∧
      (s.framed p N l strips codes).get FfCntLate.count 0 = s.get FfCntLate.count 0 := by
  have fired : FetchStep [] s ((s.stripsUnfired p strips).noteFired N l codes) := .trans (.ins s _) (.noteFired _ N l codes)
  obtain ⟨noted, kept⟩ := ((s.stripsUnfired p strips).noteFired N l codes).noteUnverified_step p l codes
  exact ⟨.trans ((fired.mono (List.nil_subset _)).sendsAlike p) noted,
    (fired.kept.trans kept) _ FfCntLate.count 0 (by decide : _ ∈ Reg.ffCntLate.fields) (by decide)⟩

theorem State.build_eq (s : State) (p N cause : Nat) (late replay : Bool) (l : List Site) : s.build p N cause late replay l =
    (((s.drops p N cause late l).1.framed p N l (l.filter (fun t => t.strip && (cause != 0 || late))) (s.drops p N cause late l).2).dispatch
      p N l (late && cause == 0) replay (s.drops p N cause late l).2).linePassed p N := by
  unfold State.build State.framed State.drops State.lostLogged State.stripsUnfired
  rfl

section
variable {s : State} {p n cause : Nat} {l : List Site}

theorem State.drops_of_cause (blanked : cause ≠ 0) (late : Bool) :
    s.drops p n cause late l = ((s.screeQuiet p).wholeScree cause n l 1, []) := if_pos blanked

/-- A frame that is neither LATE nor blanked has codes that its sites allow. -/
theorem State.drops_allowed (s : State) (p n : Nat) (l : List Site) :
    FetchStep frameFields s (s.drops p n 0 false l).1 ∧ s.CodesAllowed p l (s.drops p n 0 false l).2 := by
  have begun : FetchStep frameFields s ((s.screeQuiet p).lostLogged n l) := .trans (.screeQuiet s p) (.lostLogged _ n l)
  obtain ⟨dropped, allowed⟩ := siteDrops_allowed ((s.screeQuiet p).lostLogged n l) p l
  obtain ⟨limited, lower⟩ :=
    (l.foldl (siteDrop p) ((s.screeQuiet p).lostLogged n l, [])).1.dutyLimit_lowers p n l
      (l.foldl (siteDrop p) ((s.screeQuiet p).lostLogged n l, [])).2
  refine ⟨(begun.trans dropped).trans limited, State.CodesAllowed.lower (fun i fires => ?_) lower⟩
  obtain ⟨x, here, noz, fits⟩ := allowed i fires
  exact ⟨x, here, noz, begun.allows fits⟩

/-- A frame that is built where the port's frames go out is sent, and the port has passed its line. -/
theorem State.build_sent {late : Bool} (step : FetchStep lateFields s (s.drops p n cause late l).1) (drives : s.Drives p) :
    ∃ f, (s.build p n cause late false l).flushJournal.noteLead.nextLine p = n + 1 ∧
      FrameSent p n l (late && cause == 0) (s.drops p n cause late l).2 (s.drops p n cause late l).1
        (s.build p n cause late false l).flushJournal.noteLead f := by
  obtain ⟨alike, counted⟩ := (s.drops p n cause late l).1.framed_alike p n l (l.filter (fun t => t.strip && (cause != 0 || late)))
    (s.drops p n cause late l).2
  obtain ⟨f, sent⟩ := State.dispatch_sent (alike.drives ((step.sendsAlike p).drives drives)) n l (late && cause == 0)
    (s.drops p n cause late l).2
  rw [State.build_eq]
  exact ⟨f, (sent.of_alike alike counted).passed (.trans (.flushJournal _) (.noteLead _))⟩

end

end Sys2Proof.Machine
end

section
/-! ## FRAME_ASSEMBLE and FETCH_DEADLINE (R202, R211), and O35 -/
namespace Sys2Proof.Machine

/-! ### Lines without a frame -/

/-- A device that does not act, and a line not decided or already passed, sends no frame. -/
theorem frame_notDue (p : Fin 128) (n : Nat) (s : State) (idle : s.acting = false ∨ s.fpe.decided ≤ n ∨ n < s.nextLine p.val) :
    exec (.frameAssemble p n) s = .next s.noteLead ∧ exec (.fetchDeadline p n) s = .next s.noteLead ∧ s.noteLead.sent = s.sent ∧
      FieldsKept (only [BrLead.leadMin]) s s.noteLead := by
  obtain ⟨wrote, kept⟩ := s.noteLead_writes
  have nothing (deadline : Bool) : (if s.acting then s.assemble p.val n deadline else s) = s := by
    rcases idle with role | past
    · simp [role]
    · have unmade : s.assemble p.val n deadline = s := if_pos past
      rw [unmade, ite_self]
  exact ⟨next_congr (congrArg State.noteLead (nothing false)), next_congr (congrArg State.noteLead (nothing true)), by rw [wrote], kept⟩

/-- The line of a device that acts is decided and the port has not passed it. -/
structure State.LineDue (s : State) (p n : Nat) : Prop where
  acts : s.acting = true
  decided : n < s.fpe.decided
  unpassed : s.nextLine p ≤ n

section
variable {p : Fin 128} {n : Nat} {s : State}

theorem State.LineDue.run (due : s.LineDue p.val n) :
    exec (.frameAssemble p n) s = .next (s.assemble p.val n false).noteLead ∧
    exec (.fetchDeadline p n) s = .next (s.assemble p.val n true).noteLead :=
  ⟨next_congr (congrArg State.noteLead (if_pos due.acts)), next_congr (congrArg State.noteLead (if_pos due.acts))⟩

theorem State.LineDue.notPast {p : Nat} (due : s.LineDue p n) : ¬(s.fpe.decided ≤ n ∨ n < s.nextLine p) := by
  obtain ⟨-, decided, unpassed⟩ := due
  omega

theorem State.LineDue.passes {p : Nat} (due : s.LineDue p n) (free : Tab.find s.fpe.decisions n = some .skip ∨ s.sites p n = [])
    (deadline : Bool) : s.assemble p n deadline = (s.linePassed p n).flushJournal :=
  (if_neg due.notPast).trans (if_pos free)

end

/-- A skipped line, and one that the port has no nozzle on, pass without a frame. -/
theorem frame_passes (p : Fin 128) (n : Nat) (s : State) (acts : s.acting = true) (decided : n < s.fpe.decided)
    (unpassed : s.nextLine p.val ≤ n) (free : Tab.find s.fpe.decisions n = some .skip ∨ s.sites p.val n = []) :
    ∃ t, exec (.frameAssemble p n) s = .next t ∧ exec (.fetchDeadline p n) s = .next t ∧ t.nextLine p.val = n + 1 ∧
      (∀ q, q ≠ p.val → t.nextLine q = s.nextLine q) ∧ t.ports = s.ports ∧ t.sent = s.sent ∧ t.pages = s.pages ∧ t.pins = s.pins ∧
      t.dram = s.dram ∧ FieldsKept (only [BrLead.leadMin, JnlLast.v]) s t := by
  have due : s.LineDue p.val n := ⟨acts, decided, unpassed⟩
  obtain ⟨assembled, expired⟩ := due.run
  rw [due.passes free] at assembled expired
  have noted : LineNoted (s.linePassed p.val n) (s.linePassed p.val n).flushJournal.noteLead := .trans (.flushJournal _) (.noteLead _)
  obtain ⟨ff, ports, sent, pages, pins, dram⟩ := noted.frame
  have next (q : Nat) := State.nextLine_congr (congrArg FetchSt.next ff) q
  exact ⟨_, assembled, expired, (next _).trans (s.nextLine_linePassed _ n),
    fun q other => (next q).trans (s.nextLine_linePassed_ne other n), ports, sent, pages, pins, dram, .trans (.of_regs _ rfl) noted.2⟩

/-! ### Lines with a frame -/

/-- A frame of the port is due: the line is due and not skipped, and some nozzle of the port has a role on it. -/
structure State.FrameDue (s : State) (p n : Nat) : Prop extends s.LineDue p n where
  printed : Tab.find s.fpe.decisions n ≠ some .skip
  used : s.sites p n ≠ []

section
variable {p n : Nat} {s : State}

/-- A due frame is built once it is ready, and until then the port's fitness is looked at and no more. -/
theorem State.FrameDue.assembles (due : s.FrameDue p n) (deadline : Bool) : s.assemble p n deadline =
    if (s.syncWd p).frameComplete p n (s.sites p n) = true ∨ (s.syncWd p).blankCause n ≠ 0 ∨ deadline = true then
      ((s.syncWd p).build p n ((s.syncWd p).blankCause n) (!(s.syncWd p).frameComplete p n (s.sites p n)) false (s.sites p n)).flushJournal
    else s.syncWd p := by
  have made : ¬(Tab.find s.fpe.decisions n = some .skip ∨ s.sites p n = []) := not_or.mpr ⟨due.printed, due.used⟩
  exact (if_neg due.toLineDue.notPast).trans (if_neg made)

/-- A frame that is complete, blanked or at its deadline is built. -/
theorem State.FrameDue.builds (due : s.FrameDue p n) {deadline : Bool}
    (ready : (s.syncWd p).frameComplete p n (s.sites p n) = true ∨ (s.syncWd p).blankCause n ≠ 0 ∨ deadline = true) :
    s.assemble p n deadline = ((s.syncWd p).build p n ((s.syncWd p).blankCause n)
      (!(s.syncWd p).frameComplete p n (s.sites p n)) false (s.sites p n)).flushJournal :=
  (due.assembles deadline).trans (if_pos ready)

end

section
variable {p : Fin 128} {n : Nat} {s u : State}
variable (sync : u = s.syncWd p.val) (due : s.FrameDue p.val n)
include sync due

/-- Before its deadline a frame that is not complete waits. -/
theorem frame_waits (clear : u.blankCause n = 0) (incomplete : u.frameComplete p.val n (s.sites p.val n) = false) :
    ∃ t, exec (.frameAssemble p n) s = .next t ∧ t = u.noteLead ∧ t.nextLine p.val = s.nextLine p.val := by
  subst sync
  have waits : s.assemble p.val n false = s.syncWd p.val := (due.assembles false).trans (if_neg (by simp [clear, incomplete]))
  have run := due.run.1
  rw [waits] at run
  obtain ⟨ff, -⟩ := (LineNoted.noteLead (s.syncWd p.val)).frame
  exact ⟨_, run, rfl, (State.nextLine_congr (congrArg FetchSt.next ff) _).trans (s.nextLine_syncWd _ _)⟩

/-- At the deadline a frame that is not complete leaves LATE. -/
theorem frame_late (clear : u.blankCause n = 0) (incomplete : u.frameComplete p.val n (s.sites p.val n) = false)
    (drives : u.Drives p.val) :
    ∃ t f, exec (.fetchDeadline p n) s = .next t ∧ t.nextLine p.val = n + 1 ∧
      f ∈ (t.port p.val).frames ∧ f.line = n ∧ f.codes = [] ∧ f.flags % 2 = 1 ∧ f.rowMask = rowMask (s.sites p.val n) ∧
      t.sent = .head p.val 0x4C f.args :: u.sent ∧ t.get FfCntLate.count 0 = satAdd 31 (u.get FfCntLate.count 0) 1 ∧
      (∀ q, q ≠ p.val → t.port q = u.port q) := by
  subst sync
  have run := due.run.2
  rw [due.builds (.inr (.inr rfl)), clear, incomplete, Bool.not_false] at run
  generalize s.syncWd p.val = u at *
  generalize s.sites p.val n = l at *
  have quiet : FetchStep lateFields u (u.screeQuiet p.val) := .screeQuiet u _
  have counted : FetchStep lateFields u ((u.screeQuiet p.val).count FfCntLate.count FfCntLate.ovf 0) :=
    quiet.trans (.count _ (by decide) (by decide) (by decide) (by decide) 0)
  have logged := FetchStep.lateFrame (u.screeQuiet p.val) p.val l
  have step : FetchStep lateFields u (u.drops p.val n 0 true l).1 := counted.trans (logged.mono (by simp))
  obtain ⟨ports, sent, -⟩ := step.frame
  have late : (u.drops p.val n 0 true l).1.get FfCntLate.count 0 = satAdd 31 (u.get FfCntLate.count 0) 1 :=
    (logged.get (by decide) (by decide)).trans ((u.screeQuiet p.val).get_countBy 0 1 (by decide) (by decide))
  obtain ⟨f, next, out⟩ := State.build_sent step drives
  exact ⟨_, f, run, next, out.held, out.line, out.codes, out.late, out.rowMask, by rw [out.sent, sent], out.counted.trans late,
    fun q other => (out.others q other).trans (State.port_congr ports q)⟩

/-- A complete frame leaves, and its codes are ones that its sites allow. -/
theorem frame_complete (clear : u.blankCause n = 0) (complete : u.frameComplete p.val n (s.sites p.val n) = true)
    (drives : u.Drives p.val) :
    ∃ t f, exec (.frameAssemble p n) s = .next t ∧ exec (.fetchDeadline p n) s = .next t ∧
      t.nextLine p.val = n + 1 ∧ f ∈ (t.port p.val).frames ∧ f.line = n ∧ f.flags % 2 = 0 ∧ f.rowMask = rowMask (s.sites p.val n) ∧
      f.csMask = csMask (s.sites p.val n) ∧ t.sent = .head p.val 0x4C f.args :: u.sent ∧
      t.get FfCntLate.count 0 = u.get FfCntLate.count 0 ∧
      (∀ i, Tab.get 0 f.codes i ≠ 0 → ∃ x ∈ s.sites p.val n, x.noz = i ∧ x.canFire (s.nmGen x.page.nmGen) p.val = true ∧
        x.page.blankFrom = none ∧ u.withdrawn p.val x.di x.row x.n = false ∧
        Tab.get 0 f.codes i ≤ (s.nmGen x.page.nmGen).get NmStage.cap (2048 * p.val + i) ∧
        Tab.get 0 f.codes i ≤ (s.bandCode x.n x.col).getD 0) := by
  subst sync
  obtain ⟨assembled, expired⟩ := due.run
  rw [due.builds (.inl complete), clear, complete, Bool.not_true] at assembled expired
  have synced := (SyncStep.syncWd s p.val).1
  have scr : (s.syncWd p.val).scr = s.scr := by rw [synced]
  have force : (s.syncWd p.val).force = s.force := by rw [synced]
  generalize s.syncWd p.val = u at *
  generalize s.sites p.val n = l at *
  obtain ⟨step, allowed⟩ := u.drops_allowed p.val n l
  obtain ⟨-, sent, -⟩ := step.frame
  obtain ⟨f, next, out⟩ := State.build_sent (step.mono (l' := lateFields) (by simp)) drives
  refine ⟨_, f, assembled, expired, next, out.held, out.line, out.late, out.rowMask, out.csMask, by rw [out.sent, sent],
    out.counted.trans (step.get (by decide) (by decide)), fun i fires => ?_⟩
  rw [out.codes] at fires ⊢
  obtain ⟨x, here, noz, able, page, present, cap, code⟩ := allowed i fires
  rw [State.nmGen_congr scr] at able cap
  rw [State.bandCode_congr scr force] at code
  exact ⟨x, here, noz, able, page, present, noz ▸ cap, code⟩

/-- A frame that is blanked as a whole leaves without codes, complete or not. -/
theorem frame_blanked (blanked : u.blankCause n ≠ 0) (drives : u.Drives p.val) :
    ∃ t f, exec (.frameAssemble p n) s = .next t ∧ exec (.fetchDeadline p n) s = .next t ∧ t.nextLine p.val = n + 1 ∧
      f ∈ (t.port p.val).frames ∧ f.line = n ∧ f.codes = [] ∧ f.flags % 2 = 0 ∧ t.sent = .head p.val 0x4C f.args :: u.sent ∧
      t.get FfCntLate.count 0 = u.get FfCntLate.count 0 := by
  subst sync
  obtain ⟨assembled, expired⟩ := due.run
  rw [due.builds (.inr (.inl blanked))] at assembled expired
  generalize s.syncWd p.val = u at *
  generalize s.sites p.val n = l at *
  generalize (!u.frameComplete p.val n l) = late at *
  have made := State.drops_of_cause (s := u) (p := p.val) (n := n) (l := l) blanked late
  have step : FetchStep frameFields u (u.drops p.val n (u.blankCause n) late l).1 := by
    rw [made]
    exact (FetchStep.screeQuiet u p.val).trans (.wholeScree _ _ _ _ _)
  obtain ⟨-, sent, -⟩ := step.frame
  obtain ⟨f, next, out⟩ := State.build_sent (step.mono (l' := lateFields) (by simp)) drives
  refine ⟨_, f, assembled, expired, next, out.held, out.line, out.codes.trans (by rw [made]), ?_, by rw [out.sent, sent],
    out.counted.trans (step.get (by decide) (by decide))⟩
  rw [out.late]
  simp [blanked]

end

/-- Settles O35: a frame is built where its line is due and it is complete, blanked or at its deadline, and what is recorded as its
codes are made reaches neither the withdrawals, the band ring nor the ports. -/
theorem fireFetch : Obligations.FireFetch := by
  unfold Obligations.FireFetch
  refine ⟨frame_notDue, frame_passes,
    fun p n s u sync acts decided unpassed printed used clear incomplete => ?_,
    fun p n s u sync acts decided unpassed printed used clear incomplete may there up current => ?_,
    fun p n s u sync acts decided unpassed printed used clear complete may there up current => ?_,
    fun p n s u sync acts decided unpassed printed used blanked may there up current => ?_,
    screeEntryClose_closes, screeEntryClose_absent, ffDutyWeightWrite_low, ffDutyWeightWrite_high⟩
  · exact frame_waits sync ⟨⟨acts, decided, unpassed⟩, printed, used⟩ clear incomplete
  · exact frame_late sync ⟨⟨acts, decided, unpassed⟩, printed, used⟩ clear incomplete ⟨may, there, up, current⟩
  · exact frame_complete sync ⟨⟨acts, decided, unpassed⟩, printed, used⟩ clear complete ⟨may, there, up, current⟩
  · exact frame_blanked sync ⟨⟨acts, decided, unpassed⟩, printed, used⟩ blanked ⟨may, there, up, current⟩

end Sys2Proof.Machine
end

section
/-! ## Fire stamps (R223 to R231): O37 -/
namespace Sys2Proof.Machine

/-! ### The offset that is applied (R231) -/

section
variable {s : State} {p : Nat}

theorem State.slewOfs_first (first : Tab.find s.fpe.applied p = none) : s.slewOfs p = s.targetOfs p := by
  simp [State.slewOfs, first]

/-- A later stamp moves towards its target by at most PU. -/
theorem State.slewOfs_later {a : Int} (later : Tab.find s.fpe.applied p = some a) (moves : 1 ≤ s.get FpeOfsSlew.pu 0) :
    (s.slewOfs p - a).natAbs ≤ s.get FpeOfsSlew.pu 0 ∧
      ((s.targetOfs p - a).natAbs ≤ s.get FpeOfsSlew.pu 0 → s.slewOfs p = s.targetOfs p) := by
  have limit : ((max 1 (s.get FpeOfsSlew.pu 0) : Nat) : Int) = s.get FpeOfsSlew.pu 0 := by rw [Nat.max_eq_right moves]
  have slews : s.slewOfs p = if s.targetOfs p - a > s.get FpeOfsSlew.pu 0 then a + s.get FpeOfsSlew.pu 0
      else if a - s.targetOfs p > s.get FpeOfsSlew.pu 0 then a - s.get FpeOfsSlew.pu 0 else s.targetOfs p := by
    simp only [State.slewOfs, later, limit]
  rw [slews]
  split
  · omega
  · split <;> omega

/-! ### The instant of a stamp (R227, R230) -/

/-- TIME of the port's stamp for the instant `t`: rounded to FT ticks, above the last one. -/
def State.stampTime (s : State) (p t : Nat) : Nat :=
  max ((t + 128) / 256) (match Tab.find s.fpe.time p with
    | some x => x + 1
    | none => 0)

theorem State.stampTime_congr {s' : State} (fpe : s'.fpe = s.fpe) (t : Nat) : s'.stampTime p t = s.stampTime p t := by
  rw [State.stampTime, State.stampTime, fpe]

theorem State.stampTime_rises {x : Nat} (last : Tab.find s.fpe.time p = some x) (t : Nat) : x < s.stampTime p t := by
  simp only [State.stampTime, last]
  omega

theorem State.stampTime_of_later {t : Nat} (later : ∀ x, Tab.find s.fpe.time p = some x → x < (t + 128) / 256) :
    s.stampTime p t = (t + 128) / 256 := by
  unfold State.stampTime
  split
  next x last => exact Nat.max_eq_left (later x last)
  next => exact Nat.max_eq_left (Nat.zero_le _)

/-- An instant that does not meet the bound of R227 is counted as moved. -/
def State.slipCounted (s : State) (t : Nat) : State :=
  if t < s.earliestStamp then s.count FpeCntSlip.count FpeCntSlip.ovf 0 else s

theorem State.slipCounted_of_meets {t : Nat} (meets : s.earliestStamp ≤ t) : s.slipCounted t = s := if_neg (by omega)

theorem State.get_slipCounted {t : Nat} (misses : t < s.earliestStamp) :
    (s.slipCounted t).get FpeCntSlip.count 0 = satAdd 31 (s.get FpeCntSlip.count 0) 1 := by
  rw [State.slipCounted, if_pos misses]
  exact s.get_countBy 0 1 (by decide) (by decide)

theorem OnlyRegsEv.slipCounted (s : State) (t : Nat) : OnlyRegsEv s (s.slipCounted t) := by
  unfold State.slipCounted
  split
  · exact .countBy s 0 1
  · exact .refl s

theorem FieldsKept.slipCounted (s : State) (t : Nat) : FieldsKept (only [FpeCntSlip.count, FpeCntSlip.ovf]) s (s.slipCounted t) := by
  unfold State.slipCounted
  split
  · exact .countBy s 0 1 (by decide) (by decide) (by decide) (by decide) (only_of_evt _)
  · exact .refl _ s

/-! ### Issuing -/

/-- What the fire position engine notes of a stamp (R229, R231). -/
def FpeSt.noteStamp (f : FpeSt) (p N : Nat) (ofs : Int) (time : Nat) : FpeSt :=
  { f with
    applied := Tab.insert p ofs f.applied, stamped := Tab.insert p (N + 1) f.stamped, time := Tab.insert p time f.time,
    hwm := some (match f.hwm with
      | some h => max h N
      | none => N) }

/-- The page whose last line fires is dated, and no more. -/
theorem State.dateStamp_eq (s : State) (p N t : Nat) : s.dateStamp p N t = { s with pages := (s.dateStamp p N t).pages } := by
  unfold State.dateStamp
  exact foldl_rel (R := fun s t : State => t = { s with pages := t.pages }) (fun _ => rfl)
    (fun {s t u} (h : t = _) (h' : u = _) => by rw [h] at h'; exact h') (fun _ _ => rfl) _ s

/-- By how much a line was stretched (R237). -/
def State.stretchOf (s : State) (N : Nat) : Nat :=
  match Tab.find s.fpe.decisions N with
  | some (.fire l) => l
  | _ => 0

theorem State.stretchOf_of_unstretched {n : Nat} (unstretched : ∀ l, Tab.find s.fpe.decisions n = some (.fire l) → l = 0) :
    s.stretchOf n = 0 := by
  unfold State.stretchOf
  split
  next l fires => exact unstretched l fires
  next => rfl

/-- The stamp of (p, N) for an instant that the pacing after a takeover may still move. -/
def State.stampFor (s : State) (p N : Nat) (ofs : Int) (t0 : Nat) : State :=
  let r := s.paceStamp p N t0
  let t := max r.1 s.earliestStamp
  let u := if r.1 < t then r.2.count FpeCntSlip.count FpeCntSlip.ovf 0 else r.2
  let time := u.stampTime p t
  let v := u.mapFpe fun f => f.noteStamp p N ofs time
  let args := fun copy => [N % 2 ^ 32, time % 2 ^ 48, v.get TwStat.epoch 0, copy, v.period]
  ((v.dateStamp p N time).sendHead p 2 (args 0)).sendHead p 2 (args 1)

theorem State.issueStamp_eq {n t0 : Nat} (predicted : s.predict (256 * n + s.slewOfs p) = some t0) :
    s.issueStamp p n = s.stampFor p n (s.slewOfs p) (t0 + s.stretchOf n) := by
  simp only [State.issueStamp, predicted]
  rfl

/-- Without pacing, a line that is not stretched is stamped for the instant at which its target is predicted, or the earliest one
after it that meets the bound. -/
theorem State.issueStamp_unpaced {n t0 time : Nat} (unpaced : s.twin.pacing = none)
    (unstretched : ∀ l, Tab.find s.fpe.decisions n = some (.fire l) → l = 0) (predicted : s.predict (256 * n + s.slewOfs p) = some t0)
    (atTime : time = s.stampTime p (max t0 s.earliestStamp)) :
    ∃ pages, s.issueStamp p n = { s.slipCounted t0 with
      fpe := s.fpe.noteStamp p n (s.slewOfs p) time, pages := pages
      sent := .head p 2 [n % 2 ^ 32, time % 2 ^ 48, s.get TwStat.epoch 0, 1, s.period] ::
        .head p 2 [n % 2 ^ 32, time % 2 ^ 48, s.get TwStat.epoch 0, 0, s.period] :: s.sent } := by
  have counted : OnlyRegsEv s (s.slipCounted t0) := .slipCounted s t0
  have fpe : (s.slipCounted t0).fpe = s.fpe := by rw [counted]
  have sent : (s.slipCounted t0).sent = s.sent := by rw [counted]
  have paced (t : Nat) : s.paceStamp p n t = (t, s) := by simp only [State.paceStamp, unpaced]
  have moved : (if t0 < max t0 s.earliestStamp then s.count FpeCntSlip.count FpeCntSlip.ovf 0 else s) = s.slipCounted t0 :=
    if_congr (by omega) rfl rfl
  have epoch : (s.slipCounted t0).get TwStat.epoch 0 = s.get TwStat.epoch 0 :=
    FieldsKept.slipCounted s t0 _ TwStat.epoch 0 (by decide : _ ∈ Reg.twStat.fields) (by decide)
  have period (f : FpeSt → FpeSt) (same : (f s.fpe).vel = s.fpe.vel) : ((s.slipCounted t0).mapFpe f).period = s.period := by
    simp only [State.period, State.mapFpe, fpe, same]
  rw [State.issueStamp_eq predicted, State.stretchOf_of_unstretched unstretched, Nat.add_zero]
  unfold State.stampFor
  dsimp only
  rw [paced, moved, State.stampTime_congr fpe, ← atTime, State.get_mapFpe, epoch, period _ rfl, State.dateStamp_eq]
  simp only [State.sendHead, State.send, State.mapFpe, fpe, sent]
  exact ⟨_, rfl⟩

/-- A line below those stamped on the port is due no stamp. -/
theorem State.stampDue_of_passed {n : Nat} (passed : n < Tab.get 0 s.fpe.stamped p) : s.stampDue p n = false := by
  have below : decide (Tab.get 0 s.fpe.stamped p ≤ n) = false := decide_eq_false (by omega)
  simp [State.stampDue, below]

/-! ### The command -/

/-- A stamp leaves twice, for the instant of R225 or the earliest one that meets the bound of R227. -/
theorem stampIssue_issues (p : Fin 128) (n t0 : Nat) (s : State) (may : s.mayDrive = true) (locked : s.mode ≠ 0)
    (forward : 0 < s.fpe.vel) (ahead : s.get FpeStat.behind 0 = 0) (up : s.isUp p.val = true) (current : (s.port p.val).staleEpoch = false)
    (due : s.stampDue p.val n = true) (unpaced : s.twin.pacing = none)
    (unstretched : ∀ l, Tab.find s.fpe.decisions n = some (.fire l) → l = 0) (predicted : s.predict (256 * n + s.slewOfs p.val) = some t0) :
    ∃ t time, exec (.stampIssue p n) s = .next t ∧
      t.sent = .head p.val 2 [n % 2 ^ 32, time % 2 ^ 48, s.get TwStat.epoch 0, 1, s.period] ::
        .head p.val 2 [n % 2 ^ 32, time % 2 ^ 48, s.get TwStat.epoch 0, 0, s.period] :: s.sent ∧
      (∀ x, Tab.find s.fpe.time p.val = some x → x < time) ∧ (s.earliestStamp + 128) / 256 ≤ time ∧
      Tab.find t.fpe.time p.val = some time ∧ Tab.find t.fpe.applied p.val = some (s.slewOfs p.val) ∧
      t.stampDue p.val n = false ∧
      (s.earliestStamp ≤ t0 → (∀ x, Tab.find s.fpe.time p.val = some x → x < (t0 + 128) / 256) → time = (t0 + 128) / 256) ∧
      (s.earliestStamp ≤ t0 → t.regs = s.regs ∧ t.ev = s.ev) ∧
      (t0 < s.earliestStamp → t.get FpeCntSlip.count 0 = satAdd 31 (s.get FpeCntSlip.count 0) 1) ∧
      (s.fpe.hwm = none → t.fpe.hwm = some n) ∧ (∀ h, s.fpe.hwm = some h → t.fpe.hwm = some (max h n)) ∧
      t = { s with regs := t.regs, ev := t.ev, fpe := t.fpe, pages := t.pages, sent := t.sent } ∧
      FieldsKept (only [FpeCntSlip.count, FpeCntSlip.ovf]) s t := by
  have issues : exec (.stampIssue p n) s = .next (s.issueStamp p.val n) :=
    congrArg Host.Outcome.next (if_pos ⟨may, locked, forward, ahead, up, by simp [current], due⟩)
  have counted : OnlyRegsEv s (s.slipCounted t0) := .slipCounted s t0
  obtain ⟨pages, issued⟩ := State.issueStamp_unpaced unpaced unstretched predicted rfl
  have meets (h : s.earliestStamp ≤ t0) : max t0 s.earliestStamp = t0 := Nat.max_eq_left h
  rw [issued] at issues
  refine ⟨_, s.stampTime p.val (max t0 s.earliestStamp), issues, rfl, fun x last => State.stampTime_rises last _, ?_,
    (Tab.find_insert _ _ _ _).trans (if_pos rfl), (Tab.find_insert _ _ _ _).trans (if_pos rfl), State.stampDue_of_passed ?_,
    fun h later => ?_, fun h => ?_, State.get_slipCounted, fun h => ?_, fun m h => ?_, ?_, .trans (.slipCounted s t0) (.of_regs _ rfl)⟩
  · have least : s.earliestStamp ≤ max t0 s.earliestStamp := Nat.le_max_right _ _
    exact le_trans (by omega) (Nat.le_max_left _ _)
  · simp [FpeSt.noteStamp, Tab.get, Tab.find_insert]
  · rw [meets h, State.stampTime_of_later later]
  · rw [State.slipCounted_of_meets h]
    exact ⟨rfl, rfl⟩
  · simp [FpeSt.noteStamp, h]
  · simp [FpeSt.noteStamp, h]
  · rw [counted]

/-- Where one condition fails nothing is issued. -/
theorem stampIssue_withheld (p : Fin 128) (n : Nat) (s : State) (withheld : s.mayDrive = false ∨ s.mode = 0 ∨ s.fpe.vel ≤ 0 ∨
    s.get FpeStat.behind 0 = 1 ∨ s.isUp p.val = false ∨ (s.port p.val).staleEpoch = true ∨ s.stampDue p.val n = false) :
    exec (.stampIssue p n) s = .next s := by
  refine congrArg Host.Outcome.next (if_neg ?_)
  rintro ⟨may, locked, forward, ahead, up, current, due⟩
  rcases withheld with h | h | h | h | h | h | h
  · simp [may] at h
  · exact locked h
  · omega
  · omega
  · simp [up] at h
  · exact current h
  · simp [due] at h

end

/-- Settles O37: without pacing a stamp is its port's target instant, put off to the bound of R227 and above the port's last TIME. -/
theorem fireStamps : Obligations.FireStamps := by
  unfold Obligations.FireStamps
  exact ⟨stampIssue_issues, stampIssue_withheld, fun _ _ _ => State.stampDue_of_passed, fun _ _ => State.slewOfs_first,
    fun _ _ _ => State.slewOfs_later⟩

end Sys2Proof.Machine
end

section
/-! ## Steps of the fire position engine: what O36 and O38 share -/
namespace Sys2Proof.Machine

/-- Registers of the list `l`, values in force, what the engine notes, events and pins may change, and no more. -/
def FpeStep (l : List Fld) (s t : State) : Prop :=
  t = { s with regs := t.regs, force := t.force, fpe := t.fpe, ev := t.ev, pins := t.pins } ∧ FieldsKept (only l) s t

namespace FpeStep
variable {l : List Fld}

theorem refl (s : State) : FpeStep l s s := ⟨rfl, .refl _ s⟩

theorem trans {s t u : State} (h : FpeStep l s t) (h' : FpeStep l t u) : FpeStep l s u := by
  obtain ⟨hrest, hkept⟩ := h
  obtain ⟨hrest', hkept'⟩ := h'
  rw [hrest] at hrest'
  exact ⟨hrest', hkept.trans hkept'⟩

theorem mono {l' : List Fld} (sub : l ⊆ l') {s t : State} (h : FpeStep l s t) : FpeStep l' s t := ⟨h.1, h.2.mono (only_mono sub)⟩

theorem foldl {α : Type} {f : State → α → State} (h : ∀ t x, FpeStep l t (f t x)) (xs : List α) (s : State) :
    FpeStep l s (xs.foldl f s) :=
  foldl_rel .refl .trans h xs s

theorem get {s t : State} (h : FpeStep l s t) {f : Fld} (hf : f ∈ f.reg.fields) {i : Nat} (other : only l f i = false) :
    t.get f i = s.get f i :=
  h.2 _ f i hf other

theorem frame {s t : State} (h : FpeStep l s t) : t.ft = s.ft ∧ t.posn = s.posn ∧ t.pages = s.pages ∧ t.dram = s.dram ∧
    t.ports = s.ports ∧ t.sent = s.sent ∧ t.twin = s.twin ∧ t.ff = s.ff ∧ t.scr = s.scr := by
  rw [h.1]
  exact ⟨rfl, rfl, rfl, rfl, rfl, rfl, rfl, rfl, rfl⟩

theorem of_regsEv {s t : State} (h : OnlyRegsEv s t) (kept : FieldsKept (only l) s t) : FpeStep l s t := ⟨by rw [h], kept⟩

theorem put (s : State) {f : Fld} (hf : f ∈ f.reg.fields) (listed : f ∈ l) (i v : Nat) : FpeStep l s (s.put f i v) :=
  of_regsEv (.put _ _ _ _) (.put s i v hf (by simp [only, listed]))

theorem record (s : State) (c : EvCode) (n : Nat) (args : List EvArg) : FpeStep l s (s.record c n args) :=
  of_regsEv (.record _ _ _ _) (.record _ _ _ _ (only_of_evt l))

theorem mapFpe (s : State) (f : FpeSt → FpeSt) : FpeStep l s (s.mapFpe f) := ⟨rfl, .of_regs _ rfl⟩

theorem enforce (s : State) (f : Fld) (i : Nat) : FpeStep l s (s.enforce f i) := ⟨rfl, .of_regs _ rfl⟩

/-! ### The speed advisory's signal (R240, R241) -/

theorem advAssert (s : State) : FpeStep [FpeStat.adv] s s.advAssert := by
  unfold State.advAssert
  split
  · exact trans (t := { s with pins := { s.pins with spdAdvN := false } }) ⟨rfl, .of_regs _ rfl⟩ (put _ (by decide) (by decide) 0 1)
  · exact refl s

theorem checkRate (s : State) : FpeStep [FpeStat.adv, FpeAllowed.v] s s.checkRate := by
  have shown : FpeStep [FpeStat.adv, FpeAllowed.v] s (s.put FpeAllowed.v 0 s.allowedRate) := put s (by decide) (by decide) 0 _
  unfold State.checkRate
  dsimp only
  split
  · exact shown.trans ((advAssert _).mono (by simp))
  · exact shown

end FpeStep

theorem State.advAssert_fpe (s : State) : s.advAssert.fpe = s.fpe := by
  unfold State.advAssert
  split <;> rfl

theorem State.checkRate_fpe (s : State) : s.checkRate.fpe = s.fpe := by
  unfold State.checkRate
  dsimp only
  split
  · exact (s.put FpeAllowed.v 0 s.allowedRate).advAssert_fpe
  · rfl

end Sys2Proof.Machine
end

section
/-! ## The mode and the web position at an LQ, and how a source is selected (R217 to R223): O36 -/
namespace Sys2Proof.Machine

/-! ### The mode (R220) -/

/-- The registers that say whether a source counts as healthy. -/
abbrev sourceFields : List Fld :=
  [FpeCtrl.srcA, FpeCtrl.srcB, FpeCtrl.xchkC, FpeCtrl.xchkD, FpeCtrl.xchkEn, EncStat.healthy]

theorem State.srcOk_congr {s t : State} (same : ∀ f ∈ sourceFields, ∀ i, t.get f i = s.get f i) (k : Nat) : t.srcOk k = s.srcOk k := by
  have source : t.srcEnc k = s.srcEnc k := by
    simp only [State.srcEnc, same FpeCtrl.srcA (by decide), same FpeCtrl.srcB (by decide), same FpeCtrl.xchkC (by decide),
      same FpeCtrl.xchkD (by decide)]
  simp only [State.srcOk, State.flag, source, same EncStat.healthy (by decide), same FpeCtrl.xchkEn (by decide)]

theorem State.nextMode_congr {s t : State} (mode : t.mode = s.mode) (ok : ∀ k, t.srcOk k = s.srcOk k)
    (autoB : t.get FpeCtrl.autoB 0 = s.get FpeCtrl.autoB 0) (edges : t.fpe.edges = s.fpe.edges) (selA : t.fpe.selA = s.fpe.selA)
    (selB : t.fpe.selB = s.fpe.selB) : t.nextMode = s.nextMode := by
  have flag : t.flag FpeCtrl.autoB 0 = s.flag FpeCtrl.autoB 0 := by rw [State.flag, State.flag, autoB]
  simp only [State.nextMode, mode, ok, flag, edges, selA, selB]

theorem State.mode_lt (s : State) : s.mode < 8 := s.get_lt FpeStat.mode 0

theorem State.nextMode_lt (s : State) : s.nextMode < 8 := by
  have := s.mode_lt
  unfold State.nextMode
  dsimp only
  repeat' split
  all_goals omega

section
variable {s : State}

theorem State.nextMode_unlocked (mode : s.mode = 0) :
    (s.srcOk 0 = true → 16 ≤ s.fpe.edges.getD 0 0 → s.nextMode = 1) ∧
    ((s.srcOk 0 = false ∨ s.fpe.edges.getD 0 0 < 16) → s.srcOk 1 = true → 16 ≤ s.fpe.edges.getD 1 0 →
      (s.flag FpeCtrl.autoB 0 = true ∨ s.fpe.selB = true) → s.nextMode = 2) ∧
    ((s.srcOk 0 = false ∨ s.fpe.edges.getD 0 0 < 16) → (s.srcOk 1 = false ∨ s.fpe.edges.getD 1 0 < 16 ∨
      (s.flag FpeCtrl.autoB 0 = false ∧ s.fpe.selB = false)) → s.nextMode = 0) := by
  have step : s.nextMode = if s.srcOk 0 = true ∧ 16 ≤ s.fpe.edges.getD 0 0 then 1
      else if s.srcOk 1 = true ∧ 16 ≤ s.fpe.edges.getD 1 0 ∧ (s.flag FpeCtrl.autoB 0 = true ∨ s.fpe.selB = true) then 2 else 0 :=
    if_pos mode
  rw [step]
  refine ⟨fun a edges => if_pos ⟨a, edges⟩, fun noA b edges asked => ?_, fun noA noB => ?_⟩
  · rw [if_neg (by grind), if_pos ⟨b, edges, asked⟩]
  · rw [if_neg (by grind), if_neg (by grind)]

theorem State.nextMode_lockedA (mode : s.mode = 1) :
    (s.srcOk 0 = false → s.flag FpeCtrl.autoB 0 = true → s.srcOk 1 = true → s.nextMode = 2) ∧
    (s.srcOk 0 = false → (s.flag FpeCtrl.autoB 0 = false ∨ s.srcOk 1 = false) → s.nextMode = 3) ∧
    (s.srcOk 0 = true → s.nextMode = if s.fpe.selB = true ∧ s.srcOk 1 = true then 2 else 1) := by
  have step : s.nextMode = if ¬s.srcOk 0 = true then (if s.flag FpeCtrl.autoB 0 = true ∧ s.srcOk 1 = true then 2 else 3)
      else if s.fpe.selB = true ∧ s.srcOk 1 = true then 2 else 1 := by
    simp only [State.nextMode, mode]
    rfl
  rw [step]
  refine ⟨fun lost auto b => ?_, fun lost noB => ?_, fun a => if_neg (by simp [a])⟩
  · rw [if_pos (by simp [lost]), if_pos ⟨auto, b⟩]
  · rw [if_pos (by simp [lost]), if_neg (by grind)]

theorem State.nextMode_lockedB (mode : s.mode = 2) :
    (s.srcOk 1 = false → s.nextMode = if s.srcOk 0 = true then 1 else 3) ∧
    (s.srcOk 1 = true → s.nextMode = if s.srcOk 0 = true ∧ s.fpe.selA = true then 1 else 2) := by
  have step : s.nextMode = if s.srcOk 0 = true ∧ (s.fpe.selA = true ∨ ¬s.srcOk 1 = true) then 1
      else if ¬s.srcOk 1 = true then 3 else 2 := by
    simp only [State.nextMode, mode]
    rfl
  rw [step]
  refine ⟨fun lost => ?_, fun b => ?_⟩
  · simp [lost]
  · simp [b]

theorem State.nextMode_coasting (mode : s.mode = 3 ∨ s.mode = 4) :
    (s.srcOk 0 = true → s.nextMode = 1) ∧
    (s.srcOk 0 = false → s.nextMode =
      if s.srcOk 1 = true ∧ (s.flag FpeCtrl.autoB 0 = true ∨ s.fpe.selB = true) then 2 else s.mode) := by
  have step : s.nextMode = if s.srcOk 0 = true then 1
      else if s.srcOk 1 = true ∧ (s.flag FpeCtrl.autoB 0 = true ∨ s.fpe.selB = true) then 2 else s.mode := by
    rcases mode with mode | mode
    · simp only [State.nextMode, mode]
      rfl
    · simp only [State.nextMode, mode]
      rfl
  rw [step]
  exact ⟨fun a => if_pos a, fun lost => if_neg (by simp [lost])⟩

end

/-! ### What a change of the mode does (R218, R219) -/

/-- The requests for a source are used up and the start of COAST is noted; a lock starts at the X of R218, with no edges counted and no
source aligned. -/
def State.modeStart (s : State) (m : Nat) : State :=
  (if s.mode = 0 then
    s.mapFpe (fun f => { f with x := s.lockX, xhw := s.lockX, locked := true, ftLost := false, applied := [], edges := [0, 0],
                                aligned := [false, false, false, false] })
  else s).mapFpe (fun f => { f with selA := false, selB := false, coastAt := if m = 3 then some s.ft else none })

/-- Sources are set to X and compared; of the registers those of the list `l` may change. With `slots` slots hand over as well, and a
calibration that has lost its source is abandoned. -/
structure SourceStep (slots : Bool) (l : List Fld) (s t : State) : Prop where
  rest : t = { s with regs := t.regs, ev := t.ev, fpe := t.fpe, loop := t.loop, cal := t.cal }
  kept : FieldsKept (only l) s t
  web : t.fpe = { s.fpe with pos := t.fpe.pos, aligned := t.fpe.aligned, apart := t.fpe.apart }
  still : slots = false → t.loop = s.loop ∧ t.cal = s.cal

namespace SourceStep
variable {slots : Bool} {l : List Fld}

theorem refl (s : State) : SourceStep slots l s s := ⟨rfl, .refl _ s, rfl, fun _ => ⟨rfl, rfl⟩⟩

theorem trans {s t u : State} (h : SourceStep slots l s t) (h' : SourceStep slots l t u) : SourceStep slots l s u := by
  obtain ⟨hrest, hkept, hweb, hstill⟩ := h
  obtain ⟨hrest', hkept', hweb', hstill'⟩ := h'
  rw [hrest] at hrest'
  rw [hweb] at hweb'
  refine ⟨hrest', hkept.trans hkept', hweb', fun alone => ?_⟩
  obtain ⟨loop, cal⟩ := hstill alone
  obtain ⟨loop', cal'⟩ := hstill' alone
  exact ⟨loop'.trans loop, cal'.trans cal⟩

theorem foldl {α : Type} {f : State → α → State} (h : ∀ t x, SourceStep slots l t (f t x)) (xs : List α) (s : State) :
    SourceStep slots l s (xs.foldl f s) :=
  foldl_rel .refl .trans h xs s

theorem mono {l' : List Fld} (sub : l ⊆ l') {s t : State} (h : SourceStep slots l s t) : SourceStep slots l' s t :=
  ⟨h.rest, h.kept.mono (only_mono sub), h.web, h.still⟩

theorem get {s t : State} (h : SourceStep slots l s t) {f : Fld} (hf : f ∈ f.reg.fields) {i : Nat} (other : only l f i = false) :
    t.get f i = s.get f i :=
  h.kept _ f i hf other

theorem fpeStep {s t : State} (h : SourceStep false l s t) : FpeStep l s t := by
  obtain ⟨rest, kept, -, still⟩ := h
  obtain ⟨loop, cal⟩ := still rfl
  rw [loop, cal] at rest
  exact ⟨by rw [rest], kept⟩

theorem put (s : State) {f : Fld} (hf : f ∈ f.reg.fields) (listed : f ∈ l) (i v : Nat) : SourceStep slots l s (s.put f i v) :=
  ⟨rfl, .put s i v hf (by simp [only, listed]), rfl, fun _ => ⟨rfl, rfl⟩⟩

theorem record (s : State) (c : EvCode) (n : Nat) (args : List EvArg) : SourceStep slots l s (s.record c n args) := by
  have only : OnlyRegsEv s (s.record c n args) := .record s c n args
  refine ⟨?_, .record _ _ _ _ (only_of_evt l), ?_, fun _ => ?_⟩
  all_goals rw [only]
  exact ⟨rfl, rfl⟩

theorem mapFpe (s : State) {f : FpeSt → FpeSt} (h : ∀ x, f x = { x with pos := (f x).pos, aligned := (f x).aligned, apart := (f x).apart }) :
    SourceStep slots l s (s.mapFpe f) := ⟨rfl, .of_regs _ rfl, h s.fpe, fun _ => ⟨rfl, rfl⟩⟩

theorem alignSrc (s : State) (k : Nat) : SourceStep slots l s (s.alignSrc k) := mapFpe s fun _ => rfl

theorem alignAll (s : State) : SourceStep slots l s s.alignAll := by
  unfold State.alignAll
  split
  · exact refl s
  · refine foldl (fun t k => ?_) _ s
    split
    · exact mapFpe t fun _ => rfl
    · split
      · exact refl t
      · exact alignSrc t k

theorem crossCheck (s : State) : SourceStep slots l s s.crossCheck := by
  unfold State.crossCheck
  split
  · exact mapFpe s fun _ => rfl
  · refine foldl (fun t q => ?_) _ s
    extract_lets key ok a b far
    split
    · split
      · exact refl t
      · exact (mapFpe t fun _ => rfl).trans (record _ _ _ _)
    · exact mapFpe t fun _ => rfl

/-- What the hand-over of the slots of A and B shows (Table 13-3, R496). -/
abbrev shown : List Fld := LeStat.forced :: calFields

theorem releaseSlot (s : State) (n : Nat) : SourceStep true l s (s.releaseSlot n) := ⟨rfl, .of_regs _ rfl, rfl, by simp⟩

theorem forceSlot (s : State) (n cause : Nat) : SourceStep true shown s (s.forceSlot n cause) :=
  ⟨rfl, .trans (.of_regs _ rfl) (.put _ n 1 (f := LeStat.forced) (by decide) rfl), rfl, by simp⟩

theorem calWatch (s : State) : SourceStep true shown s s.calWatch := by
  refine ⟨?_, s.calWatch_kept.mono (only_mono (by simp)), ?_, by simp⟩
  all_goals rw [s.calWatch_only]

/-- A mode that is not the present one is taken at once. -/
theorem enterMode {s : State} {m : Nat} (changes : m ≠ s.mode) (small : m < 8) :
    SourceStep true (FpeStat.mode :: shown) (s.modeStart m) (s.enterMode m) ∧ (s.enterMode m).mode = m := by
  unfold State.enterMode
  rw [if_neg changes]
  extract_lets started asked taken freed
  have take : SourceStep true (FpeStat.mode :: shown) (s.modeStart m) taken := by
    have ft : started.ft = s.ft := by
      dsimp only [started]
      split <;> rfl
    have start : asked = s.modeStart m := by
      dsimp only [asked, State.modeStart]
      rw [ft]
    rw [← start]
    exact put asked (by decide) (by decide) 0 m
  have mode : taken.mode = m := asked.get_put_of_lt FpeStat.mode 0 small
  have follows {t : State} (h : SourceStep true shown taken t) :
      SourceStep true (FpeStat.mode :: shown) (s.modeStart m) t ∧ t.mode = m :=
    ⟨take.trans (h.mono (by simp)), (h.get (f := FpeStat.mode) (by decide) rfl).trans mode⟩
  have free : SourceStep true shown taken freed := foldl (fun t n => by split <;> [exact releaseSlot t n; exact refl t]) _ taken
  split
  · refine follows (trans (free.trans ?_) (calWatch _))
    split
    · exact (alignSrc freed 0).trans (releaseSlot _ 160)
    · exact (alignSrc freed 1).trans (releaseSlot _ 161)
  · split
    · exact follows (((forceSlot taken 160 3).trans (forceSlot _ 161 3)).trans (calWatch _))
    · exact follows (refl taken)

end SourceStep

/-! ### The parts of an LQ -/

/-- Counts and scales are taken, and the health of the sources is shown (R217, R295). -/
def State.lqCounted (s : State) : State :=
  let u := s.takeScales.takeCounts
  (u.put FpeStat.aOk 0 (if u.srcOk 0 then 1 else 0)).put FpeStat.bOk 0 (if u.srcOk 1 then 1 else 0)

/-- ENC_SPEED of an encoder. -/
def State.lqSpeed (s : State) (n : Nat) : State := s.putInt EncSpeed.v n (s.posn.enc.getD n Encoder.reset).sample

/-- ENC_SPEED of the six encoders. -/
def State.lqSpeeds (s : State) : State := (List.range 6).foldl State.lqSpeed s

/-- X moves by the velocity of the latest update. -/
def State.lqMoved (s : State) : State :=
  s.mapFpe (fun f => { f with x := if s.mode = 0 then f.x else f.x + f.vel, xAt := s.ft, velWas := f.vel })

/-- The mode follows R220, and a request for a source is used up. -/
def State.lqEntered (s : State) : State :=
  (s.enterMode s.nextMode).mapFpe (fun f => { f with selA := false, selB := f.selB && (s.enterMode s.nextMode).mode == 0 })

/-- The period and the allowed rate are shown. -/
def State.lqShown (s : State) : State := (s.put FpePeriod.v 0 (if s.mode = 0 then 0 else s.period)).checkRate

theorem State.lqUpdate_eq (s : State) :
    s.lqUpdate = s.lqCounted.lqSpeeds.lqMoved.lqEntered.alignAll.crossCheck.reversal.lqShown := rfl

/-! ### Counts, speeds and X (R217) -/

theorem FpeStep.takeScales {l : List Fld} (s : State) : FpeStep l s s.takeScales ∧
    s.takeScales.fpe = { s.fpe with scaleDue := [false, false] } := by
  have pair (t : State) (due : Bool) (lo hi : Fld) : FpeStep l t (if due then (t.enforce lo 0).enforce hi 0 else t) ∧
      (if due then (t.enforce lo 0).enforce hi 0 else t).fpe = t.fpe := by
    split
    · exact ⟨(FpeStep.enforce t lo 0).trans (.enforce _ hi 0), rfl⟩
    · exact ⟨.refl t, rfl⟩
  unfold State.takeScales
  extract_lets a b
  obtain ⟨stepA, sameA⟩ := pair s (s.fpe.scaleDue.getD 0 false) FpeScaleALo.v FpeScaleAHi.v
  obtain ⟨stepB, sameB⟩ := pair a (a.fpe.scaleDue.getD 1 false) FpeScaleBLo.v FpeScaleBHi.v
  refine ⟨(stepA.trans stepB).trans (.mapFpe _ _), ?_⟩
  exact congrArg (fun f : FpeSt => { f with scaleDue := [false, false] }) (sameB.trans sameA)

theorem FpeStep.lqCounted (s : State) : FpeStep [FpeStat.aOk, FpeStat.bOk] s s.lqCounted ∧
    s.lqCounted.fpe = { s.fpe with scaleDue := [false, false], pos := s.lqCounted.fpe.pos, taken := s.posn.enc.map fun x => x.net } := by
  obtain ⟨scales, fpe⟩ := FpeStep.takeScales (l := [FpeStat.aOk, FpeStat.bOk]) s
  obtain ⟨-, posn, -⟩ := scales.frame
  refine ⟨((scales.trans (.mapFpe _ _)).trans (.put _ (by decide) (by decide) 0 _)).trans (.put _ (by decide) (by decide) 0 _), ?_⟩
  simp only [State.lqCounted, State.put_frame, State.takeCounts, State.mapFpe, fpe, posn]

theorem State.getInt_putInt (s : State) (f : Fld) (i : Nat) (v : Int) :
    (s.putInt f i v).getInt f i = signed f.width (unsign f.width v) := by
  rw [State.getInt, State.putInt, State.get_put_self]
  simp [signed]

theorem FpeStep.lqSpeeds (s : State) : FpeStep [EncSpeed.v] s s.lqSpeeds ∧ s.lqSpeeds.fpe = s.fpe :=
  ⟨foldl (fun t n => put t (by decide) (by decide) n _) _ s,
    foldl_keeps State.fpe (f := State.lqSpeed) (fun _ _ => rfl) _ s⟩

theorem State.getInt_lqSpeeds (s : State) {n : Nat} (encoder : n < 6) :
    s.lqSpeeds.getInt EncSpeed.v n = signed 32 (unsign 32 (s.posn.enc.getD n Encoder.reset).sample) := by
  refine foldl_visits (f := State.lqSpeed) (s := s) (a := n) (before := fun t => t.posn = s.posn)
    (after := fun t => t.getInt EncSpeed.v n = signed 32 (unsign 32 (s.posn.enc.getD n Encoder.reset).sample))
    (fun t same => ?_) (fun t b _ same => same) (fun t b other done => ?_) List.nodup_range (List.mem_range.mpr encoder) rfl
  · rw [State.lqSpeed, State.getInt_putInt, same]
    rfl
  · rw [State.lqSpeed, State.getInt, State.putInt, State.get_put_idx _ _ other]
    exact done

theorem FpeStep.lqMoved {l : List Fld} (s : State) : FpeStep l s s.lqMoved := mapFpe s _

/-! ### Up to the mode -/

/-- Everything before the mode is looked at. -/
def State.lqTaken (s : State) : State := s.lqCounted.lqSpeeds.lqMoved

/-- What an LQ shows before the mode is looked at. -/
abbrev takenFields : List Fld := [FpeStat.aOk, FpeStat.bOk, EncSpeed.v]

theorem FpeStep.lqTaken (s : State) : FpeStep takenFields s s.lqTaken ∧
    s.lqTaken.fpe = { s.fpe with
      scaleDue := [false, false], pos := s.lqTaken.fpe.pos, taken := s.posn.enc.map fun x => x.net
      x := if s.mode = 0 then s.fpe.x else s.fpe.x + s.fpe.vel, xAt := s.ft, velWas := s.fpe.vel } := by
  obtain ⟨counted, fpe⟩ := FpeStep.lqCounted s
  obtain ⟨speeds, same⟩ := FpeStep.lqSpeeds s.lqCounted
  have step : FpeStep takenFields s s.lqCounted.lqSpeeds := (counted.mono (by simp)).trans (speeds.mono (by simp))
  have mode : s.lqCounted.lqSpeeds.mode = s.mode := step.get (f := FpeStat.mode) (by decide) (by decide)
  refine ⟨step.trans (.lqMoved _), ?_⟩
  simp only [State.lqTaken, State.lqMoved, State.mapFpe, mode, step.frame.1, same]
  rw [fpe]

theorem State.nextMode_lqTaken (s : State) : s.lqTaken.nextMode = s.nextMode ∧ s.lqTaken.mode = s.mode := by
  obtain ⟨step, fpe⟩ := FpeStep.lqTaken s
  have mode : s.lqTaken.mode = s.mode := step.get (f := FpeStat.mode) (by decide) (by decide)
  have same : ∀ f ∈ sourceFields, ∀ i, s.lqTaken.get f i = s.get f i := fun f hf i =>
    step.get ((by decide : ∀ f ∈ sourceFields, f ∈ f.reg.fields) f hf) ((by decide : ∀ f ∈ sourceFields, only takenFields f 0 = false) f hf)
  refine ⟨State.nextMode_congr mode (State.srcOk_congr same) (step.get (by decide) (by decide)) ?_ ?_ ?_, mode⟩
  all_goals rw [fpe]

/-! ### The mode is taken -/

/-- The device is in the mode that was next, no request waits, and the web moves only where a lock starts. -/
structure ModeTaken (u v : State) : Prop where
  rest : v = { u with regs := v.regs, ev := v.ev, fpe := v.fpe, loop := v.loop, cal := v.cal }
  kept : FieldsKept (only (FpeStat.mode :: SourceStep.shown)) u v
  mode : v.mode = u.nextMode
  asked : v.fpe.selA = false
  clock : v.fpe.xAt = u.fpe.xAt ∧ v.fpe.vel = u.fpe.vel ∧ v.fpe.hwm = u.fpe.hwm ∧ v.fpe.taken = u.fpe.taken
  place : u.mode ≠ 0 → v.fpe.x = u.fpe.x ∧ v.fpe.xhw = u.fpe.xhw
  same : u.nextMode = u.mode → FpeStep [] u v

theorem ModeTaken.frame {u v : State} (h : ModeTaken u v) : v.pages = u.pages ∧ v.dram = u.dram ∧ v.ports = u.ports := by
  rw [h.rest]
  exact ⟨rfl, rfl, rfl⟩

theorem State.modeStart_eq (s : State) (m : Nat) : s.modeStart m = { s with fpe := (s.modeStart m).fpe } := by
  unfold State.modeStart
  split <;> rfl

theorem State.modeStart_fpe (s : State) (m : Nat) :
    ((s.modeStart m).fpe.xAt = s.fpe.xAt ∧ (s.modeStart m).fpe.vel = s.fpe.vel ∧ (s.modeStart m).fpe.hwm = s.fpe.hwm ∧
      (s.modeStart m).fpe.taken = s.fpe.taken) ∧
    (s.mode ≠ 0 → (s.modeStart m).fpe.x = s.fpe.x ∧ (s.modeStart m).fpe.xhw = s.fpe.xhw) := by
  unfold State.modeStart
  split
  next unlocked => exact ⟨⟨rfl, rfl, rfl, rfl⟩, fun locked => absurd unlocked locked⟩
  next => exact ⟨⟨rfl, rfl, rfl, rfl⟩, fun _ => ⟨rfl, rfl⟩⟩

theorem State.lqEntered_taken (u : State) : ModeTaken u u.lqEntered := by
  by_cases changes : u.nextMode = u.mode
  · have stays : u.enterMode u.nextMode = u := if_pos changes
    have entered : u.lqEntered = u.mapFpe (fun f => { f with selA := false, selB := f.selB && u.mode == 0 }) := by
      rw [State.lqEntered, stays]
    rw [entered]
    exact ⟨rfl, .of_regs _ rfl, changes.symm, rfl, ⟨rfl, rfl, rfl, rfl⟩, fun _ => ⟨rfl, rfl⟩, fun _ => .mapFpe u _⟩
  · obtain ⟨step, mode⟩ := SourceStep.enterMode changes u.nextMode_lt
    obtain ⟨clock, place⟩ := u.modeStart_fpe u.nextMode
    have rest := step.rest
    rw [u.modeStart_eq] at rest
    refine ⟨?_, (FieldsKept.of_regs _ ?_).trans (step.kept.trans (.of_regs _ rfl)), mode, rfl, ?_, fun locked => ?_,
      fun same => absurd same changes⟩
    · unfold State.lqEntered
      rw [rest]
      rfl
    · rw [u.modeStart_eq]
    · simp only [State.lqEntered, State.mapFpe]
      rw [step.web]
      exact clock
    · simp only [State.lqEntered, State.mapFpe]
      rw [step.web]
      exact place locked

/-! ### XHW and the reversal of the web (R223) -/

/-- X has reached its highest value again. -/
def State.caughtUp (s : State) : State :=
  if s.fpe.xhw ≤ s.fpe.x then (s.mapFpe (fun f => { f with xhw := s.fpe.x })).put FpeStat.behind 0 0 else s

theorem State.reversal_eq (s : State) : s.reversal =
    if s.fpe.x < s.caughtUp.fpe.xhw - 2 ^ 24 ∧ s.caughtUp.get FpeStat.behind 0 = 0 then
      (s.caughtUp.put FpeStat.behind 0 1).record .fpeReverse 0 []
    else s.caughtUp := rfl

theorem FpeStep.reversal (s : State) : FpeStep [FpeStat.behind] s s.reversal := by
  have caught : FpeStep [FpeStat.behind] s s.caughtUp := by
    unfold State.caughtUp
    split
    · exact (mapFpe s _).trans (put _ (by decide) (by decide) 0 0)
    · exact refl s
  rw [s.reversal_eq]
  split
  · exact caught.trans ((put _ (by decide) (by decide) 0 1).trans (record _ _ _ _))
  · exact caught

theorem State.reversal_reached {s : State} (reached : s.fpe.xhw ≤ s.fpe.x) :
    s.reversal.fpe = { s.fpe with xhw := s.fpe.x } ∧ s.reversal.get FpeStat.behind 0 = 0 := by
  have caught : s.caughtUp = (s.mapFpe (fun f => { f with xhw := s.fpe.x })).put FpeStat.behind 0 0 := if_pos reached
  have xhw : s.caughtUp.fpe.xhw = s.fpe.x := by rw [caught]; rfl
  rw [s.reversal_eq, if_neg (by rw [xhw]; omega), caught]
  exact ⟨rfl, State.get_put_self _ _ _ _⟩

theorem State.reversal_below {s : State} (below : s.fpe.x < s.fpe.xhw) :
    s.reversal.fpe = s.fpe ∧ (s.fpe.x < s.fpe.xhw - 2 ^ 24 → s.reversal.get FpeStat.behind 0 = 1) := by
  have caught : s.caughtUp = s := if_neg (by omega)
  have bit : s.get FpeStat.behind 0 < 2 := s.get_lt FpeStat.behind 0
  rw [s.reversal_eq, caught]
  split
  · exact ⟨(State.record_frame _ _ _ _).2.2.2.2.2.2.2.2.2.2.2.2.2.2.2.2.2.2.2.2.2.1, fun _ => by simp (disch := decide)⟩
  next shown => exact ⟨rfl, fun far => by omega⟩

/-- Only XHW moves. -/
theorem State.reversal_fpe (s : State) : s.reversal.fpe = { s.fpe with xhw := s.reversal.fpe.xhw } := by
  rcases le_or_gt s.fpe.xhw s.fpe.x with reached | below
  · rw [(State.reversal_reached reached).1]
  · rw [(State.reversal_below below).1]

/-! ### One LQ -/

theorem FpeStep.lqShown (s : State) : FpeStep [FpePeriod.v, FpeStat.adv, FpeAllowed.v] s s.lqShown ∧ s.lqShown.fpe = s.fpe :=
  ⟨(put s (by decide) (by decide) 0 _).trans ((checkRate _).mono (by simp)), State.checkRate_fpe _⟩

/-- Everything after the mode has been taken. -/
theorem State.lqAligned_facts (v : State) : ∃ t, t = v.alignAll.crossCheck.reversal.lqShown ∧
    FpeStep [FpeStat.behind, FpePeriod.v, FpeStat.adv, FpeAllowed.v] v t ∧
    (t.fpe.xAt = v.fpe.xAt ∧ t.fpe.vel = v.fpe.vel ∧ t.fpe.hwm = v.fpe.hwm ∧ t.fpe.taken = v.fpe.taken) ∧
    t.fpe.selA = v.fpe.selA ∧ t.fpe.x = v.fpe.x ∧
    (v.fpe.xhw ≤ v.fpe.x → t.fpe.xhw = v.fpe.x ∧ t.get FpeStat.behind 0 = 0) ∧
    (v.fpe.x < v.fpe.xhw - 2 ^ 24 → t.fpe.xhw = v.fpe.xhw ∧ t.get FpeStat.behind 0 = 1) := by
  have aligned : SourceStep false [] v v.alignAll.crossCheck := (SourceStep.alignAll v).trans (.crossCheck _)
  generalize v.alignAll.crossCheck = w at aligned
  obtain ⟨shown, same⟩ := FpeStep.lqShown w.reversal
  have behind : w.reversal.lqShown.get FpeStat.behind 0 = w.reversal.get FpeStat.behind 0 := shown.get (by decide) (by decide)
  have web := aligned.web
  have x : w.fpe.x = v.fpe.x := by rw [web]
  have xhw : w.fpe.xhw = v.fpe.xhw := by rw [web]
  refine ⟨_, rfl, ((aligned.fpeStep.mono (by simp)).trans ((FpeStep.reversal w).mono (by simp))).trans (shown.mono (by simp)),
    ?_, ?_, ?_, fun reached => ?_, fun far => ?_⟩
  · rw [same, w.reversal_fpe, web]
    exact ⟨rfl, rfl, rfl, rfl⟩
  · rw [same, w.reversal_fpe, web]
  · rw [same, w.reversal_fpe, x]
  · obtain ⟨fpe, clear⟩ := State.reversal_reached (s := w) (by omega)
    rw [same, behind, fpe]
    exact ⟨x, clear⟩
  · obtain ⟨fpe, set⟩ := State.reversal_below (s := w) (by omega)
    rw [same, behind, fpe]
    exact ⟨xhw, set (by omega)⟩

/-- What an LQ does (R217 to R223). -/
theorem State.lqUpdate_facts (s : State) : ∃ t, exec .fpeLqUpdate s = .next t ∧ t.mode = s.nextMode ∧
    (s.mode ≠ 0 → t.fpe.x = s.fpe.x + s.fpe.vel ∧
      (s.fpe.xhw ≤ s.fpe.x + s.fpe.vel → t.fpe.xhw = s.fpe.x + s.fpe.vel ∧ t.get FpeStat.behind 0 = 0) ∧
      (s.fpe.x + s.fpe.vel < s.fpe.xhw - 2 ^ 24 → t.fpe.xhw = s.fpe.xhw ∧ t.get FpeStat.behind 0 = 1)) ∧
    t.fpe.xAt = s.ft ∧ t.fpe.vel = s.fpe.vel ∧ t.fpe.hwm = s.fpe.hwm ∧ t.fpe.taken = s.posn.enc.map (fun x => x.net) ∧
    t.fpe.selA = false ∧ (∀ n, n < 6 → t.getInt EncSpeed.v n = signed 32 (unsign 32 (s.posn.enc.getD n Encoder.reset).sample)) ∧
    t.pages = s.pages ∧ t.dram = s.dram ∧ t.ports = s.ports ∧
    (t.mode = s.mode → t = { s with regs := t.regs, force := t.force, fpe := t.fpe, ev := t.ev, pins := t.pins } ∧
      FieldsKept (only [FpeStat.aOk, FpeStat.bOk, FpeStat.behind, FpeStat.adv, FpeStat.mode, EncSpeed.v, FpePeriod.v, FpeAllowed.v]) s t) := by
  obtain ⟨taken, fpe⟩ := FpeStep.lqTaken s
  obtain ⟨next, mode⟩ := s.nextMode_lqTaken
  have entered := s.lqTaken.lqEntered_taken
  obtain ⟨t, done, after, ⟨xAt, vel, hwm, counts⟩, asked, x, reached, far⟩ := s.lqTaken.lqEntered.lqAligned_facts
  obtain ⟨xAt', vel', hwm', counts'⟩ := entered.clock
  obtain ⟨-, -, pages, dram, ports, -⟩ := after.frame
  obtain ⟨-, -, pages', dram', ports', -⟩ := taken.frame
  have modeIs : t.mode = s.nextMode := (after.get (f := FpeStat.mode) (by decide) (by decide)).trans (entered.mode.trans next)
  obtain ⟨enteredPages, enteredDram, enteredPorts⟩ := entered.frame
  refine ⟨t, congrArg Host.Outcome.next (s.lqUpdate_eq.trans done.symm), modeIs, fun locked => ?_, ?_, ?_, ?_, ?_, ?_, fun n hn => ?_,
    ?_, ?_, ?_, fun same => ?_⟩
  · obtain ⟨place, highest⟩ := entered.place (by rwa [mode])
    have moved : s.lqTaken.fpe.x = s.fpe.x + s.fpe.vel := by rw [fpe]; exact if_neg locked
    have high : s.lqTaken.fpe.xhw = s.fpe.xhw := by rw [fpe]
    rw [place, highest, moved, high] at reached far
    exact ⟨x.trans (place.trans moved), reached, far⟩
  · rw [xAt, xAt', fpe]
  · rw [vel, vel', fpe]
  · rw [hwm, hwm', fpe]
  · rw [counts, counts', fpe]
  · exact asked.trans entered.asked
  · have moved : s.lqTaken.get EncSpeed.v n = s.lqCounted.lqSpeeds.get EncSpeed.v n := State.get_mapFpe _ _ _ _
    have speed : t.get EncSpeed.v n = s.lqCounted.lqSpeeds.get EncSpeed.v n :=
      (after.get (by decide) rfl).trans ((entered.kept _ EncSpeed.v n (by decide : _ ∈ Reg.encSpeed.fields) rfl).trans moved)
    have counted := (FpeStep.lqCounted s).1.frame.2.1
    rw [← counted]
    exact (congrArg (signed EncSpeed.v.width) speed).trans (s.lqCounted.getInt_lqSpeeds hn)
  · exact pages.trans (enteredPages.trans pages')
  · exact dram.trans (enteredDram.trans dram')
  · exact ports.trans (enteredPorts.trans ports')
  · have stays : FpeStep [] s.lqTaken s.lqTaken.lqEntered := entered.same (by rw [next, mode, ← modeIs, same])
    exact ((taken.mono (by simp)).trans (stays.mono (by simp))).trans (after.mono (by simp))

/-! ### The commands (R220, R221) -/

section
variable {v : Word} {s : State}

theorem State.selSource_healthyA (ok : s.srcOk 0 = true) : s.selSource 0 = { s with fpe := { s.fpe with selA := true } } := if_pos ok

theorem State.selSource_healthyB (ok : s.srcOk 1 = true) : s.selSource 1 = { s with fpe := { s.fpe with selB := true } } := if_pos ok

theorem State.selSource_refused {k : Nat} (lost : s.srcOk k = false) : s.selSource k = s.record .fpeSelRefused 0 [] :=
  if_neg (by simp [lost])

theorem State.writeFpeCtrl_selA (a : FpeCtrl.selA.of v = 1) (b : FpeCtrl.selB.of v = 0) :
    s.writeFpeCtrl v = (s.storeWord .fpeCtrl 0 v).selSource 0 := by
  simp [State.writeFpeCtrl, a, b]

theorem State.writeFpeCtrl_selB (a : FpeCtrl.selA.of v = 0) (b : FpeCtrl.selB.of v = 1) :
    s.writeFpeCtrl v = (s.storeWord .fpeCtrl 0 v).selSource 1 := by
  simp [State.writeFpeCtrl, a, b]

end

/-- A write that asks for one source, with the rest of FPE_CTRL taken as written. -/
theorem fpeSel_selects (v : Word) (s u : State) (stored : u = s.storeWord .fpeCtrl 0 v) : exec (.fpeSelA v) s = exec (.fpeSelB v) s ∧
    u.get FpeCtrl.srcA 0 = FpeCtrl.srcA.of v ∧ u.get FpeCtrl.srcB 0 = FpeCtrl.srcB.of v ∧ u.get FpeCtrl.autoB 0 = FpeCtrl.autoB.of v ∧
    u = { s with regs := u.regs } ∧
    (FpeCtrl.selA.of v = 1 → FpeCtrl.selB.of v = 0 → u.srcOk 0 = true →
      exec (.fpeSelA v) s = .next { u with fpe := { u.fpe with selA := true } }) ∧
    (FpeCtrl.selA.of v = 1 → FpeCtrl.selB.of v = 0 → u.srcOk 0 = false → exec (.fpeSelA v) s = .next (u.record .fpeSelRefused 0 [])) ∧
    (FpeCtrl.selA.of v = 0 → FpeCtrl.selB.of v = 1 → u.srcOk 1 = true →
      exec (.fpeSelB v) s = .next { u with fpe := { u.fpe with selB := true } }) ∧
    (FpeCtrl.selA.of v = 0 → FpeCtrl.selB.of v = 1 → u.srcOk 1 = false →
      exec (.fpeSelB v) s = .next (u.record .fpeSelRefused 0 [])) := by
  subst stored
  have takes {f : Fld} (hf : f ∈ Reg.fpeCtrl.fields) (plain : ∀ old, f.stored v old = f.of v) :
      (s.storeWord .fpeCtrl 0 v).get f 0 = f.of v := (s.get_storeWord hf 0 v).trans (plain _)
  refine ⟨rfl, takes (by decide) fun _ => rfl, takes (by decide) fun _ => rfl, takes (by decide) fun _ => rfl, OnlyRegs.storeWord s .fpeCtrl 0 v,
    fun a b ok => ?_, fun a b lost => ?_, fun a b ok => ?_, fun a b lost => ?_⟩
  · exact congrArg Host.Outcome.next ((State.writeFpeCtrl_selA a b).trans (State.selSource_healthyA ok))
  · exact congrArg Host.Outcome.next ((State.writeFpeCtrl_selA a b).trans (State.selSource_refused lost))
  · exact congrArg Host.Outcome.next ((State.writeFpeCtrl_selB a b).trans (State.selSource_healthyB ok))
  · exact congrArg Host.Outcome.next ((State.writeFpeCtrl_selB a b).trans (State.selSource_refused lost))

theorem fpeCoastExpired_expires (s : State) (coasts : s.mode = 3) : ∃ t, exec .fpeCoastExpired s = .next t ∧ t.mode = 4 ∧
    Recorded s t .fpeCoastExpired 0 [] ∧ t = { s with regs := t.regs, ev := t.ev } ∧ FieldsKept (only [FpeStat.mode]) s t := by
  refine ⟨_, congrArg Host.Outcome.next (if_pos coasts), ?_, s.record_ev_put (by decide) 0 4 _ 0 [],
    (OnlyRegsEv.put s FpeStat.mode 0 4).trans (.record _ _ _ _),
    (FieldsKept.put s 0 4 (f := FpeStat.mode) (by decide) (by decide)).trans (.record _ _ _ _ (only_of_evt _))⟩
  exact (State.get_record _ _ _ _ FpeStat.mode 0 (by decide)).trans (s.get_put_of_lt FpeStat.mode 0 (by decide))

/-- Settles O36: an LQ is its counts, X, the mode and what follows from X, in this order, and only the mode's change reaches beyond the
engine. -/
theorem fpeModes : Obligations.FpeModes := by
  unfold Obligations.FpeModes
  refine ⟨fun s => ?_, fpeSel_selects, fpeCoastExpired_expires, fun _ other => congrArg Host.Outcome.next (if_neg other)⟩
  obtain ⟨t, done, mode, follows⟩ := s.lqUpdate_facts
  refine ⟨t, done, fun m => ?_, fun m => ?_, fun m => ?_, fun m => ?_, fun m => ?_, fun m => ?_, fun m => ?_, fun m => ?_, fun m => ?_,
    fun m => ?_, follows⟩
  all_goals rw [mode]
  · exact (State.nextMode_unlocked m).1
  · exact (State.nextMode_unlocked m).2.1
  · exact (State.nextMode_unlocked m).2.2
  · exact (State.nextMode_lockedA m).1
  · exact (State.nextMode_lockedA m).2.1
  · exact (State.nextMode_lockedA m).2.2
  · exact (State.nextMode_lockedB m).1
  · exact (State.nextMode_lockedB m).2
  · exact (State.nextMode_coasting m).1
  · exact (State.nextMode_coasting m).2

end Sys2Proof.Machine
end

section
/-! ## What precedes and what follows a line decision (R234, R236, R432): O38 -/
namespace Sys2Proof.Machine

/-! ### Before the decision -/

/-- The record of the page whose last line is N takes an instant. -/
def Page.dated (p : Page) (N sec ns : Nat) : Page :=
  if p.scheduled = true ∧ p.first + p.lines = N + 1 then { p with record := { p.record with ptpSec := sec, ptpNs := ns } } else p

@[simp] theorem Page.dated_frame (p : Page) (N sec ns : Nat) :
    (p.dated N sec ns).pseq = p.pseq ∧ (p.dated N sec ns).desc = p.desc ∧ (p.dated N sec ns).scheduled = p.scheduled ∧
    (p.dated N sec ns).closed = p.closed ∧ (p.dated N sec ns).first = p.first ∧ (p.dated N sec ns).lines = p.lines ∧
    (p.dated N sec ns).record.status = p.record.status := by
  unfold Page.dated
  split <;> exact ⟨rfl, rfl, rfl, rfl, rfl, rfl, rfl⟩

/-- Line N has been taken up: the lines before it are passed, the ports due are noted, and a page that ends with it is dated. -/
structure LineBegun (N : Nat) (s v : State) : Prop where
  rest : v = { s with twin := v.twin, fpe := v.fpe, ports := v.ports, ff := v.ff, pages := v.pages }
  fpe : v.fpe = { s.fpe with decided := N + 1, dueLog := v.fpe.dueLog }
  pacing : v.twin.pacing = s.twin.pacing
  pages : ∃ sec ns, v.pages = s.pages.map fun p => p.dated N sec ns

theorem State.passTo_eq (s : State) (N : Nat) :
    ∃ l, s.passTo N = { s with twin := { s.twin with lastLine := l }, fpe := { s.fpe with decided := N + 1 } } := by
  unfold State.passTo
  extract_lets jump twin noted
  dsimp only [noted]
  split
  · exact ⟨_, rfl⟩
  · exact ⟨s.twin.lastLine, rfl⟩

theorem State.dateRecord_pages (s : State) (N t256 : Nat) :
    ∃ sec ns, (s.dateRecord N t256).pages = s.pages.map fun p => p.dated N sec ns := ⟨_, _, rfl⟩

theorem State.foldl_mapPort_eq (s : State) (f : State → Port → Port) (l : List Nat) :
    l.foldl (fun t p => t.mapPort p (f t)) s = { s with ports := (l.foldl (fun t p => t.mapPort p (f t)) s).ports } :=
  foldl_rel (R := fun s t : State => t = { s with ports := t.ports }) (fun _ => rfl)
    (fun {s t u} (h : t = _) (h' : u = _) => by rw [h] at h'; exact h') (fun _ _ => rfl) l s

/-- The decision of a line that is to be decided, and what follows it. -/
theorem State.lineDecision_begun {s : State} {n tw : Nat} {due ds : List Nat} (acts : s.acting = true) (locked : s.mode ≠ 0)
    (fresh : s.fpe.decided ≤ n) (dues : due = s.portsInUse.filter fun p => s.sites p n != [])
    (able : ds = due.filter fun p => !s.wdOpen p) (instant : tw = (s.predict (256 * n)).getD (s.ft * 256)) :
    ∃ v sites, LineBegun n s v ∧ s.lineDecision n =
      (if ds = [] then v.put FpeStat.overspeed 0 0 else v.decideLine n tw ds sites).checkRate.flushJournal := by
  obtain ⟨last, passed⟩ := s.passTo_eq n
  unfold State.lineDecision
  rw [if_neg (by simp [acts, locked, fresh])]
  generalize s.passTo n = u at passed
  extract_lets v due' logged noted quiet ds' tw' dated decided
  have sameDue : due' = due := by
    rw [dues]
    dsimp only [due', v]
    rw [passed]
    rfl
  have samePorts : noted = { logged with ports := noted.ports } := logged.foldl_mapPort_eq _ due'
  have begun : noted = { s with twin := { s.twin with lastLine := last }, fpe := noted.fpe, ports := noted.ports } ∧
      noted.fpe = { s.fpe with decided := n + 1, dueLog := noted.fpe.dueLog } := by
    rw [samePorts]
    dsimp only [logged, v, State.mapFpe]
    rw [passed]
    exact ⟨rfl, rfl⟩
  obtain ⟨rest, fpe⟩ := begun
  clear_value noted
  have sameAble : ds' = ds := by
    dsimp only [ds', quiet]
    rw [able, sameDue, rest]
    rfl
  have sameInstant : tw' = tw := by
    dsimp only [tw', quiet]
    rw [instant, rest, fpe]
    rfl
  refine ⟨dated, due'.flatMap fun p => dated.sites p n, ⟨?_, ?_, ?_, ?_⟩, ?_⟩
  · dsimp only [dated, State.dateRecord, quiet, State.screeQuiet]
    rw [rest]
  · dsimp only [dated, State.dateRecord, quiet, State.screeQuiet]
    exact fpe
  · dsimp only [dated, State.dateRecord, quiet, State.screeQuiet]
    rw [rest]
  · obtain ⟨sec, ns, pages⟩ := quiet.dateRecord_pages n tw'
    refine ⟨sec, ns, pages.trans ?_⟩
    dsimp only [quiet, State.screeQuiet]
    rw [rest]
  · dsimp only [decided]
    rw [sameAble, sameInstant]

/-! ### The advisory's signal, and what follows the decision -/

theorem State.advAssert_set {s : State} (asked : s.mayAssert = true ∨ s.get FpeStat.adv 0 = 1) : s.advAssert.get FpeStat.adv 0 = 1 := by
  have bit : s.get FpeStat.adv 0 < 2 := s.get_lt FpeStat.adv 0
  unfold State.advAssert
  split
  · exact State.get_put_of_lt _ FpeStat.adv 0 (by decide)
  next h =>
    by_contra unset
    exact h ⟨asked.resolve_right unset, by omega⟩

/-- What shows the rate and the journal behind a decision. -/
abbrev closeFields : List Fld := [FpeStat.adv, FpeAllowed.v, BrLead.leadMin, JnlLast.v]

/-- Behind the decision the engine, the pages and what was sent stay as they are. -/
theorem State.lineClosed_facts (s : State) : s.checkRate.flushJournal.fpe = s.fpe ∧ s.checkRate.flushJournal.sent = s.sent ∧
    s.checkRate.flushJournal.dram = s.dram ∧ s.checkRate.flushJournal.pages = s.pages ∧
    FieldsKept (only closeFields) s s.checkRate.flushJournal ∧
    (s.get FpeStat.adv 0 = 1 → s.checkRate.flushJournal.get FpeStat.adv 0 = 1) := by
  have rated := FpeStep.checkRate s
  have noted := LineNoted.flushJournal s.checkRate
  obtain ⟨-, -, sent, pages, -, dram⟩ := noted.frame
  obtain ⟨-, -, pages', dram', -, sent', -⟩ := rated.frame
  have fpe : s.checkRate.flushJournal.fpe = s.checkRate.fpe := by rw [noted.1]
  refine ⟨fpe.trans s.checkRate_fpe, sent.trans sent', dram.trans dram', pages.trans pages',
    (rated.2.mono (only_mono (by simp))).trans (noted.2.mono (only_mono (by simp))), fun set => ?_⟩
  have kept : s.checkRate.flushJournal.get FpeStat.adv 0 = s.checkRate.get FpeStat.adv 0 :=
    noted.2 _ FpeStat.adv 0 (by decide : _ ∈ Reg.fpeStat.fields) (by decide)
  have shown : (s.put FpeAllowed.v 0 s.allowedRate).get FpeStat.adv 0 = 1 := (s.get_put_ne (by decide) 0 0 _).trans set
  rw [kept]
  unfold State.checkRate
  dsimp only
  split
  · exact State.advAssert_set (.inr shown)
  · exact shown

end Sys2Proof.Machine
end

section
/-! ## What a line decision does (R234 to R238): O38 -/
namespace Sys2Proof.Machine

/-! ### Steps of a decision -/

/-- Registers of the list `l`, events, the scree log, pages and what the engine notes of decisions may change, and no more. -/
structure DecideStep (l : List Fld) (s t : State) : Prop where
  rest : t = { s with regs := t.regs, fpe := t.fpe, ev := t.ev, ff := t.ff, pages := t.pages, ins := t.ins, light := t.light }
  kept : FieldsKept (only l) s t
  engine : t.fpe = { s.fpe with
    last := t.fpe.last, decisions := t.fpe.decisions, fallen := t.fpe.fallen, skipUntil := t.fpe.skipUntil
    blankPage := t.fpe.blankPage, stretching := t.fpe.stretching, lagMax := t.fpe.lagMax }

namespace DecideStep
variable {l : List Fld}

theorem refl (s : State) : DecideStep l s s := ⟨rfl, .refl _ s, rfl⟩

theorem trans {s t u : State} (h : DecideStep l s t) (h' : DecideStep l t u) : DecideStep l s u := by
  obtain ⟨hrest, hkept, hengine⟩ := h
  obtain ⟨hrest', hkept', hengine'⟩ := h'
  rw [hrest] at hrest'
  rw [hengine] at hengine'
  exact ⟨hrest', hkept.trans hkept', hengine'⟩

theorem mono {l' : List Fld} (sub : l ⊆ l') {s t : State} (h : DecideStep l s t) : DecideStep l' s t :=
  ⟨h.rest, h.kept.mono (only_mono sub), h.engine⟩

theorem get {s t : State} (h : DecideStep l s t) {f : Fld} (hf : f ∈ f.reg.fields) {i : Nat} (other : only l f i = false) :
    t.get f i = s.get f i :=
  h.kept _ f i hf other

theorem of_regsEv {s t : State} (h : OnlyRegsEv s t) (kept : FieldsKept (only l) s t) : DecideStep l s t :=
  ⟨by rw [h], kept, by rw [h]⟩

theorem of_fetch {s t : State} (h : FetchStep l s t) : DecideStep l s t := ⟨by rw [h.rest], h.kept, by rw [h.rest]⟩

theorem put (s : State) {f : Fld} (hf : f ∈ f.reg.fields) (listed : f ∈ l) (i v : Nat) : DecideStep l s (s.put f i v) :=
  of_regsEv (.put _ _ _ _) (.put s i v hf (by simp [only, listed]))

theorem record (s : State) (c : EvCode) (n : Nat) (args : List EvArg) : DecideStep l s (s.record c n args) :=
  of_regsEv (.record _ _ _ _) (.record _ _ _ _ (only_of_evt l))

theorem count (s : State) {c ovf : Fld} (hc : c ∈ c.reg.fields) (hovf : ovf ∈ ovf.reg.fields) (listed : c ∈ l) (listed' : ovf ∈ l) :
    DecideStep l s (s.count c ovf 0) :=
  of_regsEv (.countBy s 0 1) (.countBy s 0 1 hc hovf (by simp [only, listed]) (by simp [only, listed']) (only_of_evt l))

theorem mapFpe (s : State) {f : FpeSt → FpeSt} (h : ∀ x, f x = { x with
      last := (f x).last, decisions := (f x).decisions, fallen := (f x).fallen, skipUntil := (f x).skipUntil
      blankPage := (f x).blankPage, stretching := (f x).stretching, lagMax := (f x).lagMax }) : DecideStep l s (s.mapFpe f) :=
  ⟨rfl, .of_regs _ rfl, h s.fpe⟩

theorem setLag (s : State) (lag : Nat) : DecideStep [FpeStretch.lag, FpeStat.stretch] s (s.setLag lag) := by
  unfold State.setLag
  extract_lets lines was shown noted
  have show_ : DecideStep [FpeStretch.lag, FpeStat.stretch] s shown :=
    (put s (by decide) (by decide) 0 lines).trans (put _ (by decide) (by decide) 0 _)
  have note : DecideStep [FpeStretch.lag, FpeStat.stretch] s noted := show_.trans (mapFpe shown fun _ => rfl)
  split
  · split
    · exact (show_.trans (mapFpe _ fun _ => rfl)).trans (record _ _ _ _)
    · exact show_
  · split
    · exact note
    · exact note.trans (record _ _ _ _)

theorem setDecision (s : State) (N : Nat) (d : LineDec) : DecideStep l s (s.setDecision N d) := mapFpe s fun _ => rfl

theorem setLast (s : State) (ds : List Nat) (t : Nat) : DecideStep l s (s.setLast ds t) := mapFpe s fun _ => rfl

theorem mapPage (s : State) (q : Nat) (f : Page → Page) : DecideStep l s (s.mapPage q f) := ⟨rfl, .of_regs _ rfl, rfl⟩

end DecideStep

/-! ### LAST and the decision (R234) -/

/-- LAST of the ports, the decisions and the pages are as they were. -/
def SameLines (s t : State) : Prop := t.fpe.last = s.fpe.last ∧ t.fpe.decisions = s.fpe.decisions ∧ t.pages = s.pages

theorem State.setLag_sameLines (s : State) (lag : Nat) : SameLines s (s.setLag lag) := by
  unfold State.setLag
  extract_lets lines was shown noted
  have recorded (t : State) (c : EvCode) (args : List EvArg) : SameLines t (t.record c 0 args) := by
    have only : OnlyRegsEv t (t.record c 0 args) := .record t c 0 args
    rw [only]
    exact ⟨rfl, rfl, rfl⟩
  split
  · split
    · exact recorded (shown.mapFpe fun f => { f with stretching := false, lagMax := 0 }) _ _
    · exact ⟨rfl, rfl, rfl⟩
  · split
    · exact ⟨rfl, rfl, rfl⟩
    · exact recorded noted _ _

theorem Tab.find_filter_key {α : Type} (keep : Nat → Bool) {k : Nat} (kept : keep k = true) (t : Tab α) :
    Tab.find (t.filter fun e => keep e.1) k = Tab.find t k := by
  induction t with
  | nil => rfl
  | cons e t ih =>
    obtain ⟨k', v⟩ := e
    by_cases same : k' = k
    · subst same
      simp [Tab.find, kept]
    · by_cases keeps : keep k' = true
      · simp [Tab.find, keeps, same, ih]
      · simp [Tab.find, keeps, same, ih]

theorem State.find_setDecision (s : State) (N : Nat) (d : LineDec) : Tab.find (s.setDecision N d).fpe.decisions N = some d :=
  (Tab.find_filter_key (fun k => decide (N < k + 8192)) (by simp) _).trans ((Tab.find_insert N N d _).trans (if_pos rfl))

theorem State.find_setLast (s : State) {ds : List Nat} (t : Nat) {p : Nat} (here : p ∈ ds) :
    Tab.find (s.setLast ds t).fpe.last p = some t := by
  have held (ds : List Nat) (m : Tab Nat) (had : p ∈ ds ∨ Tab.find m p = some t) :
      Tab.find (ds.foldl (fun m p => Tab.insert p t m) m) p = some t := by
    induction ds generalizing m with
    | nil => simpa using had
    | cons q ds ih =>
      refine ih _ ?_
      rw [Tab.find_insert]
      by_cases same : q = p
      · simp [same]
      · simpa [same, Ne.symm same] using had
  exact held ds s.fpe.last (.inl here)

/-! ### Skipped and blanked lines (R236, R238) -/

theorem DecideStep.skipLine (s : State) (N : Nat) (sites : List Site) :
    DecideStep (FpeCntSkip.count :: FpeCntSkip.ovf :: frameFields) s (s.skipLine N sites) ∧
    (s.skipLine N sites).fpe = (s.setDecision N .skip).fpe ∧
    (s.skipLine N sites).get FpeCntSkip.count 0 = satAdd 31 (s.get FpeCntSkip.count 0) 1 := by
  have scree := FetchStep.wholeScree ((s.setDecision N .skip).count FpeCntSkip.count FpeCntSkip.ovf 0) 8 N sites 1
  have counted : OnlyRegsEv (s.setDecision N .skip) ((s.setDecision N .skip).count FpeCntSkip.count FpeCntSkip.ovf 0) := .countBy _ 0 1
  have fpe : ((s.setDecision N .skip).count FpeCntSkip.count FpeCntSkip.ovf 0).fpe = (s.setDecision N .skip).fpe := by rw [counted]
  refine ⟨((setDecision s N .skip).trans (count _ (by decide) (by decide) (by simp) (by simp))).trans ((of_fetch scree).mono (by simp)),
    ?_, (scree.get (by decide) (by decide)).trans (State.get_countBy _ 0 1 (by decide) (by decide))⟩
  refine Eq.trans ?_ fpe
  unfold State.skipLine
  rw [scree.rest]

/-- The page that holds the line is blanked for speed, where one does. -/
def State.speedBlanked (s : State) (N : Nat) (sites : List Site) : State :=
  match s.pageOfLine N with
  | some x => s.blankForSpeed x.1 sites
  | none => s

theorem State.blankForSpeed_eq (s : State) (q : Page) (sites : List Site) :
    ∃ low, s.blankForSpeed q sites = (s.mapPage q.pseq fun p => p.spoil low 9).mapFpe fun f => { f with blankPage := some q.pseq } :=
  ⟨_, rfl⟩

theorem DecideStep.speedBlanked {l : List Fld} (s : State) (N : Nat) (sites : List Site) : DecideStep l s (s.speedBlanked N sites) := by
  unfold State.speedBlanked
  split
  next x _ =>
    obtain ⟨low, blanked⟩ := s.blankForSpeed_eq x.1 sites
    rw [blanked]
    exact (mapPage s _ _).trans (mapFpe _ fun _ => rfl)
  next => exact refl s

/-- A page that is not spoiled yet is spoiled with reason OVERSPEED. -/
theorem State.page_speedBlanked {s : State} {N y : Nat} {q : Page} (holds : s.pageOfLine N = some (q, y)) (found : s.page q.pseq = some q)
    (sound : q.record.status = 0) (sites : List Site) :
    ∃ q', (s.speedBlanked N sites).page q.pseq = some q' ∧ q'.record.status = 1 ∧ q'.record.reason = 9 := by
  obtain ⟨low, blanked⟩ := s.blankForSpeed_eq q sites
  have spoiled : (q.spoil low 9).record.status = 1 ∧ (q.spoil low 9).record.reason = 9 := by
    simp [Page.spoil, PageRecord.spoil, sound]
  refine ⟨q.spoil low 9, ?_, spoiled⟩
  simp only [State.speedBlanked, holds, blanked]
  exact s.page_mapPage q.pseq (f := fun p => p.spoil low 9) (fun _ => rfl) found

/-! ### The procedure of R235 -/

/-- The instant from which a port may fire again. -/
def State.dueAt (s : State) (p : Nat) : Nat :=
  match Tab.find s.fpe.last p with
  | some t => t + s.gap p
  | none => 0

/-- A port of D finds the line too fast. -/
def State.tooFast (s : State) (ds : List Nat) (tw : Nat) : Bool := ds.any fun p => decide (tw < s.dueAt p)

/-- The earliest instant from its web instant on at which every port of D may fire the line. -/
def State.stretchedTo (s : State) (ds : List Nat) (tw : Nat) : Nat := ds.foldl (fun m p => max m (s.dueAt p)) tw

/-- What becomes of a line while nothing is blanked, skipped or fallen already and no takeover is paced. -/
def State.lineOutcome (s : State) (N tw : Nat) (ds : List Nat) (sites : List Site) : State :=
  let u := s.put FpeStat.overspeed 0 (if s.tooFast ds tw then 1 else 0)
  let tf := s.stretchedTo ds tw
  if s.policyOf N = 1 then
    if tf - tw ≤ max 16 (s.get FpeStretch.stretchMax 0) * s.period then
      ((u.setLast ds tf).setLag (tf - tw)).setDecision N (.fire (tf - tw))
    else
      let w := u.mapFpe (fun f => { f with
        fallen := some ((s.policyPage N).elim 0 fun q => q.pseq)
        skipUntil := some (s.lastPaced + ds.foldl (fun m p => max m (s.gap p)) 0) })
      ((w.count FpeCntFall.count FpeCntFall.ovf 0).setLag 0).skipLine N sites
  else if s.tooFast ds tw = false then ((u.setLag 0).setLast ds tw).setDecision N (.fire 0)
  else if s.policyOf N = 2 then
    ((u.setLag 0).speedBlanked N sites).setDecision N .blank
  else (if s.policyOf N = 3 then (u.setLag 0).put FpeStat.absorb 0 1 else u.setLag 0).skipLine N sites

theorem State.le_stretchedTo (s : State) (ds : List Nat) (tw : Nat) :
    tw ≤ s.stretchedTo ds tw ∧ ∀ p ∈ ds, s.dueAt p ≤ s.stretchedTo ds tw := by
  unfold State.stretchedTo
  induction ds generalizing tw with
  | nil => exact ⟨Nat.le_refl tw, by simp⟩
  | cons q ds ih =>
    obtain ⟨start, rest⟩ := ih (max tw (s.dueAt q))
    rw [List.foldl_cons, List.forall_mem_cons]
    exact ⟨(Nat.le_max_left _ _).trans start, (Nat.le_max_right _ _).trans start, rest⟩

theorem State.stretchedTo_mem (s : State) (ds : List Nat) (tw : Nat) :
    s.stretchedTo ds tw = tw ∨ ∃ p ∈ ds, s.stretchedTo ds tw = s.dueAt p := by
  unfold State.stretchedTo
  induction ds generalizing tw with
  | nil => exact .inl rfl
  | cons q ds ih =>
    rw [List.foldl_cons]
    rcases ih (max tw (s.dueAt q)) with same | ⟨p, here, same⟩
    · rcases max_choice tw (s.dueAt q) with first | first
      · exact .inl (same.trans first)
      · exact .inr ⟨q, List.mem_cons_self, same.trans first⟩
    · exact .inr ⟨p, List.mem_cons_of_mem q here, same⟩

theorem State.tooFast_iff (s : State) (ds : List Nat) (tw : Nat) : s.tooFast ds tw = true ↔ tw < s.stretchedTo ds tw := by
  obtain ⟨start, rest⟩ := s.le_stretchedTo ds tw
  simp only [State.tooFast, List.any_eq_true, decide_eq_true_eq]
  constructor
  · rintro ⟨p, here, fast⟩
    exact fast.trans_le (rest p here)
  · intro fast
    rcases s.stretchedTo_mem ds tw with same | ⟨p, here, same⟩
    · omega
    · exact ⟨p, here, by omega⟩

theorem FpeSt.unfallen_eq {f : FpeSt} (unfallen : f.fallen = none) (unskipped : f.skipUntil = none) :
    { f with fallen := none, skipUntil := none } = f := by
  obtain ⟨⟩ := f
  dsimp only at unfallen unskipped
  rw [unfallen, unskipped]

theorem FpeSt.unblanked_eq {f : FpeSt} (unblanked : f.blankPage = none) : { f with blankPage := none } = f := by
  rw [← unblanked]

/-- With nothing under way the decision is the outcome, with the advisory's signal where the line is too fast. -/
theorem State.decideLine_eq {s : State} {ds : List Nat} {N tw : Nat} {sites : List Site} (unskipped : s.fpe.skipUntil = none)
    (unfallen : s.fpe.fallen = none) (unblanked : s.fpe.blankPage = none) (unpaced : s.twin.pacing = none) :
    s.decideLine N tw ds sites =
      if s.tooFast ds tw then (s.lineOutcome N tw ds sites).advAssert else s.lineOutcome N tw ds sites := by
  unfold State.decideLine
  extract_lets gmax due fast pg pol noted fallen risen still paced inBlank freed tf fired key fall plain blanked absorbed
  have hfast : fast = s.tooFast ds tw := rfl
  have hfallen : fallen = false := by
    have none : noted.fpe.fallen = none := unfallen
    dsimp only [fallen]
    rw [none]
    cases pg <;> rfl
  have hrisen : risen = noted := by
    dsimp only [risen]
    rw [hfallen]
    exact congrArg (fun f => { noted with fpe := f }) (FpeSt.unfallen_eq unfallen unskipped)
  have hstill : still = false := by
    have none : noted.fpe.skipUntil = none := unskipped
    dsimp only [still]
    rw [hrisen, none]
  have hpaced : paced = false := by
    have none : noted.twin.pacing = none := unpaced
    dsimp only [paced]
    rw [hrisen, none]
  have hblank : inBlank = false := by
    have none : noted.fpe.blankPage = none := unblanked
    dsimp only [inBlank]
    rw [hrisen, none]
    cases noted.pageOfLine N <;> rfl
  have hfreed : freed = noted := by
    dsimp only [freed]
    rw [hblank, hrisen]
    exact congrArg (fun f => { noted with fpe := f }) (FpeSt.unblanked_eq unblanked)
  have outcome : s.lineOutcome N tw ds sites =
      if pol = 1 then
        if tf - tw ≤ max 16 (freed.get FpeStretch.stretchMax 0) * freed.period then fired
        else ((fall.count FpeCntFall.count FpeCntFall.ovf 0).setLag 0).skipLine N sites
      else if fast = false then (plain.setLast ds tw).setDecision N (.fire 0)
      else if pol = 2 then blanked.setDecision N .blank
      else absorbed.skipLine N sites := by
    have most : freed.get FpeStretch.stretchMax 0 = s.get FpeStretch.stretchMax 0 := by
      rw [hfreed]
      exact s.get_put_ne (by decide) 0 0 _
    have period : freed.period = s.period := by
      rw [hfreed]
      rfl
    have paced : freed.lastPaced = s.lastPaced := by
      rw [hfreed]
      rfl
    have named : key = (s.policyPage N).elim 0 fun q => q.pseq := by
      dsimp only [key, pg]
      cases s.policyPage N <;> rfl
    rw [most, period]
    dsimp only [fired, fall, plain, blanked, absorbed]
    rw [paced, named, hfreed]
    unfold State.lineOutcome
    dsimp only
    rw [← hfast]
    congr 1
  have later : tw < tf ↔ fast = true := (s.tooFast_iff ds tw).symm
  have stretches : (if tw < tf then fired.advAssert else fired) = if fast = true then fired.advAssert else fired := if_congr later rfl rfl
  have falls (beyond : ¬tf - tw ≤ max 16 (freed.get FpeStretch.stretchMax 0) * freed.period) : fast = true := later.mp (by omega)
  rw [outcome, ← hfast, hstill, hpaced, hfallen, hblank, stretches]
  clear_value fast fired fall plain blanked absorbed tf freed pol
  by_cases stretch : pol = 1
  · by_cases fits : tf - tw ≤ max 16 (freed.get FpeStretch.stretchMax 0) * freed.period
    · simp [stretch, fits]
    · simp [stretch, fits, falls fits]
  · cases fast with
    | false => simp [stretch]
    | true =>
      by_cases blank : pol = 2
      · simp [blank]
      · simp [stretch, blank]

/-! ### The outcome, case by case -/

/-- What the outcome shows beside OVERSPEED. -/
abbrev outcomeFields : List Fld :=
  [FpeStat.stretch, FpeStat.absorb, FpeStretch.lag, FpeCntSkip.count, FpeCntSkip.ovf, FpeCntFall.count, FpeCntFall.ovf] ++ frameFields

/-- OVERSPEED as the line finds it. -/
def State.speedShown (s : State) (ds : List Nat) (tw : Nat) : State := s.put FpeStat.overspeed 0 (if s.tooFast ds tw then 1 else 0)

section
variable (s : State) {ds : List Nat} {N tw : Nat} {sites : List Site}

/-- A line that fires, its ports' LAST and LAG. -/
theorem State.fires_facts (N tf lag : Nat) (ds : List Nat) :
    DecideStep [FpeStretch.lag, FpeStat.stretch] s (((s.setLast ds tf).setLag lag).setDecision N (.fire lag)) ∧
    Tab.find (((s.setLast ds tf).setLag lag).setDecision N (.fire lag)).fpe.decisions N = some (.fire lag) ∧
    ∀ p ∈ ds, Tab.find (((s.setLast ds tf).setLag lag).setDecision N (.fire lag)).fpe.last p = some tf := by
  obtain ⟨last, -⟩ := (s.setLast ds tf).setLag_sameLines lag
  refine ⟨((DecideStep.setLast s ds tf).trans (.setLag _ lag)).trans (.setDecision _ N _), State.find_setDecision _ N _, fun p here => ?_⟩
  exact (congrArg (Tab.find · p) last).trans (s.find_setLast tf here)

theorem DecideStep.lineOutcome (N : Nat) (sites : List Site) :
    DecideStep outcomeFields (s.speedShown ds tw) (s.lineOutcome N tw ds sites) := by
  have unlagged : DecideStep outcomeFields (s.speedShown ds tw) ((s.speedShown ds tw).setLag 0) := (setLag _ 0).mono (by simp)
  unfold State.lineOutcome
  extract_lets u tf w
  split
  · split
    · exact (u.fires_facts N tf (tf - tw) ds).1.mono (by simp)
    · have fallen : DecideStep outcomeFields u w := mapFpe u fun _ => rfl
      exact ((fallen.trans (count _ (by decide) (by decide) (by simp) (by simp))).trans ((setLag _ 0).mono (by simp))).trans
        ((skipLine _ N sites).1.mono (by simp))
  · split
    · exact (unlagged.trans (setLast _ ds tw)).trans (setDecision _ N _)
    · split
      · exact (unlagged.trans (speedBlanked _ N sites)).trans (setDecision _ N .blank)
      · refine unlagged.trans (trans ?_ ((skipLine _ N sites).1.mono (by simp)))
        split
        · exact put _ (by decide) (by simp) 0 1
        · exact refl _

end

section
variable {s : State} {ds : List Nat} {N tw : Nat} (sites : List Site)

theorem State.get_speedShown {f : Fld} (other : FpeStat.overspeed.apart f = true) : (s.speedShown ds tw).get f 0 = s.get f 0 :=
  s.get_put_ne other 0 0 _

/-- A line that comes in time fires at its web instant under every policy. -/
theorem State.lineOutcome_inTime (inTime : s.tooFast ds tw = false) :
    Tab.find (s.lineOutcome N tw ds sites).fpe.decisions N = some (.fire 0) ∧
    (∀ p ∈ ds, Tab.find (s.lineOutcome N tw ds sites).fpe.last p = some tw) ∧
    (s.lineOutcome N tw ds sites).get FpeCntSkip.count 0 = s.get FpeCntSkip.count 0 := by
  have instant : s.stretchedTo ds tw = tw := by
    have least := (s.le_stretchedTo ds tw).1
    have fast := s.tooFast_iff ds tw
    rw [inTime] at fast
    simp at fast
    omega
  by_cases stretch : s.policyOf N = 1
  · obtain ⟨step, decided, last⟩ := (s.speedShown ds tw).fires_facts N tw 0 ds
    have out : s.lineOutcome N tw ds sites = (((s.speedShown ds tw).setLast ds tw).setLag 0).setDecision N (.fire 0) := by
      simp [State.lineOutcome, stretch, instant, State.speedShown]
    rw [out]
    exact ⟨decided, last, (step.get (by decide) (by decide)).trans (State.get_speedShown (by decide))⟩
  · have out : s.lineOutcome N tw ds sites = (((s.speedShown ds tw).setLag 0).setLast ds tw).setDecision N (.fire 0) := by
      simp [State.lineOutcome, stretch, inTime, State.speedShown]
    have lag := DecideStep.setLag (s.speedShown ds tw) 0
    rw [out]
    exact ⟨State.find_setDecision _ N _, fun p here => State.find_setLast _ tw here,
      (lag.get (f := FpeCntSkip.count) (by decide) (by decide)).trans (State.get_speedShown (by decide))⟩

/-- STRETCH fires a line as soon as its ports may fire again (R237). -/
theorem State.lineOutcome_stretched (stretch : s.policyOf N = 1)
    (fits : s.stretchedTo ds tw - tw ≤ max 16 (s.get FpeStretch.stretchMax 0) * s.period) :
    Tab.find (s.lineOutcome N tw ds sites).fpe.decisions N = some (.fire (s.stretchedTo ds tw - tw)) ∧
    ∀ p ∈ ds, Tab.find (s.lineOutcome N tw ds sites).fpe.last p = some (s.stretchedTo ds tw) := by
  obtain ⟨-, facts⟩ := (s.speedShown ds tw).fires_facts N (s.stretchedTo ds tw) (s.stretchedTo ds tw - tw) ds
  have out : s.lineOutcome N tw ds sites = (((s.speedShown ds tw).setLast ds (s.stretchedTo ds tw)).setLag
      (s.stretchedTo ds tw - tw)).setDecision N (.fire (s.stretchedTo ds tw - tw)) := (if_pos stretch).trans (if_pos fits)
  rw [out]
  exact facts

/-- Beyond STRETCH_MAX it counts a fall and skips the line (R237). -/
theorem State.lineOutcome_falls (stretch : s.policyOf N = 1)
    (beyond : max 16 (s.get FpeStretch.stretchMax 0) * s.period < s.stretchedTo ds tw - tw) :
    Tab.find (s.lineOutcome N tw ds sites).fpe.decisions N = some .skip ∧
    (s.lineOutcome N tw ds sites).get FpeCntFall.count 0 = satAdd 31 (s.get FpeCntFall.count 0) 1 ∧
    (s.lineOutcome N tw ds sites).get FpeCntSkip.count 0 = satAdd 31 (s.get FpeCntSkip.count 0) 1 := by
  let w : State := (s.speedShown ds tw).mapFpe (fun f => { f with
    fallen := some ((s.policyPage N).elim 0 fun q => q.pseq)
    skipUntil := some (s.lastPaced + ds.foldl (fun m p => max m (s.gap p)) 0) })
  have out : s.lineOutcome N tw ds sites = ((w.count FpeCntFall.count FpeCntFall.ovf 0).setLag 0).skipLine N sites :=
    (if_pos stretch).trans (if_neg (by omega))
  have falls : (w.count FpeCntFall.count FpeCntFall.ovf 0).get FpeCntFall.count 0 = satAdd 31 (s.get FpeCntFall.count 0) 1 :=
    (w.get_countBy 0 1 (by decide) (by decide)).trans (congrArg (satAdd 31 · 1) (State.get_speedShown (by decide)))
  have skips : (w.count FpeCntFall.count FpeCntFall.ovf 0).get FpeCntSkip.count 0 = s.get FpeCntSkip.count 0 :=
    (w.get_countBy_ne 0 1 (by decide) (by decide) (by decide) 0).trans (State.get_speedShown (by decide))
  have lag := DecideStep.setLag (w.count FpeCntFall.count FpeCntFall.ovf 0) 0
  obtain ⟨step, fpe, counted⟩ := DecideStep.skipLine ((w.count FpeCntFall.count FpeCntFall.ovf 0).setLag 0) N sites
  rw [out]
  refine ⟨?_, ?_, counted.trans (congrArg (satAdd 31 · 1) ((lag.get (by decide) (by decide)).trans skips))⟩
  · rw [fpe]
    exact State.find_setDecision _ N _
  · exact (step.get (by decide) (by decide)).trans ((lag.get (by decide) (by decide)).trans falls)

/-- DROP and ABSORB skip a line that is too fast (R236, R239). -/
theorem State.lineOutcome_skips (fast : s.tooFast ds tw = true) (policy : s.policyOf N = 0 ∨ s.policyOf N = 3) :
    Tab.find (s.lineOutcome N tw ds sites).fpe.decisions N = some .skip ∧ (s.lineOutcome N tw ds sites).fpe.last = s.fpe.last ∧
    (s.lineOutcome N tw ds sites).get FpeCntSkip.count 0 = satAdd 31 (s.get FpeCntSkip.count 0) 1 ∧
    (s.lineOutcome N tw ds sites).get FpeStat.absorb 0 = if s.policyOf N = 3 then 1 else s.get FpeStat.absorb 0 := by
  let x : State := (s.speedShown ds tw).setLag 0
  have out : s.lineOutcome N tw ds sites = (if s.policyOf N = 3 then x.put FpeStat.absorb 0 1 else x).skipLine N sites := by
    have unstretched : s.policyOf N ≠ 1 := by omega
    have unblanked : s.policyOf N ≠ 2 := by omega
    exact (if_neg unstretched).trans ((if_neg (by simp [fast])).trans (if_neg unblanked))
  have lag := DecideStep.setLag (s.speedShown ds tw) 0
  have absorb : x.get FpeStat.absorb 0 = s.get FpeStat.absorb 0 := (lag.get (by decide) (by decide)).trans (State.get_speedShown (by decide))
  have count : x.get FpeCntSkip.count 0 = s.get FpeCntSkip.count 0 := (lag.get (by decide) (by decide)).trans (State.get_speedShown (by decide))
  have last : x.fpe.last = s.fpe.last := ((s.speedShown ds tw).setLag_sameLines 0).1
  obtain ⟨step, fpe, counted⟩ := DecideStep.skipLine (if s.policyOf N = 3 then x.put FpeStat.absorb 0 1 else x) N sites
  rw [out, fpe]
  refine ⟨State.find_setDecision _ N _, ?_, counted.trans (congrArg (satAdd 31 · 1) ?_), (step.get (by decide) (by decide)).trans ?_⟩
  · refine Eq.trans ?_ last
    split <;> rfl
  · split
    · exact (x.get_put_ne (by decide) 0 0 1).trans count
    · exact count
  · split
    · exact x.get_put_of_lt FpeStat.absorb 0 (by decide)
    · exact absorb

/-- BLANK prints the line blank (R238). -/
theorem State.lineOutcome_blanks (fast : s.tooFast ds tw = true) (policy : s.policyOf N = 2) :
    s.lineOutcome N tw ds sites = (((s.speedShown ds tw).setLag 0).speedBlanked N sites).setDecision N .blank := by
  have unstretched : s.policyOf N ≠ 1 := by omega
  exact (if_neg unstretched).trans ((if_neg (by simp [fast])).trans (if_pos policy))

end

/-! ### What stands in the state before the line -/

/-- A port is due again after its gap, where it has fired. -/
theorem State.lt_dueAt_iff (s : State) (p tw : Nat) :
    tw < s.dueAt p ↔ ∃ x, Tab.find s.fpe.last p = some x ∧ tw < x + s.gap p := by
  unfold State.dueAt
  cases Tab.find s.fpe.last p <;> simp

theorem State.stretchedTo_greatest (s : State) (ds : List Nat) (tw : Nat) :
    IsGreatest (insert tw {y | ∃ p ∈ ds, ∃ x, Tab.find s.fpe.last p = some x ∧ y = x + s.gap p}) (s.stretchedTo ds tw) := by
  obtain ⟨start, rest⟩ := s.le_stretchedTo ds tw
  constructor
  · by_cases fast : tw < s.stretchedTo ds tw
    · rcases s.stretchedTo_mem ds tw with same | ⟨p, here, same⟩
      · omega
      · obtain ⟨x, last, -⟩ := (s.lt_dueAt_iff p tw).mp (same ▸ fast)
        exact .inr ⟨p, here, x, last, by rw [same, State.dueAt, last]⟩
    · exact .inl (by omega)
  · rintro y (rfl | ⟨p, here, x, last, rfl⟩)
    · exact start
    · have due : s.dueAt p = x + s.gap p := by rw [State.dueAt, last]
      exact due ▸ rest p here

namespace LineBegun
variable {n : Nat} {s v : State}

theorem get (h : LineBegun n s v) (f : Fld) (i : Nat) : v.get f i = s.get f i := by
  rw [h.rest]
  rfl

theorem dueAt (h : LineBegun n s v) (p : Nat) : v.dueAt p = s.dueAt p := by
  have gap : v.gap p = s.gap p := by simp only [State.gap, State.maxRate, h.get]
  rw [State.dueAt, State.dueAt, gap, h.fpe]

theorem stretchedTo (h : LineBegun n s v) (ds : List Nat) (tw : Nat) : v.stretchedTo ds tw = s.stretchedTo ds tw := by
  simp only [State.stretchedTo, h.dueAt]

theorem tooFast (h : LineBegun n s v) (ds : List Nat) (tw : Nat) : v.tooFast ds tw = s.tooFast ds tw := by
  simp only [State.tooFast, h.dueAt]

theorem period (h : LineBegun n s v) : v.period = s.period := by
  rw [State.period, State.period, h.fpe]

theorem mayAssert (h : LineBegun n s v) : v.mayAssert = s.mayAssert := by
  simp only [State.mayAssert, State.operating, State.acting, State.role, h.get]
  rw [h.rest]

theorem pageOfLine (h : LineBegun n s v) (N : Nat) :
    ∃ sec ns, (∀ q, v.page q = (s.page q).map fun p => p.dated n sec ns) ∧
      v.pageOfLine N = (s.pageOfLine N).map fun x => (x.1.dated n sec ns, x.2) := by
  obtain ⟨sec, ns, pages⟩ := h.pages
  refine ⟨sec, ns, fun q => ?_, ?_⟩
  · simp [State.page, pages, List.find?_map]
  · simp only [State.pageOfLine, pages, List.find?_map, Function.comp_def, Page.dated_frame]
    cases s.pages.find? fun p => p.scheduled && !p.closed && decide (p.first ≤ N) && decide (N < p.first + p.lines) <;> simp

theorem policyOf (h : LineBegun n s v) (N : Nat) : v.policyOf N = s.policyOf N := by
  obtain ⟨sec, ns, -, line⟩ := h.pageOfLine N
  have scr : v.scr = s.scr := by rw [h.rest]
  rw [State.policyOf, State.policyOf, line, scr]
  cases s.pageOfLine N <;> simp

end LineBegun

/-! ### What every decision leaves -/

/-- Registers, events, pins, the scree log, pages and what the engine notes of decisions may change, and no more. -/
def DecidesOnly (s t : State) : Prop :=
  t = { s with regs := t.regs, fpe := t.fpe, ev := t.ev, pins := t.pins, ff := t.ff, pages := t.pages, ins := t.ins, light := t.light } ∧
  t.fpe = { s.fpe with
    last := t.fpe.last, decisions := t.fpe.decisions, fallen := t.fpe.fallen, skipUntil := t.fpe.skipUntil
    blankPage := t.fpe.blankPage, stretching := t.fpe.stretching, lagMax := t.fpe.lagMax }

namespace DecidesOnly

theorem trans {s t u : State} (h : DecidesOnly s t) (h' : DecidesOnly t u) : DecidesOnly s u := by
  obtain ⟨hrest, hengine⟩ := h
  obtain ⟨hrest', hengine'⟩ := h'
  rw [hrest] at hrest'
  rw [hengine] at hengine'
  exact ⟨hrest', hengine'⟩

theorem of_step {l : List Fld} {s t : State} (h : DecideStep l s t) : DecidesOnly s t := ⟨by rw [h.rest], h.engine⟩

theorem advAssert {s t : State} (h : DecidesOnly s t) : DecidesOnly s t.advAssert := by
  refine h.trans ?_
  unfold State.advAssert
  split
  · exact ⟨rfl, rfl⟩
  · exact ⟨rfl, rfl⟩

theorem decideLine (s : State) (N tw : Nat) (ds : List Nat) (sites : List Site) : DecidesOnly s (s.decideLine N tw ds sites) := by
  unfold State.decideLine
  extract_lets gmax due fast pg pol noted fallen risen still paced inBlank freed tf fired key fall plain blanked absorbed
  have hnoted : DecidesOnly s noted := ⟨rfl, rfl⟩
  have hrisen : DecidesOnly s risen := by
    dsimp only [risen]
    split
    · exact hnoted
    · exact hnoted.trans ⟨rfl, rfl⟩
  have hfreed : DecidesOnly s freed := by
    dsimp only [freed]
    split
    · exact hrisen
    · exact hrisen.trans ⟨rfl, rfl⟩
  have skips {t : State} (h : DecidesOnly s t) : DecidesOnly s (t.skipLine N sites) := h.trans (of_step (DecideStep.skipLine t N sites).1)
  have hfired : DecidesOnly s fired := hfreed.trans (of_step (freed.fires_facts N tf (tf - tw) ds).1)
  have hplain : DecidesOnly s plain := hfreed.trans (of_step (.setLag freed 0))
  have hfallen : DecidesOnly s fall := hfreed.trans ⟨rfl, rfl⟩
  have counted : DecideStep outcomeFields fall (fall.count FpeCntFall.count FpeCntFall.ovf 0) :=
    .count fall (by decide) (by decide) (by decide) (by decide)
  have hfall : DecidesOnly s ((fall.count FpeCntFall.count FpeCntFall.ovf 0).setLag 0) :=
    (hfallen.trans (of_step counted)).trans (of_step (.setLag _ 0))
  have hblanked : DecidesOnly s blanked := hplain.trans (of_step (.speedBlanked (l := []) plain N sites))
  have habsorbed : DecidesOnly s absorbed := by
    dsimp only [absorbed]
    split
    · exact hplain.trans ⟨rfl, rfl⟩
    · exact hplain
  have decides {t : State} (h : DecidesOnly s t) (d : LineDec) : DecidesOnly s (t.setDecision N d) := h.trans ⟨rfl, rfl⟩
  clear_value freed fired fall plain blanked absorbed
  split
  · exact (skips hfreed).advAssert
  · split
    · split
      · split
        · exact hfired.advAssert
        · exact hfired
      · exact (skips hfall).advAssert
    · split
      · exact decides (t := plain.setLast ds tw) (hplain.trans ⟨rfl, rfl⟩) _
      · split
        · exact (decides hplain _).advAssert
        · split
          · exact (decides hblanked _).advAssert
          · exact (skips habsorbed).advAssert

end DecidesOnly

/-! ### The commands (R234 to R239) -/

theorem lineDecision_passed (n : Nat) (s : State) (done : s.acting = false ∨ s.mode = 0 ∨ n < s.fpe.decided) :
    exec (.lineDecision n) s = .next s :=
  congrArg Host.Outcome.next (if_pos (by simpa using done))

theorem absHoldExpiry_clears (s : State) : ∃ t, exec .absHoldExpiry s = .next t ∧ t.get FpeStat.absorb 0 = 0 ∧
    t = { s with regs := t.regs } ∧ FieldsKept (only [FpeStat.absorb]) s t :=
  ⟨_, rfl, s.get_put_of_lt FpeStat.absorb 0 (by decide), rfl, .put s 0 0 (f := FpeStat.absorb) (by decide) (by decide)⟩

/-- The decision of a line that finds nothing blanked, skipped or fallen and no takeover paced is its outcome. -/
theorem State.decideLine_outcome {n tw : Nat} {ds : List Nat} {s v : State} (begun : LineBegun n s v) (sites : List Site)
    (unskipped : s.fpe.skipUntil = none) (unfallen : s.fpe.fallen = none) (unblanked : s.fpe.blankPage = none)
    (unpaced : s.twin.pacing = none) : ∃ e, e = v.lineOutcome n tw ds sites ∧
      FpeStep [FpeStat.adv] e (v.decideLine n tw ds sites) ∧ (v.decideLine n tw ds sites).fpe = e.fpe ∧
      e.get FpeStat.overspeed 0 = (if s.tooFast ds tw then 1 else 0) ∧
      (s.tooFast ds tw = true → s.mayAssert = true → (v.decideLine n tw ds sites).get FpeStat.adv 0 = 1) := by
  have fpe := begun.fpe
  have decided := State.decideLine_eq (s := v) (ds := ds) (N := n) (tw := tw) (sites := sites) (by rw [fpe]; exact unskipped)
    (by rw [fpe]; exact unfallen) (by rw [fpe]; exact unblanked) (begun.pacing.trans unpaced)
  have step := DecideStep.lineOutcome (ds := ds) (tw := tw) v n sites
  rw [begun.tooFast] at decided
  refine ⟨_, rfl, ?_, ?_, ?_, fun fast may => ?_⟩
  · rw [decided]
    split
    · exact .advAssert _
    · exact .refl _
  · rw [decided]
    split
    · exact State.advAssert_fpe _
    · rfl
  · refine (step.get (by decide) (by decide)).trans ?_
    rw [State.speedShown, begun.tooFast]
    exact v.get_put_of_lt FpeStat.overspeed 0 (by split <;> decide)
  · have shown (f : Fld) (other : FpeStat.overspeed.apart f = true) (hf : f ∈ f.reg.fields) (kept : only outcomeFields f 0 = false) :
        (v.lineOutcome n tw ds sites).get f 0 = v.get f 0 := (step.get hf kept).trans (State.get_speedShown other)
    have asserts : (v.lineOutcome n tw ds sites).mayAssert = v.mayAssert := by
      simp only [State.mayAssert, State.operating, State.acting, State.role, shown RstStatus.state (by decide) (by decide) (by decide),
        shown TwStat.role (by decide) (by decide) (by decide)]
      rw [step.rest]
      rfl
    rw [decided, if_pos fast]
    exact State.advAssert_set (.inl (asserts.trans (begun.mayAssert.trans may)))

end Sys2Proof.Machine
end

section
/-! ## Speed advisories (R240, R241, R453, R464): O38 -/
namespace Sys2Proof.Machine

/-- A frame waits at a ring port, in the order of R453. -/
def State.egressQueued (s : State) (k : Nat) (f : EgressFrame) : State :=
  { s with net := { s.net with egress := s.net.egress.set k (insertFrame f (s.net.egress.getD k [])) } }

theorem State.egress_eq (s : State) (k prio len : Nat) (o : Out) : s.egress k prio len o =
    if ¬s.portUp k ∨ (s.blocked k ∧ prio ≠ 1) then s
    else if 32768 < (s.net.egress.getD k []).foldl (fun n f => n + f.len) 0 + len then s.count NetCntDrop.count NetCntDrop.ovf 0
    else (s.egressQueued k ⟨prio, len, o⟩).startEgress k := rfl

/-- A frame has been taken for a ring port or counted as dropped, and no more. -/
structure RingStep (s t : State) : Prop where
  rest : t = { s with regs := t.regs, ev := t.ev, sent := t.sent, net := t.net }
  kept : FieldsKept (only [NetCntDrop.count, NetCntDrop.ovf]) s t
  seq : t.net.advSeq = s.net.advSeq

namespace RingStep

theorem refl (s : State) : RingStep s s := ⟨rfl, .refl _ s, rfl⟩

theorem trans {s t u : State} (h : RingStep s t) (h' : RingStep t u) : RingStep s u := by
  obtain ⟨hrest, hkept, hseq⟩ := h
  obtain ⟨hrest', hkept', hseq'⟩ := h'
  rw [hrest] at hrest'
  exact ⟨hrest', hkept.trans hkept', hseq'.trans hseq⟩

theorem frame {s t : State} (h : RingStep s t) : t.pins = s.pins ∧ t.pages = s.pages ∧ t.fpe = s.fpe := by
  rw [h.rest]
  exact ⟨rfl, rfl, rfl⟩

theorem startEgress (s : State) (k : Nat) : RingStep s (s.startEgress k) := by
  unfold State.startEgress
  split
  · exact refl s
  · split
    · exact ⟨rfl, .of_regs _ rfl, rfl⟩
    · exact refl s

theorem egress (s : State) (k prio len : Nat) (o : Out) : RingStep s (s.egress k prio len o) := by
  rw [State.egress_eq]
  split
  · exact refl s
  · split
    · have counted : OnlyRegsEv s (s.count NetCntDrop.count NetCntDrop.ovf 0) := .countBy s 0 1
      exact ⟨by rw [counted], .countBy s 0 1 (by decide) (by decide) (by decide) (by decide) (only_of_evt _), by rw [counted]⟩
    · exact trans (t := s.egressQueued k ⟨prio, len, o⟩) ⟨rfl, .of_regs _ rfl, rfl⟩ (startEgress _ k)

end RingStep

/-- What an advisory says (R241, R464). -/
def State.advisoryArgs (s : State) : List Nat :=
  [s.net.advSeq, 64, s.get64 NetHostMacLo.v NetHostMacHi.v 0, s.get FpeAllowed.v 0, s.lineRate, s.get FpeStat.adv 0,
    (s.ptpOf s.ft).1, (s.ptpOf s.ft).2]

/-- An advisory leaves by both ports, with a number of its own. -/
def State.advisorySent (s : State) : State := s.sendLocal 60 4 s.advisoryArgs

theorem State.advisory_eq (s : State) :
    s.advisory = { s.advisorySent with net := { s.advisorySent.net with advSeq := (s.advisorySent.net.advSeq + 1) % 65536 } } := rfl

theorem RingStep.advisorySent (s : State) : RingStep s s.advisorySent := (RingStep.egress s 0 3 60 _).trans (.egress _ 1 3 60 _)

/-- A port that is up, idle and free sends a frame at once. -/
theorem State.egress_idle {s : State} {k prio len : Nat} (up : s.portUp k = true) (free : s.blocked k = false)
    (there : k < s.net.egress.length) (empty : s.net.egress.getD k [] = []) (idle : s.net.busy.getD k 0 ≤ s.now)
    (unguarded : s.guarded k len = false) (fits : len ≤ 32768) (o : Out) :
    ∃ net, s.egress k prio len o = { s with sent := o :: s.sent, net := net } := by
  have waits : (s.egressQueued k ⟨prio, len, o⟩).net.egress.getD k [] = [⟨prio, len, o⟩] := by
    simp only [State.egressQueued, empty]
    rw [List.getD_eq_getElem?_getD, List.getElem?_set_self there]
    rfl
  have quiet : (s.egressQueued k ⟨prio, len, o⟩).guarded k len = false := unguarded
  rw [State.egress_eq, if_neg (by simp [up, free]), if_neg (by rw [empty]; simpa using fits), State.startEgress, waits]
  exact ⟨_, if_pos ⟨idle, .inr quiet⟩⟩

/-- A port that is down sends nothing. -/
theorem State.egress_down {s : State} {k : Nat} (down : s.portUp k = false) (prio len : Nat) (o : Out) : s.egress k prio len o = s := by
  rw [State.egress_eq]
  exact if_pos (.inl (by simp [down]))

/-! ### The commands -/

theorem spdAdvRelease_releases (s : State) (asked : s.get FpeStat.adv 0 = 1)
    (slow : 100 * s.lineRate < s.get FpeAdv.offPct 0 * s.get FpeAllowed.v 0) : ∃ t,
    exec .spdAdvRelease s = .next t ∧ t.pins = { s.pins with spdAdvN := true } ∧ t.get FpeStat.adv 0 = 0 ∧
    t.net.advSeq = (s.net.advSeq + 1) % 65536 ∧ t.pages = s.pages ∧ t.fpe = s.fpe ∧
    FieldsKept (only [FpeStat.adv, NetCntDrop.count, NetCntDrop.ovf]) s t := by
  let u : State := ({ s with pins := { s.pins with spdAdvN := true } }).put FpeStat.adv 0 0
  have step := RingStep.advisorySent u
  have cleared : FieldsKept (only [FpeStat.adv]) s u := .trans (.of_regs _ rfl) (.put _ 0 0 (f := FpeStat.adv) (by decide) (by decide))
  obtain ⟨pins, pages, fpe⟩ := step.frame
  refine ⟨_, congrArg Host.Outcome.next ((if_pos ⟨asked, slow⟩).trans u.advisory_eq), pins, ?_, congrArg (fun n => (n + 1) % 65536) step.seq, pages, fpe,
    (cleared.mono (only_mono (by simp))).trans ((step.kept.mono (only_mono (by simp))).trans (.of_regs _ rfl))⟩
  exact (step.kept _ FpeStat.adv 0 (by decide : _ ∈ Reg.fpeStat.fields) (by decide)).trans
    (State.get_put_of_lt _ FpeStat.adv 0 (by decide))

theorem spdAdvRelease_holds (s : State)
    (keeps : s.get FpeStat.adv 0 = 0 ∨ s.get FpeAdv.offPct 0 * s.get FpeAllowed.v 0 ≤ 100 * s.lineRate) :
    exec .spdAdvRelease s = .next s :=
  congrArg Host.Outcome.next (if_neg fun ⟨asked, slow⟩ => by omega)

/-- With the West port down, the advisory leaves by the East port alone, at once where it is idle. -/
theorem speedAdvisory_leaves (s : State) (shaped : s.shaped) (asked : s.get FpeStat.adv 0 = 1) (up : s.portUp 0 = true)
    (free : s.blocked 0 = false) (empty : s.net.egress.getD 0 [] = []) (idle : s.net.busy.getD 0 0 ≤ s.now)
    (unguarded : s.guarded 0 60 = false) (down : s.portUp 1 = false) : ∃ t, exec .speedAdvisory s = .next t ∧
    t.sent = .ring 0 4 [s.net.advSeq, 64, s.get64 NetHostMacLo.v NetHostMacHi.v 0, s.get FpeAllowed.v 0, s.lineRate, 1,
      (s.ptpOf s.ft).1, (s.ptpOf s.ft).2] :: s.sent ∧ t.pins = s.pins ∧ t.regs = s.regs ∧ t = { s with sent := t.sent, net := t.net } := by
  have ports : s.net.egress.length = 2 := by
    obtain ⟨-, -, -, -, -, -, -, -, -, -, -, -, -, -, -, -, egress, -⟩ := shaped
    exact egress
  obtain ⟨net, east⟩ := State.egress_idle (prio := 3) up free (by omega) empty idle unguarded (by decide) (.ring 0 4 s.advisoryArgs)
  have west : State.portUp { s with sent := .ring 0 4 s.advisoryArgs :: s.sent, net := net } 1 = false := down
  have sent : s.advisorySent = { s with sent := .ring 0 4 s.advisoryArgs :: s.sent, net := net } := by
    rw [State.advisorySent, State.sendLocal, east, State.egress_down west]
  refine ⟨_, congrArg Host.Outcome.next ((if_pos asked).trans s.advisory_eq), ?_⟩
  rw [sent, State.advisoryArgs, asked]
  exact ⟨rfl, rfl, rfl, rfl⟩

end Sys2Proof.Machine
end

section
/-! ## Line decisions: O38 -/
namespace Sys2Proof.Machine

/-- What a decision with ports in D shows, read off its outcome `e`. -/
theorem LineBegun.outcome {n tw : Nat} {ds : List Nat} {s v e t : State} {sites : List Site} (begun : LineBegun n s v)
    (he : e = v.lineOutcome n tw ds sites) (fpe : t.fpe = e.fpe) (pages : t.pages = e.pages)
    (seen : ∀ f ∈ f.reg.fields, only closeFields f 0 = false → t.get f 0 = e.get f 0)
    (shown : e.get FpeStat.overspeed 0 = if s.tooFast ds tw then 1 else 0)
    (raised : s.tooFast ds tw = true → s.mayAssert = true → t.get FpeStat.adv 0 = 1) :
      ((∀ p ∈ ds, ∀ x, Tab.find s.fpe.last p = some x → x + s.gap p ≤ tw) →
        Tab.find t.fpe.decisions n = some (.fire 0) ∧ (∀ p ∈ ds, Tab.find t.fpe.last p = some tw) ∧ t.get FpeStat.overspeed 0 = 0 ∧
        t.get FpeCntSkip.count 0 = s.get FpeCntSkip.count 0) ∧
      ((∃ p ∈ ds, ∃ x, Tab.find s.fpe.last p = some x ∧ tw < x + s.gap p) → t.get FpeStat.overspeed 0 = 1 ∧
        (s.mayAssert = true → t.get FpeStat.adv 0 = 1) ∧
        (∀ m, s.policyOf n = 1 → IsGreatest (insert tw {y | ∃ p ∈ ds, ∃ x, Tab.find s.fpe.last p = some x ∧ y = x + s.gap p}) m →
          (m - tw ≤ max 16 (s.get FpeStretch.stretchMax 0) * s.period → Tab.find t.fpe.decisions n = some (.fire (m - tw)) ∧
            (∀ p ∈ ds, Tab.find t.fpe.last p = some m)) ∧
          (max 16 (s.get FpeStretch.stretchMax 0) * s.period < m - tw → Tab.find t.fpe.decisions n = some .skip ∧
            t.get FpeCntFall.count 0 = satAdd 31 (s.get FpeCntFall.count 0) 1 ∧
            t.get FpeCntSkip.count 0 = satAdd 31 (s.get FpeCntSkip.count 0) 1)) ∧
        ((s.policyOf n = 0 ∨ s.policyOf n = 3) → Tab.find t.fpe.decisions n = some .skip ∧ t.fpe.last = s.fpe.last ∧
          t.get FpeCntSkip.count 0 = satAdd 31 (s.get FpeCntSkip.count 0) 1 ∧
          t.get FpeStat.absorb 0 = (if s.policyOf n = 3 then 1 else s.get FpeStat.absorb 0)) ∧
        (s.policyOf n = 2 → Tab.find t.fpe.decisions n = some .blank ∧ t.get FpeCntSkip.count 0 = s.get FpeCntSkip.count 0 ∧
          ∀ q y, s.pageOfLine n = some (q, y) → s.page q.pseq = some q → q.record.status = 0 → ∃ q', t.page q.pseq = some q' ∧
            q'.record.status = 1 ∧ q'.record.reason = 9)) := by
  have stretchMax := begun.get FpeStretch.stretchMax 0
  have skips := begun.get FpeCntSkip.count 0
  have falls := begun.get FpeCntFall.count 0
  have absorbs := begun.get FpeStat.absorb 0
  have policy := begun.policyOf n
  have last : v.fpe.last = s.fpe.last := by rw [begun.fpe]
  have page (k : Nat) : t.page k = e.page k := by rw [State.page, State.page, pages]
  have skip := seen FpeCntSkip.count (by decide) (by decide)
  have fall := seen FpeCntFall.count (by decide) (by decide)
  have absorb := seen FpeStat.absorb (by decide) (by decide)
  have overspeed := (seen FpeStat.overspeed (by decide) (by decide)).trans shown
  constructor
  · intro intime
    have unhurried : s.tooFast ds tw = false := by
      rw [State.tooFast, List.any_eq_false]
      intro p here fast
      obtain ⟨x, fired, early⟩ := (s.lt_dueAt_iff p tw).mp (of_decide_eq_true fast)
      exact absurd early (Nat.not_lt.mpr (intime p here x fired))
    obtain ⟨fires, instants, unskipped⟩ := State.lineOutcome_inTime (N := n) sites ((begun.tooFast ds tw).trans unhurried)
    rw [fpe, skip, overspeed, he, unhurried]
    exact ⟨fires, instants, rfl, unskipped.trans skips⟩
  · rintro ⟨p, here, x, fired, early⟩
    have hurried : s.tooFast ds tw = true :=
      List.any_eq_true.mpr ⟨p, here, decide_eq_true ((s.lt_dueAt_iff p tw).mpr ⟨x, fired, early⟩)⟩
    have fast := (begun.tooFast ds tw).trans hurried
    refine ⟨overspeed.trans (if_pos hurried), raised hurried, fun m stretch greatest => ?_, fun drops => ?_, fun blanks => ?_⟩
    · have latest : m = v.stretchedTo ds tw :=
        (greatest.unique (s.stretchedTo_greatest ds tw)).trans (begun.stretchedTo ds tw).symm
      rw [← stretchMax, ← begun.period, fpe, skip, fall, he, latest, ← skips, ← falls]
      exact ⟨State.lineOutcome_stretched sites (policy.trans stretch), State.lineOutcome_falls sites (policy.trans stretch)⟩
    · rw [fpe, skip, absorb, he, ← policy, ← last, ← skips, ← absorbs]
      exact State.lineOutcome_skips sites fast (by rwa [policy])
    · have out := he.trans (State.lineOutcome_blanks sites fast (policy.trans blanks))
      have lag := DecideStep.setLag (v.speedShown ds tw) 0
      have blank := DecideStep.speedBlanked (l := []) ((v.speedShown ds tw).setLag 0) n sites
      refine ⟨?_, ?_, fun q y holds found sound => ?_⟩
      · rw [fpe, out]
        exact State.find_setDecision _ n _
      · rw [skip, out, ← skips]
        exact ((blank.get (by decide) rfl).trans (lag.get (by decide) (by decide))).trans (State.get_speedShown (by decide))
      · obtain ⟨sec, ns, held, line⟩ := begun.pageOfLine n
        have same : ((v.speedShown ds tw).setLag 0).pages = v.pages := ((v.speedShown ds tw).setLag_sameLines 0).2.2
        rw [page, out]
        refine Page.dated_frame q n sec ns |>.1 ▸ State.page_speedBlanked (y := y) (q := q.dated n sec ns) ?_ ?_ ?_ sites
        · rw [State.pageOfLine, same]
          exact line.trans (by rw [holds]; rfl)
        · rw [State.page, same]
          exact (held _).trans (by rw [(Page.dated_frame q n sec ns).1, found]; rfl)
        · exact (Page.dated_frame q n sec ns).2.2.2.2.2.2.trans sound

/-- A line that is to be decided, and its ports of D. -/
theorem lineDecision_decides (n tw : Nat) (due ds : List Nat) (s : State) (acts : s.acting = true) (locked : s.mode ≠ 0)
    (fresh : s.fpe.decided ≤ n) (dues : due = s.portsInUse.filter (fun p => s.sites p n != []))
    (able : ds = due.filter (fun p => !s.wdOpen p)) (instant : tw = (s.predict (256 * n)).getD (s.ft * 256)) :
    ∃ t, exec (.lineDecision n) s = .next t ∧ t.fpe.decided = n + 1 ∧ t.sent = s.sent ∧
    t.dram = s.dram ∧ t.fpe.hwm = s.fpe.hwm ∧ t.fpe.x = s.fpe.x ∧
    (ds = [] → t.get FpeStat.overspeed 0 = 0 ∧ t.fpe.decisions = s.fpe.decisions ∧ t.fpe.last = s.fpe.last) ∧
    (ds ≠ [] → s.fpe.skipUntil = none → s.fpe.fallen = none → s.fpe.blankPage = none → s.twin.pacing = none →
      ((∀ p ∈ ds, ∀ x, Tab.find s.fpe.last p = some x → x + s.gap p ≤ tw) →
        Tab.find t.fpe.decisions n = some (.fire 0) ∧ (∀ p ∈ ds, Tab.find t.fpe.last p = some tw) ∧ t.get FpeStat.overspeed 0 = 0 ∧
        t.get FpeCntSkip.count 0 = s.get FpeCntSkip.count 0) ∧
      ((∃ p ∈ ds, ∃ x, Tab.find s.fpe.last p = some x ∧ tw < x + s.gap p) → t.get FpeStat.overspeed 0 = 1 ∧
        (s.mayAssert = true → t.get FpeStat.adv 0 = 1) ∧
        (∀ m, s.policyOf n = 1 → IsGreatest (insert tw {y | ∃ p ∈ ds, ∃ x, Tab.find s.fpe.last p = some x ∧ y = x + s.gap p}) m →
          (m - tw ≤ max 16 (s.get FpeStretch.stretchMax 0) * s.period → Tab.find t.fpe.decisions n = some (.fire (m - tw)) ∧
            (∀ p ∈ ds, Tab.find t.fpe.last p = some m)) ∧
          (max 16 (s.get FpeStretch.stretchMax 0) * s.period < m - tw → Tab.find t.fpe.decisions n = some .skip ∧
            t.get FpeCntFall.count 0 = satAdd 31 (s.get FpeCntFall.count 0) 1 ∧
            t.get FpeCntSkip.count 0 = satAdd 31 (s.get FpeCntSkip.count 0) 1)) ∧
        ((s.policyOf n = 0 ∨ s.policyOf n = 3) → Tab.find t.fpe.decisions n = some .skip ∧ t.fpe.last = s.fpe.last ∧
          t.get FpeCntSkip.count 0 = satAdd 31 (s.get FpeCntSkip.count 0) 1 ∧
          t.get FpeStat.absorb 0 = (if s.policyOf n = 3 then 1 else s.get FpeStat.absorb 0)) ∧
        (s.policyOf n = 2 → Tab.find t.fpe.decisions n = some .blank ∧ t.get FpeCntSkip.count 0 = s.get FpeCntSkip.count 0 ∧
          ∀ q y, s.pageOfLine n = some (q, y) → s.page q.pseq = some q → q.record.status = 0 → ∃ q', t.page q.pseq = some q' ∧
            q'.record.status = 1 ∧ q'.record.reason = 9))) := by
  obtain ⟨v, sites, begun, decided⟩ := State.lineDecision_begun acts locked fresh dues able instant
  have engine := begun.fpe
  refine ⟨_, congrArg Host.Outcome.next decided, ?_⟩
  generalize hd : (if ds = [] then v.put FpeStat.overspeed 0 0 else v.decideLine n tw ds sites) = d
  have decides : DecidesOnly v d := by
    rw [← hd]
    split
    · exact ⟨rfl, rfl⟩
    · exact .decideLine v n tw ds sites
  obtain ⟨rest, notes⟩ := decides
  obtain ⟨fpe, sent, dram, pages, kept, advised⟩ := d.lineClosed_facts
  have frame : v.sent = s.sent ∧ v.dram = s.dram := by
    rw [begun.rest]
    exact ⟨rfl, rfl⟩
  refine ⟨by rw [fpe, notes, engine], sent.trans (by rw [rest, frame.1]), dram.trans (by rw [rest, frame.2]),
    by rw [fpe, notes, engine], by rw [fpe, notes, engine], fun none => ?_, fun some unskipped unfallen unblanked unpaced => ?_⟩
  · rw [if_pos none] at hd
    subst hd
    have decisions : v.fpe.decisions = s.fpe.decisions := by rw [engine]
    have last : v.fpe.last = s.fpe.last := by rw [engine]
    refine ⟨(kept _ FpeStat.overspeed 0 (by decide : _ ∈ Reg.fpeStat.fields) (by decide)).trans (v.get_put_of_lt _ 0 (by decide)), ?_, ?_⟩
    · exact (congrArg FpeSt.decisions fpe).trans decisions
    · exact (congrArg FpeSt.last fpe).trans last
  · rw [if_neg some] at hd
    subst hd
    obtain ⟨e, he, step, same, shown, raised⟩ := State.decideLine_outcome begun sites unskipped unfallen unblanked unpaced
    exact LineBegun.outcome begun he (fpe.trans same) (pages.trans step.frame.2.2.1)
      (fun f hf other => (kept _ f 0 hf other).trans (step.2.mono (only_mono (by simp)) _ f 0 hf other)) shown fun fast may => advised (raised fast may)

/-- Settles O38: a line's decision is read off its outcome under each policy; the signal, the absorb state and the advisories follow. -/
theorem lineDecisions : Obligations.LineDecisions := by
  unfold Obligations.LineDecisions
  exact ⟨lineDecision_passed, lineDecision_decides, absHoldExpiry_clears, spdAdvRelease_releases, spdAdvRelease_holds,
    fun s clear => congrArg Host.Outcome.next (if_neg (by omega)), speedAdvisory_leaves⟩

end Sys2Proof.Machine
end

section
/-! ## Telemetry of a head (R242, R245 to R247, R270): O39 -/
namespace Sys2Proof.Machine

/-! ### A held port stays withdrawn (R204, R246, R247) -/

/-- A device that acts withdraws a port in thermal hold or without telemetry. -/
theorem State.wdOpen_syncWd_held {s : State} {p : Nat} (acting : s.acting = true)
    (held : (s.flag HpTstat.hold p || s.flag HpTstat.stale p) = true) : (s.syncWd p).wdOpen p = true := by
  have driven : SyncStep calFields s (s.calWatch.driveHeads (p / 8)) := (SyncStep.calWatch s).trans (.driveHeads _ _)
  have role : (s.calWatch.driveHeads (p / 8)).acting = true := by
    rw [State.acting, State.role, driven.get (f := TwStat.role) (by decide) rfl]
    exact acting
  have hold : (s.calWatch.driveHeads (p / 8)).flag HpTstat.hold p = s.flag HpTstat.hold p := by
    rw [State.flag, driven.get (f := HpTstat.hold) (by decide) rfl, State.flag]
  have stale : (s.calWatch.driveHeads (p / 8)).flag HpTstat.stale p = s.flag HpTstat.stale p := by
    rw [State.flag, driven.get (f := HpTstat.stale) (by decide) rfl, State.flag]
  have out : (s.calWatch.driveHeads (p / 8)).portOut p = true := by
    rw [State.portOut, hold, stale]
    rcases Bool.or_eq_true_iff.mp held with h | h
    · simp [h]
    · simp [h]
  unfold State.syncWd
  dsimp only
  rw [if_pos role, if_pos out]
  exact State.wdOpen_beginWd _ _ _

/-- A held port that becomes READY is still withdrawn. -/
theorem State.wdOpen_tryReady {s : State} {p : Nat} (acting : s.acting = true) (held : s.flag HpTstat.hold p = true)
    (withdrawn : s.wdOpen p = true) : (s.tryReady p).wdOpen p = true := by
  rcases s.tryReady_cases p with h | ⟨fpe, h⟩
  · rw [h]
    exact withdrawn
  · have held' : (s.put HpStat.state p hpReady).flag HpTstat.hold p = true := by
      rw [State.flag, State.get_put_ne _ (by decide)]
      exact held
    have role : (s.put HpStat.state p hpReady).acting = true := by
      rw [State.acting, State.role, State.get_put_ne _ (by decide)]
      exact acting
    rw [h]
    exact State.wdOpen_syncWd_held role (by rw [held', Bool.true_or])

/-! ### Thermal hold (R245, R246) -/

/-- What thermal hold may write. -/
abbrev thermalFields : List Fld := [HpTstat.stale, HpTstat.hold, HpTstat.holdSeen, HpTstat.holds, HpTstat.ovf] ++ calFields

namespace SyncStep
variable {l : List Fld}

theorem of_regsEv {s t : State} (h : OnlyRegsEv s t) (kept : FieldsKept (only l) s t) : SyncStep l s t := ⟨by rw [h], kept⟩

theorem put (s : State) {f : Fld} (hf : f ∈ f.reg.fields) (listed : f ∈ l) (i v : Nat) : SyncStep l s (s.put f i v) :=
  of_regsEv (.put _ _ _ _) (.put s i v hf (by simp [only, listed]))

theorem record (s : State) (c : EvCode) (n : Nat) (args : List EvArg) : SyncStep l s (s.record c n args) :=
  of_regsEv (.record _ _ _ _) (.record _ _ _ _ (only_of_evt l))

theorem flag {s t : State} (h : SyncStep l s t) {f : Fld} (hf : f ∈ f.reg.fields) {i : Nat} (other : only l f i = false) :
    t.flag f i = s.flag f i := by
  rw [State.flag, h.get hf other, State.flag]

end SyncStep

/-- The port is shown in hold or out of it, with telemetry present. -/
def State.holdShown (s : State) (p v : Nat) : State := (s.put HpTstat.stale p 0).put HpTstat.hold p v

/-- A hold that begins is counted and recorded. -/
def State.holdCounted (s : State) (p : Nat) (temp : Int) : State :=
  (((s.holdShown p 1).put HpTstat.holdSeen p 1).countBy HpTstat.holds HpTstat.ovf p 1).record .htHold p [a16 (unsign 16 temp)]

theorem State.thermal_eq (s : State) (p : Nat) (temp : Int) (trip : Bool) : s.thermal p temp trip =
    if trip = true ∨ (s.get HpTherm.htLimit p : Int) < temp then
      if s.flag HpTstat.hold p = true then s.holdShown p 1 else (s.holdCounted p temp).syncWd p
    else if (s.flag HpTstat.hold p || s.flag HpTstat.stale p) = true ∧
        temp < (s.get HpTherm.htLimit p : Int) - s.get HpTherm.htHyst p then
      ((s.holdShown p 0).record .htResume p []).syncWd p
    else if (s.flag HpTstat.hold p || s.flag HpTstat.stale p) = true then s.holdShown p 1
    else s := rfl

section
variable (s : State) (p v : Nat) (temp : Int)

theorem SyncStep.holdShown : SyncStep thermalFields s (s.holdShown p v) :=
  (put s (by decide) (by decide) p 0).trans (put _ (by decide) (by decide) p v)

theorem State.flags_holdShown (bit : v < 2) :
    (s.holdShown p v).flag HpTstat.hold p = (v == 1) ∧ (s.holdShown p v).flag HpTstat.stale p = false ∧
    (s.holdShown p v).get HpTstat.holds p = s.get HpTstat.holds p := by
  have hold : (s.holdShown p v).get HpTstat.hold p = v := State.get_put_of_lt _ HpTstat.hold p bit
  have stale : (s.holdShown p v).get HpTstat.stale p = 0 :=
    (State.get_put_ne _ (by decide) p p v).trans (s.get_put_of_lt HpTstat.stale p (by decide))
  refine ⟨by rw [State.flag, hold], by rw [State.flag, stale]; rfl, ?_⟩
  exact (State.get_put_ne _ (by decide) p p v).trans (s.get_put_ne (by decide) p p 0)

theorem SyncStep.holdCounted : SyncStep thermalFields s (s.holdCounted p temp) := by
  have counts (t : State) : SyncStep thermalFields t (t.countBy HpTstat.holds HpTstat.ovf p 1) :=
    of_regsEv (.countBy t p 1) (.countBy t p 1 (by decide) (by decide) rfl rfl (only_of_evt _))
  exact (((holdShown s p 1).trans (put _ (by decide) (by decide) p 1)).trans (counts _)).trans (record _ _ _ _)

theorem State.flags_holdCounted :
    (s.holdCounted p temp).flag HpTstat.hold p = true ∧ (s.holdCounted p temp).flag HpTstat.stale p = false ∧
    (s.holdCounted p temp).get HpTstat.holds p = satAdd 12 (s.get HpTstat.holds p) 1 := by
  obtain ⟨hold, stale, holds⟩ := s.flags_holdShown p 1 (by decide)
  have kept (f : Fld) (apart : (HpTstat.holdSeen.apart f && HpTstat.holds.apart f && HpTstat.ovf.apart f) = true)
      (quiet : f.unrecorded = true) : (s.holdCounted p temp).get f p = (s.holdShown p 1).get f p := by
    simp only [Bool.and_eq_true] at apart
    obtain ⟨⟨seen, count⟩, ovf⟩ := apart
    rw [State.holdCounted, State.get_record _ _ _ _ _ _ quiet, State.get_countBy_ne _ p 1 count ovf quiet, State.get_put_ne _ seen]
  refine ⟨?_, ?_, ?_⟩
  · rw [State.flag, kept _ (by decide) (by decide)]
    exact hold
  · rw [State.flag, kept _ (by decide) (by decide)]
    exact stale
  · rw [State.holdCounted, State.get_record _ _ _ _ _ _ (by decide), State.get_countBy _ p 1 (by decide) (by decide),
      State.get_put_ne _ (by decide), holds]
    rfl

theorem SyncStep.thermal (trip : Bool) : SyncStep thermalFields s (s.thermal p temp trip) := by
  have synced (t : State) : SyncStep thermalFields t (t.syncWd p) := (syncWd t p).mono (by simp)
  rw [s.thermal_eq]
  split
  · split
    · exact holdShown s p 1
    · exact (holdCounted s p temp).trans (synced _)
  · split
    · exact ((holdShown s p 0).trans (record _ _ _ _)).trans (synced _)
    · split
      · exact holdShown s p 1
      · exact refl s

end

/-- What a change of fitness leaves of the port's hold. -/
theorem State.flags_syncWd (s : State) (p : Nat) : (s.syncWd p).flag HpTstat.hold p = s.flag HpTstat.hold p ∧
    (s.syncWd p).flag HpTstat.stale p = s.flag HpTstat.stale p ∧ (s.syncWd p).get HpTstat.holds p = s.get HpTstat.holds p := by
  have step := SyncStep.syncWd s p
  exact ⟨step.flag (by decide) rfl, step.flag (by decide) rfl, step.get (by decide) rfl⟩

section
variable {s : State} {p : Nat} {temp : Int} {trip : Bool}

/-- Above the limit, or tripped, the port is in hold; a hold that begins is counted and withdraws the port. -/
theorem State.thermal_holds (hot : trip = true ∨ (s.get HpTherm.htLimit p : Int) < temp) :
    (s.thermal p temp trip).flag HpTstat.hold p = true ∧ (s.thermal p temp trip).flag HpTstat.stale p = false ∧
    (s.flag HpTstat.hold p = true → (s.thermal p temp trip).get HpTstat.holds p = s.get HpTstat.holds p) ∧
    (s.flag HpTstat.hold p = false → (s.thermal p temp trip).get HpTstat.holds p = satAdd 12 (s.get HpTstat.holds p) 1 ∧
      (s.acting = true → (s.thermal p temp trip).wdOpen p = true)) := by
  rw [s.thermal_eq, if_pos hot]
  by_cases held : s.flag HpTstat.hold p = true
  · obtain ⟨hold, stale, holds⟩ := s.flags_holdShown p 1 (by decide)
    rw [if_pos held]
    exact ⟨hold, stale, fun _ => holds, fun unheld => absurd held (by simp [unheld])⟩
  · obtain ⟨hold, stale, holds⟩ := s.flags_holdCounted p temp
    obtain ⟨hold', stale', holds'⟩ := (s.holdCounted p temp).flags_syncWd p
    rw [if_neg held]
    refine ⟨hold'.trans hold, stale'.trans stale, fun h => absurd h held, fun _ => ⟨holds'.trans holds, fun acting => ?_⟩⟩
    refine State.wdOpen_syncWd_held ?_ (by rw [hold, Bool.true_or])
    rw [State.acting, State.role, (SyncStep.holdCounted s p temp).get (f := TwStat.role) (by decide) rfl]
    exact acting

/-- Below the limit less the hysteresis it is not. -/
theorem State.thermal_resumes (untripped : trip = false) (cool : temp < (s.get HpTherm.htLimit p : Int) - s.get HpTherm.htHyst p) :
    (s.thermal p temp trip).flag HpTstat.hold p = false ∧ (s.thermal p temp trip).flag HpTstat.stale p = false := by
  rw [s.thermal_eq, if_neg (by simp [untripped]; omega)]
  by_cases out : (s.flag HpTstat.hold p || s.flag HpTstat.stale p) = true
  · obtain ⟨hold, stale, -⟩ := s.flags_holdShown p 0 (by decide)
    obtain ⟨hold', stale', -⟩ := ((s.holdShown p 0).record .htResume p []).flags_syncWd p
    have noted := SyncStep.record (l := []) (s.holdShown p 0) .htResume p []
    rw [if_pos ⟨out, cool⟩]
    exact ⟨hold'.trans ((noted.flag (by decide) rfl).trans hold), stale'.trans ((noted.flag (by decide) rfl).trans stale)⟩
  · rw [if_neg fun h => out h.1, if_neg out]
    simpa using out

/-- Between the two a hold stays, and so does one for want of telemetry. -/
theorem State.thermal_stays (untripped : trip = false) (atMost : temp ≤ (s.get HpTherm.htLimit p : Int))
    (warm : (s.get HpTherm.htLimit p : Int) - s.get HpTherm.htHyst p ≤ temp) :
    (s.thermal p temp trip).flag HpTstat.hold p = (s.flag HpTstat.hold p || s.flag HpTstat.stale p) ∧
    (s.thermal p temp trip).get HpTstat.holds p = s.get HpTstat.holds p := by
  rw [s.thermal_eq, if_neg (by simp [untripped]; omega), if_neg fun h => absurd h.2 (by omega)]
  by_cases out : (s.flag HpTstat.hold p || s.flag HpTstat.stale p) = true
  · obtain ⟨hold, -, holds⟩ := s.flags_holdShown p 1 (by decide)
    rw [if_pos out]
    exact ⟨hold.trans out.symm, holds⟩
  · rw [if_neg out]
    obtain ⟨unheld, present⟩ : s.flag HpTstat.hold p = false ∧ s.flag HpTstat.stale p = false := by simpa using out
    exact ⟨by rw [unheld, present]; rfl, rfl⟩

end

/-! ### What a frame shows (R242, R253, R270) -/

/-- What a telemetry frame shows of the head. -/
abbrev telemFields : List Fld := [HpTstat.temp, HpTelem.vdrive, HpTelem.status, HpStat.eHi, HpStat.timeOk, HpStat.tablesOk]

/-- TIME_OK of the port the head listens to. -/
def timeBitOf (m : Telem) : Nat := if m.portB = true then m.status / 2 % 2 else m.status % 2

/-- The registers of a telemetry frame. -/
def State.telemShown (s : State) (p : Nat) (m : Telem) : State :=
  (((((s.put HpTstat.temp p m.temp).put HpTelem.vdrive p m.vdrive).put HpTelem.status p m.status).put HpStat.eHi p m.eHi).put
    HpStat.timeOk p (if timeBitOf m == 1 then 1 else 0)).put HpStat.tablesOk p (m.status / 4 % 2)

theorem timeBitOf_lt (m : Telem) : timeBitOf m < 2 := by
  unfold timeBitOf
  split <;> omega

section
variable (s : State) (p : Nat) (m : Telem)

theorem SyncStep.telemShown : SyncStep telemFields s (s.telemShown p m) :=
  (((((put s (by decide) (by decide) p _).trans (put _ (by decide) (by decide) p _)).trans (put _ (by decide) (by decide) p _)).trans
    (put _ (by decide) (by decide) p _)).trans (put _ (by decide) (by decide) p _)).trans (put _ (by decide) (by decide) p _)

theorem State.get_telemShown :
    (s.telemShown p m).get HpTstat.temp p = m.temp % 2 ^ 16 ∧ (s.telemShown p m).get HpTelem.vdrive p = m.vdrive % 2 ^ 16 ∧
    (s.telemShown p m).get HpTelem.status p = m.status % 2 ^ 16 ∧ (s.telemShown p m).get HpStat.eHi p = m.eHi % 2 ^ 8 ∧
    (s.telemShown p m).get HpStat.timeOk p = timeBitOf m ∧ (s.telemShown p m).get HpStat.tablesOk p = m.status / 4 % 2 := by
  have bit := timeBitOf_lt m
  have shown : (if timeBitOf m == 1 then 1 else 0) % 2 ^ 1 = timeBitOf m := by
    interval_cases timeBitOf m <;> rfl
  unfold State.telemShown
  refine ⟨?_, ?_, ?_, ?_, ?_, State.get_put_of_lt _ HpStat.tablesOk p (Nat.mod_lt _ (by decide))⟩
  · simp (disch := decide) only [State.get_put_ne, State.get_put_self]; rfl
  · simp (disch := decide) only [State.get_put_ne, State.get_put_self]; rfl
  · simp (disch := decide) only [State.get_put_ne, State.get_put_self]; rfl
  · simp (disch := decide) only [State.get_put_ne, State.get_put_self]; rfl
  · simp (disch := decide) only [State.get_put_ne, State.get_put_self]
    exact shown

end

/-- A telemetry frame has been taken in, before its temperature is judged. -/
structure TelemTaken (p : Nat) (m : Telem) (s u : State) : Prop where
  rest : u = { s with
    regs := u.regs, ev := u.ev, cal := u.cal, pins := u.pins, ff := u.ff, twin := u.twin, fpe := u.fpe, ports := u.ports }
  kept : FieldsKept (only telemFields) s u
  shown : u.get HpTstat.temp p = m.temp % 2 ^ 16 ∧ u.get HpTelem.vdrive p = m.vdrive % 2 ^ 16 ∧
    u.get HpTelem.status p = m.status % 2 ^ 16 ∧ u.get HpStat.eHi p = m.eHi % 2 ^ 8 ∧
    u.get HpStat.timeOk p = timeBitOf m ∧ u.get HpStat.tablesOk p = m.status / 4 % 2
  noted : (u.port p).lFired = m.lFired ∧ (u.port p).telemAt = s.now
  scaled : ∀ d, s.headTable p 2 = some d → (u.port p).wscale = waveScale d (signed 16 m.temp) m.vdrive % 65536
  unscaled : s.headTable p 2 = none → (u.port p).wscale = (s.port p).wscale % 65536
  others : ∀ q, q ≠ p → u.port q = s.port q

theorem TelemTaken.get {p : Nat} {m : Telem} {s u : State} (h : TelemTaken p m s u) {f : Fld} (hf : f ∈ f.reg.fields) {i : Nat}
    (other : only telemFields f i = false) : u.get f i = s.get f i := h.kept _ f i hf other

theorem SyncStep.fireMissed {l : List Fld} (s : State) (p missed : Nat) (ok : Bool) : SyncStep l s (s.fireMissed p missed ok) := by
  unfold State.fireMissed
  dsimp only
  split
  · exact record _ _ _ _
  · exact refl s

/-- What the port notes of a frame, with the waveform scale `k`. -/
def Port.telemNoted (x : Port) (m : Telem) (now k : Nat) : Port :=
  { x with
    wscale := k % 65536, telemAt := now, telemSeen := true, telems := x.telems + 1, missed := m.missed, fired := m.fired
    lFired := m.lFired }

theorem State.telemetry_taken (s : State) (p : Nat) (m : Telem) : ∃ u, TelemTaken p m s u ∧
    s.telemetry p m = (u.thermal p (signed 16 m.temp) (m.status / 32 % 2 == 1)).tryReady p := by
  unfold State.telemetry
  extract_lets temp timeOk trip wasTrip missed listed shown hi twin k noted tripped
  have missedStep : SyncStep telemFields s missed := .fireMissed s p m.missed timeOk
  have trippedStep : SyncStep [] noted tripped := by
    dsimp only [tripped]
    split
    · exact .record _ _ _ _
    · exact .refl _
  have same : shown = missed.telemShown p m := rfl
  clear_value tripped shown missed
  have shownStep : SyncStep telemFields missed shown := same ▸ .telemShown missed p m
  have taken : SyncStep telemFields s shown := missedStep.trans shownStep
  have values := missed.get_telemShown p m
  rw [← same] at values
  have port : noted.port p = (shown.port p).telemNoted m shown.now k := twin.port_mapPort p _
  have others (q : Nat) (other : q ≠ p) : noted.port q = shown.port q := twin.port_mapPort_ne other _
  have scale : k = match shown.headTable p 2 with
    | some d => waveScale d temp m.vdrive
    | none => (shown.port p).wscale := rfl
  have notedOnly : noted = { shown with twin := noted.twin, ports := noted.ports } := rfl
  clear_value noted k
  have ports (q : Nat) : tripped.port q = noted.port q := State.port_congr trippedStep.frame.1 q
  have before (q : Nat) : shown.port q = s.port q := State.port_congr taken.frame.1 q
  have now : shown.now = s.now := by rw [taken.1]
  have table : shown.headTable p 2 = s.headTable p 2 := by
    rw [State.headTable, State.headTable, taken.1]
  have kept : FieldsKept (only []) shown tripped := .trans (.of_regs _ (by rw [notedOnly])) trippedStep.2
  rw [table, before] at scale
  rw [before, now] at port
  refine ⟨tripped, ⟨?_, taken.2.trans (kept.mono (only_mono (by simp))), ?_, ?_, fun d found => ?_, fun none => ?_, fun q other => ?_⟩, rfl⟩
  · rw [trippedStep.1, notedOnly, taken.1]
  · simp only [kept _ HpTstat.temp p (by decide : _ ∈ Reg.hpTstat.fields) rfl, kept _ HpTelem.vdrive p (by decide : _ ∈ Reg.hpTelem.fields) rfl,
      kept _ HpTelem.status p (by decide : _ ∈ Reg.hpTelem.fields) rfl, kept _ HpStat.eHi p (by decide : _ ∈ Reg.hpStat.fields) rfl,
      kept _ HpStat.timeOk p (by decide : _ ∈ Reg.hpStat.fields) rfl, kept _ HpStat.tablesOk p (by decide : _ ∈ Reg.hpStat.fields) rfl]
    exact values
  · rw [ports, port]
    exact ⟨rfl, rfl⟩
  · rw [found] at scale
    rw [ports, port, scale]
    rfl
  · rw [none] at scale
    rw [ports, port, scale]
    rfl
  · rw [ports, others q other, before]

/-- What a telemetry frame may write. -/
abbrev telemetryFields : List Fld :=
  [HpTstat.temp, HpTstat.hold, HpTstat.stale, HpTstat.holdSeen, HpTstat.holds, HpTstat.ovf, HpTelem.vdrive,
    HpTelem.status, HpStat.eHi, HpStat.timeOk, HpStat.tablesOk, HpStat.state, CalStat.state, CalStat.abandoned]

/-- A frame that is taken in is shown, judged against the limits, and may end bring-up. -/
theorem telem_taken (p : Fin 128) (m : Telem) (s : State) (up : s.isUp p.val = true) (good : Rx.good m.rx = true) : ∃ t,
    exec (.telem p m) s = .next t ∧
    t.get HpTstat.temp p.val = m.temp % 2 ^ 16 ∧ t.get HpTelem.vdrive p.val = m.vdrive % 2 ^ 16 ∧
    t.get HpTelem.status p.val = m.status % 2 ^ 16 ∧ t.get HpStat.eHi p.val = m.eHi % 2 ^ 8 ∧
    t.get HpStat.timeOk p.val = (if m.portB = true then m.status / 2 % 2 else m.status % 2) ∧
    t.get HpStat.tablesOk p.val = m.status / 4 % 2 ∧ (t.port p.val).lFired = m.lFired ∧ (t.port p.val).telemAt = s.now ∧
    (∀ d, s.headTable p.val 2 = some d → (t.port p.val).wscale = waveScale d (signed 16 m.temp) m.vdrive % 65536) ∧
    (s.headTable p.val 2 = none → (t.port p.val).wscale = (s.port p.val).wscale % 65536) ∧
    ((m.status / 32 % 2 = 1 ∨ (s.get HpTherm.htLimit p.val : Int) < signed 16 m.temp) → t.flag HpTstat.hold p.val = true ∧
      t.flag HpTstat.stale p.val = false ∧ (s.flag HpTstat.hold p.val = true → t.get HpTstat.holds p.val = s.get HpTstat.holds p.val) ∧
      (s.flag HpTstat.hold p.val = false → t.get HpTstat.holds p.val = satAdd 12 (s.get HpTstat.holds p.val) 1 ∧
        (s.acting = true → t.wdOpen p.val = true))) ∧
    (m.status / 32 % 2 = 0 → signed 16 m.temp < (s.get HpTherm.htLimit p.val : Int) - s.get HpTherm.htHyst p.val →
      t.flag HpTstat.hold p.val = false ∧ t.flag HpTstat.stale p.val = false) ∧
    (m.status / 32 % 2 = 0 → signed 16 m.temp ≤ (s.get HpTherm.htLimit p.val : Int) →
      (s.get HpTherm.htLimit p.val : Int) - s.get HpTherm.htHyst p.val ≤ signed 16 m.temp →
      t.flag HpTstat.hold p.val = (s.flag HpTstat.hold p.val || s.flag HpTstat.stale p.val) ∧
      t.get HpTstat.holds p.val = s.get HpTstat.holds p.val) ∧
    t.sent = s.sent ∧ t.pages = s.pages ∧ t.dram = s.dram ∧ (∀ q, q ≠ p.val → t.port q = s.port q) ∧
    FieldsKept (only telemetryFields) s t := by
  obtain ⟨u, taken, run⟩ := s.telemetry_taken p.val m
  obtain ⟨temp, vdrive, status, eHi, timeOk, tablesOk⟩ := taken.shown
  obtain ⟨lFired, telemAt⟩ := taken.noted
  have step := SyncStep.thermal u p.val (signed 16 m.temp) (m.status / 32 % 2 == 1)
  have limit := taken.get (f := HpTherm.htLimit) (i := p.val) (by decide) rfl
  have hyst := taken.get (f := HpTherm.htHyst) (i := p.val) (by decide) rfl
  have holds := taken.get (f := HpTstat.holds) (i := p.val) (by decide) rfl
  have hold : u.flag HpTstat.hold p.val = s.flag HpTstat.hold p.val := congrArg (· == 1) (taken.get (f := HpTstat.hold) (by decide) rfl)
  have stale : u.flag HpTstat.stale p.val = s.flag HpTstat.stale p.val := congrArg (· == 1) (taken.get (f := HpTstat.stale) (by decide) rfl)
  have role : u.acting = s.acting := by
    rw [State.acting, State.role, taken.get (f := TwStat.role) (by decide) rfl, State.acting, State.role]
  have heats := State.thermal_holds (s := u) (p := p.val) (temp := signed 16 m.temp) (trip := m.status / 32 % 2 == 1)
  have cools := State.thermal_resumes (s := u) (p := p.val) (temp := signed 16 m.temp) (trip := m.status / 32 % 2 == 1)
  have stays := State.thermal_stays (s := u) (p := p.val) (temp := signed 16 m.temp) (trip := m.status / 32 % 2 == 1)
  rw [limit, hold, holds, role] at heats
  rw [limit, hyst] at cools
  rw [limit, hyst, hold, stale, holds] at stays
  have acting : (u.thermal p.val (signed 16 m.temp) (m.status / 32 % 2 == 1)).acting = s.acting := by
    rw [State.acting, State.role, step.get (f := TwStat.role) (by decide) rfl]
    exact role
  generalize u.thermal p.val (signed 16 m.temp) (m.status / 32 % 2 == 1) = v at *
  have last := SyncStep.tryReady v p.val
  have tail : SyncStep (HpStat.state :: thermalFields) u (v.tryReady p.val) := (step.mono (by simp)).trans (last.mono (by simp))
  obtain ⟨ports, sent, -, pages, dram, -⟩ := tail.frame
  have port (q : Nat) : (v.tryReady p.val).port q = u.port q := State.port_congr ports q
  have hold' : (v.tryReady p.val).flag HpTstat.hold p.val = v.flag HpTstat.hold p.val := last.flag (by decide) rfl
  have stale' : (v.tryReady p.val).flag HpTstat.stale p.val = v.flag HpTstat.stale p.val := last.flag (by decide) rfl
  have holds' : (v.tryReady p.val).get HpTstat.holds p.val = v.get HpTstat.holds p.val := last.get (by decide) rfl
  refine ⟨_, congrArg Host.Outcome.next ((upstream_eq up good _).trans run), ?_⟩
  rw [hold', stale', holds', port p.val]
  refine ⟨(tail.get (by decide) rfl).trans temp, (tail.get (by decide) rfl).trans vdrive, (tail.get (by decide) rfl).trans status,
    (tail.get (by decide) rfl).trans eHi, (tail.get (by decide) rfl).trans timeOk, (tail.get (by decide) rfl).trans tablesOk,
    lFired, telemAt, taken.scaled, taken.unscaled, fun hot => ?_, fun untripped cool => cools (by simp [untripped]) cool,
    fun untripped atMost warm => stays (by simp [untripped]) atMost warm, ?_, ?_, ?_, fun q other => (port q).trans (taken.others q other),
    (taken.kept.mono (only_mono (by simp))).trans (tail.2.mono (only_mono (by simp)))⟩
  · obtain ⟨begun, there, held, counted⟩ := heats (hot.imp_left (by simp))
    exact ⟨begun, there, held, fun unheld => (counted unheld).imp_right fun withdrawn acts =>
      State.wdOpen_tryReady (acting.trans acts) begun (withdrawn acts)⟩
  · rw [sent, taken.rest]
  · rw [pages, taken.rest]
  · rw [dram, taken.rest]

/-! ### Upstream messages in error (R253, R257) -/

theorem upstream_down {s : State} {p : Nat} {rx : Rx} (down : s.isUp p = false) (t : State) :
    (.next (if ¬s.isUp p = true then s else if ¬Rx.good rx = true then s.upError p else t) : Ans) = .next s :=
  congrArg Host.Outcome.next (if_pos (by simp [down]))

theorem upstream_bad {s : State} {p : Nat} {rx : Rx} (up : s.isUp p = true) (bad : Rx.good rx = false) (t : State) :
    (.next (if ¬s.isUp p = true then s else if ¬Rx.good rx = true then s.upError p else t) : Ans) = .next (s.upError p) := by
  rw [if_neg (by simp [up]), if_pos (by simp [bad])]

theorem upError_counts (s : State) (p : Nat) :
    (s.upError p).get HpCntUperr.count p = satAdd 31 (s.get HpCntUperr.count p) 1 ∧
    FieldsKept (onlyAt [HpCntUperr.count, HpCntUperr.ovf] p) s (s.upError p) :=
  ⟨s.get_countBy p 1 (by decide) (by decide), .countBy s p 1 (by decide) (by decide) (by simp [onlyAt]) (by simp [onlyAt])
    fun f i h => by simp [onlyAt, h]⟩

theorem upstream_discarded (p : Fin 128) (m : Telem) (a : AckMsg) (h : Hello) (rx : Rx) (i j k : Nat) (l : List Nat) (b : List Byte)
    (s : State) :
    (s.isUp p.val = false → exec (.telem p m) s = .next s ∧ exec (.ack p a) s = .next s ∧ exec (.hello p h) s = .next s ∧
      exec (.echoRsp p rx i j k) s = .next s ∧ exec (.response p rx i j b) s = .next s ∧ exec (.usage p rx i l b) s = .next s ∧
      exec (.mack p rx i j) s = .next s ∧ exec (.headParamReply p rx b) s = .next s) ∧
    (s.isUp p.val = true → ∃ t, t = s.count HpCntUperr.count HpCntUperr.ovf p.val ∧
      t.get HpCntUperr.count p.val = satAdd 31 (s.get HpCntUperr.count p.val) 1 ∧
      FieldsKept (onlyAt [HpCntUperr.count, HpCntUperr.ovf] p.val) s t ∧
      (Rx.good m.rx = false → exec (.telem p m) s = .next t) ∧ (Rx.good a.rx = false → exec (.ack p a) s = .next t) ∧
      (Rx.good h.rx = false → exec (.hello p h) s = .next t) ∧
      (Rx.good rx = false → exec (.echoRsp p rx i j k) s = .next t ∧ exec (.response p rx i j b) s = .next t ∧
        exec (.usage p rx i l b) s = .next t ∧ exec (.mack p rx i j) s = .next t ∧ exec (.headParamReply p rx b) s = .next t)) := by
  constructor
  · intro down
    have stays (r : Rx) (t : State) := upstream_down (rx := r) down t
    exact ⟨stays m.rx _, stays a.rx _, stays h.rx _, stays rx _, stays rx _, stays rx _, stays rx _, stays rx _⟩
  · intro up
    obtain ⟨counted, kept⟩ := upError_counts s p.val
    have counts {r : Rx} (bad : Rx.good r = false) (t : State) := upstream_bad up bad t
    exact ⟨s.upError p.val, rfl, counted, kept, fun bad => counts bad _, fun bad => counts bad _, fun bad => counts bad _,
      fun bad => ⟨counts bad _, counts bad _, counts bad _, counts bad _, counts bad _⟩⟩

/-! ### Lost telemetry (R247) -/

theorem htTelemLost_passed (p : Fin 128) (s : State) (known : s.hpState p.val = hpDown ∨ s.flag HpTstat.stale p.val = true) :
    exec (.htTelemLost p) s = .next s := congrArg Host.Outcome.next (if_pos known)

theorem htTelemLost_marks (p : Fin 128) (s : State) (present : s.hpState p.val ≠ hpDown) (fresh : s.flag HpTstat.stale p.val = false) :
    ∃ t, exec (.htTelemLost p) s = .next t ∧ t.flag HpTstat.stale p.val = true ∧ (s.acting = true → t.wdOpen p.val = true) ∧
    (s.calState = calIdle → Recorded s t .htTelemLost p.val []) ∧ t.ports = s.ports ∧ t.sent = s.sent ∧
    FieldsKept (only [HpTstat.stale, CalStat.state, CalStat.abandoned]) s t := by
  let u : State := (s.put HpTstat.stale p.val 1).record .htTelemLost p.val []
  have marked : SyncStep [HpTstat.stale] s u := (SyncStep.put s (by decide) (by decide) p.val 1).trans (.record _ _ _ _)
  have stale : u.flag HpTstat.stale p.val = true := by
    rw [State.flag, State.get_record _ _ _ _ _ _ (by decide), State.get_put_of_lt _ HpTstat.stale _ (by decide)]
    rfl
  have step : SyncStep [HpTstat.stale, CalStat.state, CalStat.abandoned] s (u.syncWd p.val) :=
    (marked.mono (by simp)).trans ((SyncStep.syncWd u p.val).mono (by simp))
  obtain ⟨ports, sent, -⟩ := step.frame
  refine ⟨_, congrArg Host.Outcome.next (if_neg (by simp [present, fresh])), (u.flags_syncWd p.val).2.1.trans stale, fun acts => ?_,
    fun idle => ?_, ports, sent, step.2⟩
  · refine State.wdOpen_syncWd_held ?_ (by rw [stale, Bool.or_true])
    rw [State.acting, State.role, marked.get (f := TwStat.role) (by decide) rfl]
    exact acts
  · have idle' : u.calState = calIdle := (marked.get (f := CalStat.state) (by decide) rfl).trans idle
    exact (State.syncWd_ev idle' p.val).trans (s.record_ev_put (f := HpTstat.stale) (by decide) p.val 1 .htTelemLost p.val [])

/-! ### HEAT (R272) -/

theorem heat_sends (p : Fin 128) (s : State) (drives : s.mayDrive = true) (up : s.isUp p.val = true) (present : s.hpState p.val ≠ hpDown)
    (wakeful : s.hpState p.val ≠ hpAsleep) (fresh : (s.port p.val).staleEpoch = false) : ∃ t, exec (.heat p) s = .next t ∧
    t.sent = .head p.val 3 [s.get TwStat.epoch 0, 0, s.heaterDuty p.val] :: s.sent ∧ (t.port p.val).lastHeat = s.now ∧
    t = { s with sent := t.sent, ports := t.ports } ∧ (∀ q, q ≠ p.val → t.port q = s.port q) := by
  let u : State := s.sendHead p.val 3 [s.get TwStat.epoch 0, 0, s.heaterDuty p.val]
  refine ⟨_, congrArg Host.Outcome.next (if_pos ⟨drives, up, present, wakeful, by simp [fresh]⟩), rfl, ?_, rfl,
    fun q other => u.port_mapPort_ne other _⟩
  exact congrArg Port.lastHeat (u.port_mapPort p.val _)

theorem heat_withheld (p : Fin 128) (s : State) (barred : s.mayDrive = false ∨ s.isUp p.val = false ∨ s.hpState p.val = hpDown ∨
    s.hpState p.val = hpAsleep ∨ (s.port p.val).staleEpoch = true) : exec (.heat p) s = .next s := by
  refine congrArg Host.Outcome.next (if_neg ?_)
  rintro ⟨drives, up, present, wakeful, fresh⟩
  rcases barred with h | h | h | h | h
  · exact absurd drives (by simp [h])
  · exact absurd up (by simp [h])
  · exact present h
  · exact wakeful h
  · exact fresh h

/-! ### TSYNC (R258) -/

/-- A port's TSYNC: the FT time at which it arrives there. -/
def State.tsyncOut (s : State) (p : Nat) : Out :=
  .head p 1 [(s.ft + s.get HpLdly.dly p / 256) % 2 ^ 40, s.get HpLdly.dly p % 256]

/-- Every awake port of the list is sent its TSYNC, the last one of the list first in what was sent. -/
theorem State.foldl_tsync (l : List Nat) (s : State) :
    l.foldl (fun t p => if t.awake p then t.tsyncPort p else t) s =
      { s with sent := ((l.filter fun p => s.awake p).map s.tsyncOut).reverse ++ s.sent } := by
  induction l generalizing s with
  | nil => rfl
  | cons p l ih =>
    have awake : (s.tsyncPort p).awake = s.awake := rfl
    have out : (s.tsyncPort p).tsyncOut = s.tsyncOut := rfl
    by_cases wakeful : s.awake p = true
    · rw [List.foldl_cons, if_pos wakeful, ih, awake, out, List.filter_cons_of_pos wakeful, List.map_cons, List.reverse_cons,
        List.append_assoc]
      rfl
    · rw [List.foldl_cons, if_neg wakeful, ih, List.filter_cons_of_neg wakeful]

theorem tsync_sends (s : State) : ∃ t, exec .tsync s = .next t ∧ t = { s with sent := t.sent } ∧
    t.sent.length = s.sent.length + ((List.range 128).filter (fun p => s.awake p)).length ∧
    (∀ p, p < 128 → s.awake p = true →
      Out.head p 1 [(s.ft + s.get HpLdly.dly p / 256) % 2 ^ 40, s.get HpLdly.dly p % 256] ∈ t.sent) ∧ s.sent <:+ t.sent := by
  refine ⟨_, congrArg Host.Outcome.next (s.foldl_tsync (List.range 128)), rfl, ?_, fun p bound wakeful => ?_, List.suffix_append _ _⟩
  · rw [List.length_append, List.length_reverse, List.length_map, Nat.add_comm]
  · refine List.mem_append_left _ (List.mem_reverse.mpr (List.mem_map.mpr ⟨p, ?_, rfl⟩))
    exact List.mem_filter.mpr ⟨List.mem_range.mpr bound, wakeful⟩

/-- Settles O39: messages in error are only counted, telemetry is shown and judged against the limits, and HEAT and TSYNC leave. -/
theorem headTelemetry : Obligations.HeadTelemetry := by
  unfold Obligations.HeadTelemetry
  exact ⟨upstream_discarded, telem_taken, htTelemLost_passed, htTelemLost_marks, heat_sends, heat_withheld,
    fun p s held => if_pos held, tsync_sends⟩

end Sys2Proof.Machine
end
